-- ==== Sys2Proof/Word.lean ====
section
/-! DEFINITION. The word types of the OL8 and their plainest arithmetic. -/

namespace Sys2Proof

/-- A register word: every register access is a 32-bit access (R72). -/
abbrev Word := BitVec 32

/-- A byte of memory, of a descriptor or of a packet. -/
abbrev Byte := BitVec 8

end Sys2Proof
end

