-- ==== Sys2Proof/Syntax.lean ====
section
/-! DEFINITION. The commands of the OL8: one constructor per row of the table of operations and events. -/

namespace Sys2Proof

/-- Who issues a register access: the requester ID and the owner tag of R11. -/
structure Req where
  rid : BitVec 8
  tag : BitVec 12
  deriving DecidableEq, Repr

/-- The byte address of a register (R5): domain, page and offset. -/
abbrev RegAddr := BitVec 24

/-- Where a register access goes: to an address of the register space, for requester `r` (R5, R72), or to an offset of
the doorbell and status pages that function `f` of port `p` maps (R396). -/
inductive RegSrc where
  | space (r : Req) (addr : RegAddr)
  | function (p : Fin 2) (f : Fin 16) (o : BitVec 13)
  deriving DecidableEq, Repr

/-- Who makes a register access: a requester in the register space, or a host through the doorbell and status pages that
function `f` of port `p` maps (R396); the offset in those pages is then bits 12:0 of the address. -/
inductive RegVia where
  | space (r : Req)
  | function (p : Fin 2) (f : Fin 16)
  deriving DecidableEq, Repr

/-- A page, by the number of its interrupt line (R94): domain × 16 + page. -/
abbrev PageNo := BitVec 12

/-- The wake events of R20 and R28. -/
inductive WakeSrc where
  /-- a touch panel detects an approach -/
  | approach
  /-- an accepted doorbell write -/
  | doorbell
  /-- an edge on an enabled wake pad -/
  | wakePin
  deriving DecidableEq, Repr

/-- What a reset release concerns (R40). -/
inductive RelTarget where
  | page (p : PageNo)
  | domain (d : BitVec 8)
  deriving DecidableEq, Repr

/-- A configuration request of a host to a function (R393, R396). -/
inductive CfgReq where
  /-- a request that changes nothing that the spec names -/
  | other
  /-- a write of VF Enable and NumVFs of the physical function -/
  | sriov (enable : Bool) (vfs : Fin 16)
  /-- a write of the function's MSI-X Enable and Function Mask -/
  | msix (enable mask : Bool)
  deriving DecidableEq, Repr

/-- An access of a shader to memory through its descriptor heap (R196, R204): a filtered sample of the texture in slot `tex`
by the sampler in slot `smp`, at FP32 coordinates u, v, w and a layer, with the major axis (du, dv) of its footprint, the
lengths of both axes in texels and a reference for a compare; a read of n bytes of a buffer, and a write. -/
inductive ShAct where
  | sample (tex smp : BitVec 16) (u v w : Word) (layer : BitVec 16) (du dv major minor ref : Word)
  | load (slot : BitVec 16) (off : Word) (n : Fin 257)
  | store (slot : BitVec 16) (off : Word) (d : List Byte)
  deriving DecidableEq, Repr

/-- A workgroup that a core retires, with the accesses that its shader made (R196, R204). -/
structure GroupEnd where
  core : Fin 24
  acts : List ShAct
  deriving DecidableEq, Repr

/-- The AER events of R392. -/
inductive AerKind where
  | receiver
  | badTlp
  | badDllp
  | replayRollover
  | replayTimeout
  | poisoned
  | completerAbort
  | unexpected
  | malformed
  | unsupported
  deriving DecidableEq, Repr

/-- The engine whose request a host has not completed (R400): a ring's fetch, or a copy engine with the data of the
reads completed before. -/
inductive CplFor where
  | ring (r : Fin 128)
  | copy (e : Fin 4) (data : List Byte)
  deriving DecidableEq, Repr

/-- What every flit carries beside its payload (R528): the port that receives it, `SEQ`, `ACK`, source and
destination. -/
structure FlitHdr where
  p : Fin 2
  seq : BitVec 16
  ack : BitVec 16
  src : Fin 4
  dst : Fin 4
  deriving DecidableEq, Repr

/-- An entry of a READ_REQ flit (R532): address, space, granules, columns and stride. -/
structure ReadEntry where
  addr : BitVec 40
  pool : Bool
  n : Fin 4
  cols : Fin 4
  stride : BitVec 32
  deriving DecidableEq, Repr

/-- What restarts the secure side (R457). -/
inductive SecureCause where
  | watchdog
  | doubleTrap
  /-- a write of `WORLDS.RESTART` -/
  | request (r : Req)
  | lockstep
  deriving DecidableEq, Repr

/-- Damage that the class K scrub finds (R380, R386): the bank from 96, the word, the cause (0 corrected, 1
uncorrectable, 2 poisoned, 5 address fault) and the syndrome. -/
structure KDamage where
  bank : Fin 7
  word : BitVec 18
  cause : Fin 6
  syn : BitVec 8
  deriving DecidableEq, Repr


/-- A command: a register access, or an event that the device takes. -/
inductive Instr where
  /-- MAIN_SUPPLY_GOOD (R20): Main supplies become good and power-on reset is released, so the device enters LOAD from OFF or BACKUP. -/
  | mainSupplyGood
  /-- VBAK_PRESENT (R20): VBAK appears while the main supplies are absent, so the device enters BACKUP. -/
  | vbakPresent
  /-- MAIN_SUPPLY_LOSS (R20): A main supply is lost, so the device enters BACKUP when VBAK is present and OFF otherwise. -/
  | mainSupplyLoss
  /-- VBAK_LOSS (R20): VBAK is lost while the main supplies are absent, so the device goes from BACKUP to OFF. -/
  | vbakLoss
  /-- SUPPLY_UV (R570): A main supply stays below its UV threshold for 1 µs, which raises SUPPLY_UV with the supply index. -/
  | supplyUv (supply : Fin 16)
  /-- MODE_REQUEST (R24): A write of DEV.MODE.MODE_REQUEST.TARGET starts a mode request check. -/
  | modeRequest (r : Req) (v : Word)
  /-- MODE_REQUEST_CHECK_DONE (R26): The mode request check completes; it accepts or refuses the request, writes RESULT and CHECK, and starts any transition. -/
  | modeRequestCheckDone
  /-- STANDBY_ENTRY_STEP_COMPLETE (R27): A step of STANDBY entry (ULPS, doze, audio stop, self-refresh) completes, and the next step starts or entry ends. -/
  | standbyEntryStepComplete
  /-- WAKE_EVENT (R28): A touch approach, host doorbell or enabled wake pin aborts a STANDBY entry or starts the exit to RUN. -/
  | wakeEvent (src : WakeSrc)
  /-- STANDBY_UNDO_STEP_COMPLETE (R29): An undo step of STANDBY exit or abort completes, and the next undo starts or the device settles in RUN. -/
  | standbyUndoStepComplete
  /-- RESPONSE_DISCARD (R18): A response that returns to an engine whose domain or page is under reset is discarded at the plane's return port and counted. -/
  | responseDiscard (rid : BitVec 8)
  /-- PLL_LOCK (R34): The root PLL locks, reset of the domains is released and Thyme starts at 0 after a COLD reset. -/
  | pllLock
  /-- PLL_LOCK_RETRY (R34): The root PLL has not locked, and after 1 ms of monitor-oscillator time the device retries lock. -/
  | pllLockRetry
  /-- ROOT_LOSS (R35): The monitor count reaches LOSS_THRESH without a reference edge; the monitor declares root loss, asserts COLD reset and writes the first-fault record. -/
  | rootLoss
  /-- MON_OSC_LOSS (R37): No monitor-oscillator edge arrives for 3,072 ticks, so MON_RUN clears and CLK_LOSS is raised. -/
  | monOscLoss
  /-- PLL_UNLOCK (R37): The PLL lock detector drops while the root still toggles, so PLL_UNLOCK is raised. -/
  | pllUnlock
  /-- RELEASE_CLOCK_OK (R40): Clock-ok is seen after a release request, so the block or domain reset is released. -/
  | releaseClockOk (t : RelTarget)
  /-- RELEASE_ABANDONED (R40): Clock-ok is not seen by 12,288 ticks after a release request; the release is abandoned and CLK_NOT_STABLE is raised. -/
  | releaseAbandoned (t : RelTarget)
  /-- DOMAIN_GATE (R41): A write of CLK.DIV.GATE_REQ with GATE = 1 requests gating of a domain and starts its check. -/
  | domainGate (r : Req) (d : BitVec 8)
  /-- DOMAIN_UNGATE (R41): A write of CLK.DIV.GATE_REQ with GATE = 0 requests ungating of a domain and starts its check. -/
  | domainUngate (r : Req) (d : BitVec 8)
  /-- GATE_CHECK_DONE (R42): The gate check completes, writes GATE_RESULT, and gates or ungates the domain, or refuses. -/
  | gateCheckDone
  /-- THYME_LO_READ (R45): A read of THYME_LO returns the low word and snapshots the high word for the same requester. -/
  | thymeLoRead (r : Req)
  /-- LO_SNAPSHOT_READ (R53): A read of the low word of a 64-bit register snapshots its high word for the next read. -/
  | loSnapshotRead (src : RegSrc) (bytes : Nat)
  /-- SLEW_TICK (R46): A slew tick adds 0 or 2 to Thyme to work off SLEW_PENDING. -/
  | slewTick
  /-- PERIOD_BOUNDARY (R50): A boundary of a page's period source ends the open period for increments stamped before it. -/
  | periodBoundary (page : PageNo)
  /-- PERIOD_LATCH_UPDATE (R51): At B + 8 the live counters are copied into the latched view and restart, and PERIOD_SEQ, PERIOD_START and PERIOD_LEN update. -/
  | periodLatchUpdate (page : PageNo)
  /-- ACCOUNTING_BOUNDARY (R58): Thyme reaches ACCT_START + ACCT_LEN; a new accounting period opens, and shares and TEN and CLK.PERIOD commits apply. -/
  | accountingBoundary
  /-- SYNC_IN_EDGE (R60): A selected edge on SYNC_IN is stamped and counted and sets INT_STATUS bit 0. -/
  | syncInEdge (rising : Bool)
  /-- SYNC_OUT_RISE (R61): Thyme reaches the next pulse value and SYNC_OUT rises. -/
  | syncOutRise
  /-- SYNC_OUT_FALL (R61): OUT_WIDTH ticks after a rise, SYNC_OUT falls. -/
  | syncOutFall
  /-- REGISTER_WRITE (R73): A register write to a register with no row of its own is judged by the access rules and takes effect or is dropped. -/
  | registerWrite (via : RegVia) (addr : RegAddr) (v : Word) (bytes : Nat)
  /-- OWNER_WRITE (R76): A write of a page's OWNER is judged and changes the owner, resetting shadows and INT_ENABLE, or is refused. -/
  | ownerWrite (r : Req) (page : PageNo) (v : Word)
  /-- AUTO_COMMIT_WRITE (R89): A write of CTRL.AUTO_COMMIT moves the page into or out of its domain's commit group while the page is disabled. -/
  | autoCommitWrite (r : Req) (page : PageNo) (b : Bool)
  /-- COMMIT_ON_FENCE_WRITE (R92): A write of CTRL.COMMIT_ON_FENCE arms commits on fence, or withdraws a waiting commit when written 0. -/
  | commitOnFenceWrite (r : Req) (page : PageNo) (b : Bool)
  /-- PAGE_QUIESCE (R67): A write of CTRL.QUIESCE requests quiesce of the block, or resumes it when written 0. -/
  | pageQuiesce (r : Req) (page : PageNo) (b : Bool)
  /-- ENABLE (R82): A write of CTRL.ENABLE = 1 captures a candidate and starts the enable check, or cancels a waiting disable. -/
  | enable (r : Req) (page : PageNo)
  /-- DISABLE (R83): A write of CTRL.ENABLE = 0 withdraws pending commits and stops the block at its apply point, or withdraws an enable. -/
  | disable (r : Req) (page : PageNo)
  /-- COMMIT (R84): A write of CTRL.COMMIT captures a candidate and starts a commit check, queues, or waits on a fence. -/
  | commit (r : Req) (page : PageNo)
  /-- ENABLE_CHECK_DONE (R82): The enable check completes; it accepts, copies the SC values and starts the block at the apply point, or refuses. -/
  | enableCheckDone (page : PageNo)
  /-- COMMIT_CHECK_DONE (R85): The commit check completes; it arms the image, superseding an earlier one, or refuses, and a queued commit starts its check. -/
  | commitCheckDone (page : PageNo)
  /-- DISABLE_DRAIN_DONE (R83): The last response of a disabled block returns and IDLE sets. -/
  | disableDrainDone (page : PageNo)
  /-- INT_STATUS_CLEAR (R93): A write of 1 to INT_STATUS bits clears them, and an interrupt line that stays asserted sends another message. -/
  | intStatusClear (r : Req) (page : PageNo) (v : Word)
  /-- INT_FORCE (R93): A write of 1 to INT_FORCE sets the same bits of INT_STATUS. -/
  | intForce (r : Req) (page : PageNo) (v : Word)
  /-- IRQ_DELIVERY (R94): An asserted interrupt line is routed to cores or to a host MSI-X vector, or is held pending when the vector is masked. -/
  | irqDelivery (line : PageNo)
  /-- MSIX_UNMASK (R94): Unmasking an MSI-X vector whose pending bit is set sends the message. -/
  | msixUnmask (port : Fin 2) (fn : Fin 16) (vec : Fin 64)
  /-- IRQ_ROUTE_WRITE (R95): A write of MGT.IRQ.IRQ_ROUTE starts a route check for the selected line. -/
  | irqRouteWrite (r : Req) (v : Word)
  /-- IRQ_ROUTE_CHECK_DONE (R96): The route check completes, and the route takes effect or is refused. -/
  | irqRouteCheckDone
  /-- COEF_DATA_WRITE (R117): A write of COEF_DATA stores a scaler coefficient, or is dropped for a bank in use, and advances TAP. -/
  | coefDataWrite (r : Req) (page : PageNo) (v : Word)
  /-- COEF_DATA_READ (R117): A read of COEF_DATA returns a scaler coefficient and advances TAP. -/
  | coefDataRead (r : Req) (page : PageNo)
  /-- LUT_DATA_WRITE (R128): A write of LUT_DATA stores an output LUT entry, or is dropped for a set in use, and advances INDEX. -/
  | lutDataWrite (r : Req) (page : PageNo) (v : Word)
  /-- LUT_DATA_READ (R128): A read of LUT_DATA returns an output LUT entry and advances INDEX. -/
  | lutDataRead (r : Req) (page : PageNo)
  /-- REFLEX_SET_REQ (R126): A write of REFLEX_CTL.SET_REQ requests that the layer's reflex state be set at the next slack point. -/
  | reflexSetReq (r : Req) (page : PageNo)
  /-- REFLEX_CLEAR_REQ (R126): A write of REFLEX_CTL.CLEAR_REQ requests that the layer's reflex state be cleared at the next slack point. -/
  | reflexClearReq (r : Req) (page : PageNo)
  /-- HEAD_START (R149): An accepted head enable starts the raster at its start tick with a slack point and FRAME_SEQ = 1. -/
  | headStart (h : Fin 8)
  /-- SLACK_POINT (R151): At a head's slack point it updates SLACK_TS and FRAME_SEQ, arbitrates commits, updates reflex, hold and coverage, releases buffers and writes records. -/
  | slackPoint (h : Fin 8)
  /-- HOLD_CMD_CAPTURE (R164): A write of HOLD_CMD.CAPTURE commands capture of the frame after the next slack point. -/
  | holdCmdCapture (r : Req) (h : Fin 8)
  /-- HOLD_CMD_EXIT (R165): A write of HOLD_CMD.EXIT makes the head leave hold at the next slack point. -/
  | holdCmdExit (r : Req) (h : Fin 8)
  /-- LINE_SLOT_START (R153): At the first tick of a line slot the head tests layers for underrun, composes a line, reports latency tolerance and completes region results. -/
  | lineSlotStart (h : Fin 8) (full : BitVec 2) (fifo : BitVec 16)
  /-- LAYER_FETCH_RESPONSE (R153): A layer fetch response returns data, or an error that puts the layer into fallback or stops writeback for display-only data. -/
  | layerFetchResponse (h : Fin 8) (l : Fin 12) (plane : Fin 3) (line : Nat) (gran : Nat)
  /-- BUFFER_RELEASE (R156): A replaced layer buffer is released after its last fetch response, with a release record and the RELEASED bit. -/
  | bufferRelease (h : Fin 8) (l : Fin 12)
  /-- DPHY_CLOCK_LOSS (R147): DPHY_CLK_OK falls while a link is in HS, so the link enters stop state and raises DSI_LINK_ERROR. -/
  | dphyClockLoss (lasts : Nat)
  /-- TIDEPOOL_REGION_CLEAR_DONE (R162): The clear of a freed Tidepool region's granules ends and its CLEAR_BUSY bit clears. -/
  | tidepoolRegionClearDone (region : Fin 32)
  /-- CVU_FEED_START (R183): A write of FEED_CTRL.START opens a fed stream, aborting an open one. -/
  | cvuFeedStart (r : Req) (n : Fin 16)
  /-- CVU_FEED_DATA (R183): A write of FEED_DATA feeds bytes into the open stream, or is dropped when no stream is open. -/
  | cvuFeedData (r : Req) (n : Fin 16) (v : Word)
  /-- CVU_FEED_END (R184): A write of FEED_CTRL.END finishes the fed stream, writes the result, compares it and increments FEED_SEQ. -/
  | cvuFeedEnd (r : Req) (n : Fin 16)
  /-- JOB_DESCRIPTOR_FETCHED (R188): The front end has fetched a job and its pass descriptors and validates them, ending the job unrun if they are invalid. -/
  | jobDescriptorFetched (job : Nat)
  /-- JOB_READY (R213): A validated job's wait fence is met; the job becomes ready with its class and deadline fixed. -/
  | jobReady (job : Nat)
  /-- CORE_DISPATCH (R217): A free eligible core is given the next unit by class, budget and deadline. -/
  | coreDispatch
  /-- DRAW_VALIDATE (R195): The tiler fetches a draw record, validates it and skips it when it is invalid. -/
  | drawValidate (job : Nat) (prims : Nat)
  /-- BIN_HEAP_EXHAUSTED (R198): Binning exhausts the bin heap; the tiler makes an incremental flush, or the pass ends with BIN_OVERFLOW. -/
  | binHeapExhausted (job : Nat) (spill : List (Option Byte))
  /-- TILE_RESOLVE (R200): A core resolves a tile, computes its signature and skips or stores the tile. -/
  | tileResolve (core : Fin 24) (px : List (Option Byte)) (frags : Nat) (acts : List ShAct)
  /-- JOB_END (R189): A job ends; L2 writes back, a job record is written and SIGNAL_FENCE takes its value. -/
  | jobEnd (job : Nat)
  /-- CORE_HANG (R212): A busy core retires nothing for HANG_LIMIT; it raises GFX_CORE_HANG, is cleared, and the job ends with CORE_HANG. -/
  | coreHang (core : Fin 24)
  /-- L2_FLUSH_ALL (R211): A write of L2_CTRL.FLUSH_ALL writes back and invalidates every L2 line while new jobs wait. -/
  | l2FlushAll (r : Req)
  /-- L2_FLUSH_DONE (R211): The L2 flush completes, and FLUSH_ALL reads 0. -/
  | l2FlushDone
  /-- DEADLINE_EVAL (R219): EVAL_INTERVAL expires, or a tile stores, and the scheduler re-evaluates a DEADLINE job and may boost it and request pre-emption. -/
  | deadlineEval (job : Nat)
  /-- PREEMPT_SAVE_DONE (R220): A pre-empted core finishes storing or saving its unit and is free for the boosted job. -/
  | preemptSaveDone (core : Fin 24) (ctx : List Byte)
  /-- PREEMPT_TIMEOUT (R221): A core is not free within the pre-emption bound, so it raises GFX_PREEMPT_TIMEOUT. -/
  | preemptTimeout (core : Fin 24)
  /-- DEADLINE_MISS (R224): A DEADLINE job has not set its fence by T; GFX_DEADLINE_MISS is raised, a miss record is written and the deadline moves. -/
  | deadlineMiss (job : Nat)
  /-- COST_FLUSH (R227): A write of COST_CTRL.FLUSH bit t removes tenancy t's cost-history entries. -/
  | costFlush (r : Req) (mask : BitVec 16)
  /-- COST_FLUSH_ALL (R227): A write of COST_CTRL.FLUSH_ALL removes every cost-history entry. -/
  | costFlushAll (r : Req)
  /-- TOUCH_RESTART (R239): A touch link restart runs HELLO and CONFIG over five slots and negotiates, then starts acquisition or enters DOWN. -/
  | touchRestart (p : Fin 4) (rsps : List (List Byte))
  /-- TOUCH_RESTART_RETRY (R239): 10 ms after a failed or lost link, the next touch restart starts. -/
  | touchRestartRetry (p : Fin 4)
  /-- TOUCH_PANEL_RESTART (R268): A write of PANEL_CMD.RESTART requests a restart at the panel's next apply point. -/
  | touchPanelRestart (r : Req) (p : Fin 4)
  /-- TOUCH_REACQUIRE (R247): A write of PANEL_CMD.REACQUIRE requests acquisition at the next apply point. -/
  | touchReacquire (r : Req) (p : Fin 4)
  /-- TOUCH_DOZE_CMD (R259): A write of PANEL_CMD.DOZE makes the panel enter doze at its next frame. -/
  | touchDozeCmd (r : Req) (p : Fin 4)
  /-- TOUCH_SLOT (R232): A link slot starts a SPI transaction that sends one request and receives the response packet. -/
  | touchSlot (p : Fin 4) (rsp : List Byte)
  /-- TOUCH_FRAME_START (R243): A scan or doze frame starts at its slot −1 tick; the frame grid advances and pending commits apply. -/
  | touchFrameStart (p : Fin 4)
  /-- TOUCH_FRAME_PROCESSED (R246): The engine finishes a frame's correlation, baseline, contact finding and tracking, and writes its report and records. -/
  | touchFrameProcessed (p : Fin 4)
  /-- TOUCH_DOZE_KEEPALIVE (R260): In long doze intervals an IDLE transaction with SYNC = 1 is sent every 24,576,000 ticks. -/
  | touchDozeKeepalive (p : Fin 4) (rsp : List Byte)
  /-- HAPTIC_FRAME (R273): A haptic port frame sends control and drive slots, takes control and sense words, and advances effects, limiter and triggers. -/
  | hapticFrame (p : Fin 2) (rx : List Word)
  /-- HAPTIC_PORT_RESTART (R276): A haptic port restart exchanges HELLO and SELECT words and becomes UP, or enters DOWN. -/
  | hapticPortRestart (p : Fin 2) (rxs : List (List Word))
  /-- HAPTIC_PORT_RESTART_CMD (R297): A write of PORT_CMD.RESTART restarts the haptic port on the next frame. -/
  | hapticPortRestartCmd (r : Req) (p : Fin 2)
  /-- HAPTIC_RESTART_RETRY (R276): 6,144,000 ticks after a failed port restart, the next restart starts. -/
  | hapticRestartRetry (p : Fin 2)
  /-- EFFECT_LOAD (R279): A write of STORE_CMD.LOAD fetches an effect descriptor into a store slot, or is refused. -/
  | effectLoad (r : Req)
  /-- EFFECT_LOAD_DONE (R280): The effect descriptor fetch completes; it is validated and the slot becomes valid, or STORE_RESULT gives the refusal. -/
  | effectLoadDone
  /-- EFFECT_FREE (R279): A write of STORE_CMD.FREE invalidates a store slot that is not in use. -/
  | effectFree (r : Req)
  /-- HAPTIC_TRIGGER_GO (R285): A write of TRIGGER.GO triggers an effect slot on the channel, or the trigger is dropped. -/
  | hapticTriggerGo (r : Req) (c : Fin 8) (slot : Fin 32)
  /-- HAPTIC_TRIGGER_STOP (R287): A write of TRIGGER.STOP moves the playing effect to its brake or ends it and drops a queued effect. -/
  | hapticTriggerStop (r : Req) (c : Fin 8)
  /-- HAP_FAULT_PIN (R292): HAP_FAULT_N goes low and every enabled channel of the port enters FAULT. -/
  | hapFaultPin (p : Fin 2) (low : Bool)
  /-- HAPTIC_FAULT_CLEAR (R292): A write of CHAN_CMD.CLEAR leaves FAULT when the pin, status and port allow it. -/
  | hapticFaultClear (r : Req) (c : Fin 8)
  /-- REFLEX_EVALUATE (R301): The reflex table evaluates a panel frame's contact events against its entries and runs the actions of each match. -/
  | reflexEvaluate
  /-- SAMPLE_BOUNDARY (R305): At each 96 kHz sample boundary the engine steps gain units, starts triggered players and runs the program once. -/
  | sampleBoundary (errs : List (Nat × Nat × Nat))
  /-- AUDIO_BLOCK_MARKER (R305): At each audio block marker commits apply, meters latch, duck rules are evaluated and gain targets change. -/
  | audioBlockMarker
  /-- AUD_PORT_FRAME (R309): A master TDM port starts a frame on its Thyme-aligned tick and moves its slots. -/
  | audPortFrame (p : Fin 4) (slots : List Nat)
  /-- AUD_FS_EDGE (R313): A slave port receives an FS edge, updates its rate estimate and lock state and checks the frame's bit count. -/
  | audFsEdge (p : Fin 4) (n : Nat) (slots : List Nat)
  /-- AUD_CLOCK_LOSS (R313): No FS edge arrives for 4 × F_T, so the port enters NO_CLOCK, raises AUDIO_PORT_CLOCK and writes a record. -/
  | audClockLoss (p : Fin 4)
  /-- BANK_LOAD (R320): A write of BANK_CMD.LOAD fetches a program image into the inactive bank. -/
  | bankLoad (r : Req)
  /-- BANK_LOAD_DONE (R321): The bank image has arrived; it is checked and LOAD_RESULT is written. -/
  | bankLoadDone
  /-- BANK_INVALIDATE (R334): A write of BANK_CMD.INVALIDATE invalidates the inactive bank, or is refused during a swap. -/
  | bankInvalidate (r : Req)
  /-- FADE_TIMEOUT (R324): FADE_TIMEOUT samples pass in a fade phase, and the units are forced to their end gains. -/
  | fadeTimeout
  /-- PLAYER_PRELOAD_DONE (R327): The head-buffer frames of a player arrive and PRELOADED sets. -/
  | playerPreloadDone (p : Fin 16)
  /-- TRIG_FIRE (R329): A write of TRIG_FIRE.GO starts a trigger line's player at the next sample, or the start is dropped. -/
  | trigFire (r : Req) (line : Fin 64)
  /-- ASRC_COEF_READ (R315): A read of ASRC_COEF returns a converter coefficient and advances TAP. -/
  | asrcCoefRead (r : Req)
  /-- DRAM_REQUEST (R346): A request reaches the DRAM controller, takes its service class, and queues, waits on a sweep, or waits at its plane port. -/
  | dramRequest (rid : BitVec 8) (tag : BitVec 12) (stream : Nat) (addr : BitVec 40) (write layer : Bool) (bytes : Nat) (data : List Byte)
  /-- DRAM_READ_DATA (R341): Read data returns; each word is decoded, corrected, written back or reported uncorrectable. -/
  | dramReadData (ch : Fin 8) (skip : Nat)
  /-- AGE_PROMOTION (R348): A queued request reaches its class age limit and is promoted to ISO priority. -/
  | agePromotion (ch : Fin 8)
  /-- DRAM_REFRESH (R337): A per-bank refresh falls due and is issued, at the latest when eight are postponed. -/
  | dramRefresh (ch : Fin 8) (rank : Fin 2) (bank : Fin 16) (postpone : Bool)
  /-- MR4_READ (R337): Every 614,400 ticks the controller reads MR4 and sets the refresh interval. -/
  | mr4Read (ch : Fin 8) (code : Fin 8)
  /-- POWER_DOWN_ENTRY (R350): A rank idle for PD_IDLE ticks enters power-down. -/
  | powerDownEntry (ch : Fin 8) (rank : Fin 2)
  /-- SELF_REFRESH_ENTRY (R351): An idle channel with enough latency tolerance does an all-bank refresh and enters self-refresh. -/
  | selfRefreshEntry (ch : Fin 8)
  /-- SELF_REFRESH_EXIT (R351): A wake condition makes a channel exit self-refresh and serve from SR_EXIT later. -/
  | selfRefreshExit (ch : Fin 8)
  /-- OSC_TRACKING (R353): WCK-to-DQ oscillator tracking falls due and runs when T_MIN allows. -/
  | oscTracking (ch : Fin 8)
  /-- DRAM_TRAINING_DONE (R354): Training of a channel completes to READY, or fails with DRAM_TRAIN_FAIL. -/
  | dramTrainingDone (ch : Fin 8) (fail : Option (Fin 7))
  /-- SWEEP_GRANULE_DONE (R356): A granule is swept; waiting requests are served and the next granule starts, or DONE sets with a record. -/
  | sweepGranuleDone (q : Fin 128)
  /-- DRAM_CMD_ERROR (R357): A command mismatches its independent copy; DRAM_CMD_ERROR is raised, the block is poisoned or the command reissued. -/
  | dramCmdError (ch : Fin 8) (serves again : Bool)
  /-- ECC_INJECT (R362): A write of INJ_CTL arms an error injection on the next write of a word. -/
  | eccInject (r : Req) (v : Word)
  /-- CONVERSION_SWEEP_DONE (R371): The conversion sweep has re-encoded every class S bank and CONVERT_STATE.DONE sets. -/
  | conversionSweepDone
  /-- AUDIT_ROUND_START (R378): An audit round falls due every AUDIT_PERIOD, or starts late after an overrun. -/
  | auditRoundStart
  /-- AUDIT_PASS_DONE (R378): Both audit phases of a bank complete and the audit moves to the next bank. -/
  | auditPassDone
  /-- K_SCRUB_STEP (R380): Every K_SCRUB_STEP ticks one class K word is read, corrected or poisoned. -/
  | kScrubStep (found : Option KDamage)
  /-- DRAM_SCRUB_STEP (R381): SCRUB_STEP ticks after the last response, the DRAM scrub reads its next block. -/
  | dramScrubStep
  /-- BULK_CLEAR_DONE (R374): A bulk clear of a bank completes and the bank accepts access again. -/
  | bulkClearDone (bank : Fin 128)
  /-- BUCKET_LEAK (R384): A bucket's leak falls due and its level decrements. -/
  | bucketLeak (b : Fin 10)
  /-- LOG_POP (R391): A write of LOG_POP removes the oldest error-log entry. -/
  | logPop (r : Req)
  /-- PERST_RELEASE (R393): PERST# of a port is released and the port answers with CRS until ready. -/
  | perstRelease (p : Fin 2)
  /-- PORT_READY_TIMEOUT (R393): 90 ms after PERST# release the port enables itself from the option records if Sharen has not. -/
  | portReadyTimeout (p : Fin 2)
  /-- PCIE_CONFIG_REQUEST (R393): A configuration request arrives and is answered, with Retry Status while the port is not ready. -/
  | pcieConfigRequest (p : Fin 2) (f : Fin 16) (c : CfgReq)
  /-- PCIE_LINK_DOWN (R394): A PCIe link goes down; outbound requests fail, inbound ones are discarded and every function is treated as reset. -/
  | pcieLinkDown (p : Fin 2)
  /-- PCIE_AER_EVENT (R394): An AER error raises PCIE_AER with the header logged. -/
  | pcieAerEvent (p : Fin 2) (k : AerKind) (hdr : BitVec 128)
  /-- DOORBELL (R397): A write of DOORBELL_r sets a ring's write index, is dropped, or puts the ring in ERROR. -/
  | doorbell (p : Fin 2) (f : Fin 16) (ring : Fin 128) (wr : BitVec 16)
  /-- JOURNAL_RD_WRITE (R397): A write of JOURNAL_RD advances the tenancy's journal read index. -/
  | journalRdWrite (p : Fin 2) (f : Fin 16) (rd : BitVec 16)
  /-- BAR4_ACCESS (R399): A manager BAR4 access is mapped to DRAM or the Tidepool and checked against the ownership table. -/
  | bar4Access (off : BitVec 36) (write : Bool) (n : Nat) (data : List Byte)
  /-- CPL_TIMEOUT (R400): An outbound non-posted request has no completion after CPL_TIMEOUT and receives an error response. -/
  | cplTimeout (p : Fin 2) (c : CplFor)
  /-- FUNCTION_LEVEL_RESET (R428): A Function Level Reset quiesces and instance-resets the tenancy, then resets the function. -/
  | functionLevelReset (p : Fin 2) (f : Fin 16)
  /-- RING_HEADER_FETCHED (R404): A starting ring's header is read and negotiated, and the ring becomes RUNNING or ERROR. -/
  | ringHeaderFetched (ring : Fin 128) (data : Option (BitVec 512))
  /-- RING_DESCRIPTOR_FETCHED (R410): A ring descriptor is fetched and validated; an invalid one puts the ring in ERROR with a record. -/
  | ringDescriptorFetched (ring : Fin 128) (data : Option (BitVec 512))
  /-- RING_STOPPED (R405): A ring with RUN = 0 becomes STOPPED when its issued descriptors complete. -/
  | ringStopped (ring : Fin 128)
  /-- NOP (R406): A NOP descriptor is issued and completes at once. -/
  | nop (ring : Fin 128)
  /-- RENDER (R406): A RENDER descriptor passes a job to the front end when it has room. -/
  | render (ring : Fin 128)
  /-- COPY (R406): A COPY descriptor is queued on a copy engine when there is room. -/
  | copy (ring : Fin 128)
  /-- FENCE_SIGNAL (R411): A FENCE_SIGNAL descriptor, after earlier descriptors complete, sets a fence and releases its waiters. -/
  | fenceSignal (ring : Fin 128)
  /-- FENCE_WAIT (R406): A FENCE_WAIT descriptor is issued when the fence reaches its value. -/
  | fenceWait (ring : Fin 128)
  /-- REGS (R407): A REGS descriptor performs register accesses under the ring owner's tag and writes results. -/
  | regs (ring : Fin 128)
  /-- HAPTIC (R406): A HAPTIC descriptor triggers or stops an effect on a channel. -/
  | haptic (ring : Fin 128)
  /-- AUDIO_GAIN (R406): An AUDIO_GAIN descriptor sets a gain unit's target at the next marker. -/
  | audioGain (ring : Fin 128)
  /-- EARCON (R406): An EARCON descriptor starts a trigger line. -/
  | earcon (ring : Fin 128)
  /-- DESCRIPTOR_COMPLETE (R408): A descriptor completes and writes a DESCRIPTOR record when JOURNAL is set. -/
  | descriptorComplete (ring : Fin 128)
  /-- COPY_START (R414): A free copy engine starts the oldest queued descriptor of the tenancy with the smallest key. -/
  | copyStart (e : Fin 4)
  /-- COPY_COMPLETE (R413): A copy ends normally or at a bus error, with its status. -/
  | copyComplete (e : Fin 4) (data : List Byte)
  /-- JOURNAL_RECORD_WRITE (R418): The journal writer writes a queued record and WR, or loses it and later writes JOURNAL_LOSS. -/
  | journalRecordWrite (t : Fin 16)
  /-- JOURNAL_HOLDOFF_END (R420): The journal holdoff ends and a withheld MSI-X message is sent when records remain unread. -/
  | journalHoldoffEnd (t : Fin 16)
  /-- TENANCY_QUIESCE (R425): A write of TEN_t.CTRL.QUIESCE = 1 stops the tenancy's rings, dispatch and unstarted copies. -/
  | tenancyQuiesce (r : Req) (t : Fin 16)
  /-- TENANCY_QUIESCE_TIMEOUT (R425): QUIESCE_TIMEOUT expires and the tenancy's running copies and render work are purged. -/
  | tenancyQuiesceTimeout (t : Fin 16) (done : List (Nat × List Byte))
  /-- TENANCY_QUIESCED (R425): No work or response of the tenancy remains; QUIESCED sets and a QUIESCE record is written. -/
  | tenancyQuiesced (t : Fin 16)
  /-- TENANCY_RESUME (R426): A write of QUIESCE = 0 clears QUIESCED and rings resume issue. -/
  | tenancyResume (r : Req) (t : Fin 16)
  /-- INSTANCE_RESET (R427): A write of TEN_t.CTRL.BLOCK_RESET resets the quiesced tenancy's rings, fences, history, L2 lines and journal. -/
  | instanceReset (r : Req) (t : Fin 16)
  /-- INSTANCE_RESET_DONE (R427): The instance reset completes and BLOCK_RESET reads 0. -/
  | instanceResetDone (t : Fin 16)
  /-- CTX_WRITE (R433): The secure world writes a service core's context and tag. -/
  | ctxWrite (r : Req) (c : Fin 3) (v : Word)
  /-- POT_WRITE (R440): A write of POT_CMD.WRITE starts changing a range of ownership-table entries, or is refused. -/
  | potWrite (r : Req)
  /-- POT_WRITE_DONE (R441): The entries are written and cached copies replaced, waiting requests are judged and OWNERSHIP_CHANGE records are written. -/
  | potWriteDone
  /-- POT_READ (R441): A write of POT_CMD.READ returns an ownership-table entry in POT_READ_VALUE. -/
  | potRead (r : Req)
  /-- BUILD (R446): COVE_CMD BUILD takes a Cove from FREE to BUILDING. -/
  | build (r : Req) (n : Fin 64)
  /-- SEAL (R446): COVE_CMD SEAL takes a Cove from BUILDING to SEALED. -/
  | seal (r : Req) (n : Fin 64)
  /-- DESTROY (R446): COVE_CMD DESTROY takes a Cove to CLEARING and starts clearing its ranges. -/
  | destroy (r : Req) (n : Fin 64)
  /-- COVE_CLEAR_DONE (R447): The Cove's ranges are cleared, become invalid and the Cove becomes FREE. -/
  | coveClearDone (n : Fin 64)
  /-- EXTEND (R449): A write of EXTEND_CMD extends a measurement register with SHA-384, or is refused. -/
  | extend (r : Req) (t : BitVec 7)
  /-- MAILBOX_POST (R455): The channel owner writes POST; BUSY sets, the post is stamped and the secure line is asserted. -/
  | mailboxPost (r : Req) (k : Fin 4)
  /-- MAILBOX_DONE (R455): The secure world writes DONE; BUSY clears and a MAILBOX_DONE record is written. -/
  | mailboxDone (r : Req) (k : Fin 4)
  /-- SECURE_RESTART (R458): A watchdog, double trap, RESTART write or lockstep reaction restarts the secure side. -/
  | secureRestart (c : SecureCause)
  /-- SECURE_RESTART_RESUME (R459): The secure world resumes; stalled cores trap, busy mailboxes are answered and a SECURE_RESTART record is written. -/
  | secureRestartResume (digest : BitVec 384)
  /-- WATCHDOG_KICK (R462): A core writes 0x4B49 to its WD_KICK and restarts its watchdog. -/
  | watchdogKick (r : Req) (c : Fin 4) (v : Word)
  /-- WATCHDOG_EXPIRY (R462): A watchdog expires and raises WATCHDOG[c]. -/
  | watchdogExpiry (c : Fin 4)
  /-- CORE_RUN (R463): A write of CORE_CTRL.RUN = 1 releases a service core at BOOT_ADDR. -/
  | coreRun (r : Req) (c : Fin 4)
  /-- CORE_HALT (R463): A write of CORE_CTRL.RUN = 0 holds a service core in reset. -/
  | coreHalt (r : Req) (c : Fin 4)
  /-- MACHINE_TIMER (R463): Thyme reaches MTIMECMP and the core's machine-timer interrupt becomes pending. -/
  | machineTimer (c : Fin 4)
  /-- FAULT_HIT (R469): A source hit reaches its domain aggregator; it counts, sets RAISED and queues the source unless already pending. -/
  | faultHit (src : Fin 383) (arg : BitVec 16) (acc : Fin 5) (r : Req) (addr : BitVec 40)
  /-- FAULT_ACCEPT (R475): The collector accepts an event; it captures or merges it, starts reactions and writes a FAULT record. -/
  | faultAccept
  /-- FAULT_BLOCK_RESET_RELEASE (R473): The 3,072-tick hold of a B reaction ends and the domain is released. -/
  | faultBlockResetRelease
  /-- MASKING_WINDOW_END (R477): 64 ticks after the release, the B reaction and its masking end. -/
  | maskingWindowEnd
  /-- BUS_TIMEOUT (R471): An access to a domain gets no answer within BUS_TIMEOUT, so it completes with an error and raises BUS_TIMEOUT[d]. -/
  | busTimeout (d : BitVec 8) (acc : Fin 5) (r : Req) (addr : BitVec 40)
  /-- NMI_ACK (R480): A core writes its NMI_ACK bit, and the N reaction ends when all targets have acknowledged. -/
  | nmiAck (r : Req) (v : Word)
  /-- RELEASE (R473): A write of PIN_CTRL.RELEASE ends every P reaction and releases FAULT_N. -/
  | release (r : Req)
  /-- INJECT (R480): A write of INJECT.GO raises a source as a hit of its detector. -/
  | inject (r : Req) (v : Word)
  /-- SELF_INJECT (R483): A write of SELF_INJECT with 0x5AFE forces a collector mismatch and the safe state. -/
  | selfInject (r : Req) (v : Word)
  /-- COLLECTOR_SELF_FAULT (R483): The collector's duplicated state mismatches, so the device enters SAFE at once. -/
  | collectorSelfFault (word : BitVec 14)
  /-- SAFE_ENTRY (R484): The device enters SAFE: heads stop, outputs are quietened and FAULT_N goes low. -/
  | safeEntry
  /-- SAFE_TRANSITION_DONE (R484): The last action of safe entry completes; IN_TRANSITION clears and MODE_TS is stamped. -/
  | safeTransitionDone
  /-- SLOT_CLEAR (R481): A write of SLOT_CLEAR invalidates idle capture slots. -/
  | slotClear (r : Req) (v : Word)
  /-- RESET_N_PIN (R491): RESET_N held low past the glitch filter asserts reset source 2. -/
  | resetNPin (low : Bool)
  /-- SW_RESET_WARM (R496): A write of SW_RESET with LEVEL = WARM and the key asserts source 4. -/
  | swResetWarm (r : Req)
  /-- SW_RESET_COLD (R496): A write of SW_RESET with LEVEL = COLD and the key asserts source 3. -/
  | swResetCold (r : Req)
  /-- DEBUG_RESET (R491): An authorised JTAG reset request asserts source 6. -/
  | debugReset
  /-- BOOT_TIMEOUT (R491): BOOT lasts BOOT_LIMIT ms without RUN, which asserts source 7. -/
  | bootTimeout
  /-- PERST_ASSERT (R491): PERST# of a port asserts, which resets its HOST domain. -/
  | perstAssert (p : Fin 2)
  /-- HOT_RESET (R491): Hot Reset or Link Disable received on a port resets its HOST domain. -/
  | hotReset (p : Fin 2)
  /-- COLD_RESET (R494): A COLD reset asserts; outputs are quietened, DRAM_RESET_N falls and the count and cause are written. -/
  | coldReset (src : Fin 14)
  /-- WARM_RESET (R494): A WARM reset asserts; outputs are quietened, DRAM enters self-refresh and the count and cause are written. -/
  | warmReset (src : Fin 14)
  /-- CHIP_RESET_RELEASE (R494): After at least 8,192 ticks with no source asserted, the reset is released into LOAD or BOOT. -/
  | chipResetRelease
  /-- DOMAIN_RESET_REQUEST (R497): A write of DOMAIN_REQ.GO requests a DOMAIN reset, judged within 96 ticks. -/
  | domainResetRequest (r : Req) (d : BitVec 8)
  /-- DOMAIN_RESET_RELEASE (R497): The 3,072-tick DOMAIN reset hold ends and the domain is released. -/
  | domainResetRelease (d : BitVec 8)
  /-- BLOCK_RESET (R498): A write of CTRL.BLOCK_RESET by the owner starts a BLOCK reset, or is refused. -/
  | blockReset (r : Req) (page : PageNo)
  /-- BLOCK_RESET_DONE (R498): The BLOCK reset completes, the page reads its reset values and a RESET record is written. -/
  | blockResetDone (page : PageNo)
  /-- OPTION_LOAD_DONE (R503): The loader finishes reading OTP and applies options, fuses and the pin map, or the load fails. -/
  | optionLoadDone (readErr : Bool)
  /-- OPTION_LOAD_RETRY (R504): 6,144 ticks after a failed load, a new load starts, or the third failure enters RECOVERY. -/
  | optionLoadRetry
  /-- BIST_DONE (R503): The built-in memory test ends and the tested banks are bulk-cleared. -/
  | bistDone
  /-- RCV_GO (R506): A write of RCV_CTRL.GO in RECOVERY starts verification of the host-loaded image. -/
  | rcvGo (r : Req) (size : BitVec 16)
  /-- RECOVERY_VERIFY_DONE (R506): The recovery image verification ends: the image runs, or RCV_STATE reads refused. -/
  | recoveryVerifyDone (ok : Bool)
  /-- PROGRAM (R507): A write of OTP_CMD.PROGRAM with the key programs one OTP word, or is refused. -/
  | program (r : Req)
  /-- OTP_PROGRAM_DONE (R507): The program pulse ends and the read-back verifies the word or raises OTP_WRITE_FAIL. -/
  | otpProgramDone (fail : Word)
  /-- READ (R509): A write of OTP_CMD.READ reads an OTP word into OTP_DATA. -/
  | read (r : Req)
  /-- CLEAR_FF (R516): A write of BK_CMD.CLEAR_FF invalidates the first-fault record. -/
  | clearFf (r : Req)
  /-- ALIVE_TOGGLE (R518): Every 307,200 ticks in RUN and STANDBY, ALIVE changes level. -/
  | aliveToggle
  /-- TMB_PORT_RESTART (R526): A Tombolo port restart trains lanes, sends HELLO and negotiates. -/
  | tmbPortRestart (p : Fin 2)
  /-- TMB_RESTART_CMD (R543): A write of PORT_CMD.RESTART restarts the Tombolo port. -/
  | tmbRestartCmd (r : Req) (p : Fin 2)
  /-- TMB_RESTART_TIMEOUT (R526): Block lock or UP is not reached in time, so the restart fails with DOWN_CAUSE 1. -/
  | tmbRestartTimeout (p : Fin 2)
  /-- TMB_RESTART_RETRY (R526): 6,144,000 ticks after DOWN with AUTO_RESTART or after a failure, the port restarts. -/
  | tmbRestartRetry (p : Fin 2)
  /-- TMB_FLIT_SLOT (R529): Each 65-tick slot the port sends the highest-priority flit, or IDLE. -/
  | tmbFlitSlot (p : Fin 2)
  /-- TMB_CHECK_FAIL (R529): A received flit fails its check; TOMBOLO_CHECK is raised and a NAK is sent. -/
  | tmbCheckFail (p : Fin 2)
  /-- IDLE (R528): An IDLE flit is received and keeps the link alive. -/
  | idle (x : FlitHdr)
  /-- HELLO (R526): A HELLO flit is received and negotiated, making the port UP or DOWN. -/
  | hello (p : Fin 2) (min max : Byte) (feat : BitVec 16) (idx : Fin 4) (n : Fin 5) (master : Bool) (chosen : Byte)
  /-- TMB_TIME (R539): A TIME flit is received; the follower computes offset and delay, slews or steps Thyme and answers with TIME_ECHO. -/
  | tmbTime (x : FlitHdr) (t1 t4 t3 : BitVec 64)
  /-- TIME_ECHO (R539): A TIME_ECHO flit is received and stamped for the next TIME. -/
  | timeEcho (x : FlitHdr) (t1 t3 : BitVec 64)
  /-- READ_REQ (R532): A READ_REQ flit is received and its entries are issued as remote layer fetches. -/
  | readReq (x : FlitHdr) (tag : BitVec 16) (es : List ReadEntry)
  /-- READ_DATA (R532): A READ_DATA flit is received and completes a remote read with data or an error. -/
  | readData (x : FlitHdr) (tag : BitVec 16) (status : Byte) (n : Fin 4) (data : List Byte)
  /-- WRITE (R536): A WRITE flit is received and writes mirrored data, or is refused and counted. -/
  | write (x : FlitHdr) (addr : BitVec 40) (pool : Bool) (data : List Byte)
  /-- MAILBOX (R541): A MAILBOX flit is received into RX_k and RX_FULL sets. -/
  | mailbox (x : FlitHdr) (k : Fin 2) (ws : List Word)
  /-- MB_CREDIT (R541): An MB_CREDIT flit is received and restores the channel's CREDIT. -/
  | mbCredit (x : FlitHdr) (k : Fin 2)
  /-- HEARTBEAT (R530): A HEARTBEAT flit is received and marks its device alive. -/
  | heartbeat (x : FlitHdr) (mode flags : Byte) (thyme : BitVec 64)
  /-- LAT (R535): A LAT flit is received and its deadline is reported to the DRAM controller. -/
  | lat (x : FlitHdr) (deadline : BitVec 64)
  /-- RESET (R540): A RESET flit from the master with the key asserts reset source 8; otherwise it is dropped. -/
  | reset (x : FlitHdr) (key : BitVec 16)
  /-- NAK (R529): A NAK flit is received and the sender replays from the named SEQ, or enters DOWN after 16. -/
  | nak (p : Fin 2) (ack seq : BitVec 16)
  /-- TMB_LINK_SILENCE (R530): An UP port receives no good flit for 2,458 ticks and enters DOWN. -/
  | tmbLinkSilence (p : Fin 2)
  /-- HEARTBEAT_SEND (R530): Every HB_PERIOD ticks a HEARTBEAT is queued for each other device. -/
  | heartbeatSend
  /-- PEER_LOST (R530): No heartbeat from a device for HB_TIMEOUT periods declares it lost, with failover and PEER records. -/
  | peerLost (j : Fin 4)
  /-- REMOTE_READ_TIMEOUT (R532): A remote read has no answer within 61,440 ticks and the layer falls back with cause 3. -/
  | remoteReadTimeout
  /-- MIRROR_RESYNC_DONE (R537): A mirror's resend reaches the end of the range and the entry becomes LIVE. -/
  | mirrorResyncDone (m : Fin 4)
  /-- TIME_EXCHANGE_SEND (R539): Every EXCH_PERIOD ticks the upstream neighbour sends TIME. -/
  | timeExchangeSend (p : Fin 2)
  /-- REMOTE_RESET_GO (R543): The master's secure world writes REMOTE_RESET.GO and a RESET flit is sent. -/
  | remoteResetGo (r : Req) (v : Word)
  /-- TMB_MB_POST (R541): A write of MB_CMD.POST sends a MAILBOX flit when CREDIT allows. -/
  | tmbMbPost (r : Req) (k : Fin 2)
  /-- RX_DONE (R541): A write of MB_CMD.RX_DONE clears RX_FULL and returns a credit. -/
  | rxDone (r : Req) (k : Fin 2)
  /-- WAKE_PIN_EDGE (R560): An edge on a WAKE pad in STANDBY is a wake event. -/
  | wakePinEdge (g : Fin 32) (rising : Bool)
  /-- GPIO_SET (R561): A write of GPIO_SET sets bits of OUT. -/
  | gpioSet (r : Req) (v : Word)
  /-- GPIO_CLR (R561): A write of GPIO_CLR clears bits of OUT. -/
  | gpioClr (r : Req) (v : Word)
  /-- BC_XFER (R564): A write of BC_XFER.GO starts an I2C or I3C transfer, or is dropped. -/
  | bcXfer (r : Req) (n : Fin 2) (v : Word)
  /-- ENTDAA (R564): CCC code 0x07 runs I3C dynamic address assignment. -/
  | entdaa (n : Fin 2) (targets : List (BitVec 48 × Byte × Byte))
  /-- BC_TRANSFER_DONE (R564): A board-controller transfer ends with its RESULT and sets DONE. -/
  | bcTransferDone (n : Fin 2) (res : Fin 5) (data : List Byte)
  /-- BC_STRETCH_TIMEOUT (R564): A target holds SCL low for 25 ms, so the transfer ends with RESULT 3. -/
  | bcStretchTimeout (n : Fin 2)
  /-- BC_IBI (R564): A target requests an in-band interrupt; it is acknowledged and queued, or refused with NACK. -/
  | bcIbi (n : Fin 2) (addr : BitVec 7) (mdb : Byte)
  /-- BC_TXDATA (R563): A write of BC_TXDATA pushes a byte into the transmit FIFO. -/
  | bcTxdata (r : Req) (n : Fin 2) (v : Word)
  /-- BC_RXDATA (R563): A read of BC_RXDATA pops a byte of the receive FIFO. -/
  | bcRxdata (r : Req) (n : Fin 2)
  /-- BC_IBI_POP (R563): A read of BC_IBI pops an in-band interrupt entry. -/
  | bcIbiPop (r : Req) (n : Fin 2)
  /-- XSPI_CMD (R565): A write of XSPI_CMD.GO runs one boot-flash command. -/
  | xspiCmd (r : Req) (v : Word)
  /-- XSPI_CMD_DONE (R565): A boot-flash command completes and CMD_DONE sets. -/
  | xspiCmdDone (data : List Byte)
  /-- DMA_CMD (R565): A write of DMA_CMD.GO reads flash into memory. -/
  | dmaCmd (r : Req) (v : Word)
  /-- XSPI_DMA_DONE (R565): The flash transfer completes or stops on an error response. -/
  | xspiDmaDone (data : List Byte)
  /-- XSPI_TXDATA (R565): A write of XSPI_TXDATA pushes 4 bytes into the transmit FIFO. -/
  | xspiTxdata (r : Req) (v : Word)
  /-- XSPI_RXDATA (R565): A read of XSPI_RXDATA pops 4 bytes of the receive FIFO. -/
  | xspiRxdata (r : Req)
  /-- EXTEST (R566): JTAG instruction EXTEST drives and samples pins through the boundary scan, or acts as BYPASS when locked. -/
  | extest (tdi : BitVec 304)
  /-- IDCODE (R567): JTAG instruction IDCODE selects the 32-bit identification register. -/
  | idcode
  /-- SAMPLE_PRELOAD (R566): JTAG instruction SAMPLE/PRELOAD captures and preloads the boundary scan. -/
  | samplePreload (tdi : BitVec 304)
  /-- DEBUG (R566): JTAG instruction DEBUG selects the debug access port. -/
  | debug
  /-- BYPASS (R566): JTAG instruction BYPASS selects the 1-bit bypass register. -/
  | bypass
  /-- THERMAL_SAMPLE (R580): Every 61,440 ticks each sensor is sampled, raising THERMAL_WARN or THERMAL_TRIP when thresholds are met. -/
  | thermalSample (t0 t1 t2 t3 : BitVec 16)
  /-- TMB_BLOCK_LOCK (R526): The receiver of a training Tombolo port gains block lock and deskew on all four lanes, and the port moves from TRAINING to NEGOTIATING and starts sending HELLO. -/
  | tmbBlockLock (p : Fin 2)
  /-- WORKGROUP_RETIRED (R219): A shader core retires a compute workgroup, which updates the job's done count, triggers its DEADLINE evaluation and frees the core for dispatch. -/
  | workgroupRetired (w : GroupEnd)
  /-- PASS_BINNED (R197): The tiler finishes binning a render pass, so its tiles become queueable for cores once the previous pass's dependency is met. -/
  | passBinned (job : Nat)
  /-- PAGE_QUIESCE_DONE (R68): A block whose quiesce was requested finishes draining and STATUS.QUIESCED sets, which a later BLOCK reset requires. -/
  | pageQuiesceDone (page : PageNo)
  /-- ULPS_WAKEUP_END (R167): A link that left ULPS ends its Mark-1 hold of WAKEUP and its head on a hold frame restarts its raster with a slack point. -/
  | ulpsWakeupEnd (k : Fin 16)
  /-- PCIE_LINK_UP (R393): A host port's PCIe link trains up, so PORT_INFO.UP sets with its width and speed and configuration requests can be answered. -/
  | pcieLinkUp (p : Fin 2) (width : Fin 3) (speed : Fin 4)
  deriving DecidableEq, Repr

end Sys2Proof
end

