-- ==== Sys2Proof/Decode.lean ====
section
/-! DEFINITION. The command that a table word spells.  The table of operations and events gives no row any
bits, so no word spells a command. -/

namespace Sys2Proof

/-- No row of the table has bits: every word spells nothing. -/
def decodeTableWord (_nbits _w : Nat) : Option Instr := none

end Sys2Proof
end

