-- ==== Sys2Proof/Machine/Assoc.lean ====
section
/-! DEFINITION. Sparse tables: a list of (key, value) pairs in one canonical form, keys strictly rising
and no entry equal to what an unlisted key reads as (`d key`).  Registers, memories and the per-instance
state of the engines are kept in this form, so equal contents are equal lists. -/

namespace Sys2Proof.Machine

variable {α : Type}

/-- What key `a` holds: its entry, or `d a` when it is unlisted. -/
def amGet (d : Nat → α) : List (Nat × α) → Nat → α
  | [], a => d a
  | (k, v) :: t, a => if a = k then v else amGet d t a

/-- The table with `v` at key `a`; the value an unlisted key reads as removes the entry. -/
def amSet [DecidableEq α] (d : Nat → α) : List (Nat × α) → Nat → α → List (Nat × α)
  | [], a, v => if v = d a then [] else [(a, v)]
  | (k, w) :: t, a, v =>
    if a < k then (if v = d a then (k, w) :: t else (a, v) :: (k, w) :: t)
    else if a = k then (if v = d a then t else (a, v) :: t)
    else (k, w) :: amSet d t a v

/-- The canonical form: keys above `lo` and strictly rising, no entry at its unlisted value. -/
def amWfFrom [DecidableEq α] (d : Nat → α) : Nat → List (Nat × α) → Bool
  | _, [] => true
  | lo, (k, v) :: t => decide (lo ≤ k) && decide (v ≠ d k) && amWfFrom d (k + 1) t

/-- The canonical form of a whole table. -/
def amWf [DecidableEq α] (d : Nat → α) (l : List (Nat × α)) : Bool := amWfFrom d 0 l

/-- Every entry whose key satisfies `p` is dropped: those keys read as unlisted. -/
def amDrop (p : Nat → Bool) (l : List (Nat × α)) : List (Nat × α) := l.filter (fun e => !p e.1)

/-- `f` applied to each of 0 … n − 1 in turn. -/
def forN (f : Nat → α → α) : Nat → α → α
  | 0, s => s
  | n + 1, s => f n (forN f n s)

/-- `f` applied to each element of a list in turn, from the left. -/
def forL {β : Type} (f : β → α → α) : List β → α → α
  | [], s => s
  | b :: t, s => forL f t (f b s)

/-- The list a, a + 1, …, a + n − 1. -/
def upto (a : Nat) : Nat → List Nat
  | 0 => []
  | n + 1 => a :: upto (a + 1) n

end Sys2Proof.Machine
end

