-- ==== Sys2Proof/Machine/Fld.lean ====
section
/-! DEFINITION. Register fields: where a field lies, how it is accessed, its reset value (R6), and the
bit operations that read and write one. -/

namespace Sys2Proof.Machine

/-- The access codes of R6. -/
inductive Acc where
  /-- read and write -/
  | rw
  /-- read only -/
  | ro
  /-- write 1 to clear -/
  | w1c
  /-- write 1 to set -/
  | w1s
  /-- write only, reads 0 -/
  | wo
  /-- shadowed: written at offset + 0x800, in force when an enable or a commit applies -/
  | sc
  deriving DecidableEq, Repr

/-- One field of a register: byte offset in the page, top and bottom bit, access, reset value, whether a
check examines it, and, for an indexed register, stride and count (and those of an inner index). -/
structure Fld where
  off : Nat
  hi : Nat
  lo : Nat
  acc : Acc
  rst : Nat
  chk : Bool
  stride : Nat
  count : Nat
  stride2 : Nat
  count2 : Nat
  deriving DecidableEq, Repr

/-- A field as the register tables of the spec list it. -/
def fld (off hi lo : Nat) (acc : Acc) (rst : Nat) (chk : Bool) (stride : Nat := 0) (count : Nat := 1)
    (stride2 : Nat := 0) (count2 : Nat := 1) : Fld :=
  ⟨off, hi, lo, acc, rst, chk, stride, count, stride2, count2⟩

/-- The field of the instance number `n` of an indexed register. -/
def Fld.at (f : Fld) (n : Nat) : Fld := { f with off := f.off + f.stride * n }

/-- The field of word `j` of instance `n` of a twice indexed register. -/
def Fld.at2 (f : Fld) (n j : Nat) : Fld := { f with off := f.off + f.stride * n + f.stride2 * j }

/-- The number of bits of a field. -/
def Fld.width (f : Fld) : Nat := f.hi + 1 - f.lo

/-- The bits of the word that the field takes. -/
def Fld.mask (f : Fld) : Word := BitVec.ofNat 32 (((1 <<< f.width) - 1) <<< f.lo)

/-- The value of bits hi:lo of a natural number. -/
def bits (v hi lo : Nat) : Nat := (v >>> lo) % (1 <<< (hi + 1 - lo))

/-- Bit i of a natural number. -/
def bit (v i : Nat) : Bool := v.testBit i

/-- 1 for true. -/
def b2n (b : Bool) : Nat := if b then 1 else 0

/-- The field's value in a word. -/
def Fld.get (f : Fld) (w : Word) : Nat := bits w.toNat f.hi f.lo

/-- The word with the field set to `v`, which is cut to the field's width. -/
def Fld.put (f : Fld) (w : Word) (v : Nat) : Word :=
  (w &&& ~~~f.mask) ||| (BitVec.ofNat 32 (v <<< f.lo) &&& f.mask)

/-- Two's complement: the signed value of the low `n` bits of `v`. -/
def sext (n v : Nat) : Int :=
  let u := v % (1 <<< n)
  if u < 1 <<< (n - 1) then (u : Int) else (u : Int) - ((1 <<< n : Nat) : Int)

/-- The `n` bit two's complement encoding of an integer. -/
def uenc (n : Nat) (i : Int) : Nat := (i % ((1 <<< n : Nat) : Int)).toNat

/-- v limited to at most m: saturation of an unsigned count. -/
def sat (m v : Nat) : Nat := if v ≤ m then v else m

/-- The byte address of a register (R5). -/
def regAddr (dom page off : Nat) : Nat := dom * 0x10000 + page * 0x1000 + off

/-- The byte address of a page. -/
def pg (dom page : Nat) : Nat := regAddr dom page 0

/-- The page that an address of the register space lies in. -/
def pageOf (a : Nat) : Nat := a / 0x1000 * 0x1000

/-- The offset in its page. -/
def offOf (a : Nat) : Nat := a % 0x1000

/-- The domain number of an address. -/
def domOf (a : Nat) : Nat := a / 0x10000

/-- The page number within its domain. -/
def pnoOf (a : Nat) : Nat := a / 0x1000 % 16

/-- The interrupt line and record source number of a page: domain × 16 + page (R94). -/
def lineOf (a : Nat) : Nat := a / 0x1000

end Sys2Proof.Machine
end

