-- ==== Sys2Proof/Machine/Ecc.lean ====
section
/-! DEFINITION. The check codes of stored data: the DRAM code (R339), P-mode parity (R367), the A-mode
code (R368), and the CRC of R173. -/

namespace Sys2Proof.Machine

/-- The number of ones of an n-bit value. -/
def popcount (n v : Nat) : Nat := forN (fun i a => a + b2n (v.testBit i)) n 0

/-- The column table of R339: the 8-bit values with three bits set, then the first eight with five. -/
def eccCols : List Nat :=
  ((upto 0 256).filter (fun v => popcount 8 v == 3)) ++ [0x1F, 0x2F, 0x37, 0x3B, 0x3D, 0x3E, 0x4F, 0x57]

/-- The columns of the address bits of R368. -/
def addrCols : List Nat :=
  [0xA8, 0xB0, 0xC1, 0xC2, 0xC4, 0xC8, 0xD0, 0xE0, 0x1F, 0x2F, 0x37, 0x3B, 0x3D, 0x3E, 0x4F, 0x57,
    0x5B, 0x5D, 0x5E, 0x67, 0x6B, 0x6D, 0x6E]

/-- The XOR of the columns of the bits of x that are 1. -/
def colXor : List Nat → Nat → Nat
  | [], _ => 0
  | c :: t, x => (if x % 2 = 1 then c else 0) ^^^ colXor t (x / 2)

/-- The index of a column, if the value is one. -/
def colIndex : List Nat → Nat → Option Nat
  | [], _ => none
  | c :: t, v => if c = v then some 0 else (colIndex t v).map (· + 1)

/-- What a read of a word finds: nothing wrong, a correction of the data (the corrected data) with its
syndrome, or an uncorrectable word with the log's cause and its syndrome. -/
inductive Dec where
  | clean (x : Nat)
  | fixed (x : Nat) (syn : Nat)
  | bad (x : Nat) (cause : Nat) (syn : Nat)
  deriving DecidableEq, Repr

/-- The data that a decoded word gives. -/
def Dec.data : Dec → Nat
  | .clean x => x
  | .fixed x _ => x
  | .bad x _ _ => x

/-- The word is uncorrectable. -/
def Dec.isBad : Dec → Bool
  | .bad _ _ _ => true
  | _ => false

/-- A syndrome with one bit set. -/
def oneBit (s : Nat) : Bool := popcount 8 s == 1

/-- The check byte of a 64-bit word (R339). -/
def dramCheck (x : Nat) : Nat := colXor eccCols x

/-- The decode table of R339: word, stored check byte, poison flag. -/
def dramDecode (x c : Nat) (flag : Bool) : Dec :=
  let s := (c ^^^ dramCheck x) % 256
  if flag then (if s = 0 then .fixed x 0 else .bad x 2 s)
  else if s = 0 then .clean x
  else match colIndex eccCols s with
    | some i => .fixed (x ^^^ (1 <<< i)) s
    | none => if oneBit s then .fixed x s else .bad x (if s = 255 then 2 else 1) s

/-- The even parity of a byte. -/
def parity8 (b : Nat) : Nat := popcount 8 b % 2

/-- The P-mode check bits of a 48-bit word (R367). -/
def pCheck (x : Nat) : Nat := forN (fun j a => a ||| (parity8 (bits x (8 * j + 7) (8 * j)) <<< j)) 6 0

/-- The P-mode outcomes of R367, for a word that is not in a clean cache line. -/
def pDecode (x c : Nat) : Dec :=
  let f := (c ^^^ pCheck x) % 64
  let top := c / 64 % 4
  let syn := f + 64 * top
  if top = 3 then .bad x 2 syn
  else if top ≠ 0 then .bad x 1 syn
  else if f ≠ 0 then .bad x 1 syn
  else .clean x

/-- The A-mode check byte of data x at folded word address w (R368). -/
def aCheck (x w : Nat) : Nat := colXor (eccCols.take 48) x ^^^ colXor addrCols w

/-- The A-mode outcomes of R369. -/
def aDecode (x c w : Nat) : Dec :=
  let s := (c ^^^ aCheck x w) % 256
  if s = 0 then .clean x
  else match colIndex (eccCols.take 48) s with
    | some i => .fixed (x ^^^ (1 <<< i)) s
    | none =>
      if oneBit s then .fixed x s
      else if (colIndex addrCols s).isSome then .bad x 5 s
      else if s = 255 then .bad x 2 s
      else .bad x 1 s

/-- The parameters of a CRC of R173. -/
structure CrcCfg where
  width : Nat
  poly : Nat
  init : Nat
  xorout : Nat
  refin : Bool
  refout : Bool
  deriving DecidableEq, Repr

/-- The low n bits of v in reverse order. -/
def bitRev (n v : Nat) : Nat := forN (fun i a => a ||| (b2n (v.testBit i) <<< (n - 1 - i))) n 0

/-- The step of one bit in `feed` of R173. -/
def crcBit (k : CrcCfg) (r : Nat) : Nat :=
  let s := (r <<< 1) % (1 <<< k.width)
  if r.testBit (k.width - 1) then s ^^^ k.poly else s

/-- `feed` of R173: one byte into the register. -/
def crcByte (k : CrcCfg) (r b : Nat) : Nat :=
  let b := if k.refin then bitRev 8 b else b
  forN (fun _ r => crcBit k r) 8 (r ^^^ (b <<< (k.width - 8)))

/-- The CRC register after a list of bytes. -/
def crcBytes (k : CrcCfg) : List Nat → Nat → Nat
  | [], r => r
  | b :: t, r => crcBytes k t (crcByte k r b)

/-- The result that a register value gives. -/
def crcFinish (k : CrcCfg) (r : Nat) : Nat :=
  (if k.refout then bitRev k.width r else r) ^^^ k.xorout

/-- The CRC of a list of bytes. -/
def crc (k : CrcCfg) (l : List Nat) : Nat := crcFinish k (crcBytes k l k.init)

end Sys2Proof.Machine
end

