-- ==== Sys2Proof/Config.lean ====
section
/-! DEFINITION. What a part fixes (the twelve parts of R2), and the free values: the values that the
spec leaves open, as constants with no body, so that nothing can be proved about which value they take. -/

namespace Sys2Proof.Config

/-- The fused and bonded resources of one part: a row of the table of R2. -/
structure Part where
  heads : Nat
  links : Nat
  cores : Nat
  pkgM : Bool
  gradeC : Bool
  tmbPorts : Nat
  deriving DecidableEq, Repr

/-- What the package bonds, when no part fuse is valid (R546, R549): the masks that `DEV.IDENTITY` then
reports. -/
def Part.bonded (p : Part) : Part :=
  if p.pkgM then ⟨8, 8, 24, true, false, 0⟩ else ⟨8, 16, 24, false, false, 2⟩

/-- The rows of R2 in table order, row 1 first (R551 `PART_ID.PART`).  Row 0 and rows above 12 name no
part; they give the bonded L resources. -/
def rowOf : Nat → Part
  | 1 => ⟨8, 16, 24, false, false, 2⟩
  | 2 => ⟨8, 16, 24, false, true, 2⟩
  | 3 => ⟨8, 16, 16, false, false, 2⟩
  | 4 => ⟨8, 16, 16, false, true, 2⟩
  | 5 => ⟨4, 8, 24, false, true, 2⟩
  | 6 => ⟨8, 16, 8, false, false, 0⟩
  | 7 => ⟨6, 8, 16, true, false, 0⟩
  | 8 => ⟨6, 8, 16, true, true, 0⟩
  | 9 => ⟨6, 8, 8, true, false, 0⟩
  | 10 => ⟨4, 8, 16, true, false, 0⟩
  | 11 => ⟨4, 8, 8, true, false, 0⟩
  | 12 => ⟨4, 8, 8, true, true, 0⟩
  | _ => ⟨8, 16, 24, false, false, 2⟩

/-- The part in force: a row of R2, or with 16 added what its package bonds, which is what is left when OTP
block 0 has failed its check (R549). -/
def partOf (n : Nat) : Part := if 16 ≤ n then (rowOf (n - 16)).bonded else rowOf n

/-- The counts that follow from the package alone (R2): DRAM channels, host ports, touch links, haptic
channels, TDM ports, Tidepool granules of 64 KiB, GPIO pads, board controllers. -/
def Part.dramCh (p : Part) : Nat := if p.pkgM then 4 else 8
def Part.hostPorts (p : Part) : Nat := if p.pkgM then 1 else 2
def Part.panels (p : Part) : Nat := if p.pkgM then 2 else 4
def Part.hapCh (p : Part) : Nat := if p.pkgM then 4 else 8
def Part.tdm (p : Part) : Nat := if p.pkgM then 2 else 4
def Part.granules (p : Part) : Nat := if p.pkgM then 384 else 768
def Part.pads (p : Part) : Nat := if p.pkgM then 16 else 32
def Part.bcs (p : Part) : Nat := if p.pkgM then 1 else 2

/-- The free value number n: a 64-bit value that the spec leaves open (log 3).  A step that needs one
reads `State.freeCtr` and advances it. -/
opaque freeValue : Nat → BitVec 64

/-- The 128-bit die identifier of `DEV.IDENTITY.UID_0`–`UID_3` (R551): fused per die, no value stated. (log 8, DESIGN CHOICE) -/
opaque uid : BitVec 128

/-- Ferrak's JEP106 manufacturer code in bits 11:1 of the IDCODE (R567): no value stated. (log 8, DESIGN CHOICE) -/
opaque jep106 : BitVec 11

/-- The converter coefficient table C[phase][tap] (R314, R315), signed 24-bit: the spec gives its shape and
not its values. (log 8, DESIGN CHOICE) -/
opaque asrcCoef : Nat → Nat → BitVec 24

/-- Whether the stencil and blend bytes 4–47 of a draw's state block lie in their subsets: R192 gives no layout of
their fields (log 41). -/
opaque blendStateOk : Nat → Bool

/-- Whether another device of the Tombolo ring has an enabled mirror entry for an owner that targets this device (R544):
this device does not see the other's registers (log 80). -/
opaque mirrorTargets : Nat → Bool

/-- Channel c of texel (x, y) of a block of a compressed texture format (R203), as FP32: the spec names the formats and not
their block encodings (log 257). -/
opaque blockTexel : Nat → BitVec 128 → Nat → Nat → Nat → BitVec 32

/-- Whether an ASTC block is an HDR or a 3D one (R203), by the ASTC specification (log 257). -/
opaque astcForeign : BitVec 128 → Bool

/-- The texture unit's base-2 logarithm of an FP32 number (R204): no accuracy is stated (log 258). -/
opaque log2Fp : BitVec 32 → BitVec 32

end Sys2Proof.Config
end

