-- ==== Sys2Proof/Machine/FieldsA.lean ====
section
/-! DEFINITION. The register fields, part 1 of 3.
One constant per register field of the spec: offset, bits, access, reset, whether a check examines it,
and the stride and count of an indexed register.  The names are the spec's. -/

namespace Sys2Proof.Machine.F

/-! `ABANK`: R334 -/
def ABANK.LOAD_ADDR_LO : Fld := fld 0x100 31 0 .rw 0 false
def ABANK.LOAD_ADDR_HI : Fld := fld 0x104 7 0 .rw 0 false
def ABANK.LOAD_SIZE : Fld := fld 0x108 31 0 .rw 0 false
def ABANK.BANK_CMD_INVALIDATE : Fld := fld 0x10c 1 1 .w1s 0 false
def ABANK.BANK_CMD_LOAD : Fld := fld 0x10c 0 0 .w1s 0 false
def ABANK.LOAD_RESULT_BUSY : Fld := fld 0x110 31 31 .rw 0 false
def ABANK.LOAD_RESULT_REASON : Fld := fld 0x110 15 8 .rw 0 false
def ABANK.LOAD_ARG : Fld := fld 0x114 31 0 .rw 0 false
def ABANK.FADE_CFG : Fld := fld 0x120 15 0 .sc 0x3c0 true
def ABANK.BANK_STATE_PHASE : Fld := fld 0xf00 31 28 .ro 0 false
def ABANK.BANK_STATE_INACTIVE_VALID : Fld := fld 0xf00 1 1 .ro 0 false
def ABANK.BANK_STATE_ACTIVE : Fld := fld 0xf00 0 0 .ro 0 false
def ABANK.ACTIVE_LEN : Fld := fld 0xf04 31 0 .ro 0 false
def ABANK.all0 : List Fld := [ABANK.LOAD_ADDR_LO, ABANK.LOAD_ADDR_HI, ABANK.LOAD_SIZE, ABANK.BANK_CMD_INVALIDATE, ABANK.BANK_CMD_LOAD, ABANK.LOAD_RESULT_BUSY, ABANK.LOAD_RESULT_REASON, ABANK.LOAD_ARG, ABANK.FADE_CFG, ABANK.BANK_STATE_PHASE, ABANK.BANK_STATE_INACTIVE_VALID, ABANK.BANK_STATE_ACTIVE, ABANK.ACTIVE_LEN]
/-- Every field of `ABANK`. -/
def ABANK.all : List Fld := ABANK.all0

/-! `ACLK`: R331 -/
def ACLK.MCLK_CFG_MCLK_STOP_IN_STANDBY : Fld := fld 0x100 4 4 .sc 0 false
def ACLK.MCLK_CFG_MCLK_SEL_1 : Fld := fld 0x100 3 2 .sc 0 true
def ACLK.MCLK_CFG_MCLK_SEL_0 : Fld := fld 0x100 1 0 .sc 0 true
def ACLK.all0 : List Fld := [ACLK.MCLK_CFG_MCLK_STOP_IN_STANDBY, ACLK.MCLK_CFG_MCLK_SEL_1, ACLK.MCLK_CFG_MCLK_SEL_0]
/-- Every field of `ACLK`. -/
def ACLK.all : List Fld := ACLK.all0

/-! `AENG`: R333 -/
def AENG.ENG_CFG : Fld := fld 0x100 11 0 .sc 0 true
def AENG.TRIG_FIRE_GO : Fld := fld 0x110 8 8 .wo 0 false
def AENG.TRIG_FIRE_LINE : Fld := fld 0x110 5 0 .wo 0 false
def AENG.TRIG_VALID : Fld := fld 0x200 31 31 .sc 0 false (stride := 0x4) (count := 64)
def AENG.TRIG_PLAYER : Fld := fld 0x200 27 24 .sc 0 true (stride := 0x4) (count := 64)
def AENG.TRIG_OWNER : Fld := fld 0x200 11 0 .sc 0 true (stride := 0x4) (count := 64)
def AENG.PLAY_ADDR_LO : Fld := fld 0x300 31 0 .sc 0 true (stride := 0x10) (count := 16)
def AENG.PLAY_ADDR_HI : Fld := fld 0x304 7 0 .sc 0 true (stride := 0x10) (count := 16)
def AENG.PLAY_FRAMES : Fld := fld 0x308 23 0 .sc 0 true (stride := 0x10) (count := 16)
def AENG.PLAY_CFG_FORMAT : Fld := fld 0x30c 15 14 .sc 0 true (stride := 0x10) (count := 16)
def AENG.PLAY_CFG_RATE : Fld := fld 0x30c 13 13 .sc 1 false (stride := 0x10) (count := 16)
def AENG.PLAY_CFG_STEREO : Fld := fld 0x30c 12 12 .sc 0 false (stride := 0x10) (count := 16)
def AENG.PLAY_CFG_OWNER : Fld := fld 0x30c 11 0 .sc 0 true (stride := 0x10) (count := 16)
def AENG.SAMPLE_SEQ : Fld := fld 0xf00 31 0 .ro 0 false
def AENG.LAT_TOL : Fld := fld 0xf04 31 0 .ro 0xffffffff false
def AENG.PLAY_STATE_PRELOADED : Fld := fld 0xf08 31 16 .ro 0 false
def AENG.PLAY_STATE_PLAYING : Fld := fld 0xf08 15 0 .ro 0 false
def AENG.CYCLES_MAX : Fld := fld 0xf0c 15 0 .ro 0 false
def AENG.all0 : List Fld := [AENG.ENG_CFG, AENG.TRIG_FIRE_GO, AENG.TRIG_FIRE_LINE, AENG.TRIG_VALID, AENG.TRIG_PLAYER, AENG.TRIG_OWNER, AENG.PLAY_ADDR_LO, AENG.PLAY_ADDR_HI, AENG.PLAY_FRAMES, AENG.PLAY_CFG_FORMAT, AENG.PLAY_CFG_RATE, AENG.PLAY_CFG_STEREO, AENG.PLAY_CFG_OWNER, AENG.SAMPLE_SEQ, AENG.LAT_TOL, AENG.PLAY_STATE_PRELOADED, AENG.PLAY_STATE_PLAYING, AENG.CYCLES_MAX]
/-- Every field of `AENG`. -/
def AENG.all : List Fld := AENG.all0

/-! `AGAIN`: R323 -/
def AGAIN.TARGET_EN : Fld := fld 0x100 31 31 .sc 0 false (stride := 0x4) (count := 128)
def AGAIN.TARGET_TARGET : Fld := fld 0x100 23 0 .sc 0x100000 false (stride := 0x4) (count := 128)
def AGAIN.GOWN_DUCK_MASK : Fld := fld 0x300 27 12 .sc 0 true (stride := 0x4) (count := 128)
def AGAIN.GOWN_OWNER : Fld := fld 0x300 11 0 .sc 0 true (stride := 0x4) (count := 128)
def AGAIN.WATCH_ADDR_ODD : Fld := fld 0x500 31 16 .sc 0 false (stride := 0x4) (count := 64)
def AGAIN.WATCH_ADDR_EVEN : Fld := fld 0x500 15 0 .sc 0 false (stride := 0x4) (count := 64)
def AGAIN.STEP_CFG_ZC_WAIT : Fld := fld 0x600 31 16 .sc 0x60 true
def AGAIN.STEP_CFG_STEP : Fld := fld 0x600 15 0 .sc 0x2000 true
def AGAIN.DUCK_KEY_VALID : Fld := fld 0x640 31 31 .sc 0 false (stride := 0x8) (count := 16)
def AGAIN.DUCK_KEY_KIND : Fld := fld 0x640 30 30 .sc 0 true (stride := 0x8) (count := 16)
def AGAIN.DUCK_KEY_INDEX : Fld := fld 0x640 29 24 .sc 0 true (stride := 0x8) (count := 16)
def AGAIN.DUCK_KEY_HOLD : Fld := fld 0x640 23 16 .sc 0xa false (stride := 0x8) (count := 16)
def AGAIN.DUCK_KEY_OWNER : Fld := fld 0x640 11 0 .sc 0 true (stride := 0x8) (count := 16)
def AGAIN.DUCK_DEPTH_THRESH : Fld := fld 0x644 31 24 .sc 0x20 false (stride := 0x8) (count := 16)
def AGAIN.DUCK_DEPTH_DEPTH : Fld := fld 0x644 23 0 .sc 0x40000 true (stride := 0x8) (count := 16)
def AGAIN.READ_SEL : Fld := fld 0x7f0 6 0 .rw 0 false
def AGAIN.CUR_GAIN : Fld := fld 0xf00 23 0 .ro 0 false
def AGAIN.DUCK_ACTIVE : Fld := fld 0xf04 15 0 .ro 0 false
def AGAIN.all0 : List Fld := [AGAIN.TARGET_EN, AGAIN.TARGET_TARGET, AGAIN.GOWN_DUCK_MASK, AGAIN.GOWN_OWNER, AGAIN.WATCH_ADDR_ODD, AGAIN.WATCH_ADDR_EVEN, AGAIN.STEP_CFG_ZC_WAIT, AGAIN.STEP_CFG_STEP, AGAIN.DUCK_KEY_VALID, AGAIN.DUCK_KEY_KIND, AGAIN.DUCK_KEY_INDEX, AGAIN.DUCK_KEY_HOLD, AGAIN.DUCK_KEY_OWNER, AGAIN.DUCK_DEPTH_THRESH, AGAIN.DUCK_DEPTH_DEPTH, AGAIN.READ_SEL, AGAIN.CUR_GAIN, AGAIN.DUCK_ACTIVE]
/-- Every field of `AGAIN`. -/
def AGAIN.all : List Fld := AGAIN.all0

/-! `ALLOC`: R160 -/
def ALLOC.REGION_CLEAR_ON_FREE : Fld := fld 0x100 31 31 .sc 1 false (stride := 0x8) (count := 32)
def ALLOC.REGION_USE : Fld := fld 0x100 29 28 .sc 0 true (stride := 0x8) (count := 32)
def ALLOC.REGION_COUNT : Fld := fld 0x100 25 16 .sc 0 true (stride := 0x8) (count := 32)
def ALLOC.REGION_BASE : Fld := fld 0x100 9 0 .sc 0 true (stride := 0x8) (count := 32)
def ALLOC.REGION_USER_HEAD : Fld := fld 0x104 14 12 .sc 0 true (stride := 0x8) (count := 32)
def ALLOC.REGION_USER_OWNER : Fld := fld 0x104 11 0 .sc 0 true (stride := 0x8) (count := 32)
def ALLOC.CLEAR_BUSY : Fld := fld 0xf00 31 0 .ro 0 false
def ALLOC.all0 : List Fld := [ALLOC.REGION_CLEAR_ON_FREE, ALLOC.REGION_USE, ALLOC.REGION_COUNT, ALLOC.REGION_BASE, ALLOC.REGION_USER_HEAD, ALLOC.REGION_USER_OWNER, ALLOC.CLEAR_BUSY]
/-- Every field of `ALLOC`. -/
def ALLOC.all : List Fld := ALLOC.all0

/-! `AMETER`: R330 -/
def AMETER.METER_OWN : Fld := fld 0x100 11 0 .sc 0 true (stride := 0x4) (count := 32)
def AMETER.METER_SEL : Fld := fld 0x180 4 0 .rw 0 false
def AMETER.SUMSQ_LO : Fld := fld 0xf00 31 0 .ro 0 false
def AMETER.SUMSQ_HI : Fld := fld 0xf04 31 0 .ro 0 false
def AMETER.all0 : List Fld := [AMETER.METER_OWN, AMETER.METER_SEL, AMETER.SUMSQ_LO, AMETER.SUMSQ_HI]
/-- Every field of `AMETER`. -/
def AMETER.all : List Fld := AMETER.all0

/-! `APORT`: R310 -/
def APORT.PORT_CFG_FRAME_BITS : Fld := fld 0x100 30 20 .sc 0x40 true
def APORT.PORT_CFG_SLOTS_OUT : Fld := fld 0x100 19 16 .sc 1 true
def APORT.PORT_CFG_SLOTS_IN : Fld := fld 0x100 15 12 .sc 1 true
def APORT.PORT_CFG_STOP_IN_STANDBY : Fld := fld 0x100 8 8 .sc 0 false
def APORT.PORT_CFG_BCLK_INV : Fld := fld 0x100 7 7 .sc 0 false
def APORT.PORT_CFG_DELAY : Fld := fld 0x100 6 6 .sc 1 false
def APORT.PORT_CFG_FS_LONG : Fld := fld 0x100 5 5 .sc 0 false
def APORT.PORT_CFG_SLOT_BITS : Fld := fld 0x100 4 3 .sc 1 true
def APORT.PORT_CFG_RATE : Fld := fld 0x100 2 2 .sc 0 false
def APORT.PORT_CFG_FRAMING : Fld := fld 0x100 1 1 .sc 1 false
def APORT.PORT_CFG_ROLE : Fld := fld 0x100 0 0 .sc 0 false
def APORT.PORT_STATE : Fld := fld 0xf00 31 30 .ro 0 false
def APORT.FRAME_SEQ : Fld := fld 0xf04 31 0 .ro 0 false
def APORT.all0 : List Fld := [APORT.PORT_CFG_FRAME_BITS, APORT.PORT_CFG_SLOTS_OUT, APORT.PORT_CFG_SLOTS_IN, APORT.PORT_CFG_STOP_IN_STANDBY, APORT.PORT_CFG_BCLK_INV, APORT.PORT_CFG_DELAY, APORT.PORT_CFG_FS_LONG, APORT.PORT_CFG_SLOT_BITS, APORT.PORT_CFG_RATE, APORT.PORT_CFG_FRAMING, APORT.PORT_CFG_ROLE, APORT.PORT_STATE, APORT.FRAME_SEQ]
/-- Every field of `APORT`. -/
def APORT.all : List Fld := APORT.all0

/-! `ASRC`: R315 -/
def ASRC.ASRC_CFG_LOCK_FRAMES : Fld := fld 0x100 31 24 .sc 0x40 true (stride := 0x4) (count := 8)
def ASRC.ASRC_CFG_LOCK_TOL : Fld := fld 0x100 23 0 .sc 0x30000 true (stride := 0x4) (count := 8)
def ASRC.COEF_SEL_PHASE : Fld := fld 0x140 13 6 .rw 0 false
def ASRC.COEF_SEL_TAP : Fld := fld 0x140 5 0 .rw 0 false
def ASRC.ASRC_STATE : Fld := fld 0xf00 31 30 .ro 0 false (stride := 0x4) (count := 8)
def ASRC.ASRC_EST : Fld := fld 0xf20 31 0 .ro 0 false (stride := 0x4) (count := 8)
def ASRC.ASRC_COEF : Fld := fld 0xf40 23 0 .ro 0 false
def ASRC.all0 : List Fld := [ASRC.ASRC_CFG_LOCK_FRAMES, ASRC.ASRC_CFG_LOCK_TOL, ASRC.COEF_SEL_PHASE, ASRC.COEF_SEL_TAP, ASRC.ASRC_STATE, ASRC.ASRC_EST, ASRC.ASRC_COEF]
/-- Every field of `ASRC`. -/
def ASRC.all : List Fld := ASRC.all0

/-! `BACKUP`: R516 -/
def BACKUP.BK_CMD : Fld := fld 0x100 0 0 .w1s 0 false
def BACKUP.BK_STATE_VALID : Fld := fld 0xf00 31 31 .ro 0 false
def BACKUP.BK_STATE_FF_VALID : Fld := fld 0xf00 30 30 .ro 0 false
def BACKUP.BK_STATE_VBAK_OK : Fld := fld 0xf00 29 29 .ro 0 false
def BACKUP.BK_STATE_FROM_BACKUP : Fld := fld 0xf00 28 28 .ro 0 false
def BACKUP.BK_STATE_LAST_LEVEL : Fld := fld 0xf00 9 8 .ro 0 false
def BACKUP.BK_STATE_LAST_SOURCE : Fld := fld 0xf00 3 0 .ro 0 false
def BACKUP.RESET_COUNT : Fld := fld 0xf04 31 0 .ro 0 false
def BACKUP.SECURE_RESTARTS : Fld := fld 0xf08 31 0 .ro 0 false
def BACKUP.FF_WORD : Fld := fld 0xf40 31 0 .ro 0 false (stride := 0x4) (count := 16)
def BACKUP.all0 : List Fld := [BACKUP.BK_CMD, BACKUP.BK_STATE_VALID, BACKUP.BK_STATE_FF_VALID, BACKUP.BK_STATE_VBAK_OK, BACKUP.BK_STATE_FROM_BACKUP, BACKUP.BK_STATE_LAST_LEVEL, BACKUP.BK_STATE_LAST_SOURCE, BACKUP.RESET_COUNT, BACKUP.SECURE_RESTARTS, BACKUP.FF_WORD]
/-- Every field of `BACKUP`. -/
def BACKUP.all : List Fld := BACKUP.all0

/-! `BLOCKREQ`: R495 -/
def BLOCKREQ.DOMAIN_REQ_DOMAIN : Fld := fld 0x100 15 8 .wo 0 true
def BLOCKREQ.DOMAIN_REQ_GO : Fld := fld 0x100 0 0 .wo 0 false
def BLOCKREQ.DOMAIN_RESULT_DONE : Fld := fld 0x104 16 16 .ro 1 false
def BLOCKREQ.DOMAIN_RESULT_REASON : Fld := fld 0x104 15 8 .ro 0 false
def BLOCKREQ.DOMAIN_RESULT_DOMAIN : Fld := fld 0x104 7 0 .ro 0 false
def BLOCKREQ.IN_RESET : Fld := fld 0xf00 31 0 .ro 0 false (stride := 0x4) (count := 8)
def BLOCKREQ.all0 : List Fld := [BLOCKREQ.DOMAIN_REQ_DOMAIN, BLOCKREQ.DOMAIN_REQ_GO, BLOCKREQ.DOMAIN_RESULT_DONE, BLOCKREQ.DOMAIN_RESULT_REASON, BLOCKREQ.DOMAIN_RESULT_DOMAIN, BLOCKREQ.IN_RESET]
/-- Every field of `BLOCKREQ`. -/
def BLOCKREQ.all : List Fld := BLOCKREQ.all0

/-! `BSYNC`: R62 -/
def BSYNC.SYNC_CTRL_OUT_EN : Fld := fld 0x100 2 2 .rw 0 true
def BSYNC.SYNC_CTRL_IN_EDGE : Fld := fld 0x100 1 1 .rw 0 false
def BSYNC.SYNC_CTRL_IN_EN : Fld := fld 0x100 0 0 .rw 0 false
def BSYNC.SYNC_IN_TS_LO : Fld := fld 0x104 31 0 .ro 0 false
def BSYNC.SYNC_IN_TS_HI : Fld := fld 0x108 31 0 .ro 0 false
def BSYNC.SYNC_IN_COUNT : Fld := fld 0x10c 31 0 .ro 0 false
def BSYNC.OUT_FIRST_LO : Fld := fld 0x110 31 0 .rw 0 true
def BSYNC.OUT_FIRST_HI : Fld := fld 0x114 31 0 .rw 0 true
def BSYNC.OUT_PERIOD : Fld := fld 0x118 31 0 .rw 0 true
def BSYNC.OUT_WIDTH : Fld := fld 0x11c 15 0 .rw 0x266 true
def BSYNC.all0 : List Fld := [BSYNC.SYNC_CTRL_OUT_EN, BSYNC.SYNC_CTRL_IN_EDGE, BSYNC.SYNC_CTRL_IN_EN, BSYNC.SYNC_IN_TS_LO, BSYNC.SYNC_IN_TS_HI, BSYNC.SYNC_IN_COUNT, BSYNC.OUT_FIRST_LO, BSYNC.OUT_FIRST_HI, BSYNC.OUT_PERIOD, BSYNC.OUT_WIDTH]
/-- Every field of `BSYNC`. -/
def BSYNC.all : List Fld := BSYNC.all0

/-! `COLOUR`: R128 -/
def COLOUR.CP_CFG_DITHER : Fld := fld 0x100 5 4 .sc 0 true
def COLOUR.CP_CFG_LUT_SET : Fld := fld 0x100 2 2 .sc 0 false
def COLOUR.CP_CFG_LUT_EN : Fld := fld 0x100 1 1 .sc 0 false
def COLOUR.CP_CFG_GAMUT_EN : Fld := fld 0x100 0 0 .sc 0 false
def COLOUR.GAMUT : Fld := fld 0x104 17 0 .sc 0x4000 false (stride := 0x4) (count := 9)
def COLOUR.LUT_SEL_SET : Fld := fld 0x140 16 16 .rw 0 false
def COLOUR.LUT_SEL_CHANNEL : Fld := fld 0x140 13 12 .rw 0 false
def COLOUR.LUT_SEL_INDEX : Fld := fld 0x140 10 0 .rw 0 false
def COLOUR.LUT_DATA : Fld := fld 0x144 15 0 .rw 0 false
def COLOUR.CP_STATE : Fld := fld 0xf00 1 0 .ro 0 false
def COLOUR.all0 : List Fld := [COLOUR.CP_CFG_DITHER, COLOUR.CP_CFG_LUT_SET, COLOUR.CP_CFG_LUT_EN, COLOUR.CP_CFG_GAMUT_EN, COLOUR.GAMUT, COLOUR.LUT_SEL_SET, COLOUR.LUT_SEL_CHANNEL, COLOUR.LUT_SEL_INDEX, COLOUR.LUT_DATA, COLOUR.CP_STATE]
/-- Every field of `COLOUR`. -/
def COLOUR.all : List Fld := COLOUR.all0

/-! `COPY`: R416 -/
def COPY.COPY_STATE_BUSY : Fld := fld 0xf00 31 31 .ro 0 false
def COPY.COPY_STATE_QUEUED : Fld := fld 0xf00 29 24 .ro 0 false
def COPY.COPY_STATE_TAG : Fld := fld 0xf00 11 0 .ro 0 false
def COPY.ERR_ADDR_LO : Fld := fld 0xf04 31 0 .ro 0 false
def COPY.ERR_ADDR_HI : Fld := fld 0xf08 31 0 .ro 0 false
def COPY.all0 : List Fld := [COPY.COPY_STATE_BUSY, COPY.COPY_STATE_QUEUED, COPY.COPY_STATE_TAG, COPY.ERR_ADDR_LO, COPY.ERR_ADDR_HI]
/-- Every field of `COPY`. -/
def COPY.all : List Fld := COPY.all0

/-! `CORE`: R463 -/
def CORE.CORE_CTRL : Fld := fld 0x100 0 0 .rw 0 false
def CORE.BOOT_ADDR_LO : Fld := fld 0x104 31 0 .sc 0 true
def CORE.BOOT_ADDR_HI : Fld := fld 0x108 7 0 .sc 0 true
def CORE.MTIMECMP_LO : Fld := fld 0x110 31 0 .rw 0xffffffff false
def CORE.MTIMECMP_HI : Fld := fld 0x114 31 0 .rw 0xffffffff false
def CORE.CORE_STATE_STATE : Fld := fld 0xf00 31 30 .ro 0 false
def CORE.CORE_STATE_PRIV : Fld := fld 0xf00 29 28 .ro 0 false
def CORE.CORE_STATE_KIND : Fld := fld 0xf00 27 27 .ro 0 false
def CORE.CORE_STATE_COVE : Fld := fld 0xf00 26 21 .ro 0 false
def CORE.CORE_STATE_TAG : Fld := fld 0xf00 11 0 .ro 0 false
def CORE.PC_LO : Fld := fld 0xf04 31 0 .ro 0 false
def CORE.PC_HI : Fld := fld 0xf08 31 0 .ro 0 false
def CORE.LOCKSTEP : Fld := fld 0xf0c 31 0 .ro 0 false
def CORE.all0 : List Fld := [CORE.CORE_CTRL, CORE.BOOT_ADDR_LO, CORE.BOOT_ADDR_HI, CORE.MTIMECMP_LO, CORE.MTIMECMP_HI, CORE.CORE_STATE_STATE, CORE.CORE_STATE_PRIV, CORE.CORE_STATE_KIND, CORE.CORE_STATE_COVE, CORE.CORE_STATE_TAG, CORE.PC_LO, CORE.PC_HI, CORE.LOCKSTEP]
/-- Every field of `CORE`. -/
def CORE.all : List Fld := CORE.all0

/-! `COVE`: R467 -/
def COVE.CRANGE_VALID : Fld := fld 0x100 31 31 .sc 0 true (stride := 0x8) (count := 64)
def COVE.CRANGE_COVE : Fld := fld 0x100 25 20 .sc 0 true (stride := 0x8) (count := 64)
def COVE.CRANGE_FIRST : Fld := fld 0x100 19 0 .sc 0 true (stride := 0x8) (count := 64)
def COVE.CCOUNT : Fld := fld 0x104 19 0 .sc 0 true (stride := 0x8) (count := 64)
def COVE.COVE_CMD_OP : Fld := fld 0x300 9 8 .wo 0 false
def COVE.COVE_CMD_COVE : Fld := fld 0x300 5 0 .wo 0 false
def COVE.COVE_RESULT : Fld := fld 0xf00 15 8 .ro 0 false
def COVE.COVE_STATE : Fld := fld 0xf10 31 0 .ro 0 false (stride := 0x4) (count := 4)
def COVE.all0 : List Fld := [COVE.CRANGE_VALID, COVE.CRANGE_COVE, COVE.CRANGE_FIRST, COVE.CCOUNT, COVE.COVE_CMD_OP, COVE.COVE_CMD_COVE, COVE.COVE_RESULT, COVE.COVE_STATE]
/-- Every field of `COVE`. -/
def COVE.all : List Fld := COVE.all0

/-! `CVU`: R182 -/
def CVU.CV_CFG_WIDTH : Fld := fld 0x100 30 24 .sc 0x10 true
def CVU.CV_CFG_REFIN : Fld := fld 0x100 23 23 .sc 0 false
def CVU.CV_CFG_REFOUT : Fld := fld 0x100 22 22 .sc 0 false
def CVU.CV_CFG_FOLD_EN : Fld := fld 0x100 21 21 .sc 1 false
def CVU.CV_CFG_COMPARE : Fld := fld 0x100 20 20 .sc 0 false
def CVU.POLY_LO : Fld := fld 0x104 31 0 .sc 0x1021 true
def CVU.POLY_HI : Fld := fld 0x108 31 0 .sc 0 true
def CVU.INIT_LO : Fld := fld 0x10c 31 0 .sc 0xffff true
def CVU.INIT_HI : Fld := fld 0x110 31 0 .sc 0 true
def CVU.XOROUT_LO : Fld := fld 0x114 31 0 .sc 0 true
def CVU.XOROUT_HI : Fld := fld 0x118 31 0 .sc 0 true
def CVU.EXPECT_LO : Fld := fld 0x11c 31 0 .sc 0 true
def CVU.EXPECT_HI : Fld := fld 0x120 31 0 .sc 0 true
def CVU.SRC_CFG_SOURCE : Fld := fld 0x124 5 4 .sc 2 true
def CVU.SRC_CFG_ENGINE : Fld := fld 0x124 3 1 .sc 0 true
def CVU.SRC_CFG_SIDE : Fld := fld 0x124 0 0 .sc 0 false
def CVU.FOLD_TAG : Fld := fld 0x12c 15 0 .sc 0 false
def CVU.FEED_SEQ : Fld := fld 0x130 15 0 .rw 0 false
def CVU.FEED_DATA : Fld := fld 0x134 31 0 .wo 0 false
def CVU.FEED_CTRL_BYTES : Fld := fld 0x138 3 2 .rw 3 false
def CVU.FEED_CTRL_END : Fld := fld 0x138 1 1 .w1s 0 false
def CVU.FEED_CTRL_START : Fld := fld 0x138 0 0 .w1s 0 false
def CVU.RESULT_LO : Fld := fld 0xf00 31 0 .ro 0 false
def CVU.RESULT_HI : Fld := fld 0xf04 31 0 .ro 0 false
def CVU.RESULT_STATE_ABORTED : Fld := fld 0xf08 2 2 .ro 0 false
def CVU.RESULT_STATE_MISMATCH : Fld := fld 0xf08 1 1 .ro 0 false
def CVU.RESULT_STATE_DONE : Fld := fld 0xf08 0 0 .ro 0 false
def CVU.RESULT_TS_LO : Fld := fld 0xf0c 31 0 .ro 0 false
def CVU.RESULT_TS_HI : Fld := fld 0xf10 31 0 .ro 0 false
def CVU.all0 : List Fld := [CVU.CV_CFG_WIDTH, CVU.CV_CFG_REFIN, CVU.CV_CFG_REFOUT, CVU.CV_CFG_FOLD_EN, CVU.CV_CFG_COMPARE, CVU.POLY_LO, CVU.POLY_HI, CVU.INIT_LO, CVU.INIT_HI, CVU.XOROUT_LO, CVU.XOROUT_HI, CVU.EXPECT_LO, CVU.EXPECT_HI, CVU.SRC_CFG_SOURCE, CVU.SRC_CFG_ENGINE, CVU.SRC_CFG_SIDE, CVU.FOLD_TAG, CVU.FEED_SEQ, CVU.FEED_DATA, CVU.FEED_CTRL_BYTES, CVU.FEED_CTRL_END, CVU.FEED_CTRL_START, CVU.RESULT_LO, CVU.RESULT_HI]
def CVU.all1 : List Fld := [CVU.RESULT_STATE_ABORTED, CVU.RESULT_STATE_MISMATCH, CVU.RESULT_STATE_DONE, CVU.RESULT_TS_LO, CVU.RESULT_TS_HI]
/-- Every field of `CVU`. -/
def CVU.all : List Fld := CVU.all0 ++ CVU.all1

/-! `DCHAN`: R363 -/
def DCHAN.GEOM_RANKS : Fld := fld 0x100 2 2 .sc 0 true
def DCHAN.GEOM_ROWS : Fld := fld 0x100 1 0 .sc 2 true
def DCHAN.TIMING_0_T_RFCPB : Fld := fld 0x104 31 24 .sc 0xb0 true
def DCHAN.TIMING_0_T_RAS : Fld := fld 0x104 23 16 .sc 0x27 true
def DCHAN.TIMING_0_T_RP : Fld := fld 0x104 15 8 .sc 0x11 true
def DCHAN.TIMING_0_T_RCD : Fld := fld 0x104 7 0 .sc 0x11 true
def DCHAN.TIMING_1_T_WR : Fld := fld 0x108 23 16 .sc 0x11 true
def DCHAN.TIMING_1_T_RFCAB : Fld := fld 0x108 9 0 .sc 0x15f true
def DCHAN.CHAN_STATE_STATE : Fld := fld 0xf00 31 28 .ro 0 false
def DCHAN.CHAN_STATE_TRAIN_STEP : Fld := fld 0xf00 27 24 .ro 0 false
def DCHAN.CHAN_STATE_QUEUED : Fld := fld 0xf00 23 16 .ro 0 false
def DCHAN.CHAN_STATE_MR4_RATE : Fld := fld 0xf00 2 0 .ro 0 false
def DCHAN.all0 : List Fld := [DCHAN.GEOM_RANKS, DCHAN.GEOM_ROWS, DCHAN.TIMING_0_T_RFCPB, DCHAN.TIMING_0_T_RAS, DCHAN.TIMING_0_T_RP, DCHAN.TIMING_0_T_RCD, DCHAN.TIMING_1_T_WR, DCHAN.TIMING_1_T_RFCAB, DCHAN.CHAN_STATE_STATE, DCHAN.CHAN_STATE_TRAIN_STEP, DCHAN.CHAN_STATE_QUEUED, DCHAN.CHAN_STATE_MR4_RATE]
/-- Every field of `DCHAN`. -/
def DCHAN.all : List Fld := DCHAN.all0

/-! `DECC`: R362 -/
def DECC.ECC_CFG : Fld := fld 0x100 0 0 .sc 1 false
def DECC.INJ_ADDR_LO : Fld := fld 0x104 31 0 .rw 0 false
def DECC.INJ_ADDR_HI : Fld := fld 0x108 7 0 .rw 0 false
def DECC.INJ_CTL : Fld := fld 0x10c 1 0 .rw 0 false
def DECC.all0 : List Fld := [DECC.ECC_CFG, DECC.INJ_ADDR_LO, DECC.INJ_ADDR_HI, DECC.INJ_CTL]
/-- Every field of `DECC`. -/
def DECC.all : List Fld := DECC.all0

/-! `DGLOB`: R361 -/
def DGLOB.GLB_STATE_IN_SERVICE : Fld := fld 0xf00 15 8 .ro 0 false
def DGLOB.GLB_STATE_STATE : Fld := fld 0xf00 1 0 .ro 0 false
def DGLOB.V_MIB : Fld := fld 0xf04 31 0 .ro 0 false
def DGLOB.T_MIN_LO : Fld := fld 0xf08 31 0 .ro 0xffffffff false
def DGLOB.T_MIN_HI : Fld := fld 0xf0c 31 0 .ro 0xffffffff false
def DGLOB.all0 : List Fld := [DGLOB.GLB_STATE_IN_SERVICE, DGLOB.GLB_STATE_STATE, DGLOB.V_MIB, DGLOB.T_MIN_LO, DGLOB.T_MIN_HI]
/-- Every field of `DGLOB`. -/
def DGLOB.all : List Fld := DGLOB.all0

/-! `DIV`: R43 -/
def DIV.CLKOK : Fld := fld 0x100 31 0 .ro 0 false (stride := 0x4) (count := 8)
def DIV.GATED : Fld := fld 0x120 31 0 .ro 0 false (stride := 0x4) (count := 8)
def DIV.GATE_REQ_DOMAIN : Fld := fld 0x140 15 8 .wo 0 true
def DIV.GATE_REQ_GATE : Fld := fld 0x140 0 0 .wo 0 true
def DIV.GATE_RESULT_DONE : Fld := fld 0x144 16 16 .ro 1 false
def DIV.GATE_RESULT_REASON : Fld := fld 0x144 15 8 .ro 0 false
def DIV.GATE_RESULT_DOMAIN : Fld := fld 0x144 7 0 .ro 0 false
def DIV.PHY_PLL_STATUS_DPHY_CLK_OK : Fld := fld 0x148 2 2 .ro 0 false
def DIV.PHY_PLL_STATUS_TMB_PLL_LOCKED : Fld := fld 0x148 1 1 .ro 0 false
def DIV.PHY_PLL_STATUS_DRAM_PLL_LOCKED : Fld := fld 0x148 0 0 .ro 0 false
def DIV.all0 : List Fld := [DIV.CLKOK, DIV.GATED, DIV.GATE_REQ_DOMAIN, DIV.GATE_REQ_GATE, DIV.GATE_RESULT_DONE, DIV.GATE_RESULT_REASON, DIV.GATE_RESULT_DOMAIN, DIV.PHY_PLL_STATUS_DPHY_CLK_OK, DIV.PHY_PLL_STATUS_TMB_PLL_LOCKED, DIV.PHY_PLL_STATUS_DRAM_PLL_LOCKED]
/-- Every field of `DIV`. -/
def DIV.all : List Fld := DIV.all0

/-! `DMAP`: R361 -/
def DMAP.MAP_CFG_CH_MASK : Fld := fld 0x100 11 4 .sc 0 true
def DMAP.MAP_CFG_ORDER : Fld := fld 0x100 1 0 .sc 0 true
def DMAP.CH_BASE : Fld := fld 0xf00 31 0 .ro 0 false (stride := 0x4) (count := 8)
def DMAP.all0 : List Fld := [DMAP.MAP_CFG_CH_MASK, DMAP.MAP_CFG_ORDER, DMAP.CH_BASE]
/-- Every field of `DMAP`. -/
def DMAP.all : List Fld := DMAP.all0

/-! `DPOWER`: R362 -/
def DPOWER.PD_CFG_PD_EN : Fld := fld 0x100 31 31 .sc 1 false
def DPOWER.PD_CFG_PD_IDLE : Fld := fld 0x100 15 0 .sc 0xc0 true
def DPOWER.SR_CFG_SR_EN : Fld := fld 0x104 31 31 .sc 1 false
def DPOWER.SR_CFG_SR_IDLE : Fld := fld 0x104 19 0 .sc 0x1800 true
def DPOWER.SR_EXIT : Fld := fld 0x108 15 0 .sc 0x400 true
def DPOWER.WAKE_GUARD : Fld := fld 0x10c 19 0 .sc 0x2000 true
def DPOWER.SR_MIN : Fld := fld 0x110 19 0 .sc 0x1800 false
def DPOWER.BG_WAKE : Fld := fld 0x114 31 0 .sc 0x3a98000 true
def DPOWER.POWER_STATE_PD_ANY : Fld := fld 0xf00 15 8 .ro 0 false
def DPOWER.POWER_STATE_SR : Fld := fld 0xf00 7 0 .ro 0 false
def DPOWER.all0 : List Fld := [DPOWER.PD_CFG_PD_EN, DPOWER.PD_CFG_PD_IDLE, DPOWER.SR_CFG_SR_EN, DPOWER.SR_CFG_SR_IDLE, DPOWER.SR_EXIT, DPOWER.WAKE_GUARD, DPOWER.SR_MIN, DPOWER.BG_WAKE, DPOWER.POWER_STATE_PD_ANY, DPOWER.POWER_STATE_SR]
/-- Every field of `DPOWER`. -/
def DPOWER.all : List Fld := DPOWER.all0

/-! `DSCHED`: R362 -/
def DSCHED.SCHED_CFG : Fld := fld 0x100 7 0 .sc 0x10 true
def DSCHED.AGE_RT : Fld := fld 0x104 19 0 .sc 0x1000 true
def DSCHED.AGE_BE : Fld := fld 0x108 19 0 .sc 0x6000 true
def DSCHED.AGE_BG : Fld := fld 0x10c 19 0 .sc 0x96000 true
def DSCHED.all0 : List Fld := [DSCHED.SCHED_CFG, DSCHED.AGE_RT, DSCHED.AGE_BE, DSCHED.AGE_BG]
/-- Every field of `DSCHED`. -/
def DSCHED.all : List Fld := DSCHED.all0

/-! `DSI`: R146 -/
def DSI.LANE_CFG_LANE_MAP : Fld := fld 0x100 15 8 .sc 0xe4 true
def DSI.LANE_CFG_LANE_POL : Fld := fld 0x100 7 4 .sc 0 false
def DSI.LANE_CFG_CLK_POL : Fld := fld 0x100 3 3 .sc 0 false
def DSI.LANE_CFG_CLK_CONT : Fld := fld 0x100 2 2 .sc 1 false
def DSI.DPHY_T_HS_HS_EXIT : Fld := fld 0x104 31 24 .sc 0x1f true
def DSI.DPHY_T_HS_HS_TRAIL : Fld := fld 0x104 23 16 .sc 0x13 true
def DSI.DPHY_T_HS_HS_ZERO : Fld := fld 0x104 15 8 .sc 0x20 true
def DSI.DPHY_T_HS_HS_PREPARE : Fld := fld 0x104 7 0 .sc 0xe true
def DSI.DPHY_T_CLK_CLK_POST : Fld := fld 0x108 31 24 .sc 0x19 true
def DSI.DPHY_T_CLK_CLK_TRAIL : Fld := fld 0x108 23 16 .sc 0x13 true
def DSI.DPHY_T_CLK_CLK_ZERO : Fld := fld 0x108 15 8 .sc 0x50 true
def DSI.DPHY_T_CLK_CLK_PREPARE : Fld := fld 0x108 7 0 .sc 0xd true
def DSI.DPHY_T_LP_WAKEUP : Fld := fld 0x10c 31 16 .sc 0x258 true
def DSI.DPHY_T_LP_CLK_PRE : Fld := fld 0x10c 15 8 .sc 2 true
def DSI.DPHY_T_LP_LPX : Fld := fld 0x10c 7 0 .sc 0x10 true
def DSI.LINK_STATUS_CLAIMED : Fld := fld 0xf00 31 31 .ro 0 false
def DSI.LINK_STATUS_HEAD : Fld := fld 0xf00 26 24 .ro 0 false
def DSI.LINK_STATUS_STATE : Fld := fld 0xf00 1 0 .ro 0 false
def DSI.all0 : List Fld := [DSI.LANE_CFG_LANE_MAP, DSI.LANE_CFG_LANE_POL, DSI.LANE_CFG_CLK_POL, DSI.LANE_CFG_CLK_CONT, DSI.DPHY_T_HS_HS_EXIT, DSI.DPHY_T_HS_HS_TRAIL, DSI.DPHY_T_HS_HS_ZERO, DSI.DPHY_T_HS_HS_PREPARE, DSI.DPHY_T_CLK_CLK_POST, DSI.DPHY_T_CLK_CLK_TRAIL, DSI.DPHY_T_CLK_CLK_ZERO, DSI.DPHY_T_CLK_CLK_PREPARE, DSI.DPHY_T_LP_WAKEUP, DSI.DPHY_T_LP_CLK_PRE, DSI.DPHY_T_LP_LPX, DSI.LINK_STATUS_CLAIMED, DSI.LINK_STATUS_HEAD, DSI.LINK_STATUS_STATE]
/-- Every field of `DSI`. -/
def DSI.all : List Fld := DSI.all0

/-! `DSWEEP`: R361 -/
def DSWEEP.SWEPT : Fld := fld 0x100 31 0 .ro 0 false (stride := 0x4) (count := 4)
def DSWEEP.SWEEP_STATE_DONE : Fld := fld 0xf00 31 31 .ro 0 false
def DSWEEP.SWEEP_STATE_ACTIVE : Fld := fld 0xf00 30 30 .ro 0 false
def DSWEEP.SWEEP_STATE_CURRENT : Fld := fld 0xf00 7 0 .ro 0 false
def DSWEEP.JUMPS : Fld := fld 0xf04 31 0 .ro 0 false
def DSWEEP.all0 : List Fld := [DSWEEP.SWEPT, DSWEEP.SWEEP_STATE_DONE, DSWEEP.SWEEP_STATE_ACTIVE, DSWEEP.SWEEP_STATE_CURRENT, DSWEEP.JUMPS]
/-- Every field of `DSWEEP`. -/
def DSWEEP.all : List Fld := DSWEEP.all0

/-! `FBANK`: R482 -/
def FBANK.SRC_CFG_SEVERITY : Fld := fld 0x100 7 6 .sc 0 false (stride := 0x4) (count := 48)
def FBANK.SRC_CFG_ENABLE : Fld := fld 0x100 5 5 .sc 1 true (stride := 0x4) (count := 48)
def FBANK.SRC_CFG_FAULT_PIN : Fld := fld 0x100 4 4 .sc 0 true (stride := 0x4) (count := 48)
def FBANK.SRC_CFG_CHIP_RESET : Fld := fld 0x100 3 3 .sc 0 true (stride := 0x4) (count := 48)
def FBANK.SRC_CFG_BLOCK_RESET : Fld := fld 0x100 2 2 .sc 0 true (stride := 0x4) (count := 48)
def FBANK.SRC_CFG_NMI : Fld := fld 0x100 1 1 .sc 0 true (stride := 0x4) (count := 48)
def FBANK.SRC_CFG_INT : Fld := fld 0x100 0 0 .sc 0 true (stride := 0x4) (count := 48)
def FBANK.RAISED_LO : Fld := fld 0x200 31 0 .w1c 0 false
def FBANK.RAISED_HI : Fld := fld 0x204 15 0 .w1c 0 false
def FBANK.SRC_COUNT_PENDING : Fld := fld 0xf00 31 31 .ro 0 false (stride := 0x4) (count := 48)
def FBANK.SRC_COUNT_MASKED : Fld := fld 0xf00 30 30 .ro 0 false (stride := 0x4) (count := 48)
def FBANK.SRC_COUNT_HITS : Fld := fld 0xf00 15 0 .ro 0 false (stride := 0x4) (count := 48)
def FBANK.all0 : List Fld := [FBANK.SRC_CFG_SEVERITY, FBANK.SRC_CFG_ENABLE, FBANK.SRC_CFG_FAULT_PIN, FBANK.SRC_CFG_CHIP_RESET, FBANK.SRC_CFG_BLOCK_RESET, FBANK.SRC_CFG_NMI, FBANK.SRC_CFG_INT, FBANK.RAISED_LO, FBANK.RAISED_HI, FBANK.SRC_COUNT_PENDING, FBANK.SRC_COUNT_MASKED, FBANK.SRC_COUNT_HITS]
/-- Every field of `FBANK`. -/
def FBANK.all : List Fld := FBANK.all0

/-! `FCAP`: R481 -/
def FCAP.SLOT : Fld := fld 0x100 31 0 .ro 0 false (stride := 0x40) (count := 4) (stride2 := 4) (count2 := 16)
def FCAP.SLOT_CLEAR : Fld := fld 0x200 3 0 .w1s 0 false
def FCAP.SLOT_STATE : Fld := fld 0xf00 31 0 .ro 0 false
def FCAP.all0 : List Fld := [FCAP.SLOT, FCAP.SLOT_CLEAR, FCAP.SLOT_STATE]
/-- Every field of `FCAP`. -/
def FCAP.all : List Fld := FCAP.all0

/-! `FCOLL`: R480 -/
def FCOLL.COLL_CFG : Fld := fld 0x100 3 0 .sc 0xe false
def FCOLL.BUS_TIMEOUT : Fld := fld 0x104 19 0 .sc 0x3000 true
def FCOLL.NMI_ACK : Fld := fld 0x108 3 0 .w1s 0 false
def FCOLL.PIN_CTRL : Fld := fld 0x10c 0 0 .w1s 0 false
def FCOLL.INJECT_GO : Fld := fld 0x110 31 31 .wo 0 false
def FCOLL.INJECT_ARG : Fld := fld 0x110 24 9 .wo 0 false
def FCOLL.INJECT_SOURCE : Fld := fld 0x110 8 0 .wo 0 false
def FCOLL.SELF_INJECT : Fld := fld 0x114 15 0 .wo 0 false
def FCOLL.COLL_STATE_PIN_DRIVEN : Fld := fld 0xf00 31 31 .ro 0 false
def FCOLL.COLL_STATE_PIN_LOW : Fld := fld 0xf00 30 30 .ro 0 false
def FCOLL.COLL_STATE_PENDING : Fld := fld 0xf00 24 16 .ro 0 false
def FCOLL.COLL_STATE_NMI_OPEN : Fld := fld 0xf00 3 0 .ro 0 false
def FCOLL.all0 : List Fld := [FCOLL.COLL_CFG, FCOLL.BUS_TIMEOUT, FCOLL.NMI_ACK, FCOLL.PIN_CTRL, FCOLL.INJECT_GO, FCOLL.INJECT_ARG, FCOLL.INJECT_SOURCE, FCOLL.SELF_INJECT, FCOLL.COLL_STATE_PIN_DRIVEN, FCOLL.COLL_STATE_PIN_LOW, FCOLL.COLL_STATE_PENDING, FCOLL.COLL_STATE_NMI_OPEN]
/-- Every field of `FCOLL`. -/
def FCOLL.all : List Fld := FCOLL.all0

/-! `FCTL`: R412 -/
def FCTL.FENCE_SEL : Fld := fld 0x100 11 0 .sc 0 false
def FCTL.FENCE_CFG_IRQ : Fld := fld 0x104 31 31 .sc 0 false
def FCTL.FENCE_CFG_MIRROR : Fld := fld 0x104 30 30 .sc 0 false
def FCTL.FENCE_CFG_MSPACE : Fld := fld 0x104 29 28 .sc 0 true
def FCTL.FENCE_CFG_WAIT_SHARE : Fld := fld 0x104 23 12 .sc 0 true
def FCTL.FENCE_CFG_OWNER : Fld := fld 0x104 11 0 .sc 0 true
def FCTL.MIRROR_LO : Fld := fld 0x108 31 0 .sc 0 true
def FCTL.MIRROR_HI : Fld := fld 0x10c 31 0 .sc 0 true
def FCTL.READ_SEL : Fld := fld 0x140 11 0 .rw 0 false
def FCTL.READ_CFG : Fld := fld 0xf00 31 0 .ro 0 false
def FCTL.READ_MIRROR_LO : Fld := fld 0xf04 31 0 .ro 0 false
def FCTL.READ_MIRROR_HI : Fld := fld 0xf08 31 0 .ro 0 false
def FCTL.VALUE_LO : Fld := fld 0xf0c 31 0 .ro 0 false
def FCTL.VALUE_HI : Fld := fld 0xf10 31 0 .ro 0 false
def FCTL.all0 : List Fld := [FCTL.FENCE_SEL, FCTL.FENCE_CFG_IRQ, FCTL.FENCE_CFG_MIRROR, FCTL.FENCE_CFG_MSPACE, FCTL.FENCE_CFG_WAIT_SHARE, FCTL.FENCE_CFG_OWNER, FCTL.MIRROR_LO, FCTL.MIRROR_HI, FCTL.READ_SEL, FCTL.READ_CFG, FCTL.READ_MIRROR_LO, FCTL.READ_MIRROR_HI, FCTL.VALUE_LO, FCTL.VALUE_HI]
/-- Every field of `FCTL`. -/
def FCTL.all : List Fld := FCTL.all0

end Sys2Proof.Machine.F
end

