-- ==== Sys2Proof/Machine/FieldsB.lean ====
section
/-! DEFINITION. The register fields, part 2 of 3.
One constant per register field of the spec: offset, bits, access, reset, whether a check examines it,
and the stride and count of an indexed register.  The names are the spec's. -/

namespace Sys2Proof.Machine.F

/-! `FEVT`: R412 -/
def FEVT.SIGNALLED : Fld := fld 0x100 31 0 .w1c 0 false (stride := 0x4) (count := 128)
def FEVT.all0 : List Fld := [FEVT.SIGNALLED]
/-- Every field of `FEVT`. -/
def FEVT.all : List Fld := FEVT.all0

/-! `FSAFE`: R485 -/
def FSAFE.SAFE_STATE_ACTIVE : Fld := fld 0xf00 31 31 .ro 0 false
def FSAFE.SAFE_STATE_CAUSE : Fld := fld 0xf00 1 0 .ro 0 false
def FSAFE.MISMATCH_WORD : Fld := fld 0xf04 13 0 .ro 0 false
def FSAFE.SAFE_TS_LO : Fld := fld 0xf08 31 0 .ro 0 false
def FSAFE.SAFE_TS_HI : Fld := fld 0xf0c 31 0 .ro 0 false
def FSAFE.all0 : List Fld := [FSAFE.SAFE_STATE_ACTIVE, FSAFE.SAFE_STATE_CAUSE, FSAFE.MISMATCH_WORD, FSAFE.SAFE_TS_LO, FSAFE.SAFE_TS_HI]
/-- Every field of `FSAFE`. -/
def FSAFE.all : List Fld := FSAFE.all0

/-! `GCORE`: R211 -/
def GCORE.CORE_CFG : Fld := fld 0x100 15 0 .sc 0x1770 true
def GCORE.CORE_STATE_BUSY : Fld := fld 0xf00 31 31 .ro 0 false
def GCORE.CORE_STATE_TAG : Fld := fld 0xf00 11 0 .ro 0 false
def GCORE.CORE_TILE_TY : Fld := fld 0xf04 31 16 .ro 0 false
def GCORE.CORE_TILE_TX : Fld := fld 0xf04 15 0 .ro 0 false
def GCORE.all0 : List Fld := [GCORE.CORE_CFG, GCORE.CORE_STATE_BUSY, GCORE.CORE_STATE_TAG, GCORE.CORE_TILE_TY, GCORE.CORE_TILE_TX]
/-- Every field of `GCORE`. -/
def GCORE.all : List Fld := GCORE.all0

/-! `GFE`: R211, R212 -/
def GFE.CORE_MASK : Fld := fld 0x100 23 0 .sc 0 true
def GFE.JOB_VERSIONS_MAX : Fld := fld 0x104 15 8 .ro 1 false
def GFE.JOB_VERSIONS_MIN : Fld := fld 0x104 7 0 .ro 1 false
def GFE.FE_STATE_PASSES_ACTIVE : Fld := fld 0xf00 15 8 .ro 0 false
def GFE.FE_STATE_JOBS_ACTIVE : Fld := fld 0xf00 7 0 .ro 0 false
def GFE.FE_ERR_ADDR_LO : Fld := fld 0xf08 31 0 .ro 0 false
def GFE.FE_ERR_ADDR_HI : Fld := fld 0xf0c 31 0 .ro 0 false
def GFE.all0 : List Fld := [GFE.CORE_MASK, GFE.JOB_VERSIONS_MAX, GFE.JOB_VERSIONS_MIN, GFE.FE_STATE_PASSES_ACTIVE, GFE.FE_STATE_JOBS_ACTIVE, GFE.FE_ERR_ADDR_LO, GFE.FE_ERR_ADDR_HI]
/-- Every field of `GFE`. -/
def GFE.all : List Fld := GFE.all0

/-! `GL2`: R211 -/
def GL2.WAYMASK : Fld := fld 0x100 15 0 .sc 0xffff false (stride := 0x4) (count := 16)
def GL2.L2_CTRL : Fld := fld 0x140 0 0 .w1s 0 false
def GL2.SAVE_WAYS : Fld := fld 0x144 15 0 .sc 0xffff false
def GL2.all0 : List Fld := [GL2.WAYMASK, GL2.L2_CTRL, GL2.SAVE_WAYS]
/-- Every field of `GL2`. -/
def GL2.all : List Fld := GL2.all0

/-! `GSCHED`: R227 -/
def GSCHED.SCHED_CFG_K : Fld := fld 0x100 31 28 .sc 2 false
def GSCHED.SCHED_CFG_SHIFT : Fld := fld 0x100 27 24 .sc 3 true
def GSCHED.SCHED_CFG_SHARE_CAP : Fld := fld 0x100 15 0 .sc 0 false
def GSCHED.MARGIN : Fld := fld 0x104 23 0 .sc 0xf000 false
def GSCHED.DEFAULT_COST : Fld := fld 0x108 31 0 .sc 0x12c000 false
def GSCHED.EVAL_INTERVAL : Fld := fld 0x10c 15 0 .sc 0x1000 true
def GSCHED.TILE_WAIT : Fld := fld 0x110 10 0 .sc 0x400 true
def GSCHED.GUARD : Fld := fld 0x120 19 0 .sc 0x800 true (stride := 0x4) (count := 8)
def GSCHED.SAVE_BASE_LO : Fld := fld 0x140 31 16 .sc 0 true (stride := 0x8) (count := 16)
def GSCHED.SAVE_BASE_HI : Fld := fld 0x144 7 0 .sc 0 true (stride := 0x8) (count := 16)
def GSCHED.COST_CTRL_FLUSH_ALL : Fld := fld 0x1c0 16 16 .w1s 0 false
def GSCHED.COST_CTRL_FLUSH : Fld := fld 0x1c0 15 0 .w1s 0 false
def GSCHED.SCHED_STATE_SAVED : Fld := fld 0xf00 31 24 .ro 0 false
def GSCHED.SCHED_STATE_BOOSTED : Fld := fld 0xf00 23 16 .ro 0 false
def GSCHED.SCHED_STATE_DEADLINE_READY : Fld := fld 0xf00 15 8 .ro 0 false
def GSCHED.SCHED_STATE_COST_ENTRIES : Fld := fld 0xf00 6 0 .ro 0 false
def GSCHED.EDF_T_LO : Fld := fld 0xf08 31 0 .ro 0 false
def GSCHED.EDF_T_HI : Fld := fld 0xf0c 31 0 .ro 0 false
def GSCHED.PREEMPT_MAX : Fld := fld 0xf10 31 0 .ro 0 false
def GSCHED.USED : Fld := fld 0xf40 31 0 .ro 0 false (stride := 0x4) (count := 16)
def GSCHED.BUDGET : Fld := fld 0xf80 31 0 .ro 0 false (stride := 0x4) (count := 16)
def GSCHED.all0 : List Fld := [GSCHED.SCHED_CFG_K, GSCHED.SCHED_CFG_SHIFT, GSCHED.SCHED_CFG_SHARE_CAP, GSCHED.MARGIN, GSCHED.DEFAULT_COST, GSCHED.EVAL_INTERVAL, GSCHED.TILE_WAIT, GSCHED.GUARD, GSCHED.SAVE_BASE_LO, GSCHED.SAVE_BASE_HI, GSCHED.COST_CTRL_FLUSH_ALL, GSCHED.COST_CTRL_FLUSH, GSCHED.SCHED_STATE_SAVED, GSCHED.SCHED_STATE_BOOSTED, GSCHED.SCHED_STATE_DEADLINE_READY, GSCHED.SCHED_STATE_COST_ENTRIES, GSCHED.EDF_T_LO, GSCHED.EDF_T_HI, GSCHED.PREEMPT_MAX, GSCHED.USED, GSCHED.BUDGET]
/-- Every field of `GSCHED`. -/
def GSCHED.all : List Fld := GSCHED.all0

/-! `GSIG`: R211 -/
def GSIG.SIG_CFG : Fld := fld 0x100 0 0 .sc 1 false
def GSIG.all0 : List Fld := [GSIG.SIG_CFG]
/-- Every field of `GSIG`. -/
def GSIG.all : List Fld := GSIG.all0

/-! `GTEX`: R211 -/
def GTEX.TEX_CFG : Fld := fld 0x100 2 0 .sc 4 true
def GTEX.all0 : List Fld := [GTEX.TEX_CFG]
/-- Every field of `GTEX`. -/
def GTEX.all : List Fld := GTEX.all0

/-! `GTILER`: R211 -/
def GTILER.TILER_CFG : Fld := fld 0x100 2 0 .sc 2 true
def GTILER.all0 : List Fld := [GTILER.TILER_CFG]
/-- Every field of `GTILER`. -/
def GTILER.all : List Fld := GTILER.all0

/-! `HAP`: R295 -/
def HAP.STORE_SEL : Fld := fld 0x100 4 0 .rw 0 false
def HAP.STORE_ADDR_LO : Fld := fld 0x104 31 0 .rw 0 false
def HAP.STORE_ADDR_HI : Fld := fld 0x108 7 0 .rw 0 false
def HAP.STORE_OWNER : Fld := fld 0x10c 11 0 .rw 0 false
def HAP.STORE_CMD_FREE : Fld := fld 0x110 1 1 .w1s 0 false
def HAP.STORE_CMD_LOAD : Fld := fld 0x110 0 0 .w1s 0 false
def HAP.STORE_RESULT_BUSY : Fld := fld 0x114 31 31 .ro 0 false
def HAP.STORE_RESULT_REASON : Fld := fld 0x114 15 8 .ro 0 false
def HAP.STORE_RESULT_ARG : Fld := fld 0x114 7 0 .ro 0 false
def HAP.STORE_VALID : Fld := fld 0xf00 31 0 .ro 0 false
def HAP.all0 : List Fld := [HAP.STORE_SEL, HAP.STORE_ADDR_LO, HAP.STORE_ADDR_HI, HAP.STORE_OWNER, HAP.STORE_CMD_FREE, HAP.STORE_CMD_LOAD, HAP.STORE_RESULT_BUSY, HAP.STORE_RESULT_REASON, HAP.STORE_RESULT_ARG, HAP.STORE_VALID]
/-- Every field of `HAP`. -/
def HAP.all : List Fld := HAP.all0

/-! `HCHAN`: R296 -/
def HCHAN.CHAN_CFG : Fld := fld 0x100 0 0 .sc 0 false
def HCHAN.PEAK : Fld := fld 0x104 22 0 .sc 0x400000 true
def HCHAN.OD_MAX : Fld := fld 0x108 15 0 .sc 0x240 true
def HCHAN.LEN_MAX : Fld := fld 0x10c 31 0 .sc 0x2580 true
def HCHAN.BRAKE_MAX : Fld := fld 0x110 15 0 .sc 0x5a0 true
def HCHAN.BUDGET : Fld := fld 0x114 31 0 .sc 0xbb80000 true
def HCHAN.ENERGY_BLOCK : Fld := fld 0x118 15 0 .sc 0xbb8 true
def HCHAN.RCOIL : Fld := fld 0x11c 15 0 .sc 0x1000 false
def HCHAN.BRAKE_GAIN : Fld := fld 0x120 7 0 .sc 0x40 false
def HCHAN.VEL_V_FULL : Fld := fld 0x124 31 16 .sc 0x1f40 true
def HCHAN.VEL_VEL_THRESH : Fld := fld 0x124 15 0 .sc 0xc8 false
def HCHAN.F0 : Fld := fld 0x128 15 0 .sc 0xaa0 true
def HCHAN.TRIGGER_STOP : Fld := fld 0x130 9 9 .wo 0 false
def HCHAN.TRIGGER_GO : Fld := fld 0x130 8 8 .wo 0 false
def HCHAN.TRIGGER_EFFECT : Fld := fld 0x130 4 0 .wo 0 false
def HCHAN.CHAN_CMD : Fld := fld 0x134 0 0 .w1s 0 false
def HCHAN.CHAN_STATE_STATE : Fld := fld 0xf00 31 28 .ro 0 false
def HCHAN.CHAN_STATE_QUEUED : Fld := fld 0xf00 27 27 .ro 0 false
def HCHAN.CHAN_STATE_MUTED : Fld := fld 0xf00 26 26 .ro 0 false
def HCHAN.CHAN_STATE_SLOT : Fld := fld 0xf00 12 8 .ro 0 false
def HCHAN.CHAN_STATE_SEGMENT : Fld := fld 0xf00 2 0 .ro 0 false
def HCHAN.ENV : Fld := fld 0xf04 15 0 .ro 0 false
def HCHAN.ENERGY : Fld := fld 0xf08 31 0 .ro 0 false
def HCHAN.ONSET_TS_LO : Fld := fld 0xf0c 31 0 .ro 0 false
def HCHAN.ONSET_TS_HI : Fld := fld 0xf10 31 0 .ro 0 false
def HCHAN.all0 : List Fld := [HCHAN.CHAN_CFG, HCHAN.PEAK, HCHAN.OD_MAX, HCHAN.LEN_MAX, HCHAN.BRAKE_MAX, HCHAN.BUDGET, HCHAN.ENERGY_BLOCK, HCHAN.RCOIL, HCHAN.BRAKE_GAIN, HCHAN.VEL_V_FULL, HCHAN.VEL_VEL_THRESH, HCHAN.F0, HCHAN.TRIGGER_STOP, HCHAN.TRIGGER_GO, HCHAN.TRIGGER_EFFECT, HCHAN.CHAN_CMD, HCHAN.CHAN_STATE_STATE, HCHAN.CHAN_STATE_QUEUED, HCHAN.CHAN_STATE_MUTED, HCHAN.CHAN_STATE_SLOT, HCHAN.CHAN_STATE_SEGMENT, HCHAN.ENV, HCHAN.ENERGY, HCHAN.ONSET_TS_LO]
def HCHAN.all1 : List Fld := [HCHAN.ONSET_TS_HI]
/-- Every field of `HCHAN`. -/
def HCHAN.all : List Fld := HCHAN.all0 ++ HCHAN.all1

/-! `HDR`: R51, R56, R65, R66, R67, R68, R69, R70, R71, R93 -/
def HDR.PAGE_ID_BLOCK_TYPE : Fld := fld 0x0 31 16 .ro 0 false
def HDR.PAGE_ID_INSTANCE : Fld := fld 0x0 15 8 .ro 0 false
def HDR.PAGE_ID_LAYOUT : Fld := fld 0x0 7 0 .ro 0 false
def HDR.PAGE_CAPS_BLOCK_CAPS : Fld := fld 0x4 31 8 .ro 0 false
def HDR.PAGE_CAPS_TENANT_READ : Fld := fld 0x4 5 5 .ro 0 false
def HDR.PAGE_CAPS_HAS_QUIESCE : Fld := fld 0x4 4 4 .ro 0 false
def HDR.PAGE_CAPS_HAS_FENCE : Fld := fld 0x4 3 3 .ro 0 false
def HDR.PAGE_CAPS_HAS_AUTO : Fld := fld 0x4 2 2 .ro 0 false
def HDR.PAGE_CAPS_OPEN_READ : Fld := fld 0x4 1 1 .ro 0 false
def HDR.PAGE_CAPS_PRESENT : Fld := fld 0x4 0 0 .ro 0 false
def HDR.CTRL_COMMIT_ON_FENCE : Fld := fld 0x8 5 5 .rw 0 false
def HDR.CTRL_AUTO_COMMIT : Fld := fld 0x8 4 4 .rw 0 true
def HDR.CTRL_BLOCK_RESET : Fld := fld 0x8 3 3 .w1s 0 false
def HDR.CTRL_QUIESCE : Fld := fld 0x8 2 2 .rw 0 false
def HDR.CTRL_COMMIT : Fld := fld 0x8 1 1 .w1s 0 false
def HDR.CTRL_ENABLE : Fld := fld 0x8 0 0 .rw 0 false
def HDR.STATUS_COMMIT_QUEUED : Fld := fld 0xc 8 8 .ro 0 false
def HDR.STATUS_FENCE_WAIT : Fld := fld 0xc 7 7 .ro 0 false
def HDR.STATUS_CHECK_BUSY : Fld := fld 0xc 6 6 .ro 0 false
def HDR.STATUS_SECURE_HOLD : Fld := fld 0xc 5 5 .ro 0 false
def HDR.STATUS_CLOCK_OK : Fld := fld 0xc 4 4 .ro 0 false
def HDR.STATUS_QUIESCED : Fld := fld 0xc 3 3 .ro 0 false
def HDR.STATUS_COMMIT_ARMED : Fld := fld 0xc 2 2 .ro 0 false
def HDR.STATUS_IDLE : Fld := fld 0xc 1 1 .ro 1 false
def HDR.STATUS_ENABLED : Fld := fld 0xc 0 0 .ro 0 false
def HDR.CHECK_ATTEMPT : Fld := fld 0x10 31 24 .ro 0 false
def HDR.CHECK_BIT : Fld := fld 0x10 23 18 .ro 0 false
def HDR.CHECK_WORD : Fld := fld 0x10 17 8 .ro 0 false
def HDR.CHECK_REASON : Fld := fld 0x10 7 0 .ro 0 false
def HDR.CHECK_ARG : Fld := fld 0x14 31 0 .ro 0 false
def HDR.OWNER : Fld := fld 0x18 11 0 .rw 0 false
def HDR.CHECK_PAGE_VALID : Fld := fld 0x1c 4 4 .ro 0 false
def HDR.CHECK_PAGE_PAGE : Fld := fld 0x1c 3 0 .ro 0 false
def HDR.TS_ENABLE_LO : Fld := fld 0x20 31 0 .ro 0 false
def HDR.TS_ENABLE_HI : Fld := fld 0x24 31 0 .ro 0 false
def HDR.TS_APPLY_LO : Fld := fld 0x28 31 0 .ro 0 false
def HDR.TS_APPLY_HI : Fld := fld 0x2c 31 0 .ro 0 false
def HDR.INT_STATUS : Fld := fld 0x30 31 0 .w1c 0 false
def HDR.INT_ENABLE : Fld := fld 0x34 31 0 .rw 0 false
def HDR.INT_FORCE : Fld := fld 0x38 31 0 .wo 0 false
def HDR.PERIOD_SEQ : Fld := fld 0x40 31 0 .ro 0 false
def HDR.PERIOD_SRC : Fld := fld 0x44 4 0 .sc 0 true
def HDR.PERIOD_START_LO : Fld := fld 0x48 31 0 .ro 0 false
def HDR.PERIOD_START_HI : Fld := fld 0x4c 31 0 .ro 0 false
def HDR.PERIOD_LEN : Fld := fld 0x50 31 0 .ro 0 false
def HDR.FENCE_SEL : Fld := fld 0x58 11 0 .rw 0 true
def HDR.FENCE_VALUE_LO : Fld := fld 0x60 31 0 .rw 0 true
def HDR.FENCE_VALUE_HI : Fld := fld 0x64 31 0 .rw 0 true
def HDR.STAT : Fld := fld 0x80 31 0 .ro 0 false (stride := 0x4) (count := 32)
def HDR.all0 : List Fld := [HDR.PAGE_ID_BLOCK_TYPE, HDR.PAGE_ID_INSTANCE, HDR.PAGE_ID_LAYOUT, HDR.PAGE_CAPS_BLOCK_CAPS, HDR.PAGE_CAPS_TENANT_READ, HDR.PAGE_CAPS_HAS_QUIESCE, HDR.PAGE_CAPS_HAS_FENCE, HDR.PAGE_CAPS_HAS_AUTO, HDR.PAGE_CAPS_OPEN_READ, HDR.PAGE_CAPS_PRESENT, HDR.CTRL_COMMIT_ON_FENCE, HDR.CTRL_AUTO_COMMIT, HDR.CTRL_BLOCK_RESET, HDR.CTRL_QUIESCE, HDR.CTRL_COMMIT, HDR.CTRL_ENABLE, HDR.STATUS_COMMIT_QUEUED, HDR.STATUS_FENCE_WAIT, HDR.STATUS_CHECK_BUSY, HDR.STATUS_SECURE_HOLD, HDR.STATUS_CLOCK_OK, HDR.STATUS_QUIESCED, HDR.STATUS_COMMIT_ARMED, HDR.STATUS_IDLE]
def HDR.all1 : List Fld := [HDR.STATUS_ENABLED, HDR.CHECK_ATTEMPT, HDR.CHECK_BIT, HDR.CHECK_WORD, HDR.CHECK_REASON, HDR.CHECK_ARG, HDR.OWNER, HDR.CHECK_PAGE_VALID, HDR.CHECK_PAGE_PAGE, HDR.TS_ENABLE_LO, HDR.TS_ENABLE_HI, HDR.TS_APPLY_LO, HDR.TS_APPLY_HI, HDR.INT_STATUS, HDR.INT_ENABLE, HDR.INT_FORCE, HDR.PERIOD_SEQ, HDR.PERIOD_SRC, HDR.PERIOD_START_LO, HDR.PERIOD_START_HI, HDR.PERIOD_LEN, HDR.FENCE_SEL, HDR.FENCE_VALUE_LO, HDR.FENCE_VALUE_HI]
def HDR.all2 : List Fld := [HDR.STAT]
/-- Every field of `HDR`. -/
def HDR.all : List Fld := HDR.all0 ++ HDR.all1 ++ HDR.all2

/-! `HEAD`: R104, R138, R139 -/
def HEAD.H_TIMING_0_FP : Fld := fld 0x100 31 16 .sc 0 true
def HEAD.H_TIMING_0_ACTIVE : Fld := fld 0x100 15 0 .sc 0 true
def HEAD.H_TIMING_1_BP : Fld := fld 0x104 31 16 .sc 0 true
def HEAD.H_TIMING_1_SYNC : Fld := fld 0x104 15 0 .sc 0 true
def HEAD.V_TIMING_0_FP : Fld := fld 0x108 31 16 .sc 0 true
def HEAD.V_TIMING_0_ACTIVE : Fld := fld 0x108 15 0 .sc 0 true
def HEAD.V_TIMING_1_BP : Fld := fld 0x10c 31 16 .sc 0 true
def HEAD.V_TIMING_1_SYNC : Fld := fld 0x10c 15 0 .sc 0 true
def HEAD.RATE_NUM : Fld := fld 0x110 23 0 .sc 0 true
def HEAD.RATE_DEN : Fld := fld 0x114 23 0 .sc 1 true
def HEAD.SCAN_CFG_GENLOCK_HEAD : Fld := fld 0x118 12 10 .sc 0 true
def HEAD.SCAN_CFG_GENLOCK_SRC : Fld := fld 0x118 9 8 .sc 0 true
def HEAD.SCAN_CFG_PREFETCH_LEAD : Fld := fld 0x118 7 0 .sc 8 true
def HEAD.GENLOCK_OFFSET : Fld := fld 0x11c 31 0 .sc 0 true
def HEAD.GENLOCK_ORIGIN_LO : Fld := fld 0x120 31 0 .sc 0 true
def HEAD.GENLOCK_ORIGIN_HI : Fld := fld 0x124 31 0 .sc 0 true
def HEAD.HOLD_CFG_IDLE_FRAMES : Fld := fld 0x128 15 8 .sc 4 true
def HEAD.HOLD_CFG_AUTO : Fld := fld 0x128 0 0 .sc 0 false
def HEAD.HOLD_CMD_EXIT : Fld := fld 0x12c 1 1 .w1s 0 false
def HEAD.HOLD_CMD_CAPTURE : Fld := fld 0x12c 0 0 .w1s 0 false
def HEAD.COMP_CFG_COVERAGE : Fld := fld 0x300 1 1 .sc 1 false
def HEAD.COMP_CFG_Z_MODE : Fld := fld 0x300 0 0 .sc 0 false
def HEAD.BG_RG_R : Fld := fld 0x304 31 16 .sc 0 false
def HEAD.BG_RG_G : Fld := fld 0x304 15 0 .sc 0 false
def HEAD.BG_B : Fld := fld 0x308 15 0 .sc 0 false
def HEAD.ZLIST_LO : Fld := fld 0x30c 31 0 .sc 0x76543210 true
def HEAD.ZLIST_HI : Fld := fld 0x310 15 0 .sc 0xba98 true
def HEAD.CLIP_ORIGIN_Y : Fld := fld 0x340 31 16 .sc 0 false (stride := 0x8) (count := 12)
def HEAD.CLIP_ORIGIN_X : Fld := fld 0x340 15 0 .sc 0 false (stride := 0x8) (count := 12)
def HEAD.CLIP_END_Y : Fld := fld 0x344 31 16 .sc 0xffff false (stride := 0x8) (count := 12)
def HEAD.CLIP_END_X : Fld := fld 0x344 15 0 .sc 0xffff false (stride := 0x8) (count := 12)
def HEAD.FRAME_SEQ : Fld := fld 0xf00 31 0 .ro 0 false
def HEAD.LINE_POS_REGION : Fld := fld 0xf04 31 30 .ro 0 false
def HEAD.LINE_POS_LINE : Fld := fld 0xf04 15 0 .ro 0 false
def HEAD.SLACK_TS_LO : Fld := fld 0xf08 31 0 .ro 0 false
def HEAD.SLACK_TS_HI : Fld := fld 0xf0c 31 0 .ro 0 false
def HEAD.LAT_TOL : Fld := fld 0xf10 31 0 .ro 0xffffffff false
def HEAD.GENLOCK_STATE_LOST : Fld := fld 0xf14 2 2 .ro 0 false
def HEAD.GENLOCK_STATE_STATE : Fld := fld 0xf14 1 0 .ro 0 false
def HEAD.FRAME_TICKS : Fld := fld 0xf18 31 0 .ro 0 false
def HEAD.HOLD_STATUS_EXIT_CAUSE : Fld := fld 0xf1c 19 16 .ro 0 false
def HEAD.HOLD_STATUS_STATIC_FRAMES : Fld := fld 0xf1c 15 8 .ro 0 false
def HEAD.HOLD_STATUS_STATE : Fld := fld 0xf1c 1 0 .ro 0 false
def HEAD.all0 : List Fld := [HEAD.H_TIMING_0_FP, HEAD.H_TIMING_0_ACTIVE, HEAD.H_TIMING_1_BP, HEAD.H_TIMING_1_SYNC, HEAD.V_TIMING_0_FP, HEAD.V_TIMING_0_ACTIVE, HEAD.V_TIMING_1_BP, HEAD.V_TIMING_1_SYNC, HEAD.RATE_NUM, HEAD.RATE_DEN, HEAD.SCAN_CFG_GENLOCK_HEAD, HEAD.SCAN_CFG_GENLOCK_SRC, HEAD.SCAN_CFG_PREFETCH_LEAD, HEAD.GENLOCK_OFFSET, HEAD.GENLOCK_ORIGIN_LO, HEAD.GENLOCK_ORIGIN_HI, HEAD.HOLD_CFG_IDLE_FRAMES, HEAD.HOLD_CFG_AUTO, HEAD.HOLD_CMD_EXIT, HEAD.HOLD_CMD_CAPTURE, HEAD.COMP_CFG_COVERAGE, HEAD.COMP_CFG_Z_MODE, HEAD.BG_RG_R, HEAD.BG_RG_G]
def HEAD.all1 : List Fld := [HEAD.BG_B, HEAD.ZLIST_LO, HEAD.ZLIST_HI, HEAD.CLIP_ORIGIN_Y, HEAD.CLIP_ORIGIN_X, HEAD.CLIP_END_Y, HEAD.CLIP_END_X, HEAD.FRAME_SEQ, HEAD.LINE_POS_REGION, HEAD.LINE_POS_LINE, HEAD.SLACK_TS_LO, HEAD.SLACK_TS_HI, HEAD.LAT_TOL, HEAD.GENLOCK_STATE_LOST, HEAD.GENLOCK_STATE_STATE, HEAD.FRAME_TICKS, HEAD.HOLD_STATUS_EXIT_CAUSE, HEAD.HOLD_STATUS_STATIC_FRAMES, HEAD.HOLD_STATUS_STATE]
/-- Every field of `HEAD`. -/
def HEAD.all : List Fld := HEAD.all0 ++ HEAD.all1

/-! `HERR`: R401 -/
def HERR.ERR_HDR : Fld := fld 0xf00 31 0 .ro 0 false (stride := 0x4) (count := 4)
def HERR.all0 : List Fld := [HERR.ERR_HDR]
/-- Every field of `HERR`. -/
def HERR.all : List Fld := HERR.all0

/-! `HFUNC`: R401 -/
def HFUNC.FUNC_MAP_EN : Fld := fld 0x100 31 31 .sc 0 true (stride := 0x4) (count := 16)
def HFUNC.FUNC_MAP_TENANCY : Fld := fld 0x100 11 0 .sc 0 true (stride := 0x4) (count := 16)
def HFUNC.SRIOV_STATE : Fld := fld 0xf00 15 0 .ro 1 false
def HFUNC.all0 : List Fld := [HFUNC.FUNC_MAP_EN, HFUNC.FUNC_MAP_TENANCY, HFUNC.SRIOV_STATE]
/-- Every field of `HFUNC`. -/
def HFUNC.all : List Fld := HFUNC.all0

/-! `HMSIX`: R401 -/
def HMSIX.MSIX_STATE_ENABLE : Fld := fld 0xf00 31 31 .ro 0 false (stride := 0x4) (count := 16)
def HMSIX.MSIX_STATE_MASK : Fld := fld 0xf00 30 30 .ro 0 false (stride := 0x4) (count := 16)
def HMSIX.PENDING_LO_BITS : Fld := fld 0xf40 31 0 .ro 0 false (stride := 0x8) (count := 16)
def HMSIX.PENDING_LO_PENDING_LO : Fld := fld 0xf40 31 0 .ro 0 false (stride := 0x8) (count := 16)
def HMSIX.PENDING_HI : Fld := fld 0xf44 31 0 .ro 0 false (stride := 0x8) (count := 16)
def HMSIX.all0 : List Fld := [HMSIX.MSIX_STATE_ENABLE, HMSIX.MSIX_STATE_MASK, HMSIX.PENDING_LO_BITS, HMSIX.PENDING_LO_PENDING_LO, HMSIX.PENDING_HI]
/-- Every field of `HMSIX`. -/
def HMSIX.all : List Fld := HMSIX.all0

/-! `HOSTP`: R401 -/
def HOSTP.CPL_TIMEOUT : Fld := fld 0x100 24 0 .sc 0x5dc000 true
def HOSTP.PORT_INFO_UP : Fld := fld 0xf00 31 31 .ro 0 false
def HOSTP.PORT_INFO_MGR : Fld := fld 0xf00 8 8 .ro 0 false
def HOSTP.PORT_INFO_WIDTH : Fld := fld 0xf00 7 4 .ro 0 false
def HOSTP.PORT_INFO_SPEED : Fld := fld 0xf00 3 0 .ro 0 false
def HOSTP.all0 : List Fld := [HOSTP.CPL_TIMEOUT, HOSTP.PORT_INFO_UP, HOSTP.PORT_INFO_MGR, HOSTP.PORT_INFO_WIDTH, HOSTP.PORT_INFO_SPEED]
/-- Every field of `HOSTP`. -/
def HOSTP.all : List Fld := HOSTP.all0

/-! `HPORT`: R97, R297 -/
def HPORT.PORT_CFG_STOP_IN_STANDBY : Fld := fld 0x100 8 8 .sc 0 false
def HPORT.PORT_CFG_FS_LONG : Fld := fld 0x100 0 0 .sc 0 false
def HPORT.VER_LOCAL_FEATURES : Fld := fld 0x180 31 16 .rw 1 true
def HPORT.VER_LOCAL_MAX : Fld := fld 0x180 15 8 .rw 2 true
def HPORT.VER_LOCAL_MIN : Fld := fld 0x180 7 0 .rw 1 true
def HPORT.VER_STATUS_REASON : Fld := fld 0x184 31 24 .ro 0 false
def HPORT.VER_STATUS_PEER_MAX : Fld := fld 0x184 23 16 .ro 0 false
def HPORT.VER_STATUS_PEER_MIN : Fld := fld 0x184 15 8 .ro 0 false
def HPORT.VER_STATUS_CHOSEN : Fld := fld 0x184 7 0 .ro 0 false
def HPORT.VER_FEATURES_PEER : Fld := fld 0x188 31 16 .ro 0 false
def HPORT.VER_FEATURES_AGREED : Fld := fld 0x188 15 0 .ro 0 false
def HPORT.VER_TS_LO : Fld := fld 0x18c 31 0 .ro 0 false
def HPORT.VER_TS_HI : Fld := fld 0x190 31 0 .ro 0 false
def HPORT.PORT_CMD : Fld := fld 0x1a0 0 0 .w1s 0 false
def HPORT.PORT_STATE_STATUS_FAULT : Fld := fld 0xf00 23 20 .ro 0 false
def HPORT.PORT_STATE_FAULT_PIN : Fld := fld 0xf00 16 16 .ro 0 false
def HPORT.PORT_STATE_DOWN_CAUSE : Fld := fld 0xf00 11 8 .ro 0 false
def HPORT.PORT_STATE_STATE : Fld := fld 0xf00 1 0 .ro 0 false
def HPORT.FRAME_SEQ : Fld := fld 0xf04 31 0 .ro 0 false
def HPORT.all0 : List Fld := [HPORT.PORT_CFG_STOP_IN_STANDBY, HPORT.PORT_CFG_FS_LONG, HPORT.VER_LOCAL_FEATURES, HPORT.VER_LOCAL_MAX, HPORT.VER_LOCAL_MIN, HPORT.VER_STATUS_REASON, HPORT.VER_STATUS_PEER_MAX, HPORT.VER_STATUS_PEER_MIN, HPORT.VER_STATUS_CHOSEN, HPORT.VER_FEATURES_PEER, HPORT.VER_FEATURES_AGREED, HPORT.VER_TS_LO, HPORT.VER_TS_HI, HPORT.PORT_CMD, HPORT.PORT_STATE_STATUS_FAULT, HPORT.PORT_STATE_FAULT_PIN, HPORT.PORT_STATE_DOWN_CAUSE, HPORT.PORT_STATE_STATE, HPORT.FRAME_SEQ]
/-- Every field of `HPORT`. -/
def HPORT.all : List Fld := HPORT.all0

/-! `IDENT`: R551 -/
def IDENT.PART_ID_FAMILY : Fld := fld 0x100 31 16 .ro 0x4f38 false
def IDENT.PART_ID_PART : Fld := fld 0x100 15 8 .ro 0 false
def IDENT.PART_ID_DIE_REV : Fld := fld 0x100 7 0 .ro 0x10 false
def IDENT.RES_HEADS_DSI_MASK : Fld := fld 0x104 31 16 .ro 0 false
def IDENT.RES_HEADS_HEAD_MASK : Fld := fld 0x104 7 0 .ro 0 false
def IDENT.RES_CORES : Fld := fld 0x108 23 0 .ro 0 false
def IDENT.RES_IO_GRADE : Fld := fld 0x10c 31 31 .ro 0 false
def IDENT.RES_IO_PKG : Fld := fld 0x10c 30 30 .ro 0 false
def IDENT.RES_IO_TMB_MASK : Fld := fld 0x10c 29 28 .ro 0 false
def IDENT.RES_IO_TDM_MASK : Fld := fld 0x10c 27 24 .ro 0 false
def IDENT.RES_IO_HAP_MASK : Fld := fld 0x10c 23 16 .ro 0 false
def IDENT.RES_IO_TCH_MASK : Fld := fld 0x10c 15 12 .ro 0 false
def IDENT.RES_IO_HOST_MASK : Fld := fld 0x10c 9 8 .ro 0 false
def IDENT.RES_IO_DRAM_MASK : Fld := fld 0x10c 7 0 .ro 0 false
def IDENT.RES_MEM_TP_GRANULES : Fld := fld 0x110 31 16 .ro 0 false
def IDENT.RES_MEM_L2_KIB : Fld := fld 0x110 15 0 .ro 0x2000 false
def IDENT.FUSE_STATE : Fld := fld 0x114 31 31 .ro 0 false
def IDENT.JTAG_IDCODE : Fld := fld 0x118 31 0 .ro 0 false
def IDENT.UID : Fld := fld 0x120 31 0 .ro 0 false (stride := 0x4) (count := 4)
def IDENT.all0 : List Fld := [IDENT.PART_ID_FAMILY, IDENT.PART_ID_PART, IDENT.PART_ID_DIE_REV, IDENT.RES_HEADS_DSI_MASK, IDENT.RES_HEADS_HEAD_MASK, IDENT.RES_CORES, IDENT.RES_IO_GRADE, IDENT.RES_IO_PKG, IDENT.RES_IO_TMB_MASK, IDENT.RES_IO_TDM_MASK, IDENT.RES_IO_HAP_MASK, IDENT.RES_IO_TCH_MASK, IDENT.RES_IO_HOST_MASK, IDENT.RES_IO_DRAM_MASK, IDENT.RES_MEM_TP_GRANULES, IDENT.RES_MEM_L2_KIB, IDENT.FUSE_STATE, IDENT.JTAG_IDCODE, IDENT.UID]
/-- Every field of `IDENT`. -/
def IDENT.all : List Fld := IDENT.all0

/-! `IRQC`: R467 -/
def IRQC.SECURE : Fld := fld 0x100 31 0 .rw 0 false (stride := 0x4) (count := 128)
def IRQC.all0 : List Fld := [IRQC.SECURE]
/-- Every field of `IRQC`. -/
def IRQC.all : List Fld := IRQC.all0

/-! `LAYER`: R102, R103 -/
def LAYER.FORMAT_CHROMA_V : Fld := fld 0x100 15 15 .sc 1 false
def LAYER.FORMAT_CHROMA_H : Fld := fld 0x100 14 14 .sc 0 false
def LAYER.FORMAT_RANGE : Fld := fld 0x100 13 13 .sc 0 false
def LAYER.FORMAT_MATRIX : Fld := fld 0x100 12 11 .sc 0 true
def LAYER.FORMAT_TRANSFER : Fld := fld 0x100 10 8 .sc 0 true
def LAYER.FORMAT_ALPHA_MODE : Fld := fld 0x100 7 6 .sc 0 true
def LAYER.FORMAT_FMT : Fld := fld 0x100 5 0 .sc 0 true
def LAYER.BLEND_REFLEX_MODE : Fld := fld 0x104 19 18 .sc 0 true
def LAYER.BLEND_BLEND_MODE : Fld := fld 0x104 17 16 .sc 0 true
def LAYER.BLEND_GLOBAL_ALPHA : Fld := fld 0x104 15 0 .sc 0xffff false
def LAYER.LIN_GAIN : Fld := fld 0x108 15 0 .sc 0x4000 false
def LAYER.FALLBACK_RG_R : Fld := fld 0x10c 31 16 .sc 0 false
def LAYER.FALLBACK_RG_G : Fld := fld 0x10c 15 0 .sc 0 false
def LAYER.FALLBACK_BA_A : Fld := fld 0x110 31 16 .sc 0xffff false
def LAYER.FALLBACK_BA_B : Fld := fld 0x110 15 0 .sc 0 false
def LAYER.SRC_ORIGIN_Y : Fld := fld 0x114 31 16 .sc 0 true
def LAYER.SRC_ORIGIN_X : Fld := fld 0x114 15 0 .sc 0 true
def LAYER.SRC_SIZE_H : Fld := fld 0x118 31 16 .sc 1 true
def LAYER.SRC_SIZE_W : Fld := fld 0x118 15 0 .sc 1 true
def LAYER.DST_POS_Y : Fld := fld 0x11c 31 16 .sc 0 true
def LAYER.DST_POS_X : Fld := fld 0x11c 15 0 .sc 0 true
def LAYER.DST_SIZE_H : Fld := fld 0x120 31 16 .sc 1 true
def LAYER.DST_SIZE_W : Fld := fld 0x120 15 0 .sc 1 true
def LAYER.P0_ADDR_LO : Fld := fld 0x130 31 0 .sc 0 true
def LAYER.P0_ADDR_HI_SPACE : Fld := fld 0x134 31 31 .sc 0 true
def LAYER.P0_ADDR_HI_ADDR : Fld := fld 0x134 7 0 .sc 0 true
def LAYER.P0_STRIDE : Fld := fld 0x138 19 0 .sc 0 true
def LAYER.P1_ADDR_LO : Fld := fld 0x140 31 0 .sc 0 true
def LAYER.P1_ADDR_HI_SPACE : Fld := fld 0x144 31 31 .sc 0 true
def LAYER.P1_ADDR_HI_ADDR : Fld := fld 0x144 7 0 .sc 0 true
def LAYER.P1_STRIDE : Fld := fld 0x148 19 0 .sc 0 true
def LAYER.P2_ADDR_LO : Fld := fld 0x150 31 0 .sc 0 true
def LAYER.P2_ADDR_HI_SPACE : Fld := fld 0x154 31 31 .sc 0 true
def LAYER.P2_ADDR_HI_ADDR : Fld := fld 0x154 7 0 .sc 0 true
def LAYER.P2_STRIDE : Fld := fld 0x158 19 0 .sc 0 true
def LAYER.SCALE_H_INIT : Fld := fld 0x160 19 0 .sc 0 false
def LAYER.SCALE_V_INIT : Fld := fld 0x164 19 0 .sc 0 false
def LAYER.SCALE_BANK_V_BANK : Fld := fld 0x170 3 2 .sc 0 true
def LAYER.SCALE_BANK_H_BANK : Fld := fld 0x170 1 0 .sc 0 true
def LAYER.REFLEX_CTL_CLEAR_REQ : Fld := fld 0x180 1 1 .w1s 0 false
def LAYER.REFLEX_CTL_SET_REQ : Fld := fld 0x180 0 0 .w1s 0 false
def LAYER.COEF_SEL_TAP : Fld := fld 0x190 11 9 .rw 0 false
def LAYER.COEF_SEL_PHASE : Fld := fld 0x190 8 3 .rw 0 false
def LAYER.COEF_SEL_DIR : Fld := fld 0x190 2 2 .rw 0 false
def LAYER.COEF_SEL_BANK : Fld := fld 0x190 1 0 .rw 0 false
def LAYER.COEF_DATA : Fld := fld 0x194 11 0 .rw 0 false
def LAYER.LAYER_STATE_BANDS_SUPPRESSED : Fld := fld 0xf00 31 16 .ro 0 false
def LAYER.LAYER_STATE_FALLBACK : Fld := fld 0xf00 2 2 .ro 0 false
def LAYER.LAYER_STATE_REFLEX_STATE : Fld := fld 0xf00 1 1 .ro 0 false
def LAYER.LAYER_STATE_VISIBLE : Fld := fld 0xf00 0 0 .ro 0 false
def LAYER.COEF_BUSY : Fld := fld 0xf04 3 0 .ro 0 false
def LAYER.H_STEP : Fld := fld 0xf08 19 0 .ro 0x10000 false
def LAYER.V_STEP : Fld := fld 0xf0c 19 0 .ro 0x10000 false
def LAYER.all0 : List Fld := [LAYER.FORMAT_CHROMA_V, LAYER.FORMAT_CHROMA_H, LAYER.FORMAT_RANGE, LAYER.FORMAT_MATRIX, LAYER.FORMAT_TRANSFER, LAYER.FORMAT_ALPHA_MODE, LAYER.FORMAT_FMT, LAYER.BLEND_REFLEX_MODE, LAYER.BLEND_BLEND_MODE, LAYER.BLEND_GLOBAL_ALPHA, LAYER.LIN_GAIN, LAYER.FALLBACK_RG_R, LAYER.FALLBACK_RG_G, LAYER.FALLBACK_BA_A, LAYER.FALLBACK_BA_B, LAYER.SRC_ORIGIN_Y, LAYER.SRC_ORIGIN_X, LAYER.SRC_SIZE_H, LAYER.SRC_SIZE_W, LAYER.DST_POS_Y, LAYER.DST_POS_X, LAYER.DST_SIZE_H, LAYER.DST_SIZE_W, LAYER.P0_ADDR_LO]
def LAYER.all1 : List Fld := [LAYER.P0_ADDR_HI_SPACE, LAYER.P0_ADDR_HI_ADDR, LAYER.P0_STRIDE, LAYER.P1_ADDR_LO, LAYER.P1_ADDR_HI_SPACE, LAYER.P1_ADDR_HI_ADDR, LAYER.P1_STRIDE, LAYER.P2_ADDR_LO, LAYER.P2_ADDR_HI_SPACE, LAYER.P2_ADDR_HI_ADDR, LAYER.P2_STRIDE, LAYER.SCALE_H_INIT, LAYER.SCALE_V_INIT, LAYER.SCALE_BANK_V_BANK, LAYER.SCALE_BANK_H_BANK, LAYER.REFLEX_CTL_CLEAR_REQ, LAYER.REFLEX_CTL_SET_REQ, LAYER.COEF_SEL_TAP, LAYER.COEF_SEL_PHASE, LAYER.COEF_SEL_DIR, LAYER.COEF_SEL_BANK, LAYER.COEF_DATA, LAYER.LAYER_STATE_BANDS_SUPPRESSED, LAYER.LAYER_STATE_FALLBACK]
def LAYER.all2 : List Fld := [LAYER.LAYER_STATE_REFLEX_STATE, LAYER.LAYER_STATE_VISIBLE, LAYER.COEF_BUSY, LAYER.H_STEP, LAYER.V_STEP]
/-- Every field of `LAYER`. -/
def LAYER.all : List Fld := LAYER.all0 ++ LAYER.all1 ++ LAYER.all2

/-! `MBOX`: R467 -/
def MBOX.REQ : Fld := fld 0x100 31 0 .rw 0 false (stride := 0x100) (count := 4) (stride2 := 4) (count2 := 16)
def MBOX.RSP : Fld := fld 0x140 31 0 .rw 0 false (stride := 0x100) (count := 4) (stride2 := 4) (count2 := 16)
def MBOX.CHAN_OWNER : Fld := fld 0x180 11 0 .rw 0 false (stride := 0x100) (count := 4)
def MBOX.CHAN_CMD_DONE : Fld := fld 0x184 1 1 .w1s 0 false (stride := 0x100) (count := 4)
def MBOX.CHAN_CMD_POST : Fld := fld 0x184 0 0 .w1s 0 false (stride := 0x100) (count := 4)
def MBOX.CHAN_STATE_OVERRUN : Fld := fld 0x188 1 1 .w1c 0 false (stride := 0x100) (count := 4)
def MBOX.CHAN_STATE_BUSY : Fld := fld 0x188 0 0 .ro 0 false (stride := 0x100) (count := 4)
def MBOX.POST_TS_LO : Fld := fld 0x190 31 0 .ro 0 false (stride := 0x100) (count := 4)
def MBOX.POST_TS_HI : Fld := fld 0x194 31 0 .ro 0 false (stride := 0x100) (count := 4)
def MBOX.all0 : List Fld := [MBOX.REQ, MBOX.RSP, MBOX.CHAN_OWNER, MBOX.CHAN_CMD_DONE, MBOX.CHAN_CMD_POST, MBOX.CHAN_STATE_OVERRUN, MBOX.CHAN_STATE_BUSY, MBOX.POST_TS_LO, MBOX.POST_TS_HI]
/-- Every field of `MBOX`. -/
def MBOX.all : List Fld := MBOX.all0

/-! `MBUCKET`: R389 -/
def MBUCKET.BUCKET_CFG_WEIGHT : Fld := fld 0x100 31 28 .sc 1 true (stride := 0x8) (count := 10)
def MBUCKET.BUCKET_CFG_SCRUB_WEIGHT : Fld := fld 0x100 27 24 .sc 1 false (stride := 0x8) (count := 10)
def MBUCKET.BUCKET_CFG_LIMIT : Fld := fld 0x100 15 0 .sc 0x40 true (stride := 0x8) (count := 10)
def MBUCKET.BUCKET_LEAK : Fld := fld 0x104 23 0 .sc 0xea60 true (stride := 0x8) (count := 10)
def MBUCKET.LEVEL : Fld := fld 0xf00 15 0 .ro 0 false (stride := 0x8) (count := 10)
def MBUCKET.OVERFLOWS : Fld := fld 0xf04 31 0 .ro 0 false (stride := 0x8) (count := 10)
def MBUCKET.all0 : List Fld := [MBUCKET.BUCKET_CFG_WEIGHT, MBUCKET.BUCKET_CFG_SCRUB_WEIGHT, MBUCKET.BUCKET_CFG_LIMIT, MBUCKET.BUCKET_LEAK, MBUCKET.LEVEL, MBUCKET.OVERFLOWS]
/-- Every field of `MBUCKET`. -/
def MBUCKET.all : List Fld := MBUCKET.all0

/-! `MEASURE`: R467 -/
def MEASURE.MREG : Fld := fld 0x100 31 0 .ro 0 false (stride := 0x30) (count := 16) (stride2 := 4) (count2 := 12)
def MEASURE.CMEAS_SEL : Fld := fld 0x400 5 0 .rw 0 false
def MEASURE.CMEAS : Fld := fld 0x404 31 0 .ro 0 false (stride := 0x4) (count := 12)
def MEASURE.EXTEND_DATA : Fld := fld 0x440 31 0 .wo 0 false (stride := 0x4) (count := 12)
def MEASURE.EXTEND_CMD_GO : Fld := fld 0x470 31 31 .wo 0 false
def MEASURE.EXTEND_CMD_TARGET : Fld := fld 0x470 6 0 .wo 0 false
def MEASURE.RESTART_COUNT : Fld := fld 0xf00 31 0 .ro 0 false
def MEASURE.all0 : List Fld := [MEASURE.MREG, MEASURE.CMEAS_SEL, MEASURE.CMEAS, MEASURE.EXTEND_DATA, MEASURE.EXTEND_CMD_GO, MEASURE.EXTEND_CMD_TARGET, MEASURE.RESTART_COUNT]
/-- Every field of `MEASURE`. -/
def MEASURE.all : List Fld := MEASURE.all0

/-! `MLOG`: R391 -/
def MLOG.LOG_RD : Fld := fld 0x100 5 0 .rw 0 false
def MLOG.LOG_POP : Fld := fld 0x104 0 0 .w1s 0 false
def MLOG.LOG_STATE_LOST : Fld := fld 0xef0 31 16 .ro 0 false
def MLOG.LOG_STATE_COUNT : Fld := fld 0xef0 6 0 .ro 0 false
def MLOG.ENTRY : Fld := fld 0xf00 31 0 .ro 0 false (stride := 0x4) (count := 8)
def MLOG.all0 : List Fld := [MLOG.LOG_RD, MLOG.LOG_POP, MLOG.LOG_STATE_LOST, MLOG.LOG_STATE_COUNT, MLOG.ENTRY]
/-- Every field of `MLOG`. -/
def MLOG.all : List Fld := MLOG.all0

/-! `MMODE`: R388 -/
def MMODE.MEM_SEL : Fld := fld 0x100 6 0 .rw 0 false
def MMODE.MEM_STATE_PRESENT : Fld := fld 0xf00 31 31 .ro 0 false
def MMODE.MEM_STATE_PHASE : Fld := fld 0xf00 30 28 .ro 0 false
def MMODE.MEM_STATE_MODE : Fld := fld 0xf00 27 27 .ro 1 false
def MMODE.MEM_STATE_PTR : Fld := fld 0xf00 22 0 .ro 0 false
def MMODE.CONVERT_STATE_DONE : Fld := fld 0xf04 31 31 .ro 0 false
def MMODE.CONVERT_STATE_BANK : Fld := fld 0xf04 6 0 .ro 0 false
def MMODE.all0 : List Fld := [MMODE.MEM_SEL, MMODE.MEM_STATE_PRESENT, MMODE.MEM_STATE_PHASE, MMODE.MEM_STATE_MODE, MMODE.MEM_STATE_PTR, MMODE.CONVERT_STATE_DONE, MMODE.CONVERT_STATE_BANK]
/-- Every field of `MMODE`. -/
def MMODE.all : List Fld := MMODE.all0

/-! `MODE`: R23, R24, R581 -/
def MODE.MODE_STATE_PREVIOUS : Fld := fld 0x100 11 8 .ro 2 false
def MODE.MODE_STATE_IN_TRANSITION : Fld := fld 0x100 7 7 .ro 0 false
def MODE.MODE_STATE_CURRENT : Fld := fld 0x100 3 0 .ro 2 false
def MODE.MODE_REQUEST_RESULT : Fld := fld 0x104 15 8 .ro 0 false
def MODE.MODE_REQUEST_TARGET : Fld := fld 0x104 3 0 .rw 0 true
def MODE.MODE_TS_LO : Fld := fld 0x108 31 0 .ro 0 false
def MODE.MODE_TS_HI : Fld := fld 0x10c 31 0 .ro 0 false
def MODE.TEMP : Fld := fld 0x200 15 0 .ro 0 false (stride := 0x4) (count := 4)
def MODE.THERM_CFG_WARN_C : Fld := fld 0x210 15 8 .sc 0 true
def MODE.THERM_CFG_HYST_C : Fld := fld 0x210 7 0 .sc 5 true
def MODE.THERM_TRIP : Fld := fld 0x214 7 0 .ro 0 false
def MODE.all0 : List Fld := [ MODE.MODE_STATE_PREVIOUS, MODE.MODE_STATE_IN_TRANSITION, MODE.MODE_STATE_CURRENT, MODE.MODE_REQUEST_RESULT, MODE.MODE_REQUEST_TARGET, MODE.MODE_TS_LO, MODE.MODE_TS_HI, MODE.TEMP, MODE.THERM_CFG_WARN_C, MODE.THERM_CFG_HYST_C, MODE.THERM_TRIP]
/-- Every field of `MODE`. -/
def MODE.all : List Fld := MODE.all0

/-! `MSCRUB`: R390 -/
def MSCRUB.AUDIT_CFG_AUDIT_EN : Fld := fld 0x100 31 31 .sc 1 false
def MSCRUB.AUDIT_CFG_AUDIT_PERIOD : Fld := fld 0x100 23 0 .sc 0x5b8d80 true
def MSCRUB.K_SCRUB_CFG_K_SCRUB_EN : Fld := fld 0x104 31 31 .sc 1 false
def MSCRUB.K_SCRUB_CFG_K_SCRUB_STEP : Fld := fld 0x104 15 0 .sc 0x40 true
def MSCRUB.SCRUB_CFG_SCRUB_EN : Fld := fld 0x108 31 31 .sc 1 false
def MSCRUB.SCRUB_CFG_SCRUB_STEP : Fld := fld 0x108 19 0 .sc 0x400 true
def MSCRUB.AUDIT_STATE_BANK : Fld := fld 0xf00 31 24 .ro 0 false
def MSCRUB.AUDIT_STATE_PHASE : Fld := fld 0xf00 23 21 .ro 0 false
def MSCRUB.AUDIT_ROUNDS : Fld := fld 0xf04 31 0 .ro 0 false
def MSCRUB.OVERRUNS_ABANDONED : Fld := fld 0xf08 31 16 .ro 0 false
def MSCRUB.OVERRUNS_LATE : Fld := fld 0xf08 15 0 .ro 0 false
def MSCRUB.SCRUB_PTR_LO : Fld := fld 0xf0c 31 0 .ro 0 false
def MSCRUB.SCRUB_PTR_HI : Fld := fld 0xf10 7 0 .ro 0 false
def MSCRUB.SCRUB_PASSES : Fld := fld 0xf14 31 0 .ro 0 false
def MSCRUB.all0 : List Fld := [MSCRUB.AUDIT_CFG_AUDIT_EN, MSCRUB.AUDIT_CFG_AUDIT_PERIOD, MSCRUB.K_SCRUB_CFG_K_SCRUB_EN, MSCRUB.K_SCRUB_CFG_K_SCRUB_STEP, MSCRUB.SCRUB_CFG_SCRUB_EN, MSCRUB.SCRUB_CFG_SCRUB_STEP, MSCRUB.AUDIT_STATE_BANK, MSCRUB.AUDIT_STATE_PHASE, MSCRUB.AUDIT_ROUNDS, MSCRUB.OVERRUNS_ABANDONED, MSCRUB.OVERRUNS_LATE, MSCRUB.SCRUB_PTR_LO, MSCRUB.SCRUB_PTR_HI, MSCRUB.SCRUB_PASSES]
/-- Every field of `MSCRUB`. -/
def MSCRUB.all : List Fld := MSCRUB.all0

/-! `OTP`: R97, R509 -/
def OTP.OTP_ADDR : Fld := fld 0x100 13 0 .rw 0 false
def OTP.OTP_DATA : Fld := fld 0x104 31 0 .rw 0 false
def OTP.OTP_CMD_KEY : Fld := fld 0x108 31 16 .wo 0 false
def OTP.OTP_CMD_PROGRAM : Fld := fld 0x108 1 1 .wo 0 false
def OTP.OTP_CMD_READ : Fld := fld 0x108 0 0 .wo 0 false
def OTP.OTP_RESULT_BUSY : Fld := fld 0x10c 31 31 .ro 0 false
def OTP.OTP_RESULT_REASON : Fld := fld 0x10c 15 8 .ro 0 false
def OTP.SHADOW_SEL_KEY : Fld := fld 0x110 23 8 .rw 0 false
def OTP.SHADOW_SEL_KIND : Fld := fld 0x110 7 0 .rw 0 false
def OTP.RCV_CTRL_GO : Fld := fld 0x114 31 31 .wo 0 false
def OTP.RCV_CTRL_SIZE : Fld := fld 0x114 15 0 .wo 0 false
def OTP.VER_LOCAL_FEATURES : Fld := fld 0x180 31 16 .rw 0 true
def OTP.VER_LOCAL_MAX : Fld := fld 0x180 15 8 .rw 1 true
def OTP.VER_LOCAL_MIN : Fld := fld 0x180 7 0 .rw 1 true
def OTP.VER_STATUS_REASON : Fld := fld 0x184 31 24 .ro 0 false
def OTP.VER_STATUS_PEER_MAX : Fld := fld 0x184 23 16 .ro 0 false
def OTP.VER_STATUS_PEER_MIN : Fld := fld 0x184 15 8 .ro 0 false
def OTP.VER_STATUS_CHOSEN : Fld := fld 0x184 7 0 .ro 0 false
def OTP.VER_FEATURES_PEER : Fld := fld 0x188 31 16 .ro 0 false
def OTP.VER_FEATURES_AGREED : Fld := fld 0x188 15 0 .ro 0 false
def OTP.VER_TS_LO : Fld := fld 0x18c 31 0 .ro 0 false
def OTP.VER_TS_HI : Fld := fld 0x190 31 0 .ro 0 false
def OTP.OPT_STATE_LOADED : Fld := fld 0xf00 31 31 .ro 0 false
def OTP.OPT_STATE_FAILS : Fld := fld 0xf00 30 29 .ro 0 false
def OTP.OPT_STATE_IGNORED : Fld := fld 0xf00 19 10 .ro 0 false
def OTP.OPT_STATE_INVALID : Fld := fld 0xf00 9 0 .ro 0 false
def OTP.FIRST_BLANK : Fld := fld 0xf04 9 0 .ro 0 false
def OTP.RCV_STATE : Fld := fld 0xf08 1 0 .ro 0 false
def OTP.SHADOW : Fld := fld 0xf40 31 0 .ro 0 false (stride := 0x4) (count := 16)
def OTP.all0 : List Fld := [OTP.OTP_ADDR, OTP.OTP_DATA, OTP.OTP_CMD_KEY, OTP.OTP_CMD_PROGRAM, OTP.OTP_CMD_READ, OTP.OTP_RESULT_BUSY, OTP.OTP_RESULT_REASON, OTP.SHADOW_SEL_KEY, OTP.SHADOW_SEL_KIND, OTP.RCV_CTRL_GO, OTP.RCV_CTRL_SIZE, OTP.VER_LOCAL_FEATURES, OTP.VER_LOCAL_MAX, OTP.VER_LOCAL_MIN, OTP.VER_STATUS_REASON, OTP.VER_STATUS_PEER_MAX, OTP.VER_STATUS_PEER_MIN, OTP.VER_STATUS_CHOSEN, OTP.VER_FEATURES_PEER, OTP.VER_FEATURES_AGREED, OTP.VER_TS_LO, OTP.VER_TS_HI, OTP.OPT_STATE_LOADED, OTP.OPT_STATE_FAILS]
def OTP.all1 : List Fld := [OTP.OPT_STATE_IGNORED, OTP.OPT_STATE_INVALID, OTP.FIRST_BLANK, OTP.RCV_STATE, OTP.SHADOW]
/-- Every field of `OTP`. -/
def OTP.all : List Fld := OTP.all0 ++ OTP.all1

end Sys2Proof.Machine.F
end

