-- ==== Sys2Proof/Machine/FieldsC.lean ====
section
/-! DEFINITION. The register fields, part 3 of 3.
One constant per register field of the spec: offset, bits, access, reset, whether a check examines it,
and the stride and count of an indexed register.  The names are the spec's. -/

namespace Sys2Proof.Machine.F

/-! `OUTPUT`: R142 -/
def OUTPUT.LINK_BIND_LANES : Fld := fld 0x100 18 17 .sc 3 true
def OUTPUT.LINK_BIND_DEPTH : Fld := fld 0x100 16 16 .sc 0 true
def OUTPUT.LINK_BIND_DUAL : Fld := fld 0x100 15 15 .sc 0 true
def OUTPUT.LINK_BIND_LINK_B : Fld := fld 0x100 12 8 .sc 0x1f true
def OUTPUT.LINK_BIND_LINK_A : Fld := fld 0x100 4 0 .sc 0x1f true
def OUTPUT.LINK_OPTS_LP_IN_BLANK : Fld := fld 0x104 1 1 .sc 1 false
def OUTPUT.LINK_OPTS_EOTP : Fld := fld 0x104 0 0 .sc 1 false
def OUTPUT.CLAIM_STATE_CLAIM_A : Fld := fld 0xf00 31 31 .ro 0 false
def OUTPUT.CLAIM_STATE_CLAIM_B : Fld := fld 0xf00 30 30 .ro 0 false
def OUTPUT.CLAIM_STATE_LINK_B : Fld := fld 0xf00 12 8 .ro 0x1f false
def OUTPUT.CLAIM_STATE_LINK_A : Fld := fld 0xf00 4 0 .ro 0x1f false
def OUTPUT.all0 : List Fld := [OUTPUT.LINK_BIND_LANES, OUTPUT.LINK_BIND_DEPTH, OUTPUT.LINK_BIND_DUAL, OUTPUT.LINK_BIND_LINK_B, OUTPUT.LINK_BIND_LINK_A, OUTPUT.LINK_OPTS_LP_IN_BLANK, OUTPUT.LINK_OPTS_EOTP, OUTPUT.CLAIM_STATE_CLAIM_A, OUTPUT.CLAIM_STATE_CLAIM_B, OUTPUT.CLAIM_STATE_LINK_B, OUTPUT.CLAIM_STATE_LINK_A]
/-- Every field of `OUTPUT`. -/
def OUTPUT.all : List Fld := OUTPUT.all0

/-! `PANEL`: R97, R268 -/
def PANEL.LINK_CFG_DUAL_IN : Fld := fld 0x100 8 8 .sc 1 true
def PANEL.LINK_CFG_SCK_DIV : Fld := fld 0x100 7 0 .sc 5 true
def PANEL.PANEL_SIZE_GROUP_ROWS : Fld := fld 0x104 17 16 .sc 2 true
def PANEL.PANEL_SIZE_COLS : Fld := fld 0x104 14 8 .sc 0x40 true
def PANEL.PANEL_SIZE_ROWS : Fld := fld 0x104 6 0 .sc 0x60 true
def PANEL.STEP_CFG_PULSES : Fld := fld 0x108 31 24 .sc 4 true
def PANEL.STEP_CFG_STEP_TICKS : Fld := fld 0x108 15 0 .sc 0x1900 true
def PANEL.FRAME_TICKS : Fld := fld 0x10c 31 0 .sc 0x271000 true
def PANEL.DOZE_TICKS : Fld := fld 0x110 31 0 .sc 0x1770000 true
def PANEL.DOZE_CFG_DOZE_IDLE : Fld := fld 0x114 31 16 .sc 0x3c0 false
def PANEL.DOZE_CFG_APPROACH_COUNT : Fld := fld 0x114 15 8 .sc 2 true
def PANEL.THRESH_LIFT_THRESH : Fld := fld 0x118 31 16 .sc 0x30 true
def PANEL.THRESH_TOUCH_THRESH : Fld := fld 0x118 15 0 .sc 0x50 true
def PANEL.THRESH_2_SUSPECT_THRESH : Fld := fld 0x11c 31 16 .sc 0xc8 true
def PANEL.THRESH_2_APPROACH_THRESH : Fld := fld 0x11c 15 0 .sc 0x40 true
def PANEL.FOLLOW_CFG_CLEAR_FRAMES : Fld := fld 0x120 31 24 .sc 8 true
def PANEL.FOLLOW_CFG_LOSS_FRAMES : Fld := fld 0x120 23 20 .sc 3 true
def PANEL.FOLLOW_CFG_ACQ_FRAMES : Fld := fld 0x120 19 16 .sc 3 false
def PANEL.FOLLOW_CFG_FOLLOW_SHIFT : Fld := fld 0x120 3 0 .sc 6 true
def PANEL.TRACK_CFG_REPORT_ALL : Fld := fld 0x124 16 16 .sc 0 false
def PANEL.TRACK_CFG_TRACK_DIST : Fld := fld 0x124 15 0 .sc 0xc0 false
def PANEL.STUCK_MS : Fld := fld 0x128 31 0 .sc 0x927c0 false
def PANEL.NOISE_CFG_NOISE_THRESH : Fld := fld 0x12c 31 16 .sc 0x190 false
def PANEL.NOISE_CFG_NOISE_FRAMES : Fld := fld 0x12c 15 8 .sc 3 true
def PANEL.NOISE_CFG_FREQ_COUNT : Fld := fld 0x12c 1 0 .sc 3 false
def PANEL.FREQ_GAIN : Fld := fld 0x130 31 24 .sc 0x80 false (stride := 0x4) (count := 4)
def PANEL.FREQ_PERIOD : Fld := fld 0x130 15 0 .sc 0xfa true (stride := 0x4) (count := 4)
def PANEL.REF_CFG : Fld := fld 0x140 1 0 .sc 0 true
def PANEL.REF_ADDR_LO : Fld := fld 0x144 31 0 .sc 0 true
def PANEL.REF_ADDR_HI : Fld := fld 0x148 7 0 .sc 0 true
def PANEL.RING_ADDR_LO : Fld := fld 0x150 31 0 .sc 0 true
def PANEL.RING_ADDR_HI : Fld := fld 0x154 7 0 .sc 0 true
def PANEL.RING_CFG : Fld := fld 0x158 3 0 .sc 6 true
def PANEL.RING_RD : Fld := fld 0x15c 15 0 .rw 0 false
def PANEL.VER_LOCAL_FEATURES : Fld := fld 0x180 31 16 .rw 7 true
def PANEL.VER_LOCAL_MAX : Fld := fld 0x180 15 8 .rw 2 true
def PANEL.VER_LOCAL_MIN : Fld := fld 0x180 7 0 .rw 1 true
def PANEL.VER_STATUS_REASON : Fld := fld 0x184 31 24 .ro 0 false
def PANEL.VER_STATUS_PEER_MAX : Fld := fld 0x184 23 16 .ro 0 false
def PANEL.VER_STATUS_PEER_MIN : Fld := fld 0x184 15 8 .ro 0 false
def PANEL.VER_STATUS_CHOSEN : Fld := fld 0x184 7 0 .ro 0 false
def PANEL.VER_FEATURES_PEER : Fld := fld 0x188 31 16 .ro 0 false
def PANEL.VER_FEATURES_AGREED : Fld := fld 0x188 15 0 .ro 0 false
def PANEL.VER_TS_LO : Fld := fld 0x18c 31 0 .ro 0 false
def PANEL.VER_TS_HI : Fld := fld 0x190 31 0 .ro 0 false
def PANEL.PANEL_CMD_DOZE : Fld := fld 0x1a0 2 2 .w1s 0 false
def PANEL.PANEL_CMD_REACQUIRE : Fld := fld 0x1a0 1 1 .w1s 0 false
def PANEL.PANEL_CMD_RESTART : Fld := fld 0x1a0 0 0 .w1s 0 false
def PANEL.PANEL_STATE_STATE : Fld := fld 0xf00 31 28 .ro 0 false
def PANEL.PANEL_STATE_DOWN_CAUSE : Fld := fld 0xf00 27 24 .ro 0 false
def PANEL.PANEL_STATE_CONTACTS : Fld := fld 0xf00 23 20 .ro 0 false
def PANEL.PANEL_STATE_GROUP_IN_FORCE : Fld := fld 0xf00 17 16 .ro 0 false
def PANEL.PANEL_STATE_FREQ : Fld := fld 0xf00 9 8 .ro 0 false
def PANEL.PANEL_STATE_NOISY : Fld := fld 0xf00 1 1 .ro 0 false
def PANEL.PANEL_STATE_DUAL : Fld := fld 0xf00 0 0 .ro 0 false
def PANEL.RING_WR : Fld := fld 0xf04 15 0 .ro 0 false
def PANEL.FRAME_SEQ : Fld := fld 0xf08 31 0 .ro 0 false
def PANEL.SUSPECT_COUNT : Fld := fld 0xf0c 15 0 .ro 0 false
def PANEL.LAST_B_LO : Fld := fld 0xf10 31 0 .ro 0 false
def PANEL.LAST_B_HI : Fld := fld 0xf14 31 0 .ro 0 false
def PANEL.NOISE : Fld := fld 0xf18 15 0 .ro 0 false (stride := 0x4) (count := 4)
def PANEL.TFE_ID : Fld := fld 0xf28 31 0 .ro 0 false
def PANEL.all0 : List Fld := [PANEL.LINK_CFG_DUAL_IN, PANEL.LINK_CFG_SCK_DIV, PANEL.PANEL_SIZE_GROUP_ROWS, PANEL.PANEL_SIZE_COLS, PANEL.PANEL_SIZE_ROWS, PANEL.STEP_CFG_PULSES, PANEL.STEP_CFG_STEP_TICKS, PANEL.FRAME_TICKS, PANEL.DOZE_TICKS, PANEL.DOZE_CFG_DOZE_IDLE, PANEL.DOZE_CFG_APPROACH_COUNT, PANEL.THRESH_LIFT_THRESH, PANEL.THRESH_TOUCH_THRESH, PANEL.THRESH_2_SUSPECT_THRESH, PANEL.THRESH_2_APPROACH_THRESH, PANEL.FOLLOW_CFG_CLEAR_FRAMES, PANEL.FOLLOW_CFG_LOSS_FRAMES, PANEL.FOLLOW_CFG_ACQ_FRAMES, PANEL.FOLLOW_CFG_FOLLOW_SHIFT, PANEL.TRACK_CFG_REPORT_ALL, PANEL.TRACK_CFG_TRACK_DIST, PANEL.STUCK_MS, PANEL.NOISE_CFG_NOISE_THRESH, PANEL.NOISE_CFG_NOISE_FRAMES]
def PANEL.all1 : List Fld := [PANEL.NOISE_CFG_FREQ_COUNT, PANEL.FREQ_GAIN, PANEL.FREQ_PERIOD, PANEL.REF_CFG, PANEL.REF_ADDR_LO, PANEL.REF_ADDR_HI, PANEL.RING_ADDR_LO, PANEL.RING_ADDR_HI, PANEL.RING_CFG, PANEL.RING_RD, PANEL.VER_LOCAL_FEATURES, PANEL.VER_LOCAL_MAX, PANEL.VER_LOCAL_MIN, PANEL.VER_STATUS_REASON, PANEL.VER_STATUS_PEER_MAX, PANEL.VER_STATUS_PEER_MIN, PANEL.VER_STATUS_CHOSEN, PANEL.VER_FEATURES_PEER, PANEL.VER_FEATURES_AGREED, PANEL.VER_TS_LO, PANEL.VER_TS_HI, PANEL.PANEL_CMD_DOZE, PANEL.PANEL_CMD_REACQUIRE, PANEL.PANEL_CMD_RESTART]
def PANEL.all2 : List Fld := [PANEL.PANEL_STATE_STATE, PANEL.PANEL_STATE_DOWN_CAUSE, PANEL.PANEL_STATE_CONTACTS, PANEL.PANEL_STATE_GROUP_IN_FORCE, PANEL.PANEL_STATE_FREQ, PANEL.PANEL_STATE_NOISY, PANEL.PANEL_STATE_DUAL, PANEL.RING_WR, PANEL.FRAME_SEQ, PANEL.SUSPECT_COUNT, PANEL.LAST_B_LO, PANEL.LAST_B_HI, PANEL.NOISE, PANEL.TFE_ID]
/-- Every field of `PANEL`. -/
def PANEL.all : List Fld := PANEL.all0 ++ PANEL.all1 ++ PANEL.all2

/-! `PBC`: R563 -/
def PBC.BC_CFG_EN : Fld := fld 0x100 31 31 .sc 0 true (stride := 0x80) (count := 2)
def PBC.BC_CFG_PROTO : Fld := fld 0x100 30 30 .sc 0 true (stride := 0x80) (count := 2)
def PBC.BC_CFG_SCL_HIGH : Fld := fld 0x100 27 16 .sc 0x333 true (stride := 0x80) (count := 2)
def PBC.BC_CFG_SCL_LOW : Fld := fld 0x100 11 0 .sc 0x4cd true (stride := 0x80) (count := 2)
def PBC.BC_XFER_GO : Fld := fld 0x104 31 31 .wo 0 false (stride := 0x80) (count := 2)
def PBC.BC_XFER_STOP : Fld := fld 0x104 30 30 .wo 0 false (stride := 0x80) (count := 2)
def PBC.BC_XFER_READ : Fld := fld 0x104 29 29 .wo 0 false (stride := 0x80) (count := 2)
def PBC.BC_XFER_ADDR10 : Fld := fld 0x104 28 28 .wo 0 false (stride := 0x80) (count := 2)
def PBC.BC_XFER_CCC : Fld := fld 0x104 27 27 .wo 0 false (stride := 0x80) (count := 2)
def PBC.BC_XFER_LEN : Fld := fld 0x104 22 16 .wo 0 false (stride := 0x80) (count := 2)
def PBC.BC_XFER_ADDR : Fld := fld 0x104 9 0 .wo 0 false (stride := 0x80) (count := 2)
def PBC.BC_TXDATA : Fld := fld 0x108 7 0 .wo 0 false (stride := 0x80) (count := 2)
def PBC.BC_DAA : Fld := fld 0x10c 6 0 .rw 8 false (stride := 0x80) (count := 2)
def PBC.BC_IBI_EN : Fld := fld 0x110 0 0 .rw 0 false (stride := 0x80) (count := 2)
def PBC.BC_RXDATA_VALID : Fld := fld 0xf00 8 8 .ro 0 false (stride := 0x10) (count := 2)
def PBC.BC_RXDATA_DATA : Fld := fld 0xf00 7 0 .ro 0 false (stride := 0x10) (count := 2)
def PBC.BC_STATE_BUSY : Fld := fld 0xf04 31 31 .ro 0 false (stride := 0x10) (count := 2)
def PBC.BC_STATE_RESULT : Fld := fld 0xf04 30 28 .ro 0 false (stride := 0x10) (count := 2)
def PBC.BC_STATE_RX_COUNT : Fld := fld 0xf04 22 16 .ro 0 false (stride := 0x10) (count := 2)
def PBC.BC_STATE_TX_COUNT : Fld := fld 0xf04 14 8 .ro 0 false (stride := 0x10) (count := 2)
def PBC.BC_STATE_IBI_COUNT : Fld := fld 0xf04 3 0 .ro 0 false (stride := 0x10) (count := 2)
def PBC.BC_IBI_VALID : Fld := fld 0xf08 31 31 .ro 0 false (stride := 0x10) (count := 2)
def PBC.BC_IBI_ADDR : Fld := fld 0xf08 30 24 .ro 0 false (stride := 0x10) (count := 2)
def PBC.BC_IBI_HAS_MDB : Fld := fld 0xf08 8 8 .ro 0 false (stride := 0x10) (count := 2)
def PBC.BC_IBI_MDB : Fld := fld 0xf08 7 0 .ro 0 false (stride := 0x10) (count := 2)
def PBC.all0 : List Fld := [PBC.BC_CFG_EN, PBC.BC_CFG_PROTO, PBC.BC_CFG_SCL_HIGH, PBC.BC_CFG_SCL_LOW, PBC.BC_XFER_GO, PBC.BC_XFER_STOP, PBC.BC_XFER_READ, PBC.BC_XFER_ADDR10, PBC.BC_XFER_CCC, PBC.BC_XFER_LEN, PBC.BC_XFER_ADDR, PBC.BC_TXDATA, PBC.BC_DAA, PBC.BC_IBI_EN, PBC.BC_RXDATA_VALID, PBC.BC_RXDATA_DATA, PBC.BC_STATE_BUSY, PBC.BC_STATE_RESULT, PBC.BC_STATE_RX_COUNT, PBC.BC_STATE_TX_COUNT, PBC.BC_STATE_IBI_COUNT, PBC.BC_IBI_VALID, PBC.BC_IBI_ADDR, PBC.BC_IBI_HAS_MDB]
def PBC.all1 : List Fld := [PBC.BC_IBI_MDB]
/-- Every field of `PBC`. -/
def PBC.all : List Fld := PBC.all0 ++ PBC.all1

/-! `PERIOD`: R59 -/
def PERIOD.ACCT_LEN : Fld := fld 0x100 31 0 .sc 0x5dc000 true
def PERIOD.ACCT_SEQ : Fld := fld 0x104 31 0 .ro 0 false
def PERIOD.ACCT_START_LO : Fld := fld 0x108 31 0 .ro 0 false
def PERIOD.ACCT_START_HI : Fld := fld 0x10c 31 0 .ro 0 false
def PERIOD.all0 : List Fld := [PERIOD.ACCT_LEN, PERIOD.ACCT_SEQ, PERIOD.ACCT_START_LO, PERIOD.ACCT_START_HI]
/-- Every field of `PERIOD`. -/
def PERIOD.all : List Fld := PERIOD.all0

/-! `PFUNC`: R559 -/
def PFUNC.FUNC_WAKE_POL : Fld := fld 0x100 3 3 .sc 0 false (stride := 0x4) (count := 32)
def PFUNC.FUNC_FUNC : Fld := fld 0x100 2 0 .sc 0 true (stride := 0x4) (count := 32)
def PFUNC.all0 : List Fld := [PFUNC.FUNC_WAKE_POL, PFUNC.FUNC_FUNC]
/-- Every field of `PFUNC`. -/
def PFUNC.all : List Fld := PFUNC.all0

/-! `PGPIO`: R561 -/
def PGPIO.GPIO_OE : Fld := fld 0x100 31 0 .rw 0 false
def PGPIO.GPIO_OUT : Fld := fld 0x104 31 0 .rw 0 false
def PGPIO.GPIO_SET : Fld := fld 0x108 31 0 .wo 0 false
def PGPIO.GPIO_CLR : Fld := fld 0x10c 31 0 .wo 0 false
def PGPIO.GPIO_IN : Fld := fld 0xf00 31 0 .ro 0 false
def PGPIO.all0 : List Fld := [PGPIO.GPIO_OE, PGPIO.GPIO_OUT, PGPIO.GPIO_SET, PGPIO.GPIO_CLR, PGPIO.GPIO_IN]
/-- Every field of `PGPIO`. -/
def PGPIO.all : List Fld := PGPIO.all0

/-! `PINMAP`: R512 -/
def PINMAP.PIN_SEL : Fld := fld 0x100 9 0 .rw 0 false
def PINMAP.PIN_VIEW_LOADED : Fld := fld 0xf00 31 31 .ro 0 false
def PINMAP.PIN_VIEW_CODE : Fld := fld 0xf00 2 0 .ro 0 false
def PINMAP.PINMAP_STATE : Fld := fld 0xf04 9 0 .ro 0 false
def PINMAP.all0 : List Fld := [PINMAP.PIN_SEL, PINMAP.PIN_VIEW_LOADED, PINMAP.PIN_VIEW_CODE, PINMAP.PINMAP_STATE]
/-- Every field of `PINMAP`. -/
def PINMAP.all : List Fld := PINMAP.all0

/-! `POOLC`: R159 -/
def POOLC.TP_INFO_GRANULES : Fld := fld 0x100 31 16 .ro 0 false
def POOLC.TP_INFO_BANKS : Fld := fld 0x100 7 0 .ro 0x10 false
def POOLC.all0 : List Fld := [POOLC.TP_INFO_GRANULES, POOLC.TP_INFO_BANKS]
/-- Every field of `POOLC`. -/
def POOLC.all : List Fld := POOLC.all0

/-! `POT`: R466 -/
def POT.POT_BASE_LO : Fld := fld 0x100 31 0 .sc 0 true
def POT.POT_BASE_HI : Fld := fld 0x104 7 0 .sc 0 true
def POT.POT_INDEX : Fld := fld 0x108 19 0 .rw 0 false
def POT.POT_COUNT : Fld := fld 0x10c 19 0 .rw 1 false
def POT.POT_VALUE : Fld := fld 0x110 31 0 .rw 0 false
def POT.POT_CMD_READ : Fld := fld 0x114 1 1 .w1s 0 false
def POT.POT_CMD_WRITE : Fld := fld 0x114 0 0 .w1s 0 false
def POT.POT_RESULT_BUSY : Fld := fld 0xf00 31 31 .ro 0 false
def POT.POT_RESULT_REASON : Fld := fld 0xf00 15 8 .ro 0 false
def POT.POT_READ_VALUE : Fld := fld 0xf04 31 0 .ro 0 false
def POT.all0 : List Fld := [POT.POT_BASE_LO, POT.POT_BASE_HI, POT.POT_INDEX, POT.POT_COUNT, POT.POT_VALUE, POT.POT_CMD_READ, POT.POT_CMD_WRITE, POT.POT_RESULT_BUSY, POT.POT_RESULT_REASON, POT.POT_READ_VALUE]
/-- Every field of `POT`. -/
def POT.all : List Fld := POT.all0

/-! `REFLEX`: R299 -/
def REFLEX.ENTRY_SEL : Fld := fld 0x100 7 0 .sc 0 false
def REFLEX.ENTRY_CTL_VALID : Fld := fld 0x104 31 31 .sc 0 false
def REFLEX.ENTRY_CTL_PANEL : Fld := fld 0x104 27 26 .sc 0 true
def REFLEX.ENTRY_CTL_COND : Fld := fld 0x104 25 24 .sc 0 true
def REFLEX.ENTRY_CTL_HOLD_MS : Fld := fld 0x104 15 0 .sc 0 true
def REFLEX.ENTRY_RECT_0_Y0 : Fld := fld 0x108 31 16 .sc 0 true
def REFLEX.ENTRY_RECT_0_X0 : Fld := fld 0x108 15 0 .sc 0 true
def REFLEX.ENTRY_RECT_1_Y1 : Fld := fld 0x10c 31 16 .sc 0 true
def REFLEX.ENTRY_RECT_1_X1 : Fld := fld 0x10c 15 0 .sc 0 true
def REFLEX.ENTRY_OWNER : Fld := fld 0x110 11 0 .sc 0 true
def REFLEX.ENTRY_ACT_EFFECT : Fld := fld 0x114 20 16 .sc 0 true
def REFLEX.ENTRY_ACT_CHANNEL : Fld := fld 0x114 10 8 .sc 0 true
def REFLEX.ENTRY_ACT_ACTIONS : Fld := fld 0x114 3 0 .sc 0 true
def REFLEX.ENTRY_ACT_2_LAYER : Fld := fld 0x118 15 12 .sc 0 true
def REFLEX.ENTRY_ACT_2_HEAD : Fld := fld 0x118 10 8 .sc 0 true
def REFLEX.ENTRY_ACT_2_EARCON : Fld := fld 0x118 5 0 .sc 0 true
def REFLEX.READ_SEL : Fld := fld 0x140 7 0 .rw 0 false
def REFLEX.READ_CTL : Fld := fld 0xf00 31 0 .ro 0 false
def REFLEX.READ_RECT_0 : Fld := fld 0xf04 31 0 .ro 0 false
def REFLEX.READ_RECT_1 : Fld := fld 0xf08 31 0 .ro 0 false
def REFLEX.READ_OWNER : Fld := fld 0xf0c 31 0 .ro 0 false
def REFLEX.READ_ACT : Fld := fld 0xf10 31 0 .ro 0 false
def REFLEX.READ_ACT_2 : Fld := fld 0xf14 31 0 .ro 0 false
def REFLEX.all0 : List Fld := [REFLEX.ENTRY_SEL, REFLEX.ENTRY_CTL_VALID, REFLEX.ENTRY_CTL_PANEL, REFLEX.ENTRY_CTL_COND, REFLEX.ENTRY_CTL_HOLD_MS, REFLEX.ENTRY_RECT_0_Y0, REFLEX.ENTRY_RECT_0_X0, REFLEX.ENTRY_RECT_1_Y1, REFLEX.ENTRY_RECT_1_X1, REFLEX.ENTRY_OWNER, REFLEX.ENTRY_ACT_EFFECT, REFLEX.ENTRY_ACT_CHANNEL, REFLEX.ENTRY_ACT_ACTIONS, REFLEX.ENTRY_ACT_2_LAYER, REFLEX.ENTRY_ACT_2_HEAD, REFLEX.ENTRY_ACT_2_EARCON, REFLEX.READ_SEL, REFLEX.READ_CTL, REFLEX.READ_RECT_0, REFLEX.READ_RECT_1, REFLEX.READ_OWNER, REFLEX.READ_ACT, REFLEX.READ_ACT_2]
/-- Every field of `REFLEX`. -/
def REFLEX.all : List Fld := REFLEX.all0

/-! `REGION`: R177, R181 -/
def REGION.CV_CFG_WIDTH : Fld := fld 0x100 30 24 .sc 0x10 true (stride := 0x40) (count := 16)
def REGION.CV_CFG_REFIN : Fld := fld 0x100 23 23 .sc 0 false (stride := 0x40) (count := 16)
def REGION.CV_CFG_REFOUT : Fld := fld 0x100 22 22 .sc 0 false (stride := 0x40) (count := 16)
def REGION.CV_CFG_FOLD_EN : Fld := fld 0x100 21 21 .sc 1 false (stride := 0x40) (count := 16)
def REGION.CV_CFG_COMPARE : Fld := fld 0x100 20 20 .sc 0 false (stride := 0x40) (count := 16)
def REGION.CV_CFG_FRESH_MAX : Fld := fld 0x100 15 8 .sc 0 false (stride := 0x40) (count := 16)
def REGION.CV_CFG_RGN_EN : Fld := fld 0x100 0 0 .sc 0 false (stride := 0x40) (count := 16)
def REGION.POLY_LO : Fld := fld 0x104 31 0 .sc 0x1021 true (stride := 0x40) (count := 16)
def REGION.POLY_HI : Fld := fld 0x108 31 0 .sc 0 true (stride := 0x40) (count := 16)
def REGION.INIT_LO : Fld := fld 0x10c 31 0 .sc 0xffff true (stride := 0x40) (count := 16)
def REGION.INIT_HI : Fld := fld 0x110 31 0 .sc 0 true (stride := 0x40) (count := 16)
def REGION.XOROUT_LO : Fld := fld 0x114 31 0 .sc 0 true (stride := 0x40) (count := 16)
def REGION.XOROUT_HI : Fld := fld 0x118 31 0 .sc 0 true (stride := 0x40) (count := 16)
def REGION.EXPECT_LO : Fld := fld 0x11c 31 0 .sc 0 true (stride := 0x40) (count := 16)
def REGION.EXPECT_HI : Fld := fld 0x120 31 0 .sc 0 true (stride := 0x40) (count := 16)
def REGION.RGN_ORIGIN_Y : Fld := fld 0x124 31 16 .sc 0 true (stride := 0x40) (count := 16)
def REGION.RGN_ORIGIN_X : Fld := fld 0x124 15 0 .sc 0 true (stride := 0x40) (count := 16)
def REGION.RGN_SIZE_H : Fld := fld 0x128 31 16 .sc 1 true (stride := 0x40) (count := 16)
def REGION.RGN_SIZE_W : Fld := fld 0x128 15 0 .sc 1 true (stride := 0x40) (count := 16)
def REGION.FOLD_TAG : Fld := fld 0x12c 15 0 .sc 0 false (stride := 0x40) (count := 16)
def REGION.RESULT_LO : Fld := fld 0xf00 31 0 .ro 0 false (stride := 0x10) (count := 16)
def REGION.RESULT_HI : Fld := fld 0xf04 31 0 .ro 0 false (stride := 0x10) (count := 16)
def REGION.RESULT_SEQ : Fld := fld 0xf08 31 0 .ro 0 false (stride := 0x10) (count := 16)
def REGION.RESULT_STATE_AGE : Fld := fld 0xf0c 31 16 .ro 0 false (stride := 0x10) (count := 16)
def REGION.RESULT_STATE_STALE : Fld := fld 0xf0c 2 2 .ro 0 false (stride := 0x10) (count := 16)
def REGION.RESULT_STATE_MISMATCH : Fld := fld 0xf0c 1 1 .ro 0 false (stride := 0x10) (count := 16)
def REGION.RESULT_STATE_DONE : Fld := fld 0xf0c 0 0 .ro 0 false (stride := 0x10) (count := 16)
def REGION.all0 : List Fld := [REGION.CV_CFG_WIDTH, REGION.CV_CFG_REFIN, REGION.CV_CFG_REFOUT, REGION.CV_CFG_FOLD_EN, REGION.CV_CFG_COMPARE, REGION.CV_CFG_FRESH_MAX, REGION.CV_CFG_RGN_EN, REGION.POLY_LO, REGION.POLY_HI, REGION.INIT_LO, REGION.INIT_HI, REGION.XOROUT_LO, REGION.XOROUT_HI, REGION.EXPECT_LO, REGION.EXPECT_HI, REGION.RGN_ORIGIN_Y, REGION.RGN_ORIGIN_X, REGION.RGN_SIZE_H, REGION.RGN_SIZE_W, REGION.FOLD_TAG, REGION.RESULT_LO, REGION.RESULT_HI, REGION.RESULT_SEQ, REGION.RESULT_STATE_AGE]
def REGION.all1 : List Fld := [REGION.RESULT_STATE_STALE, REGION.RESULT_STATE_MISMATCH, REGION.RESULT_STATE_DONE]
/-- Every field of `REGION`. -/
def REGION.all : List Fld := REGION.all0 ++ REGION.all1

/-! `RING`: R97, R402 -/
def RING.RING_CFG_RUN : Fld := fld 0x100 31 31 .sc 0 true (stride := 0x10) (count := 16)
def RING.RING_CFG_SPACE : Fld := fld 0x100 25 24 .sc 0 true (stride := 0x10) (count := 16)
def RING.RING_CFG_SIZE_LOG2 : Fld := fld 0x100 23 20 .sc 6 true (stride := 0x10) (count := 16)
def RING.RING_CFG_OWNER : Fld := fld 0x100 11 0 .sc 0 true (stride := 0x10) (count := 16)
def RING.RING_BASE_LO : Fld := fld 0x104 31 12 .sc 0 true (stride := 0x10) (count := 16)
def RING.RING_BASE_HI : Fld := fld 0x108 31 0 .sc 0 true (stride := 0x10) (count := 16)
def RING.VER_VIEW : Fld := fld 0x200 3 0 .rw 0 false
def RING.VER_LOCAL_FEATURES : Fld := fld 0x210 31 16 .rw 1 true
def RING.VER_LOCAL_MAX : Fld := fld 0x210 15 8 .rw 2 true
def RING.VER_LOCAL_MIN : Fld := fld 0x210 7 0 .rw 1 true
def RING.VER_STATUS_REASON : Fld := fld 0x214 31 24 .ro 0 false
def RING.VER_STATUS_PEER_MAX : Fld := fld 0x214 23 16 .ro 0 false
def RING.VER_STATUS_PEER_MIN : Fld := fld 0x214 15 8 .ro 0 false
def RING.VER_STATUS_CHOSEN : Fld := fld 0x214 7 0 .ro 0 false
def RING.VER_FEATURES_PEER : Fld := fld 0x218 31 16 .ro 0 false
def RING.VER_FEATURES_AGREED : Fld := fld 0x218 15 0 .ro 0 false
def RING.VER_TS_LO : Fld := fld 0x21c 31 0 .ro 0 false
def RING.VER_TS_HI : Fld := fld 0x220 31 0 .ro 0 false
def RING.RING_STATE_STATE : Fld := fld 0xf00 31 30 .ro 0 false (stride := 0x8) (count := 16)
def RING.RING_STATE_CAUSE : Fld := fld 0xf00 29 24 .ro 0 false (stride := 0x8) (count := 16)
def RING.RING_STATE_PREFETCHED : Fld := fld 0xf00 23 20 .ro 0 false (stride := 0x8) (count := 16)
def RING.RING_STATE_RD : Fld := fld 0xf00 15 0 .ro 0 false (stride := 0x8) (count := 16)
def RING.RING_WR : Fld := fld 0xf04 15 0 .ro 0 false (stride := 0x8) (count := 16)
def RING.all0 : List Fld := [RING.RING_CFG_RUN, RING.RING_CFG_SPACE, RING.RING_CFG_SIZE_LOG2, RING.RING_CFG_OWNER, RING.RING_BASE_LO, RING.RING_BASE_HI, RING.VER_VIEW, RING.VER_LOCAL_FEATURES, RING.VER_LOCAL_MAX, RING.VER_LOCAL_MIN, RING.VER_STATUS_REASON, RING.VER_STATUS_PEER_MAX, RING.VER_STATUS_PEER_MIN, RING.VER_STATUS_CHOSEN, RING.VER_FEATURES_PEER, RING.VER_FEATURES_AGREED, RING.VER_TS_LO, RING.VER_TS_HI, RING.RING_STATE_STATE, RING.RING_STATE_CAUSE, RING.RING_STATE_PREFETCHED, RING.RING_STATE_RD, RING.RING_WR]
/-- Every field of `RING`. -/
def RING.all : List Fld := RING.all0

/-! `ROOT`: R38, R39 -/
def ROOT.ROOT_STATUS_LOCK_LOSS_COUNT : Fld := fld 0x100 15 8 .ro 0 false
def ROOT.ROOT_STATUS_MON_RUN : Fld := fld 0x100 3 3 .ro 1 false
def ROOT.ROOT_STATUS_MON_OK : Fld := fld 0x100 2 2 .ro 1 false
def ROOT.ROOT_STATUS_XTAL_OK : Fld := fld 0x100 1 1 .ro 1 false
def ROOT.ROOT_STATUS_PLL_LOCKED : Fld := fld 0x100 0 0 .ro 1 false
def ROOT.MON_CFG : Fld := fld 0x104 7 0 .sc 0x40 true
def ROOT.all0 : List Fld := [ROOT.ROOT_STATUS_LOCK_LOSS_COUNT, ROOT.ROOT_STATUS_MON_RUN, ROOT.ROOT_STATUS_MON_OK, ROOT.ROOT_STATUS_XTAL_OK, ROOT.ROOT_STATUS_PLL_LOCKED, ROOT.MON_CFG]
/-- Every field of `ROOT`. -/
def ROOT.all : List Fld := ROOT.all0

/-! `ROUTER`: R95 -/
def ROUTER.IRQ_SELECT : Fld := fld 0x100 11 0 .rw 0 true
def ROUTER.IRQ_ROUTE_TARGET : Fld := fld 0x104 31 30 .rw 0 true
def ROUTER.IRQ_ROUTE_CORE_MASK : Fld := fld 0x104 29 26 .rw 0 true
def ROUTER.IRQ_ROUTE_PORT : Fld := fld 0x104 25 25 .rw 0 true
def ROUTER.IRQ_ROUTE_FUNCTION : Fld := fld 0x104 24 21 .rw 0 true
def ROUTER.IRQ_ROUTE_VECTOR : Fld := fld 0x104 20 15 .rw 0 true
def ROUTER.IRQ_ROUTE_PRIORITY : Fld := fld 0x104 14 12 .rw 0 true
def ROUTER.all0 : List Fld := [ROUTER.IRQ_SELECT, ROUTER.IRQ_ROUTE_TARGET, ROUTER.IRQ_ROUTE_CORE_MASK, ROUTER.IRQ_ROUTE_PORT, ROUTER.IRQ_ROUTE_FUNCTION, ROUTER.IRQ_ROUTE_VECTOR, ROUTER.IRQ_ROUTE_PRIORITY]
/-- Every field of `ROUTER`. -/
def ROUTER.all : List Fld := ROUTER.all0

/-! `SOURCES`: R495 -/
def SOURCES.SRC_LEVEL : Fld := fld 0x100 27 0 .ro 0 false
def SOURCES.RST_CFG : Fld := fld 0x104 0 0 .rw 0 false
def SOURCES.SW_RESET_KEY : Fld := fld 0x108 31 16 .wo 0 false
def SOURCES.SW_RESET_LEVEL : Fld := fld 0x108 1 0 .wo 0 false
def SOURCES.BOOT_LIMIT : Fld := fld 0x10c 15 0 .ro 0 false
def SOURCES.SRC_SEEN : Fld := fld 0xf00 13 0 .w1c 0 false
def SOURCES.all0 : List Fld := [SOURCES.SRC_LEVEL, SOURCES.RST_CFG, SOURCES.SW_RESET_KEY, SOURCES.SW_RESET_LEVEL, SOURCES.BOOT_LIMIT, SOURCES.SRC_SEEN]
/-- Every field of `SOURCES`. -/
def SOURCES.all : List Fld := SOURCES.all0

/-! `TCH`: R267 -/
def TCH.WAKE_MASK : Fld := fld 0x100 3 0 .sc 0 true
def TCH.TCH_INFO : Fld := fld 0xf00 3 0 .ro 0 false
def TCH.all0 : List Fld := [TCH.WAKE_MASK, TCH.TCH_INFO]
/-- Every field of `TCH`. -/
def TCH.all : List Fld := TCH.all0

/-! `TEN`: R422 -/
def TEN.SHADER_SHARE : Fld := fld 0x100 10 0 .sc 0 true
def TEN.DRAM_BE_SHARE : Fld := fld 0x104 31 0 .sc 0xffffffff false
def TEN.COPY_SHARE : Fld := fld 0x108 31 0 .sc 0 false
def TEN.QUIESCE_TIMEOUT : Fld := fld 0x10c 31 0 .sc 0x5dc000 true
def TEN.J_CFG_J_EN : Fld := fld 0x110 31 31 .sc 0 false
def TEN.J_CFG_J_SPACE : Fld := fld 0x110 25 24 .sc 0 true
def TEN.J_CFG_J_SIZE_LOG2 : Fld := fld 0x110 19 16 .sc 8 true
def TEN.J_BASE_LO : Fld := fld 0x114 31 0 .sc 0 true
def TEN.J_BASE_HI : Fld := fld 0x118 31 0 .sc 0 true
def TEN.J_IRQ_J_IRQ_EN : Fld := fld 0x11c 31 31 .sc 0 false
def TEN.J_IRQ_J_PORT : Fld := fld 0x11c 21 21 .sc 0 true
def TEN.J_IRQ_J_FUNCTION : Fld := fld 0x11c 20 17 .sc 0 true
def TEN.J_IRQ_J_VECTOR : Fld := fld 0x11c 16 11 .sc 0 true
def TEN.J_HOLDOFF : Fld := fld 0x120 19 0 .sc 0xf000 false
def TEN.TEN_STATE_QUIESCING : Fld := fld 0xf00 31 31 .ro 0 false
def TEN.TEN_STATE_TIMED_OUT : Fld := fld 0xf00 30 30 .ro 0 false
def TEN.TEN_STATE_RINGS : Fld := fld 0xf00 7 0 .ro 0 false
def TEN.QUIESCE_TS_LO : Fld := fld 0xf04 31 0 .ro 0 false
def TEN.QUIESCE_TS_HI : Fld := fld 0xf08 31 0 .ro 0 false
def TEN.J_STATE_RD : Fld := fld 0xf0c 31 16 .ro 0 false
def TEN.J_STATE_WR : Fld := fld 0xf0c 15 0 .ro 0 false
def TEN.J_LOST : Fld := fld 0xf10 31 0 .ro 0 false
def TEN.J_SEQ : Fld := fld 0xf14 31 0 .ro 0 false
def TEN.all0 : List Fld := [TEN.SHADER_SHARE, TEN.DRAM_BE_SHARE, TEN.COPY_SHARE, TEN.QUIESCE_TIMEOUT, TEN.J_CFG_J_EN, TEN.J_CFG_J_SPACE, TEN.J_CFG_J_SIZE_LOG2, TEN.J_BASE_LO, TEN.J_BASE_HI, TEN.J_IRQ_J_IRQ_EN, TEN.J_IRQ_J_PORT, TEN.J_IRQ_J_FUNCTION, TEN.J_IRQ_J_VECTOR, TEN.J_HOLDOFF, TEN.TEN_STATE_QUIESCING, TEN.TEN_STATE_TIMED_OUT, TEN.TEN_STATE_RINGS, TEN.QUIESCE_TS_LO, TEN.QUIESCE_TS_HI, TEN.J_STATE_RD, TEN.J_STATE_WR, TEN.J_LOST, TEN.J_SEQ]
/-- Every field of `TEN`. -/
def TEN.all : List Fld := TEN.all0

/-! `THYME`: R47 -/
def THYME.THYME_LO : Fld := fld 0x100 31 0 .ro 0 false
def THYME.THYME_HI : Fld := fld 0x104 31 0 .ro 0 false
def THYME.STEP_COUNT : Fld := fld 0x108 31 0 .ro 0 false
def THYME.STEP_FROM_LO : Fld := fld 0x110 31 0 .ro 0 false
def THYME.STEP_FROM_HI : Fld := fld 0x114 31 0 .ro 0 false
def THYME.STEP_TO_LO : Fld := fld 0x118 31 0 .ro 0 false
def THYME.STEP_TO_HI : Fld := fld 0x11c 31 0 .ro 0 false
def THYME.SLEW_PENDING : Fld := fld 0x120 31 0 .ro 0 false
def THYME.SYNC_STATE : Fld := fld 0x124 1 0 .ro 0 false
def THYME.all0 : List Fld := [THYME.THYME_LO, THYME.THYME_HI, THYME.STEP_COUNT, THYME.STEP_FROM_LO, THYME.STEP_FROM_HI, THYME.STEP_TO_LO, THYME.STEP_TO_HI, THYME.SLEW_PENDING, THYME.SYNC_STATE]
/-- Every field of `THYME`. -/
def THYME.all : List Fld := THYME.all0

/-! `TMB`: R543 -/
def TMB.RING_CFG_MASTER : Fld := fld 0x100 16 16 .ro 0 false
def TMB.RING_CFG_INDEX : Fld := fld 0x100 9 8 .ro 0 false
def TMB.RING_CFG_DEVICES : Fld := fld 0x100 1 0 .sc 0 false
def TMB.HB_CFG_HB_TIMEOUT : Fld := fld 0x104 23 16 .sc 4 true
def TMB.HB_CFG_HB_PERIOD : Fld := fld 0x104 15 0 .sc 0x1800 true
def TMB.REMOTE_RESET_KEY : Fld := fld 0x108 31 16 .wo 0 false
def TMB.REMOTE_RESET_GO : Fld := fld 0x108 8 8 .wo 0 false
def TMB.REMOTE_RESET_DEVICE : Fld := fld 0x108 1 0 .wo 0 false
def TMB.MB_CFG_DEST : Fld := fld 0x110 17 16 .sc 0 true (stride := 0x80) (count := 2)
def TMB.MB_CFG_MB_OWNER : Fld := fld 0x110 11 0 .sc 1 true (stride := 0x80) (count := 2)
def TMB.MB_CMD_RX_DONE : Fld := fld 0x114 1 1 .w1s 0 false (stride := 0x80) (count := 2)
def TMB.MB_CMD_POST : Fld := fld 0x114 0 0 .w1s 0 false (stride := 0x80) (count := 2)
def TMB.MB_STATE_RX_SRC : Fld := fld 0x118 5 4 .ro 0 false (stride := 0x80) (count := 2)
def TMB.MB_STATE_OVERRUN : Fld := fld 0x118 2 2 .w1c 0 false (stride := 0x80) (count := 2)
def TMB.MB_STATE_RX_FULL : Fld := fld 0x118 1 1 .ro 0 false (stride := 0x80) (count := 2)
def TMB.MB_STATE_CREDIT : Fld := fld 0x118 0 0 .ro 1 false (stride := 0x80) (count := 2)
def TMB.TX : Fld := fld 0x120 31 0 .rw 0 false (stride := 0x80) (count := 2) (stride2 := 4) (count2 := 14)
def TMB.RX : Fld := fld 0x158 31 0 .ro 0 false (stride := 0x80) (count := 2) (stride2 := 4) (count2 := 14)
def TMB.PEER_ALIVE : Fld := fld 0xf00 3 0 .ro 0 false
def TMB.all0 : List Fld := [TMB.RING_CFG_MASTER, TMB.RING_CFG_INDEX, TMB.RING_CFG_DEVICES, TMB.HB_CFG_HB_TIMEOUT, TMB.HB_CFG_HB_PERIOD, TMB.REMOTE_RESET_KEY, TMB.REMOTE_RESET_GO, TMB.REMOTE_RESET_DEVICE, TMB.MB_CFG_DEST, TMB.MB_CFG_MB_OWNER, TMB.MB_CMD_RX_DONE, TMB.MB_CMD_POST, TMB.MB_STATE_RX_SRC, TMB.MB_STATE_OVERRUN, TMB.MB_STATE_RX_FULL, TMB.MB_STATE_CREDIT, TMB.TX, TMB.RX, TMB.PEER_ALIVE]
/-- Every field of `TMB`. -/
def TMB.all : List Fld := TMB.all0

/-! `TPORT`: R97, R543 -/
def TPORT.PORT_CFG_AUTO_RESTART : Fld := fld 0x100 8 8 .sc 1 false
def TPORT.PORT_CFG_LANE_POL : Fld := fld 0x100 7 4 .sc 0 false
def TPORT.PORT_CFG_LANE_REVERSE : Fld := fld 0x100 0 0 .sc 0 false
def TPORT.VER_LOCAL_FEATURES : Fld := fld 0x180 31 16 .rw 3 true
def TPORT.VER_LOCAL_MAX : Fld := fld 0x180 15 8 .rw 2 true
def TPORT.VER_LOCAL_MIN : Fld := fld 0x180 7 0 .rw 1 true
def TPORT.VER_STATUS_REASON : Fld := fld 0x184 31 24 .ro 0 false
def TPORT.VER_STATUS_PEER_MAX : Fld := fld 0x184 23 16 .ro 0 false
def TPORT.VER_STATUS_PEER_MIN : Fld := fld 0x184 15 8 .ro 0 false
def TPORT.VER_STATUS_CHOSEN : Fld := fld 0x184 7 0 .ro 0 false
def TPORT.VER_FEATURES_PEER : Fld := fld 0x188 31 16 .ro 0 false
def TPORT.VER_FEATURES_AGREED : Fld := fld 0x188 15 0 .ro 0 false
def TPORT.VER_TS_LO : Fld := fld 0x18c 31 0 .ro 0 false
def TPORT.VER_TS_HI : Fld := fld 0x190 31 0 .ro 0 false
def TPORT.PORT_CMD : Fld := fld 0x1a0 0 0 .w1s 0 false
def TPORT.PORT_STATE_STATE : Fld := fld 0xf00 31 29 .ro 0 false
def TPORT.PORT_STATE_DOWN_CAUSE : Fld := fld 0xf00 27 24 .ro 0 false
def TPORT.PORT_STATE_PEER_VALID : Fld := fld 0xf00 18 18 .ro 0 false
def TPORT.PORT_STATE_PEER : Fld := fld 0xf00 17 16 .ro 0 false
def TPORT.PORT_STATE_EXPECTED : Fld := fld 0xf00 15 0 .ro 0 false
def TPORT.all0 : List Fld := [TPORT.PORT_CFG_AUTO_RESTART, TPORT.PORT_CFG_LANE_POL, TPORT.PORT_CFG_LANE_REVERSE, TPORT.VER_LOCAL_FEATURES, TPORT.VER_LOCAL_MAX, TPORT.VER_LOCAL_MIN, TPORT.VER_STATUS_REASON, TPORT.VER_STATUS_PEER_MAX, TPORT.VER_STATUS_PEER_MIN, TPORT.VER_STATUS_CHOSEN, TPORT.VER_FEATURES_PEER, TPORT.VER_FEATURES_AGREED, TPORT.VER_TS_LO, TPORT.VER_TS_HI, TPORT.PORT_CMD, TPORT.PORT_STATE_STATE, TPORT.PORT_STATE_DOWN_CAUSE, TPORT.PORT_STATE_PEER_VALID, TPORT.PORT_STATE_PEER, TPORT.PORT_STATE_EXPECTED]
/-- Every field of `TPORT`. -/
def TPORT.all : List Fld := TPORT.all0

/-! `TREMOTE`: R544 -/
def TREMOTE.RSLOT_CFG_VALID : Fld := fld 0x100 31 31 .sc 0 false (stride := 0x10) (count := 8)
def TREMOTE.RSLOT_CFG_DEVICE : Fld := fld 0x100 29 28 .sc 0 true (stride := 0x10) (count := 8)
def TREMOTE.RSLOT_CFG_RSPACE : Fld := fld 0x100 27 27 .sc 0 false (stride := 0x10) (count := 8)
def TREMOTE.RSLOT_CFG_OWNER : Fld := fld 0x100 11 0 .sc 0 true (stride := 0x10) (count := 8)
def TREMOTE.RSLOT_BASE : Fld := fld 0x104 19 0 .sc 0 true (stride := 0x10) (count := 8)
def TREMOTE.RSLOT_SIZE : Fld := fld 0x108 19 0 .sc 0 true (stride := 0x10) (count := 8)
def TREMOTE.LAT_MARGIN : Fld := fld 0x180 19 0 .sc 0x3000 false
def TREMOTE.MIR_CFG_VALID : Fld := fld 0x200 31 31 .sc 0 false (stride := 0x20) (count := 4)
def TREMOTE.MIR_CFG_DESTS : Fld := fld 0x200 19 16 .sc 0 true (stride := 0x20) (count := 4)
def TREMOTE.MIR_CFG_OWNER : Fld := fld 0x200 11 0 .sc 0 true (stride := 0x20) (count := 4)
def TREMOTE.MIR_CFG_SPACE : Fld := fld 0x200 8 8 .sc 0 false (stride := 0x20) (count := 4)
def TREMOTE.MIR_SRC : Fld := fld 0x204 19 0 .sc 0 true (stride := 0x20) (count := 4)
def TREMOTE.MIR_DST : Fld := fld 0x208 19 0 .sc 0 true (stride := 0x20) (count := 4)
def TREMOTE.MIR_SIZE : Fld := fld 0x20c 19 0 .sc 0 true (stride := 0x20) (count := 4)
def TREMOTE.FAIL_EN : Fld := fld 0x300 31 31 .sc 0 false (stride := 0x4) (count := 4)
def TREMOTE.FAIL_FAILBACK : Fld := fld 0x300 30 30 .sc 0 false (stride := 0x4) (count := 4)
def TREMOTE.FAIL_DEVICE : Fld := fld 0x300 29 28 .sc 0 true (stride := 0x4) (count := 4)
def TREMOTE.FAIL_HEAD : Fld := fld 0x300 10 8 .sc 0 true (stride := 0x4) (count := 4)
def TREMOTE.FAIL_LAYER : Fld := fld 0x300 3 0 .sc 0 true (stride := 0x4) (count := 4)
def TREMOTE.MIR_STATE_STATE : Fld := fld 0xf00 31 30 .ro 0 false (stride := 0x4) (count := 4)
def TREMOTE.MIR_STATE_PTR : Fld := fld 0xf00 19 0 .ro 0 false (stride := 0x4) (count := 4)
def TREMOTE.all0 : List Fld := [TREMOTE.RSLOT_CFG_VALID, TREMOTE.RSLOT_CFG_DEVICE, TREMOTE.RSLOT_CFG_RSPACE, TREMOTE.RSLOT_CFG_OWNER, TREMOTE.RSLOT_BASE, TREMOTE.RSLOT_SIZE, TREMOTE.LAT_MARGIN, TREMOTE.MIR_CFG_VALID, TREMOTE.MIR_CFG_DESTS, TREMOTE.MIR_CFG_OWNER, TREMOTE.MIR_CFG_SPACE, TREMOTE.MIR_SRC, TREMOTE.MIR_DST, TREMOTE.MIR_SIZE, TREMOTE.FAIL_EN, TREMOTE.FAIL_FAILBACK, TREMOTE.FAIL_DEVICE, TREMOTE.FAIL_HEAD, TREMOTE.FAIL_LAYER, TREMOTE.MIR_STATE_STATE, TREMOTE.MIR_STATE_PTR]
/-- Every field of `TREMOTE`. -/
def TREMOTE.all : List Fld := TREMOTE.all0

/-! `TSYNC`: R544 -/
def TSYNC.SYNC_CFG_LOST_THRESH : Fld := fld 0x100 23 16 .sc 4 true
def TSYNC.SYNC_CFG_EXCH_PERIOD : Fld := fld 0x100 15 0 .sc 0x1800 true
def TSYNC.SYNC_STATE_CONFLICT : Fld := fld 0xf00 3 3 .ro 0 false
def TSYNC.SYNC_STATE_UPSTREAM : Fld := fld 0xf00 2 2 .ro 0 false
def TSYNC.SYNC_STATE_ROLE : Fld := fld 0xf00 1 0 .ro 0 false
def TSYNC.OFFSET : Fld := fld 0xf04 31 0 .ro 0 false
def TSYNC.DELAY : Fld := fld 0xf08 31 0 .ro 0 false
def TSYNC.all0 : List Fld := [TSYNC.SYNC_CFG_LOST_THRESH, TSYNC.SYNC_CFG_EXCH_PERIOD, TSYNC.SYNC_STATE_CONFLICT, TSYNC.SYNC_STATE_UPSTREAM, TSYNC.SYNC_STATE_ROLE, TSYNC.OFFSET, TSYNC.DELAY]
/-- Every field of `TSYNC`. -/
def TSYNC.all : List Fld := TSYNC.all0

/-! `WB`: R130 -/
def WB.WB_CFG_ONE_SHOT : Fld := fld 0x100 12 12 .sc 0 false
def WB.WB_CFG_FORMAT : Fld := fld 0x100 9 8 .sc 0 true
def WB.WB_CFG_TAP : Fld := fld 0x100 5 4 .sc 0 true
def WB.WB_CFG_HEAD : Fld := fld 0x100 2 0 .sc 0 true
def WB.WB_ADDR_LO : Fld := fld 0x104 31 0 .sc 0 true
def WB.WB_ADDR_HI_SPACE : Fld := fld 0x108 31 31 .sc 0 true
def WB.WB_ADDR_HI_ADDR : Fld := fld 0x108 7 0 .sc 0 true
def WB.WB_STRIDE : Fld := fld 0x10c 19 0 .sc 0 true
def WB.WB_FRAMES : Fld := fld 0xf00 31 0 .ro 0 false
def WB.WB_LAST : Fld := fld 0xf04 1 0 .ro 0 false
def WB.all0 : List Fld := [WB.WB_CFG_ONE_SHOT, WB.WB_CFG_FORMAT, WB.WB_CFG_TAP, WB.WB_CFG_HEAD, WB.WB_ADDR_LO, WB.WB_ADDR_HI_SPACE, WB.WB_ADDR_HI_ADDR, WB.WB_STRIDE, WB.WB_FRAMES, WB.WB_LAST]
/-- Every field of `WB`. -/
def WB.all : List Fld := WB.all0

/-! `WDOG`: R467 -/
def WDOG.WD_CFG_EN : Fld := fld 0x100 31 31 .rw 0 false (stride := 0x8) (count := 4)
def WDOG.WD_CFG_TIMEOUT : Fld := fld 0x100 23 0 .rw 0x1770 false (stride := 0x8) (count := 4)
def WDOG.WD_KICK : Fld := fld 0x104 15 0 .wo 0 false (stride := 0x8) (count := 4)
def WDOG.all0 : List Fld := [WDOG.WD_CFG_EN, WDOG.WD_CFG_TIMEOUT, WDOG.WD_KICK]
/-- Every field of `WDOG`. -/
def WDOG.all : List Fld := WDOG.all0

/-! `WORLDS`: R466 -/
def WORLDS.CTX_KIND : Fld := fld 0x100 31 31 .rw 0 false (stride := 0x4) (count := 3)
def WORLDS.CTX_COVE : Fld := fld 0x100 27 22 .rw 0 false (stride := 0x4) (count := 3)
def WORLDS.CTX_NW_TAG : Fld := fld 0x100 11 0 .rw 0x10 false (stride := 0x4) (count := 3)
def WORLDS.DBG_CFG_DBG_LOCK : Fld := fld 0x110 31 31 .w1s 0 false
def WORLDS.DBG_CFG_TAG : Fld := fld 0x110 11 0 .rw 0 false
def WORLDS.RESTART : Fld := fld 0x114 0 0 .w1s 0 false
def WORLDS.FW_COPY_LO : Fld := fld 0x118 31 0 .rw 0 false
def WORLDS.FW_COPY_HI : Fld := fld 0x11c 31 0 .rw 0 false
def WORLDS.HOLD : Fld := fld 0x200 31 0 .rw 0 false (stride := 0x4) (count := 128)
def WORLDS.RESTART_STATE : Fld := fld 0xf00 0 0 .ro 0 false
def WORLDS.all0 : List Fld := [WORLDS.CTX_KIND, WORLDS.CTX_COVE, WORLDS.CTX_NW_TAG, WORLDS.DBG_CFG_DBG_LOCK, WORLDS.DBG_CFG_TAG, WORLDS.RESTART, WORLDS.FW_COPY_LO, WORLDS.FW_COPY_HI, WORLDS.HOLD, WORLDS.RESTART_STATE]
/-- Every field of `WORLDS`. -/
def WORLDS.all : List Fld := WORLDS.all0

/-! `XSPI`: R565 -/
def XSPI.XSPI_CFG_READ_OP : Fld := fld 0x100 31 24 .sc 0x6b false
def XSPI.XSPI_CFG_DUMMY : Fld := fld 0x100 19 16 .sc 8 false
def XSPI.XSPI_CFG_MODE : Fld := fld 0x100 9 8 .sc 1 true
def XSPI.XSPI_CFG_ADDR4 : Fld := fld 0x100 0 0 .sc 0 false
def XSPI.XSPI_CMD_GO : Fld := fld 0x104 31 31 .wo 0 false
def XSPI.XSPI_CMD_WRITE : Fld := fld 0x104 30 30 .wo 0 false
def XSPI.XSPI_CMD_HAS_ADDR : Fld := fld 0x104 29 29 .wo 0 false
def XSPI.XSPI_CMD_OPCODE : Fld := fld 0x104 23 16 .wo 0 false
def XSPI.XSPI_CMD_LEN : Fld := fld 0x104 6 0 .wo 0 false
def XSPI.XSPI_ADDR : Fld := fld 0x108 27 0 .rw 0 false
def XSPI.XSPI_TXDATA : Fld := fld 0x10c 31 0 .wo 0 false
def XSPI.DMA_DST_LO : Fld := fld 0x110 31 0 .rw 0 false
def XSPI.DMA_DST_HI_SPACE : Fld := fld 0x114 31 31 .rw 0 false
def XSPI.DMA_DST_HI_ADDR : Fld := fld 0x114 7 0 .rw 0 false
def XSPI.DMA_LEN : Fld := fld 0x118 25 0 .rw 0 false
def XSPI.DMA_CMD : Fld := fld 0x11c 0 0 .w1s 0 false
def XSPI.XSPI_RXDATA : Fld := fld 0xf00 31 0 .ro 0 false
def XSPI.XSPI_STATE_BUSY : Fld := fld 0xf04 31 31 .ro 0 false
def XSPI.XSPI_STATE_DMA_BUSY : Fld := fld 0xf04 30 30 .ro 0 false
def XSPI.XSPI_STATE_RESULT : Fld := fld 0xf04 29 28 .ro 0 false
def XSPI.XSPI_STATE_RX_BYTES : Fld := fld 0xf04 22 16 .ro 0 false
def XSPI.XSPI_STATE_TX_BYTES : Fld := fld 0xf04 14 8 .ro 0 false
def XSPI.DMA_DONE : Fld := fld 0xf08 31 0 .ro 0 false
def XSPI.all0 : List Fld := [XSPI.XSPI_CFG_READ_OP, XSPI.XSPI_CFG_DUMMY, XSPI.XSPI_CFG_MODE, XSPI.XSPI_CFG_ADDR4, XSPI.XSPI_CMD_GO, XSPI.XSPI_CMD_WRITE, XSPI.XSPI_CMD_HAS_ADDR, XSPI.XSPI_CMD_OPCODE, XSPI.XSPI_CMD_LEN, XSPI.XSPI_ADDR, XSPI.XSPI_TXDATA, XSPI.DMA_DST_LO, XSPI.DMA_DST_HI_SPACE, XSPI.DMA_DST_HI_ADDR, XSPI.DMA_LEN, XSPI.DMA_CMD, XSPI.XSPI_RXDATA, XSPI.XSPI_STATE_BUSY, XSPI.XSPI_STATE_DMA_BUSY, XSPI.XSPI_STATE_RESULT, XSPI.XSPI_STATE_RX_BYTES, XSPI.XSPI_STATE_TX_BYTES, XSPI.DMA_DONE]
/-- Every field of `XSPI`. -/
def XSPI.all : List Fld := XSPI.all0

end Sys2Proof.Machine.F
end

