-- ==== Sys2Proof/Machine/RegMap.lean ====
section
/-! DEFINITION. The register map: which pages exist (R63, R547), what each page is and resets to, and
which fields stand at an offset. -/

namespace Sys2Proof.Machine

open Sys2Proof.Config (Part)

/-- The kinds of page of the domain map of R63.  `glayer` is a graphic layer page: a video layer page
without the registers that R102 and R103 mark "V only". -/
inductive PKind where
  | abank
  | aclk
  | aeng
  | again
  | alloc
  | ameter
  | aport
  | asrc
  | backup
  | blockreq
  | bsync
  | colour
  | copy
  | core
  | cove
  | cvu
  | dchan
  | decc
  | dglob
  | div
  | dmap
  | dpower
  | dsched
  | dsi
  | dsweep
  | fbank
  | fcap
  | fcoll
  | fctl
  | fevt
  | fsafe
  | gcore
  | gfe
  | gl2
  | gsched
  | gsig
  | gtex
  | gtiler
  | hap
  | hchan
  | head
  | herr
  | hfunc
  | hmsix
  | hostp
  | hport
  | ident
  | irqc
  | layer
  | mbox
  | mbucket
  | measure
  | mlog
  | mmode
  | mode
  | mscrub
  | otp
  | output
  | panel
  | pbc
  | period
  | pfunc
  | pgpio
  | pinmap
  | poolc
  | pot
  | reflex
  | region
  | ring
  | root
  | router
  | sources
  | tch
  | ten
  | thyme
  | tmb
  | tport
  | tremote
  | tsync
  | wb
  | wdog
  | worlds
  | xspi
  | holdp
  | gcount
  | gstat
  | glayer
  deriving DecidableEq, Repr

/-- The block registers of each kind of page (offset 0x100 and above). -/
def blockFlds : PKind → List Fld
  | .abank => F.ABANK.all
  | .aclk => F.ACLK.all
  | .aeng => F.AENG.all
  | .again => F.AGAIN.all
  | .alloc => F.ALLOC.all
  | .ameter => F.AMETER.all
  | .aport => F.APORT.all
  | .asrc => F.ASRC.all
  | .backup => F.BACKUP.all
  | .blockreq => F.BLOCKREQ.all
  | .bsync => F.BSYNC.all
  | .colour => F.COLOUR.all
  | .copy => F.COPY.all
  | .core => F.CORE.all
  | .cove => F.COVE.all
  | .cvu => F.CVU.all
  | .dchan => F.DCHAN.all
  | .decc => F.DECC.all
  | .dglob => F.DGLOB.all
  | .div => F.DIV.all
  | .dmap => F.DMAP.all
  | .dpower => F.DPOWER.all
  | .dsched => F.DSCHED.all
  | .dsi => F.DSI.all
  | .dsweep => F.DSWEEP.all
  | .fbank => F.FBANK.all
  | .fcap => F.FCAP.all
  | .fcoll => F.FCOLL.all
  | .fctl => F.FCTL.all
  | .fevt => F.FEVT.all
  | .fsafe => F.FSAFE.all
  | .gcore => F.GCORE.all
  | .gfe => F.GFE.all
  | .gl2 => F.GL2.all
  | .gsched => F.GSCHED.all
  | .gsig => F.GSIG.all
  | .gtex => F.GTEX.all
  | .gtiler => F.GTILER.all
  | .hap => F.HAP.all
  | .hchan => F.HCHAN.all
  | .head => F.HEAD.all
  | .herr => F.HERR.all
  | .hfunc => F.HFUNC.all
  | .hmsix => F.HMSIX.all
  | .hostp => F.HOSTP.all
  | .hport => F.HPORT.all
  | .ident => F.IDENT.all
  | .irqc => F.IRQC.all
  | .layer => F.LAYER.all
  | .mbox => F.MBOX.all
  | .mbucket => F.MBUCKET.all
  | .measure => F.MEASURE.all
  | .mlog => F.MLOG.all
  | .mmode => F.MMODE.all
  | .mode => F.MODE.all
  | .mscrub => F.MSCRUB.all
  | .otp => F.OTP.all
  | .output => F.OUTPUT.all
  | .panel => F.PANEL.all
  | .pbc => F.PBC.all
  | .period => F.PERIOD.all
  | .pfunc => F.PFUNC.all
  | .pgpio => F.PGPIO.all
  | .pinmap => F.PINMAP.all
  | .poolc => F.POOLC.all
  | .pot => F.POT.all
  | .reflex => F.REFLEX.all
  | .region => F.REGION.all
  | .ring => F.RING.all
  | .root => F.ROOT.all
  | .router => F.ROUTER.all
  | .sources => F.SOURCES.all
  | .tch => F.TCH.all
  | .ten => F.TEN.all
  | .thyme => F.THYME.all
  | .tmb => F.TMB.all
  | .tport => F.TPORT.all
  | .tremote => F.TREMOTE.all
  | .tsync => F.TSYNC.all
  | .wb => F.WB.all
  | .wdog => F.WDOG.all
  | .worlds => F.WORLDS.all
  | .xspi => F.XSPI.all
  | .holdp => []
  | .gcount => []
  | .gstat => []
  | .glayer => F.LAYER.all.filter (fun f => !glayerVOnly f)
where
  /-- The fields that a graphic layer page lacks ("V only" in R102 and R103). -/
  glayerVOnly (f : Fld) : Bool :=
    (f.off == 0x100 && decide (11 ≤ f.lo)) || f.off == 0x120
      || (decide (0x140 ≤ f.off) && decide (f.off ≤ 0x170)) || f.off == 0x190 || f.off == 0x194
      || f.off == 0xF04 || f.off == 0xF08 || f.off == 0xF0C
/-- When a page applies an accepted enable or an armed image (R63). -/
inductive Apply where
  | onArm
  | accounting
  | slack
  | touchFrame
  | marker
  | bankSwap
  | jobStart
  | coreTile
  | l2
  deriving DecidableEq, Repr

/-- What the spec's block chapters say of a page: its kind, `BLOCK_TYPE`, `INSTANCE`, capability bits
(`BLOCK_CAPS` bit 8 and bits 5:1 of `PAGE_CAPS`), reset owner, whether the owner is fixed (R582), the reset
`PERIOD_SRC`, whether it is enabled at reset, and its apply point. -/
structure PInfo where
  kind : PKind
  blockType : Nat
  inst : Nat
  caps : Nat
  owner : Nat
  fixed : Bool
  psrc : Nat
  enRst : Bool
  app : Apply
  deriving DecidableEq, Repr

/-- A page of a domain that applies on arm, with capability bits `caps` (R66: 2 `OPEN_READ`, 4 `HAS_AUTO`,
8 `HAS_FENCE`, 16 `HAS_QUIESCE`, 32 `TENANT_READ`). -/
def pinfo (kind : PKind) (blockType inst caps owner : Nat) (fixed : Bool := false) (psrc : Nat := 0)
    (enRst : Bool := false) (app : Apply := .onArm) : PInfo :=
  ⟨kind, blockType, inst, caps, owner, fixed, psrc, enRst, app⟩

/-- Pages of the `DEV`, `CLK` and `RST` domains (R550, R23, R509, R583, R495). -/
def pinfoA : Nat → Nat → Option PInfo
  | 0x00, 0 => some (pinfo .ident 0x0000 0 0x22 1 true 0 true)
  | 0x00, 1 => some (pinfo .mode 0x0001 0 0 1 true 0 true)
  | 0x00, 2 => some (pinfo .otp 0x0002 0 0 1 true)
  | 0x00, 3 => some (pinfo .backup 0x0003 0 0 1 true)
  | 0x01, 0 => some (pinfo .root 0x0010 0 0 1 true 0 true)
  | 0x01, 1 => some (pinfo .div 0x0011 0 0 1 true 0 true)
  | 0x01, 2 => some (pinfo .thyme 0x0012 0 0 1 true 0 true)
  | 0x01, 3 => some (pinfo .period 0x0013 0 0 1 false 0 false .accounting)
  | 0x01, 4 => some (pinfo .bsync 0x0014 0 0 1)
  | 0x02, 0 => some (pinfo .sources 0x0020 0 2 1 true 0 true)
  | 0x02, 1 => some (pinfo .blockreq 0x0021 0 2 1 true 0 true)
  | 0x02, 2 => some (pinfo .pinmap 0x0022 0 2 1 true 0 true)
  | _, _ => none

/-- Pages of `FLT`, `SEC` and `MGT` (R479, R465, R463). -/
def pinfoB (d p : Nat) : Option PInfo :=
  if d = 0x03 then
    if p = 0 then some (pinfo .fcoll 0x0030 0 2 1 true 0 true)
    else if p = 1 then some (pinfo .fcap 0x0031 0 2 1 true 0 true)
    else if p < 10 then some (pinfo .fbank 0x0032 (p - 2) 2 1 true 0 true)
    else if p = 10 then some (pinfo .fsafe 0x003A 0 2 1 true 0 true)
    else none
  else if d = 0x04 then
    match p with
    | 0 => some (pinfo .worlds 0x0040 0 0 1 true)
    | 1 => some (pinfo .pot 0x0041 0 0 1 true)
    | 2 => some (pinfo .cove 0x0042 0 0 1 true)
    | 3 => some (pinfo .irqc 0x0043 0 0 1 true)
    | 4 => some (pinfo .measure 0x0044 0 0x22 1 true)
    | _ => none
  else if d = 0x05 then
    if p < 4 then some (pinfo .core (0x0050 + p) p 0 1 true 0 true)
    else match p with
      | 4 => some (pinfo .mbox 0x0054 0 0 1 true)
      | 5 => some (pinfo .router 0x0055 0 0 1 true 0 true)
      | 6 => some (pinfo .wdog 0x0056 0 0 1 true)
      | _ => none
  else none

/-- Pages of the host, ring, tenancy, fence and copy domains (R401, R402, R422, R412, R416). -/
def pinfoC (d p : Nat) : Option PInfo :=
  if d = 0x06 ∨ d = 0x07 then
    match p with
    | 0 => some (pinfo .hostp 0x0060 (d - 6) 0 1)
    | 1 => some (pinfo .hfunc 0x0061 (d - 6) 0 1)
    | 2 => some (pinfo .hmsix 0x0062 (d - 6) 0 1)
    | 3 => some (pinfo .herr 0x0063 (d - 6) 0 1)
    | _ => none
  else if d = 0x08 then if p < 8 then some (pinfo .ring 0x0080 p 0 1) else none
  else if d = 0x09 then
    if p < 16 then some (pinfo .ten 0x0090 p (if p = 0 then 0 else 16) 1 false 0 false .accounting) else none
  else if d = 0x0A then
    match p with
    | 0 => some (pinfo .fctl 0x00A0 0 0 1)
    | 1 => some (pinfo .fevt 0x00A1 0 0 1)
    | _ => none
  else if d = 0x0B then if p < 4 then some (pinfo .copy 0x00B0 p 0 1) else none
  else none

/-- Pages of the heads, the links, writeback, the Tidepool and the check-value units (R100, R137, R176,
R182). -/
def pinfoD (d p : Nat) : Option PInfo :=
  if 0x10 ≤ d ∧ d < 0x18 then
    let h := d - 0x10
    let at' (k : PKind) (bt caps : Nat) : Option PInfo := some (pinfo k bt h caps 0 false (1 + h) false .slack)
    if p = 0 then at' .head 0x0100 8
    else if p = 1 then at' .output 0x0101 0
    else if p < 6 then at' .layer 0x0110 0x10C
    else if p < 14 then at' .glayer 0x0111 0x0C
    else if p = 14 then at' .region 0x0114 0
    else if p = 15 then at' .colour 0x0115 0
    else none
  else if d = 0x18 then if p < 16 then some (pinfo .dsi 0x0180 p 0 0 false 0 false .slack) else none
  else if d = 0x19 then if p < 2 then some (pinfo .wb 0x0190 p 16 0 false 0 false .slack) else none
  else if d = 0x1A then
    match p with
    | 0 => some (pinfo .poolc 0x01A0 0 2 1)
    | 1 => some (pinfo .alloc 0x01A1 0 2 1)
    | 2 => some (pinfo .holdp 0x01A2 0 2 1)
    | _ => none
  else if d = 0x1B then if p < 16 then some (pinfo .cvu 0x01B0 p 0 0) else none
  else none

/-- Pages of the render, touch, haptic and audio domains (R210, R226, R266, R299, R294, R332). -/
def pinfoE (d p : Nat) : Option PInfo :=
  if d = 0x20 then
    match p with
    | 0 => some (pinfo .gfe 0x0200 0 0 1 false 0 false .jobStart)
    | 1 => some (pinfo .gsched 0x0201 0 0 1 false 0 false .jobStart)
    | 2 => some (pinfo .gtiler 0x0202 0 0 1 false 0 false .jobStart)
    | 3 => some (pinfo .gl2 0x0203 0 0 1 false 0 false .l2)
    | 4 => some (pinfo .gtex 0x0204 0 0 1 false 0 false .jobStart)
    | 5 => some (pinfo .gsig 0x0205 0 0 1 false 0 false .jobStart)
    | 6 => some (pinfo .gcount 0x0206 0 0 1)
    | 7 => some (pinfo .gstat 0x0207 0 0 1)
    | _ => none
  else if d = 0x21 then if p < 16 then some (pinfo .gcore 0x0210 p 0 1 false 0 false .coreTile) else none
  else if d = 0x22 then if p < 8 then some (pinfo .gcore 0x0210 (16 + p) 0 1 false 0 false .coreTile) else none
  else if d = 0x28 then
    if p = 0 then some (pinfo .tch 0x0280 0 0 1)
    else if p < 5 then some (pinfo .panel 0x0281 (p - 1) 0 0 false (10 + (p - 1)) false .touchFrame)
    else if p = 5 then some (pinfo .reflex 0x0285 0 0 1)
    else none
  else if d = 0x29 then
    if p = 0 then some (pinfo .hap 0x0290 0 0 1)
    else if p < 9 then some (pinfo .hchan 0x0291 (p - 1) 0 0)
    else if p < 11 then some (pinfo .hport 0x0292 (p - 9) 0 1)
    else none
  else if d = 0x2A then
    let at' (k : PKind) (bt inst : Nat) (a : Apply) : Option PInfo := some (pinfo k bt inst 0 1 false 9 false a)
    match p with
    | 0 => at' .aeng 0x02A0 0 .marker
    | 1 => at' .abank 0x02A1 0 .bankSwap
    | 2 => at' .aport 0x02A2 0 .marker
    | 3 => at' .aport 0x02A2 1 .marker
    | 4 => at' .aport 0x02A2 2 .marker
    | 5 => at' .aport 0x02A2 3 .marker
    | 6 => at' .asrc 0x02A6 0 .marker
    | 7 => at' .again 0x02A7 0 .marker
    | 8 => at' .ameter 0x02A8 0 .marker
    | 9 => at' .aclk 0x02A9 0 .marker
    | _ => none
  else none

/-- Pages of DRAM, memory integrity, Tombolo and pads (R360, R387, R542, R559). -/
def pinfoF (d p : Nat) : Option PInfo :=
  if d = 0x30 then
    match p with
    | 0 => some (pinfo .dglob 0x0300 0 2 1)
    | 1 => some (pinfo .dmap 0x0301 0 2 1)
    | 2 => some (pinfo .dsched 0x0302 0 2 1)
    | 3 => some (pinfo .dpower 0x0303 0 2 1)
    | 4 => some (pinfo .decc 0x0304 0 2 1)
    | 5 => some (pinfo .dsweep 0x0305 0 2 1)
    | p => if p < 14 then some (pinfo .dchan 0x0306 (p - 6) 2 1) else none
  else if d = 0x31 then
    match p with
    | 0 => some (pinfo .mmode 0x0310 0 2 1)
    | 1 => some (pinfo .mbucket 0x0311 0 2 1)
    | 2 => some (pinfo .mscrub 0x0312 0 2 1)
    | 3 => some (pinfo .mlog 0x0313 0 2 1)
    | _ => none
  else if d = 0x38 then
    match p with
    | 0 => some (pinfo .tmb 0x0380 0 0 1)
    | 1 => some (pinfo .tport 0x0381 0 0 1)
    | 2 => some (pinfo .tport 0x0381 1 0 1)
    | 3 => some (pinfo .tremote 0x0383 0 0 1)
    | 4 => some (pinfo .tsync 0x0384 0 0x22 1)
    | _ => none
  else if d = 0x3C then
    match p with
    | 0 => some (pinfo .pfunc 0x03C0 0 0 1)
    | 1 => some (pinfo .pgpio 0x03C1 0 0 1)
    | 2 => some (pinfo .pbc 0x03C2 0 0 1)
    | 3 => some (pinfo .xspi 0x03C3 0 0 1)
    | _ => none
  else none

/-- The page number p of domain d; none outside the domain map (an undefined range, R63). -/
def pinfoOf (d p : Nat) : Option PInfo :=
  if d < 3 then pinfoA d p
  else if d < 6 then pinfoB d p
  else if d < 0x0C then pinfoC d p
  else if d < 0x1C then pinfoD d p
  else if d < 0x2B then pinfoE d p
  else pinfoF d p

/-- The page of a byte address of the register space. -/
def pinfoAt (a : Nat) : Option PInfo := pinfoOf (domOf a) (pnoOf a)

/-- The domains of R63, in ascending order. -/
def domains : List Nat :=
  [0x00, 0x01, 0x02, 0x03, 0x04, 0x05, 0x06, 0x07, 0x08, 0x09, 0x0A, 0x0B] ++
  [0x10, 0x11, 0x12, 0x13, 0x14, 0x15, 0x16, 0x17, 0x18, 0x19, 0x1A, 0x1B] ++
  [0x20, 0x21, 0x22, 0x28, 0x29, 0x2A, 0x30, 0x31, 0x38, 0x3C]

/-- The domain number names a domain of R63. -/
def isDomain (d : Nat) : Bool := domains.contains d

/-- The pages of a domain, as base addresses in ascending order. -/
def pagesOf (d : Nat) : List Nat :=
  ((upto 0 16).filter (fun p => (pinfoOf d p).isSome)).map (fun p => pg d p)

/-- Every page of the domain map, as base addresses in ascending order. -/
def allPages : List Nat := domains.flatMap pagesOf

/-- The domain has an instance on the part (R547). -/
def domPresent (q : Part) (d : Nat) : Bool :=
  isDomain d &&
  (if 0x10 ≤ d ∧ d < 0x18 then decide (d - 0x10 < q.heads)
   else if d = 0x07 then decide (1 < q.hostPorts)
   else if d = 0x22 then decide (16 < q.cores)
   else if d = 0x38 then decide (0 < q.tmbPorts)
   else true)

/-- `PAGE_CAPS.PRESENT` (R4, R547): the page's instance is present on the part. -/
def pagePresent (q : Part) (d p : Nat) : Bool :=
  domPresent q d &&
  (if d = 0x18 then decide (p < q.links)
   else if d = 0x21 then decide (p < q.cores)
   else if d = 0x22 then decide (16 + p < q.cores)
   else if d = 0x28 ∧ 1 ≤ p ∧ p ≤ 4 then decide (p - 1 < q.panels)
   else if d = 0x29 ∧ 1 ≤ p ∧ p ≤ 8 then decide (p - 1 < q.hapCh)
   else if d = 0x29 ∧ 9 ≤ p then decide ((p - 9) * 4 < q.hapCh)
   else if d = 0x2A ∧ 2 ≤ p ∧ p ≤ 5 then decide (p - 2 < q.tdm)
   else if d = 0x30 ∧ 6 ≤ p then decide (p - 6 < q.dramCh)
   else true)

/-- The field stands at the offset (for an indexed register, at one of its instances). -/
def Fld.hits (f : Fld) (off : Nat) : Bool :=
  if off < f.off then false
  else
    let r := off - f.off
    if f.count2 ≤ 1 then
      if f.count ≤ 1 then r == 0
      else r % f.stride == 0 && decide (r / f.stride < f.count)
    else
      let i := r / f.stride
      let q := r % f.stride
      decide (i < f.count) && q % f.stride2 == 0 && decide (q / f.stride2 < f.count2)

/-- The fields of a page of kind k at an offset: those of the common header below 0x100 (R64), else those
of the block.  The fence registers stand only on pages with `HAS_FENCE`. -/
def fldsAt (k : PKind) (off : Nat) : List Fld :=
  if off < 0x100 then F.HDR.all.filter (·.hits off) else (blockFlds k).filter (·.hits off)

/-- The offset is defined on the page (R73): a header offset 0x000–0x07F of R64 or a latched view, a block
register, or the shadow of a register that holds an SC field. -/
def offDefined (i : PInfo) (off : Nat) : Bool :=
  if off % 4 ≠ 0 then false
  else if off < 0x100 then !(fldsAt i.kind off).isEmpty
  else !((blockFlds i.kind).filter (·.hits off)).isEmpty
    || (decide (0x800 ≤ off) &&
        !((fldsAt i.kind (off - 0x800)).filter (fun f => f.acc == .sc)).isEmpty)

end Sys2Proof.Machine
end

