-- ==== Sys2Proof/Machine/Catalog.lean ====
section
/-! DEFINITION. The fault sources of R471: home domain, block-reset target, severity, reactions, and the
page whose owner a source reports (R472). -/

namespace Sys2Proof.Machine

/-- Reaction bits in the order of `SRC_CFG` (R482). -/
def reI : Nat := 1
def reN : Nat := 2
def reB : Nat := 4
def reC : Nat := 8
def reP : Nat := 16

/-- What a block-reset reaction of a source acts on (R471, R473). -/
inductive BTarget where
  /-- a block reset is refused (R476) -/
  | none
  /-- a DOMAIN reset of the domain -/
  | domain (d : Nat)
  /-- the restart of the secure side -/
  | secure
  /-- one service core alone -/
  | core (c : Nat)
  deriving DecidableEq, Repr

/-- A row of the catalogue. -/
structure SrcInfo where
  home : Nat
  blk : BTarget
  sev : Nat
  react : Nat
  deriving DecidableEq, Repr

/-- A row whose block reset acts on its home domain. -/
def srcH (home sev react : Nat) : Option SrcInfo := some ⟨home, .domain home, sev, react⟩

/-- A row marked "—": its block reset is refused. -/
def srcN (home sev react : Nat) : Option SrcInfo := some ⟨home, .none, sev, react⟩

/-- The domain that a `BUS_TIMEOUT` source covers. -/
def busTimeoutDom (s : Nat) : Option Nat :=
  if s < 240 then none
  else if s < 252 then some (s - 240)
  else if s < 264 then some (s - 252 + 0x10)
  else if s < 267 then some (s - 264 + 0x20)
  else if s < 270 then some (s - 267 + 0x28)
  else if s < 272 then some (s - 270 + 0x30)
  else if s = 272 then some 0x38
  else if s = 273 then some 0x3C
  else none

/-- The `BUS_TIMEOUT` source of a domain of R63. -/
def busTimeoutSrc (d : Nat) : Nat :=
  if d < 0x0C then 240 + d
  else if d < 0x1C then 252 + (d - 0x10)
  else if d < 0x23 then 264 + (d - 0x20)
  else if d < 0x2B then 267 + (d - 0x28)
  else if d < 0x32 then 270 + (d - 0x30)
  else if d = 0x38 then 272 else 273

/-- The domains that are never reset alone by a reaction (R476). -/
def neverB : List Nat := [0x00, 0x01, 0x02, 0x03, 0x04, 0x08, 0x09, 0x0A, 0x0B, 0x30, 0x31]

/-- The catalogue of R471: sources 0–27. -/
def srcLow : Nat → Option SrcInfo
  | 0 => srcN 0x01 2 (reI + reP)
  | 1 => srcN 0x01 3 (reI + reP + reC)
  | 2 => srcN 0x01 1 reI
  | 3 => srcN 0x00 1 reI
  | 4 => srcN 0x00 3 (reP + reC)
  | 5 => srcN 0x00 3 (reP + reC)
  | 6 => srcN 0x00 2 (reI + reP)
  | 7 => srcN 0x00 1 reI
  | 8 => srcN 0x03 3 (reI + reN + reP)
  | 9 => srcN 0x03 0 0
  | 10 => srcN 0x03 1 reI
  | 11 => srcN 0x04 1 reI
  | 12 => some ⟨0x05, .secure, 3, reI + reP + reB⟩
  | 13 => srcN 0x04 2 (reI + reP)
  | 14 => srcN 0x05 2 reI
  | 15 => some ⟨0x05, .core 1, 2, reI + reN⟩
  | 16 => some ⟨0x05, .core 2, 2, reI + reN⟩
  | 17 => some ⟨0x05, .core 3, 2, reI + reN⟩
  | 18 => srcN 0x08 0 reI
  | 19 => srcH 0x06 2 reI
  | 20 => srcH 0x07 2 reI
  | 21 => srcH 0x06 1 reI
  | 22 => srcH 0x07 1 reI
  | 23 => srcH 0x38 2 (reI + reP)
  | 24 => srcH 0x38 2 (reI + reP)
  | 25 => srcH 0x38 0 reI
  | 26 => srcH 0x38 0 reI
  | 27 => srcH 0x38 1 reI
  | _ => none

/-- The catalogue of R471; none for a reserved source. -/
def srcInfo (s : Nat) : Option SrcInfo :=
  if s < 28 then srcLow s
  else if s < 48 then none
  else if s < 56 then srcH (0x10 + (s - 48)) 1 reI
  else if s < 64 then srcH (0x10 + (s - 56)) 1 reI
  else if s < 72 then srcH (0x10 + (s - 64)) 2 (reI + reP)
  else if s < 80 then srcH (0x10 + (s - 72)) 2 (reI + reP)
  else if s < 96 then srcH 0x18 2 reI
  else if s < 98 then srcH 0x20 1 reI
  else if s < 114 then srcH 0x21 2 reI
  else if s < 122 then srcH 0x22 2 reI
  else if s < 138 then srcH 0x1B 2 reI
  else if s < 144 then none
  else if s < 148 then srcH 0x28 2 reI
  else if s < 156 then srcH 0x28 0 reI
  else if s < 164 then srcH 0x29 1 reI
  else if s < 172 then srcH 0x29 2 reI
  else if s < 177 then srcH 0x2A 1 reI
  else if s < 185 then srcH 0x2A 0 reI
  else if s < 192 then none
  else if s < 200 then srcN 0x31 1 reI
  else if s < 208 then srcN 0x30 2 reI
  else if s < 216 then srcN 0x30 3 (reI + reN + reP)
  else if s = 216 then srcN 0x30 2 (reI + reP)
  else if s < 219 then srcN 0x31 1 reI
  else if s = 219 then srcN 0x31 2 reI
  else if s = 220 then srcN 0x31 3 (reI + reN + reP)
  else match busTimeoutDom s with
    | some d => some ⟨d, if neverB.contains d ∨ d = 0x05 then .none else .domain d, 2, reI⟩
    | none => if s = 383 then srcN 0x03 3 0 else none

/-- The source's `SRC_CFG` at reset (R482): severity and reactions of R471, `ENABLE` 0 for a reserved
source; source 383 reads 0xDF. -/
def srcCfgReset (s : Nat) : Nat :=
  if s = 383 then 0xDF
  else match srcInfo s with
    | some i => i.sev * 64 + 32 + i.react
    | none => 0

/-- Sources whose capture record holds the access that caused them (R472). -/
def srcAccess (s : Nat) : Bool :=
  (decide (8 ≤ s) && decide (s ≤ 11)) || (decide (56 ≤ s) && decide (s ≤ 63))
    || (decide (200 ≤ s) && decide (s ≤ 215)) || s == 219 || s == 220
    || (decide (240 ≤ s) && decide (s ≤ 273))

/-- The page of the layer with code c of head h: page 2 + c (R100; codes 0–3 `LAYER_V0`–`V3`, 4–11
`LAYER_G0`–`G7`). -/
def layerPage (h c : Nat) : Nat := pg (0x10 + h) (2 + c % 12)

/-- The page whose `OWNER` a source that no access causes reports (R472). -/
def srcPage (s arg : Nat) : Nat :=
  if s < 2 then pg 0x01 0
  else if s = 2 then pg 0x01 1
  else if s < 6 then pg 0x00 1
  else if s < 8 then pg 0x00 2
  else if s = 12 then pg 0x05 0
  else if s = 13 then pg 0x04 0
  else if s < 18 then pg 0x05 (s - 14)
  else if s = 18 then pg 0x08 (arg / 256 / 16)
  else if s < 21 then pg (0x06 + (s - 19)) 0
  else if s < 23 then pg (0x06 + (s - 21)) 3
  else if s < 27 then pg 0x38 (1 + (s - 23) % 2)
  else if s = 27 then pg 0x38 4
  else if s < 56 then layerPage (s - 48) arg
  else if s < 80 then pg (0x10 + (s - 64) % 8) 14
  else if s < 96 then pg 0x18 (s - 80)
  else if s < 98 then pg 0x20 1
  else if s < 114 then pg 0x21 (s - 98)
  else if s < 122 then pg 0x22 (s - 114)
  else if s < 138 then pg 0x1B (s - 122)
  else if s < 156 then pg 0x28 (1 + s % 4)
  else if s < 172 then pg 0x29 (1 + (s - 156) % 8)
  else if s = 172 then pg 0x2A 0
  else if s < 177 then pg 0x2A (2 + (s - 173))
  else if s < 185 then pg 0x2A 6
  else if s = 216 then pg 0x30 (6 + arg / 16)
  else if s = 383 then pg 0x03 0
  else pg 0x31 1

/-- Sources of instances that the part lacks never raise (R547). -/
def srcPresent (q : Config.Part) (s : Nat) : Bool :=
  match srcInfo s with
  | none => false
  | some i =>
    domPresent q i.home &&
    (if 23 ≤ s ∧ s ≤ 27 then decide (0 < q.tmbPorts)
     else if 80 ≤ s ∧ s < 96 then decide (s - 80 < q.links)
     else if 98 ≤ s ∧ s < 122 then decide (s - 98 < q.cores)
     else if 144 ≤ s ∧ s < 156 then decide (s % 4 < q.panels)
     else if 156 ≤ s ∧ s < 172 then decide ((s - 156) % 8 < q.hapCh)
     else if 173 ≤ s ∧ s < 177 then decide (s - 173 < q.tdm)
     else if 200 ≤ s ∧ s < 216 then decide (s % 8 < q.dramCh)
     else true)

end Sys2Proof.Machine
end

