-- ==== Sys2Proof/Machine/RegReset.lean ====
section
/-! DEFINITION. What every register reads as after reset: the reset values of the register tables, and
the values that a part's fuses and bonding give. -/

namespace Sys2Proof.Machine

open Sys2Proof.Config (Part)

/-- n ones. -/
def ones (n : Nat) : Nat := (1 <<< n) - 1

/-- The word whose fields have the reset values of a list of fields, all standing at one offset. -/
def fldsReset : List Fld → Nat
  | [] => 0
  | f :: t => (f.rst <<< f.lo) ||| fldsReset t

/-- `PAGE_CAPS.HAS_FENCE`, `HAS_AUTO` and the other capability bits (R66). -/
def PInfo.hasFence (i : PInfo) : Bool := i.caps.testBit 3
def PInfo.hasAuto (i : PInfo) : Bool := i.caps.testBit 2
def PInfo.hasQuiesce (i : PInfo) : Bool := i.caps.testBit 4
def PInfo.openRead (i : PInfo) : Bool := i.caps.testBit 1
def PInfo.tenantRead (i : PInfo) : Bool := i.caps.testBit 5

/-- The identity registers of the part in row n of R2 (R551). -/
def identWord (n : Nat) (p : Part) : Nat → Nat
  | 0x100 => (0x4F38 <<< 16) ||| ((if 16 ≤ n then 0 else n) <<< 8) ||| 0x10
  | 0x104 => (ones p.links <<< 16) ||| ones p.heads
  | 0x108 => ones p.cores
  | 0x10C =>
    (b2n p.gradeC <<< 31) ||| (b2n p.pkgM <<< 30) ||| (ones p.tmbPorts <<< 28) ||| (ones p.tdm <<< 24)
      ||| (ones p.hapCh <<< 16) ||| (ones p.panels <<< 12) ||| (ones p.hostPorts <<< 8) ||| ones p.dramCh
  | 0x110 => (p.granules <<< 16) ||| 8192
  | 0x114 => if 16 ≤ n then 0 else 0x80000000
  | 0x118 => (0x1 <<< 28) ||| ((0x0800 + n % 16) <<< 12) ||| (Config.jep106.toNat <<< 1) ||| 1
  | 0x120 => bits Config.uid.toNat 31 0
  | 0x124 => bits Config.uid.toNat 63 32
  | 0x128 => bits Config.uid.toNat 95 64
  | 0x12C => bits Config.uid.toNat 127 96
  | _ => 0

/-- The header registers of a page whose reset value is not that of the table of R64. -/
def hdrWord (q : Part) (d p : Nat) (i : PInfo) : Nat → Option Nat
  | 0x000 => some ((i.blockType <<< 16) ||| (i.inst <<< 8) ||| 1)
  | 0x004 => some (i.caps ||| b2n (pagePresent q d p))
  | 0x008 => some (b2n i.enRst)
  | 0x00C => some (2 ||| b2n i.enRst)
  | 0x018 => some i.owner
  | 0x044 => some i.psrc
  | 0x844 => some i.psrc
  | _ => none

/-- The block registers whose reset value is per part, per instance or per index. -/
def blockWord (die : Nat) (q : Part) (i : PInfo) (off : Nat) : Option Nat :=
  match i.kind with
  | .ident => some (identWord die q off)
  | .mode =>
    if off = 0x210 ∨ off = 0xA10 then some (((if q.gradeC then 95 else 115) <<< 8) ||| 5)
    else if off = 0x214 then some (if q.gradeC then 110 else 130) else none
  | .div =>
    if 0x100 ≤ off ∧ off < 0x120 then
      some (forN (fun b a => a ||| (b2n (domPresent q (32 * ((off - 0x100) / 4) + b)) <<< b)) 32 0)
    else none
  | .fbank =>
    let o := if 0x900 ≤ off ∧ off < 0x9C0 then off - 0x800 else off
    if 0x100 ≤ o ∧ o < 0x1C0 then some (srcCfgReset (i.inst * 48 + (o - 0x100) / 4)) else none
  | .irqc => if 0x100 ≤ off ∧ off < 0x10C then some 0xFFFFFFFF else none
  | .core =>
    if i.inst = 0 then
      if off = 0x100 then some 1
      else if off = 0x108 ∨ off = 0x908 then some 0x10
      else none
    else none
  | .mbox => if off = 0x180 then some 0x010 else none
  | .colour =>
    let o := if 0x800 ≤ off then off - 0x800 else off
    if 0x104 ≤ o ∧ o < 0x128 then
      let k := (o - 0x104) / 4
      some (if k = 0 ∨ k = 4 ∨ k = 8 then 16384 else 0)
    else none
  | .panel =>
    let o := if 0x800 ≤ off then off - 0x800 else off
    if 0x130 ≤ o ∧ o < 0x140 then some ((0x80 <<< 24) ||| (250 - 10 * ((o - 0x130) / 4))) else none
  | .mbucket =>
    let o := if 0x800 ≤ off ∧ off < 0xF00 then off - 0x800 else off
    if 0x110 ≤ o ∧ o < 0x150 then
      if (o - 0x100) % 8 = 0 then some ((4 <<< 28) ||| (1 <<< 24) ||| 256) else some 600000
    else none
  | .gfe => if off = 0x100 ∨ off = 0x900 then some (ones q.cores) else none
  | .tch => if off = 0xF00 then some (ones q.panels) else none
  | .dmap => if off = 0x100 ∨ off = 0x900 then some ((ones q.dramCh) <<< 4) else none
  | .poolc => if off = 0x100 then some ((q.granules <<< 16) ||| 16) else none
  | .hostp => if off = 0xF00 ∧ i.inst = 0 then some 0x100 else none
  | _ => none

/-- What an unwritten register at byte address a reads as on die row `die`; a shadow reads its active
register's reset value. (log 4, DESIGN CHOICE) -/
def rstWord (die a : Nat) : Word :=
  match pinfoAt a with
  | none => 0
  | some i =>
    let off := offOf a
    let q := Config.partOf die
    let v :=
      if off < 0x100 then
        match hdrWord q (domOf a) (pnoOf a) i off with
        | some v => v
        | none => fldsReset (fldsAt i.kind off)
      else
        match blockWord die q i off with
        | some v => v
        | none =>
          if off = 0x844 then i.psrc
          else
            match fldsAt i.kind off with
            | [] =>
              if 0x800 ≤ off then fldsReset ((fldsAt i.kind (off - 0x800)).filter (fun f => f.acc == .sc)) else 0
            | l => fldsReset l
    BitVec.ofNat 32 v

end Sys2Proof.Machine
end

