-- ==== Sys2Proof/Machine/StateA.lean ====
section
/-! DEFINITION. The parts of the state that the framework chapters name: modes, page controls, fault
collection, journals, rings, fences, copies, the secure side and resets. -/

namespace Sys2Proof.Machine

/-- The eight operating modes (R20, R25). -/
inductive Mode where
  | off
  | backup
  | load
  | boot
  | recovery
  | run
  | standby
  | safe
  deriving DecidableEq, Repr

/-- The encoding of R25. -/
def Mode.code : Mode → Nat
  | .off => 0
  | .backup => 1
  | .load => 2
  | .boot => 3
  | .recovery => 4
  | .run => 5
  | .standby => 6
  | .safe => 7

/-- A STANDBY entry or exit under way (R27–R29).  Steps are numbered as in R27. -/
inductive Stby where
  | none
  /-- entry: step n is in progress; `abort` when a wake event has arrived -/
  | entry (n : Nat) (abort : Bool)
  /-- the undo of step n is in progress; `aborted` when the entry was aborted -/
  | undo (n : Nat) (aborted : Bool)
  deriving DecidableEq, Repr

/-- A captured configuration image (R82, R84): the register contents of the pages of a commit group at the
capture, the arm tick once armed, and the `ATTEMPT` value of its check. -/
structure CfgImage where
  pages : List Nat
  regs : List (Nat × Word)
  tick : Nat
  attempt : Nat
  /-- pages whose fence, with `COMMIT_ON_FENCE` = 1, another owner held on the tick of the `COMMIT` write (R71) -/
  foreign : List Nat
  deriving DecidableEq, Repr

/-- A check that runs, or a commit that waits for its fence: who asked, and the candidate. -/
structure CheckRun where
  req : Req
  img : CfgImage
  deriving DecidableEq, Repr

/-- What a page's enable, commit and period mechanisms hold beside its registers. -/
structure PageCtl where
  /-- the enable check that runs, and the commit check that runs (`CHECK_BUSY`) -/
  enRun : Option CheckRun
  run : Option CheckRun
  /-- an enable written while a withdrawn enable check runs (R83): its check starts when that one ends -/
  enNext : Option CheckRun
  /-- a commit written during a running check (`COMMIT_QUEUED`), and the pages whose fence was foreign at the write -/
  queued : Option (Req × List Nat)
  /-- a commit that waits for its fence (`FENCE_WAIT`) -/
  wait : Option CheckRun
  /-- the armed image (`COMMIT_ARMED`), held at the page that commits the group -/
  armed : Option CfgImage
  /-- an accepted enable, with its accept tick, waits for the apply point -/
  startDue : Option Nat
  /-- a disable written while the enable check runs (R83) -/
  withdrawn : Bool
  /-- a disable waits for the apply point -/
  stopDue : Bool
  /-- the block stays in reset after an abandoned release (R40) -/
  stuck : Bool
  /-- a BLOCK reset runs: who asked and its assertion tick -/
  inReset : Option (Req × Nat)
  /-- start tick of the open period -/
  pstart : Nat
  /-- tick from which boundaries of the selected source count (R55) -/
  psince : Nat
  /-- a boundary whose latch update is still due -/
  pend : Option Nat
  /-- until a tick, the words of the previous latched view that reads still see (R52), by offset -/
  old : Option (Nat × List (Nat × Word))
  deriving DecidableEq, Repr

/-- A page with nothing under way. -/
def PageCtl.idle : PageCtl := ⟨none, none, none, none, none, none, none, false, false, false, none, 0, 0, none, none⟩

/-- An event queued at an aggregator (R469), with the access that caused it (R472): access type as in
R481, requester ID, owner tag and address. -/
structure Ev where
  src : Nat
  arg : Nat
  acc : Nat
  rid : Nat
  tag : Nat
  addr : Nat
  deriving DecidableEq, Repr

/-- A B reaction that has not ended (R473): the slot whose `ACTIVE` holds it, what it resets, its start
tick, and the release (or abandon) tick once the hold has ended. -/
structure BReact where
  slot : Nat
  tgt : BTarget
  start : Nat
  rel : Option Nat
  deriving DecidableEq, Repr

/-- The fault system beside its registers: the aggregators' queues by domain, where the round robin goes
on, the B reactions under way, whether the collector has stopped (R483), and whether another device holds
the `FAULT_N` net low (R586), and the tick up to which a chip reset keeps the pin driven (R494). -/
structure FaultSt where
  queues : List (Nat × List Ev)
  rr : Nat
  breacts : List BReact
  dead : Bool
  extLow : Bool
  lowTill : Option Nat
  deriving DecidableEq, Repr

/-- A journal record of R419 without its sequence: type, source page, stamp and payload bytes 16–31. -/
structure JRec where
  typ : Nat
  page : Nat
  stamp : Nat
  pay : BitVec 128
  seq : Nat
  deriving DecidableEq, Repr

/-- A tenancy's journal beside its registers (R418, R420): the queue of records, oldest first; the records
lost since the last JOURNAL_LOSS record (count, first and last sequence); the tick of the last message, and
whether one is withheld. -/
structure Journal where
  queue : List JRec
  lost : Nat
  lost0 : Nat
  lost1 : Nat
  msgAt : Option Nat
  held : Bool
  deriving DecidableEq, Repr

/-- An empty journal. -/
def Journal.empty : Journal := ⟨[], 0, 0, 0, none, false⟩

/-- The outcome of a version negotiation (R97), as one entry holds it. -/
structure Ver where
  reason : Nat
  peerMax : Nat
  peerMin : Nat
  chosen : Nat
  peerFeat : Nat
  agreed : Nat
  ts : Nat
  deriving DecidableEq, Repr

/-- No negotiation yet. -/
def Ver.none : Ver := ⟨0, 0, 0, 0, 0, 0, 0⟩

/-- A 64-byte descriptor, byte 0 in the low bits (R406). -/
abbrev Desc := BitVec 512

/-- A descriptor that has been issued: the descriptor, its issue tick, its place in the ring's issue order, and,
once its work is done, its status and completion tick, until its completion is reported (R408). -/
structure Issued where
  d : Desc
  tick : Nat
  num : Nat
  fin : Option (Nat × Nat)
  deriving DecidableEq, Repr

/-- A ring beside its registers: the descriptors held, oldest first; those issued and not complete; how
many it has issued; whether its header is being read (R404); whether it is stopping (R405); and its
negotiation outcome. -/
structure RingSt where
  pre : List Desc
  issued : List Issued
  count : Nat
  starting : Bool
  stopping : Bool
  /-- `VER_LOCAL` as the start found it (R97) -/
  loc : Word
  ver : Ver
  deriving DecidableEq, Repr

/-- A stopped ring. -/
def RingSt.stopped : RingSt := ⟨[], [], 0, false, false, 0, Ver.none⟩

/-- A timeline fence (R411, R412): its configuration words and its value. -/
structure Fence where
  cfg : Word
  mirror : BitVec 64
  value : BitVec 64
  deriving DecidableEq, Repr

/-- A fence at reset. -/
def Fence.zero : Fence := ⟨0, 0, 0⟩

/-- A copy descriptor that an engine holds: the tenancy's tag, the ring it came from, its descriptor with
issue number and tick. -/
structure CopyJob where
  tag : Nat
  ring : Nat
  it : Issued
  deriving DecidableEq, Repr

/-- A copy engine: what it runs, since when, and what it has queued, oldest first. -/
structure CopyEng where
  running : Option (CopyJob × Nat)
  queue : List CopyJob
  deriving DecidableEq, Repr

/-- A quiesce of a tenancy (R425): its start tick, its timeout tick, whether the timeout has acted, the
descriptors and jobs purged, and the functions (port and number) whose Function Level Reset asked for it. -/
structure Quiesce where
  start : Nat
  timeout : Nat
  timedOut : Bool
  descs : Nat
  jobs : Nat
  flr : List (Nat × Nat)
  deriving DecidableEq, Repr

/-- An ownership-table command that runs (R440): the first entry, the count and the value of a WRITE. -/
structure PotCmd where
  index : Nat
  count : Nat
  value : Word
  deriving DecidableEq, Repr

/-- A fabric request: requester ID, owner tag, DRAM system address or Tidepool byte, length in bytes,
write or read, Tidepool or DRAM, and whether it is a layer fetch that a Tombolo peer marked (R437). -/
structure MemRq where
  rid : Nat
  tag : Nat
  addr : Nat
  bytes : Nat
  write : Bool
  pool : Bool
  layer : Bool
  deriving DecidableEq, Repr

/-- The states of a Cove in the order of R445. -/
inductive CoveState where
  | free
  | building
  | sealed
  | clearing
  deriving DecidableEq, Repr

/-- Their codes. -/
def CoveState.code : CoveState → Nat
  | .free => 0
  | .building => 1
  | .sealed => 2
  | .clearing => 3

/-- Why the secure side restarts (R459). -/
inductive RestartCause where
  | watchdog
  | doubleTrap
  | request
  | lockstep
  deriving DecidableEq, Repr

/-- Their codes. -/
def RestartCause.code : RestartCause → Nat
  | .watchdog => 0
  | .doubleTrap => 1
  | .request => 2
  | .lockstep => 3

/-- The restart of the secure side (R457–R461): the running one, with its trigger tick and cause; the start
ticks of the last three, newest first; whether core 0 stays in reset because a restart was refused. -/
structure Restart where
  run : Option (Nat × RestartCause)
  hist : List Nat
  refused : Bool
  deriving DecidableEq, Repr

/-- The levels of a chip reset. -/
inductive RLevel where
  | warm
  | cold
  deriving DecidableEq, Repr

/-- Why a DOMAIN or BLOCK reset was asked for (R499). -/
inductive RCause where
  | software
  | fault
  | perst
  | hot
  deriving DecidableEq, Repr

/-- Their codes in the RESET record. -/
def RCause.code : RCause → Nat
  | .software => 0
  | .fault => 1
  | .perst => 2
  | .hot => 3

/-- A DOMAIN reset under way: assertion tick, cause, requester ID and fault source. -/
structure DomRst where
  start : Nat
  cause : RCause
  rid : Nat
  src : Nat
  deriving DecidableEq, Repr

/-- A gate request whose check runs (R41): the request, the domain, and gate or ungate. -/
structure GateReq where
  req : Req
  dom : Nat
  gate : Bool
  deriving DecidableEq, Repr

/-- One of the two stored copies of a backup item (R515): whether its CRC-8 is good, its generation and
its words. -/
structure BkCopy where
  good : Bool
  gen : BitVec 8
  val : List Word
  deriving DecidableEq, Repr

/-- An item of the backup domain: two copies. -/
structure BkItem where
  c0 : BkCopy
  c1 : BkCopy
  deriving DecidableEq, Repr

/-- An item that has never been written. -/
def BkItem.blank : BkItem := ⟨⟨false, 0, []⟩, ⟨false, 0, []⟩⟩

/-- The backup domain (R513). -/
structure Backup where
  count : BkItem
  cause : BkItem
  restarts : BkItem
  ff : BkItem
  fromBackup : Bool
  deriving DecidableEq, Repr

/-- The reset controller and the option loader: the chip reset in force with its assertion tick, the inputs
that still assert it, whether a load runs and how many have failed in a row (R505), the tick of a load retry,
whether the built-in memory test runs, when BOOT was entered, and the DOMAIN resets by domain. -/
structure RstSt where
  chip : Option (RLevel × Nat)
  resetN : Bool
  rootAbsent : Bool
  loading : Bool
  loaded : Bool
  fails : Nat
  retryAt : Option Nat
  bist : Bool
  bootAt : Nat
  testEn : Bool
  doms : List (Nat × DomRst)
  deriving DecidableEq, Repr

/-- An OTP command that runs (R507): word, data, and the tick its pulse started. -/
structure OtpRun where
  word : Nat
  data : Word
  start : Nat
  deriving DecidableEq, Repr

/-- The power supplies as the device sees them. -/
structure Power where
  main : Bool
  vbak : Bool
  deriving DecidableEq, Repr

/-- A management core beside its registers: pending interrupt lines, the causes of the traps that it has taken
into M-mode, and when its watchdog last restarted, until it expires. -/
structure CoreSt where
  lines : List Nat
  traps : List Nat
  wdAt : Option Nat
  deriving DecidableEq, Repr

/-- A core with nothing pending. -/
def CoreSt.idle : CoreSt := ⟨[], [], none⟩

/-- An MSI-X vector: its mask bit and the messages sent. -/
structure MsixVec where
  masked : Bool
  sent : Nat
  deriving DecidableEq, Repr

/-- A vector at reset: masked (log 40). -/
def MsixVec.reset : MsixVec := ⟨true, 0⟩

/-- A host port beside its registers: `PERST#` asserted, the tick of its release, whether the 90 ms of R393 have
ended, and how many configuration requests it has answered with Retry Status. -/
structure PortSt where
  perst : Bool
  rel : Nat
  late : Bool
  crs : Nat
  deriving DecidableEq, Repr

/-- A port at reset. -/
def PortSt.reset : PortSt := ⟨true, 0, false, 0⟩

/-- How a BAR4 access ended (R399): 0 successful completion, 1 Unsupported Request, 2 Completer Abort, 3 poisoned
data; and the data of a read. -/
structure BarAns where
  status : Nat
  data : List Byte
  deriving DecidableEq, Repr

/-- What the last register read returned: to whom, from which address, and the value. -/
structure Resp where
  rid : BitVec 8
  addr : RegAddr
  data : Word
  deriving DecidableEq, Repr

/-- The state of an on-chip memory bank (R372, R388): phase, steady mode (A-mode when true), pointer. -/
structure BankSt where
  phase : Nat
  amode : Bool
  ptr : Nat
  deriving DecidableEq, Repr

/-- A bank in steady A-mode, as every bank is after a COLD reset (R370). -/
def BankSt.reset : BankSt := ⟨0, true, 0⟩

/-- The on-chip integrity engine beside its registers: the start of the audit round, whether a round runs and
whether the next one is already due (R378), the tick of the last DRAM scrub response (R381), that of the last step
of the class K scrub (R380), and the banks whose bulk clear runs (R374). -/
structure MemSt where
  auditAt : Nat
  auditOn : Bool
  auditLate : Bool
  scrubAt : Nat
  kAt : Nat
  clearing : List Nat
  deriving DecidableEq, Repr

/-- A check-value unit beside its registers (R183): whether a stream is open, the register of R173, and the
64-byte block last folded, with its space. -/
structure CvuSt where
  isOpen : Bool
  reg : Nat
  blk : Option (Nat × Nat)
  deriving DecidableEq, Repr

/-- A unit with no stream. -/
def CvuSt.idle : CvuSt := ⟨false, 0, none⟩

end Sys2Proof.Machine
end

