-- ==== Sys2Proof/Machine/StateB.lean ====
section
/-! DEFINITION. The parts of the state that the rasters and the render engine name. -/

namespace Sys2Proof.Machine

/-- A head's raster (R140): whether it runs; the tick of its last slack point; the pixel slots that the rate
generator has emitted up to a tick t of the frame are (frac + (t − org) × NUM) / DEN, the first slot of the slack
point's line slot being number 1; and the line slots of the frame that have started. -/
structure Raster where
  on : Bool
  org : Nat
  frac : Nat
  line : Nat
  deriving DecidableEq, Repr

/-- A raster that does not run. -/
def Raster.off : Raster := ⟨false, 0, 0, 0⟩

/-- A line of the L2 (R206): DRAM line address (address / 64), owner tag, way, dirty, data, last use. -/
structure L2Line where
  line : Nat
  tag : Nat
  way : Nat
  dirty : Bool
  data : BitVec 512
  use : Nat
  deriving DecidableEq, Repr

/-- A render pass of a job (R190, R197): its descriptor; whether its binning is done; the next draw to
validate; the next tile to give; the tiles stored; whether an incremental flush has happened; for each colour
attachment the tiles written. -/
structure PassSt where
  d : BitVec 2048
  binned : Bool
  draw : Nat
  next : Nat
  stored : List Nat
  flushed : Bool
  written : List (List Nat)
  deriving DecidableEq, Repr

/-- A unit of work (R213): a tile of a pass, or a compute workgroup. -/
inductive GUnit where
  | tile (pass idx : Nat)
  | group (idx : Nat)
  deriving DecidableEq, Repr

/-- How far a job is (R187, R213): its descriptor is still to be fetched, it waits for its fence, it is ready, or
it has ended its work. -/
inductive JobPhase where
  | fetch
  | waiting
  | ready
  | done
  deriving DecidableEq, Repr

/-- A job: number, owner tag, the ring descriptor it came from, descriptor address and descriptor, passes and how
many are complete, phase, class (3 before it is ready), ready order, deadline slack point D and target T, guard and margin taken, whether
it is boosted and whether a unit has ever been given; status, colour tiles written and skipped; core-ticks held;
the next workgroup and those retired; the ways its tenancy had when it started; the tick of its
next timed evaluation (R219); whether a bus error has been noted (R212). -/
structure Job where
  id : Nat
  tag : Nat
  ring : Nat
  num : Nat
  addr : Nat
  d : BitVec 1024
  passes : List PassSt
  passDone : Nat
  phase : JobPhase
  cls : Nat
  order : Nat
  dl : Nat
  tgt : Nat
  guard : Nat
  margin : Nat
  boosted : Bool
  given : Bool
  status : Nat
  wrote : Nat
  skipped : Nat
  held : Nat
  gNext : Nat
  gDone : Nat
  ways : Nat
  evalAt : Nat
  berr : Bool
  deriving DecidableEq, Repr

/-- A shader core: the job and unit it holds, since when, the tick of a pre-emption request, whether that has timed
out, the tick from which the unit is held, and the samples in the tile buffer. -/
structure GCoreSt where
  unit : Option (Nat × GUnit)
  since : Nat
  preempt : Option Nat
  late : Bool
  took : Nat
  tile : List Byte
  deriving DecidableEq, Repr

/-- A free core. -/
def GCoreSt.idle : GCoreSt := ⟨none, 0, none, false, 0, []⟩

/-- A saved context (R222): tenancy's owner tag, slot, job and unit; the bytes saved, and how many of them are the tile
buffer's. -/
structure Saved where
  tag : Nat
  slot : Nat
  job : Nat
  unit : GUnit
  len : Nat
  tile : Nat
  deriving DecidableEq, Repr

/-- An entry of the cost history (R218), most recently used first in its list. -/
structure CostEnt where
  tag : Nat
  key : Nat
  e : Nat
  v : Nat
  deriving DecidableEq, Repr

/-- The render engine: jobs in the order of their RENDER descriptors, the next job number and ready order; shader
cores; L2 lines and the use count; cost history; core-ticks used by each tenancy in the accounting period and the
part of 64 not yet counted; saved contexts; whether an L2 flush runs; by tenancy, the ways
that its mask has lost and that still hold its lines (R208); by core, what the accesses of its last unit's shaders were
answered (R196, R204). -/
structure GfxSt where
  jobs : List Job
  nextId : Nat
  nextOrder : Nat
  cores : List (Nat × GCoreSt)
  l2 : List L2Line
  use : Nat
  cost : List CostEnt
  used : List (Nat × Nat)
  rem64 : List (Nat × Nat)
  saved : List Saved
  flushing : Bool
  gone : List (Nat × Nat)
  answers : List (Nat × List (List Word))
  deriving DecidableEq, Repr

/-- The render engine with nothing to do. -/
def GfxSt.idle : GfxSt := ⟨[], 0, 0, [], [], 0, [], [], [], [], false, [], []⟩

end Sys2Proof.Machine
end

