-- ==== Sys2Proof/Machine/StateC.lean ====
section
/-! DEFINITION. The parts of the state that composition, scan-out, hold frames and writeback name. -/

namespace Sys2Proof.Machine

/-- A replaced layer buffer that is not released yet (R156): plane, space, base, cause and the `FRAME_SEQ` of the
last frame that fetched it. -/
structure RelBuf where
  plane : Nat
  space : Nat
  addr : Nat
  cause : Nat
  seq : Nat
  deriving DecidableEq, Repr

/-- A layer beside its registers (R120, R125, R126, R153–R156): whether it holds active buffers; for each plane the
`FRAME_SEQ` of the last frame that fetched it, 0 while none has; the 64-byte granules fetched in this frame, by
plane, crop line and granule, each with whether a `DISPLAY_ONLY` grant allowed it; the granules whose response is
outstanding after an underrun; the line from which the layer is in fallback; the replaced buffers; the stamps
of the reflex toggles not yet counted; the bands in which coverage suppresses it, bit b for band b; and whether a
reflex state forced at the next slack point by a failover (R538), and its value. -/
structure LaySt where
  active : Bool
  seqs : List (Nat × Nat)
  bufs : List (Nat × Option (BitVec 512 × Bool))
  late : List Nat
  fallAt : Option Nat
  rel : List RelBuf
  toggles : List Nat
  supp : Nat
  force : Option Bool
  deriving DecidableEq, Repr

/-- A layer with nothing fetched. (log 119, DEDUCED) -/
def LaySt.idle : LaySt := ⟨false, [], [], [], none, [], [], 0, none⟩

/-- A hold-frame capture under way (R164): commanded, region, every byte written so far. -/
structure Capture where
  cmd : Bool
  region : Nat
  ok : Bool
  deriving DecidableEq, Repr

/-- A head beside its registers and raster: its capture; the first exit trigger since the last slack point, and its stamp (R165);
whether anything has made the frame not static, writes to the Tidepool apart (R163); the line from which a hold
frame could not be read; `APPLY_SEQ` (R180); whether every line start of the frame was within two ticks of its due
tick (R170); whether the raster stands for STANDBY (R167); the absolute deadline reported last (R168); the link
words of the line composed last; the active lines composed in the frame; the check-value register of each
region; the due slack point that ends the frame of a locked head (R170), 0 for none. -/
structure HeadSt where
  cap : Option Capture
  exit : Nat
  exitAt : Nat
  changed : Bool
  holdBad : Option Nat
  applySeq : Nat
  lockOk : Bool
  ulps : Bool
  lat : Option Nat
  px : List Nat
  done : Nat
  rgn : List (Nat × Nat)
  due : Nat
  deriving DecidableEq, Repr

/-- A head that does not run. -/
def HeadSt.idle : HeadSt := ⟨none, 0, 0, false, none, 0, true, false, none, [], 0, [], 0⟩

/-- A writeback engine beside its registers (R131): whether it captures the frame, whether it has stopped writing
the frame, and the outcome so far. -/
structure WbSt where
  on : Bool
  stopped : Bool
  outcome : Nat
  deriving DecidableEq, Repr

/-- An engine that captures nothing. -/
def WbSt.idle : WbSt := ⟨false, false, 0⟩

/-- A DSI link beside its registers: the tick at which its Mark-1 hold ends (R167); the packets of its last burst
(R143), before they are distributed to the lanes. -/
structure LinkSt where
  wake : Option Nat
  burst : List (List Byte)
  deriving DecidableEq, Repr

/-- A link that holds no Mark-1. -/
def LinkSt.idle : LinkSt := ⟨none, []⟩

/-- A recent write to the Tidepool: tick, first byte and length (R163). -/
structure PoolWr where
  tick : Nat
  addr : Nat
  bytes : Nat
  deriving DecidableEq, Repr

end Sys2Proof.Machine
end

