-- ==== Sys2Proof/Machine/StateD.lean ====
section
/-! DEFINITION. The parts of the state that touch sensing, haptics and audio name. -/

namespace Sys2Proof.Machine

/-- A node of a panel (R247–R249): its baseline × 256, whether it is suspect, its counter of clear frames, and the
reference it is suspect against. -/
structure Node where
  b : Int
  susp : Bool
  clr : Nat
  ref : Int
  deriving DecidableEq, Repr

/-- A contact (R252, R253, R257): identifier, place, signal, size, burst centre and `FRAME_SEQ` of its DOWN frame,
whether it has been noticed as resting, and whether its peak is a suspect node. -/
structure Contact where
  id : Nat
  x : Nat
  y : Nat
  signal : Nat
  size : Nat
  downB : Nat
  downSeq : Nat
  stuck : Bool
  susp : Bool
  deriving DecidableEq, Repr

/-- A frame of a panel (R243, R260): the tick of its slot −1, its slot length, its steps N, frequency, frame sequence,
whether it is a self-capacitance frame, the next of its N + 2 slots (0 for slot −1), whether a link error has
occurred, and the payloads of its steps so far. -/
structure TFrame where
  t0 : Nat
  step : Nat
  n : Nat
  freq : Nat
  seq : Nat
  self : Bool
  next : Nat
  bad : Bool
  ys : List (List Byte)
  deriving DecidableEq, Repr

/-- A touch panel beside its registers: the tick of a restart after an enable, or after a failure or loss (R239,
R240, R264); the restart under way (tick of t0, next slot, whether it is a retry); the next request `SEQ` and the
last two requests, newest first (R233, R234); the tick of the next slot −1; the frame under way; the keep-alives sent
since the last doze frame (R260); the frequency for the next frame and the hot frames in a row (R258); the nodes; an
acquisition under way (frames counted, sums); whether the next report carries `ACQUIRED`; the contacts; frames with
nothing on the panel (R259); frames discarded in a row (R264); the gang baselines and the approach count (R261);
reports dropped since the last one written (R256); whether a restart has failed since the enable (R240). -/
structure PanelSt where
  startAt : Option Nat
  retryAt : Option Nat
  rst : Option (Nat × Nat × Bool)
  seq : Nat
  reqs : List (List Byte)
  nextAt : Option Nat
  frame : Option TFrame
  keep : Nat
  freq : Nat
  hot : Nat
  nodes : List Node
  acq : Option (Nat × List Int)
  acqFlag : Bool
  contacts : List Contact
  quiet : Nat
  bads : Nat
  sb : List Int
  cnt : Nat
  drops : Nat
  failed : Bool
  /-- the latest transaction bit clock by bit clock: the level of `TCH_DO`, and the response bits taken, the one of
  `TCH_DI1` first (R231, R232) -/
  wire : List (Bool × List Bool)
  deriving DecidableEq, Repr

/-- A panel that does not run. (log 139, DEDUCED) -/
def PanelSt.idle : PanelSt :=
  ⟨none, none, none, 0, [], none, none, 0, 0, 0, [], none, false, [], 0, 0, [], 0, 0, false, []⟩

/-! Haptics and the reflex table -/

/-- An effect of the store (R279, R280): its owner and its 128 bytes. -/
structure Effect where
  owner : Nat
  d : BitVec 1024
  deriving DecidableEq, Repr

/-- A trigger that waits for its frame, or is queued (R285–R287): arrival tick, source (0 register, 1 ring, 2 reflex),
effect slot and reflex entry. -/
structure Trig where
  tick : Nat
  src : Nat
  slot : Nat
  entry : Nat
  deriving DecidableEq, Repr

/-- An effect that plays (R281–R293): its trigger, segment, samples and phase advance of the segment, samples of the
effect, onset, hits so far, the merged overdrive (segment, A′, N′), brake result, and the tick of the slot that
carried its last sample. -/
structure Play where
  trig : Trig
  seg : Nat
  n : Nat
  adv : Nat
  t : Nat
  onset : Nat
  hits : Nat
  merged : Option (Nat × Nat × Nat)
  brake : Nat
  last : Nat
  deriving DecidableEq, Repr

/-- A haptic channel beside its registers: phase accumulator, effect, queued trigger, triggers that wait, consecutive
overdrive samples, the sixteen energy blocks, the current block and its samples, back-EMF and `env` (R283, R289). -/
structure HapCh where
  ph : BitVec 32
  play : Option Play
  queued : Option Trig
  trigs : List Trig
  odRun : Nat
  blk : List Nat
  blkI : Nat
  blkN : Nat
  e : Int
  env : Nat
  deriving DecidableEq, Repr

/-- A channel at its enable. -/
def HapCh.idle : HapCh := ⟨0, none, none, [], 0, [0, 0, 0, 0, 0, 0, 0, 0, 0, 0, 0, 0, 0, 0, 0, 0], 0, 0, 0, 0⟩

/-- A haptic port beside its registers (R273–R278): the tick of its next frame; the restart under way (tick of frame
0, next frame, the frame of the first SELECT); the HELLO words received; the tick of a retry; the frames in a row
without a good word; the zero frames still to send before it stops in STANDBY, and whether it has stopped; the words
of its last frame. -/
structure HapPort where
  nextAt : Option Nat
  rst : Option (Nat × Nat × Option Nat)
  rxA : Option Nat
  rxB : Option Nat
  retryAt : Option Nat
  silent : Nat
  stopping : Option Nat
  stopped : Bool
  tx : List Word
  /-- `VER_LOCAL` as the running restart found it (R97) -/
  loc : Word
  deriving DecidableEq, Repr

/-- A port with no clock. -/
def HapPort.idle : HapPort := ⟨none, none, none, none, none, 0, none, false, [], 0⟩

/-- The contact events of a panel's frame, as they pass to the reflex table (R301): panel, burst centre, whether its
LIFTs are those of a lost link, the events (0 DOWN, 1 MOVE, 2 LIFT) in report order, and the tick of arrival. -/
structure RflxFrame where
  panel : Nat
  b : Nat
  lost : Bool
  evs : List (Nat × Contact)
  arrival : Nat
  deriving DecidableEq, Repr

/-! Audio -/

/-- A program bank (R320): whether it holds a valid image, program, coefficient words, rings (base, length), zero
table (first word, count), fade lists, and the 64 entries of the source and sink maps. -/
structure Bank where
  valid : Bool
  prog : List (BitVec 64)
  coefs : List (Nat × BitVec 48)
  rings : List (Nat × Nat)
  zeros : List (Nat × Nat)
  fadeOut : List Nat
  fadeIn : List Nat
  src : List (BitVec 16)
  snk : List (BitVec 16)
  deriving DecidableEq, Repr

/-- A bank that has never been loaded. -/
def Bank.empty : Bank := ⟨false, [], [], [], [], [], [], [], []⟩

/-- A gain unit (R322): current gain, samples waited, and the sign last watched. -/
structure GainSt where
  g : Nat
  wait : Nat
  neg : Bool
  deriving DecidableEq, Repr

/-- A sample player (R327): the next sample of the earcon, the frames of its head buffer, whether they are being
fetched, whether a frame was absent, the channels of the current sample, and the stream buffer: the earcon frame that
it begins with, and the frames that have arrived, none for one whose read failed. -/
structure PlayerSt where
  pos : Nat
  head : List (List Int)
  pre : Bool
  starved : Bool
  out : List Int
  base : Nat
  buf : List (Option (List Int))
  deriving DecidableEq, Repr

/-- A player with nothing loaded. -/
def PlayerSt.idle : PlayerSt := ⟨0, [], false, false, [], 2048, []⟩

/-- A meter (R330): peak and sum of the block, and the sum that the last marker latched. -/
structure MeterSt where
  peak : Nat
  sum : Nat
  latched : Nat
  deriving DecidableEq, Repr

/-- A rate converter beside its registers (R312–R314): its input frames, newest first, each with the tick from which
it can be used; the frames received; `pos`, none until the first output after a lock; good frames in a row; the
outputs since a lock that the ramp still shapes. -/
structure ConvSt where
  hist : List (Nat × List Int)
  cnt : Nat
  pos : Option Int
  good : Nat
  ramp : Nat
  deriving DecidableEq, Repr

/-- A converter at its port's enable. -/
def ConvSt.idle : ConvSt := ⟨[], 0, none, 0, 96⟩

/-- Where a port is in the STANDBY steps of R311: it runs, its k-th faded output is next, it sends zero frames, it is
stopped, or its k-th rising output is next. -/
inductive AFade where
  | run
  | down (k : Nat)
  | zeros (k : Nat)
  | stopped
  | up (k : Nat)
  deriving DecidableEq, Repr

/-- A TDM port beside its registers: the tick of its last frame or edge; whether an edge has come since the enable or
the last clock loss; the STANDBY fade; the output slots of its last frame. -/
structure APortSt where
  last : Nat
  edge : Bool
  fade : AFade
  tx : List Nat
  deriving DecidableEq, Repr

/-- A port that does not run. -/
def APortSt.idle : APortSt := ⟨0, false, .run, []⟩

/-- A swap of program banks (R324): boundaries since its phase began, whether the swap falls on the next boundary, the
boundary of the swap and the `SAMPLE_SEQ` of its sample, and which fades timed out. -/
structure SwapSt where
  count : Nat
  due : Bool
  bs : Nat
  seq : Nat
  outLate : Bool
  inLate : Bool
  deriving DecidableEq, Repr

/-- The audio engine beside its registers: the last boundary run and the last marker; state memory; the two banks and
the load that runs (address, size); gain units and the target writes that wait for a marker (R322); for each duck rule
the blocks it still acts; the players that played in this block; players, meters, converters and ports; the sinks; the
swap; and whether STANDBY has stopped the clock outputs (R331). -/
structure AudioSt where
  lastRun : Nat
  marker : Nat
  mem : List (Nat × BitVec 48)
  bank0 : Bank
  bank1 : Bank
  load : Option (Nat × Nat)
  gains : List (Nat × GainSt)
  gainWr : List (Nat × Nat)
  duck : List (Nat × Nat)
  played : Nat
  players : List (Nat × PlayerSt)
  meters : List (Nat × MeterSt)
  convs : List (Nat × ConvSt)
  ports : List (Nat × APortSt)
  sinks : List (Nat × BitVec 48)
  swap : Option SwapSt
  mclkOff : Bool
  deriving DecidableEq, Repr

/-- The engine at reset. -/
def AudioSt.idle : AudioSt :=
  ⟨0, 0, [], Bank.empty, Bank.empty, none, [], [], [], 0, [], [], [], [], [], none, false⟩

end Sys2Proof.Machine
end

