-- ==== Sys2Proof/Machine/StateE.lean ====
section
/-! DEFINITION. The parts of the state that the DRAM controller names. -/

namespace Sys2Proof.Machine

/-- A request at the DRAM controller (R346–R348): the request, its stream, the bytes of a write, its class (0 ISO,
1 RT, 2 BE, 3 BG), its arrival tick, whether its promotion has been counted, and whether it is a write-back of a
corrected word (R341). -/
structure DramRq where
  rq : MemRq
  stream : Nat
  data : List Byte
  cls : Nat
  arr : Nat
  prom : Bool
  fix : Bool
  deriving DecidableEq, Repr

/-- What the controller last answered: requester, owner tag, whether the response is normal, and the data of a
read. -/
structure DramAns where
  rid : Nat
  tag : Nat
  ok : Bool
  data : List Byte
  deriving DecidableEq, Repr

/-- An answer that waits for that of an earlier request of its source (R347). -/
structure DramHeld where
  rq : MemRq
  stream : Nat
  ok : Bool
  data : List Byte
  deriving DecidableEq, Repr

/-- A channel beside its registers: the open row of each bank by rank × 16 + bank group × 4 + bank; the row hits in a
row (R348); refreshes postponed by bank; the tick of the last command of each rank; the ranks in power-down and the tick
up to which their time is counted; the tick up to which time in self-refresh is counted, while it is in self-refresh;
the tick from which it serves; the tick of its last response; that of the last MR4 read, and the tick at which
oscillator tracking falls due. -/
structure DChan where
  rows : List (Nat × Nat)
  run : Nat
  post : List (Nat × Nat)
  cmd0 : Nat
  cmd1 : Nat
  pd : Nat
  pdAt : Nat
  sr : Option Nat
  serve : Nat
  respAt : Nat
  mr4At : Nat
  oscAt : Nat
  deriving DecidableEq, Repr

/-- A channel at its training. -/
def DChan.idle : DChan := ⟨[], 0, [], 0, 0, 0, 0, none, 0, 0, 0, 0⟩

/-- The initialisation sweep beside its registers (R356): its start tick, the granules being swept, the paused ones
oldest first, those that requests wait for in the order of their first request, and the waiting requests. -/
structure SweepSt where
  start : Nat
  cur : List Nat
  paused : List Nat
  want : List Nat
  wait : List DramRq
  deriving DecidableEq, Repr

/-- No sweep. -/
def SweepSt.idle : SweepSt := ⟨0, [], [], [], []⟩

/-- The DRAM controller beside its pages: the channels; the requests queued at them and those that wait at their plane
port, in arrival order; the sweep; the last answer; the requests without an answer in the order of their issue, each with
its stream, and the answers that wait for earlier ones (R347); the reports of latency tolerance by source (heads 0–7, audio 8,
Tombolo ports 9 and 10), newest first, each with its tick (R349); BE bytes of each tenancy in the accounting period
(R423); `DRAM_RESET_N` by channel, true while high; the map recorded at the last enable of `GLOBAL` (`MAP_CFG`, then the
`GEOM` words); and whether the last chip reset was WARM (R355). -/
structure DramSt where
  chans : List (Nat × DChan)
  queue : List DramRq
  port : List DramRq
  sweep : SweepSt
  ans : Option DramAns
  order : List (MemRq × Nat)
  held : List DramHeld
  lats : List (Nat × List (Nat × Option Nat))
  be : List (Nat × Nat)
  resetN : BitVec 8
  map : Option (List Word)
  warm : Bool
  deriving DecidableEq, Repr

/-- The controller after a COLD reset. -/
def DramSt.idle : DramSt := ⟨[], [], [], SweepSt.idle, none, [], [], [], [], 0, none, false⟩

end Sys2Proof.Machine
end

