-- ==== Sys2Proof/Machine/StateF.lean ====
section
/-! DEFINITION. The parts of the state that Tombolo names. -/

namespace Sys2Proof.Machine

/-- A flit (R528): `TYPE`, `FLAGS`, `SEQ`, `ACK`, source and destination device, and the payload bytes used. -/
structure TFlit where
  typ : Nat
  flags : Nat
  seq : Nat
  ack : Nat
  src : Nat
  dst : Nat
  pay : List Byte
  deriving DecidableEq, Repr

/-- A Tombolo port beside its registers (R525–R531, R539): whether an enable's restart is still to start; the tick of
the last restart, that of the last entry into DOWN, of the last good flit received and of the last slot; the next `SEQ`
to send; whether a NAK is outstanding for the expected value, and one still to be sent; the `SEQ` that the peer's last
NAK named and how often in a row; the replay buffer, oldest first, and those of its flits that are to be sent again;
the flits queued, each with its priority; the last flit sent, as bytes.  Of the time exchange: as upstream, the tick of
the next TIME and t1, t4, t3 of the last exchange; as follower, t1, t2, t3 of the last exchange, whether none has been
evaluated since link-up, and how many in a row had an offset of at most one. -/
structure TPortSt where
  due : Bool
  rstAt : Nat
  downAt : Option Nat
  rxAt : Nat
  slotAt : Nat
  next : Nat
  nakOut : Bool
  nak : Bool
  nakFor : Nat × Nat
  replay : List TFlit
  resend : List TFlit
  queue : List (Nat × TFlit)
  tx : List Byte
  exchAt : Nat
  up3 : Option (Nat × Nat × Nat)
  down3 : Option (Nat × Nat × Nat)
  fresh : Bool
  good : Nat
  /-- `VER_LOCAL` as the restart found it (R97), and the version that this restart's negotiation chose (R526) -/
  loc : Word
  ver : Nat
  deriving DecidableEq, Repr

/-- A port that does not run. -/
def TPortSt.idle : TPortSt := ⟨false, 0, none, 0, 0, 0, false, false, (0, 0), [], [], [], [], 0, none, none, true, 0, 0, 0⟩

/-- A remote read that is outstanding (R532): its tag, port and issue tick; head, layer, plane, crop line, first
granule and number of granules. -/
structure TRead where
  tag : Nat
  port : Nat
  tick : Nat
  h : Nat
  l : Nat
  k : Nat
  y : Nat
  g : Nat
  n : Nat
  deriving DecidableEq, Repr

/-- What a device's last HEARTBEAT said (R528, R530): its tick and port, mode, flags and Thyme. -/
structure TPeer where
  tick : Nat
  port : Nat
  mode : Nat
  flags : Nat
  thyme : Nat
  deriving DecidableEq, Repr

/-- Tombolo beside its pages: the ports; the tick of the last HEARTBEAT sent; the devices heard; the timebase master, once
known; remote reads outstanding, and the next tag; by device, the deadline sent last and the one received last. -/
structure TmbSt where
  ports : List (Nat × TPortSt)
  hbAt : Nat
  peers : List (Nat × TPeer)
  master : Option Nat
  reads : List TRead
  tag : Nat
  latTx : List (Nat × Option Nat)
  latRx : List (Nat × Option Nat)
  deriving DecidableEq, Repr

/-- Tombolo after a chip reset. -/
def TmbSt.idle : TmbSt := ⟨[], 0, [], none, [], 0, [], []⟩

end Sys2Proof.Machine
end

