-- ==== Sys2Proof/Machine/StateG.lean ====
section
/-! DEFINITION. The parts of the state that pads, board interfaces, the test access port and the sensors name. -/

namespace Sys2Proof.Machine

/-- `CLK.BSYNC` beside its registers (R60, R61): the pulse train in force (period, width), its next rise, the fall of the
pulse under way, the level of `SYNC_OUT`, and the tick of the last edge on `SYNC_IN`. -/
structure SyncSt where
  train : Option (Nat × Nat)
  rise : Option Nat
  fall : Option Nat
  level : Bool
  lastIn : Option Nat
  deriving DecidableEq, Repr

/-- A board controller beside its registers (R563, R564): FIFOs; queued in-band interrupts (address, mandatory byte); the
`BC_XFER` word of the transfer that runs and its start; whether the bus is held for the next one, and whether a target may have been
left mid-byte; the dynamic addresses assigned since the enable, each with whether its target sends a mandatory byte. -/
structure BcSt where
  tx : List Byte
  rx : List Byte
  ibi : List (Nat × Option Byte)
  xfer : Option Word
  since : Nat
  held : Bool
  recover : Bool
  known : List (Nat × Bool)
  deriving DecidableEq, Repr

/-- A controller that does not run. -/
def BcSt.idle : BcSt := ⟨[], [], [], none, 0, false, false, []⟩

/-- The boot-flash controller beside its registers (R565): FIFOs, the command that runs, and the transfer that runs
(flash address, destination, length, Tidepool). -/
structure XspiSt where
  tx : List Byte
  rx : List Byte
  cmd : Option Word
  dma : Option (Nat × Nat × Nat × Bool)
  deriving DecidableEq, Repr

/-- The test access port (R566, R567): the instruction, the boundary-scan cells (bit 0 next to `TDI`), whether they drive
the pins, and what the last scan shifted out. -/
structure JtagSt where
  ir : Nat
  cells : BitVec 304
  drive : Bool
  out : BitVec 304
  deriving DecidableEq, Repr

/-- The junction sensors beside their registers (R580): the tick of the last sample, whether the warning is armed, and
the sensors whose last sample was at or above trip. -/
structure ThermSt where
  tick : Nat
  armed : Bool
  ovr : BitVec 4
  deriving DecidableEq, Repr

/-- Pads, pins and board interfaces: the level that the outside drives on each pad, `CLK.BSYNC`, the board controllers,
the boot-flash controller, the test access port and the sensors. -/
structure PadSt where
  ext : BitVec 32
  sync : SyncSt
  bcs : List (Nat × BcSt)
  xspi : XspiSt
  jtag : JtagSt
  therm : ThermSt
  deriving DecidableEq, Repr

/-- Pads after a chip reset. -/
def PadSt.idle : PadSt :=
  ⟨0, ⟨none, none, none, false, none⟩, [], ⟨[], [], none, none⟩, ⟨1, 0, false, 0⟩, ⟨0, true, 0⟩⟩

end Sys2Proof.Machine
end

