-- ==== Sys2Proof/Machine/State.lean ====
section
/-! DEFINITION. The state of the device: every register, counter, queue, buffer, mode and pin that the
spec gives it, and the queue of commands that wait. -/

namespace Sys2Proof.Machine

/-- Why the device stops with a fault.  No command does: an access to an address that does not exist is
answered by an error response and a fault source of the device's own (R17, R73, R437). -/
inductive Fault where
  deriving DecidableEq, Repr

/-- Why a command has no meaning. -/
inductive Refusal where
  /-- the command has no meaning in this model yet: raised by `exec`; safe -/
  | notModelled (mnemonic : String)
  deriving DecidableEq, Repr

/-- The state. -/
structure State where
  /-- the part: the row of the table of R2; 16 more while OTP block 0 has failed its check (R549) -/
  die : Nat
  /-- the number of free values taken so far (the model's own field) -/
  freeCtr : Nat
  /-- the power supplies -/
  power : Power
  /-- the current mode, the one before it, and the STANDBY sequence -/
  mode : Mode
  prev : Mode
  stby : Stby
  /-- an entry into SAFE runs (R484) -/
  safeRun : Bool
  /-- the targets of the mode requests whose checks run, oldest first, and the tick of the last trigger that goes before
  a mode request (R22) -/
  modeReqs : List Nat
  modeTrig : Option Nat
  /-- the tick from which pages that have not been enabled since count their first period -/
  epoch : Nat
  /-- Thyme, whether it counts, and the tick of the last slew tick -/
  thyme : BitVec 64
  thymeRun : Bool
  slewAt : Option Nat
  /-- the registers that do not hold their reset value, by byte address -/
  regs : List (Nat × Word)
  /-- page controls by page base -/
  pages : List (Nat × PageCtl)
  /-- live counters, and increments held for the next period, by the address of their `STAT` register -/
  live : List (Nat × Nat)
  held : List (Nat × Nat)
  /-- the last boundary tick of each period source (R50) -/
  srcTick : List (Nat × Nat)
  /-- high words snapshotted by a read of a low word, by requester × 2^24 + address of the high word: 1 and
  the value while one is held -/
  snaps : List (Nat × (Nat × Word))
  /-- what the last register read returned -/
  resp : Option Resp
  /-- the fault system -/
  flt : FaultSt
  /-- the tick up to which each `RING` page has counted its ticks with a BLOCKED ring -/
  ringAt : List (Nat × Nat)
  /-- journals by tenancy, rings, fences, copy engines, bytes copied by each tenancy in the accounting
  period, and quiesces by tenancy -/
  journals : List (Nat × Journal)
  rings : List (Nat × RingSt)
  fences : List (Nat × Fence)
  copies : List (Nat × CopyEng)
  copied : List (Nat × Nat)
  quiesces : List (Nat × Quiesce)
  /-- the BOOT record is still due (R519) -/
  bootRec : Bool
  /-- the ownership-table command that runs and the requests that wait for it; the Coves; the measurement
  registers (0–15, then 64 + Cove) -/
  potRun : Option PotCmd
  potWait : List DramRq
  coves : List (Nat × CoveState)
  /-- the blocks of 16 entries in the ownership-table cache, most recently used first (R443) -/
  potCache : List (Nat × BitVec 512)
  meas : List (Nat × BitVec 384)
  /-- the restart of the secure side -/
  restart : Restart
  /-- management cores, interrupt routes by line, lines whose rising edge is not delivered yet, the route
  writes whose checks run, oldest first (each with its line in bits 11:0), and MSI-X vectors by (port × 16 + function) × 64 + vector -/
  cores : List (Nat × CoreSt)
  routes : List (Nat × Word)
  edges : List Nat
  routeRuns : List Word
  vecs : List (Nat × MsixVec)
  /-- the host ports, and how the last BAR4 access ended -/
  ports : List (Nat × PortSt)
  bar4 : Option BarAns
  /-- the gate request that is judged and those that wait behind it -/
  gateRun : Option GateReq
  gateWait : List GateReq
  /-- the reset controller and the loader -/
  rst : RstSt
  /-- the OTP array (32-bit words), the command that runs, the winning option records by
  key × 256 + kind, and the pin map in force -/
  otp : List (Nat × Word)
  otpRun : Option OtpRun
  winners : List (Nat × Nat)
  pinMap : List (Nat × Nat)
  /-- the backup domain -/
  backup : Backup
  /-- DRAM as stored, data and check blocks, by its place in the channels' arrays (R338, R344), and the Tidepool's data
  bytes, by Tidepool byte -/
  dram : List Host.Cell
  pool : List Host.Cell
  /-- the DRAM controller -/
  dc : DramSt
  /-- check bits 7:0 and valid bit (bit 8) of each 6-byte Tidepool word (R366), by word index -/
  poolChk : List (Nat × BitVec 9)
  /-- the error log, oldest entry first (R385), and the next leak of each bucket (R384) -/
  elog : List (BitVec 256)
  leakAt : List (Nat × Nat)
  /-- phase and pointer of each on-chip memory bank (R372) -/
  banks : List (Nat × BankSt)
  /-- the on-chip integrity engine -/
  mem : MemSt
  /-- bytes of host memory as the device's posted writes left them, by port × 2^64 + address -/
  host : List Host.Cell
  /-- freed Tidepool regions being cleared: region, first granule and count (R162) -/
  poolClr : List (Nat × Nat × Nat)
  /-- the heads' rasters, and the render engine -/
  rasters : List (Nat × Raster)
  gfx : GfxSt
  /-- check-value units -/
  cvus : List (Nat × CvuSt)
  /-- the heads, the layers by head × 16 + code, the writeback engines, the links and the tick from which the D-PHY
  bit clock runs, and the writes to the Tidepool since the oldest frame in progress began -/
  heads : List (Nat × HeadSt)
  layers : List (Nat × LaySt)
  wbs : List (Nat × WbSt)
  links : List (Nat × LinkSt)
  dphyAt : Nat
  poolWr : List PoolWr
  /-- by bank, the tick from which a Tidepool bank has served what reached it (R158, R159) -/
  poolFree : List (Nat × Nat)
  /-- scaler coefficients by ((layer × 4 + bank) × 2 + direction) × 512 + phase × 8 + tap, and output LUT entries by
  ((head × 2 + set) × 3 + channel) × 2048 + index -/
  coefs : List (Nat × BitVec 12)
  luts : List (Nat × BitVec 16)
  /-- the touch panels -/
  panels : List (Nat × PanelSt)
  /-- the effect store and the load that runs (slot, owner, address), the haptic channels and ports -/
  effects : List (Nat × Effect)
  effLoad : Option (Nat × Nat × Nat)
  hchans : List (Nat × HapCh)
  hports : List (Nat × HapPort)
  /-- the reflex entries (words `READ_CTL` to `READ_ACT_2`), their armed contacts, and the frames that wait -/
  reflex : List (Nat × BitVec 192)
  reflexArm : List (Nat × Nat)
  reflexQ : List RflxFrame
  /-- starts of audio trigger lines that wait for their sample: arrival tick and line (R329) -/
  lineStarts : List (Nat × Nat)
  /-- the audio engine -/
  audio : AudioSt
  /-- Tombolo -/
  tmb : TmbSt
  /-- pads, pins and board interfaces -/
  pad : PadSt
  /-- responses discarded at the return port of each plane (R18) -/
  discards : List (Nat × Nat)
  /-- the commands that wait, first in, first out -/
  pending : List Instr
  deriving DecidableEq, Repr

/-- The device right after reset: a POR reset of source 0 has been released into LOAD, the loader runs,
and Thyme is 0. (log 4, DESIGN CHOICE) -/
def State.reset : State where
  die := 1
  freeCtr := 0
  power := ⟨true, true⟩
  mode := .load
  prev := .load
  stby := .none
  safeRun := false
  modeReqs := []
  modeTrig := none
  epoch := 0
  thyme := 0
  thymeRun := true
  slewAt := none
  regs := [(0x20F00, 1)]
  pages := []
  live := []
  held := []
  srcTick := []
  snaps := []
  resp := none
  flt := ⟨[], 0, [], false, false, none⟩
  journals := []
  rings := []
  ringAt := []
  fences := []
  copies := []
  copied := []
  quiesces := []
  bootRec := true
  potRun := none
  potWait := []
  coves := []
  potCache := []
  meas := []
  restart := ⟨none, [], false⟩
  cores := []
  routes := []
  edges := []
  routeRuns := []
  vecs := []
  ports := []
  bar4 := none
  gateRun := none
  gateWait := []
  rst := ⟨none, false, false, true, false, 0, none, false, 0, false, []⟩
  otp := []
  otpRun := none
  winners := []
  pinMap := []
  backup := ⟨⟨⟨true, 1, [1]⟩, ⟨false, 0, []⟩⟩, ⟨⟨true, 1, [0x300]⟩, ⟨false, 0, []⟩⟩,
    ⟨⟨true, 1, [0]⟩, ⟨false, 0, []⟩⟩, BkItem.blank, false⟩
  dram := []
  pool := []
  dc := DramSt.idle
  poolChk := []
  elog := []
  leakAt := []
  banks := []
  mem := ⟨0, false, false, 0, 0, []⟩
  host := []
  poolClr := []
  rasters := []
  gfx := GfxSt.idle
  cvus := []
  heads := []
  layers := []
  wbs := []
  links := []
  dphyAt := 0
  poolWr := []
  poolFree := []
  coefs := []
  luts := []
  panels := []
  effects := []
  effLoad := none
  hchans := []
  hports := []
  reflex := []
  reflexArm := []
  reflexQ := []
  lineStarts := []
  audio := AudioSt.idle
  tmb := TmbSt.idle
  pad := PadSt.idle
  discards := []
  pending := []

end Sys2Proof.Machine
end

