-- ==== Sys2Proof/Machine/Ops.lean ====
section
/-! DEFINITION. The named operations over registers, time, counters, interrupts and page controls. -/

namespace Sys2Proof.Machine

/-! Registers -/

/-- The part's resources. -/
def State.part (s : State) : Config.Part := Config.partOf s.die

/-- The stored word at a register address: what was last stored there, or its reset value. -/
def State.rd (s : State) (a : Nat) : Word := amGet (rstWord s.die) s.regs a

/-- The state with a word stored at a register address. -/
def State.wr (s : State) (a : Nat) (w : Word) : State := { s with regs := amSet (rstWord s.die) s.regs a w }

/-- The value of a field of the page at `base`. -/
def State.get (s : State) (base : Nat) (x : Fld) : Nat := x.get (s.rd (base + x.off))

/-- A one-bit field. -/
def State.flag (s : State) (base : Nat) (x : Fld) : Bool := s.get base x != 0

/-- The state with a field of the page at `base` set. -/
def State.put (s : State) (base : Nat) (x : Fld) (v : Nat) : State :=
  s.wr (base + x.off) (x.put (s.rd (base + x.off)) v)

/-- The shadow of a field. -/
def Fld.sh (x : Fld) : Fld := { x with off := x.off + 0x800 }

/-- A 64-bit value held in two registers, the low word at the field's offset. -/
def State.get64 (s : State) (base : Nat) (lo : Fld) : Nat :=
  (s.rd (base + lo.off)).toNat + (s.rd (base + lo.off + 4)).toNat * 0x100000000

/-- The state with a 64-bit value stored in two registers. -/
def State.put64 (s : State) (base : Nat) (lo : Fld) (v : Nat) : State :=
  (s.wr (base + lo.off) (BitVec.ofNat 32 v)).wr (base + lo.off + 4) (BitVec.ofNat 32 (v / 0x100000000))

/-- A field counted up by n, wrapping at its width. -/
def State.inc (s : State) (base : Nat) (x : Fld) (n : Nat := 1) : State := s.put base x (s.get base x + n)

/-- A field counted up by n, saturating at its width. -/
def State.incSat (s : State) (base : Nat) (x : Fld) (n : Nat := 1) : State :=
  s.put base x (sat (ones x.width) (s.get base x + n))

/-- The owner ID of a page. -/
def State.owner (s : State) (base : Nat) : Nat := s.get base F.HDR.OWNER

/-- `STATUS.ENABLED`. -/
def State.enabled (s : State) (base : Nat) : Bool := s.flag base F.HDR.STATUS_ENABLED

/-- `STATUS.IDLE`. -/
def State.idle (s : State) (base : Nat) : Bool := s.flag base F.HDR.STATUS_IDLE

/-- The page exists and its instance is present on the part. -/
def State.present (s : State) (base : Nat) : Bool := pagePresent s.part (domOf base) (pnoOf base)

/-- The registers of a page back at their reset values, `OWNER` kept (R489). -/
def State.resetPageRegs (s : State) (base : Nat) : State :=
  let o := s.owner base
  ({ s with regs := amDrop (fun a => decide (base ≤ a) && decide (a < base + 0x1000)) s.regs }).put base F.HDR.OWNER o

/-! Time -/

/-- Thyme as a number. (log 195, DEDUCED) -/
def State.now (s : State) : Nat := s.thyme.toNat

/-- Idle ticks pass until Thyme has reached tick t (log 5). (log 214, DESIGN CHOICE) -/
def State.waitTo (s : State) (t : Nat) : State :=
  if s.now < t ∧ s.thymeRun then { s with thyme := BitVec.ofNat 64 t } else s

/-- One tick with no command: Thyme advances by one while it counts (R44). (log 2, DESIGN CHOICE) -/
def State.tick (s : State) : State := if s.thymeRun then { s with thyme := s.thyme + 1 } else s

/-- The next free value (log 3). -/
def State.free (s : State) : BitVec 64 := Config.freeValue s.freeCtr

/-- The state once the next free value is taken. (log 3, DESIGN CHOICE) -/
def State.tookFree (s : State) : State := { s with freeCtr := s.freeCtr + 1 }

/-! Page controls -/

/-- The control record of a page. -/
def State.ctl (s : State) (base : Nat) : PageCtl := amGet (fun _ => PageCtl.idle) s.pages base

/-- The state with a page's control record replaced. -/
def State.setCtl (s : State) (base : Nat) (c : PageCtl) : State :=
  { s with pages := amSet (fun _ => PageCtl.idle) s.pages base c }

/-- A change to a page's control record. -/
def State.modCtl (s : State) (base : Nat) (f : PageCtl → PageCtl) : State := s.setCtl base (f (s.ctl base))

/-- The page that commits the group of a page: page 0 of a head domain for a page with `AUTO_COMMIT` = 0
(R88), else the page itself. -/
def State.groupPage (s : State) (base : Nat) : Nat :=
  let d := domOf base
  if 0x10 ≤ d ∧ d < 0x18 ∧ s.flag base F.HDR.CTRL_AUTO_COMMIT = false then pg d 0 else base

/-- The pages of the commit group that `base` commits (R88): in a head domain page 0 with every page of
`AUTO_COMMIT` 0 and the same owner; elsewhere, and for an auto-commit page, the page alone. -/
def State.group (s : State) (base : Nat) : List Nat :=
  let d := domOf base
  if 0x10 ≤ d ∧ d < 0x18 ∧ base = pg d 0 then
    (pagesOf d).filter (fun p => p == base ||
      (s.flag p F.HDR.CTRL_AUTO_COMMIT == false && s.owner p == s.owner base))
  else [base]

/-- The armed image that covers a page. -/
def State.armedFor (s : State) (base : Nat) : Option CfgImage :=
  match (s.ctl base).armed with
  | some i => some i
  | none =>
    match (s.ctl (pg (domOf base) 0)).armed with
    | some i => if i.pages.contains base then some i else none
    | none => none

/-- `STATUS.CHECK_BUSY`: an enable or commit check runs. (log 229, DEDUCED) -/
def State.checkBusy (s : State) (base : Nat) : Bool := (s.ctl base).enRun.isSome || (s.ctl base).run.isSome

/-- The clock-ok of a page's domain (R40); 0 for a page whose block stays in reset. -/
def State.clockOk (s : State) (base : Nat) : Bool :=
  let d := domOf base
  bit (s.rd (pg 0x01 1 + (F.DIV.CLKOK.at (d / 32)).off)).toNat (d % 32) && !(s.ctl base).stuck

/-- The secure world holds the page (R453). -/
def State.secureHold (s : State) (base : Nat) : Bool :=
  let l := lineOf base
  bit (s.rd (pg 0x04 0 + (F.WORLDS.HOLD.at (l / 32)).off)).toNat (l % 32)

/-- The domain is held in DOMAIN reset. -/
def State.domReset (s : State) (d : Nat) : Option DomRst := (s.rst.doms.find? (fun e => e.1 == d)).map (·.2)

/-- The domain is gated. -/
def State.gated (s : State) (d : Nat) : Bool :=
  bit (s.rd (pg 0x01 1 + (F.DIV.GATED.at (d / 32)).off)).toNat (d % 32)

/-- The page's block is in reset: its domain's reset is held, its BLOCK reset runs, a release was
abandoned, or the whole device is in reset. -/
def State.inReset (s : State) (base : Nat) : Bool :=
  (s.domReset (domOf base)).isSome || (s.ctl base).inReset.isSome || (s.ctl base).stuck || s.rst.chip.isSome

/-! Statistics and periods -/

/-- The address that names live counter i of a page: that of its `STAT` register. -/
def statKey (base i : Nat) : Nat := base + 0x80 + 4 * i

/-- A live or held counter. -/
def ctrGet (l : List (Nat × Nat)) (k : Nat) : Nat := amGet (fun _ => 0) l k

/-- The pages of head h. -/
def headPage (h : Nat) : Nat := pg (0x10 + h) 0

/-- A head's raster. -/
def State.raster (s : State) (h : Nat) : Raster := amGet (fun _ => Raster.off) s.rasters h
def State.setRaster (s : State) (h : Nat) (x : Raster) : State :=
  { s with rasters := amSet (fun _ => Raster.off) s.rasters h x }

/-- H_T and V_T of R140. -/
def State.hTotal (s : State) (h : Nat) : Nat :=
  let p := headPage h
  s.get p F.HEAD.H_TIMING_0_ACTIVE + s.get p F.HEAD.H_TIMING_0_FP + s.get p F.HEAD.H_TIMING_1_SYNC
    + s.get p F.HEAD.H_TIMING_1_BP
def State.vTotal (s : State) (h : Nat) : Nat :=
  let p := headPage h
  s.get p F.HEAD.V_TIMING_0_ACTIVE + s.get p F.HEAD.V_TIMING_0_FP + s.get p F.HEAD.V_TIMING_1_SYNC
    + s.get p F.HEAD.V_TIMING_1_BP

/-- Division rounded up. -/
def cdiv (a b : Nat) : Nat := (a + b - 1) / b

/-- The tick on which pixel slot n (the first of the frame is 0) is emitted (R140). -/
def State.slotTick (s : State) (h n : Nat) : Nat :=
  let p := headPage h
  let r := s.raster h
  r.org + cdiv ((n + 1) * s.get p F.HEAD.RATE_DEN - r.frac) (max 1 (s.get p F.HEAD.RATE_NUM))

/-- The tick of the last boundary of period source n that Thyme has reached (R9, R50), whether or not its command has run:
the end of the accounting period, a head's slack point, an audio block marker, or the first burst of a panel's frame. -/
def State.srcReached (s : State) (n : Nat) : Nat :=
  let t := ctrGet s.srcTick n
  let due : Option Nat :=
    if n = 0 then some (s.get64 (pg 0x01 3) F.PERIOD.ACCT_START_LO + s.get (pg 0x01 3) F.PERIOD.ACCT_LEN)
    else if n ≤ 8 then
      (if (s.raster (n - 1)).on then some (s.slotTick (n - 1) (s.hTotal (n - 1) * s.vTotal (n - 1))) else none)
    else if n = 9 then
      (if s.enabled (pg 0x2A 0) then some ((s.audio.marker / 614400 + 1) * 614400) else none)
    else (amGet (fun _ => PanelSt.idle) s.panels (n - 10)).frame.map (fun f => f.t0 + f.step)
  match due with
  | some e => if t < e ∧ e ≤ s.now then e else t
  | none => t

/-- The boundary that has ended a page's open period and has not been latched yet: one that a
`PERIOD_BOUNDARY` gave, or the last boundary of its source since the period opened (R50, R55).  An event on the
boundary's tick or after it is in the new period (R9). (log 221, DESIGN CHOICE) -/
def State.boundary (s : State) (base : Nat) : Option Nat :=
  let c := s.ctl base
  match c.pend with
  | some b => some b
  | none =>
    let t := s.srcReached (s.get base F.HDR.PERIOD_SRC)
    if max c.pstart s.epoch < t ∧ max c.psince s.epoch ≤ t then some t else none

/-- Counter i of a page counts n more, up to the bound m; once the open period has ended the increment is
held for the new one (R52). -/
def State.statTo (s : State) (m base i n : Nat) : State :=
  let k := statKey base i
  if (s.boundary base).isSome then
    { s with held := amSet (fun _ => 0) s.held k (sat m (ctrGet s.held k + n)) }
  else { s with live := amSet (fun _ => 0) s.live k (sat m (ctrGet s.live k + n)) }

/-- A 32-bit live counter (R53).  A disabled page receives no increments (R54). -/
def State.stat (s : State) (base i : Nat) (n : Nat := 1) : State :=
  if s.enabled base then s.statTo 0xFFFFFFFF base i n else s

/-- A 64-bit live counter in two consecutive `STAT` registers (R53). -/
def State.stat64 (s : State) (base i n : Nat) : State :=
  if s.enabled base then s.statTo 0xFFFFFFFFFFFFFFFF base i n else s

/-- A counter of ticks counts the n ticks that end now: those from the boundary on are in the new period (R9, R51). -/
def State.accrueTo (s : State) (m base i n : Nat) : State :=
  let k := statKey base i
  let late := match s.boundary base with
    | some b => min n (s.now - b)
    | none => 0
  { s with
    live := amSet (fun _ => 0) s.live k (sat m (ctrGet s.live k + (n - late)))
    held := amSet (fun _ => 0) s.held k (sat m (ctrGet s.held k + late)) }
def State.accrue (s : State) (base i n : Nat) : State := if s.enabled base then s.accrueTo 0xFFFFFFFF base i n else s
def State.accrue64 (s : State) (base i n : Nat) : State :=
  if s.enabled base then s.accrueTo 0xFFFFFFFFFFFFFFFF base i n else s

/-- A live counter whose value is the maximum of what it has counted. -/
def State.statMax (s : State) (base i v : Nat) : State :=
  if s.enabled base then
    let k := statKey base i
    if (s.boundary base).isSome then
      { s with held := amSet (fun _ => 0) s.held k (max (ctrGet s.held k) (sat 0xFFFFFFFF v)) }
    else { s with live := amSet (fun _ => 0) s.live k (max (ctrGet s.live k) (sat 0xFFFFFFFF v)) }
  else s

/-- Period source n has a boundary at tick t (R50). -/
def State.sourceAt (s : State) (n t : Nat) : State :=
  { s with srcTick := amSet (fun _ => 0) s.srcTick n t }

/-! Interrupts -/

/-- The page's interrupt line is asserted (R94). -/
def State.lineOn (s : State) (base : Nat) : Bool :=
  (s.rd (base + 0x30) &&& s.rd (base + 0x34)) != 0

/-- A change that may assert the line of a page: a rising edge waits for its delivery (R94). -/
def State.withLine (s : State) (base : Nat) (f : State → State) : State :=
  let t := f s
  if s.lineOn base = false ∧ t.lineOn base = true then
    { t with edges := t.edges ++ [lineOf base] }
  else t

/-- `INT_STATUS` bits of a page set on their event (R93). -/
def State.intSet (s : State) (base mask : Nat) : State :=
  s.withLine base (fun s => s.wr (base + 0x30) (s.rd (base + 0x30) ||| BitVec.ofNat 32 mask))

/-- `INT_STATUS` bit n. (log 68, DEDUCED) -/
def State.intBit (s : State) (base n : Nat) : State := s.intSet base (1 <<< n)

/-! Tenancies -/

/-- The tenancy of an owner ID, if it is one. -/
def tenOf (o : Nat) : Option Nat := if 0x10 ≤ o ∧ o < 0x20 then some (o - 0x10) else none

/-- The home page of an engine, by requester ID (R11, R15): none for an engine number that is reserved. -/
def reqHome (rid : Nat) : Option Nat :=
  if rid < 2 then some (pg (0x06 + rid) 0)
  else if rid = 2 then some (pg 0x08 0)
  else if rid = 3 then some (pg 0x0A 0)
  else if rid < 8 then some (pg 0x0B (rid - 4))
  else if 0x20 ≤ rid ∧ rid < 0x28 then some (pg (0x10 + (rid - 0x20)) 0)
  else if rid = 0x28 ∨ rid = 0x29 then some (pg 0x19 (rid - 0x28))
  else if rid = 0x2A then some (pg 0x1A 2)
  else if 0x40 ≤ rid ∧ rid < 0x50 then some (pg 0x21 (rid - 0x40))
  else if 0x50 ≤ rid ∧ rid < 0x58 then some (pg 0x22 (rid - 0x50))
  else if rid = 0x58 then some (pg 0x20 0)
  else if rid = 0x59 then some (pg 0x20 2)
  else if rid = 0x5A then some (pg 0x20 3)
  else if rid = 0x60 then some (pg 0x2A 0)
  else if rid = 0x61 then some (pg 0x28 0)
  else if rid = 0x62 then some (pg 0x29 0)
  else if rid = 0x63 then some (pg 0x28 5)
  else if 0x80 ≤ rid ∧ rid < 0x84 then some (pg 0x05 (rid - 0x80))
  else if rid = 0x84 then some (pg 0x3C 3)
  else if rid = 0x85 then some (pg 0x00 2)
  else if rid = 0xA0 then some (pg 0x30 5)
  else if rid = 0xA1 ∨ rid = 0xA2 then some (pg 0x31 2)
  else if rid = 0xC0 ∨ rid = 0xC1 then some (pg 0x38 (1 + (rid - 0xC0)))
  else if rid = 0xE0 then some (pg 0x00 0)
  else none

/-- The engine's domain or page is under reset (R15, R18). -/
def State.engineReset (s : State) (rid : Nat) : Bool :=
  match reqHome rid with
  | some b => s.inReset b
  | none => false

/-- The engine exists and its home domain runs: it is present, not gated and not under reset (R15). -/
def State.engineRuns (s : State) (rid : Nat) : Bool :=
  match reqHome rid with
  | some b => s.present b && !s.gated (domOf b) && !s.inReset b
  | none => false

/-- A response to an engine under reset is discarded at its plane's return port, and counted there (R18). -/
def State.discard (s : State) (rid : Nat) : State :=
  if s.engineReset rid then
    { s with discards := amSet (fun _ => 0) s.discards (rid / 32) (amGet (fun _ => 0) s.discards (rid / 32) + 1) }
  else s

/-- The page of tenancy t. -/
def tenPage (t : Nat) : Nat := pg 0x09 t

end Sys2Proof.Machine
end

