-- ==== Sys2Proof/Machine/Hit.lean ====
section
/-! DEFINITION. A hit of a fault source at its domain aggregator (R469, R470, R472), and journal records
(R418, R419). -/

namespace Sys2Proof.Machine

/-- The bank page of a source and its entry in it (R469). -/
def srcBank (n : Nat) : Nat := pg 0x03 (2 + n / 48)

/-- `SRC_CFG` of a source; that of source 383 ignores writes (R482). -/
def State.srcCfg (s : State) (n : Nat) : Nat :=
  if n = 383 then 0xDF else (s.rd (srcBank n + 0x100 + 4 * (n % 48))).toNat

/-- The source is queued at its aggregator. -/
def State.srcPending (s : State) (n : Nat) : Bool :=
  s.flag (srcBank n) (F.FBANK.SRC_COUNT_PENDING.at (n % 48))

/-- The aggregator's queue of a domain. -/
def State.aggr (s : State) (d : Nat) : List Ev := amGet (fun _ => []) s.flt.queues d

/-- The state with the queue of a domain replaced. -/
def State.setAggr (s : State) (d : Nat) (q : List Ev) : State :=
  { s with flt := { s.flt with queues := amSet (fun _ => []) s.flt.queues d q } }

/-- Bit j of a bank's `RAISED` set. -/
def State.setRaised (s : State) (n : Nat) : State :=
  let j := n % 48
  let a := srcBank n + (if j < 32 then 0x200 else 0x204)
  s.wr a (s.rd a ||| BitVec.ofNat 32 (1 <<< (j % 32)))

/-- The domain that a source observes beside its home domain (R477). -/
def State.observed2 (s : State) (src arg : Nat) : Option Nat :=
  if 80 ≤ src ∧ src < 96 then
    let p := pg 0x18 (src - 80)
    if s.flag p F.DSI.LINK_STATUS_CLAIMED then some (0x10 + s.get p F.DSI.LINK_STATUS_HEAD) else none
  else if src = 8 ∨ src = 9 then some (arg % 256)
  else if src = 10 then some (arg / 16 % 256)
  else busTimeoutDom src

/-- The B reaction in whose masking window a source lies (R477). -/
def State.maskedBy (s : State) (home src arg : Nat) : Option BReact :=
  s.flt.breacts.find? (fun b =>
    (b.tgt == .domain home || (match s.observed2 src arg with
      | some d => b.tgt == .domain d
      | none => false))
    && (match b.rel with
      | some e => decide (s.now < e + 64)
      | none => true))

/-- A hit (R469): it counts and sets `RAISED`; an enabled source that is not pending joins the back of its
aggregator's queue. -/
def State.hitEv (s : State) (e : Ev) : State :=
  match srcInfo e.src with
  | none => s
  | some i =>
    if srcPresent s.part e.src = false ∨ s.mode = .off ∨ s.mode = .backup then s
    else
      let s := (s.incSat (srcBank e.src) (F.FBANK.SRC_COUNT_HITS.at (e.src % 48))).setRaised e.src
      let s := if (s.maskedBy i.home e.src e.arg).isSome then s.put (srcBank e.src) (F.FBANK.SRC_COUNT_MASKED.at (e.src % 48)) 1
        else s
      if bit (s.srcCfg e.src) 5 ∧ s.srcPending e.src = false then
        (s.put (srcBank e.src) (F.FBANK.SRC_COUNT_PENDING.at (e.src % 48)) 1).setAggr i.home (s.aggr i.home ++ [e])
      else s

/-- A hit of a source that no access causes: its owner tag is that of the page that raised it (R472). -/
def State.hit (s : State) (src arg : Nat) : State :=
  s.hitEv ⟨src, arg, 0, 0, s.owner (srcPage src arg), 0⟩

/-- A hit that an access causes: access type of R481, requester, tag and address (R472). -/
def State.hitAcc (s : State) (src arg acc rid tag addr : Nat) : State :=
  s.hitEv ⟨src, arg, acc, rid, tag, addr⟩

/-- `STRAY_ACCESS` for a register access (R73). -/
def State.stray (s : State) (r : Req) (addr : Nat) (write : Bool) : State :=
  s.hitAcc 9 (domOf addr) (if write then 4 else 3) r.rid.toNat r.tag.toNat addr

/-- `PAGE_ACCESS_VIOLATION` for a register access (R73). -/
def State.violation (s : State) (r : Req) (addr : Nat) (write : Bool) : State :=
  s.hitAcc 10 (lineOf addr) (if write then 4 else 3) r.rid.toNat r.tag.toNat addr

/-! Journals -/

/-- Payload bytes 16–31 of a record from (offset, width in bytes, value) triples. -/
def jpay (l : List (Nat × Nat × Nat)) : BitVec 128 :=
  BitVec.ofNat 128 (forL (fun (e : Nat × Nat × Nat) a => a ||| ((e.2.2 % (1 <<< (8 * e.2.1))) <<< (8 * (e.1 - 16)))) l 0)

/-- A tenancy's journal. -/
def State.journal (s : State) (t : Nat) : Journal := amGet (fun _ => Journal.empty) s.journals t

/-- The state with a tenancy's journal replaced. -/
def State.setJournal (s : State) (t : Nat) (j : Journal) : State :=
  { s with journals := amSet (fun _ => Journal.empty) s.journals t j }

/-- A record with sequence `seq` is lost (R418). (log 19, DEDUCED) -/
def State.jLose (s : State) (t seq : Nat) : State :=
  let j := s.journal t
  let s := (s.incSat (tenPage t) F.TEN.J_LOST).stat (tenPage t) 8
  s.setJournal t { j with lost := j.lost + 1, lost0 := (if j.lost = 0 then seq else j.lost0), lost1 := seq }

/-- A record joins the journal of tenancy t, or is lost (R418): it takes the next sequence number in either
case.  `base` is the source page. -/
def State.jrec (s : State) (t typ base stamp : Nat) (pay : BitVec 128) : State :=
  let p := tenPage t
  let seq := s.get p F.TEN.J_SEQ
  let j := s.journal t
  let s := s.inc p F.TEN.J_SEQ
  if s.flag p F.TEN.J_CFG_J_EN ∧ s.enabled p ∧ j.queue.length < 16 then
    s.setJournal t { j with queue := j.queue ++ [⟨typ, lineOf base, stamp, pay, seq⟩] }
  else s.jLose t seq

/-- A record for an owner ID: only a tenancy has a journal. -/
def State.jrecTo (s : State) (owner typ base stamp : Nat) (pay : BitVec 128) : State :=
  match tenOf owner with
  | some t => s.jrec t typ base stamp pay
  | none => s

/-- A record for the owner of the page that generates it. -/
def State.jrecOwn (s : State) (typ base stamp : Nat) (pay : BitVec 128) : State :=
  s.jrecTo (s.owner base) typ base stamp pay

end Sys2Proof.Machine
end

