-- ==== Sys2Proof/Machine/Mem.lean ====
section
/-! DEFINITION. Memory: the checker of R437, DRAM with its inline code (R338–R343), the Tidepool with its
code modes (R366–R376), the error log (R385) and the leaky buckets (R384). -/

namespace Sys2Proof.Machine

/-! Bytes -/

/-- What an unlisted byte of memory reads as: swept DRAM and an invalid Tidepool word read 0 (R356, R373). (log 7, DESIGN CHOICE) -/
def memDefault (_ : Nat) : Byte := 0

/-- The canonical form of a memory. -/
def Memory.wf (m : List Host.Cell) : Bool := amWf memDefault m

/-- One byte. (log 7, DESIGN CHOICE) -/
def memByte (m : List Host.Cell) (a : Nat) : Byte := amGet memDefault m a

/-- The memory with one byte stored. -/
def memPut (m : List Host.Cell) (a : Nat) (b : Byte) : List Host.Cell := amSet memDefault m a b

/-- n bytes from address a, as a little-endian number. -/
def memNat (m : List Host.Cell) (a : Nat) : Nat → Nat
  | 0 => 0
  | n + 1 => (memByte m a).toNat + 256 * memNat m (a + 1) n

/-- n bytes of a little-endian number stored from address a. -/
def memPutNat (m : List Host.Cell) (a : Nat) : Nat → Nat → List Host.Cell
  | 0, _ => m
  | n + 1, v => memPutNat (memPut m a (BitVec.ofNat 8 v)) (a + 1) n (v / 256)

/-- A list of bytes stored from address a. -/
def memPutList (m : List Host.Cell) (a : Nat) : List Byte → List Host.Cell
  | [] => m
  | b :: t => memPutList (memPut m a b) (a + 1) t

/-- n bytes from address a. -/
def memList (m : List Host.Cell) (a : Nat) : Nat → List Byte
  | 0 => []
  | n + 1 => memByte m a :: memList m (a + 1) n

/-- The little-endian number of a list of bytes. -/
def bytesNat : List Byte → Nat
  | [] => 0
  | b :: t => b.toNat + 256 * bytesNat t

/-- The n low bytes of a number, lowest first. -/
def natBytes : Nat → Nat → List Byte
  | 0, _ => []
  | n + 1, v => BitVec.ofNat 8 v :: natBytes n (v / 256)

/-! The error log and the buckets -/

/-- An entry ranks as uncorrectable: causes 1, 2, 3 and 5 (R385). -/
def entryUe (e : BitVec 256) : Bool :=
  let c := bits e.toNat 31 24
  c == 1 || c == 2 || c == 3 || c == 5

/-- The list without its first element that satisfies p. -/
def dropFirst {α : Type} (p : α → Bool) : List α → List α
  | [] => []
  | a :: t => if p a then t else a :: dropFirst p t

/-- The page of the error log. -/
def logPage : Nat := pg 0x31 3

/-- An entry counts as lost (R385). -/
def State.logLost (s : State) : State :=
  ((s.incSat logPage F.MLOG.LOG_STATE_LOST).stat logPage 1).intBit logPage 2

/-- An entry that is written (R391). -/
def State.logKeep (s : State) (q : List (BitVec 256)) (e : BitVec 256) : State :=
  let s := ({ s with elog := q ++ [e] }).stat logPage 0
  s.intSet logPage (if entryUe e then 3 else 1)

/-- An entry for the log of 64 entries (R385). -/
def State.logAdd (s : State) (e : BitVec 256) : State :=
  if s.elog.length < 64 then s.logKeep s.elog e
  else if entryUe e then
    if s.elog.all entryUe then s.logLost
    else (s.logKeep (dropFirst (fun x => !entryUe x) s.elog) e).logLost
  else s.logLost

/-- An entry of R386. -/
def logEntry (cause bank syn rid ch mode tag addr w4 stamp : Nat) : BitVec 256 :=
  BitVec.ofNat 256 (((cause % 256) <<< 24) ||| ((bank % 256) <<< 16) ||| ((syn % 256) <<< 8) ||| (rid % 256)
    ||| ((((ch % 256) <<< 24) ||| ((mode % 4) <<< 12) ||| (tag % 4096)) <<< 32)
    ||| ((addr % (1 <<< 40)) <<< 64) ||| ((w4 % (1 <<< 32)) <<< 128) ||| ((stamp % (1 <<< 64)) <<< 192))

/-- The page of the buckets. -/
def bucketPage : Nat := pg 0x31 1

/-- The fault source of a bucket (R383). -/
def bucketSrc (b : Nat) : Nat := if b < 2 then 217 + b else 192 + (b - 2)

/-- One correctable event for bucket b (R383, R384); `scrub` for one that the audit, a scrub or a conversion
sweep found. -/
def State.bucketAdd (s : State) (b : Nat) (scrub : Bool) : State :=
  let s := s.stat bucketPage b
  if s.enabled bucketPage = false then s
  else
    let w := s.get bucketPage ((if scrub then F.MBUCKET.BUCKET_CFG_SCRUB_WEIGHT else F.MBUCKET.BUCKET_CFG_WEIGHT).at b)
    let l := s.get bucketPage (F.MBUCKET.LEVEL.at b) + w
    if s.get bucketPage (F.MBUCKET.BUCKET_CFG_LIMIT.at b) ≤ l then
      (((s.put bucketPage (F.MBUCKET.LEVEL.at b) 0).inc bucketPage (F.MBUCKET.OVERFLOWS.at b)).intBit bucketPage b).hit
        (bucketSrc b) b
    else s.put bucketPage (F.MBUCKET.LEVEL.at b) l

/-! DRAM geometry -/

/-- `DRAM.GLOBAL`, `MAP`, `SWEEP` and a channel page. -/
def dglobPage : Nat := pg 0x30 0
def dmapPage : Nat := pg 0x30 1
def dsweepPage : Nat := pg 0x30 5
def chanPage (c : Nat) : Nat := pg 0x30 (6 + c)

/-- `GLB_STATE.STATE` (R361): 0 OFF, 1 SWEEPING, 2 READY. -/
def State.glbState (s : State) : Nat :=
  if s.enabled dglobPage then (if s.flag dsweepPage F.DSWEEP.SWEEP_STATE_DONE then 2 else 1) else 0

/-- `DRAM.GLOBAL` is READY. -/
def State.dramReady (s : State) : Bool := s.glbState == 2

/-- The channels of the map, ascending (R343). -/
def State.mapChans (s : State) : List Nat :=
  (upto 0 8).filter (fun c => bit (s.get dmapPage F.DMAP.MAP_CFG_CH_MASK) c && decide (c < s.part.dramCh))

/-- The visible capacity of a channel in MiB (R338). -/
def State.chanMib (s : State) (c : Nat) : Nat :=
  (448 <<< s.get (chanPage c) F.DCHAN.GEOM_ROWS) * (1 + s.get (chanPage c) F.DCHAN.GEOM_RANKS)

/-- V in MiB: the sum of the visible capacities of the channels in `CH_MASK` (R343). -/
def State.mapMib (s : State) : Nat := s.mapChans.foldl (fun a c => a + s.chanMib c) 0

/-- V in bytes. -/
def State.vBytes (s : State) : Nat := s.mapMib * 1048576

/-- The order of R343. -/
def State.mapOrder (s : State) : Nat := s.get dmapPage F.DMAP.MAP_CFG_ORDER

/-- ORDER_2: the channel that holds an address, and the offset in it. -/
def localChan (s : State) : List Nat → Nat → Nat × Nat
  | [], a => (0, a)
  | c :: t, a => if a < s.chanMib c * 1048576 then (c, a) else localChan s t (a - s.chanMib c * 1048576)

/-- The channel and channel data offset of a system address (R343). -/
def State.dramChan (s : State) (a : Nat) : Nat × Nat :=
  let cs := s.mapChans
  let n := cs.length
  let pick (j : Nat) : Nat := cs.getD j 0
  match s.mapOrder with
  | 0 => (pick ((a >>> 8) % n), (((a >>> 8) / n) <<< 8) + a % 256)
  | 1 => (pick (((a >>> 8) ^^^ (a >>> 14) ^^^ (a >>> 20)) % n), (((a >>> 8) / n) <<< 8) + a % 256)
  | 2 => localChan s cs a
  | _ => (pick ((a >>> 12) % n), (((a >>> 12) / n) <<< 12) + a % 4096)

/-- Rank, bank group, bank, row and row byte of the word at a system address, as word 4 of a log entry holds
them (R344, R386). -/
def State.dramCoord (s : State) (addr : Nat) : Nat :=
  let ca := s.dramChan addr
  let a := ca.2
  let n := a >>> 6
  let g := n / 7
  let k := n % 7
  let rl := 14 + s.get (chanPage ca.1) F.DCHAN.GEOM_ROWS
  let r := (g >>> 6) % (1 <<< rl)
  let bg := (g >>> 2) % 4
  let ba := (g >>> 4) % 4
  let h := s.mapOrder == 1
  let bg := if h then bg ^^^ (r % 4) else bg
  let ba := if h then ba ^^^ (r / 4 % 4) else ba
  ((((g >>> 6) >>> rl) % 2) <<< 31) ||| (bg <<< 29) ||| (ba <<< 27) ||| ((r % 65536) <<< 11)
    ||| (512 * (g % 4) + 64 * k + a % 64)

/-! DRAM words (R338, R344) -/

/-- The place of the byte at a system address in the channels' arrays: 2^32 × channel, then rank, bank group, bank, row
and row byte as R386 packs them.  `s.dram` lists DRAM by these places, check blocks included. -/
def State.dramLoc (s : State) (a : Nat) : Nat := (s.dramChan a).1 * 0x100000000 + s.dramCoord a

/-- Of the place of a data byte: the quarter's first byte, the data block, and the word in the block (R344). -/
def unitLoc (l : Nat) : Nat := l / 512 * 512
def blockIn (l : Nat) : Nat := l % 512 / 64
def wordIn (l : Nat) : Nat := l % 64 / 8

/-- The places of the check byte of its word, and of the poison flags of its block (R338, R344). -/
def chkLoc (l : Nat) : Nat := unitLoc l + 448 + 8 * blockIn l + wordIn l
def flagLoc (l : Nat) : Nat := unitLoc l + 504 + blockIn l

/-- The system address of the word or block that a place of the arrays belongs to under the map in force; none for one
that the map does not reach, and for byte 511 of a unit. -/
def State.dramHome (s : State) (l : Nat) : Option Nat :=
  let c := l / 0x100000000
  let x := l % 0x100000000
  let rl := 14 + s.get (chanPage c) F.DCHAN.GEOM_ROWS
  let r := bits x 26 11
  let h := s.mapOrder == 1
  let bg := if h then bits x 30 29 ^^^ (r % 4) else bits x 30 29
  let ba := if h then bits x 28 27 ^^^ (r / 4 % 4) else bits x 28 27
  let g := ((bits x 31 31 <<< rl) + r) * 64 + ba * 16 + bg * 4 + bits x 10 9
  let u := x % 512
  let at' := if u < 448 then (u / 64, u % 64) else if u < 504 then ((u - 448) / 8, (u - 448) % 8 * 8) else (u - 504, 0)
  let a := 64 * (7 * g + at'.1) + at'.2
  let cs := s.mapChans
  let n := cs.length
  if 1 <<< rl ≤ r ∨ 7 ≤ at'.1 then none
  else match cs.findIdx? (· == c) with
    | none => none
    | some j =>
      match s.mapOrder with
      | 0 => some ((a / 256 * n + j) * 256 + a % 256)
      | 1 => ((upto 0 n).map (fun k => a / 256 * n + k)).find? (fun y => (y ^^^ (y >>> 6) ^^^ (y >>> 12)) % n == j)
        |>.map (fun y => y * 256 + a % 256)
      | 2 => some ((cs.take j).foldl (fun t c => t + s.chanMib c * 1048576) 0 + a)
      | _ => some ((a / 4096 * n + j) * 4096 + a % 4096)

/-- DRAM bytes of the system addresses that satisfy p hold zeros with valid check bytes. -/
def State.dramDrop (s : State) (p : Nat → Bool) : State :=
  { s with dram := amDrop (fun l => match s.dramHome l with
      | some a => p a
      | none => false) s.dram }

/-- The stored check byte and poison flag of DRAM word w. (log 7, DESIGN CHOICE) -/
def State.dramChkOf (s : State) (w : Nat) : BitVec 9 :=
  let l := s.dramLoc (8 * w)
  BitVec.ofNat 9 ((memByte s.dram (chkLoc l)).toNat + 256 * b2n (bit (memByte s.dram (flagLoc l)).toNat (wordIn l)))

/-- What a read of DRAM word w finds (R339). -/
def State.dramDec (s : State) (w : Nat) : Dec :=
  let c := (s.dramChkOf w).toNat
  dramDecode (memNat s.dram (s.dramLoc (8 * w)) 8) (c % 256) (bit c 8)

/-- DRAM word w stored with data, check byte and flag. -/
def State.dramPut (s : State) (w x c : Nat) (flag : Bool) : State :=
  let l := s.dramLoc (8 * w)
  let m := 1 <<< wordIn l
  let f := (memByte s.dram (flagLoc l)).toNat
  let f' := if flag then f ||| m else f &&& (0xFF ^^^ m)
  { s with dram := memPut (memPut (memPutNat s.dram l 8 x) (chkLoc l) (BitVec.ofNat 8 c)) (flagLoc l) (BitVec.ofNat 8 f') }

/-- DRAM word w stored clean. -/
def State.dramClean (s : State) (w x : Nat) : State := s.dramPut w x (dramCheck x) false

/-- DRAM word w stored poisoned, with both marks (R340). -/
def State.dramPoison (s : State) (w x : Nat) : State := s.dramPut w x (dramCheck x ^^^ 0xFF) true

/-- The log entry of a DRAM word. -/
def State.dramEntry (s : State) (cause syn rid tag w : Nat) : BitVec 256 :=
  logEntry cause 0xFF syn rid (s.dramChan (8 * w)).1 2 tag (8 * w) (s.dramCoord (8 * w)) s.now

/-- A correctable event of DRAM word w (R341, R358): the bucket, the log and the channel's count. -/
def State.dramCe (s : State) (rid tag w syn : Nat) (scrub : Bool) : State :=
  let ch := (s.dramChan (8 * w)).1
  ((s.bucketAdd (2 + ch) scrub).logAdd (s.dramEntry 0 syn rid tag w)).stat (chanPage ch) 7

/-- An uncorrectable DRAM word that a request uses (R341, R382). -/
def State.dramUe (s : State) (acc rid tag w cause syn : Nat) : State :=
  let ch := (s.dramChan (8 * w)).1
  (((s.logAdd (s.dramEntry cause syn rid tag w)).stat (chanPage ch) 8).intBit (chanPage ch) 1).hitAcc
    (200 + ch) syn acc rid tag (8 * w)

/-- An uncorrectable word of a block read that the request does not use (R341). -/
def State.dramUnused (s : State) (rid tag w cause syn : Nat) : State :=
  (s.logAdd (s.dramEntry cause syn rid tag w)).stat (chanPage (s.dramChan (8 * w)).1) 8

/-- The address of the word that `ECC.INJ_CTL` names. -/
def State.injWord (s : State) : Nat := s.get64 (pg 0x30 4) F.DECC.INJ_ADDR_LO % (1 <<< 40) / 8

/-- A write of word w takes the injection that `ECC.INJ_CTL` holds for it (R362). (log 69, DESIGN CHOICE) -/
def State.dramInject (s : State) (w : Nat) : State :=
  let m := s.get (pg 0x30 4) F.DECC.INJ_CTL
  if m = 0 ∨ s.injWord ≠ w then s
  else
    let x := memNat s.dram (s.dramLoc (8 * w)) 8
    let c := (s.dramChkOf w).toNat
    let s := s.put (pg 0x30 4) F.DECC.INJ_CTL 0
    if m = 1 then s.dramPut w (x ^^^ 1) (c % 256) (bit c 8)
    else if m = 2 then s.dramPut w (x ^^^ 3) (c % 256) (bit c 8)
    else s.dramPoison w x

/-- Word w, decoded as given before, takes the merged value x (R340). -/
def State.rmwWord (s : State) (rid tag w x : Nat) : Dec → State × Bool
  | .clean _ => ((s.dramClean w x).dramInject w, true)
  | .fixed _ syn => (((s.dramClean w x).dramCe rid tag w syn false).dramInject w, true)
  | .bad _ cause syn => ((s.dramPoison w x).dramUe 2 rid tag w cause syn, false)

/-- The read-modify-write of one word (R340): the bytes `d` from byte k of word w; false when the writer
receives an error response. -/
def State.dramRmw (s : State) (rid tag w k : Nat) (d : List Byte) : State × Bool :=
  let dec := s.dramDec w
  let n := d.length
  let keep := dec.data % (1 <<< (8 * k)) + (dec.data >>> (8 * (k + n)) <<< (8 * (k + n)))
  (s.stat (chanPage (s.dramChan (8 * w)).1) 9).rmwWord rid tag w (keep + (bytesNat d <<< (8 * k))) dec

/-- A write of bytes from address a, word by word. -/
def State.dramWrite (s : State) (rid tag : Nat) : Nat → Nat → List Byte → State × Bool
  | 0, _, _ => (s, true)
  | fuel + 1, a, d =>
    match d with
    | [] => (s, true)
    | _ =>
      let k := a % 8
      let n := 8 - k
      let part := d.take n
      let r :=
        if k = 0 ∧ part.length = 8 then ((s.dramClean (a / 8) (bytesNat part)).dramInject (a / 8), true)
        else s.dramRmw rid tag (a / 8) k part
      let q := r.1.dramWrite rid tag fuel (a + n) (d.drop n)
      (q.1, r.2 && q.2)

/-- The write-back of a corrected word is queued as a BG request, unless a write to its block is queued (R341). (log 254, DESIGN CHOICE) -/
def State.dramFixLater (s : State) (w : Nat) : State :=
  let same (q : DramRq) : Bool := q.rq.write && decide (q.rq.addr / 64 ≤ w / 8)
    && decide (w / 8 ≤ (q.rq.addr + q.rq.bytes - 1) / 64)
  if s.dc.queue.any same || s.dc.port.any same then s
  else { s with dc := { s.dc with
    port := s.dc.port ++ [⟨⟨0xA0, 0, 8 * w, 8, true, false, false⟩, 0, [], 3, s.now, false, true⟩] } }

/-- One word w, as it is decoded, that a read takes (R341, R342), in use by it or beside it in its burst: whether it may be
used. -/
def State.scanWord (s : State) (rid tag w : Nat) (used : Bool) : Dec → State × Bool
  | .clean _ => (s, true)
  | .fixed _ syn =>
    let t := s.dramCe rid tag w syn false
    (if s.flag (pg 0x30 4) F.DECC.ECC_CFG then t.dramFixLater w else t, true)
  | .bad _ cause syn =>
    if used then (s.dramUe 1 rid tag w cause syn, false) else (s.dramUnused rid tag w cause syn, true)

/-- The decode of the n words from w that a read of bytes [a, a + len) takes: corrections are counted and their
write-backs queued, and an uncorrectable word that the request uses makes it fail (R341). -/
def State.dramScan (s : State) (rid tag a len : Nat) : Nat → Nat → State × Bool
  | 0, _ => (s, true)
  | n + 1, w =>
    let r := s.scanWord rid tag w (decide (8 * w < a + len) && decide (a < 8 * w + 8)) (s.dramDec w)
    let q := r.1.dramScan rid tag a len n (w + 1)
    (q.1, r.2 && q.2)

/-- The corrected bytes from address a. -/
def State.dramBytes (s : State) (a : Nat) : Nat → List Byte
  | 0 => []
  | n + 1 => BitVec.ofNat 8 ((s.dramDec (a / 8)).data >>> (8 * (a % 8))) :: s.dramBytes (a + 1) n

/-! The sweep's granules -/

/-- The granule of an address (R356). -/
def granuleOf (a : Nat) : Nat := a / 0x10000000

/-- The granule has been swept. -/
def State.swept (s : State) (q : Nat) : Bool :=
  bit (s.get (pg 0x30 5) (F.DSWEEP.SWEPT.at (q / 32))) (q % 32)

/-- The granule is marked swept. (log 21, DESIGN CHOICE) -/
def State.setSwept (s : State) (q : Nat) : State :=
  let x := F.DSWEEP.SWEPT.at (q / 32)
  s.put (pg 0x30 5) x (s.get (pg 0x30 5) x ||| (1 <<< (q % 32)))

/-- A request to an unswept granule makes the sweep jump to it (R356); the request is served once the
granule is swept. (log 21, DESIGN CHOICE) -/
def State.sweepFor (s : State) (a : Nat) : State :=
  let q := granuleOf a
  if s.swept q then s
  else
    let s := if s.dc.sweep.cur.contains q then s else s.inc (pg 0x30 5) F.DSWEEP.JUMPS
    s.setSwept q

/-! The Tidepool -/

/-- The Tidepool's bytes on the part. -/
def State.poolBytesTotal (s : State) : Nat := s.part.granules * 65536

/-- An on-chip bank's state. -/
def State.bank (s : State) (b : Nat) : BankSt := amGet (fun _ => BankSt.reset) s.banks b

/-- The state with a bank's state replaced. -/
def State.setBank (s : State) (b : Nat) (x : BankSt) : State :=
  { s with banks := amSet (fun _ => BankSt.reset) s.banks b x }

/-- Word i of a bank is in A-mode (R372). -/
def BankSt.aAt (x : BankSt) (i : Nat) : Bool :=
  match x.phase with
  | 0 => x.amode
  | 1 => decide (i < x.ptr)
  | 2 => decide (x.ptr ≤ i)
  | 3 => decide (i < x.ptr)
  | 4 => decide (x.ptr ≤ i)
  | _ => true

/-- Tidepool word w is in A-mode. -/
def State.poolA (s : State) (w : Nat) : Bool := (s.bank (w % 16)).aAt (w / 16)

/-- The stored check bits and valid bit of Tidepool word w. (log 7, DESIGN CHOICE) -/
def State.poolChkOf (s : State) (w : Nat) : BitVec 9 := amGet (fun _ => 0) s.poolChk w

/-- The word's valid bit. -/
def State.poolValid (s : State) (w : Nat) : Bool := bit (s.poolChkOf w).toNat 8

/-- What a read of Tidepool word w finds: an invalid word reads 0 with no check (R367, R369, R373). -/
def State.poolDec (s : State) (w : Nat) : Dec :=
  let c := (s.poolChkOf w).toNat
  if bit c 8 = false then .clean 0
  else
    let x := memNat s.pool (6 * w) 6
    if s.poolA w then aDecode x (c % 256) w else pDecode x (c % 256)

/-- Tidepool word w stored with data and check bits, valid. -/
def State.poolPut (s : State) (w x c : Nat) : State :=
  { s with
    pool := memPutNat s.pool (6 * w) 6 x
    poolChk := amSet (fun _ => 0) s.poolChk w (BitVec.ofNat 9 (c % 256 + 256)) }

/-- Tidepool word w stored clean, in the mode in force. -/
def State.poolClean (s : State) (w x : Nat) : State :=
  s.poolPut w x (if s.poolA w then aCheck x w else pCheck x)

/-- Tidepool word w stored poisoned, in the mode in force (R367, R376). -/
def State.poolPoison (s : State) (w x : Nat) : State :=
  s.poolPut w x (if s.poolA w then aCheck x w ^^^ 0xFF else pCheck x ||| 0xC0)

/-- Tidepool word w made invalid: it reads 0 (R162, R373). -/
def State.poolInvalid (s : State) (w : Nat) : State :=
  { s with pool := memPutNat s.pool (6 * w) 6 0, poolChk := amSet (fun _ => 0) s.poolChk w 0 }

/-- The log entry of a Tidepool word. -/
def State.poolEntry (s : State) (cause syn rid tag w : Nat) : BitVec 256 :=
  logEntry cause (w % 16) syn rid 0 (b2n (s.poolA w)) tag (6 * w) w s.now

/-- A correctable event of a Tidepool word (R383). -/
def State.poolCe (s : State) (rid tag w syn : Nat) (scrub : Bool) : State :=
  (s.bucketAdd 0 scrub).logAdd (s.poolEntry 0 syn rid tag w)

/-- An uncorrectable Tidepool word (R382). -/
def State.poolUe (s : State) (acc rid tag w cause syn : Nat) : State :=
  (s.logAdd (s.poolEntry cause syn rid tag w)).hitAcc 219 (w % 16) acc rid tag (6 * w)

/-- A partial write of Tidepool word w from byte k (R373, R375, R376). -/
def State.poolPart (s : State) (rid tag w k : Nat) (d : List Byte) : State × Bool :=
  let n := d.length
  let merge (x : Nat) : Nat :=
    x % (1 <<< (8 * k)) + (x >>> (8 * (k + n)) <<< (8 * (k + n))) + (bytesNat d <<< (8 * k))
  if s.poolValid w = false then (s.poolClean w (merge 0), true)
  else if s.poolA w then
    match s.poolDec w with
    | .clean x => (s.poolClean w (merge x), true)
    | .fixed x syn => ((s.poolClean w (merge x)).poolCe rid tag w syn false, true)
    | .bad x cause syn => ((s.poolPoison w (merge x)).poolUe 2 rid tag w cause syn, false)
  else
    let x := memNat s.pool (6 * w) 6
    let c := (s.poolChkOf w).toNat % 256
    let y := merge x
    let m := ((1 <<< n) - 1) <<< k
    (s.poolPut w y ((c &&& (0xFF ^^^ m)) ||| (pCheck y &&& m)), true)

/-- A write of bytes from Tidepool byte a, word by word. -/
def State.poolWrite (s : State) (rid tag : Nat) : Nat → Nat → List Byte → State × Bool
  | 0, _, _ => (s, true)
  | fuel + 1, a, d =>
    match d with
    | [] => (s, true)
    | _ =>
      let k := a % 6
      let n := 6 - k
      let part := d.take n
      let r :=
        if k = 0 ∧ part.length = 6 then (s.poolClean (a / 6) (bytesNat part), true)
        else s.poolPart rid tag (a / 6) k part
      let q := r.1.poolWrite rid tag fuel (a + n) (d.drop n)
      (q.1, r.2 && q.2)

/-- The decode of the n words from w that a read takes; a corrected word is corrected for the reader only (R369,
R371). (log 12, DEDUCED) -/
def State.poolScan (s : State) (rid tag : Nat) : Nat → Nat → State × Bool
  | 0, _ => (s, true)
  | n + 1, w =>
    let r : State × Bool :=
      match s.poolDec w with
      | .clean _ => (s, true)
      | .fixed _ syn => (s.poolCe rid tag w syn false, true)
      | .bad _ cause syn => (s.poolUe 1 rid tag w cause syn, false)
    let q := r.1.poolScan rid tag n (w + 1)
    (q.1, r.2 && q.2)

/-- The corrected bytes from Tidepool byte a. (log 12, DEDUCED) -/
def State.poolData (s : State) (a : Nat) : Nat → List Byte
  | 0 => []
  | n + 1 => BitVec.ofNat 8 ((s.poolDec (a / 6)).data >>> (8 * (a % 6))) :: s.poolData (a + 1) n

/-! The checker -/

/-- `SEC.POT`. -/
def potPage : Nat := pg 0x04 1

/-- `POT_CTRL.ENABLED` (R466). -/
def State.potOn (s : State) : Bool := s.enabled potPage

/-- The active `POT_BASE`. -/
def State.potBase (s : State) : Nat := s.get64 potPage F.POT.POT_BASE_LO % (1 <<< 40)

/-- The table index of an address (R435). -/
def potIndex (pool : Bool) (a : Nat) : Nat := if pool then 524288 + a / 65536 else a / 65536

/-- The valid Cove range that holds a table index: its Cove. -/
def State.coveAt (s : State) (i : Nat) : Option Nat :=
  let p := pg 0x04 2
  ((upto 0 64).find? (fun r =>
    s.flag p (F.COVE.CRANGE_VALID.at r) && decide (s.get p (F.COVE.CRANGE_FIRST.at r) ≤ i)
      && decide (i < s.get p (F.COVE.CRANGE_FIRST.at r) + s.get p (F.COVE.CCOUNT.at r)))).map
    (fun r => s.get p (F.COVE.CRANGE_COVE.at r))

/-- The state of Cove n. -/
def State.cove (s : State) (n : Nat) : CoveState := amGet (fun _ => CoveState.free) s.coves n

/-- The 16 entries of a block as DRAM holds them, corrected. -/
def State.potBlock (s : State) (b : Nat) : BitVec 512 :=
  let w0 := (s.potBase + 64 * b) / 8
  BitVec.ofNat 512 (forN (fun j a => a + ((s.dramDec (w0 + j)).data <<< (64 * j))) 8 0)

/-- The value that a running command gives a table index (R441). (log 38, DEDUCED) -/
def State.potNew (s : State) (i : Nat) : Option Nat :=
  match s.potRun with
  | some c => if c.index ≤ i ∧ i < c.index + c.count then some c.value.toNat else none
  | none => none

/-- Block b of the table has been read from DRAM: it is kept when it could be used, and its entry e is the answer. -/
def State.potKeep (s : State) (b : Nat) (v : BitVec 512) (e : Nat) (good : Bool) : State × Option Nat :=
  if good then ({ s with potCache := ((b, v) :: s.potCache).take 256 }, some e) else (s, none)

/-- The entry of a table index as the checker sees it (R443): from the cache, else from DRAM into the cache;
none when the table read is uncorrectable.  A request to a page that a command is changing waits for the new
value (R441). (log 39, DEDUCED) -/
def State.potEntry (s : State) (rq : MemRq) (i : Nat) : State × Option Nat :=
  let b := i / 16
  let pick (v : BitVec 512) : Nat := bits v.toNat (32 * (i % 16) + 31) (32 * (i % 16))
  if (s.potNew i).isSome then (s, s.potNew i)
  else match s.potCache.find? (fun e => e.1 == b) with
  | some e => ({ s with potCache := e :: s.potCache.filter (fun x => x.1 != b) }, some (pick e.2))
  | none =>
    let a := s.potBase + 64 * b
    let v := s.potBlock b
    let r := s.dramScan rq.rid rq.tag a 64 8 (a / 8)
    r.1.potKeep b v (pick v) r.2

/-- The composition engines' fetches and marked remote fetches are layer fetches (R437). -/
def MemRq.isLayer (rq : MemRq) : Bool := (decide (0x20 ≤ rq.rid) && decide (rq.rid ≤ 0x27)) || rq.layer

/-- A Cove's or the table's verdict on one page: whether it is allowed, and the entry's `SHARE_MODE`. -/
def entryAllows (rq : MemRq) (e : Nat) : Option Nat :=
  let mode := bits e 15 14
  if rq.tag = bits e 11 0 ∧ rq.tag ≠ 0 then
    (if rq.write then (if bit e 13 then some mode else none) else (if bit e 12 then some mode else none))
  else if rq.tag = bits e 27 16 ∧ rq.tag ≠ 0 ∧ rq.write = false
      ∧ (mode = 1 ∨ (mode = 2 ∧ rq.isLayer)) then some mode
  else none

/-- The checker's decision for one page (R437). -/
def State.judgePage (s : State) (rq : MemRq) (i : Nat) : State × Option Nat :=
  if s.potOn = false then (s, if rq.tag = 1 then some 0 else none)
  else match s.coveAt i with
    | some n =>
      (s, if (s.cove n = .sealed ∧ rq.tag = 0x100 + n) ∨ (s.cove n = .building ∧ rq.tag = 1) then some 0 else none)
    | none =>
      if rq.tag = 1 then (s, some 0)
      else
        let r := s.potEntry rq i
        (r.1, r.2.bind (entryAllows rq))

/-- The pages of a request, judged in turn (R437): all must allow it. -/
def State.judgePages (s : State) (rq : MemRq) : List Nat → Nat → State × Option Nat
  | [], m => (s, some m)
  | i :: t, m =>
    match s.judgePage rq i with
    | (s, none) => (s, none)
    | (s, some k) => s.judgePages rq t (max m k)

/-- The table indexes that a request touches. -/
def MemRq.indexes (rq : MemRq) : List Nat :=
  let i0 := potIndex rq.pool rq.addr
  upto i0 (potIndex rq.pool (rq.addr + rq.bytes - 1) + 1 - i0)

/-- The request lies inside the memory that exists (R437). -/
def State.inMemory (s : State) (rq : MemRq) : Bool :=
  if rq.pool then decide (rq.addr + rq.bytes ≤ s.poolBytesTotal) else decide (rq.addr + rq.bytes ≤ s.vBytes)

/-- A write that the checker allows into the bytes of the table invalidates the cached block (R443). -/
def State.potSnoop (s : State) (rq : MemRq) : State :=
  if rq.write ∧ rq.pool = false ∧ s.potBase < rq.addr + rq.bytes ∧ rq.addr < s.potBase + 2100224 then
    let lo := (rq.addr - s.potBase) / 64
    let hi := (rq.addr + rq.bytes - 1 - s.potBase) / 64
    { s with potCache := s.potCache.filter (fun e => decide (e.1 < lo) || decide (hi < e.1)) }
  else s

/-! Remote addresses -/

/-- Pages of the `TMB` domain. -/
def tmbPage : Nat := pg 0x38 0
def tportPage (p : Nat) : Nat := pg 0x38 (1 + p)
def remotePage : Nat := pg 0x38 3
def tsyncPage : Nat := pg 0x38 4

/-- The ring's size N and the device's own index (R523). -/
def State.ringN (s : State) : Nat := s.get tmbPage F.TMB.RING_CFG_DEVICES + 1
def State.ringIndex (s : State) : Nat := s.get tmbPage F.TMB.RING_CFG_INDEX

/-- Port p is UP. -/
def State.tportUp (s : State) (p : Nat) : Bool := s.get (tportPage p) F.TPORT.PORT_STATE_STATE == 3

/-- The port of the shorter distance to device j; port 0 on a tie (R524). -/
def State.tmbNear (s : State) (j : Nat) : Nat :=
  let n := s.ringN
  let i := s.ringIndex
  if (j + n - i) % n ≤ (i + n - j % n) % n then 0 else 1

/-- The port that a flit for device j leaves by (R524). (log 186, DEDUCED) -/
def State.tmbRoute (s : State) (j : Nat) : Option Nat :=
  let p := s.tmbNear j
  if s.tportUp p then some p else if s.tportUp (1 - p) then some (1 - p) else none

/-- An address of another device (R532): bit 39; the device, the remote space and the remote address. -/
def remoteAddr (a : Nat) : Bool := bit a 39
def remoteDev (a : Nat) : Nat := bits a 38 37
def remoteSpace (a : Nat) : Nat := bits a 36 36
def remoteOff (a : Nat) : Nat := bits a 35 0

/-- The local checker's verdict on a remote request (R533). -/
def State.remoteAllows (s : State) (rq : MemRq) : Bool :=
  let j := remoteDev rq.addr
  let a := remoteOff rq.addr
  rq.isLayer && !rq.write && j != s.ringIndex && (upto 0 8).any (fun r =>
    let g (x : Fld) : Nat := s.get remotePage (x.at r)
    g F.TREMOTE.RSLOT_CFG_VALID == 1 && g F.TREMOTE.RSLOT_CFG_DEVICE == j
      && g F.TREMOTE.RSLOT_CFG_RSPACE == remoteSpace rq.addr && g F.TREMOTE.RSLOT_CFG_OWNER == rq.tag
      && decide (65536 * g F.TREMOTE.RSLOT_BASE ≤ a)
      && decide (a + rq.bytes ≤ 65536 * (g F.TREMOTE.RSLOT_BASE + g F.TREMOTE.RSLOT_SIZE)))

/-- The decision, with what it does to the ownership-table cache: local requests by R437, remote ones by R533. -/
def State.decideRq (s : State) (rq : MemRq) : State × Option Nat :=
  if rq.pool = false ∧ remoteAddr rq.addr then (s, if s.remoteAllows rq then some 0 else none)
  else if s.inMemory rq then s.judgePages rq rq.indexes 0
  else (s, none)

/-- The checker (R437, R438): `some` share mode when the request is allowed; a refusal raises
`POT_VIOLATION`.  Plane 5 passes unchecked. Owner tag 0 is plane 5's alone (R13): no other engine issues a request with it. -/
def State.judge (s : State) (rq : MemRq) : State × Option Nat :=
  if rq.bytes = 0 then (s, some 0)
  else if rq.tag = 0 then (s, if 0xA0 ≤ rq.rid ∧ rq.rid < 0xC0 then some 0 else none)
  else
    match s.decideRq rq with
    | (s, some m) => (s.potSnoop rq, some m)
    | (s, none) =>
      (s.hitAcc 11 (bits (potIndex rq.pool rq.addr) 19 4) (if rq.write then 2 else 1) rq.rid rq.tag rq.addr, none)

/-- What the checker would decide, with no effect: the ownership tests of the checks (R439). -/
def State.wouldAllow (s : State) (rq : MemRq) : Option Nat :=
  ({ s with potRun := none }.decideRq rq).2

/-- A page of the request's range is being changed by an ownership-table command, so it waits (R441). -/
def State.potBlocks (s : State) (rq : MemRq) : Bool :=
  match s.potRun with
  | some c => rq.indexes.any (fun i => decide (c.index ≤ i) && decide (i < c.index + c.count))
  | none => false

/-! Channels -/

/-- A change of the DRAM controller. -/
def State.modDc (s : State) (f : DramSt → DramSt) : State := { s with dc := f s.dc }

/-- A channel beside its registers. -/
def State.dchan (s : State) (c : Nat) : DChan := amGet (fun _ => DChan.idle) s.dc.chans c
def State.setDchan (s : State) (c : Nat) (x : DChan) : State :=
  s.modDc (fun d => { d with chans := amSet (fun _ => DChan.idle) d.chans c x })
def State.modDchan (s : State) (c : Nat) (f : DChan → DChan) : State := s.setDchan c (f (s.dchan c))

/-- A source reports its latency deadline, or an infinite one (R349); reports that a later one in effect has replaced
are forgotten. (log 183, DEDUCED) -/
def State.reportLat (s : State) (src : Nat) (d : Option Nat) : State :=
  let l := amGet (fun _ => []) s.dc.lats src
  let inEffect := l.find? (fun e => decide (e.1 + 4 ≤ s.now))
  let l := (s.now, d) :: (l.filter (fun e => decide (s.now < e.1 + 4)) ++ inEffect.toList)
  s.modDc (fun x => { x with lats := amSet (fun _ => []) x.lats src l })

/-- T_min (R349): the earliest deadline of the reports in effect; none is infinite. -/
def State.tMin (s : State) : Option Nat :=
  s.dc.lats.foldl (fun m e =>
    match (e.2.find? (fun r => decide (r.1 + 4 ≤ s.now))).bind (·.2), m with
    | some d, some x => some (min d x)
    | some d, none => some d
    | none, m => m) none

/-- The ticks that a channel spends in self-refresh and with a rank in power-down are counted up to now (R363). (log 182, DEDUCED) -/
def State.chanSettle (s : State) (c : Nat) : State :=
  let x := s.dchan c
  let s := match x.sr with
    | some t => s.accrue (chanPage c) 11 (s.now - t)
    | none => s
  let s := if x.pd ≠ 0 then s.accrue (chanPage c) 12 (s.now - x.pdAt) else s
  s.modDchan c (fun x => { x with sr := x.sr.map (fun _ => s.now), pdAt := if x.pd ≠ 0 then s.now else x.pdAt })

/-- A command to a rank of a channel: the rank leaves power-down (R350). -/
def State.rankCmd (s : State) (c rank : Nat) : State :=
  let s := s.chanSettle c
  s.modDchan c (fun x => { x with
    cmd0 := if rank = 0 then s.now else x.cmd0
    cmd1 := if rank = 1 then s.now else x.cmd1
    pd := if bit x.pd rank then x.pd - (1 <<< rank) else x.pd })

/-- The channel, the bank (rank × 16 + bank group × 4 + bank) and the row of a system address (R344). -/
def State.rowOf (s : State) (a : Nat) : Nat × Nat × Nat :=
  let w := s.dramCoord a
  ((s.dramChan a).1, bits w 31 27, bits w 26 11)

/-- The row of an address is open. (log 175, DEDUCED) -/
def State.rowHit (s : State) (a : Nat) : Bool :=
  let r := s.rowOf a
  (s.dchan r.1).rows.any (fun e => e.1 == r.2.1 && e.2 == r.2.2)

/-- The command of one block (R348): a row hit, or a miss that opens the row. (log 175, DEDUCED) -/
def State.blockCmd (s : State) (a : Nat) : State :=
  let r := s.rowOf a
  let hit := s.rowHit a
  let s := (s.rankCmd r.1 (r.2.1 / 16)).stat (chanPage r.1) (if hit then 4 else 5)
  s.modDchan r.1 (fun x => { x with
    rows := if hit then x.rows else (r.2.1, r.2.2) :: x.rows.filter (fun e => e.1 != r.2.1)
    run := if hit then x.run + 1 else 0
    respAt := s.now })

/-- The channel leaves self-refresh and serves from tick t (R351). (log 172, DEDUCED) -/
def State.srExit (s : State) (c t : Nat) : State :=
  (s.chanSettle c).modDchan c (fun x => { x with sr := none, serve := t })

/-- A request of the render plane that reaches the controller from outside this model's jobs is caused by a DEADLINE job
(R346): a core's by the job of its unit, another's by any such job of its tag. (log 70, DESIGN CHOICE) -/
def State.deadlineRq (s : State) (rid tag : Nat) : Bool :=
  if rid < 0x58 then
    match (amGet (fun _ => GCoreSt.idle) s.gfx.cores (rid - 0x40)).unit with
    | some (id, _) => s.gfx.jobs.any (fun j => j.id == id && j.cls == 0)
    | none => false
  else s.gfx.jobs.any (fun j => j.tag == tag && j.phase == .ready && j.cls == 0)

/-- The service class of a request (R346): streams 0–15 of the audio engine are its sample players (log 70). -/
def State.dramCls (s : State) (rq : MemRq) (stream : Nat) : Nat :=
  if 0xA0 ≤ rq.rid ∧ rq.rid < 0xC0 then 3
  else if rq.isLayer ∨ (rq.rid = 0x60 ∧ stream < 16) then 0
  else if 0x40 ≤ rq.rid ∧ rq.rid ≤ 0x5A ∧ s.deadlineRq rq.rid rq.tag then 1
  else 2

/-- n bytes that DRAM carries for a requester count for its tenancy (R422, R423). -/
def State.tenBytes (s : State) (tag cls n : Nat) : State :=
  match tenOf tag with
  | none => s
  | some t =>
    let s := s.stat64 (pg 0x09 t) 2 n
    if cls = 2 then
      (s.stat64 (pg 0x09 t) 0 n).modDc (fun d => { d with be := amSet (fun _ => 0) d.be t (ctrGet d.be t + n) })
    else s

/-- The blocks of a served request: commands, bytes read or written, and the tenancy's count. -/
def State.dramServed (s : State) (rq : MemRq) (cls : Nat) : State :=
  let c := (s.dramChan rq.addr).1
  let s := if (s.dchan c).sr.isSome then s.srExit c s.now else s
  let b := rq.addr / 64
  let s := forL (fun k s => s.blockCmd (64 * k)) (upto b ((rq.addr + rq.bytes - 1) / 64 + 1 - b)) s
  (s.stat64 (chanPage c) (if rq.write then 2 else 0) rq.bytes).tenBytes rq.tag cls rq.bytes

/-- A read of DRAM that has reached its channel. (log 177, DEDUCED) -/
def State.dramRead (s : State) (rq : MemRq) (cls : Nat) : State × Option (List Byte) :=
  let b := rq.addr / 64
  let n := ((rq.addr + rq.bytes - 1) / 64 + 1 - b) * 8
  let d := s.dramBytes rq.addr rq.bytes
  let r := s.dramScan rq.rid rq.tag rq.addr rq.bytes n (8 * b)
  (r.1.dramServed rq cls, if r.2 then some d else none)

/-- A write of DRAM that has reached its channel. (log 177, DEDUCED) -/
def State.dramStore (s : State) (rq : MemRq) (cls : Nat) (d : List Byte) : State × Bool :=
  let r := s.dramWrite rq.rid rq.tag (d.length + 1) rq.addr d
  (r.1.dramServed rq cls, r.2)

/-- A request that finds `GLOBAL` disabled counts, whatever R54 says of a disabled page (R355). -/
def State.globalOff (s : State) : State := s.statTo 0xFFFFFFFF dglobPage 5 1

/-! Tombolo -/

/-- A change of Tombolo's state, and of a port. -/
def State.modTmb (s : State) (f : TmbSt → TmbSt) : State := { s with tmb := f s.tmb }
def State.tport (s : State) (p : Nat) : TPortSt := amGet (fun _ => TPortSt.idle) s.tmb.ports p
def State.setTport (s : State) (p : Nat) (x : TPortSt) : State :=
  s.modTmb (fun t => { t with ports := amSet (fun _ => TPortSt.idle) t.ports p x })
def State.modTport (s : State) (p : Nat) (f : TPortSt → TPortSt) : State := s.setTport p (f (s.tport p))

/-- A flit of a type and priority is queued for device j at the port of its route (R524); none has a route. (log 188, DESIGN CHOICE) -/
def State.tSend (s : State) (j prio typ : Nat) (pay : List Byte) : State :=
  match s.tmbRoute j with
  | some p => s.modTport p (fun x => { x with queue := x.queue ++ [(prio, ⟨typ, 0, 0, 0, s.ringIndex, j, pay⟩)] })
  | none => s

/-- A register field of mirror entry m (R544). (log 20, DEDUCED) -/
def State.mir (s : State) (x : Fld) (m : Nat) : Nat := s.get remotePage (x.at m)

/-- The destinations of mirror entry m. -/
def State.mirDests (s : State) (m : Nat) : List Nat := (upto 0 4).filter (fun j => bit (s.mir F.TREMOTE.MIR_CFG_DESTS m) j)

/-- The payload of a WRITE flit (R528): address, space, length and data. -/
def writePay (addr : Nat) (pool : Bool) (d : List Byte) : List Byte :=
  natBytes 5 addr ++ natBytes 1 (b2n pool) ++ natBytes 2 d.length ++ d

/-- WRITE flits of at most 192 bytes to the destinations of entry m. -/
def State.mirSend (s : State) (m : Nat) (pool : Bool) : Nat → Nat → List Byte → State
  | 0, _, _ => s
  | fuel + 1, addr, d =>
    match d with
    | [] => s
    | _ =>
      let s := forL (fun j s => s.tSend j 8 0x06 (writePay addr pool (d.take 192))) (s.mirDests m) s
      s.mirSend m pool fuel (addr + 192) (d.drop 192)

/-- A write of local memory goes to the mirrors of its range (R536): those of LIVE entries, and in RESYNC those behind
the resend pointer (R537). -/
def State.mirror (s : State) (pool : Bool) (a : Nat) (d : List Byte) : State :=
  if s.enabled remotePage = false then s
  else
    forN (fun k s =>
      let m := 3 - k
      let lo := 65536 * s.mir F.TREMOTE.MIR_SRC m
      let st := s.mir F.TREMOTE.MIR_STATE_STATE m
      let n := if st = 1 then s.mir F.TREMOTE.MIR_SIZE m else if st = 3 then s.mir F.TREMOTE.MIR_STATE_PTR m else 0
      let b := max lo a
      let e := min (lo + 65536 * n) (a + d.length)
      if s.mir F.TREMOTE.MIR_CFG_VALID m = 1 ∧ (s.mir F.TREMOTE.MIR_CFG_SPACE m == 1) = pool ∧ b < e then
        s.mirSend m pool (d.length + 1) (65536 * s.mir F.TREMOTE.MIR_DST m + (b - lo)) ((d.drop (b - a)).take (e - b))
      else s) 4 s

/-! Requests of the engines -/

/-- The channel that holds a request's first byte serves requests: `GLOBAL` enabled and the channel READY. -/
def State.dramServes (s : State) (a : Nat) : Bool :=
  s.enabled dglobPage && s.get (chanPage (s.dramChan a).1) F.DCHAN.CHAN_STATE_STATE == 2

/-- An access to n bytes of the Tidepool at a waits for the busiest of its banks, each of which serves a word a tick
(R158); the wait counts (R159). (log 242, DESIGN CHOICE) -/
def State.poolQueue (s : State) (a n : Nat) : State :=
  let w0 := a / 6
  let k := (a + n - 1) / 6 + 1 - w0
  let cnt (b : Nat) : Nat := (k + 15 - (b + 16 - w0 % 16) % 16) / 16
  let free (b : Nat) : Nat := amGet (fun _ => 0) s.poolFree b
  let used := (upto 0 16).filter (fun b => cnt b != 0)
  let wait := (used.map (fun b => free b - s.now)).foldl max 0
  let s := { s with poolFree := used.foldl (fun l b => amSet (fun _ => 0) l b (max s.now (free b) + cnt b)) s.poolFree }
  s.stat (pg 0x1A 0) 4 wait

/-- A read in a service class of R346: the data with the share mode, or an error response. (log 172, DEDUCED) -/
def State.mreadC (s : State) (rq : MemRq) (cls : Nat) : State × Option (List Byte × Nat) :=
  match s.judge rq with
  | (s, none) => (s, none)
  | (s, some m) =>
    if rq.bytes = 0 then (s, some ([], m))
    else if rq.pool = false ∧ remoteAddr rq.addr then (s, none)
    else if rq.pool then
      let w := rq.addr / 6
      let r := s.poolScan rq.rid rq.tag ((rq.addr + rq.bytes - 1) / 6 + 1 - w) w
      let d := s.poolData rq.addr rq.bytes
      ((r.1.poolQueue rq.addr rq.bytes).stat64 (pg 0x1A 0) 0 rq.bytes, if r.2 then some (d, m) else none)
    else if s.enabled dglobPage = false then (s.globalOff, none)
    else if s.dramServes rq.addr = false then (s, none)
    else
      let r := (s.sweepFor rq.addr).dramRead rq cls
      (r.1, r.2.map (fun d => (d, m)))

/-- A read in the class of its requester. (log 172, DEDUCED) -/
def State.mread (s : State) (rq : MemRq) : State × Option (List Byte × Nat) := s.mreadC rq (s.dramCls rq 16)

/-- A write to the Tidepool is noted for the frames in progress (R163). -/
def State.poolNote (s : State) (a n : Nat) : State :=
  if s.rasters.any (fun e => e.2.on) then { s with poolWr := s.poolWr ++ [⟨s.now, a, n⟩] } else s

/-- A write in a service class of R346: whether it receives a normal response. (log 172, DEDUCED) -/
def State.mwriteC (s : State) (rq : MemRq) (cls : Nat) (d : List Byte) : State × Bool :=
  match s.judge rq with
  | (s, none) => (s, false)
  | (s, some _) =>
    if rq.bytes = 0 then (s, true)
    else if rq.pool then
      let r := (s.mirror true rq.addr d).poolWrite rq.rid rq.tag (d.length + 1) rq.addr d
      (((r.1.poolQueue rq.addr rq.bytes).stat64 (pg 0x1A 0) 2 rq.bytes).poolNote rq.addr rq.bytes, r.2)
    else if s.enabled dglobPage = false then (s.globalOff, false)
    else if s.dramServes rq.addr = false then (s, false)
    else ((s.sweepFor rq.addr).mirror false rq.addr d).dramStore rq cls d

/-- A write in the class of its requester. (log 172, DEDUCED) -/
def State.mwrite (s : State) (rq : MemRq) (d : List Byte) : State × Bool := s.mwriteC rq (s.dramCls rq 16) d

/-! The spaces of R400 -/

/-- The tenancy that function f of port p is bound to (R395): `TEN_0` for the manager's function, which is
fixed. -/
def State.fnTen (s : State) (p f : Nat) : Option Nat :=
  let b := pg (0x06 + p) 1
  if f = 0 ∧ s.flag (pg (0x06 + p) 0) F.HOSTP.PORT_INFO_MGR then some 0
  else if s.flag b (F.HFUNC.FUNC_MAP_EN.at f) then tenOf (s.get b (F.HFUNC.FUNC_MAP_TENANCY.at f))
  else none

/-- The function of tenancy t on port p: its number, if it is bound and enabled. -/
def State.fnOf (s : State) (p t : Nat) : Option Nat := (upto 0 16).find? (fun f => s.fnTen p f == some t)

/-- A host port can carry a request for an owner tag (R394, R400): the link is up and the tag is a tenancy
with an enabled function on the port. -/
def State.hostOk (s : State) (p tag : Nat) : Bool :=
  decide (p < s.part.hostPorts) && s.flag (pg (0x06 + p) 0) F.HOSTP.PORT_INFO_UP &&
  (match tenOf tag with
   | some t => (s.fnOf p t).isSome
   | none => false)

/-- The key of a byte of host memory behind a port. -/
def hostKey (p a : Nat) : Nat := p * 0x10000000000000000 + a % 0x10000000000000000

/-- A write of an engine into a space of R400. -/
def State.spWrite (s : State) (rid tag space addr : Nat) (d : List Byte) : State × Bool :=
  if space < 2 then s.mwrite ⟨rid, tag, addr % (1 <<< 40), d.length, true, space == 1, false⟩ d
  else if s.hostOk (space - 2) tag then ({ s with host := memPutList s.host (hostKey (space - 2) addr) d }, true)
  else (s, false)

/-- A read of an engine from DRAM or the Tidepool, with no share accepted beside a plain one. -/
def State.spRead (s : State) (rid tag space addr n : Nat) : State × Option (List Byte) :=
  let r := s.mread ⟨rid, tag, addr % (1 <<< 40), n, false, space == 1, false⟩
  (r.1, r.2.map (·.1))

end Sys2Proof.Machine
end

