-- ==== Sys2Proof/Machine/Dsi.lean ====
section
/-! DEFINITION. The packets of the DSI links (R143, R145): those of MIPI DSI-2, on virtual channel 0. -/

namespace Sys2Proof.Machine

/-- The error-correcting byte of a packet header: bit i is the parity of the header bits that row i names. (log 240, PRESUMED) -/
def dsiEcc (d : Nat) : Nat :=
  [0xF12CB7, 0xF2555B, 0x749A6D, 0xB8E38E, 0xDF03F0, 0xEFFC00].foldr (fun m a =>
    2 * a + (forN (fun i n => n + b2n (bit (d &&& m) i)) 24 0) % 2) 0

/-- A packet header: data identifier on virtual channel 0, 16-bit payload or word count, error-correcting byte. -/
def dsiHeader (dt n : Nat) : List Byte :=
  let d := dt + n % 65536 * 256
  natBytes 3 d ++ natBytes 1 (dsiEcc d)

/-- A short packet: VSS, HSS or EoTp. -/
def dsiShort (dt n : Nat) : List Byte := dsiHeader dt n

/-- The checksum of a long packet. (log 240, PRESUMED) -/
def dsiCrc : CrcCfg := ⟨16, 0x1021, 0xFFFF, 0, true, true⟩

/-- A long packet: header with word count, payload, checksum. -/
def dsiLong (dt : Nat) (pay : List Byte) : List Byte :=
  dsiHeader dt pay.length ++ pay ++ natBytes 2 (crc dsiCrc (pay.map (·.toNat)))

/-- Packed pixels: 24 bits in the order R, G, B, or 30 bits with R lowest. (log 240, PRESUMED) -/
def dsiPixels (deep : Bool) (px : List Nat) : List Byte :=
  if deep then
    let v := px.foldr (fun w a =>
      a * 0x40000000 + (w / 0x100000 % 1024 + w / 0x400 % 1024 * 1024 + w % 1024 * 0x100000)) 0
    natBytes ((30 * px.length + 7) / 8) v
  else px.flatMap (natBytes 3)

/-- Blanking packets that fill n bytes, with payloads of zeros: fewer than 6 bytes are left. (log 240, PRESUMED) -/
def dsiBlanks (n : Nat) : List (List Byte) :=
  let full := n / 65541
  let rest := n % 65541
  List.replicate full (dsiLong 0x19 (List.replicate 65535 0))
    ++ (if 6 ≤ rest then [dsiLong 0x19 (List.replicate (rest - 6) 0)] else [])

end Sys2Proof.Machine
end

