-- ==== Sys2Proof/Machine/PageOps.lean ====
section
/-! DEFINITION. The parts of the enable, check and commit mechanism that no block takes part in: captures,
starting a check, recording a result, withdrawing, and the release of commits on fence (R78–R92). -/

namespace Sys2Proof.Machine

/-- The result of a check: reason code, offset of the active register and lowest bit of the offending field,
`CHECK_ARG`, and the page within the domain that holds the word, for a domain commit (R69). -/
structure Verdict where
  reason : Nat
  off : Nat
  bit : Nat
  arg : Nat
  page : Option Nat
  deriving DecidableEq, Repr

/-- The check passed. -/
def Verdict.ok : Verdict := ⟨0, 0, 0, 0, none⟩

/-- A refusal with no field to name. -/
def Verdict.no (reason : Nat) (off : Nat := 0) (bit : Nat := 0) (arg : Nat := 0) : Verdict :=
  ⟨reason, off, bit, arg, none⟩

/-- `CHECK`, `CHECK_ARG` and `CHECK_PAGE` take a result (R69); `ATTEMPT` keeps its value. A refusal that names a word names its page. -/
def State.writeCheck (s : State) (base : Nat) (v : Verdict) : State :=
  let s := s.put base F.HDR.CHECK_REASON v.reason
  let s := s.put base F.HDR.CHECK_WORD (v.off / 4)
  let s := s.put base F.HDR.CHECK_BIT v.bit
  let s := s.put base F.HDR.CHECK_ARG v.arg
  let page := if v.reason ≠ 0 ∧ v.off ≠ 0 ∧ v.page.isNone then some (pnoOf base) else v.page
  let s := s.put base F.HDR.CHECK_PAGE_VALID (b2n page.isSome)
  s.put base F.HDR.CHECK_PAGE_PAGE (page.getD 0)

/-- A check of the page completes (R69, R81, R93): `CHECK_DONE`, and `REFUSED` for a refusal. (log 14, DEDUCED) -/
def State.checkDone (s : State) (base : Nat) (v : Verdict) : State :=
  (s.writeCheck base v).intSet base (0x80000000 + (if v.reason = 0 then 0 else 0x20000000))

/-- A check of the page starts (R78). -/
def State.checkStart (s : State) (base : Nat) : State := s.inc base F.HDR.CHECK_ATTEMPT

/-- A refusal that is no check (R587): `ATTEMPT` does not increment, and `REFUSED` sets. -/
def State.refuse (s : State) (base : Nat) (v : Verdict) : State := (s.writeCheck base v).intSet base 0x20000000

/-- A refusal under a secure hold is recorded (R454): operation code, requester, owner tag. -/
def State.holdRecord (s : State) (base op : Nat) (r : Req) : State :=
  (s.jrec 0 0x0021 (pg 0x04 0) s.now
    (jpay [(16, 2, lineOf base), (18, 1, op), (19, 1, r.rid.toNat), (20, 2, r.tag.toNat)])).stat (pg 0x04 0) 0

/-- The candidate of a set of pages: the contents of their registers now (R82, R84). -/
def State.capture (s : State) (pages : List Nat) : CfgImage :=
  ⟨pages, s.regs.filter (fun e => pages.contains (pageOf e.1)), 0, 0, []⟩

/-- A commit check of `base` starts on a candidate. -/
def State.startCommit (s : State) (base : Nat) (r : Req) (img : CfgImage) : State :=
  let s := s.checkStart base
  s.modCtl base (fun c => { c with run := some ⟨r, { img with attempt := s.get base F.HDR.CHECK_ATTEMPT }⟩ })

/-- An enable check of `base` starts. on a candidate. -/
def State.startEnable (s : State) (base : Nat) (r : Req) (img : CfgImage) : State :=
  let s := s.checkStart base
  s.modCtl base (fun c =>
    { c with enRun := some ⟨r, { img with attempt := s.get base F.HDR.CHECK_ATTEMPT }⟩, enNext := none, withdrawn := false })

/-- Everything a disable or a reset withdraws: the armed image, a waiting commit and a queued one (R83). -/
def State.withdraw (s : State) (base : Nat) : State :=
  s.modCtl base (fun c => { c with armed := none, wait := none, queued := none, enNext := none })

/-- A timeline fence. -/
def State.fence (s : State) (i : Nat) : Fence := amGet (fun _ => Fence.zero) s.fences i

/-- The state with a fence replaced. -/
def State.setFence (s : State) (i : Nat) (f : Fence) : State :=
  { s with fences := amSet (fun _ => Fence.zero) s.fences i f }

/-- The owner of a fence (R412). -/
def State.fenceOwner (s : State) (i : Nat) : Nat := bits (s.fence i).cfg.toNat 11 0

/-- The fence that a page's commits wait on, and the value they await (R71). -/
def State.fenceSel (s : State) (base : Nat) : Nat := s.get base F.HDR.FENCE_SEL
def State.fenceVal (s : State) (base : Nat) : Nat := s.get64 base F.HDR.FENCE_VALUE_LO

/-- The condition of a commit on fence is met (R92). -/
def State.fenceMet (s : State) (base : Nat) : Bool :=
  decide (s.fenceVal base ≤ (s.fence (s.fenceSel base)).value.toNat)

/-- A page's commits go by a fence (R71, R92): it has the registers, and `COMMIT_ON_FENCE` = 1. -/
def State.onFence (s : State) (base : Nat) : Bool :=
  match pinfoAt base with
  | some i => i.hasFence && s.flag base F.HDR.CTRL_COMMIT_ON_FENCE
  | none => false

/-- The pages of a commit that goes by a fence of another owner (R71), as they stand on the tick of the write. (log 227, DESIGN CHOICE) -/
def State.fenceForeign (s : State) (pages : List Nat) : List Nat :=
  pages.filter (fun p => s.onFence p && decide (s.fenceOwner (s.fenceSel p) ≠ s.owner p))

/-- A commit captures its candidate now; its check starts, or the commit waits for its fence (R84, R92). -/
def State.takeCommit (s : State) (base : Nat) (r : Req) (foreign : List Nat) : State :=
  let img := { s.capture (s.group base) with foreign := foreign }
  if s.onFence base && !foreign.contains base && !s.fenceMet base then
    s.modCtl base (fun c => { c with wait := some ⟨r, img⟩ })
  else (s.modCtl base (fun c => { c with wait := none })).startCommit base r img

/-- A queued commit is captured when no check of its group runs any more (R86), and then goes as one written
then, but for the fence's owner, which R71 judges at the write. -/
def State.startQueued (s : State) (base : Nat) : State :=
  match (s.ctl base).queued with
  | some (r, foreign) =>
    if s.checkBusy base then s
    else (s.modCtl base (fun c => { c with queued := none })).takeCommit base r foreign
  | none => s

/-- A waiting commit whose fence has reached its value starts its check (R92). It waits for a check that still runs on the page. -/
def State.fenceRelease1 (s : State) (base : Nat) : State :=
  match (s.ctl base).wait with
  | some w =>
    if s.fenceMet base ∧ s.checkBusy base = false then
      (s.modCtl base (fun c => { c with wait := none })).startCommit base w.req w.img
    else s
  | none => s

/-- The waiting commits of a fence are examined again (R92, R411). -/
def State.fenceRelease (s : State) (f : Nat) : State :=
  forL (fun base s => if s.fenceSel base = f then s.fenceRelease1 base else s) (s.pages.map (·.1)) s

/-- The journal record of a commit (R87): outcome 0 applied, 1 superseded, 2 dropped. (log 230, DEDUCED) -/
def State.commitRecord (s : State) (base : Nat) (img : CfgImage) (stamp seq outcome reason : Nat) : State :=
  s.jrecOwn 0x0001 base stamp (jpay [(16, 8, img.tick), (24, 4, seq), (28, 1, pnoOf base), (29, 1, outcome),
    (30, 1, img.attempt), (31, 1, reason)])

/-- A head beside its registers. -/
def State.headSt (s : State) (h : Nat) : HeadSt := amGet (fun _ => HeadSt.idle) s.heads h
def State.setHead (s : State) (h : Nat) (x : HeadSt) : State :=
  { s with heads := amSet (fun _ => HeadSt.idle) s.heads h x }
def State.modHead (s : State) (h : Nat) (f : HeadSt → HeadSt) : State := s.setHead h (f (s.headSt h))

/-- A trigger that ends a hold (R165): the first one since the last slack point counts. Its stamp is the tick t. -/
def State.holdTrigger (s : State) (h cause : Nat) (t : Nat := s.now) : State :=
  s.modHead h (fun x => if x.exit = 0 then { x with exit := cause, exitAt := t } else x)

/-- An accepted candidate is armed at tick A; an armed image that it replaces leaves a superseded record
(R84, R86); that of `AUD.BANK` starts a swap (R324). -/
def State.arm (s : State) (base : Nat) (img : CfgImage) (a : Nat) : State :=
  let s := match (s.ctl base).armed with
    | some old => s.commitRecord base old a 0 1 0
    | none => s
  let d := domOf base
  let s := if 0x10 ≤ d ∧ d < 0x18 then s.holdTrigger (d - 0x10) 1 else s
  let s := if base = pg 0x2A 1 then s.put base F.ABANK.BANK_STATE_PHASE 1 else s
  s.modCtl base (fun c => { c with armed := some { img with tick := a } })

/-- The byte offset of a shadowed register's word in an image, and its value there. -/
def CfgImage.word (i : CfgImage) (die a : Nat) : Word := amGet (rstWord die) i.regs a

/-- The SC bits of the register at an offset of a page. -/
def scMask (k : PKind) (off : Nat) : Word :=
  (fldsAt k off).foldl (fun m f => if f.acc == .sc then m ||| f.mask else m) 0

/-- The offsets of a page's registers that hold an SC field. -/
def scOffs (k : PKind) : List Nat :=
  let expand (f : Fld) : List Nat :=
    (upto 0 (max f.count 1)).flatMap (fun i => (upto 0 (max f.count2 1)).map (fun j => (f.at2 i j).off))
  (((F.HDR.all ++ blockFlds k).filter (fun f => f.acc == .sc)).flatMap expand).foldl
    (fun l o => if l.contains o then l else l ++ [o]) []

/-- The SC values of an image are copied to the active registers of a page (R82, R85). -/
def State.copySc (s : State) (img : CfgImage) (base : Nat) : State :=
  match pinfoAt base with
  | none => s
  | some i =>
    forL (fun off s =>
      let m := scMask i.kind off
      s.wr (base + off) ((s.rd (base + off) &&& ~~~m) ||| (img.word s.die (base + off + 0x800) &&& m))) (scOffs i.kind) s

/-- A commit that selects another period source: boundaries of the new source count from tick A (R55). -/
def State.periodSrcNew (s old : State) (base a : Nat) : State :=
  if s.get base F.HDR.PERIOD_SRC ≠ old.get base F.HDR.PERIOD_SRC then
    s.modCtl base (fun c => { c with pend := old.boundary base, psince := a })
  else s

/-- The latched view, the live counters and `PERIOD_SEQ` are cleared and a period opens at tick t (R54). -/
def State.openPeriod (s : State) (base t : Nat) : State :=
  let lo := statKey base 0
  let inPage := fun k => decide (lo ≤ k) && decide (k < lo + 0x80)
  let s := { s with live := amDrop inPage s.live, held := amDrop inPage s.held }
  let s := forN (fun i s => s.wr (lo + 4 * i) 0) 32 s
  (s.put base F.HDR.PERIOD_SEQ 0).modCtl base (fun c => { c with pstart := t, psince := t, pend := none, old := none })

end Sys2Proof.Machine
end

