-- ==== Sys2Proof/Machine/HostBase.lean ====
section
/-! DEFINITION. Host ports, MSI-X messages, journals, fences, rings and tenancy shares: the operations that other
blocks use (R393–R428). -/

namespace Sys2Proof.Machine

/-- An owner ID that is 0x010–0x01F. -/
def isTen (o : Nat) : Bool := decide (0x10 ≤ o) && decide (o < 0x20)

/-- The result of R98 with a peer that offers `pmin` to `pmax` and the features `pfeat`; `defined` gives the
feature bits of a version. -/
def negotiate (lmin lmax lfeat pmin pmax pfeat : Nat) (defined : Nat → Nat) (ts : Nat) : Ver :=
  let lo := max lmin pmin
  let hi := min lmax pmax
  if hi < lo then ⟨0x09, pmax, pmin, 0, pfeat, 0, ts⟩
  else ⟨0, pmax, pmin, hi, pfeat, lfeat &&& pfeat &&& defined hi, ts⟩

/-- The negotiation of R98 with a `VER_LOCAL` word (R97). -/
def negotiateW (loc : Word) (pmin pmax pfeat : Nat) (defined : Nat → Nat) (ts : Nat) : Ver :=
  negotiate (bits loc.toNat 7 0) (bits loc.toNat 15 8) (bits loc.toNat 31 16) pmin pmax pfeat defined ts

/-! Wake events -/

/-- `DEV.MODE`. -/
def modePage : Nat := pg 0x00 1

/-- The exit from STANDBY starts with the undo of step 4 (R28, R29). -/
def State.standbyExit (s : State) : State :=
  { s.put modePage F.MODE.MODE_STATE_IN_TRANSITION 1 with stby := .undo 4 false }

/-- A trigger that goes before a mode request of the same tick (R22). (log 43, DEDUCED) -/
def State.triggered (s : State) : State := { s with modeTrig := some s.now }

/-- A trigger fell on the CLK_MGT cycle, three ticks, of now (R22). (log 222, DESIGN CHOICE) -/
def State.trigNow (s : State) : Bool :=
  match s.modeTrig with
  | some t => t / 3 == s.now / 3
  | none => false

/-- A wake event (R20, R28): it aborts a STANDBY entry, or starts the exit from STANDBY. (log 73, DEDUCED) -/
def State.wake (s : State) : State :=
  if s.rst.chip.isSome then s
  else match s.stby with
    | .entry n _ => { s.triggered with stby := .entry n true }
    | .undo _ _ => s
    | .none => if s.mode = .standby then s.triggered.standbyExit else s

/-! MSI-X -/

/-- The pages of a host port. -/
def portPage (p : Nat) : Nat := pg (0x06 + p) 0
def funcPage (p : Nat) : Nat := pg (0x06 + p) 1
def msixPage (p : Nat) : Nat := pg (0x06 + p) 2
def herrPage (p : Nat) : Nat := pg (0x06 + p) 3

/-- A port beside its registers. -/
def State.port (s : State) (p : Nat) : PortSt := amGet (fun _ => PortSt.reset) s.ports p
def State.setPort (s : State) (p : Nat) (x : PortSt) : State :=
  { s with ports := amSet (fun _ => PortSt.reset) s.ports p x }

/-- The port is ready (R393). -/
def State.portReady (s : State) (p : Nat) : Bool :=
  !(s.port p).perst && (s.enabled (portPage p) || (s.port p).late)

/-- Where a vector is kept. -/
def vecKey (p f v : Nat) : Nat := (p * 16 + f) * 64 + v
def State.vec (s : State) (k : Nat) : MsixVec := amGet (fun _ => MsixVec.reset) s.vecs k
def State.setVec (s : State) (k : Nat) (x : MsixVec) : State :=
  { s with vecs := amSet (fun _ => MsixVec.reset) s.vecs k x }

/-- The register that holds the pending bit of a vector. -/
def pendFld (f v : Nat) : Fld :=
  if v < 32 then F.HMSIX.PENDING_LO_BITS.at f else { F.HMSIX.PENDING_HI with off := F.HMSIX.PENDING_HI.off + 8 * f }

/-- The pending bit of a vector. -/
def State.vecPend (s : State) (p f v : Nat) : Bool := bit (s.get (msixPage p) (pendFld f v)) (v % 32)
def State.setPend (s : State) (p f v : Nat) (b : Bool) : State :=
  let x := pendFld f v
  let w := s.get (msixPage p) x
  let m := 1 <<< (v % 32)
  s.put (msixPage p) x (if b then w ||| m else w &&& (0xFFFFFFFF ^^^ m))

/-- A message on a vector can leave: the function has MSI-X enabled and not masked, and the vector is not
masked. (log 23, DEDUCED) -/
def State.vecOpen (s : State) (p f v : Nat) : Bool :=
  s.flag (msixPage p) (F.HMSIX.MSIX_STATE_ENABLE.at f) && !s.flag (msixPage p) (F.HMSIX.MSIX_STATE_MASK.at f)
    && !(s.vec (vecKey p f v)).masked

/-- An MSI-X message (R94): issued, or held as the vector's pending bit. (log 23, DEDUCED) (log 217, DESIGN CHOICE) -/
def State.msix (s : State) (p f v : Nat) : State :=
  if s.vecOpen p f v then
    let x := s.vec (vecKey p f v)
    s.setVec (vecKey p f v) { x with sent := x.sent + 1 }
  else s.setPend p f v true

/-- A vector whose pending bit is set sends its message once nothing masks it (R94). -/
def State.msixRetry (s : State) (p f v : Nat) : State :=
  if s.vecPend p f v ∧ s.vecOpen p f v then (s.setPend p f v false).msix p f v else s

/-- A function's MSI-X state returns to its defaults (R428). -/
def State.fnReset (s : State) (p f : Nat) : State :=
  let s := (s.wr (msixPage p + 0xF00 + 4 * f) 0).wr (msixPage p + 0xF40 + 8 * f) 0
  let s := s.wr (msixPage p + 0xF44 + 8 * f) 0
  let lo := vecKey p f 0
  let s := { s with vecs := amDrop (fun k => decide (lo ≤ k) && decide (k < lo + 64)) s.vecs }
  if f = 0 then s.put (funcPage p) F.HFUNC.SRIOV_STATE 1 else s

/-! Journals -/

/-- The slots of a tenancy's journal. -/
def State.jSlots (s : State) (t : Nat) : Nat := 1 <<< s.get (tenPage t) F.TEN.J_CFG_J_SIZE_LOG2

/-- The journal is full (R418). -/
def State.jFull (s : State) (t : Nat) : Bool :=
  (s.get (tenPage t) F.TEN.J_STATE_WR + 1) % s.jSlots t == s.get (tenPage t) F.TEN.J_STATE_RD

/-- A write into the journal area of tenancy t, by the journal writer under the owner's tag. -/
def State.jWrite (s : State) (t off : Nat) (d : List Byte) : State × Bool :=
  s.spWrite 0x03 (0x10 + t) (s.get (tenPage t) F.TEN.J_CFG_J_SPACE) (s.get64 (tenPage t) F.TEN.J_BASE_LO + off) d

/-- Bytes 8–23 of the header (R417). (log 25, DEDUCED) -/
def State.jHeadTail (s : State) (t : Nat) : List Byte :=
  natBytes 4 (s.get (tenPage t) F.TEN.J_STATE_WR) ++ natBytes 4 0 ++ natBytes 8 s.now

/-- The whole header, with WR 0 (R417), as the journal's configuration applies; the reader starts at 0 too. (log 25, DEDUCED) -/
def State.jHeader (s : State) (t : Nat) : State :=
  let s := (s.put (tenPage t) F.TEN.J_STATE_WR 0).put (tenPage t) F.TEN.J_STATE_RD 0
  if s.flag (tenPage t) F.TEN.J_CFG_J_EN ∧ s.enabled (tenPage t) then
    (s.jWrite t 0 (natBytes 2 1 ++ natBytes 2 32 ++ natBytes 4 (s.jSlots t) ++ s.jHeadTail t ++ natBytes 40 0)).1
  else s

/-- The 32 bytes of a record (R419). -/
def JRec.bytes (r : JRec) : List Byte :=
  natBytes 2 r.typ ++ natBytes 2 r.page ++ natBytes 4 r.seq ++ natBytes 8 r.stamp ++ natBytes 16 r.pay.toNat

/-- Records of tenancy t remain unread. -/
def State.jUnread (s : State) (t : Nat) : Bool :=
  s.get (tenPage t) F.TEN.J_STATE_WR != s.get (tenPage t) F.TEN.J_STATE_RD

/-- The message on the journal's vector leaves (R420). -/
def State.jMessage (s : State) (t : Nat) : State :=
  let p := tenPage t
  let s := s.setJournal t { s.journal t with msgAt := some s.now, held := false }
  s.msix (s.get p F.TEN.J_IRQ_J_PORT) (s.get p F.TEN.J_IRQ_J_FUNCTION) (s.get p F.TEN.J_IRQ_J_VECTOR)

/-- After a write of WR: a message, or one withheld until the holdoff ends (R420). -/
def State.jNotify (s : State) (t : Nat) : State :=
  if s.flag (tenPage t) F.TEN.J_IRQ_J_IRQ_EN = false ∨ s.jUnread t = false then s
  else
    let j := s.journal t
    let due := match j.msgAt with
      | none => true
      | some m => decide (m + s.get (tenPage t) F.TEN.J_HOLDOFF ≤ s.now)
    if due then s.jMessage t else s.setJournal t { j with held := true }

/-- The holdoff ends (R420): the withheld message leaves if records still remain unread. -/
def State.jHoldoffEnd (s : State) (t : Nat) : State :=
  let j := s.journal t
  match j.held, j.msgAt with
  | true, some m =>
    let s := (s.waitTo (m + s.get (tenPage t) F.TEN.J_HOLDOFF)).setJournal t { j with held := false }
    if s.flag (tenPage t) F.TEN.J_IRQ_J_IRQ_EN ∧ s.jUnread t then s.jMessage t else s
  | _, _ => s

/-- A record is stored in the next slot, then WR in the header; false when its write fails. -/
def State.jStore (s : State) (t : Nat) (r : JRec) : State × Bool :=
  let p := tenPage t
  let wr := s.get p F.TEN.J_STATE_WR
  match s.jWrite t (64 + 32 * wr) r.bytes with
  | (s, false) => (s, false)
  | (s, true) =>
    let s := (s.put p F.TEN.J_STATE_WR ((wr + 1) % s.jSlots t)).stat p 7
    (((s.jWrite t 8 (s.jHeadTail t)).1).jNotify t, true)

/-- The journal writer's next record of tenancy t (R418): a JOURNAL_LOSS record first when a slot is free after
a loss, else the oldest record of the queue; a record that finds the journal full, its configuration gone or its
write failing is lost. (log 19, DEDUCED) -/
def State.jWriteNext (s : State) (t : Nat) : State :=
  let p := tenPage t
  let j := s.journal t
  let live := s.flag p F.TEN.J_CFG_J_EN && s.enabled p
  let boot := match j.queue with
    | r :: _ => r.typ == 0x0041
    | [] => false
  if live ∧ s.jFull t = false ∧ 0 < j.lost ∧ boot = false then
    let seq := s.get p F.TEN.J_SEQ
    let r : JRec := ⟨0x0016, lineOf p, s.now, jpay [(16, 4, j.lost), (20, 4, j.lost0), (24, 4, j.lost1)], seq⟩
    let s := s.inc p F.TEN.J_SEQ
    match s.jStore t r with
    | (s, true) => s.setJournal t { s.journal t with lost := 0, lost0 := 0, lost1 := 0 }
    | (s, false) => s.jLose t seq
  else match j.queue with
    | [] => s
    | r :: q =>
      let s := s.setJournal t { j with queue := q }
      if live = false ∨ s.jFull t then s.jLose t r.seq
      else match s.jStore t r with
        | (s, true) => s
        | (s, false) => s.jLose t r.seq

/-- The BOOT record (R519): the first record of the manager's journal after a chip reset. -/
def State.jBoot (s : State) (count source level flags : Nat) : State :=
  if s.bootRec ∧ s.flag (tenPage 0) F.TEN.J_CFG_J_EN then
    { s with bootRec := false }.jrec 0 0x0041 (pg 0x02 3) s.rst.bootAt
      (jpay [(16, 4, count), (20, 1, source), (21, 1, level), (22, 1, flags), (24, 8, s.rst.bootAt)])
  else s

/-! Shares -/

/-- The shares in force of tenancy t: 0 while its page is disabled (R424). (log 26, DEDUCED) (log 98, DEDUCED) -/
def State.share (s : State) (t : Nat) (x : Fld) : Nat := if s.enabled (tenPage t) then s.get (tenPage t) x else 0

/-- The SHARE_CHANGE record of tenancy t, stamped b (R424). (log 26, DEDUCED) -/
def State.shareRecord (s : State) (t b : Nat) : State :=
  s.jrec t 0x0015 (tenPage t) b (jpay [(16, 2, s.share t F.TEN.SHADER_SHARE), (20, 4, s.share t F.TEN.DRAM_BE_SHARE),
    (24, 4, s.share t F.TEN.COPY_SHARE)])

/-- The quiesce of tenancy t that runs. -/
def State.quiesce (s : State) (t : Nat) : Option Quiesce := (s.quiesces.find? (fun e => e.1 == t)).map (·.2)
def State.setQuiesce (s : State) (t : Nat) (q : Option Quiesce) : State :=
  let l := s.quiesces.filter (fun e => e.1 != t)
  { s with quiesces := (match q with
    | some q => l ++ [(t, q)]
    | none => l) }

/-- The tenancy is quiesced (R425). -/
def State.quiesced (s : State) (t : Nat) : Bool := s.flag (tenPage t) F.HDR.STATUS_QUIESCED

/-- Nothing of tenancy t is issued or dispatched: a quiesce runs or holds (R425, R426). -/
def State.stopped (s : State) (t : Nat) : Bool := (s.quiesce t).isSome || s.quiesced t

/-! Copy engines -/

/-- A copy engine. -/
def State.copyEng (s : State) (e : Nat) : CopyEng := amGet (fun _ => ⟨none, []⟩) s.copies e
def State.setCopyEng (s : State) (e : Nat) (x : CopyEng) : State :=
  { s with copies := amSet (fun _ => ⟨none, []⟩) s.copies e x }

/-! Spaces -/

/-- The port that a space of R400 names, when it is a host port. -/
def spacePort (sp : Nat) : Option Nat := if sp < 2 then none else some (sp - 2)

/-- A space names a fused-off port. -/
def State.spaceFused (s : State) (sp : Nat) : Bool :=
  match spacePort sp with
  | some p => decide (s.part.hostPorts ≤ p)
  | none => false

/-- The tenancy with an owner ID has an enabled function on the port that a space names, where it names one
(R400). -/
def State.spaceReach (s : State) (o sp : Nat) : Bool :=
  match spacePort sp with
  | some p => (match tenOf o with
    | some t => (s.fnOf p t).isSome
    | none => false)
  | none => true

/-! Rings -/

/-- A ring beside its registers. -/
def State.ring (s : State) (r : Nat) : RingSt := amGet (fun _ => RingSt.stopped) s.rings r
def State.setRing (s : State) (r : Nat) (x : RingSt) : State :=
  { s with rings := amSet (fun _ => RingSt.stopped) s.rings r x }

/-- The page of ring r, and a field of its entry. -/
def ringPage (r : Nat) : Nat := pg 0x08 (r / 16)
def State.ringF (s : State) (r : Nat) (x : Fld) : Nat := s.get (ringPage r) (x.at (r % 16))
def State.ringPut (s : State) (r : Nat) (x : Fld) (v : Nat) : State := s.put (ringPage r) (x.at (r % 16)) v

/-- `RING_STATE.STATE` and the owner, slots and base of ring r. -/
def State.ringState (s : State) (r : Nat) : Nat := s.ringF r F.RING.RING_STATE_STATE
def State.ringOwner (s : State) (r : Nat) : Nat := s.ringF r F.RING.RING_CFG_OWNER
def State.ringSlots (s : State) (r : Nat) : Nat := 1 <<< s.ringF r F.RING.RING_CFG_SIZE_LOG2
def State.ringBase (s : State) (r : Nat) : Nat :=
  s.ringF r F.RING.RING_BASE_LO * 4096 + s.ringF r F.RING.RING_BASE_HI * 0x100000000

/-- Rings that an owner owns. -/
def State.ringsOf (s : State) (o : Nat) : List Nat := (upto 0 128).filter (fun r => s.ringOwner r == o)

/-- Ticks with a BLOCKED ring of a page are counted up to now (R402). (log 95, DEDUCED) -/
def State.ringSettle (s : State) (n : Nat) : State :=
  let p := pg 0x08 n
  let busy := (upto 0 16).any (fun i => s.get p (F.RING.RING_STATE_STATE.at i) == 2)
  let t := amGet (fun _ => 0) s.ringAt n
  let s := if busy then s.accrue p 3 (s.now - t) else s
  { s with ringAt := amSet (fun _ => 0) s.ringAt n s.now }

/-- A ring takes a state. -/
def State.setRingState (s : State) (r v : Nat) : State :=
  (s.ringSettle (r / 16)).ringPut r F.RING.RING_STATE_STATE v

/-- A ring enters ERROR (R410): it issues nothing more and drops what it holds, raises
`RING_DESCRIPTOR_ERROR` and writes a RING_ERROR record; `d` is the descriptor concerned. (log 24, DEDUCED) -/
def State.ringError (s : State) (r cause : Nat) (d : Desc) : State :=
  let p := ringPage r
  let s := (s.setRingState r 3).ringPut r F.RING.RING_STATE_CAUSE cause
  let s := s.setRing r { s.ring r with pre := [], starting := false }
  let s := ((s.stat p 1).intBit p (r % 16)).hit 18 (r * 256 + cause)
  s.jrecTo (s.ringOwner r) 0x0013 p s.now (jpay [(16, 1, r), (17, 1, cause),
    (18, 2, s.ringF r F.RING.RING_STATE_RD), (20, 8, d.toNat)])

/-- A ring that runs on an enabled page starts (R404). -/
def State.ringStart (s : State) (r : Nat) : State :=
  if s.ringState r = 0 then
    let s := (s.ringPut r F.RING.RING_STATE_RD 0).ringPut r F.RING.RING_WR 0
    let s := s.ringPut r F.RING.RING_STATE_CAUSE 0
    s.setRing r { s.ring r with pre := [], starting := true, stopping := false, loc := s.rd (ringPage r + 0x210) }
  else s

/-- A ring stops issue and drops what it holds; it is STOPPED once its issued descriptors have completed
(R405). -/
def State.ringStop (s : State) (r : Nat) : State :=
  if s.ringState r = 0 ∧ (s.ring r).starting = false then s
  else s.setRing r { s.ring r with pre := [], starting := false, stopping := true }

/-- What the entries of a `RING` page do after an apply (R402, R404, R405). -/
def State.ringApply (s : State) (base : Nat) : State :=
  forL (fun i s =>
    let r := 16 * pnoOf base + i
    if s.enabled base ∧ s.ringF r F.RING.RING_CFG_RUN = 1 then s.ringStart r else s.ringStop r) (upto 0 16) s

/-- A descriptor of a ring ends with a status (R406, R408); its completion is reported by
`DESCRIPTOR_COMPLETE`. (log 97, DEDUCED) -/
def State.descEnd (s : State) (r num status : Nat) : State :=
  let x := s.ring r
  s.setRing r { x with issued := x.issued.map (fun i =>
    if i.num = num ∧ i.fin.isNone then { i with fin := some (status, s.now) } else i) }

/-- The DESCRIPTOR record of a completed descriptor (R408). -/
def State.descRecord (s : State) (r : Nat) (i : Issued) (status tick : Nat) : State :=
  let n := i.d.toNat
  if bit n 8 then
    s.jrecTo (s.ringOwner r) 0x0012 (ringPage r) tick (jpay [(16, 1, r), (17, 1, bits n 7 0), (18, 1, status),
      (20, 4, bits n 63 32), (24, 8, if bit n 9 then i.tick else 0)])
  else s

/-- The oldest ended descriptor of a ring is reported and leaves the ring. (log 97, DEDUCED) -/
def State.descReport (s : State) (r : Nat) : State :=
  let x := s.ring r
  match x.issued.find? (fun i => i.fin.isSome) with
  | none => s
  | some i =>
    let s := s.setRing r { x with issued := x.issued.filter (fun k => k.num != i.num) }
    match i.fin with
    | some (st, t) => s.descRecord r i st t
    | none => s

/-! Fences -/

/-- The pages of the fences. -/
def fctlPage : Nat := pg 0x0A 0
def fevtPage : Nat := pg 0x0A 1

/-- A fence's value is written to its mirror, by the fence writer under the fence owner's tag (R411). -/
def State.fenceMirror (s : State) (f : Nat) : State :=
  let x := s.fence f
  if bit x.cfg.toNat 30 then
    match s.spWrite 0x03 (s.fenceOwner f) (bits x.cfg.toNat 29 28) x.mirror.toNat (natBytes 8 x.value.toNat) with
    | (s, true) => s
    | (s, false) => s.stat fctlPage 2
  else s

/-- Rings blocked on a wait for fence f that its value now satisfies may issue again (R411). -/
def State.ringWake (s : State) (f : Nat) : State :=
  forL (fun (e : Nat × RingSt) s =>
    match e.2.pre with
    | d :: _ =>
      if s.ringState e.1 = 2 ∧ bits d.toNat 7 0 = 4 ∧ bits d.toNat 79 64 = f
          ∧ bits d.toNat 191 128 ≤ (s.fence f).value.toNat then s.setRingState e.1 1 else s
    | [] => s) s.rings s

/-- A fence takes a value (R411). -/
def State.signal (s : State) (f v : Nat) : State :=
  let x := s.fence f
  let s := (s.stat fctlPage 0).setFence f { x with value := BitVec.ofNat 64 v }
  let s := if v < x.value.toNat then s.stat fctlPage 1 else s
  let a := fevtPage + 0x100 + 4 * (f / 32)
  let s := s.wr a (s.rd a ||| BitVec.ofNat 32 (1 <<< (f % 32)))
  let s := s.fenceMirror f
  let s := if bit x.cfg.toNat 31 then
      s.jrecTo (s.fenceOwner f) 0x0011 fctlPage s.now (jpay [(16, 2, f), (24, 8, v)])
    else s
  (s.fenceRelease f).ringWake f

/-- A commit of `FENCE.CONTROL` writes the entry `FENCE_SEL` (R412): a change of owner sets the value to 0 and
writes the mirror. -/
def State.fenceApply (s : State) : State :=
  let p := fctlPage
  let f := s.get p F.FCTL.FENCE_SEL
  let old := s.fence f
  let cfg := s.rd (p + 0x104)
  let s := s.setFence f ⟨cfg, BitVec.ofNat 64 (s.get64 p F.FCTL.MIRROR_LO), old.value⟩
  if bits cfg.toNat 11 0 ≠ bits old.cfg.toNat 11 0 then
    (s.setFence f { s.fence f with value := 0 }).fenceMirror f
  else s

end Sys2Proof.Machine
end

