-- ==== Sys2Proof/Machine/Base.lean ====
section
/-! DEFINITION. Operations that the pages' start and apply, and register reads, use: on-chip banks and buckets
(R365, R384, R388), the backup domain (R515, R516) and the collector's state word (R480). -/

namespace Sys2Proof.Machine

/-- `MEMINT.MODE`, `.SCRUB`. -/
def mmodePage : Nat := pg 0x31 0
def mscrubPage : Nat := pg 0x31 2

/-- The class S banks on the part (R365, R547). -/
def bankPresent (q : Config.Part) (b : Nat) : Bool :=
  decide (b < 16) || (decide (16 ≤ b) && decide (b < 40) && decide (b - 16 < q.cores))
    || (decide (40 ≤ b) && decide (b < 64) && decide (b - 40 < q.cores)) || (decide (64 ≤ b) && decide (b < 80))
    || (decide (80 ≤ b) && decide (b < 88) && decide (b - 80 < q.heads)) || b == 88 || b == 89
    || (decide (96 ≤ b) && decide (b ≤ 102))
def isClassS (b : Nat) : Bool := decide (b < 90)
def State.classS (s : State) : List Nat := (upto 0 90).filter (bankPresent s.part)

/-- The leaks of the buckets restart from tick t (R384); `clear` when a commit also empties them. -/
def State.bucketRestart (s : State) (t : Nat) : State :=
  forN (fun b s =>
    let s := s.put bucketPage (F.MBUCKET.LEVEL.at b) 0
    let next := t + 1024 * s.get bucketPage (F.MBUCKET.BUCKET_LEAK.at b)
    { s with leakAt := amSet (fun _ => 0) s.leakAt b next }) 10 s

/-- `MEM_STATE` of the selected bank, and `CONVERT_STATE` (R388). -/
def State.mmodeWord (s : State) (off : Nat) : Nat :=
  if off = 0xF00 then
    let b := s.get mmodePage F.MMODE.MEM_SEL
    let x := s.bank b
    let ph := if s.rst.bist ∧ isClassS b then 5 else x.phase
    if bankPresent s.part b then 0x80000000 + (ph <<< 28) + (b2n x.amode <<< 27) + x.ptr else 0
  else
    let cur := (s.classS.find? (fun b => (s.bank b).phase == 1 || (s.bank b).phase == 2)).getD 0
    (s.get mmodePage F.MMODE.CONVERT_STATE_DONE <<< 31) + cur

/-- The copy of a backup item that a read takes: the valid one with the newer generation (R515). -/
def BkItem.cur (i : BkItem) : Option BkCopy :=
  if i.c0.good ∧ i.c1.good then (if i.c1.gen - i.c0.gen = 1 then some i.c1 else some i.c0)
  else if i.c0.good then some i.c0
  else if i.c1.good then some i.c1
  else none

/-- Word n of a backup item; an item with no valid copy reads 0. -/
def BkItem.word (i : BkItem) (n : Nat) : Nat :=
  match i.cur with
  | some c => (c.val.getD n 0).toNat
  | none => 0

/-- A write of a backup item goes to the copy with the older generation, an invalid copy first (R515). -/
def BkItem.write (i : BkItem) (l : List Word) : BkItem :=
  match i.cur with
  | none => ⟨⟨true, 1, l⟩, i.c1⟩
  | some c => if c = i.c0 then { i with c1 := ⟨true, c.gen + 1, l⟩ } else { i with c0 := ⟨true, c.gen + 1, l⟩ }

/-- `DEV.BACKUP` registers (R516). -/
def State.backupWord (s : State) (off : Nat) : Nat :=
  let b := s.backup
  if off = 0xF00 then
    (b2n (b.count.cur.isSome && b.cause.cur.isSome && b.restarts.cur.isSome) <<< 31)
      + (b2n b.ff.cur.isSome <<< 30) + (b2n s.power.vbak <<< 29) + (b2n b.fromBackup <<< 28)
      + b.cause.word 0 % 1024
  else if off = 0xF04 then b.count.word 0
  else if off = 0xF08 then b.restarts.word 0
  else if off = 0xF7C then 0
  else b.ff.word ((off - 0xF40) / 4)

/-- The device drives `FAULT_N` low: a P reaction does, or a chip reset keeps it so (R473, R494). (log 263, DESIGN CHOICE) -/
def State.faultLow (s : State) : Bool :=
  s.flag (pg 0x03 0) F.FCOLL.COLL_STATE_PIN_DRIVEN || (match s.flt.lowTill with
    | some t => decide (s.now < t)
    | none => false)

/-- `COLL_STATE` (R480, R586). -/
def State.collState (s : State) : Nat :=
  let d := b2n s.faultLow
  let p := (s.flt.queues.map (fun e => e.2.length)).foldl (· + ·) 0
  (d <<< 31) + (b2n (d == 1 || s.flt.extLow) <<< 30) + (p <<< 16) + s.get (pg 0x03 0) F.FCOLL.COLL_STATE_NMI_OPEN

end Sys2Proof.Machine
end

