-- ==== Sys2Proof/Machine/View.lean ====
section
/-! DEFINITION. What a check examines: a candidate over the state that is armed or active (R90), and the
violations of R79's steps. -/

namespace Sys2Proof.Machine

/-- What a check sees: the state, the candidate, the page checked, whether the rest of the domain is taken
as armed (R90) or as active (R91), and whether it is an enable. -/
structure View where
  s : State
  cand : CfgImage
  base : Nat
  armed : Bool
  enable : Bool

/-- The image that a check takes a page's shadowed fields from. Every other domain counts at its armed or otherwise active configuration (R134). -/
def View.imageOf (v : View) (p : Nat) : Option CfgImage :=
  if v.cand.pages.contains p then some v.cand
  else if v.armed || domOf p != domOf v.base then v.s.armedFor p
  else none

/-- A register word as the check sees it: the shadow of the image for SC registers, RW registers of the
candidate as captured. -/
def View.word (v : View) (p : Nat) (x : Fld) : Word :=
  match v.imageOf p with
  | some i =>
    if x.acc = .sc then i.word v.s.die (p + x.off + 0x800)
    else if v.cand.pages.contains p then i.word v.s.die (p + x.off)
    else v.s.rd (p + x.off)
  | none => v.s.rd (p + x.off)

/-- A field as the check sees it. -/
def View.get (v : View) (p : Nat) (x : Fld) : Nat := x.get (v.word p x)

/-- A one-bit field as the check sees it. -/
def View.flag (v : View) (p : Nat) (x : Fld) : Bool := v.get p x != 0

/-- A 64-bit value as the check sees it. -/
def View.get64 (v : View) (p : Nat) (lo : Fld) : Nat :=
  (v.word p { lo with hi := 31, lo := 0 }).toNat
    + (v.word p { lo with off := lo.off + 4, hi := 31, lo := 0 }).toNat * 0x100000000

/-- A field of the page checked. -/
def View.f (v : View) (x : Fld) : Nat := v.get v.base x

/-- A one-bit field of the page checked. -/
def View.b (v : View) (x : Fld) : Bool := v.flag v.base x

/-- A 64-bit value of the page checked. -/
def View.f64 (v : View) (lo : Fld) : Nat := v.get64 v.base lo

/-- The owner of the page checked. -/
def View.owner (v : View) : Nat := v.s.owner v.base

/-- The candidate changes a field against the active register. -/
def View.changes (v : View) (x : Fld) : Bool := v.f x != v.s.get v.base x

/-- A violation found in a page: reason, offset of the active register, lowest bit, argument. -/
structure Viol where
  reason : Nat
  off : Nat
  bit : Nat
  arg : Nat
  deriving DecidableEq, Repr

/-- A condition that fails, with the field it names. -/
def failIf (c : Bool) (reason : Nat) (x : Fld) (arg : Nat := 0) : List Viol :=
  if c then [⟨reason, x.off, x.lo, arg⟩] else []

/-- A condition that fails and names no field. -/
def failArg (c : Bool) (reason : Nat) (arg : Nat := 0) : List Viol := if c then [⟨reason, 0, 0, arg⟩] else []

/-- The reason codes of R80. -/
def rNotOwner : Nat := 0x01
def rClock : Nat := 0x02
def rNotQuiesced : Nat := 0x03
def rRange : Nat := 0x04
def rAlign : Nat := 0x05
def rBuffer : Nat := 0x06
def rInUse : Nat := 0x07
def rBudget : Nat := 0x08
def rVersion : Nat := 0x09
def rDepend : Nat := 0x0A
def rFused : Nat := 0x0B
def rHold : Nat := 0x0C
def rTiming : Nat := 0x0D
def rNotIdle : Nat := 0x0E
def rMode : Nat := 0x0F
def rLocked : Nat := 0x10

/-- A field outside [lo, hi] (step 6 of R79). -/
def View.range (v : View) (x : Fld) (lo hi : Nat) : List Viol :=
  failIf (decide (v.f x < lo) || decide (hi < v.f x)) rRange x

/-- A field of each of the n instances of an indexed register outside [lo, hi]. -/
def View.rangeN (v : View) (x : Fld) (n lo hi : Nat) : List Viol :=
  (upto 0 n).flatMap (fun i => v.range (x.at i) lo hi)

/-- The violation at the lowest (offset, bit): the order of step 6 of R79.  Equal places keep their order. -/
def lowest : List Viol → Option Viol
  | [] => none
  | a :: t =>
    match lowest t with
    | none => some a
    | some b => if b.off < a.off ∨ (b.off = a.off ∧ b.bit < a.bit) then some b else some a

/-- The buffer [addr, addr + n) of a space is readable (or writable) for owner o by requester rid (R439). (log 107, DEDUCED) -/
def State.bufOk (s : State) (rid o : Nat) (pool : Bool) (addr n : Nat) (write : Bool) : Bool :=
  (s.wouldAllow ⟨rid, o, addr, n, write, pool, false⟩).isSome

/-- A defined owner ID of R75 that a page's `OWNER` may hold. -/
def ownerId (o : Nat) : Bool :=
  o == 0 || o == 1 || (decide (0x10 ≤ o) && decide (o < 0x20)) || (decide (0x100 ≤ o) && decide (o < 0x140))

end Sys2Proof.Machine
end

