-- ==== Sys2Proof/Machine/ChkA.lean ====
section
/-! DEFINITION. The block conditions of the checks of the device, clock, reset, fault, secure, management,
host, ring, tenancy and fence pages. -/

namespace Sys2Proof.Machine

/-- What a block adds to the steps of R79: the modes that permit it (step 2), and the violations of steps 3,
5, 6 and 7; those of step 6 in any order, those of the others in the order examined. -/
structure Chk where
  modes : List Mode
  s3 : List Viol
  s5 : List Viol
  s6 : List Viol
  s7 : List Viol

/-- Any mode: the chapter lists none. -/
def anyMode : List Mode := [.off, .backup, .load, .boot, .recovery, .run, .standby, .safe]
def mBR : List Mode := [.boot, .run]
def mBRS : List Mode := [.boot, .run, .standby]
def mBRSR : List Mode := [.boot, .run, .standby, .recovery]

/-- No condition beside the modes. -/
def chkNone (m : List Mode) : Chk := ⟨m, [], [], [], []⟩

/-- Conditions of step 6 only. -/
def chk6 (m : List Mode) (l : List Viol) : Chk := ⟨m, [], [], l, []⟩

/-- R39. -/
def chkRoot (v : View) : Chk := chk6 anyMode (v.range F.ROOT.MON_CFG 40 68)

/-- R581. -/
def chkMode (v : View) : Chk :=
  chk6 anyMode (v.range F.MODE.THERM_CFG_WARN_C 0 (v.f F.MODE.THERM_TRIP - 5) ++ v.range F.MODE.THERM_CFG_HYST_C 1 20)

/-- R59. -/
def chkPeriod (v : View) : Chk := chk6 anyMode (v.range F.PERIOD.ACCT_LEN 61440 614400000)

/-- R61, R62. -/
def chkBsync (v : View) : Chk :=
  let p := v.f F.BSYNC.OUT_PERIOD
  let w := v.f F.BSYNC.OUT_WIDTH
  ⟨anyMode, [], [],
    failIf (p != 0 && decide (p < 6144)) rRange F.BSYNC.OUT_PERIOD
      ++ failIf (w == 0 || (p != 0 && decide (p ≤ w))) rRange F.BSYNC.OUT_WIDTH,
    failIf (v.enable && v.b F.BSYNC.SYNC_CTRL_OUT_EN && p == 0 && decide (v.f64 F.BSYNC.OUT_FIRST_LO < v.s.now))
      rTiming F.BSYNC.OUT_FIRST_LO⟩

/-- R480. -/
def chkFcoll (v : View) : Chk := chk6 mBRSR (v.range F.FCOLL.BUS_TIMEOUT 1024 1048575)

/-- R476: the sources of a bank in ascending order. -/
def chkFbank (v : View) : Chk :=
  let first := (bits (v.s.rd v.base).toNat 15 8) * 48
  let cfg (j : Nat) : Nat := (v.word v.base (F.FBANK.SRC_CFG_INT.at j)).toNat % 256
  ⟨mBRSR, [], [],
    (upto 0 48).flatMap (fun j =>
      if (srcInfo (first + j)).isNone ∧ cfg j ≠ 0 then [⟨rRange, 0x100 + 4 * j, 0, first + j⟩] else []),
    (upto 0 48).flatMap (fun j =>
      match srcInfo (first + j) with
      | some i => if i.blk = .none ∧ bit (cfg j) 2 ∧ first + j ≠ 383 then [⟨0x40, 0x100 + 4 * j, 2, first + j⟩] else []
      | none => [])⟩

/-- The bytes of the ownership table. -/
def potBytes : Nat := 2100224

/-- Some entry covering a table at `b` is not the secure world's own: its index (R466). -/
def State.potUnsafe (s : State) (b : Nat) : Option Nat :=
  (upto (b / 65536) ((b + potBytes - 1) / 65536 + 1 - b / 65536)).find? (fun i =>
    let d := s.dramDec ((b + 4 * i) / 8)
    let e := if i % 2 = 0 then bits d.data 31 0 else bits d.data 63 32
    d.isBad || bits e 11 0 != 1 || bits e 15 12 != 3)

/-- R466. -/
def chkPot (v : View) : Chk :=
  let b := v.f64 F.POT.POT_BASE_LO % (1 <<< 40)
  let moves := v.enable || b != v.s.potBase
  let ready := v.s.dramReady
  ⟨mBRSR, [],
    failArg (moves && !ready) rDepend,
    failIf (b % 65536 != 0) rAlign F.POT.POT_BASE_LO
      ++ failIf (moves && decide (v.s.vBytes < b + potBytes)) rRange F.POT.POT_BASE_LO,
    if moves then
      match v.s.potUnsafe b with
      | some i => failArg true rBuffer i
      | none => []
    else []⟩

/-- The Cove of a state that freezes its ranges (R445). -/
def frozen (c : CoveState) : Bool := c == .sealed || c == .clearing

/-- R448: the ranges in ascending order, and for each the conditions of the table in their order. -/
def chkCove (v : View) : Chk :=
  let valid (r : Nat) : Bool := v.b (F.COVE.CRANGE_VALID.at r)
  let cove (r : Nat) : Nat := v.f (F.COVE.CRANGE_COVE.at r)
  let first (r : Nat) : Nat := v.f (F.COVE.CRANGE_FIRST.at r)
  let count (r : Nat) : Nat := v.f (F.COVE.CCOUNT.at r)
  let oldV (r : Nat) : Bool := v.s.flag v.base (F.COVE.CRANGE_VALID.at r)
  let oldC (r : Nat) : Nat := v.s.get v.base (F.COVE.CRANGE_COVE.at r)
  let chg (r : Nat) : Bool :=
    valid r != oldV r || cove r != oldC r || first r != v.s.get v.base (F.COVE.CRANGE_FIRST.at r)
      || count r != v.s.get v.base (F.COVE.CCOUNT.at r)
  let overlap (a b : Nat) : Bool :=
    decide (first a < first b + count b) && decide (first b < first a + count a)
  let t0 := v.s.potBase / 65536
  let t1 := (v.s.potBase + potBytes - 1) / 65536
  ⟨mBRSR, [], [], [],
    (upto 0 64).flatMap (fun r =>
      let added := valid r && chg r
      failIf (valid r && (count r == 0 || (decide (first r < 524288) && decide (524288 < first r + count r))
          || decide (525056 < first r + count r))) rRange (F.COVE.CRANGE_FIRST.at r) r
        ++ failIf ((oldV r && chg r && frozen (v.s.cove (oldC r))) || (added && frozen (v.s.cove (cove r)))) 0x41
          (F.COVE.CRANGE_VALID.at r) r
        ++ failIf (added && v.s.cove (cove r) == .free) rDepend (F.COVE.CRANGE_COVE.at r) r
        ++ failIf (valid r && (upto 0 64).any (fun q => q != r && valid q && overlap r q)) 0x40
          (F.COVE.CRANGE_FIRST.at r) r
        ++ failIf (valid r && decide (first r ≤ t1) && decide (t0 < first r + count r)) 0x42
          (F.COVE.CRANGE_FIRST.at r) r)⟩

/-- The physical addresses that a core may start at (R463, R464): the boot ROM, the SRAMs and DRAM. -/
def bootable (a : Nat) : Bool :=
  decide (a < 0x800000000)
    || (decide (0x1000000000 ≤ a) && decide (a < 0x1000010000))
    || (decide (0x1002000000 ≤ a) && decide (a < 0x1002180000))
    || (decide (0x1003000000 ≤ a) && decide (a < 0x1003060000))

/-- R463. -/
def chkCore (v : View) : Chk :=
  let a := v.f64 F.CORE.BOOT_ADDR_LO % (1 <<< 40)
  chk6 mBRSR (failIf (a % 4 != 0) rAlign F.CORE.BOOT_ADDR_LO ++ failIf (!bootable a) rRange F.CORE.BOOT_ADDR_LO)

/-- R401. -/
def chkHostp (v : View) : Chk := chk6 mBRSR (v.range F.HOSTP.CPL_TIMEOUT 30720 30720000)

/-- R401, R428. -/
def chkHfunc (v : View) : Chk :=
  let en (f : Nat) : Bool := v.b (F.HFUNC.FUNC_MAP_EN.at f)
  let tn (f : Nat) : Nat := v.f (F.HFUNC.FUNC_MAP_TENANCY.at f)
  let oen (f : Nat) : Bool := v.s.flag v.base (F.HFUNC.FUNC_MAP_EN.at f)
  let otn (f : Nat) : Nat := v.s.get v.base (F.HFUNC.FUNC_MAP_TENANCY.at f)
  let mgr (f : Nat) : Bool := f == 0 && v.s.flag (pg (domOf v.base) 0) F.HOSTP.PORT_INFO_MGR
  let fs := (upto 0 16).filter (fun f => !mgr f)
  ⟨mBRSR, [], [],
    fs.flatMap (fun f => failIf (en f && !(decide (0x11 ≤ tn f) && decide (tn f < 0x20))) rRange
      (F.HFUNC.FUNC_MAP_TENANCY.at f) f),
    fs.flatMap (fun f =>
      failIf (oen f && (en f != oen f || tn f != otn f) && !v.s.quiesced (otn f - 0x10)) rNotQuiesced
          (F.HFUNC.FUNC_MAP_TENANCY.at f) f
        ++ failIf (en f && (upto 0 16).any (fun g => g != f && en g && tn g == tn f)) rInUse
          (F.HFUNC.FUNC_MAP_TENANCY.at f) f)⟩

/-- `VER_LOCAL` of a negotiated interface: `MIN` > `MAX`, or a value above the highest supported, is
refused (R97). -/
def verBad (v : View) (min max feat : Fld) (hi feats : Nat) : List Viol :=
  failIf (v.f min == 0 || decide (v.f max < v.f min)) rRange min
    ++ failIf (decide (hi < v.f max)) rRange max
    ++ failIf (v.f feat &&& (0xFFFF ^^^ feats) != 0) rRange feat

/-- R403: the entries in ascending order, the conditions of the table for each. (log 265, DEDUCED) -/
def chkRing (v : View) : Chk :=
  let pn := pnoOf v.base
  let g (x : Fld) (i : Nat) : Nat := v.f (x.at i)
  let chg (x : Fld) (i : Nat) : Bool := g x i != v.s.get v.base (x.at i)
  let one (i : Nat) : List Viol :=
    let run := g F.RING.RING_CFG_RUN i == 1
    let o := g F.RING.RING_CFG_OWNER i
    let sp := g F.RING.RING_CFG_SPACE i
    let n := g F.RING.RING_CFG_SIZE_LOG2 i
    let base := g F.RING.RING_BASE_LO i * 4096 + g F.RING.RING_BASE_HI i * 0x100000000
    failIf (run && (!isTen o)) rRange (F.RING.RING_CFG_OWNER.at i) i
      ++ failIf (run && (decide (n < 4) || decide (12 < n))) rRange (F.RING.RING_CFG_SIZE_LOG2.at i) i
      ++ failIf (decide (sp < 2) && decide (255 < g F.RING.RING_BASE_HI i)) rRange (F.RING.RING_BASE_HI.at i) i
      ++ failIf (v.s.spaceFused sp) rFused (F.RING.RING_CFG_SPACE.at i) i
      ++ failIf (v.s.ringState (16 * pn + i) != 0 && (chg F.RING.RING_CFG_SPACE i || chg F.RING.RING_CFG_SIZE_LOG2 i
          || chg F.RING.RING_BASE_LO i || chg F.RING.RING_BASE_HI i || chg F.RING.RING_CFG_OWNER i)) rInUse
          (F.RING.RING_CFG_OWNER.at i) i
      ++ failIf (run && (!v.s.enabled (tenPage (o - 0x10)) || !v.s.spaceReach o sp)) rDepend (F.RING.RING_CFG_RUN.at i) i
      ++ failIf (run && decide (sp < 2) && !v.s.bufOk 0x02 o (sp == 1) base (64 + (64 <<< n)) false) rBuffer
          (F.RING.RING_BASE_LO.at i) i
  ⟨mBRS, [], [], verBad v F.RING.VER_LOCAL_MIN F.RING.VER_LOCAL_MAX F.RING.VER_LOCAL_FEATURES 2 1,
    (upto 0 16).flatMap one⟩

/-- R417, R422. (log 265, DEDUCED) -/
def chkTen (v : View) : Chk :=
  let t := pnoOf v.base
  let o := 0x10 + t
  let sp := v.f F.TEN.J_CFG_J_SPACE
  let n := v.f F.TEN.J_CFG_J_SIZE_LOG2
  let base := v.f64 F.TEN.J_BASE_LO
  let jen := v.b F.TEN.J_CFG_J_EN
  ⟨mBRS,
    failIf (v.s.spaceFused sp) rFused F.TEN.J_CFG_J_SPACE
      ++ failIf (decide (v.s.part.hostPorts ≤ v.f F.TEN.J_IRQ_J_PORT)) rFused F.TEN.J_IRQ_J_PORT,
    [],
    v.range F.TEN.SHADER_SHARE 0 1024 ++ v.range F.TEN.QUIESCE_TIMEOUT 1024 614400000
      ++ failIf (decide (n < 6) || decide (15 < n)) rRange F.TEN.J_CFG_J_SIZE_LOG2
      ++ failIf (base % 64 != 0) rAlign F.TEN.J_BASE_LO,
    failIf (v.b F.TEN.J_IRQ_J_IRQ_EN && v.s.fnOf (v.f F.TEN.J_IRQ_J_PORT) t != some (v.f F.TEN.J_IRQ_J_FUNCTION))
        rNotOwner F.TEN.J_IRQ_J_FUNCTION
      ++ failIf (jen && decide (sp < 2) && !v.s.bufOk 0x03 o (sp == 1) base (64 + (32 <<< n)) true) rBuffer
        F.TEN.J_BASE_LO⟩

/-- A ring waits on a fence: it is BLOCKED and its next descriptor is a FENCE_WAIT that names it. -/
def State.ringWaitsOn (s : State) (f : Nat) : Bool :=
  s.rings.any (fun e => match e.2.pre with
    | d :: _ => s.ringState e.1 == 2 && bits d.toNat 7 0 == 4 && bits d.toNat 79 64 == f
    | [] => false)

/-- A commit waits on a fence. -/
def State.commitWaitsOn (s : State) (f : Nat) : Bool :=
  s.pages.any (fun e => e.2.wait.isSome && s.fenceSel e.1 == f)

/-- R412; `jobs` tells whether an unended job names a fence. -/
def chkFence (v : View) (jobs : Nat → Bool) : Chk :=
  let i := v.f F.FCTL.FENCE_SEL
  let o := v.f F.FCTL.FENCE_CFG_OWNER
  let w := v.f F.FCTL.FENCE_CFG_WAIT_SHARE
  let sp := v.f F.FCTL.FENCE_CFG_MSPACE
  let m := v.b F.FCTL.FENCE_CFG_MIRROR
  let a := v.f64 F.FCTL.MIRROR_LO
  let old := v.s.fenceOwner i
  ⟨mBRS,
    failIf (v.s.spaceFused sp) rFused F.FCTL.FENCE_CFG_MSPACE,
    failArg (m && decide (2 ≤ sp) && !v.s.spaceReach o sp) rDepend i,
    failIf (w != 0 && !isTen w) rRange F.FCTL.FENCE_CFG_WAIT_SHARE
      ++ failIf (!(o == 0 || o == 1 || isTen o)) rRange F.FCTL.FENCE_CFG_OWNER
      ++ failIf (a % 8 != 0) rAlign F.FCTL.MIRROR_LO,
    failArg (o != old && (v.s.ringWaitsOn i || v.s.commitWaitsOn i || jobs i)) rInUse i
      ++ failIf (m && decide (sp < 2) && !v.s.bufOk 0x03 o (sp == 1) (a % (1 <<< 40)) 8 true) rBuffer
        F.FCTL.MIRROR_LO⟩

/-- R509: the option records' `VER_LOCAL`. -/
def chkOtp (v : View) : Chk :=
  chk6 anyMode (verBad v F.OTP.VER_LOCAL_MIN F.OTP.VER_LOCAL_MAX F.OTP.VER_LOCAL_FEATURES 1 0)

/-- R389: the buckets of present channels. -/
def chkMbucket (v : View) : Chk :=
  let bs := (upto 0 10).filter (fun b => decide (b < 2) || decide (b - 2 < v.s.part.dramCh))
  chk6 mBRSR (bs.flatMap (fun b =>
    failIf (v.f (F.MBUCKET.BUCKET_CFG_WEIGHT.at b) == 0) rRange (F.MBUCKET.BUCKET_CFG_WEIGHT.at b)
      ++ failIf (v.f (F.MBUCKET.BUCKET_CFG_LIMIT.at b) == 0) rRange (F.MBUCKET.BUCKET_CFG_LIMIT.at b)
      ++ failIf (v.f (F.MBUCKET.BUCKET_LEAK.at b) == 0) rRange (F.MBUCKET.BUCKET_LEAK.at b)))

/-- R390. -/
def chkMscrub (v : View) : Chk :=
  chk6 mBRSR (v.range F.MSCRUB.AUDIT_CFG_AUDIT_PERIOD 6000 0xFFFFFF
    ++ v.range F.MSCRUB.K_SCRUB_CFG_K_SCRUB_STEP 4 65535
    ++ v.range F.MSCRUB.SCRUB_CFG_SCRUB_STEP 64 1048575)

end Sys2Proof.Machine
end

