-- ==== Sys2Proof/Machine/CvuBase.lean ====
section
/-! DEFINITION. The general check-value units and the configuration of every unit (R173–R185). -/

namespace Sys2Proof.Machine

/-! Configuration -/

/-- The page of unit n. -/
def cvuPage (n : Nat) : Nat := pg 0x1B n

/-- The configuration of R173 at a page, for the fields of one instance: `CV_CFG` and the pairs follow each other
at fixed offsets from `off`. -/
def State.cvCfg (s : State) (a : Nat) : CrcCfg :=
  let w := (s.rd a).toNat
  let two (o : Nat) : Nat := (s.rd (a + o)).toNat + (s.rd (a + o + 4)).toNat * 0x100000000
  ⟨bits w 30 24, two 0x04, two 0x0C, two 0x14, bit w 23, bit w 22⟩

/-- `EXPECT`, `FOLD_EN` and `COMPARE` of the same configuration. -/
def State.cvExpect (s : State) (a : Nat) : Nat := (s.rd (a + 0x1C)).toNat + (s.rd (a + 0x20)).toNat * 0x100000000
def State.cvFold (s : State) (a : Nat) : Bool := bit (s.rd a).toNat 21
def State.cvCompare (s : State) (a : Nat) : Bool := bit (s.rd a).toNat 20

/-- A pair register with a bit at position w or above (R174). -/
def cvHigh (v : View) (w : Nat) (lo hi : Fld) : List Viol :=
  failIf (decide (w < 32) && decide (1 <<< w ≤ v.f lo)) rRange lo
    ++ failIf (if w < 32 then v.f hi != 0 else decide (1 <<< (w - 32) ≤ v.f hi)) rRange hi

/-- R174 for one unit, given its `WIDTH` and pair registers. -/
def cvViol (v : View) (width poly polyHi init initHi xout xoutHi exp expHi : Fld) : List Viol :=
  let w := v.f width
  if w < 8 ∨ 64 < w then failIf true rRange width
  else
    failIf (v.f poly % 2 == 0) rRange poly ++ cvHigh v w poly polyHi ++ cvHigh v w init initHi
      ++ cvHigh v w xout xoutHi ++ cvHigh v w exp expHi

/-- A unit beside its registers. -/
def State.cvu (s : State) (n : Nat) : CvuSt := amGet (fun _ => CvuSt.idle) s.cvus n
def State.setCvu (s : State) (n : Nat) (x : CvuSt) : State :=
  { s with cvus := amSet (fun _ => CvuSt.idle) s.cvus n x }

/-- R182–R185: the check of a unit page. -/
def chkCvu (v : View) : Chk :=
  let src := v.f F.CVU.SRC_CFG_SOURCE
  let e := v.f F.CVU.SRC_CFG_ENGINE
  ⟨mBRS, [], [],
    cvViol v F.CVU.CV_CFG_WIDTH F.CVU.POLY_LO F.CVU.POLY_HI F.CVU.INIT_LO F.CVU.INIT_HI F.CVU.XOROUT_LO
        F.CVU.XOROUT_HI F.CVU.EXPECT_LO F.CVU.EXPECT_HI
      ++ failIf (src == 3) rRange F.CVU.SRC_CFG_SOURCE
      ++ failIf ((src == 0 && decide (3 < e)) || (src == 1 && decide (1 < e))) rRange F.CVU.SRC_CFG_ENGINE,
    failIf (src == 1 && decide (v.s.owner (pg 0x19 e) ≠ v.owner)) rNotOwner F.CVU.SRC_CFG_ENGINE e
      ++ failArg (!v.enable && (v.s.cvu (pnoOf v.base)).isOpen) rInUse⟩

/-! Streams -/

/-- Bytes into a unit's register. -/
def State.cvuBytes (s : State) (n : Nat) (l : List Nat) : State :=
  let x := s.cvu n
  s.setCvu n { x with reg := crcBytes (s.cvCfg (cvuPage n + 0x100)) l x.reg }

/-- A stream opens (R173, R183). -/
def State.cvuOpen (s : State) (n : Nat) : State :=
  (s.setCvu n ⟨true, (s.cvCfg (cvuPage n + 0x100)).init, none⟩).put (cvuPage n) F.HDR.STATUS_IDLE 0

/-- A stream ends without a result (R185). -/
def State.cvuAbort (s : State) (n : Nat) : State :=
  if (s.cvu n).isOpen then
    let p := cvuPage n
    let s := (s.setCvu n CvuSt.idle).put p F.HDR.STATUS_IDLE 1
    ((s.put p F.CVU.RESULT_STATE_ABORTED 1).stat p 2).intBit p 2
  else s

/-- A stream finishes (R184). (log 113, DEDUCED) -/
def State.cvuFinish (s : State) (n : Nat) : State :=
  if (s.cvu n).isOpen then
    let p := cvuPage n
    let k := s.cvCfg (p + 0x100)
    let res := crcFinish k (s.cvu n).reg
    let bad := s.cvCompare (p + 0x100) && res != s.cvExpect (p + 0x100)
    let s := (s.setCvu n CvuSt.idle).put p F.HDR.STATUS_IDLE 1
    let s := (s.put64 p F.CVU.RESULT_LO res).put64 p F.CVU.RESULT_TS_LO s.now
    let s := ((s.put p F.CVU.RESULT_STATE_DONE 1).put p F.CVU.RESULT_STATE_ABORTED 0).put p F.CVU.RESULT_STATE_MISMATCH
      (b2n bad)
    let s := (s.stat p 0).intSet p (1 + 2 * b2n bad)
    if bad then
      ((s.stat p 1).hit (122 + n) (s.get p F.CVU.SRC_CFG_SOURCE)).jrecOwn 0x0006 p s.now
        (jpay [(16, 8, res), (24, 1, n), (25, 1, s.get p F.CVU.SRC_CFG_SOURCE)])
    else s
  else s

/-- The fold word of a 64-byte block (R175). -/
def foldBlock (tag space b : Nat) : List Nat :=
  (upto 0 5).map (fun i => (64 * b) % 0x10000000000 / 2 ^ (8 * i) % 256) ++ [space % 256, tag % 256, tag / 256 % 256]

/-- Bytes of a copy or writeback stream at ascending addresses (R175, R183): the fold word before the first byte
in each block. -/
def State.cvuAt (s : State) (n space : Nat) : Nat → List Byte → State
  | _, [] => s
  | a, b :: t =>
    let x := s.cvu n
    let p := cvuPage n
    let k := s.cvCfg (p + 0x100)
    let fold := s.cvFold (p + 0x100) && x.blk != some (space, a / 64)
    let r := if fold then crcBytes k (foldBlock (s.get p F.CVU.FOLD_TAG) space (a / 64)) x.reg else x.reg
    (s.setCvu n ⟨true, crcByte k r b.toNat, some (space, a / 64)⟩).cvuAt n space (a + 1) t

/-- A stream's bytes with their count in the statistics. (log 113, DEDUCED) -/
def State.cvuStream (s : State) (n space a : Nat) (l : List Byte) : State :=
  if (s.cvu n).isOpen then (s.cvuAt n space a l).stat64 (cvuPage n) 4 l.length else s

/-- Unit n observes copy engine e, or writeback engine e (R183). -/
def State.cvuTaps (s : State) (n source e : Nat) : Bool :=
  s.enabled (cvuPage n) && s.get (cvuPage n) F.CVU.SRC_CFG_SOURCE == source && s.get (cvuPage n) F.CVU.SRC_CFG_ENGINE == e

/-- The units that observe writeback engine e. -/
def State.cvuOnWb (s : State) (e : Nat) : List Nat := (upto 0 16).filter (fun n => s.cvuTaps n 1 e)

/-! Fed streams -/

/-- A fed stream is open. -/
def State.cvuFed (s : State) (n : Nat) : Bool := (s.cvu n).isOpen && s.get (cvuPage n) F.CVU.SRC_CFG_SOURCE == 2

/-- `FEED_CTRL.START` (R183, R185). (log 237, DESIGN CHOICE) -/
def State.feedStart (s : State) (n : Nat) : State :=
  if s.enabled (cvuPage n) ∧ s.get (cvuPage n) F.CVU.SRC_CFG_SOURCE = 2 then
    let s := (s.cvuAbort n).cvuOpen n
    if s.cvFold (cvuPage n + 0x100) then
      let q := s.get (cvuPage n) F.CVU.FEED_SEQ
      s.cvuBytes n [q % 256, q / 256]
    else s
  else s

/-- `FEED_DATA` (R182, R185). (log 32, DEDUCED) -/
def State.feedData (s : State) (r : Req) (n : Nat) (v : Word) : State :=
  if s.cvuFed n then
    let c := s.get (cvuPage n) F.CVU.FEED_CTRL_BYTES + 1
    (s.cvuBytes n ((natBytes c v.toNat).map (·.toNat))).stat64 (cvuPage n) 4 c
  else s.stray r (cvuPage n + 0x134) true

/-- `FEED_CTRL.END` (R184, R185). -/
def State.feedEnd (s : State) (r : Req) (n : Nat) : State :=
  if s.cvuFed n then (s.cvuFinish n).inc (cvuPage n) F.CVU.FEED_SEQ
  else s.stray r (cvuPage n + 0x138) true

/-- `CVU` page n. -/
def cvuReg (off n : Nat) (r : Req) (v : Word) (s : State) : Option State :=
  if off = 0x134 then some (s.feedData r n v)
  else if off = 0x138 then
    let s := s.put (cvuPage n) F.CVU.FEED_CTRL_BYTES (bits v.toNat 3 2)
    let s := if bit v.toNat 0 then s.feedStart n else s
    some (if bit v.toNat 1 then s.feedEnd r n else s)
  else none

end Sys2Proof.Machine
end

