-- ==== Sys2Proof/Machine/GfxBase.lean ====
section
/-! DEFINITION. Rasters' future slack points (R140), the L2 (R206–R209), and the render engine's accounting
(R215, R218, R228). -/

namespace Sys2Proof.Machine

/-! Rasters -/

/-- The first slack point of head h after tick t, as its raster stands, and how many slack points after the last
one it is. -/
def State.nextSlackN (s : State) (h t : Nat) : Nat × Nat :=
  let p := headPage h
  let r := s.raster h
  let n := s.hTotal h * s.vTotal h
  let num := max 1 (s.get p F.HEAD.RATE_NUM)
  let den := s.get p F.HEAD.RATE_DEN
  let y := (t - r.org) * num + r.frac - den
  let k := max 1 (y / max 1 (n * den) + 1)
  (s.slotTick h (k * n), k)
def State.nextSlack (s : State) (h t : Nat) : Nat := (s.nextSlackN h t).1

/-! The render engine's parts -/

/-- The pages of the render domains. -/
def fePage : Nat := pg 0x20 0
def schedPage : Nat := pg 0x20 1
def tilerPage : Nat := pg 0x20 2
def l2Page : Nat := pg 0x20 3
def sigPage : Nat := pg 0x20 5
def countPage : Nat := pg 0x20 6
def sstatPage : Nat := pg 0x20 7
def gcorePage (c : Nat) : Nat := if c < 16 then pg 0x21 c else pg 0x22 (c - 16)

/-- A shader core. -/
def State.gcore (s : State) (c : Nat) : GCoreSt := amGet (fun _ => GCoreSt.idle) s.gfx.cores c
def State.setGcore (s : State) (c : Nat) (x : GCoreSt) : State :=
  { s with gfx := { s.gfx with cores := amSet (fun _ => GCoreSt.idle) s.gfx.cores c x } }

/-- A job by number, and the state with it changed. -/
def State.job (s : State) (id : Nat) : Option Job := s.gfx.jobs.find? (fun j => j.id == id)
def State.modJob (s : State) (id : Nat) (f : Job → Job) : State :=
  { s with gfx := { s.gfx with jobs := s.gfx.jobs.map (fun j => if j.id = id then f j else j) } }

/-- The service class of a request that a job causes (R346). -/
def State.jobCls (s : State) (id : Nat) : Nat :=
  match s.job id with
  | some j => if j.cls = 0 then 1 else 2
  | none => 2

/-- The first status of a job's run is recorded; a later one counts in `GFX.FE` (R189, R211). -/
def State.jobStatus (s : State) (id st : Nat) : State :=
  match s.job id with
  | some j => if j.status = 0 then s.modJob id (fun j => { j with status := st }) else s.stat fePage 3
  | none => s

/-- A request of a job received a bus error (R212). -/
def State.jobBusError (s : State) (id addr : Nat) : State :=
  match s.job id with
  | some j =>
    let s := if j.berr then s else (s.put64 fePage F.GFE.FE_ERR_ADDR_LO addr).modJob id (fun j => { j with berr := true })
    s.jobStatus id 0x54
  | none => s

/-- Bytes i … i + n − 1 of a little-endian descriptor. -/
def byteF (d i n : Nat) : Nat := bits d (8 * (i + n) - 1) (8 * i)

/-! The L2 -/

/-- The set of a line (R206): address bits 18:6. -/
def l2Set (line : Nat) : Nat := line % 8192

/-- The state with other L2 lines. -/
def State.setL2 (s : State) (l : List L2Line) : State := { s with gfx := { s.gfx with l2 := l } }

/-- A dirty line goes to DRAM, by the L2 writeback engine under the line's tag. -/
def State.l2Store (s : State) (x : L2Line) (cls : Nat) : State × Bool :=
  s.mwriteC ⟨0x5A, x.tag, 64 * x.line, 64, true, false, false⟩ cls (natBytes 64 x.data.toNat)

/-- Lines that satisfy p are written back when dirty, and dropped when `inv`; addresses of failed writes. -/
def State.l2Clean (s : State) (p : L2Line → Bool) (inv : Bool) (cls : Nat := 2) : State × List Nat :=
  let l := s.gfx.l2
  let keep := if inv then l.filter (fun x => !p x) else l.map (fun x => if p x then { x with dirty := false } else x)
  (l.filter (fun x => p x && x.dirty)).foldl (fun (a : State × List Nat) x =>
    match a.1.l2Store x cls with
    | (s, true) => (s, a.2)
    | (s, false) => (s, a.2 ++ [64 * x.line])) (s.setL2 keep, [])

/-- The ways of a mask. -/
def waysOf (mask : Nat) : List Nat := (upto 0 16).filter (fun w => bit mask w)

/-- A line is allocated in the ways of a mask: an empty way first, else the least recently used line of those
ways is replaced, a dirty one after its writeback (R207). A writeback that fails is a bus error of a job of the line's tenancy (R212). -/
def State.l2Alloc (s : State) (mask line tag : Nat) (dirty : Bool) (data : BitVec 512) (cls : Nat) : State :=
  let ws := waysOf mask
  let here := s.gfx.l2.filter (fun x => l2Set x.line == l2Set line && ws.contains x.way)
  let new (w : Nat) : L2Line := ⟨line, tag, w, dirty, data, s.gfx.use⟩
  match ws.find? (fun w => !here.any (fun x => x.way == w)) with
  | some w => { s with gfx := { s.gfx with l2 := s.gfx.l2 ++ [new w], use := s.gfx.use + 1 } }
  | none =>
    match here.foldl (fun (m : Option L2Line) x =>
        match m with
        | some y => if x.use < y.use then some x else m
        | none => some x) none with
    | none => s
    | some v =>
      let r := s.l2Clean (fun x => x == v) true cls
      let s := match r.2, r.1.gfx.jobs.find? (fun j => j.tag == v.tag && j.phase == .ready) with
        | a :: _, some j => r.1.jobBusError j.id a
        | _, _ => r.1
      { s with gfx := { s.gfx with l2 := s.gfx.l2 ++ [new v.way], use := s.gfx.use + 1 } }

/-- The line that a tenancy's request hits (R206). (log 28, DEDUCED) -/
def State.l2Find (s : State) (line tag : Nat) : Option L2Line :=
  s.gfx.l2.find? (fun x => x.line == line && x.tag == tag)

/-- A request of a tenancy without ways bypasses the L2 (R207): a line of the address that it still holds is written back
and leaves. -/
def State.l2Bypass (s : State) (line tag cls : Nat) : State :=
  (s.l2Clean (fun x => x.line == line && x.tag == tag) true cls).1

/-- A line's data for a read by a tenancy's request: a hit, or a miss that allocates (R206, R207). (log 28, DEDUCED) -/
def State.l2Line (s : State) (rid tag mask line cls : Nat) : State × Option (BitVec 512) :=
  let mem (s : State) : State × Option (BitVec 512) :=
    match s.mreadC ⟨rid, tag, 64 * line, 64, false, false, false⟩ cls with
    | (s, none) => (s, none)
    | (s, some (d, _)) => (s, some (BitVec.ofNat 512 (bytesNat d)))
  if mask = 0 then mem (s.l2Bypass line tag cls)
  else match s.l2Find line tag with
  | none =>
    match mem (s.stat l2Page 1) with
    | (s, none) => (s, none)
    | (s, some v) => (s.l2Alloc mask line tag false v cls, some v)
  | some x =>
    let l := s.gfx.l2.map (fun y => if y = x then { y with use := s.gfx.use } else y)
    ({ s with gfx := { s.gfx with l2 := l, use := s.gfx.use + 1 } }.stat l2Page 0, some x.data)

/-- A read of n bytes by a job's request: DRAM through the L2, the Tidepool directly (R199, R206).  A bus error
reads 0 and is noted on the job (R212). (log 28, DEDUCED) -/
def State.gread (s : State) (job rid tag mask : Nat) (pool : Bool) : Nat → Nat → Nat → State × Bool × List Byte
  | 0, _, _ => (s, true, [])
  | fuel + 1, a, n =>
    if n = 0 then (s, true, [])
    else
      let k := min n (64 - a % 64)
      let r : State × Option (List Byte) :=
        if pool then
          let x := s.mread ⟨rid, tag, a, k, false, true, false⟩
          (x.1, x.2.map (·.1))
        else
          let x := s.l2Line rid tag mask (a / 64) (s.jobCls job)
          (x.1, x.2.map (fun v => natBytes k (v.toNat >>> (8 * (a % 64)))))
      let t := match r with
        | (s, some d) => (s, true, d)
        | (s, none) => (s.jobBusError job a, false, natBytes k 0)
      let q := t.1.gread job rid tag mask pool fuel (a + k) (n - k)
      (q.1, t.2.1 && q.2.1, t.2.2 ++ q.2.2)

/-- The value of n bytes, read as above. -/
def State.greadN (s : State) (job rid tag mask : Nat) (pool : Bool) (a n : Nat) : State × Bool × Nat :=
  let r := s.gread job rid tag mask pool (n / 64 + 2) a n
  (r.1, r.2.1, bytesNat r.2.2)

/-- Bytes into one L2 line (R206): lines of the address under other tags are invalidated, and a miss allocates. -/
def State.l2Write (s : State) (job rid tag mask line off : Nat) (d : List Byte) : State :=
  let s := s.setL2 (s.gfx.l2.filter (fun x => !(x.line == line && x.tag != tag)))
  let n := d.length
  let put (v : BitVec 512) : BitVec 512 :=
    let m := ((1 <<< (8 * n)) - 1) <<< (8 * off)
    BitVec.ofNat 512 ((v.toNat &&& (((1 <<< 512) - 1) ^^^ m)) ||| (bytesNat d <<< (8 * off)))
  let cls := s.jobCls job
  let s := if mask = 0 then s.l2Bypass line tag cls else s
  match s.l2Find line tag with
  | some x =>
    let l := s.gfx.l2.map (fun y => if y = x then { y with data := put y.data, dirty := true, use := s.gfx.use } else y)
    { s with gfx := { s.gfx with l2 := l, use := s.gfx.use + 1 } }.stat l2Page 0
  | none =>
    if mask = 0 then
      match s.mwriteC ⟨rid, tag, 64 * line + off, n, true, false, false⟩ cls d with
      | (s, true) => s
      | (s, false) => s.jobBusError job (64 * line + off)
    else if n = 64 then (s.stat l2Page 1).l2Alloc mask line tag true (put 0) cls
    else
      match s.mreadC ⟨rid, tag, 64 * line, 64, false, false, false⟩ cls with
      | (s, some (o, _)) => (s.stat l2Page 1).l2Alloc mask line tag true (put (BitVec.ofNat 512 (bytesNat o))) cls
      | (s, none) => (s.stat l2Page 1).jobBusError job (64 * line + off)

/-- A write of bytes by a job's request. -/
def State.gwrite (s : State) (job rid tag mask : Nat) (pool : Bool) : Nat → Nat → List Byte → State
  | 0, _, _ => s
  | fuel + 1, a, d =>
    match d with
    | [] => s
    | _ =>
      let k := 64 - a % 64
      let part := d.take k
      let s :=
        if pool then
          match s.mwrite ⟨rid, tag, a, part.length, true, true, false⟩ part with
          | (s, true) => s
          | (s, false) => s.jobBusError job a
        else s.l2Write job rid tag mask (a / 64) (a % 64) part
      s.gwrite job rid tag mask pool fuel (a + k) (d.drop k)

/-- The lines of a tenancy are written back (R209) and, for `inv`, dropped; a failed write is noted on the job. -/
def State.l2Tag (s : State) (job tag : Nat) (inv : Bool) : State :=
  let r := s.l2Clean (fun x => x.tag == tag) inv (s.jobCls job)
  match r.2 with
  | [] => r.1
  | a :: _ => r.1.jobBusError job a

/-- The ways in force for an owner tag. -/
def State.waysNow (s : State) (tag : Nat) : Nat := s.get l2Page (F.GL2.WAYMASK.at (tag - 0x10))

/-- Once no job of the tenancy runs under an old mask, its lines in the ways that its mask has lost are written back and
leave the L2 (R208). -/
def State.maskEnd (s : State) (tag : Nat) : State :=
  if s.gfx.jobs.any (fun k => k.tag == tag && k.phase == .ready && k.ways != s.waysNow tag) then s
  else
    let gone := amGet (fun _ => 0) s.gfx.gone tag
    let s := (s.l2Clean (fun x => x.tag == tag && bit gone x.way) true).1
    { s with gfx := { s.gfx with gone := amDrop (· == tag) s.gfx.gone } }

/-- New masks apply (R208): the ways that each tenancy loses. -/
def State.maskApply (s old : State) : State :=
  forN (fun t s =>
    let tag := 0x10 + t
    let gone := (amGet (fun _ => 0) s.gfx.gone tag ||| old.waysNow tag) &&& (0xFFFF ^^^ s.waysNow tag)
    { s with gfx := { s.gfx with gone := amSet (fun _ => 0) s.gfx.gone tag gone } }.maskEnd tag) 16 s

/-! Accounting -/

/-- The present cores of the part. -/
def State.gcores (s : State) : Nat := s.part.cores

/-- budget_t of R215. -/
def State.budget (s : State) (t : Nat) : Nat :=
  (s.share t F.TEN.SHADER_SHARE * s.gcores * s.get (pg 0x01 3) F.PERIOD.ACCT_LEN) >>> 10

/-- The core-ticks of one core since it was last credited go to its tenancy, its job and the statistics (R215,
R228). -/
def State.gcredit (s : State) (c : Nat) : State :=
  let x := s.gcore c
  match x.unit with
  | none => s
  | some (id, _) =>
    match s.job id with
    | none => s
    | some j =>
      let dt := s.now - x.since
      let t := j.tag - 0x10
      let r := ctrGet s.gfx.rem64 t + dt
      let g := { s.gfx with
        used := amSet (fun _ => 0) s.gfx.used t (ctrGet s.gfx.used t + dt)
        rem64 := amSet (fun _ => 0) s.gfx.rem64 t (r % 64) }
      let s := ({ s with gfx := g }.setGcore c { x with since := s.now }).modJob id (fun j => { j with held := j.held + dt })
      ((s.accrue64 schedPage (8 + 2 * j.cls) dt).accrue sstatPage t (r / 64)).accrue (gcorePage c) 1 dt

/-- Every core is credited up to now. -/
def State.gsettle (s : State) : State := forN (fun c s => s.gcredit c) 24 s

/-- used_t now. -/
def State.usedT (s : State) (t : Nat) : Nat := ctrGet s.gfx.used t

/-- An accounting period begins: used_t returns to 0 (R215). -/
def State.gfxPeriod (s : State) : State :=
  let s := s.gsettle
  { s with gfx := { s.gfx with used := [] } }

/-- `STATUS.IDLE` of the front end (R26, R68): no job is held. -/
def State.gfxIdle (s : State) : State := s.put fePage F.HDR.STATUS_IDLE (b2n s.gfx.jobs.isEmpty)

/-- A core is left by its unit. -/
def State.gcoreFree (s : State) (c : Nat) : State :=
  let x := s.gcore c
  let s := s.gcredit c
  let s := match x.preempt with
    | some q =>
      let lat := s.now - q
      if s.get schedPage F.GSCHED.PREEMPT_MAX < lat then s.put schedPage F.GSCHED.PREEMPT_MAX lat else s
    | none => s
  (s.setGcore c GCoreSt.idle).put (gcorePage c) F.HDR.STATUS_IDLE 1

/-! Cost history -/

/-- The entries of tenancy t leave the history (R218). -/
def State.costFlush (s : State) (t : Nat) : State :=
  { s with gfx := { s.gfx with cost := s.gfx.cost.filter (fun e => e.tag != 0x10 + t) } }

/-- predict(job) of R218. -/
def State.predict (s : State) (j : Job) : Nat :=
  match s.gfx.cost.find? (fun e => e.tag == j.tag && e.key == byteF j.d.toNat 4 4 && byteF j.d.toNat 4 4 != 0) with
  | some e => e.e + s.get schedPage F.GSCHED.SCHED_CFG_K * e.v
  | none => s.get schedPage F.GSCHED.DEFAULT_COST

/-- A prediction uses its entry: it is the most recently used one (R218). -/
def State.costTouch (s : State) (j : Job) : State :=
  let mine (e : CostEnt) : Bool := e.tag == j.tag && e.key == byteF j.d.toNat 4 4
  { s with gfx := { s.gfx with cost := s.gfx.cost.filter mine ++ s.gfx.cost.filter (fun e => !mine e) } }

/-- The update of R218 at the end of an accepted job. -/
def State.costUpdate (s : State) (j : Job) : State :=
  let key := byteF j.d.toNat 4 4
  if j.status ≠ 0 ∨ key = 0 then s
  else
    let a := j.held
    let top := 0xFFFFFFFF
    let rest := s.gfx.cost.filter (fun e => !(e.tag == j.tag && e.key == key))
    let new : CostEnt :=
      match s.gfx.cost.find? (fun e => e.tag == j.tag && e.key == key) with
      | none => ⟨j.tag, key, sat top a, sat top (a >>> 3)⟩
      | some e =>
        let sh := s.get schedPage F.GSCHED.SCHED_CFG_SHIFT
        let err : Int := (a : Int) - (e.e : Int)
        let e' : Int := (e.e : Int) + err / (2 ^ sh : Int)
        let v' : Int := (e.v : Int) + (((err.natAbs : Int) - (e.v : Int)) / (2 ^ sh : Int))
        ⟨j.tag, key, sat top e'.toNat, sat top v'.toNat⟩
    { s with gfx := { s.gfx with cost := (new :: rest).take 64 } }

/-- The saved contexts held. -/
def State.boostedJobs (s : State) : List Job := s.gfx.jobs.filter (·.boosted)
def State.deadlineReady (s : State) : List Job :=
  s.gfx.jobs.filter (fun j => j.phase == .ready && j.cls == 0)

/-- `SCHED_STATE`, and T of the earliest ready DEADLINE job (R227). -/
def State.schedState (s : State) : Nat :=
  (sat 255 s.gfx.saved.length <<< 24) + (sat 255 s.boostedJobs.length <<< 16)
    + (sat 255 s.deadlineReady.length <<< 8) + s.gfx.cost.length
def State.edfT (s : State) : Nat :=
  match s.deadlineReady with
  | [] => 0
  | j :: t => t.foldl (fun m k => min m k.tgt) j.tgt

/-- Core-ticks used by tenancy t up to now, with those not yet credited. -/
def State.usedNow (s : State) (t : Nat) : Nat := (s.gsettle).usedT t

/-- Passes binning or rendering of a job: those binned and not stored, and the one that bins, at most one pass ahead
(R197); jobs started and not ended (R211). -/
def Job.active (j : Job) : Nat :=
  if j.phase = .ready then
    let n := (j.passes.drop j.passDone).filter (·.binned)
    let k := j.passDone + n.length
    n.length + b2n (decide (k < j.passes.length) && decide (k ≤ j.passDone + 1))
  else 0
def State.feState (s : State) : Nat :=
  let r := s.gfx.jobs.filter (fun j => j.phase == .ready || (j.phase == .done && j.cls != 3))
  (sat 255 ((r.map Job.active).foldl (· + ·) 0) <<< 8) + sat 255 r.length

/-- `CORE_STATE` and `CORE_TILE` of a shader core. -/
def State.gcoreWord (s : State) (c off : Nat) : Nat :=
  match (s.gcore c).unit with
  | none => 0
  | some (id, u) =>
    match s.job id with
    | none => 0
    | some j =>
      if off = 0xF00 then (1 <<< 31) + j.tag
      else match u with
        | .tile p i =>
          let w := match j.passes[p]? with
            | some q => cdiv (byteF q.d.toNat 4 2) 32
            | none => 1
          ((i / w) <<< 16) + i % w
        | .group _ => 0

/-! Deadlines and heads -/

/-- A ready DEADLINE job takes D and T of its head's raster again, from tick t (R214). -/
def State.jobTarget (s : State) (j : Job) (h t : Nat) : Job :=
  let d := s.nextSlack h (t + j.guard)
  { j with dl := d, tgt := d - j.guard }

/-- The DEADLINE jobs of head h take D again from a new raster (R214). -/
def State.gfxRetime (s : State) (h : Nat) : State :=
  { s with gfx := { s.gfx with jobs := s.gfx.jobs.map (fun j =>
    if j.phase = .ready ∧ j.cls = 0 ∧ byteF j.d.toNat 3 1 = h then s.jobTarget j h s.now else j) } }

/-- The head's disable has applied: its DEADLINE jobs go on as INTERACTIVE (R213). -/
def State.gfxHeadOff (s : State) (h : Nat) : State :=
  let s := s.gsettle
  { s with gfx := { s.gfx with jobs := s.gfx.jobs.map (fun j =>
    if j.phase = .ready ∧ j.cls = 0 ∧ byteF j.d.toNat 3 1 = h then { j with cls := 1 } else j) } }

/-! The checks of the render pages -/

/-- R210, R211. -/
def chkGfe (v : View) : Chk :=
  let m := v.f F.GFE.CORE_MASK
  let here := ones v.s.part.cores
  ⟨mBR, failIf (m &&& (0xFFFFFF ^^^ here) != 0) rFused F.GFE.CORE_MASK, [], [],
    failIf (m &&& here == 0) 0x40 F.GFE.CORE_MASK⟩

/-- A render page other than `GFX.FE` needs it enabled (R210). -/
def chkGfx (v : View) (l7 : List Viol) (l6 : List Viol) : Chk :=
  ⟨mBR, [], failArg (!v.s.enabled fePage) rDepend, l6, l7⟩

/-- The save area of tenancy t (R222, R227). -/
def View.saveBase (v : View) (t : Nat) : Nat :=
  v.f (F.GSCHED.SAVE_BASE_LO.at t) * 65536 + v.f (F.GSCHED.SAVE_BASE_HI.at t) * 0x100000000
def State.saveBase (s : State) (t : Nat) : Nat :=
  s.get schedPage (F.GSCHED.SAVE_BASE_LO.at t) * 65536 + s.get schedPage (F.GSCHED.SAVE_BASE_HI.at t) * 0x100000000

/-- R227. -/
def chkGsched (v : View) : Chk :=
  let n := 2 * v.s.part.cores * 196608
  chkGfx v
    ((upto 0 16).flatMap (fun t =>
      let b := v.saveBase t
      failIf (b != 0 && !(v.s.bufOk 0x58 (0x10 + t) false b n false && v.s.bufOk 0x58 (0x10 + t) false b n true)) rBuffer
        (F.GSCHED.SAVE_BASE_LO.at t) t))
    (v.range F.GSCHED.SCHED_CFG_SHIFT 1 8 ++ v.range F.GSCHED.EVAL_INTERVAL 256 65535
      ++ v.range F.GSCHED.TILE_WAIT 0 1024 ++ v.rangeN F.GSCHED.GUARD 8 1024 1048575)

end Sys2Proof.Machine
end

