-- ==== Sys2Proof/Machine/ScanChk.lean ====
section
/-! DEFINITION. The checks of timing, links, genlock and Tidepool regions (R141–R146, R161, R169), and the clear of
freed Tidepool regions (R162). -/

namespace Sys2Proof.Machine

/-- The pages of a head that these checks read. -/
def outPage (h : Nat) : Nat := pg (0x10 + h) 1
def dsiPage (k : Nat) : Nat := pg 0x18 k

/-- A violation whose field lies on page `p` of the domain, seen from a check of another page of the group: the
page stands above the offset. -/
def Viol.on (p : Nat) (w : Viol) : Viol := { w with off := w.off + 0x1000 * (p + 1) }

/-- A head's timing as a check sees it: H_T, V_T, H_A, V_A, NUM, DEN. -/
structure Timing where
  ht : Nat
  vt : Nat
  ha : Nat
  va : Nat
  num : Nat
  den : Nat
  deriving DecidableEq, Repr

/-- The timing of head h in a view. -/
def View.timing (v : View) (h : Nat) : Timing :=
  let g (x : Fld) : Nat := v.get (headPage h) x
  ⟨g F.HEAD.H_TIMING_0_ACTIVE + g F.HEAD.H_TIMING_0_FP + g F.HEAD.H_TIMING_1_SYNC + g F.HEAD.H_TIMING_1_BP,
    g F.HEAD.V_TIMING_0_ACTIVE + g F.HEAD.V_TIMING_0_FP + g F.HEAD.V_TIMING_1_SYNC + g F.HEAD.V_TIMING_1_BP,
    g F.HEAD.H_TIMING_0_ACTIVE, g F.HEAD.V_TIMING_0_ACTIVE, g F.HEAD.RATE_NUM, g F.HEAD.RATE_DEN⟩

/-- The head that a page of a head domain belongs to. -/
def View.head (v : View) : Nat := domOf v.base - 0x10

/-- The links that head h binds in a view (R142). -/
def View.links (v : View) (h : Nat) : List Nat :=
  let g (x : Fld) : Nat := v.get (outPage h) x
  let a := g F.OUTPUT.LINK_BIND_LINK_A
  if a = 0x1F then []
  else if g F.OUTPUT.LINK_BIND_DUAL = 1 then [a, g F.OUTPUT.LINK_BIND_LINK_B] else [a]

/-- Step 6 of a head's timing (R138, R141, R169). -/
def headTiming6 (v : View) : List Viol :=
  let h := v.head
  let t := v.timing h
  let dual := v.get (outPage h) F.OUTPUT.LINK_BIND_DUAL
  let deep := v.get (outPage h) F.OUTPUT.LINK_BIND_DEPTH
  v.range F.HEAD.H_TIMING_0_FP 1 4095 ++ v.range F.HEAD.H_TIMING_0_ACTIVE 64 8192
    ++ failIf (t.ha % 2 == 1 || (deep == 1 && t.ha / (1 + dual) % 4 != 0)) rAlign F.HEAD.H_TIMING_0_ACTIVE
    ++ v.range F.HEAD.H_TIMING_1_BP 1 4095 ++ v.range F.HEAD.H_TIMING_1_SYNC 1 1023
    ++ v.range F.HEAD.V_TIMING_0_FP 1 4095 ++ v.range F.HEAD.V_TIMING_0_ACTIVE 16 8192
    ++ v.range F.HEAD.V_TIMING_1_BP 1 4095 ++ v.range F.HEAD.V_TIMING_1_SYNC 1 1023
    ++ v.range F.HEAD.RATE_NUM 1 16777215 ++ v.range F.HEAD.RATE_DEN 1 16777215
    ++ failIf (v.f F.HEAD.SCAN_CFG_GENLOCK_SRC == 3) rRange F.HEAD.SCAN_CFG_GENLOCK_SRC
    ++ failIf (decide (t.ht * t.vt * t.den ≤ v.f F.HEAD.GENLOCK_OFFSET * t.num)) rRange F.HEAD.GENLOCK_OFFSET
    ++ v.range F.HEAD.HOLD_CFG_IDLE_FRAMES 1 255

/-- Ticks of HS transitions of a link (R143). -/
def View.linkHs (v : View) (k : Nat) : Nat :=
  let g (x : Fld) : Nat := v.get (dsiPage k) x
  2 * (g F.DSI.DPHY_T_LP_LPX + g F.DSI.DPHY_T_HS_HS_PREPARE + g F.DSI.DPHY_T_HS_HS_ZERO + g F.DSI.DPHY_T_HS_HS_TRAIL
    + g F.DSI.DPHY_T_HS_HS_EXIT + 1)

/-- The payload of a line fits its slot on link k (R143), computed over quarters of a byte. -/
def View.linkFits (v : View) (h k : Nat) : Bool :=
  let g (x : Fld) : Nat := v.get (outPage h) x
  let t := v.timing h
  let p := t.ha / (1 + g F.OUTPUT.LINK_BIND_DUAL)
  let bytes4 := 40 + p * (if g F.OUTPUT.LINK_BIND_DEPTH = 0 then 12 else 15) + 16 * g F.OUTPUT.LINK_OPTS_EOTP
  let need := cdiv (2 * bytes4) (4 * (g F.OUTPUT.LINK_BIND_LANES + 1))
    + (if g F.OUTPUT.LINK_OPTS_LP_IN_BLANK = 1 then v.linkHs k else 0)
  decide (need ≤ t.ht * t.den / max 1 t.num)

/-- The heads whose rate counts: those enabled, and the one under check. -/
def View.runningHeads (v : View) : List Nat :=
  (upto 0 8).filter (fun g => v.s.enabled (headPage g) || (v.enable && headPage g == v.base))

/-- The sum of R141 as numerator and denominator. -/
def View.rateSum (v : View) : Nat × Nat :=
  (v.runningHeads).foldl (fun (a : Nat × Nat) g =>
    let t := v.timing g
    let n := t.ha * t.va * t.num
    let d := max 1 (t.ht * t.vt * t.den)
    (a.1 * d + n * a.2, a.2 * d)) (0, 1)

/-- Genlock (R169). -/
def genlockViol (v : View) : List Viol :=
  let h := v.head
  let src := v.f F.HEAD.SCAN_CFG_GENLOCK_SRC
  let l := v.f F.HEAD.SCAN_CFG_GENLOCK_HEAD
  let a := v.timing h
  let b := v.timing l
  failIf (src == 1 && (l == h || v.get (headPage l) F.HEAD.SCAN_CFG_GENLOCK_SRC == 1)) 0x48 F.HEAD.SCAN_CFG_GENLOCK_HEAD
    ++ failIf ((src == 1 && a.ht * a.vt * a.den * b.num != b.ht * b.vt * b.den * a.num)
      || (src == 2 && a.ht * a.vt * a.den % max 1 a.num != 0)) 0x49 F.HEAD.SCAN_CFG_GENLOCK_SRC

/-- Step 7 of a head's timing, in the order of R141. -/
def headTiming7 (v : View) : List Viol :=
  let h := v.head
  let t := v.timing h
  let lead := v.f F.HEAD.SCAN_CFG_PREFETCH_LEAD
  let sum := v.rateSum
  failIf (decide (t.den * 7000 < t.num * 6144)) rTiming F.HEAD.RATE_NUM
    ++ failIf (lead == 0 || decide (t.vt < t.va + lead + 2)) rTiming F.HEAD.SCAN_CFG_PREFETCH_LEAD 1
    ++ ((v.links h).flatMap (fun k => failIf (!v.linkFits h k) rTiming F.OUTPUT.LINK_BIND_LANES (0x100 + k))).map
      (fun w => ({ w with bit := 0 }).on 1)
    ++ failIf (decide (7000 * sum.2 < 1024 * sum.1)) rBudget F.HEAD.RATE_NUM (cdiv (1024 * sum.1) sum.2)
    ++ genlockViol v

/-- Step 3 of a head's timing: a fused-off leader (R169). -/
def headTiming3 (v : View) : List Viol :=
  failIf (v.f F.HEAD.SCAN_CFG_GENLOCK_SRC == 1 && decide (v.s.part.heads ≤ v.f F.HEAD.SCAN_CFG_GENLOCK_HEAD)) rFused
    F.HEAD.SCAN_CFG_GENLOCK_HEAD

/-- Link k is named by the active or armed binding of a head other than h (R144). (log 117, DEDUCED) -/
def State.linkTaken (s : State) (h k : Nat) : Bool :=
  (upto 0 8).any (fun g =>
    g != h && (
      let names (w : Word) : Bool :=
        let a := F.OUTPUT.LINK_BIND_LINK_A.get w
        a == k || (a != 0x1F && F.OUTPUT.LINK_BIND_DUAL.get w == 1 && F.OUTPUT.LINK_BIND_LINK_B.get w == k)
      names (s.rd (outPage g + 0x100)) || (match s.armedFor (outPage g) with
        | some i => names (i.word s.die (outPage g + 0x900))
        | none => false)))

/-- The owners of the bound links (R144), examined at step 1 of R79. -/
def linkOwner (v : View) : List Viol :=
  let h := v.head
  ((v.links h).filter (· < 16)).flatMap (fun k =>
    failIf (decide (v.s.owner (dsiPage k) ≠ v.s.owner (headPage h))) rNotOwner F.OUTPUT.LINK_BIND_LINK_A k)

/-- R142–R144. -/
def chkOutput (v : View) : Chk :=
  let h := v.head
  let ls := v.links h
  let a := v.f F.OUTPUT.LINK_BIND_LINK_A
  let dual := v.b F.OUTPUT.LINK_BIND_DUAL
  let b := v.f F.OUTPUT.LINK_BIND_LINK_B
  let real := ls.filter (· < 16)
  ⟨mBR,
    real.flatMap (fun k => failIf (decide (v.s.part.links ≤ k)) rFused F.OUTPUT.LINK_BIND_LINK_A k)
      ++ failIf (dual && v.s.part.pkgM) rFused F.OUTPUT.LINK_BIND_DUAL a,
    real.flatMap (fun k => failIf (!v.s.enabled (dsiPage k)) rDepend F.OUTPUT.LINK_BIND_LINK_A k),
    failIf (decide (0x10 ≤ a) && a != 0x1F) rRange F.OUTPUT.LINK_BIND_LINK_A,
    failIf (dual && (a % 2 == 1 || b != a + 1)) 0x47 F.OUTPUT.LINK_BIND_LINK_A a
      ++ real.flatMap (fun k => failIf (v.s.linkTaken h k) rInUse F.OUTPUT.LINK_BIND_LINK_A k)⟩

/-- R146. -/
def chkDsi (v : View) : Chk :=
  let m := v.f F.DSI.LANE_CFG_LANE_MAP
  let perm := (upto 0 4).all (fun l => (upto 0 4).any (fun n => bits m (2 * n + 1) (2 * n) == l))
  chk6 mBR (failIf (!perm) rRange F.DSI.LANE_CFG_LANE_MAP
    ++ [F.DSI.DPHY_T_HS_HS_EXIT, F.DSI.DPHY_T_HS_HS_TRAIL, F.DSI.DPHY_T_HS_HS_ZERO, F.DSI.DPHY_T_HS_HS_PREPARE,
        F.DSI.DPHY_T_CLK_CLK_POST, F.DSI.DPHY_T_CLK_CLK_TRAIL, F.DSI.DPHY_T_CLK_CLK_ZERO, F.DSI.DPHY_T_CLK_CLK_PREPARE,
        F.DSI.DPHY_T_LP_WAKEUP, F.DSI.DPHY_T_LP_CLK_PRE, F.DSI.DPHY_T_LP_LPX].flatMap
        (fun x => failIf (v.f x == 0) rRange x))

/-- `HOLD_STATUS.STATE` of a head. -/
def State.holdState (s : State) (h : Nat) : Nat := s.get (headPage h) F.HEAD.HOLD_STATUS_STATE

/-- R161. (log 235, DESIGN CHOICE) -/
def chkAlloc (v : View) : Chk :=
  let use (r : Nat) : Nat := v.f (F.ALLOC.REGION_USE.at r)
  let b (r : Nat) : Nat := v.f (F.ALLOC.REGION_BASE.at r)
  let n (r : Nat) : Nat := v.f (F.ALLOC.REGION_COUNT.at r)
  let h (r : Nat) : Nat := v.f (F.ALLOC.REGION_USER_HEAD.at r)
  let o (r : Nat) : Nat := v.f (F.ALLOC.REGION_USER_OWNER.at r)
  let rs := (upto 0 32).filter (fun r => use r != 0)
  let old (x : Fld) (r : Nat) : Nat := v.s.get v.base (x.at r)
  let chg (r : Nat) : Bool :=
    use r != old F.ALLOC.REGION_USE r || b r != old F.ALLOC.REGION_BASE r || n r != old F.ALLOC.REGION_COUNT r
      || h r != old F.ALLOC.REGION_USER_HEAD r || o r != old F.ALLOC.REGION_USER_OWNER r
  let held (r : Nat) : Bool := old F.ALLOC.REGION_USE r == 2 && v.s.holdState (old F.ALLOC.REGION_USER_HEAD r) != 0
  ⟨mBR,
    rs.flatMap (fun r => failIf (decide (v.s.part.heads ≤ h r)) rFused (F.ALLOC.REGION_USER_HEAD.at r) r),
    [],
    rs.flatMap (fun r =>
      failIf (use r == 3) rRange (F.ALLOC.REGION_USE.at r) r
        ++ failIf (n r == 0 || decide (v.s.part.granules < b r + n r)) rRange (F.ALLOC.REGION_BASE.at r) r),
    (upto 0 32).flatMap (fun r =>
      let on := use r != 0
      failIf (on && !(v.s.bufOk 0x2A (o r) true (65536 * b r) (65536 * n r) true
          && v.s.bufOk 0x2A (o r) true (65536 * b r) (65536 * n r) false)) rBuffer (F.ALLOC.REGION_BASE.at r) r
        ++ failIf (on && (upto 0 r).any (fun q => use q != 0 && decide (b q < b r + n r) && decide (b r < b q + n q)))
          0x4A (F.ALLOC.REGION_BASE.at r) r
        ++ failIf (use r == 2 && ((upto 0 r).any (fun q => use q == 2 && h q == h r)
            || o r != v.s.owner (headPage (h r)))) rInUse (F.ALLOC.REGION_USER_HEAD.at r) r
        ++ failIf (chg r && held r) rInUse (F.ALLOC.REGION_USE.at r) r)⟩

/-! The clear of freed regions -/

/-- `POOL.ALLOC`. -/
def allocPage : Nat := pg 0x1A 1

/-- The granules that an apply frees from region r (R162): their first and count. -/
def State.freedRegion (s old : State) (r : Nat) : Option (Nat × Nat) :=
  let g (x : State) (f : Fld) : Nat := x.get allocPage (f.at r)
  if g old F.ALLOC.REGION_CLEAR_ON_FREE = 1 ∧ g old F.ALLOC.REGION_USE ≠ 0
      ∧ (g s F.ALLOC.REGION_USE = 0 ∨ g s F.ALLOC.REGION_BASE ≠ g old F.ALLOC.REGION_BASE
        ∨ g s F.ALLOC.REGION_COUNT ≠ g old F.ALLOC.REGION_COUNT) then
    some (g old F.ALLOC.REGION_BASE, g old F.ALLOC.REGION_COUNT)
  else none

/-- Regions freed by an apply start to be cleared (R162). -/
def State.allocApply (s old : State) : State :=
  forN (fun r s =>
    match s.freedRegion old r with
    | some x =>
      let s := s.put allocPage F.ALLOC.CLEAR_BUSY (s.get allocPage F.ALLOC.CLEAR_BUSY ||| (1 <<< r))
      { s with poolClr := s.poolClr ++ [(r, x)] }
    | none => s) 32 s

/-- A word that straddles the edge of a cleared range keeps its bytes outside (R162). -/
def State.poolEdge (s : State) (w lo hi : Nat) : State :=
  let a := max lo (6 * w)
  let b := min hi (6 * w + 6)
  if a < b ∧ b - a < 6 ∧ s.poolValid w then (s.poolPart 0x2A 1 w (a - 6 * w) (natBytes (b - a) 0)).1 else s

/-- Tidepool bytes [lo, hi) are cleared: whole words lose their valid bit, straddling words keep their other
bytes. (log 100, DESIGN CHOICE) -/
def State.poolClear (s : State) (lo hi : Nat) : State :=
  let s := s.poolEdge (lo / 6) lo hi
  let s := if hi / 6 = lo / 6 then s else s.poolEdge (hi / 6) lo hi
  let inside (w : Nat) : Bool := decide (lo ≤ 6 * w) && decide (6 * w + 6 ≤ hi)
  let s := s.poolNote lo (hi - lo)
  { s with
    pool := amDrop (fun a => inside (a / 6)) s.pool
    poolChk := amDrop inside s.poolChk }

/-- The clear of a freed region ends (R162). (log 100, DESIGN CHOICE) -/
def State.regionCleared (s : State) (r : Nat) : State :=
  let l := s.poolClr.filter (fun e => e.1 == r)
  let s := forL (fun (e : Nat × Nat × Nat) s => s.poolClear (65536 * e.2.1) (65536 * (e.2.1 + e.2.2))) l s
  let s := { s with poolClr := s.poolClr.filter (fun e => e.1 != r) }
  s.put allocPage F.ALLOC.CLEAR_BUSY (s.get allocPage F.ALLOC.CLEAR_BUSY &&& (0xFFFFFFFF ^^^ (1 <<< r)))

end Sys2Proof.Machine
end

