-- ==== Sys2Proof/Machine/TchBase.lean ====
section
/-! DEFINITION. Touch panels: the checks of their pages, the restart, and what their pages' start, stop, apply and
reset do (R238–R245, R254, R265–R269). -/

namespace Sys2Proof.Machine

/-- `TCH.COMMON` and `TCH.PANEL_p`. -/
def tchPage : Nat := pg 0x28 0
def panelPage (p : Nat) : Nat := pg 0x28 (1 + p % 4)

/-- The panel of a page. -/
def panelOf (base : Nat) : Nat := pnoOf base - 1

/-- A panel beside its registers. -/
def State.panel (s : State) (p : Nat) : PanelSt := amGet (fun _ => PanelSt.idle) s.panels p
def State.setPanel (s : State) (p : Nat) (x : PanelSt) : State :=
  { s with panels := amSet (fun _ => PanelSt.idle) s.panels p x }
def State.modPanel (s : State) (p : Nat) (f : PanelSt → PanelSt) : State := s.setPanel p (f (s.panel p))

/-- A field of panel p. -/
def State.pf (s : State) (p : Nat) (x : Fld) : Nat := s.get (panelPage p) x

/-- `PANEL_STATE.STATE` (R268). -/
def State.panelState (s : State) (p : Nat) : Nat := s.pf p F.PANEL.PANEL_STATE_STATE
def State.setPanelState (s : State) (p v : Nat) : State := s.put (panelPage p) F.PANEL.PANEL_STATE_STATE v

/-! Checks -/

/-- R266, R267. -/
def chkTch (v : View) : Chk :=
  ⟨mBRS, failIf ((upto 0 4).any (fun p => bit (v.f F.TCH.WAKE_MASK) p && decide (v.s.part.panels ≤ p))) rFused
    F.TCH.WAKE_MASK, [], [], []⟩

/-- The rows per group that `GROUP_ROWS` selects. -/
def groupRows (g : Nat) : Nat := 4 <<< g

/-- The chunks of a panel's reference in the option records all have winners (R502). -/
def State.refChunks (s : State) (p nodes : Nat) : Bool :=
  (upto 0 (cdiv nodes 48)).all (fun n => s.winners.any (fun e => e.1 == (p * 256 + n) * 256 + 5))

/-- R245, R268, R269. -/
def chkPanel (v : View) : Chk :=
  let p := panelOf v.base
  let rows := v.f F.PANEL.PANEL_SIZE_ROWS
  let cols := v.f F.PANEL.PANEL_SIZE_COLS
  let g := v.f F.PANEL.PANEL_SIZE_GROUP_ROWS
  let step := v.f F.PANEL.STEP_CFG_STEP_TICKS
  let fcs := v.f F.PANEL.NOISE_CFG_FREQ_COUNT + 1
  let fc := if bit (v.f F.PANEL.VER_LOCAL_FEATURES) 2 then fcs else 0
  let n := fc + rows
  let w := if v.b F.PANEL.LINK_CFG_DUAL_IN then 2 else 1
  let c := max 112 (cdiv (8 * (6 + 2 * cols)) w)
  let per := (upto 0 fcs).foldl (fun m k => max m (v.f (F.PANEL.FREQ_PERIOD.at k))) 0
  let src := v.f F.PANEL.REF_CFG
  let ref := v.f64 F.PANEL.REF_ADDR_LO % (1 <<< 40)
  let ring := v.f64 F.PANEL.RING_ADDR_LO % (1 <<< 40)
  ⟨mBRS, [],
    failArg (src == 1 && !v.s.refChunks p (rows * cols)) rDepend 1,
    v.range F.PANEL.LINK_CFG_SCK_DIV 5 255 ++ v.range F.PANEL.PANEL_SIZE_ROWS 4 96
      ++ failIf (decide (g < 3) && rows % groupRows g != 0) rAlign F.PANEL.PANEL_SIZE_ROWS
      ++ v.range F.PANEL.PANEL_SIZE_COLS 1 64 ++ v.range F.PANEL.PANEL_SIZE_GROUP_ROWS 0 2
      ++ v.range F.PANEL.STEP_CFG_STEP_TICKS 1024 65535 ++ v.range F.PANEL.STEP_CFG_PULSES 1 255
      ++ v.range F.PANEL.FRAME_TICKS 1280000 61440000 ++ v.range F.PANEL.DOZE_TICKS 12288000 61440000
      ++ v.range F.PANEL.DOZE_CFG_APPROACH_COUNT 1 255
      ++ v.range F.PANEL.THRESH_TOUCH_THRESH 1 32767
      ++ v.range F.PANEL.THRESH_LIFT_THRESH 1 (min 32767 (v.f F.PANEL.THRESH_TOUCH_THRESH))
      ++ v.range F.PANEL.THRESH_2_APPROACH_THRESH 1 65535 ++ v.range F.PANEL.THRESH_2_SUSPECT_THRESH 1 65535
      ++ v.range F.PANEL.FOLLOW_CFG_FOLLOW_SHIFT 1 12 ++ v.range F.PANEL.FOLLOW_CFG_LOSS_FRAMES 1 15
      ++ v.range F.PANEL.FOLLOW_CFG_CLEAR_FRAMES 1 255 ++ v.range F.PANEL.NOISE_CFG_NOISE_FRAMES 1 255
      ++ v.rangeN F.PANEL.FREQ_PERIOD fcs 1 65535 ++ v.range F.PANEL.REF_CFG 0 2
      ++ failIf (ref % 64 != 0) rAlign F.PANEL.REF_ADDR_LO ++ failIf (ring % 64 != 0) rAlign F.PANEL.RING_ADDR_LO
      ++ v.range F.PANEL.RING_CFG 4 12
      ++ verBad v F.PANEL.VER_LOCAL_MIN F.PANEL.VER_LOCAL_MAX F.PANEL.VER_LOCAL_FEATURES 2 7,
    failArg (src == 2 && !v.s.bufOk 0x61 v.owner false ref (2 * rows * cols) false) rBuffer 1
      ++ failArg (!v.s.bufOk 0x61 v.owner false ring (352 <<< v.f F.PANEL.RING_CFG) true) rBuffer 2
      ++ failArg (decide (step < 2 * v.f F.PANEL.LINK_CFG_SCK_DIV * c + 128)) rTiming 1
      ++ failArg (decide (v.f F.PANEL.FRAME_TICKS < (n + 2) * step)) rTiming 2
      ++ failArg (decide (614400 < n * step / 2 + step + 122880)) rTiming 3
      ++ failArg (decide ((step - 64) * 1000 < v.f F.PANEL.STEP_CFG_PULSES * per * 6144)) rTiming 4⟩

/-! Start, stop, apply, reset -/

/-- A restart of panel p starts with its slot t0 at tick t (R239, R240). -/
def State.panelRestart (s : State) (p t : Nat) (retry : Bool) : State :=
  let s := ((s.setPanelState p 1).put (panelPage p) F.PANEL.PANEL_CMD_RESTART 0).put (panelPage p)
    F.PANEL.PANEL_STATE_DUAL 0
  (s.modPanel p (fun x =>
    { x with startAt := none, retryAt := none, nextAt := none, frame := none, rst := some (t, 0, retry) })).stat (panelPage p) 8

/-- An accepted enable (R240): the restart starts on the next tick. (log 123, DEDUCED) -/
def State.panelStart (s : State) (p t : Nat) : State :=
  let b := panelPage p
  let s := (s.wr (b + F.PANEL.PANEL_CMD_RESTART.off) 0).wr (b + F.PANEL.PANEL_STATE_STATE.off) 0
  let s := (s.put b F.PANEL.FRAME_SEQ 0).put b F.PANEL.SUSPECT_COUNT 0
  s.modPanel p (fun x => { PanelSt.idle with startAt := some (t + 1), seq := x.seq, reqs := x.reqs })

/-- A disable (R265): the link stops and the contacts are dropped without a report. -/
def State.panelStop (s : State) (p : Nat) : State :=
  let b := panelPage p
  (s.wr (b + F.PANEL.PANEL_STATE_STATE.off) 0).modPanel p (fun x =>
    { PanelSt.idle with seq := x.seq, reqs := x.reqs })

/-- A commit has applied (R240, R254): a change of the ring sets its indices to 0, a change of what CONFIG names
restarts the link. (log 126, DEDUCED) -/
def State.panelApply (s old : State) (p t : Nat) : State :=
  let b := panelPage p
  let chg (l : List Fld) : Bool := l.any (fun x => s.get b x != old.get b x)
  let s' := if chg [F.PANEL.RING_ADDR_LO, F.PANEL.RING_ADDR_HI, F.PANEL.RING_CFG] then
      (s.put b F.PANEL.RING_RD 0).put b F.PANEL.RING_WR 0
    else s
  if s.enabled b && s.panelState p != 0 && chg ([F.PANEL.LINK_CFG_DUAL_IN, F.PANEL.LINK_CFG_SCK_DIV, F.PANEL.PANEL_SIZE_GROUP_ROWS,
      F.PANEL.PANEL_SIZE_COLS, F.PANEL.PANEL_SIZE_ROWS, F.PANEL.STEP_CFG_PULSES, F.PANEL.NOISE_CFG_FREQ_COUNT]
      ++ (upto 0 4).flatMap (fun k => [F.PANEL.FREQ_GAIN.at k, F.PANEL.FREQ_PERIOD.at k])) then s'.panelRestart p t false
  else s'

/-- The page of panel p applies on arm: no frames run (R243). -/
def State.panelStill (s : State) (p : Nat) : Bool := s.panelState p == 0 || s.panelState p == 5

end Sys2Proof.Machine
end

