-- ==== Sys2Proof/Machine/HapBase.lean ====
section
/-! DEFINITION. Haptic channels and ports and the reflex table: their checks, and what their pages' start, stop,
apply and reset do (R276, R278, R281, R293–R300). -/

namespace Sys2Proof.Machine

/-- `HAP.COMMON`, `HAP.CHAN_c`, `HAP.PORT_p`, `TCH.REFLEX`, `AUD.ENGINE`. -/
def hapPage : Nat := pg 0x29 0
def hchanPage (c : Nat) : Nat := pg 0x29 (1 + c % 8)
def hportPage (p : Nat) : Nat := pg 0x29 (9 + p % 2)
def reflexPage : Nat := pg 0x28 5
def aengPage : Nat := pg 0x2A 0

/-- A channel and a port beside their registers. -/
def State.hch (s : State) (c : Nat) : HapCh := amGet (fun _ => HapCh.idle) s.hchans c
def State.setHch (s : State) (c : Nat) (x : HapCh) : State :=
  { s with hchans := amSet (fun _ => HapCh.idle) s.hchans c x }
def State.modHch (s : State) (c : Nat) (f : HapCh → HapCh) : State := s.setHch c (f (s.hch c))
def State.hpt (s : State) (p : Nat) : HapPort := amGet (fun _ => HapPort.idle) s.hports p
def State.setHpt (s : State) (p : Nat) (x : HapPort) : State :=
  { s with hports := amSet (fun _ => HapPort.idle) s.hports p x }
def State.modHpt (s : State) (p : Nat) (f : HapPort → HapPort) : State := s.setHpt p (f (s.hpt p))

/-- Their states (R296, R297). -/
def State.hchState (s : State) (c : Nat) : Nat := s.get (hchanPage c) F.HCHAN.CHAN_STATE_STATE
def State.hptState (s : State) (p : Nat) : Nat := s.get (hportPage p) F.HPORT.PORT_STATE_STATE

/-- The channels of a port. -/
def portChans (p : Nat) : List Nat := upto (4 * p) 4

/-- The effect in a slot of the store. -/
def State.effect (s : State) (k : Nat) : Effect := amGet (fun _ => ⟨0, 0⟩) s.effects k
def State.effValid (s : State) (k : Nat) : Bool := bit (s.get hapPage F.HAP.STORE_VALID) k

/-! Checks -/

/-- R294, R296. -/
def chkHchan (v : View) : Chk :=
  let p := (pnoOf v.base - 1) / 4
  ⟨mBRS, [], failArg (v.enable && !v.s.enabled (hportPage p)) rDepend p,
    v.range F.HCHAN.PEAK 1 8388607 ++ v.range F.HCHAN.OD_MAX 1 4800 ++ v.range F.HCHAN.LEN_MAX 48 96000
      ++ v.range F.HCHAN.BRAKE_MAX 1 9600 ++ failIf (v.f F.HCHAN.BUDGET == 0) rRange F.HCHAN.BUDGET
      ++ v.range F.HCHAN.ENERGY_BLOCK 48 6000 ++ failIf (v.f F.HCHAN.VEL_V_FULL == 0) rRange F.HCHAN.VEL_V_FULL
      ++ v.range F.HCHAN.F0 16 65535, []⟩

/-- R294, R297. -/
def chkHport (v : View) : Chk :=
  ⟨mBRS, [], failArg (v.enable && !v.s.enabled hapPage) rDepend 0,
    verBad v F.HPORT.VER_LOCAL_MIN F.HPORT.VER_LOCAL_MAX F.HPORT.VER_LOCAL_FEATURES 2 1, []⟩

/-- R299, R300: only the fields of the actions selected are examined. -/
def chkReflex (v : View) : Chk :=
  let valid := v.b F.REFLEX.ENTRY_CTL_VALID
  let act (i : Nat) : Bool := valid && bit (v.f F.REFLEX.ENTRY_ACT_ACTIONS) i
  let o := v.f F.REFLEX.ENTRY_OWNER
  let p := v.f F.REFLEX.ENTRY_CTL_PANEL
  let c := v.f F.REFLEX.ENTRY_ACT_CHANNEL
  let e := v.f F.REFLEX.ENTRY_ACT_EFFECT
  let h := v.f F.REFLEX.ENTRY_ACT_2_HEAD
  let l := v.f F.REFLEX.ENTRY_ACT_2_LAYER
  let k := v.f F.REFLEX.ENTRY_ACT_2_EARCON
  let when (b : Bool) (l : List Viol) : List Viol := if b then l else []
  ⟨mBRS,
    failIf (valid && decide (v.s.part.panels ≤ p)) rFused F.REFLEX.ENTRY_CTL_PANEL
      ++ failIf (act 0 && decide (v.s.part.hapCh ≤ c)) rFused F.REFLEX.ENTRY_ACT_CHANNEL
      ++ failIf (act 2 && decide (v.s.part.heads ≤ h)) rFused F.REFLEX.ENTRY_ACT_2_HEAD,
    [],
    when valid (v.range F.REFLEX.ENTRY_CTL_COND 0 2
      ++ failIf (v.f F.REFLEX.ENTRY_CTL_COND == 2 && v.f F.REFLEX.ENTRY_CTL_HOLD_MS == 0) rRange F.REFLEX.ENTRY_CTL_HOLD_MS
      ++ v.range F.REFLEX.ENTRY_RECT_1_X1 (v.f F.REFLEX.ENTRY_RECT_0_X0 + 1) 8192
      ++ v.range F.REFLEX.ENTRY_RECT_1_Y1 (v.f F.REFLEX.ENTRY_RECT_0_Y0 + 1) 8192
      ++ failIf (!(o == 1 || isTen o)) rRange F.REFLEX.ENTRY_OWNER
      ++ failIf (v.f F.REFLEX.ENTRY_ACT_ACTIONS == 0) rRange F.REFLEX.ENTRY_ACT_ACTIONS
      ++ failIf (act 2 && decide (11 < l)) rRange F.REFLEX.ENTRY_ACT_2_LAYER),
    when valid (failArg (v.s.owner (panelPage p) != o) rNotOwner 1
      ++ failArg (act 0 && v.s.owner (hchanPage c) != o) rNotOwner 2
      ++ failArg (act 0 && !v.s.effValid e) rDepend 3
      ++ failArg (act 0 && (v.s.effect e).owner != o) rNotOwner 3
      ++ failArg (act 1 && v.s.get aengPage (F.AENG.TRIG_OWNER.at k) != o) rNotOwner 4
      ++ failArg (act 2 && v.s.owner (layerPage h l) != o) rNotOwner 5)⟩

/-! The end of an effect (R293) -/

/-- The effect of channel c ends, if one plays: its record, and the counts of its brake (R284, R296). (log 149, DEDUCED) -/
def State.effectEnd (s : State) (c cause : Nat) : State :=
  match (s.hch c).play with
  | none => s
  | some pl =>
    let b := hchanPage c
    let s := s.modHch c (fun x => { x with play := none })
    let s := (s.wr (b + F.HCHAN.CHAN_STATE_SLOT.off) (s.rd (b + F.HCHAN.CHAN_STATE_SLOT.off) &&& 0x0C000000)).intBit b 1
    s.jrecOwn 0x000C b pl.last (jpay [(16, 8, pl.onset), (24, 1, c), (25, 1, pl.trig.slot), (26, 1, cause), (27, 1, pl.hits),
      (28, 2, sat 65535 pl.t), (30, 1, pl.brake + 4 * pl.trig.src), (31, 1, pl.trig.entry)])

/-- The queued effect of channel c is dropped. -/
def State.dequeue (s : State) (c : Nat) : State :=
  (s.modHch c (fun x => { x with queued := none })).put (hchanPage c) F.HCHAN.CHAN_STATE_QUEUED 0

/-- A port leaves UP without a fault: its channels' effects end with cause 6 (R278, log 61). -/
def State.portEnds (s : State) (p : Nat) : State :=
  forL (fun c s => (s.effectEnd c 6).dequeue c) (portChans p) s

/-! Start, stop, apply, reset -/

/-- A trigger is dropped and counted, whether or not the channel is enabled (R285). (log 251, DEDUCED) -/
def State.trigDrop (s : State) (c : Nat) : State :=
  (s.statTo 0xFFFFFFFF (hchanPage c) 3 1).intBit (hchanPage c) 4

/-- The triggers that wait are dropped: the port is not UP, or the channel is disabled (R285). -/
def State.trigsLost (s : State) (c : Nat) : State :=
  let l := (s.hch c).trigs
  if l.isEmpty then s else forL (fun _ s => s.trigDrop c) l (s.modHch c (fun x => { x with trigs := [] }))

/-- Back-EMF and velocity of channel c (R283). -/
def State.setEnv (s : State) (c : Nat) (e : Int) (env : Nat) : State :=
  (s.modHch c (fun x => { x with e := e, env := env })).put (hchanPage c) F.HCHAN.ENV (env / 16)

/-- Channel c with nothing that plays, waits or counts; its velocity estimate goes on (R283). W is 0, and so is
`ENERGY` (R296). -/
def State.hchClear (s : State) (c : Nat) : State :=
  (s.modHch c (fun x => { HapCh.idle with e := x.e, env := x.env })).put (hchanPage c) F.HCHAN.ENERGY 0

/-- A restart of port p begins with its next frame (R276). (log 140, DEDUCED) -/
def State.hptRestart (s : State) (p : Nat) : State :=
  let b := hportPage p
  let s := if s.hptState p = 2 then s.portEnds p else s
  let s := ((s.put b F.HPORT.PORT_STATE_STATE 1).put b F.HPORT.PORT_CMD 0).stat b 2
  s.modHpt p (fun x => { x with
    rst := some (x.nextAt.getD (s.now + 1), 0, none)
    nextAt := some (x.nextAt.getD (s.now + 1))
    rxA := none, rxB := none, retryAt := none, silent := 0, stopped := false, loc := s.rd (b + 0x180) })

/-- An accepted enable of port p: its frames start on the next tick. (log 140, DEDUCED) -/
def State.hptStart (s : State) (p t : Nat) : State :=
  let b := hportPage p
  let s := (s.put b F.HPORT.FRAME_SEQ 0).setHpt p { HapPort.idle with nextAt := some (t + 1) }
  s.hptRestart p

/-- A disable of port p. (log 143, DEDUCED) -/
def State.hptStop (s : State) (p : Nat) : State :=
  ((s.portEnds p).setHpt p HapPort.idle).put (hportPage p) F.HPORT.PORT_STATE_STATE 0

/-- A commit of port p has applied (R276). -/
def State.hptApply (s old : State) (p : Nat) : State :=
  let b := hportPage p
  if s.enabled b && s.rd (b + 0x100) != old.rd (b + 0x100) && !(s.hpt p).stopped then s.hptRestart p else s

/-- An accepted enable of channel c (R281). -/
def State.hchStart (s : State) (c : Nat) : State := (s.wr (hchanPage c + 0xF00) 0).hchClear c

/-- A disable of channel c: its effect ends. (log 149, DEDUCED) -/
def State.hchStop (s : State) (c : Nat) : State :=
  ((s.effectEnd c 5).trigsLost c).hchClear c |>.wr (hchanPage c + 0xF00) 0

/-- An entry's words. -/
def State.rflx (s : State) (i : Nat) : BitVec 192 := amGet (fun _ => 0) s.reflex i

/-- The staged words go into the entry that `ENTRY_SEL` names (R299); an entry that is not valid is empty. -/
def State.reflexApply (s : State) : State :=
  let i := s.get reflexPage F.REFLEX.ENTRY_SEL
  let w := forN (fun k a => a + (s.rd (reflexPage + 0x104 + 4 * k)).toNat * 2 ^ (32 * k)) 6 0
  { s with
    reflex := amSet (fun _ => 0) s.reflex i (if bit w 31 then BitVec.ofNat 192 w else 0)
    reflexArm := amSet (fun _ => 0) s.reflexArm i 0 }

end Sys2Proof.Machine
end

