-- ==== Sys2Proof/Machine/AudBase.lean ====
section
/-! DEFINITION. The audio pages: their checks, and what their start, stop, apply and reset do (R310, R312, R315,
R323–R333). -/

namespace Sys2Proof.Machine

/-- The pages of `AUD`. -/
def abankPage : Nat := pg 0x2A 1
def aportPage (p : Nat) : Nat := pg 0x2A (2 + p % 4)
def asrcPage : Nat := pg 0x2A 6
def againPage : Nat := pg 0x2A 7
def ameterPage : Nat := pg 0x2A 8
def aclkPage : Nat := pg 0x2A 9

/-- The parts of the engine beside its registers. -/
def State.modAudio (s : State) (f : AudioSt → AudioSt) : State := { s with audio := f s.audio }
def State.gain (s : State) (g : Nat) : GainSt := amGet (fun _ => ⟨0, 0, false⟩) s.audio.gains g
def State.setGain (s : State) (g : Nat) (x : GainSt) : State :=
  s.modAudio (fun a => { a with gains := amSet (fun _ => ⟨0, 0, false⟩) a.gains g x })
def State.player (s : State) (r : Nat) : PlayerSt := amGet (fun _ => PlayerSt.idle) s.audio.players r
def State.setPlayer (s : State) (r : Nat) (x : PlayerSt) : State :=
  s.modAudio (fun a => { a with players := amSet (fun _ => PlayerSt.idle) a.players r x })
def State.meter (s : State) (m : Nat) : MeterSt := amGet (fun _ => ⟨0, 0, 0⟩) s.audio.meters m
def State.setMeter (s : State) (m : Nat) (x : MeterSt) : State :=
  s.modAudio (fun a => { a with meters := amSet (fun _ => ⟨0, 0, 0⟩) a.meters m x })
def State.conv (s : State) (n : Nat) : ConvSt := amGet (fun _ => ConvSt.idle) s.audio.convs n
def State.setConv (s : State) (n : Nat) (x : ConvSt) : State :=
  s.modAudio (fun a => { a with convs := amSet (fun _ => ConvSt.idle) a.convs n x })
def State.aport (s : State) (p : Nat) : APortSt := amGet (fun _ => APortSt.idle) s.audio.ports p
def State.setAport (s : State) (p : Nat) (x : APortSt) : State :=
  s.modAudio (fun a => { a with ports := amSet (fun _ => APortSt.idle) a.ports p x })
def State.amem (s : State) (a : Nat) : BitVec 48 := amGet (fun _ => 0) s.audio.mem a
def State.setAmem (s : State) (a : Nat) (v : BitVec 48) : State :=
  s.modAudio (fun x => { x with mem := amSet (fun _ => 0) x.mem a v })

/-- The active bank, and the other one. -/
def State.activeBank (s : State) : Nat := s.get abankPage F.ABANK.BANK_STATE_ACTIVE
def State.bankAt (s : State) (n : Nat) : Bank := if n = 0 then s.audio.bank0 else s.audio.bank1
def State.setBankAt (s : State) (n : Nat) (b : Bank) : State :=
  s.modAudio (fun a => if n = 0 then { a with bank0 := b } else { a with bank1 := b })
def State.bankOn (s : State) : Bank := s.bankAt s.activeBank
def State.bankOff (s : State) : Bank := s.bankAt (1 - s.activeBank)

/-- A swap runs (R324). -/
def State.swapping (s : State) : Bool := s.get abankPage F.ABANK.BANK_STATE_PHASE != 0

/-- A field of port p; its slot width in bits, its frame length in ticks, its slots. -/
def State.af (s : State) (p : Nat) (x : Fld) : Nat := s.get (aportPage p) x
def slotWidth (c : Nat) : Nat := 16 + 8 * c
def State.slotBits (s : State) (p : Nat) : Nat := slotWidth (s.af p F.APORT.PORT_CFG_SLOT_BITS)
def State.frameT (s : State) (p : Nat) : Nat := if s.af p F.APORT.PORT_CFG_RATE = 1 then 6400 else 12800
def State.slotsIn (s : State) (p : Nat) : Nat := s.af p F.APORT.PORT_CFG_SLOTS_IN + 1
def State.slotsOut (s : State) (p : Nat) : Nat := s.af p F.APORT.PORT_CFG_SLOTS_OUT + 1

/-- The rank of an owner (R325). -/
def State.rank (s : State) (o : Nat) : Nat :=
  let c := s.get aengPage F.AENG.ENG_CFG
  if o = 1 then 2 else if o = c ∧ c ≠ 0 then 1 else 0

/-- A rule of owner o may act on a unit of owner u (R326). -/
def State.mayDuck (s : State) (o u : Nat) : Bool :=
  (decide (1 ≤ s.rank o) && decide (s.rank u ≤ s.rank o)) || o == u

/-! Checks -/

/-- Every page but `ENGINE` and `CLOCKS` needs the engine enabled (R332). -/
def needsEngine (v : View) : List Viol := failArg (!v.s.enabled aengPage) rDepend

/-- A defined owner of an audio resource. -/
def audOwner (o : Nat) : Bool := o == 1 || isTen o

/-- An owner field of an audio object holds a defined owner, or 0x000 where the object is not in use. (log 155, DEDUCED) -/
def audUser (used : Bool) (o : Nat) : Bool := audOwner o || (!used && o == 0)

/-- The bytes of a frame of a player. -/
def frameBytes (fmt stereo : Nat) : Nat := (if fmt = 0 then 2 else 4) * (1 + stereo)

/-- R329, R333. (log 155, DEDUCED) -/
def chkAeng (v : View) : Chk :=
  let c := v.f F.AENG.ENG_CFG
  let t (x : Fld) (k : Nat) : Nat := v.f (x.at k)
  let lines := (upto 0 64).filter (fun k => t F.AENG.TRIG_VALID k == 1)
  let players := (upto 0 16).filter (fun r => t F.AENG.PLAY_CFG_OWNER r != 0)
  let used (r : Nat) : Bool := t F.AENG.PLAY_CFG_OWNER r != 0
  let addr (r : Nat) : Nat := t F.AENG.PLAY_ADDR_LO r + t F.AENG.PLAY_ADDR_HI r * 0x100000000
  ⟨mBRS, [], [],
    failIf (!(c == 0 || isTen c)) rRange F.AENG.ENG_CFG
      ++ (upto 0 64).flatMap (fun k =>
        failIf (!audUser (t F.AENG.TRIG_VALID k == 1) (t F.AENG.TRIG_OWNER k)) rRange (F.AENG.TRIG_OWNER.at k))
      ++ (upto 0 16).flatMap (fun r =>
        failIf (addr r % 64 != 0) rAlign (F.AENG.PLAY_ADDR_LO.at r)
          ++ failIf (used r && t F.AENG.PLAY_FRAMES r == 0) rRange (F.AENG.PLAY_FRAMES.at r)
          ++ failIf (decide (1 < t F.AENG.PLAY_CFG_FORMAT r)) rRange (F.AENG.PLAY_CFG_FORMAT.at r)
          ++ failIf (!audUser false (t F.AENG.PLAY_CFG_OWNER r)) rRange (F.AENG.PLAY_CFG_OWNER.at r)),
    lines.flatMap (fun k => failArg (t F.AENG.PLAY_CFG_OWNER (t F.AENG.TRIG_PLAYER k) != t F.AENG.TRIG_OWNER k) rNotOwner k)
      ++ players.flatMap (fun r => failArg (!v.s.bufOk 0x60 (t F.AENG.PLAY_CFG_OWNER r) false (addr r)
        (t F.AENG.PLAY_FRAMES r * frameBytes (t F.AENG.PLAY_CFG_FORMAT r) (t F.AENG.PLAY_CFG_STEREO r)) false) rBuffer r)⟩

/-- R310. (log 156, DEDUCED) -/
def chkAport (v : View) : Chk :=
  let n := v.f F.APORT.PORT_CFG_FRAME_BITS
  let i2s := v.b F.APORT.PORT_CFG_FRAMING
  let b := slotWidth (v.f F.APORT.PORT_CFG_SLOT_BITS)
  let so := v.f F.APORT.PORT_CFG_SLOTS_OUT + 1
  let si := v.f F.APORT.PORT_CFG_SLOTS_IN + 1
  let total := if v.f F.APORT.PORT_CFG_RATE = 1 then 25600 else 51200
  let wide (k : Nat) : Bool := if i2s then decide (n / 2 < b) else decide (n < k * b)
  ⟨mBRS, [], needsEngine v,
    v.range F.APORT.PORT_CFG_FRAME_BITS 32 1024
      ++ failIf (v.f F.APORT.PORT_CFG_SLOT_BITS == 3) rRange F.APORT.PORT_CFG_SLOT_BITS
      ++ failIf (i2s && si != 2) rRange F.APORT.PORT_CFG_SLOTS_IN ++ failIf (i2s && so != 2) rRange F.APORT.PORT_CFG_SLOTS_OUT,
    failArg (wide so || wide si) rTiming 2
      ++ failArg (v.f F.APORT.PORT_CFG_ROLE == 0 && (total % n != 0 || decide (total / n < 50))) rTiming 1⟩

/-- R315. -/
def chkAsrc (v : View) : Chk :=
  ⟨mBRS, [], needsEngine v,
    v.rangeN F.ASRC.ASRC_CFG_LOCK_TOL 8 1 0xFFFFFF ++ v.rangeN F.ASRC.ASRC_CFG_LOCK_FRAMES 8 1 255, []⟩

/-- R323, R326. (log 155, DEDUCED) -/
def chkAgain (v : View) : Chk :=
  let f (x : Fld) (k : Nat) : Nat := v.f (x.at k)
  let used := (upto 0 128).filter (fun g => f F.AGAIN.TARGET_EN g == 1 || f F.AGAIN.GOWN_DUCK_MASK g != 0)
  let rules := (upto 0 16).filter (fun r => f F.AGAIN.DUCK_KEY_VALID r == 1)
  let o (r : Nat) : Nat := f F.AGAIN.DUCK_KEY_OWNER r
  let i (r : Nat) : Nat := f F.AGAIN.DUCK_KEY_INDEX r
  let keyOwner (r : Nat) : Nat :=
    if f F.AGAIN.DUCK_KEY_KIND r = 0 then v.s.get aengPage (F.AENG.TRIG_OWNER.at (i r))
    else v.s.get ameterPage (F.AMETER.METER_OWN.at (i r))
  ⟨mBRS, [], needsEngine v,
    (upto 0 128).flatMap (fun g => failIf (!audUser (used.contains g) (f F.AGAIN.GOWN_OWNER g)) rRange (F.AGAIN.GOWN_OWNER.at g))
      ++ failIf (v.f F.AGAIN.STEP_CFG_STEP == 0) rRange F.AGAIN.STEP_CFG_STEP
      ++ failIf (v.f F.AGAIN.STEP_CFG_ZC_WAIT == 0) rRange F.AGAIN.STEP_CFG_ZC_WAIT
      ++ (upto 0 16).flatMap (fun r =>
        failIf (!audUser (f F.AGAIN.DUCK_KEY_VALID r == 1) (o r)) rRange (F.AGAIN.DUCK_KEY_OWNER.at r)
          ++ failIf (f F.AGAIN.DUCK_KEY_KIND r == 1 && decide (31 < i r)) rRange (F.AGAIN.DUCK_KEY_INDEX.at r)
          ++ failIf (decide (0x100000 < f F.AGAIN.DUCK_DEPTH_DEPTH r)) rRange (F.AGAIN.DUCK_DEPTH_DEPTH.at r)),
    used.flatMap (fun g => failArg ((upto 0 16).any (fun r =>
        bit (f F.AGAIN.GOWN_DUCK_MASK g) r && !v.s.mayDuck (o r) (f F.AGAIN.GOWN_OWNER g))) 0x41 g)
      ++ rules.flatMap (fun r => failArg (keyOwner r != o r) rNotOwner (0x100 + r))⟩

/-- R324, R334. -/
def chkAbank (v : View) : Chk :=
  let b := v.s.bankOff
  let absent := (b.src ++ b.snk).any (fun e => bit e.toNat 7 && decide (v.s.part.tdm ≤ bits e.toNat 1 0))
  ⟨mBRS, failArg (!v.enable && b.valid && absent) rFused,
    needsEngine v ++ failArg (!v.enable && !b.valid) rDepend,
    failIf (v.f F.ABANK.FADE_CFG == 0) rRange F.ABANK.FADE_CFG,
    failArg (!v.enable && v.s.swapping) rInUse⟩

/-- R330: a meter without an owner is not examined. -/
def chkAmeter (v : View) : Chk :=
  ⟨mBRS, [], needsEngine v,
    (upto 0 32).flatMap (fun m => failIf (v.f (F.AMETER.METER_OWN.at m) != 0 && !audOwner (v.f (F.AMETER.METER_OWN.at m)))
      rRange (F.AMETER.METER_OWN.at m)), []⟩

/-- R331. -/
def chkAclk (v : View) : Chk :=
  chk6 mBRS (v.range F.ACLK.MCLK_CFG_MCLK_SEL_0 0 2 ++ v.range F.ACLK.MCLK_CFG_MCLK_SEL_1 0 2)

/-! Start, stop, apply, reset -/

/-- The state of converter n (R315). -/
def State.convState (s : State) (n : Nat) : Nat := s.get asrcPage (F.ASRC.ASRC_STATE.at n)
def State.setConvState (s : State) (n v : Nat) : State := s.put asrcPage (F.ASRC.ASRC_STATE.at n) v

/-- The converters of port p in their first state (R312). (log 159, DEDUCED) -/
def State.convStart (s : State) (p : Nat) : State :=
  let st := if s.af p F.APORT.PORT_CFG_ROLE = 1 then 2 else if s.af p F.APORT.PORT_CFG_RATE = 1 then 1 else 3
  forL (fun n s =>
    let s := (s.setConv n ConvSt.idle).setConvState n st
    if st = 3 then s.put asrcPage (F.ASRC.ASRC_EST.at n) (12800 * 65536) else s) [2 * p, 2 * p + 1] s

/-- A port starts at tick t. -/
def State.aportStart (s : State) (p t : Nat) : State :=
  let b := aportPage p
  let s := ((s.put b F.APORT.PORT_STATE 1).put b F.APORT.FRAME_SEQ 0).setAport p { APortSt.idle with last := t }
  s.convStart p

/-- A port stops. -/
def State.aportStop (s : State) (p : Nat) : State :=
  let s := (s.put (aportPage p) F.APORT.PORT_STATE 0).setAport p APortSt.idle
  forL (fun n s => (s.setConv n ConvSt.idle).setConvState n 0) [2 * p, 2 * p + 1] s

/-- A commit of a port has applied. -/
def State.aportApply (s old : State) (p t : Nat) : State :=
  let x (z : State) : List Nat := [F.APORT.PORT_CFG_ROLE, F.APORT.PORT_CFG_RATE].map (z.get (aportPage p))
  if s.enabled (aportPage p) ∧ x s ≠ x old then
    ((s.put (aportPage p) F.APORT.PORT_STATE 1).setAport p { APortSt.idle with last := t }).convStart p
  else s

/-- A swap is abandoned (R324). (log 169, DEDUCED) -/
def State.swapOff (s : State) : State :=
  (s.put abankPage F.ABANK.BANK_STATE_PHASE 0).modAudio (fun a => { a with swap := none })

/-- Player r is fetched anew (R327). (log 161, DEDUCED) -/
def State.preload (s : State) (r : Nat) : State :=
  let p := s.get aengPage F.AENG.PLAY_STATE_PRELOADED
  let q := s.get aengPage F.AENG.PLAY_STATE_PLAYING
  let off (v : Nat) : Nat := if bit v r then v - 2 ^ r else v
  let s := (s.put aengPage F.AENG.PLAY_STATE_PRELOADED (off p)).put aengPage F.AENG.PLAY_STATE_PLAYING (off q)
  s.setPlayer r { PlayerSt.idle with pre := s.get aengPage (F.AENG.PLAY_CFG_OWNER.at r) != 0 }

/-- The engine starts at tick t: state memory is initialised (R489) and the players are fetched. (log 154, DEDUCED) -/
def State.aengStart (s : State) (t : Nat) : State :=
  let s := (s.put aengPage F.AENG.SAMPLE_SEQ 0).put aengPage F.AENG.CYCLES_MAX 0
  let s := { s with lineStarts := [] }.modAudio (fun a => { a with lastRun := t, mem := [], sinks := [], gains := [] })
  let s := s.modAudio (fun a => { a with convs := a.convs.map (fun e => (e.1, { e.2 with pos := none })) })
  forL (fun r s => s.preload r) (upto 0 16) s

/-- The engine stops: players stop, and a swap is abandoned. (log 169, DEDUCED) -/
def State.aengStop (s : State) : State :=
  let s := ((s.put aengPage F.AENG.PLAY_STATE_PLAYING 0).put aengPage F.AENG.LAT_TOL 0xFFFFFFFF).reportLat 8 none
  if s.swapping then (s.withdraw abankPage).swapOff else s

/-- A commit of `ENGINE` has applied (R327): players whose configuration changed are fetched. (log 162, DEDUCED) -/
def State.aengApply (s old : State) : State :=
  forL (fun r s =>
    let x (z : State) : List Word := (upto 0 4).map (fun i => z.rd (aengPage + 0x300 + 16 * r + 4 * i))
    if s.enabled aengPage ∧ x s ≠ x old then s.preload r else s) (upto 0 16) s

end Sys2Proof.Machine
end

