-- ==== Sys2Proof/Machine/DramBase.lean ====
section
/-! DEFINITION. The pages of the DRAM controller: their checks, and what their start and stop do (R345, R354–R356,
R360–R364). -/

namespace Sys2Proof.Machine

/-- `DRAM.SCHED`, `POWER` and `ECC`. -/
def dschedPage : Nat := pg 0x30 2
def dpowerPage : Nat := pg 0x30 3
def deccPage : Nat := pg 0x30 4

/-- An enable while `MAP` is disabled (R360). -/
def needsMap (v : View) : List Viol := failArg (v.enable && !v.s.enabled dmapPage) rDepend 1

/-- The `GEOM` word of a channel. -/
def State.geomWord (s : State) (c : Nat) : Word := s.rd (chanPage c + F.DCHAN.GEOM_ROWS.off) &&& 7

/-- The map in force: `MAP_CFG`, then the `GEOM` words. -/
def State.mapWords (s : State) : List Word :=
  s.rd (dmapPage + F.DMAP.MAP_CFG_ORDER.off) :: (upto 0 8).map s.geomWord

/-- R355: the first difference between the map in force and the recorded one after a WARM reset. -/
def State.mapDiff (s : State) : Option Nat :=
  match s.dc.map with
  | some m =>
    if s.dc.warm = false then none
    else if m.head? ≠ s.mapWords.head? then some 0xFF
    else (upto 0 8).find? (fun c => m[c + 1]? != s.mapWords[c + 1]?)
  | none => none

/-- R355. (log 178, DEDUCED) -/
def chkDglob (v : View) : Chk :=
  let s := v.s
  let bad := s.mapChans.find? (fun c => s.get (chanPage c) F.DCHAN.CHAN_STATE_STATE != 2)
  ⟨mBRSR, [],
    needsMap v ++ failArg (v.enable && bad.isSome) 0x40 (bad.getD 0),
    [],
    failArg (v.enable && s.mapDiff.isSome) 0x42 (s.mapDiff.getD 0)⟩

/-- A commit or enable that changes a locked register (R355). (log 16, DEDUCED) -/
def locked (v : View) (l : List Fld) : List Viol :=
  let l := F.HDR.PERIOD_SRC :: l
  match l.find? (fun x => v.changes x) with
  | some x => failIf (v.s.enabled dglobPage) rLocked x
  | none => []

/-- R345. -/
def chkDmap (v : View) : Chk :=
  let m := v.f F.DMAP.MAP_CFG_CH_MASK
  let cs := (upto 0 8).filter (fun c => bit m c)
  let n := cs.length
  let fused := cs.find? (fun c => decide (v.s.part.dramCh ≤ c))
  let geom (c : Nat) : Nat × Nat := (v.get (chanPage c) F.DCHAN.GEOM_RANKS, v.get (chanPage c) F.DCHAN.GEOM_ROWS)
  let differ := cs.find? (fun c => geom c != geom (cs.headD 0))
  let odd := !(n == 1 || n == 2 || n == 4 || n == 8)
  ⟨mBRSR,
    failIf fused.isSome rFused F.DMAP.MAP_CFG_CH_MASK (fused.getD 0),
    locked v [F.DMAP.MAP_CFG_CH_MASK, F.DMAP.MAP_CFG_ORDER],
    failIf (m == 0) rRange F.DMAP.MAP_CFG_CH_MASK,
    failArg (v.f F.DMAP.MAP_CFG_ORDER != 2 && (odd || differ.isSome)) 0x41 (differ.getD 0xFF)⟩

/-- R362. (log 178, DEDUCED) -/
def chkDsched (v : View) : Chk :=
  ⟨mBRSR, [], needsMap v,
    v.range F.DSCHED.SCHED_CFG 1 255 ++ v.range F.DSCHED.AGE_RT 64 1048575 ++ v.range F.DSCHED.AGE_BE 64 1048575
      ++ v.range F.DSCHED.AGE_BG 64 1048575, []⟩
def chkDpower (v : View) : Chk :=
  ⟨mBRSR, [], needsMap v,
    v.range F.DPOWER.PD_CFG_PD_IDLE 16 65535 ++ v.range F.DPOWER.SR_CFG_SR_IDLE 614 1048575
      ++ v.range F.DPOWER.SR_EXIT 512 65535 ++ v.range F.DPOWER.WAKE_GUARD 1024 1048575
      ++ v.range F.DPOWER.BG_WAKE 614400 0xFFFFFFFF, []⟩
def chkDecc (v : View) : Chk := ⟨mBRSR, [], needsMap v, [], []⟩

/-- R355, R363. -/
def chkDchan (v : View) : Chk :=
  let nz (x : Fld) : List Viol := failIf (v.f x == 0) rRange x
  ⟨mBRSR, [],
    locked v [F.DCHAN.GEOM_RANKS, F.DCHAN.GEOM_ROWS, F.DCHAN.TIMING_0_T_RFCPB, F.DCHAN.TIMING_0_T_RAS,
      F.DCHAN.TIMING_0_T_RP, F.DCHAN.TIMING_0_T_RCD, F.DCHAN.TIMING_1_T_WR, F.DCHAN.TIMING_1_T_RFCAB],
    v.range F.DCHAN.GEOM_ROWS 0 2 ++ nz F.DCHAN.TIMING_0_T_RFCPB ++ nz F.DCHAN.TIMING_0_T_RAS
      ++ nz F.DCHAN.TIMING_0_T_RP ++ nz F.DCHAN.TIMING_0_T_RCD ++ nz F.DCHAN.TIMING_1_T_WR ++ nz F.DCHAN.TIMING_1_T_RFCAB, []⟩

/-! The sweep (R356) -/

/-- The granules below V. -/
def State.granules (s : State) : Nat := (s.vBytes + 0x10000000 - 1) / 0x10000000

/-- Granules are swept one at a time, and in ORDER_2 one at a time in each channel. (log 179, DEDUCED) -/
def State.sweepLane (s : State) (q : Nat) : Nat := if s.mapOrder = 2 then (s.dramChan (0x10000000 * q)).1 else 0

/-- The granule that a lane sweeps next: one that requests wait for, in the order of their first request; else the
oldest paused one; else the next unswept one. (log 179, DEDUCED) -/
def State.sweepNext (s : State) (lane : Nat) : Option Nat :=
  let w := s.dc.sweep
  let ok (q : Nat) : Bool := s.sweepLane q == lane && !s.swept q && !w.cur.contains q
  w.want.find? ok <|> w.paused.find? ok <|> (upto 0 s.granules).find? ok

/-- A lane sweeps a granule. -/
def State.sweepTake (s : State) (q : Nat) : State :=
  let s := if s.dc.sweep.want.contains q then s.inc dsweepPage F.DSWEEP.JUMPS else s
  let s := s.modDc (fun d => { d with sweep := { d.sweep with
    cur := d.sweep.cur ++ [q], paused := d.sweep.paused.filter (· != q) } })
  s.put dsweepPage F.DSWEEP.SWEEP_STATE_CURRENT (s.dc.sweep.cur.headD q)

/-- Every lane with nothing to sweep takes its next granule. -/
def State.sweepFill (s : State) : State :=
  forN (fun lane s =>
    if s.dc.sweep.cur.any (fun q => s.sweepLane q == lane) then s
    else match s.sweepNext lane with
      | some q => s.sweepTake q
      | none => s) 8 s

/-- `GLOBAL` starts at tick t: the map is recorded, and the sweep starts after a COLD reset (R355, R356). -/
def State.globalStart (s : State) (t : Nat) : State :=
  let s := s.modDc (fun d => { d with map := some s.mapWords })
  if s.flag dsweepPage F.DSWEEP.SWEEP_STATE_DONE then s
  else
    let s := s.modDc (fun d => { d with sweep := { d.sweep with start := if d.sweep.start = 0 then t else d.sweep.start } })
    (s.put dsweepPage F.DSWEEP.SWEEP_STATE_ACTIVE 1).sweepFill

/-- `GLOBAL` stops: the sweep pauses. (log 185, DEDUCED) -/
def State.globalStop (s : State) : State :=
  let s := s.put dsweepPage F.DSWEEP.SWEEP_STATE_ACTIVE 0
  s.modDc (fun d => { d with sweep := { d.sweep with cur := [], paused := d.sweep.paused ++ d.sweep.cur } })

/-- Training of a channel starts (R354): after a COLD reset its `DRAM_RESET_N` rises. -/
def State.chanStart (s : State) (c : Nat) : State :=
  let s := (s.put (chanPage c) F.DCHAN.CHAN_STATE_STATE 1).put (chanPage c) F.DCHAN.CHAN_STATE_TRAIN_STEP 1
  (s.setDchan c DChan.idle).modDc (fun d => { d with resetN := d.resetN ||| BitVec.ofNat 8 (1 <<< c) })

/-- A channel's page stops. -/
def State.chanStop (s : State) (c : Nat) : State :=
  ((s.put (chanPage c) F.DCHAN.CHAN_STATE_STATE 0).put (chanPage c) F.DCHAN.CHAN_STATE_TRAIN_STEP 0).setDchan c DChan.idle

end Sys2Proof.Machine
end

