-- ==== Sys2Proof/Machine/Transfer.lean ====
section
/-! DEFINITION. The transfer tables of R112: entry i of each table in bits 16i + 15 to 16i, evaluated from the functions
that R112 names, in double precision. -/

namespace Sys2Proof.Machine

/-- `SRGB`: IEC 61966-2-1. -/
def xferSrgb : List Nat :=
  [0x14b0145013e01380131012b0125011e01180112010c0107010100fb00f500f000ea00e500e000da00d500d000cb00c600c100bc00b700b200ad00a800a3009f009a00950090008b00860081007c00770072006d00680063005e00590054004f004a00450040003b00360032002d00280023001e00190014000f000a00050000,
    0x3a003940388037c037003650359034d03420337032b03200315030a02ff02f402ea02df02d402ca02bf02b502ab02a10297028d0283027902700266025c0253024a02400237022e0225021c0214020b020201fa01f101e901e001d801d001c801c001b801b001a801a101990192018a0183017c0175016d0166016001590152,
    0x771075e074c073a07270715070306f206e006ce06bd06ac069a06890678066706560645063506240614060305f305e305d305c305b305a305930584057405650556054705370528051a050b04fc04ee04df04d104c204b404a60498048a047c046f0461045404460439042c041e0411040403f803eb03de03d203c503b903ac,
    0xced0cd30cba0ca10c880c6f0c560c3d0c240c0c0bf30bdb0bc30bab0b930b7b0b630b4c0b340b1d0b050aee0ad70ac00aa90a920a7c0a650a4f0a390a220a0c09f609e109cb09b509a0098a09750960094b09360921090c08f708e308ce08ba08a60892087e086a08560842082f081b080807f407e107ce07bb07a807960783,
    0x143e141d13fc13db13bb139a137a13591339131912f912d912ba129a127a125b123c121d11fe11df11c011a11183116511461128110a10ec10ce10b1109310761058103b101e10010fe40fc80fab0f8f0f720f560f3a0f1e0f020ee60ecb0eaf0e940e780e5d0e420e270e0c0df20dd70dbc0da20d880d6e0d540d3a0d200d06,
    0x1d8a1d611d381d0f1ce61cbd1c941c6c1c441c1c1bf31bcb1ba41b7c1b541b2d1b061adf1ab81a911a6a1a431a1d19f619d019aa1984195e1938191318ed18c818a3187e18591834180f17eb17c617a2177e17591736171216ee16ca16a716841660163d161a15f815d515b21590156e154b1529150714e614c414a214811460,
    0x28f128bf288d285b282a27f827c7279627652734270426d326a326732643261325e325b325832554252524f624c724982469243a240c23de23af23812353232622f822ca229d22702243221621e921bc219021632137210b20df20b32087205b203020051fd91fae1f831f581f2e1f031ed91eae1e841e5a1e301e071ddd1db3,
    0x36903655361b35e035a5356b353134f634bc34833449340f33d6339d3363332a32f232b932803248321031d831a03168313030f830c1308a3053301c2fe52fae2f782f412f0b2ed52e9f2e692e332dfe2dc82d932d5e2d292cf42cbf2c8b2c562c222bee2bba2b862b522b1f2aeb2ab82a852a522a1f29ec29ba298729552923,
    0x4685464145fd45b84574453044ec44a94465442243df439c4359431642d44291424f420d41cb41894147410640c44083404240013fc03f803f3f3eff3ebf3e7f3e3f3dff3dbf3d803d413d013cc23c843c453c063bc83b8a3b4c3b0e3ad03a923a553a1739da399d3960392338e738aa386e383237f637ba377e3742370736cc,
    0x58ea589b584d57ff57b15763571556c8567a562d55e05593554654fa54ad5461541553c9537d533152e6529b524f520451ba516f512450da509050454ffc4fb24f684f1f4ed54e8c4e434dfa4db24d694d214cd84c904c484c014bb94b724b2a4ae34a9c4a554a0f49c84982493b48f548af486a482447df47994754470f46ca,
    0x6dd66d7d6d246ccc6c746c1c6bc46b6c6b146abd6a656a0e69b76960690a68b3685d680767b1675b670566b0665a660565b0655b650664b2645d640963b56361630d62ba6266621361c0616d611a60c8607560235fd15f7f5f2d5edb5e8a5e385de75d965d455cf45ca45c545c035bb35b635b145ac45a755a2559d659875938,
    0x856184fe849a843783d48371830f82ac824a81e88186812480c3806180007f9f7f3e7edd7e7d7e1c7dbc7d5c7cfc7c9c7c3d7bdd7b7e7b1f7ac07a617a0379a4794678e8788a782c77cf7771771476b7765a75fd75a1754474e8748c743073d47379731d72c27267720c71b1715770fc70a270486fee6f946f3b6ee16e886e2f,
    0x9fa19f339ec59e579de99d7b9d0d9ca09c339bc69b599aec9a7f9a1399a7993b98cf986397f8978d972196b7964c95e19577950c94a2943893cf936592fc9292922991c0915890ef9087901e8fb68f4e8ee78e7f8e188db18d4a8ce38c7c8c168baf8b498ae38a7d8a1889b2894d88e88883881e87b9875586f0868c862885c5,
    0xbcacbc32bbb9bb3fbac6ba4db9d4b95bb8e3b86bb7f2b77ab703b68bb614b59cb525b4aeb438b3c1b34bb2d4b25eb1e9b173b0fdb088b013af9eaf29aeb5ae40adccad58ace4ac70abfdab8aab16aaa3aa30a9bea94ba8d9a867a7f5a783a712a6a0a62fa5bea54da4dca46ca3fba38ba31ba2aba23ca1cca15da0eea07fa010,
    0xdc95dc10db8adb05da80d9fcd977d8f3d86fd7ebd767d6e4d660d5ddd55ad4d7d455d3d2d350d2ced24cd1cad149d0c7d046cfc5cf44cec4ce43cdc3cd43ccc3cc43cbc4cb44cac5ca46c9c8c949c8cac84cc7cec750c6d2c655c5d8c55ac4ddc461c3e4c367c2ebc26fc1f3c177c0fcc080c005bf8abf0fbe95be1abda0bd26,
    0xff70fedefe4dfdbcfd2cfc9bfc0bfb7bfaebfa5bf9cbf93cf8acf81df78ff700f671f5e3f555f4c7f439f3acf31ef291f204f177f0ebf05eefd2ef46eebaee2eeda3ed18ec8dec02eb77eaecea62e9d8e94ee8c4e83ae7b1e727e69ee615e58de504e47ce3f4e36ce2e4e25ce1d5e14ee0c7e040dfb9df33deacde26dda0dd1b,
    0xffff]

/-- `PQ`: the SMPTE ST 2084 EOTF, 1.0 being 10,000 cd/m² (log 42). -/
def xferPq : List Nat :=
  [0x1000100010001000100010001000000000000000000000000000000000000000000000000000000000000000000000000000000000000000000000000000000000000000000000000000000000000000000000000000000000000000000000000000000000000000000000000000000000000000000000000000000000000,
    0x4000400040004000300030003000300030003000300030003000300030003000300030003000200020002000200020002000200020002000200020002000200020002000200020002000200010001000100010001000100010001000100010001000100010001000100010001000100010001000100010001000100010001,
    0xd000d000c000c000c000c000c000b000b000b000b000b000a000a000a000a000a000a0009000900090009000900090008000800080008000800080008000700070007000700070007000700060006000600060006000600060006000600050005000500050005000500050005000500050004000400040004000400040004,
    0x210021002000200020001f001f001e001e001d001d001d001c001c001b001b001b001a001a001900190019001800180018001700170017001600160016001500150015001400140014001400130013001300120012001200120011001100110010001000100010000f000f000f000f000f000e000e000e000e000d000d000d,
    0x4c004b004a004900480048004700460045004400430042004200410040003f003e003e003d003c003b003b003a003900380038003700360036003500340034003300320032003100300030002f002f002e002d002d002c002c002b002a002a0029002900280028002700270026002600250025002400240023002300220022,
    0x9f009d009c009a009800970095009300920090008e008d008b008a008800870085008400820081007f007e007c007b007a0078007700760074007300720070006f006e006c006b006a00690068006600650064006300620061005f005e005d005c005b005a0059005800570056005500540053005200510050004f004e004d,
    0x13b013801350131012e012b012801250122011f011c0119011601130110010e010b010801050102010000fd00fa00f800f500f300f000ee00eb00e900e600e400e100df00dd00da00d800d600d300d100cf00cd00ca00c800c600c400c200c000be00bc00ba00b800b600b400b200b000ae00ac00aa00a800a600a500a300a1,
    0x2570251024b02450240023a0234022f02290224021f02190214020f020a020501ff01fa01f501f001ec01e701e201dd01d801d401cf01ca01c601c101bd01b801b401b001ab01a701a3019f019b01960192018e018a01860182017e017b01770173016f016c016801640161015d015901560152014f014c014801450142013e,
    0x4530448043e0434042a04200416040c040203f803ef03e503dc03d303c903c003b703ae03a5039c0394038b0382037a0371036903610358035003480340033803300329032103190312030a030302fb02f402ed02e502de02d702d002c902c202bc02b502ae02a802a1029b0294028e02870281027b0275026f02690263025d,
    0x7d707c407b207a0078e077c076b075a0748073707260715070506f406e406d406c406b406a40694068506750666065706480639062b061c060e05ff05f105e305d505c705ba05ac059f059105840577056a055d055005440537052b051e0512050604fa04ee04e204d704cb04c004b404a9049e04930488047d04720468045d,
    0xe090de90dc90da90d890d6a0d4b0d2d0d0e0cf00cd20cb50c970c7a0c5e0c410c250c090bed0bd10bb60b9b0b800b650b4b0b310b170afd0ae40acb0ab20a990a800a680a500a380a200a0909f109da09c309ad09960980096a0954093e0929091308fe08e908d508c008ac08970883086f085c084808350822080f07fc07e9,
    0x18f418bb1882184a181317dc17a5176f173a170516d0169c16681635160215d0159e156d153c150b14db14ab147c144d141f13f113c313961369133c131012e512ba128f1264123a121011e711be1195116d1145111d10f610cf10a81082105c103710120fed0fc80fa40f800f5c0f390f160ef30ed10eaf0e8d0e6c0e4a0e2a,
    0x2c412bdc2b782b152ab22a5129f02991293228d42877281a27bf2764270a26b12659260125ab2555250024ab2458240523b32361231022c02271222321d52188213b20ef20a4205a20101fc71f7e1f361eef1ea91e631e1d1dd91d951d511d0e1ccc1c8a1c491c091bc91b891b4a1b0c1ace1a911a541a1819dd19a21967192d,
    0x4ea14dec4d394c884bd84b2a4a7d49d24929488147db4736469245f1455044b14414437842dd424441ac411540803fed3f5a3ec93e393dab3d1e3c923c073b7e3af63a6f39e9396538e1385f37de375f36e0366235e6356b34f13478340033893313329f322b31b8314730d630672ff82f8b2f1e2eb22e482dde2d752d0e2ca7,
    0x8c878b4089fb88ba877c8641850983d382a1817180447f1b7df37ccf7bad7a8e797278587741762d751b740b72fe71f470ec6fe76ee46de36ce56be96aef69f869036810672066326546645c6374628f61ab60ca5fea5f0d5e325d595c825bac5ad95a085938586b579f56d6560e5548548353c153005241518450c9500f4f57,
    0xfda8fb4df8f8f6a9f460f21cefdeeda5eb72e944e71be4f8e2dae0c1deaedc9fda96d891d692d497d2a1d0b0cec4ccddcafac91bc742c56cc39cc1cfc007be44bc84bac9b912b760b5b1b407b260b0beaf1fad85abeeaa5ba8cca741a5b9a435a2b5a1389fbf9e4a9cd89b6a99ff9897973395d29474931a91c3906f8f1f8dd1,
    0xffff]

/-- `HLG`: the BT.2100 inverse OETF. -/
def xferHlg : List Nat :=
  [0x530050004e004b0049004600440041003f003d003b00380036003400320030002e002c002a002800270025002300210020001e001d001b001a0018001700150014001300120010000f000e000d000c000b000a0009000800080007000600050005000400040003000300020002000100010001000100000000000000000000,
    0x150014b01460140013b01360131012c01270122011d01180114010f010a0105010100fc00f800f300ef00ea00e600e100dd00d900d500d000cc00c800c400c000bc00b800b400b000ad00a900a500a1009e009a009700930090008c008900850082007f007c007800750072006f006c0069006600630060005e005b00580055,
    0x2f802f002e802e002d902d102c902c102ba02b202ab02a3029c0294028d0285027e0277027002680261025a0253024c0245023e02370230022a0223021c0215020f0208020201fb01f501ee01e801e101db01d501cf01c801c201bc01b601b001aa01a4019e01980193018d01870181017c01760171016b01660160015b0155,
    0x54b05400536052b05210516050c050104f704ed04e304d804ce04c404ba04b004a6049c04920488047f0475046b04610458044e0445043b04320428041f0415040c040303fa03f003e703de03d503cc03c303ba03b103a803a00397038e0385037d0374036c0363035b0352034a034103390331032903200318031003080300,
    0x848083b082e08200813080607f907ec07df07d207c507b807ac079f079207850779076c076007530747073a072e07210715070906fd06f006e406d806cc06c006b406a8069c069006850679066d06610656064a063f06330628061c0611060505fa05ef05e405d805cd05c205b705ac05a10596058b05800576056b05600555,
    0xbf00be00bd00bc00bb10ba10b910b810b720b620b530b430b340b240b150b050af60ae70ad80ac80ab90aaa0a9b0a8c0a7d0a6e0a5f0a500a420a330a240a150a0709f809ea09db09cd09be09b009a10993098509770968095a094c093e093009220914090608f808eb08dd08cf08c108b408a60899088b087e087008630855,
    0x10431030101e100b0ff90fe60fd40fc10faf0f9d0f8b0f780f660f540f420f300f1e0f0c0efa0ee80ed70ec50eb30ea10e900e7e0e6d0e5b0e4a0e380e270e150e040df30de20dd00dbf0dae0d9d0d8c0d7b0d6a0d590d480d380d270d160d050cf50ce40cd40cc30cb30ca20c920c810c710c610c510c400c300c200c100c00,
    0x1540152b1516150014eb14d614c114ac14971482146d14581444142f141a140513f113dc13c813b3139f138a13761361134d13391325131012fc12e812d412c012ac129812841270125d124912351221120e11fa11e711d311c011ac119911851172115f114c11381125111210ff10ec10d910c610b310a0108e107b10681055,
    0x1b9a1b7c1b5e1b401b231b051ae81acb1aae1a911a751a581a3c1a201a0419e819cd19b11996197b195f1945192a190f18f518da18c018a6188c18721859183f1826180d17f417db17c217a9179117791760174817301718170116e916d116ba16a3168c1675165e16471631161a160415ee15d815c215ac15961580156b1555,
    0x249b24712446241c23f223c9239f2376234d232422fc22d322ab2283225c2234220d21e621bf21992172214c2126210120db20b62091206c204720221ffe1fda1fb61f921f6f1f4b1f281f051ee21ec01e9d1e7b1e591e371e161df41dd31db21d911d701d4f1d2f1d0f1cef1ccf1caf1c901c701c511c321c131bf51bd61bb8,
    0x3161312530e930ad307230372ffc2fc12f872f4d2f142edb2ea22e692e312df92dc22d8a2d532d1d2ce62cb02c7a2c452c0f2bda2ba62b712b3d2b092ad62aa32a702a3d2a0b29d829a729752944291328e228b128812851282127f227c3279427652736270826da26ad267f2652262525f825cc25a025742548251c24f124c6,
    0x437f432a42d44280422b41d84184413140df408d403c3fea3f9a3f4a3efa3eab3e5c3e0d3dbf3d713d243cd83c8b3c3f3bf43ba93b5e3b143aca3a803a3739ee39a6395e391738d03889384237fc37b73772372d36e836a43661361d35da35983555351434d234913450341033cf33903350331132d232943256321831db319e,
    0x5d325cb85c3f5bc75b505ad95a6359ed597859045890581d57ab573956c8565855e85578550a549c542e53c1535552e9527e521351aa514050d7506f50074fa04f3a4ed44e6e4e094da54d414cde4c7b4c194bb84b574af64a964a3649d74979491b48bd4861480447a8474d46f24697463d45e4458b453244da4483442c43d5,
    0x81a480f8804c7fa27ef97e507da87d027c5c7bb77b137a7079ce792c788c77ec774d76b07613757674db744173a7730e727671df714970b3701f6f8b6ef86e666dd46d446cb46c256b966b096a7c69f0696568da685167c8673f66b8663165ab652664a1641e639a63186296621561956116609760185f9b5f1e5ea25e275dac,
    0xb556b461b36eb27db18cb09dafb0aec3add8aceeac05ab1eaa38a953a870a78da6aca5cca4eda410a334a259a17fa0a69fcf9ef89e239d4f9c7c9bab9ada9a0b993c986f97a396d8960e9546947e93b792f2922d916a90a88fe78f268e678da98cec8c308b758abb8a02894a889487de8729867585c28510845f83af82ff8251,
    0xfea8fd4dfbf5fa9ef949f7f6f6a5f555f408f2bcf172f02aeee4ed9fec5ceb1be9dce89ee762e628e4f0e3b9e284e151e01fdeefddc1dc94db69da40d918d7f2d6cdd5aad489d369d24ad12ed013cef9cde1cccacbb5caa2c990c87fc770c663c556c44cc343c23bc134c030bf2cbe2abd29bc2abb2cba30b935b83bb743b64c,
    0xffff]

/-- `GAMMA24`. -/
def xferGamma : List Nat :=
  [0x51004e004b0048004500430040003d003b0038003600330031002f002c002a00280026002400220021001f001d001b001a0018001700150014001300110010000f000e000d000c000b000a00090008000700070006000500050004000400030003000200020002000100010001000100000000000000000000000000000000,
    0x1b501ad01a5019d0195018d0185017e0176016f0167016001590152014a0144013d0136012f01280122011b0115010f0109010200fc00f600f100eb00e500df00da00d400cf00ca00c500bf00ba00b500b000ac00a700a2009e009900950090008c008800840080007c007800740070006c006900650062005e005b00580054,
    0x48d047e047004610453044504370429041b040d040003f203e503d803ca03bd03b003a30397038a037d037103640358034c034003340328031c0311030502f902ee02e302d802cd02c202b702ac02a10297028c02820278026d02630259024f0246023c02320229021f0216020d020401fa01f201e901e001d701cf01c601be,
    0x91b090508ef08d908c408ae08990884086f085a08450831081c080807f307df07cb07b707a3078f077c076807550742072e071b070806f606e306d006be06ac069906870675066306510640062e061d060b05fa05e905d805c705b605a6059505850575056405540544053405250515050504f604e704d704c804b904aa049b,
    0xf950f770f590f3c0f1e0f010ee30ec60ea90e8c0e6f0e530e360e1a0dfe0de20dc60daa0d8e0d720d570d3c0d200d050cea0ccf0cb50c9a0c800c650c4b0c310c170bfd0be40bca0bb10b970b7e0b650b4c0b330b1b0b020aea0ad10ab90aa10a890a710a5a0a420a2b0a1309fc09e509ce09b709a0098a0973095d09470931,
    0x182b180417dd17b71791176a1744171f16f916d316ae16891663163e161a15f515d015ac15881563153f151b14f814d414b1148d146a14471424140113df13bc139a137713551333131212f012ce12ad128c126a12491229120811e711c711a61186116611461126110710e710c810a81089106a104b102d100e0ff00fd10fb3,
    0x230422d422a422742245221521e621b721882159212a20fc20cd209f2071204320151fe81fba1f8d1f5f1f321f061ed91eac1e801e531e271dfb1dcf1da31d781d4c1d211cf61ccb1ca01c751c4b1c201bf61bcc1ba21b781b4e1b251afb1ad21aa91a801a571a2f1a0619de19b5198d1965193d191618ee18c7189f18781851,
    0x3047300d2fd32f992f602f272eed2eb42e7c2e432e0a2dd22d9a2d622d2a2cf22cba2c832c4c2c152bde2ba72b702b3a2b032acd2a972a612a2b29f629c1298b2956292128ec28b82883284f281b27e727b3277f274c271826e526b2267f264c261a25e725b525832551251f24ed24bb248a2459242823f723c6239523652334,
    0x40153fd03f8c3f483f043ec13e7d3e3a3df63db33d703d2e3ceb3ca93c673c243be33ba13b5f3b1e3add3a9c3a5b3a1a39d939993959391838d938993859381a37da379b375c371e36df36a03662362435e635a8356b352d34f034b33476343933fc33c033833347330b32cf32933258321c31e131a6316b313030f630bb3081,
    0x528d523e51ef51a05151510350b4506650184fca4f7c4f2f4ee14e944e474dfa4dae4d614d154cc94c7d4c314be54b9a4b4e4b034ab84a6d4a2349d8498e494448fa48b04867481d47d4478b474246f946b04668462045d845904548450044b94472442b43e4439d4357431042ca4284423e41f841b3416d412840e3409e4059,
    0x67ce6774671966bf6665660b65b1655864fe64a5644c63f3639b634262ea6292623a61e2618a613360dc6085602e5fd75f815f2a5ed45e7e5e295dd35d7d5d285cd35c7e5c295bd55b815b2c5ad85a845a3159dd598a593758e45891583f57ec579a574856f656a45653560155b0555f550e54bd546d541d53cc537c532d52dd,
    0x7ff37f8d7f267ec07e5b7df57d8f7d2a7cc57c607bfb7b977b337ace7a6a7a0779a3794078dc7879781677b4775176ef768d762b75c97568750674a5744473e37383732272c27262720271a2714270e3708470256fc66f676f096eab6e4d6def6d916d346cd66c796c1c6bbf6b636b066aaa6a4e69f26996693b68df68846829,
    0x9b169aa39a3199bf994d98db986997f89787971696a5963495c4955494e4947494049395932592b6924791d8916a90fc908d90208fb28f448ed78e6a8dfd8d908d238cb78c4a8bde8b738b078a9b8a3089c5895a88ef8885881a87b0874686dd8673860a85a0853784ce846683fd8395832d82c5825d81f6818f812780c0805a,
    0xb950b8d1b852b7d3b755b6d6b658b5dab55db4dfb462b3e5b368b2ebb26eb1f2b176b0fab07eb003af87af0cae91ae17ad9cad22aca7ac2dabb4ab3aaac1aa48a9cfa956a8dda865a7eda775a6fda685a60ea596a51fa4a9a432a3bca345a2cfa259a1e4a16ea0f9a084a00f9f9a9f269eb19e3d9dc99d569ce29c6f9bfc9b89,
    0xdab9da2dd9a1d916d88ad7ffd774d6e9d65fd5d4d54ad4c0d436d3add323d29ad211d188d100d077cfefcf67cee0ce58cdd1cd4accc3cc3ccbb5cb2fcaa9ca23c99dc918c892c80dc788c704c67fc5fbc577c4f3c46fc3ebc368c2e5c262c1dfc15dc0dbc059bfd7bf55bed3be52bdd1bd50bccfbc4fbbcfbb4ebacfba4fb9cf,
    0xff68fecffe36fd9dfd04fc6cfbd3fb3bfaa3fa0cf974f8ddf846f7aff719f683f5ecf556f4c1f42bf396f301f26cf1d7f143f0aef01aef87eef3ee5fedcced39eca6ec14eb81eaefea5de9cbe93ae8a8e817e786e6f6e665e5d5e544e4b5e425e395e306e277e1e8e159e0cbe03ddfaedf21de93de05dd78dcebdc5edbd2db45,
    0xffff]

/-- Entry i of a table held 64 entries a word. (log 42, PRESUMED) -/
def xferAt (t : List Nat) (i : Nat) : Nat := bits (t.getD (i / 64) 0) (16 * (i % 64) + 15) (16 * (i % 64))

end Sys2Proof.Machine
end

