-- ==== Sys2Proof/Machine/Pixel.lean ====
section
/-! DEFINITION. The arithmetic of the pixel pipeline (R99, R105–R117, R121–R129): one pixel at a time. -/

namespace Sys2Proof.Machine

/-- A pixel of four 16-bit lanes. -/
structure Px where
  r : Nat
  g : Nat
  b : Nat
  a : Nat
  deriving DecidableEq, Repr

/-- An arithmetic shift to the right, which rounds toward minus infinity. -/
def asr (x : Int) (n : Nat) : Int := x / ((2 ^ n : Nat) : Int)

/-- clamp(x, 0, 65,535). -/
def clamp16 (x : Int) : Nat := if x < 0 then 0 else if 65535 < x then 65535 else x.toNat

/-- R99. -/
def mul16 (a b : Nat) : Nat := (a * b + 32768 + (a * b + 32768) / 65536) / 65536

/-- `lut1025` of R99. (log 118, DEDUCED) -/
def lut1025 (t : Nat → Nat) (x : Nat) : Nat :=
  let j := x / 64
  clamp16 ((t j : Int) + asr (((t (j + 1) : Int) - (t j : Int)) * ((x % 64 : Nat) : Int) + 32) 6)

/-! Formats (R105) -/

/-- The format exists, on a graphic layer page for `vid` false. -/
def fmtOk (vid : Bool) (f : Nat) : Bool := decide (f < 8) || (vid && decide (0x20 ≤ f) && decide (f < 0x28))

/-- A YCbCr format. -/
def fmtYuv (f : Nat) : Bool := decide (0x20 ≤ f)

/-- 4:2:0, and 4:2:2 with YUYV. -/
def fmt420 (f : Nat) : Bool := f == 0x20 || f == 0x21 || f == 0x23 || f == 0x26
def fmt422 (f : Nat) : Bool := f == 0x22 || f == 0x24 || f == 0x25

/-- The planes of a format: bytes per sample of the plane, and by how much it divides width and height. -/
def fmtPlanes (f : Nat) : List (Nat × Nat × Nat) :=
  if f = 4 then [(2, 1, 1)]
  else if f = 6 ∨ f = 7 then [(8, 1, 1)]
  else if f < 8 then [(4, 1, 1)]
  else if f = 0x20 ∨ f = 0x21 then [(1, 1, 1), (2, 2, 2)]
  else if f = 0x22 then [(1, 1, 1), (2, 2, 1)]
  else if f = 0x23 then [(2, 1, 1), (4, 2, 2)]
  else if f = 0x24 then [(2, 1, 1), (4, 2, 1)]
  else if f = 0x25 then [(2, 1, 1)]
  else if f = 0x26 then [(1, 1, 1), (1, 2, 2), (1, 2, 2)]
  else [(1, 1, 1), (1, 1, 1), (1, 1, 1)]

/-- The configuration of a layer that the pipeline uses. -/
structure LayCfg where
  vid : Bool
  fmt : Nat
  chromaV : Bool
  chromaH : Bool
  full : Bool
  matrix : Nat
  transfer : Nat
  alphaMode : Nat
  reflexMode : Nat
  add : Bool
  galpha : Nat
  gain : Nat
  fall : Px
  sx : Nat
  sy : Nat
  sw : Nat
  sh : Nat
  dx : Int
  dy : Int
  dw : Nat
  dh : Nat
  hInit : Int
  vInit : Int
  hBank : Nat
  vBank : Nat
  deriving DecidableEq, Repr

/-- Every pixel of the layer has alpha 65,535 (R106, R124). -/
def LayCfg.solid (c : LayCfg) : Bool :=
  c.alphaMode == 2 || c.fmt == 1 || c.fmt == 3 || c.fmt == 4 || fmtYuv c.fmt

/-- `H_STEP` and `V_STEP` (R114). -/
def scaleStep (s d : Nat) : Nat := (s * 65536 + d / 2) / max 1 d
def LayCfg.hStep (c : LayCfg) : Nat := scaleStep c.sw c.dw
def LayCfg.vStep (c : LayCfg) : Nat := scaleStep c.sh c.dh

/-! Stage 1 -/

/-- The bytes of a crop: plane, crop line of the plane, byte of the crop line. -/
abbrev CropBytes := Nat → Nat → Nat → Nat

/-- n bytes of a crop, little-endian. -/
def cropWord (rd : CropBytes) (p y b : Nat) : Nat → Nat
  | 0 => 0
  | n + 1 => rd p y b + 256 * cropWord rd p y (b + 1) n

/-- A half-precision sample (R106). -/
def half16 (h : Nat) : Nat :=
  let e := bits h 14 10
  let m := h % 1024
  if bit h 15 ∨ (e = 31 ∧ m ≠ 0) then 0
  else if 15 ≤ e then 65535
  else
    let num := if e = 0 then 2 * m else (1024 + m) * 2 ^ e
    (num * 65535 * 2 + 2 ^ 25) / 2 ^ 26

/-- An RGB format's pixel, widened (R105, R106). (log 110, DEDUCED) -/
def rgbAt (f : Nat) (rd : CropBytes) (x y : Nat) : Px :=
  let w := cropWord rd 0 y (4 * x) 4
  let v := cropWord rd 0 y (8 * x) 8
  let u := cropWord rd 0 y (2 * x) 2
  let b8 (i : Nat) : Nat := bits w (8 * i + 7) (8 * i) * 257
  let b10 (i : Nat) : Nat := bits w (10 * i + 9) (10 * i) * 64 + bits w (10 * i + 9) (10 * i) / 16
  let w5 (n : Nat) : Nat := n * 2048 + n * 64 + n * 2 + n / 16
  let w6 (n : Nat) : Nat := n * 1024 + n * 16 + n / 4
  let s16 (i : Nat) : Nat := bits v (16 * i + 15) (16 * i)
  match f with
  | 0 => ⟨b8 2, b8 1, b8 0, b8 3⟩
  | 1 => ⟨b8 2, b8 1, b8 0, 65535⟩
  | 2 => ⟨b8 0, b8 1, b8 2, b8 3⟩
  | 3 => ⟨b8 0, b8 1, b8 2, 65535⟩
  | 4 => ⟨w5 (bits u 15 11), w6 (bits u 10 5), w5 (bits u 4 0), 65535⟩
  | 5 => ⟨b10 2, b10 1, b10 0, bits w 31 30 * 0x5555⟩
  | 6 => ⟨s16 0, s16 1, s16 2, s16 3⟩
  | _ => ⟨half16 (s16 0), half16 (s16 1), half16 (s16 2), half16 (s16 3)⟩

/-- A 10-bit sample in bits 15:6 of its word, left-aligned. -/
def top10 (w : Nat) : Nat := w / 64 * 64

/-- The luma sample of a pixel. -/
def lumaAt (f : Nat) (rd : CropBytes) (x y : Nat) : Nat :=
  if f = 0x23 ∨ f = 0x24 then top10 (cropWord rd 0 y (2 * x) 2)
  else if f = 0x25 then rd 0 y (2 * x) * 256
  else rd 0 y x * 256

/-- The chroma samples (Cb, Cr) at chroma coordinates. -/
def chromaAt (f : Nat) (rd : CropBytes) (i k : Nat) : Nat × Nat :=
  if f = 0x21 then (rd 1 k (2 * i + 1) * 256, rd 1 k (2 * i) * 256)
  else if f = 0x20 ∨ f = 0x22 then (rd 1 k (2 * i) * 256, rd 1 k (2 * i + 1) * 256)
  else if f = 0x23 ∨ f = 0x24 then (top10 (cropWord rd 1 k (4 * i) 2), top10 (cropWord rd 1 k (4 * i + 2) 2))
  else if f = 0x25 then (rd 0 k (4 * i + 1) * 256, rd 0 k (4 * i + 3) * 256)
  else (rd 1 k i * 256, rd 2 k i * 256)

/-! Stages 2 and 3 -/

/-- Chroma upsampling along one axis (R110), with n samples. -/
def upsample (inter : Bool) (n : Nat) (c : Nat → Nat) (x : Nat) : Nat :=
  let k := x / 2
  let cc (i : Nat) : Nat := c (min i (n - 1))
  if inter then
    if x % 2 = 0 then (3 * cc k + cc (k - 1) + 2) / 4 else (3 * cc k + cc (k + 1) + 2) / 4
  else if x % 2 = 0 then cc k
  else (cc k + cc (k + 1) + 1) / 2

/-- A chroma channel at full resolution (R110). -/
def LayCfg.chroma (c : LayCfg) (ch : Nat → Nat → Nat) (x y : Nat) : Nat :=
  if fmt420 c.fmt then
    upsample c.chromaH (c.sw / 2) (fun i => upsample c.chromaV (c.sh / 2) (fun k => ch i k) y) x
  else if fmt422 c.fmt then upsample c.chromaH (c.sw / 2) (fun i => ch i y) x
  else ch x y

/-- Yoff, L, Crv, Cgu, Cgv, Cbu of R111. -/
def matrixRow (m : Nat) (full : Bool) : Int × Int × Int × Int × Int × Int :=
  match m, full with
  | 0, false => (4096, 19152, 29487, 3508, 8765, 34745)
  | 0, true => (0, 16384, 25802, 3069, 7670, 30402)
  | 1, false => (4096, 19152, 26251, 6444, 13372, 33179)
  | 1, true => (0, 16384, 22970, 5638, 11700, 29032)
  | _, false => (4096, 19152, 27611, 3081, 10698, 35228)
  | _, true => (0, 16384, 24160, 2696, 9361, 30825)

/-- The matrix stage (R111). -/
def yuvToRgb (m : Nat) (full : Bool) (yy u v : Nat) : Px :=
  match matrixRow m full with
  | (off, l, crv, cgu, cgv, cbu) =>
    let y := (yy : Int) - off
    let cb := (u : Int) - 32768
    let cr := (v : Int) - 32768
    let q (x : Int) : Nat := clamp16 (asr (x + 8192) 14)
    ⟨q (l * y + crv * cr), q (l * y - cgu * cb - cgv * cr), q (l * y + cbu * cb), 65535⟩

/-- Stages 1–3: the non-linear pixel of a crop. -/
def LayCfg.decoded (c : LayCfg) (rd : CropBytes) (x y : Nat) : Px :=
  if fmtYuv c.fmt then
    yuvToRgb c.matrix c.full (lumaAt c.fmt rd x y) (c.chroma (fun i k => (chromaAt c.fmt rd i k).1) x y)
      (c.chroma (fun i k => (chromaAt c.fmt rd i k).2) x y)
  else rgbAt c.fmt rd x y

/-! Stage 4 -/

/-- Linearisation (R112). -/
def linear (t x : Nat) : Nat :=
  match t with
  | 1 => x
  | 2 => lut1025 (xferAt xferPq) x
  | 3 => lut1025 (xferAt xferHlg) x
  | 4 => lut1025 (xferAt xferGamma) x
  | _ => lut1025 (xferAt xferSrgb) x

/-- Gain and premultiplication (R113). -/
def LayCfg.lit (c : LayCfg) (rd : CropBytes) (x y : Nat) : Px :=
  let p := c.decoded rd x y
  let l (v : Nat) : Nat := min ((linear c.transfer v * c.gain + 8192) / 16384) 65535
  if fmtYuv c.fmt ∨ c.alphaMode = 2 then ⟨l p.r, l p.g, l p.b, 65535⟩
  else if c.alphaMode = 1 then ⟨l p.r, l p.g, l p.b, p.a⟩
  else ⟨mul16 (l p.r) p.a, mul16 (l p.g) p.a, mul16 (l p.b) p.a, p.a⟩

/-! Stage 4a -/

/-- Position of destination pixel n (R115): source pixel and phase. -/
def scalePos (init : Int) (step n : Nat) : Int × Nat :=
  let pos := init + (n * step + step / 2 : Nat) - 32768
  (asr pos 16, (asr pos 10 % 64).toNat)

/-- A source coordinate replicated at the crop's edges. -/
def edge (n : Nat) (i : Int) : Nat := if i < 0 then 0 else min i.toNat (n - 1)

/-- The coefficients of a scaler: direction (1 vertical), phase and tap of the bank in force. -/
abbrev Coefs := Nat → Nat → Nat → Int

/-- A lane of the scaler's output (R116). -/
def LayCfg.scaled (c : LayCfg) (co : Coefs) (lane : Nat → Nat → Nat) (n m : Nat) : Nat :=
  let v := scalePos c.vInit c.vStep m
  let h := scalePos c.hInit c.hStep n
  let col (x : Nat) : Nat :=
    clamp16 (asr ((upto 0 4).foldl (fun a k => a + co 1 v.2 k * (lane x (edge c.sh (v.1 - 1 + (k : Int))) : Int)) 512) 10)
  clamp16 (asr ((upto 0 8).foldl (fun a k => a + co 0 h.2 k * (col (edge c.sw (h.1 - 3 + (k : Int))) : Int)) 512) 10)

/-- Destination pixel (n, m) after stage 4a. -/
def LayCfg.dest (c : LayCfg) (co : Coefs) (rd : CropBytes) (n m : Nat) : Px :=
  if c.vid then
    let l (f : Px → Nat) : Nat := c.scaled co (fun x y => f (c.lit rd x y)) n m
    ⟨l Px.r, l Px.g, l Px.b, l Px.a⟩
  else c.lit rd n m

/-! Stages 4b and 5 -/

/-- Global alpha (R121). -/
def Px.scale (p : Px) (g : Nat) : Px := ⟨mul16 p.r g, mul16 p.g g, mul16 p.b g, mul16 p.a g⟩

/-- The blend of one layer's output onto a colour (R123). -/
def blendPx (add : Bool) (s c : Px) : Px :=
  let f (cs cc : Nat) : Nat := if add then min (cs + cc) 65535 else min (cs + mul16 cc (65535 - s.a)) 65535
  ⟨f s.r c.r, f s.g c.g, f s.b c.b, 65535⟩

/-! Stages 6–8 -/

/-- Stage 6 (R129), with the nine coefficients. -/
def gamut (m : Nat → Int) (c : Px) : Px :=
  let o (i : Nat) : Nat :=
    clamp16 (asr (m (3 * i) * (c.r : Int) + m (3 * i + 1) * (c.g : Int) + m (3 * i + 2) * (c.b : Int) + 8192) 14)
  ⟨o 0, o 1, o 2, c.a⟩

/-- The matrix B of R129. -/
def ditherB (y x : Nat) : Nat := [0, 8, 2, 10, 12, 4, 14, 6, 3, 11, 1, 9, 15, 7, 13, 5].getD (4 * (y % 4) + x % 4) 0

/-- The ROUND rule of R129 to n bits. -/
def roundTo (n v : Nat) : Nat := min ((v + 2 ^ (15 - n)) / 2 ^ (16 - n)) (2 ^ n - 1)

/-- Stage 8 for one channel (R129): dither mode, bits, position, frame sequence. -/
def dither (mode n x y f v : Nat) : Nat :=
  let d :=
    if mode = 1 then ditherB y x
    else ditherB (y + f % 16 / 4) (x + f % 16)
  if mode = 0 then roundTo n v else min ((v + (2 * d + 1) * 2 ^ (11 - n)) / 2 ^ (16 - n)) (2 ^ n - 1)

/-- The link word of a pixel: 8 bits a channel with R lowest, or the 30-bit word of R164. -/
def linkWord (deep : Bool) (p : Px) : Nat :=
  if deep then p.r * 0x100000 + p.g * 0x400 + p.b else p.r + p.g * 0x100 + p.b * 0x10000

/-- Its bytes as a region check and a hold frame take them (R164, R178). -/
def linkBytes (deep : Bool) (w : Nat) : List Nat :=
  if deep then [w % 256, w / 0x100 % 256, w / 0x10000 % 256, w / 0x1000000 % 256]
  else [w % 256, w / 0x100 % 256, w / 0x10000 % 256]

/-- The pixel of a link word. -/
def linkPx (deep : Bool) (w : Nat) : Px :=
  if deep then ⟨w / 0x100000 % 1024, w / 0x400 % 1024, w % 1024, 65535⟩ else ⟨w % 256, w / 0x100 % 256, w / 0x10000 % 256, 65535⟩

/-- A pixel in a writeback format (R130, R131): 16-bit lanes for taps 0 and 1, link bits for tap 2. -/
def wbBytes (fmt tap : Nat) (p : Px) : List Byte :=
  if fmt = 0 then natBytes' 8 (p.r * 2 ^ 48 + p.g * 2 ^ 32 + p.b * 2 ^ 16 + 0xFFFF)
  else
    let q (n v : Nat) : Nat := if tap = 2 then v else roundTo n v
    if fmt = 1 then natBytes' 4 (0xC0000000 + q 10 p.r * 0x100000 + q 10 p.g * 0x400 + q 10 p.b)
    else natBytes' 4 (0xFF000000 + q 8 p.r * 0x10000 + q 8 p.g * 0x100 + q 8 p.b)
where
  natBytes' : Nat → Nat → List Byte
    | 0, _ => []
    | n + 1, v => BitVec.ofNat 8 v :: natBytes' n (v / 256)

end Sys2Proof.Machine
end

