-- ==== Sys2Proof/Machine/LayBase.lean ====
section
/-! DEFINITION. Layers: configuration, geometry and visibility (R102, R109, R114, R120, R122), and the checks of layer,
colour, region, writeback and head pages (R101, R105–R108, R118, R119, R133, R134, R141, R177). -/

namespace Sys2Proof.Machine

/-! Configuration -/

/-- The configuration of a layer from the values of its fields. -/
def layCfgOf (vid : Bool) (g : Fld → Nat) : LayCfg where
  vid := vid
  fmt := g F.LAYER.FORMAT_FMT
  chromaV := g F.LAYER.FORMAT_CHROMA_V != 0
  chromaH := g F.LAYER.FORMAT_CHROMA_H != 0
  full := g F.LAYER.FORMAT_RANGE != 0
  matrix := g F.LAYER.FORMAT_MATRIX
  transfer := g F.LAYER.FORMAT_TRANSFER
  alphaMode := g F.LAYER.FORMAT_ALPHA_MODE
  reflexMode := g F.LAYER.BLEND_REFLEX_MODE
  add := g F.LAYER.BLEND_BLEND_MODE == 1
  galpha := g F.LAYER.BLEND_GLOBAL_ALPHA
  gain := g F.LAYER.LIN_GAIN
  fall := ⟨g F.LAYER.FALLBACK_RG_R, g F.LAYER.FALLBACK_RG_G, g F.LAYER.FALLBACK_BA_B, g F.LAYER.FALLBACK_BA_A⟩
  sx := g F.LAYER.SRC_ORIGIN_X
  sy := g F.LAYER.SRC_ORIGIN_Y
  sw := g F.LAYER.SRC_SIZE_W
  sh := g F.LAYER.SRC_SIZE_H
  dx := sext 16 (g F.LAYER.DST_POS_X)
  dy := sext 16 (g F.LAYER.DST_POS_Y)
  dw := if vid then g F.LAYER.DST_SIZE_W else g F.LAYER.SRC_SIZE_W
  dh := if vid then g F.LAYER.DST_SIZE_H else g F.LAYER.SRC_SIZE_H
  hInit := sext 20 (g F.LAYER.SCALE_H_INIT)
  vInit := sext 20 (g F.LAYER.SCALE_V_INIT)
  hBank := g F.LAYER.SCALE_BANK_H_BANK
  vBank := g F.LAYER.SCALE_BANK_V_BANK

/-- A plane of a layer: space, base address, stride, and bytes per sample with its divisions of width and height. -/
structure Plane where
  space : Nat
  addr : Nat
  stride : Nat
  bps : Nat
  hd : Nat
  vd : Nat
  deriving DecidableEq, Repr

/-- A field of plane p. -/
def planeFld (x : Fld) (p : Nat) : Fld := { x with off := x.off + 0x10 * p }

/-- The planes that a layer's format uses. -/
def planesOf (f : Nat) (g : Fld → Nat) : List Plane :=
  let l := fmtPlanes f
  (upto 0 l.length).map (fun p =>
    let d := l.getD p (1, 1, 1)
    ⟨g (planeFld F.LAYER.P0_ADDR_HI_SPACE p),
      g (planeFld F.LAYER.P0_ADDR_LO p) + g (planeFld F.LAYER.P0_ADDR_HI_ADDR p) * 0x100000000,
      g (planeFld F.LAYER.P0_STRIDE p), d.1, d.2.1, d.2.2⟩)

/-- Layer codes below 4 are video layers (R101). -/
def isVid (l : Nat) : Bool := decide (l < 4)

/-- The configuration and the planes in force, and those that a check sees. -/
def State.layCfg (s : State) (h l : Nat) : LayCfg := layCfgOf (isVid l) (s.get (layerPage h l))
def State.planes (s : State) (h l : Nat) : List Plane :=
  planesOf (s.get (layerPage h l) F.LAYER.FORMAT_FMT) (s.get (layerPage h l))
def View.layCfg (v : View) (h l : Nat) : LayCfg := layCfgOf (isVid l) (v.get (layerPage h l))
def View.planes (v : View) (h l : Nat) : List Plane :=
  planesOf (v.get (layerPage h l) F.LAYER.FORMAT_FMT) (v.get (layerPage h l))

/-- A layer beside its registers. -/
def State.lay (s : State) (h l : Nat) : LaySt := amGet (fun _ => LaySt.idle) s.layers (16 * h + l)
def State.setLay (s : State) (h l : Nat) (x : LaySt) : State :=
  { s with layers := amSet (fun _ => LaySt.idle) s.layers (16 * h + l) x }
def State.modLay (s : State) (h l : Nat) (f : LaySt → LaySt) : State := s.setLay h l (f (s.lay h l))

/-! Geometry -/

/-- First line, number of lines, first byte of a line and bytes of a crop line of a plane (R109). -/
def Plane.line0 (p : Plane) (c : LayCfg) : Nat := c.sy / p.vd
def Plane.lines (p : Plane) (c : LayCfg) : Nat := c.sh / p.vd
def Plane.byte0 (p : Plane) (c : LayCfg) : Nat := c.sx / p.hd * p.bps
def Plane.width (p : Plane) (c : LayCfg) : Nat := c.sw / p.hd * p.bps

/-- The address of the first byte of crop line y of a plane. -/
def Plane.lineAddr (p : Plane) (c : LayCfg) (y : Nat) : Nat := p.addr + (p.line0 c + y) * p.stride + p.byte0 c

/-- The 64-byte granules that a crop line touches (R109, R134). -/
def Plane.grans (p : Plane) (c : LayCfg) : Nat :=
  if p.width c = 0 then 0 else (p.byte0 c + p.width c - 1) / 64 + 1 - p.byte0 c / 64

/-- The address of granule g of crop line y. -/
def Plane.granAddr (p : Plane) (c : LayCfg) (y g : Nat) : Nat :=
  p.addr + (p.line0 c + y) * p.stride + (p.byte0 c / 64 + g) * 64

/-- A rectangle: left, top, right, bottom, half-open. -/
structure Rect where
  l : Nat
  t : Nat
  r : Nat
  b : Nat
  deriving DecidableEq, Repr

/-- The rectangle holds no pixel. -/
def Rect.empty (x : Rect) : Bool := decide (x.r ≤ x.l) || decide (x.b ≤ x.t)

/-- The visible rectangle of a layer (R120): its configuration, its clip, the active area. -/
def visRect (c : LayCfg) (cx cy ex ey ha va : Nat) : Rect :=
  ⟨max c.dx.toNat cx, max c.dy.toNat cy, min (min (c.dx + c.dw).toNat ex) ha, min (min (c.dy + c.dh).toNat ey) va⟩

/-- The visible rectangle of layer l from the head's fields. -/
def layRect (c : LayCfg) (l : Nat) (g : Fld → Nat) : Rect :=
  visRect c (g (F.HEAD.CLIP_ORIGIN_X.at l)) (g (F.HEAD.CLIP_ORIGIN_Y.at l)) (g (F.HEAD.CLIP_END_X.at l))
    (g (F.HEAD.CLIP_END_Y.at l)) (g F.HEAD.H_TIMING_0_ACTIVE) (g F.HEAD.V_TIMING_0_ACTIVE)

/-- The visible rectangle in force. -/
def State.rect (s : State) (h l : Nat) : Rect := layRect (s.layCfg h l) l (s.get (headPage h))

/-- A layer hidden by its reflex state (R126). -/
def reflexHides (mode : Nat) (on : Bool) : Bool := (mode == 1 && !on) || (mode == 2 && on)

/-- The layer is visible under the configuration in force (R120). -/
def State.layVisible (s : State) (h l : Nat) : Bool :=
  let c := s.layCfg h l
  s.enabled (layerPage h l) && (s.lay h l).active && !(s.rect h l).empty && c.galpha != 0
    && !reflexHides c.reflexMode (s.flag (layerPage h l) F.LAYER.LAYER_STATE_REFLEX_STATE)

/-- The layer would be visible under the configuration a check examines (R134): a commit or enable under
examination, or one that is armed, gives it active buffers. -/
def View.would (v : View) (h l : Nat) : Bool :=
  let p := layerPage h l
  let c := v.layCfg h l
  let on := v.s.enabled p
  (on || v.s.flag p F.HDR.CTRL_ENABLE) && ((v.s.lay h l).active || (v.imageOf p).isSome || !on)
    && !(layRect c l (v.get (headPage h))).empty && c.galpha != 0
    && !reflexHides c.reflexMode (on && v.s.flag p F.LAYER.LAYER_STATE_REFLEX_STATE)

/-- The blend order, bottom first (R122). -/
def zOrder (g : Fld → Nat) : List Nat :=
  if g F.HEAD.COMP_CFG_Z_MODE = 0 then upto 0 12
  else
    let z := g F.HEAD.ZLIST_LO + g F.HEAD.ZLIST_HI * 0x100000000
    (upto 0 12).map (fun k => bits z (4 * k + 3) (4 * k))

/-! Scaler coefficients and LUT entries -/

/-- The bilinear kernel that a reset loads (R117). -/
def coefReset (k : Nat) : BitVec 12 :=
  let tap := k % 8
  let ph := k / 8 % 64
  let n := if k / 512 % 2 = 0 then 3 else 1
  BitVec.ofNat 12 (if tap = n then 1024 - 16 * ph else if tap = n + 1 then 16 * ph else 0)

/-- The key of a coefficient: layer, bank, direction, phase, tap. -/
def coefKey (h l bank dir ph tap : Nat) : Nat := ((((16 * h + l) * 4 + bank) * 2 + dir) * 64 + ph) * 8 + tap

/-- A coefficient. -/
def State.coef (s : State) (h l bank dir ph tap : Nat) : BitVec 12 := amGet coefReset s.coefs (coefKey h l bank dir ph tap)

/-- The sum of a row. -/
def State.coefSum (s : State) (h l bank dir ph : Nat) : Int :=
  (upto 0 (if dir = 0 then 8 else 4)).foldl (fun a t => a + sext 12 (s.coef h l bank dir ph t).toNat) 0

/-- The first row, in ascending bank, direction and phase, of the selected banks that does not sum to 1,024, as
`CHECK_ARG` holds it (R118). -/
def State.coefBad (s : State) (h l hb vb : Nat) : Option Nat :=
  ((upto 0 4).flatMap (fun b => (upto 0 2).map (fun d => (b, d)))).findSome? (fun (x : Nat × Nat) =>
    if x.1 = hb ∨ x.1 = vb then
      (upto 0 64).findSome? (fun ph =>
        if s.coefSum h l x.1 x.2 ph = 1024 then none else some (ph * 8 + x.2 * 4 + x.1))
    else none)

/-- What a LUT entry resets to (R128). -/
def lutReset (k : Nat) : BitVec 16 := BitVec.ofNat 16 (min (64 * (k % 2048)) 65535)

/-- The key of a LUT entry: head, set, channel, index. -/
def lutKey (h set ch i : Nat) : Nat := ((h * 2 + set) * 3 + ch) * 2048 + i

/-- A LUT entry. -/
def State.lut (s : State) (h set ch i : Nat) : Nat := (amGet lutReset s.luts (lutKey h set ch i)).toNat

/-- The images that a page's bank or set counts as in use under: active, armed, and the candidates of running
checks (R118, R128). -/
def State.inUse (s : State) (p : Nat) (x : Fld) (f : Word → Bool) : Bool :=
  let w (i : CfgImage) : Bool := i.pages.contains p && f (i.word s.die (p + x.off + 0x800))
  let r (q : Nat) : Bool := ((s.ctl q).run.map (fun c => w c.img)).getD false || ((s.ctl q).enRun.map (fun c => w c.img)).getD false
  f (s.rd (p + x.off)) || ((s.armedFor p).map w).getD false || r p || r (pg (domOf p) 0)

/-- A scaler bank is in use (R118). -/
def State.bankBusy (s : State) (h l b : Nat) : Bool :=
  s.inUse (layerPage h l) F.LAYER.SCALE_BANK_H_BANK
    (fun w => F.LAYER.SCALE_BANK_H_BANK.get w == b || F.LAYER.SCALE_BANK_V_BANK.get w == b)

/-- An output LUT set is in use (R128). -/
def State.lutBusy (s : State) (h set : Nat) : Bool :=
  s.inUse (pg (0x10 + h) 15) F.COLOUR.CP_CFG_LUT_SET
    (fun w => F.COLOUR.CP_CFG_LUT_EN.get w == 1 && F.COLOUR.CP_CFG_LUT_SET.get w == set)

/-! The fetch budget -/

/-- Bytes that a layer fetches a frame (R134). -/
def layBytes (c : LayCfg) (ps : List Plane) : Nat := ps.foldl (fun a p => a + p.lines c * 64 * p.grans c) 0

/-- A sum of fractions, as numerator and denominator. -/
def fracSum (l : List (Nat × Nat)) : Nat × Nat :=
  l.foldl (fun (a : Nat × Nat) x => (a.1 * max 1 x.2 + x.1 * a.2, a.2 * max 1 x.2)) (0, 1)

/-- The rates of the visible layers of all heads for which `f` holds (R134): bytes over frame ticks. -/
def View.rates (v : View) (f : Nat → Nat → Bool) : Nat × Nat :=
  fracSum ((v.runningHeads).flatMap (fun h =>
    let t := v.timing h
    ((upto 0 12).filter (fun l => v.would h l && f h l)).map (fun l =>
      (layBytes (v.layCfg h l) (v.planes h l) * t.num, t.ht * t.vt * t.den))))

/-- A plane is remote (R532). -/
def Plane.remote (p : Plane) : Bool := p.space == 0 && decide (0x8000000000 ≤ p.addr)

/-- The 64 KiB pages that a plane's crop touches are readable for an owner as layer fetches (R134): each page with
the part of the crop in it. -/
def State.planeOk (s : State) (h o : Nat) (c : LayCfg) (p : Plane) : Bool :=
  (upto 0 (p.lines c)).all (fun y =>
    (s.wouldAllow ⟨0x20 + h, o, p.lineAddr c y, p.width c, false, p.space == 1, true⟩).isSome)

/-- The share mode under which an owner may read a plane: 2 where one of its pages is granted for display only. -/
def State.planeShare (s : State) (h o : Nat) (c : LayCfg) (p : Plane) : Nat :=
  (upto 0 (p.lines c)).foldl (fun m y =>
    max m ((s.wouldAllow ⟨0x20 + h, o, p.lineAddr c y, p.width c, false, p.space == 1, true⟩).getD 0)) 0

/-- The budget of R134: 48 bytes per tick over all heads, and 2 bytes per tick of remote layers on each Tombolo port
(R534); `route` gives the port of a remote address. (log 108, DEDUCED) -/
def budgetViol (v : View) (route : Nat → Option Nat) : List Viol :=
  let a := v.rates (fun _ _ => true)
  let port (p : Nat) : Nat × Nat :=
    v.rates (fun h l => (v.planes h l).any (fun q => q.remote && route (q.addr / 0x2000000000 % 4) == some p))
  failArg (decide (48 * a.2 < a.1)) rBudget (sat 0xFFFFFFFF (1024 * a.1 / a.2))
    ++ (upto 0 2).flatMap (fun p => failArg (decide (2 * (port p).2 < (port p).1)) rBudget (0x200 + p))

/-- The port that the rate of a remote layer from device j counts on (R534): its route, or the nearer port while
neither is UP. -/
def State.budgetPort (s : State) (j : Nat) : Option Nat := some ((s.tmbRoute j).getD (s.tmbNear j))

/-! The checks -/

/-- The writeback pages that capture head h. -/
def wbPage (n : Nat) : Nat := pg 0x19 n
def State.wbsOn (s : State) (h : Nat) : List Nat :=
  (upto 0 2).filter (fun n => s.enabled (wbPage n) && s.get (wbPage n) F.WB.WB_CFG_HEAD == h)

/-- The layers that a writeback engine would capture against R133: of another owner, or reading a page granted for
display only. -/
def wbForeign (v : View) (h owner : Nat) (l : Nat) : Bool :=
  owner != 1 && v.s.owner (layerPage h l) != owner
def wbDisplay (v : View) (h : Nat) (l : Nat) : Bool :=
  (v.planes h l).any (fun p =>
    v.s.planeShare h (v.s.owner (layerPage h l)) (v.layCfg h l) p == 2)

/-- R133 for the layers of a head under examination. It asks for no visibility; those of an enable or commit of a writeback page take the visible layers only. -/
def layerWb (v : View) (ls : List Nat) : List Viol :=
  let h := v.head
  failArg ((v.s.wbsOn h).any (fun n => ls.any (wbForeign v h (v.s.owner (wbPage n))))) 0x46
    ++ failArg (!(v.s.wbsOn h).isEmpty && ls.any (wbDisplay v h)) 0x44

/-- Step 6 for one plane (R103, R108). (log 106, DEDUCED) (log 107, DEDUCED) -/
def planeViol (v : View) (c : LayCfg) (ps : List Plane) (k : Nat) : List Viol :=
  match ps[k]? with
  | none => []
  | some p =>
    let x (f : Fld) : Fld := planeFld f k
    let last' := p.lineAddr c (p.lines c - 1) + p.width c
    failIf (p.addr % 256 != 0) rAlign (x F.LAYER.P0_ADDR_LO)
      ++ failIf (p.space == 1 && decide (v.s.poolBytesTotal < last')) rRange (x F.LAYER.P0_ADDR_LO)
      ++ failIf (p.space == 1 && v.f (x F.LAYER.P0_ADDR_HI_ADDR) != 0) rRange (x F.LAYER.P0_ADDR_HI_ADDR)
      ++ failIf (p.stride % 64 != 0) rAlign (x F.LAYER.P0_STRIDE)
      ++ failIf (decide (p.stride < 64) || decide (262144 < p.stride) || decide (p.stride < p.width c)) rRange
        (x F.LAYER.P0_STRIDE)

/-- A signed position outside −8,192 to 8,191. -/
def posViol (v : View) (x : Fld) : List Viol :=
  let n := sext 16 (v.f x)
  failIf (decide (n < -8192) || decide (8191 < n)) rRange x

/-- Step 6 of a layer page (R102–R108). -/
def layer6 (v : View) : List Viol :=
  let l := pnoOf v.base - 2
  let vid := isVid l
  let c := v.layCfg v.head l
  let m := if vid then 8192 else 4096
  let even (on : Bool) (x : Fld) : List Viol := failIf (on && v.f x % 2 == 1) rAlign x
  let h2 := fmt420 c.fmt || fmt422 c.fmt
  failIf (!fmtOk vid c.fmt) rRange F.LAYER.FORMAT_FMT ++ failIf (c.alphaMode == 3) rRange F.LAYER.FORMAT_ALPHA_MODE
    ++ failIf (decide (4 < c.transfer) || (c.fmt == 7 && c.transfer != 1)) rRange F.LAYER.FORMAT_TRANSFER
    ++ failIf (vid && c.matrix == 3) rRange F.LAYER.FORMAT_MATRIX
    ++ failIf (decide (1 < v.f F.LAYER.BLEND_BLEND_MODE)) rRange F.LAYER.BLEND_BLEND_MODE
    ++ failIf (c.reflexMode == 3) rRange F.LAYER.BLEND_REFLEX_MODE
    ++ v.range F.LAYER.SRC_ORIGIN_X 0 8191 ++ even h2 F.LAYER.SRC_ORIGIN_X
    ++ v.range F.LAYER.SRC_ORIGIN_Y 0 8191 ++ even (fmt420 c.fmt) F.LAYER.SRC_ORIGIN_Y
    ++ v.range F.LAYER.SRC_SIZE_W 1 m ++ even h2 F.LAYER.SRC_SIZE_W
    ++ v.range F.LAYER.SRC_SIZE_H 1 m ++ even (fmt420 c.fmt) F.LAYER.SRC_SIZE_H
    ++ posViol v F.LAYER.DST_POS_X ++ posViol v F.LAYER.DST_POS_Y
    ++ (if vid then v.range F.LAYER.DST_SIZE_W 1 8192 ++ v.range F.LAYER.DST_SIZE_H 1 8192 else [])
    ++ (if fmtOk vid c.fmt then (upto 0 3).flatMap (planeViol v c (v.planes v.head l)) else [])

/-- R114, R118: scale factors and coefficient rows. -/
def scaleViol (v : View) (l : Nat) : List Viol :=
  let c := v.layCfg v.head l
  let out (s d : Nat) : Bool := decide (d * 8 < s) || decide (16 * s < d)
  failIf (out c.sw c.dw || out c.sh c.dh) 0x42 F.LAYER.DST_SIZE_W
    ++ (match v.s.coefBad v.head l c.hBank c.vBank with
      | some a => failIf true 0x43 F.LAYER.SCALE_BANK_H_BANK a
      | none => [])

/-- R119. -/
def rateViol (v : View) (h l : Nat) : List Viol :=
  let c := v.layCfg h l
  let t := v.timing h
  failIf (isVid l && decide (4 * 2 ^ 32 * t.den < c.hStep * c.vStep * t.num)) rTiming F.LAYER.DST_SIZE_W

/-- The planes of a layer are readable for its owner (R134). -/
def layOwned (v : View) (h l : Nat) : Bool :=
  (v.planes h l).all (v.s.planeOk h (v.s.owner (layerPage h l)) (v.layCfg h l))

/-- What a re-verification examines again (R135): dependency, timing, budget, buffers, writeback. -/
def layerAgain (v : View) : List Viol :=
  let h := v.head
  let l := pnoOf v.base - 2
  rateViol v h l ++ budgetViol v v.s.budgetPort ++ failArg (!layOwned v h l) rBuffer
    ++ layerWb v [l]

/-- R101–R108, R114, R118, R119, R133, R134: the check of a layer page. -/
def chkLayer (v : View) : Chk :=
  let l := pnoOf v.base - 2
  ⟨mBR, [], failArg (v.enable && !v.s.enabled (headPage v.head)) rDepend, layer6 v,
    (if isVid l then scaleViol v l else []) ++ layerAgain v⟩

/-- R101, R128. -/
def chkColour (v : View) : Chk :=
  ⟨mBR, [], failArg (v.enable && !v.s.enabled (headPage v.head)) rDepend,
    failIf (v.f F.COLOUR.CP_CFG_DITHER == 3) rRange F.COLOUR.CP_CFG_DITHER, []⟩

/-- R177: the regions that are active. -/
def chkRegion (v : View) : Chk :=
  let t := v.timing v.head
  let rs := (upto 0 16).filter (fun r => v.b (F.REGION.CV_CFG_RGN_EN.at r))
  ⟨mBR, [], [],
    rs.flatMap (fun r =>
      let a (x : Fld) : Fld := x.at r
      cvViol v (a F.REGION.CV_CFG_WIDTH) (a F.REGION.POLY_LO) (a F.REGION.POLY_HI) (a F.REGION.INIT_LO)
          (a F.REGION.INIT_HI) (a F.REGION.XOROUT_LO) (a F.REGION.XOROUT_HI) (a F.REGION.EXPECT_LO) (a F.REGION.EXPECT_HI)
        ++ failIf (v.f (a F.REGION.RGN_SIZE_W) == 0) rRange (a F.REGION.RGN_SIZE_W)
        ++ failIf (v.f (a F.REGION.RGN_SIZE_H) == 0) rRange (a F.REGION.RGN_SIZE_H)),
    rs.flatMap (fun r =>
      let g (x : Fld) : Nat := v.f (x.at r)
      failArg (decide (t.ha < g F.REGION.RGN_ORIGIN_X + g F.REGION.RGN_SIZE_W)
        || decide (t.va < g F.REGION.RGN_ORIGIN_Y + g F.REGION.RGN_SIZE_H)) 0x4B r)⟩

/-- Bytes of a pixel in a writeback format (R130). -/
def wbBpp (f : Nat) : Nat := if f = 0 then 8 else 4

/-- R101, R130, R131, R133: the check of a writeback page. -/
def chkWb (v : View) : Chk :=
  let n := pnoOf v.base
  let h := v.f F.WB.WB_CFG_HEAD
  let f := v.f F.WB.WB_CFG_FORMAT
  let tap := v.f F.WB.WB_CFG_TAP
  let t := v.timing h
  let st := v.f F.WB.WB_STRIDE
  let a := v.f F.WB.WB_ADDR_LO + v.f F.WB.WB_ADDR_HI_ADDR * 0x100000000
  let deep := v.get (outPage h) F.OUTPUT.LINK_BIND_DEPTH
  ⟨mBR, failIf (decide (v.s.part.heads ≤ h)) rFused F.WB.WB_CFG_HEAD,
    failArg (!v.s.enabled (headPage h)) rDepend,
    failIf (tap == 3) rRange F.WB.WB_CFG_TAP ++ failIf (f == 3) rRange F.WB.WB_CFG_FORMAT
      ++ failIf (v.f F.WB.WB_ADDR_LO % 256 != 0) rAlign F.WB.WB_ADDR_LO
      ++ failIf (st % 64 != 0) rAlign F.WB.WB_STRIDE ++ failIf (decide (st < t.ha * wbBpp f)) rRange F.WB.WB_STRIDE,
    failArg (v.s.enabled (wbPage (1 - n)) && v.s.get (wbPage (1 - n)) F.WB.WB_CFG_HEAD == h) rInUse
      ++ failArg (!v.s.bufOk (0x28 + n) v.owner (v.b F.WB.WB_ADDR_HI_SPACE) a (st * t.va) true) rBuffer
      ++ (match ((upto 0 12).filter (v.would h)).find? (wbForeign v h v.owner) with
        | some l => failArg true 0x46 l
        | none => [])
      ++ (match ((upto 0 12).filter (v.would h)).find? (wbDisplay v h) with
        | some l => failArg true 0x44 l
        | none => [])
      ++ failArg (tap == 2 && !((f == 2 && deep == 0) || (f == 1 && deep == 1))) 0x45⟩

/-- The first `ZLIST` entry that repeats an earlier one or is no layer code (R122). -/
def zlistBad (z : Nat) : Option Nat :=
  let e (k : Nat) : Nat := bits z (4 * k + 3) (4 * k)
  (upto 0 12).find? (fun k => decide (11 < e k) || (upto 0 k).any (fun i => e i == e k))

/-- R101, R122, R133, R134, R141, R144, R169: the check of a head page. (log 234, DEDUCED) -/
def chkHead (v : View) : Chk :=
  let o := chkOutput { v with base := outPage v.head }
  let own := !v.cand.pages.contains (outPage v.head)
  let ext (l : List Viol) : List Viol := if own then l.map (Viol.on 1) else []
  let z := v.f F.HEAD.ZLIST_LO + v.f F.HEAD.ZLIST_HI * 0x100000000
  let ls := (upto 0 12).filter (v.would v.head)
  ⟨mBR, headTiming3 v ++ ext o.s3, ext o.s5,
    headTiming6 v ++ (if v.b F.HEAD.COMP_CFG_Z_MODE then
        (match zlistBad z with
        | some k => failIf true 0x41 F.HEAD.ZLIST_LO k
        | none => [])
      else []) ++ ext o.s6,
    headTiming7 v ++ ext o.s7 ++ ls.flatMap (fun l => (rateViol v v.head l).map (Viol.on (2 + l)))
      ++ budgetViol v v.s.budgetPort
      ++ ls.flatMap (fun l => if layOwned v v.head l then [] else [⟨rBuffer, 0, 0, 0⟩])
      ++ layerWb v ((upto 0 12).filter (fun l => v.s.enabled (layerPage v.head l)))⟩

end Sys2Proof.Machine
end

