-- ==== Sys2Proof/Machine/PadBase.lean ====
section
/-! DEFINITION. Pads, board synchronisation and board interfaces: pages, checks, and what their pages' start, stop and
apply do (R60–R62, R559–R565). -/

namespace Sys2Proof.Machine

/-- `CLK.BSYNC`, `PAD.FUNC`, `GPIO`, `BC` and `XSPI`. -/
def bsyncPage : Nat := pg 0x01 4
def pfuncPage : Nat := pg 0x3C 0
def gpioPage : Nat := pg 0x3C 1
def bcPage : Nat := pg 0x3C 2
def xspiPage : Nat := pg 0x3C 3

/-- A change of the pads' state. -/
def State.modPad (s : State) (f : PadSt → PadSt) : State := { s with pad := f s.pad }
def State.bc (s : State) (n : Nat) : BcSt := amGet (fun _ => BcSt.idle) s.pad.bcs n
def State.setBc (s : State) (n : Nat) (x : BcSt) : State :=
  s.modPad (fun p => { p with bcs := amSet (fun _ => BcSt.idle) p.bcs n x })
def State.modBc (s : State) (n : Nat) (f : BcSt → BcSt) : State := s.setBc n (f (s.bc n))
def State.modSync (s : State) (f : SyncSt → SyncSt) : State := s.modPad (fun p => { p with sync := f p.sync })
def State.modXspi (s : State) (f : XspiSt → XspiSt) : State := s.modPad (fun p => { p with xspi := f p.xspi })

/-- The pin-map code of pin i as loaded: codes 6 and 7 act as 0 (R510). -/
def State.pinCode (s : State) (i : Nat) : Nat := amGet (fun _ => 0) s.pinMap i

/-- Signals that a pin-map index names on the part (R555, R557). -/
def pinSignal (q : Config.Part) (i : Nat) : Bool :=
  decide (i < 20) && decide (i / 5 < q.panels)
    || (decide (20 ≤ i) && decide (i < 30) && decide ((i - 20) / 5 * 4 < q.hapCh))
    || (decide (30 ≤ i) && decide (i < 38) && decide (i - 30 < q.hapCh))
    || (decide (38 ≤ i) && decide (i < 54) && decide ((i - 38) / 4 < q.tdm))
    || (decide (54 ≤ i) && decide (i < 58)) || (decide (58 ≤ i) && decide (i < 90) && decide (i - 58 < q.pads))
    || (decide (90 ≤ i) && decide (i < 96)) || (decide (96 ≤ i) && decide (i < 100) && decide ((i - 96) / 2 < q.bcs))

/-- The function in force of pad g (R559): none while `PAD.FUNC` is disabled. (log 201, DEDUCED) -/
def State.padFunc (s : State) (g : Nat) : Nat :=
  if s.enabled pfuncPage then s.get pfuncPage (F.PFUNC.FUNC_FUNC.at g) else 0

/-- A pad as its function drives it (R560, R561): none when it is not driven. -/
def State.padDrive (s : State) (g : Nat) : Option Bool :=
  match s.padFunc g with
  | 0 => if s.enabled gpioPage ∧ bit (s.get gpioPage F.PGPIO.GPIO_OE) g then some (bit (s.get gpioPage F.PGPIO.GPIO_OUT) g)
    else none
  | 2 => some (s.pad.sync.train.isSome && s.pad.sync.level)
  | _ => none

/-- A pad's driver: the boundary-scan cells under EXTEST, its function, or its pin-map code (R510, R511, R566). -/
def State.padOut (s : State) (g : Nat) : Option Bool :=
  if s.pad.jtag.drive then
    let i := 3 * ((upto 0 (58 + g)).filter (pinSignal s.part)).length
    if bit s.pad.jtag.cells.toNat i then some (bit s.pad.jtag.cells.toNat (i + 1)) else none
  else match s.padDrive g with
    | some b => some b
    | none => if s.pinCode (58 + g) = 4 then some false else if s.pinCode (58 + g) = 5 then some true else none

/-- The level of a pad: as driven here, else as the outside drives it. (log 202, DESIGN CHOICE) (log 218, DESIGN CHOICE) -/
def State.padLevel (s : State) (g : Nat) : Bool := (s.padOut g).getD (bit s.pad.ext.toNat g)

/-- `GPIO_IN`: the pads of the part. -/
def State.gpioIn (s : State) : Nat := forN (fun g a => a + (b2n (s.padLevel g) <<< g)) s.part.pads 0

/-- R559. -/
def chkPfunc (v : View) : Chk :=
  let fn (g : Nat) : Nat := v.f (F.PFUNC.FUNC_FUNC.at g)
  let gs := upto 0 32
  let absent := gs.find? (fun g => decide (v.s.part.pads ≤ g) && fn g != 0)
  let twice (k : Nat) : Option Nat := gs.find? (fun g => fn g == k && (upto 0 g).any (fun q => fn q == k))
  let dup := match twice 1, twice 2 with
    | some a, some b => some (min a b)
    | some a, none => some a
    | none, b => b
  ⟨mBRSR,
    (match absent with
      | some g => failIf true rFused (F.PFUNC.FUNC_FUNC.at g) g
      | none => []),
    [],
    v.rangeN F.PFUNC.FUNC_FUNC 32 0 3,
    (match dup with
      | some g => failIf true rInUse (F.PFUNC.FUNC_FUNC.at g) g
      | none => [])⟩

/-- R563. -/
def chkPbc (v : View) : Chk :=
  let en (n : Nat) : Bool := v.f (F.PBC.BC_CFG_EN.at n) == 1
  let lo (n : Nat) : Nat := v.f (F.PBC.BC_CFG_SCL_LOW.at n)
  let hi (n : Nat) : Nat := v.f (F.PBC.BC_CFG_SCL_HIGH.at n)
  let i3c (n : Nat) : Bool := v.f (F.PBC.BC_CFG_PROTO.at n) == 1
  let fast (n : Nat) : Bool := en n && (if i3c n then decide (lo n + hi n < 17)
    else decide (lo n + hi n < 205) || decide (lo n < 103) || decide (hi n < 54))
  ⟨mBRSR, failIf (en 1 && decide (v.s.part.bcs < 2)) rFused (F.PBC.BC_CFG_EN.at 1) 1, [],
    v.rangeN F.PBC.BC_CFG_SCL_HIGH v.s.part.bcs 4 4095 ++ v.rangeN F.PBC.BC_CFG_SCL_LOW v.s.part.bcs 4 4095,
    (upto 0 2).flatMap (fun n => failIf (fast n) rTiming (F.PBC.BC_CFG_SCL_LOW.at n) n)⟩

/-- R565. -/
def chkXspi (v : View) : Chk := chk6 mBRSR (v.range F.XSPI.XSPI_CFG_MODE 0 2)

/-! Board synchronisation (R61) -/

/-- The pulse train takes effect as the page starts at tick t. -/
def State.syncStart (s : State) (t : Nat) : State :=
  if s.flag bsyncPage F.BSYNC.SYNC_CTRL_OUT_EN = false then
    s.modSync (fun x => { x with train := none, rise := none, fall := none, level := false, lastIn := none })
  else
    let p := s.get bsyncPage F.BSYNC.OUT_PERIOD
    let f := s.get64 bsyncPage F.BSYNC.OUT_FIRST_LO
    let k := if f ≤ t ∧ 0 < p then (t - f) / p + 1 else 0
    s.modSync (fun _ => ⟨some (p, s.get bsyncPage F.BSYNC.OUT_WIDTH), some (f + k * p), none, false, none⟩)

/-- The page stops: the pulse train ends. -/
def State.syncStop (s : State) : State :=
  s.modSync (fun x => { x with train := none, rise := none, fall := none, level := false })

/-! Board controllers and boot flash (R564, R565) -/

/-- Controller n runs. -/
def State.bcOn (s : State) (n : Nat) : Bool := s.enabled bcPage && s.flag bcPage (F.PBC.BC_CFG_EN.at n)

/-- A transfer of controller n is abandoned, and its FIFOs are flushed. -/
def State.bcDrop (s : State) (n : Nat) : State :=
  let x := s.bc n
  s.setBc n { BcSt.idle with recover := x.recover || x.xfer.isSome, ibi := x.ibi }

/-- Controllers that no longer run abandon their transfers; `fresh` when an enable starts all of them. -/
def State.bcApply (s : State) (fresh : Bool) : State :=
  forL (fun n s =>
    if s.bcOn n = false then s.bcDrop n
    else if fresh then s.modBc n (fun x => { x with known := [] })
    else s) (upto 0 2) s

/-- The boot-flash controller abandons what it runs. -/
def State.xspiDrop (s : State) : State := s.modXspi (fun _ => ⟨[], [], none, none⟩)

end Sys2Proof.Machine
end

