-- ==== Sys2Proof/Machine/TmbBase.lean ====
section
/-! DEFINITION. The pages of Tombolo: their checks (R523, R542–R544). -/

namespace Sys2Proof.Machine

/-- The modes of R542, and an enable while `COMMON` is disabled. -/
def needsTmb (v : View) : List Viol := failArg (v.enable && !v.s.enabled tmbPage) rDepend

/-- R543. -/
def chkTmb (v : View) : Chk :=
  let mb (k : Nat) : List Viol :=
    let o := v.f (F.TMB.MB_CFG_MB_OWNER.at k)
    failIf (v.f (F.TMB.MB_CFG_DEST.at k) == v.s.ringIndex) rRange (F.TMB.MB_CFG_DEST.at k)
      ++ failIf (o != 1 && o != 0x10) rRange (F.TMB.MB_CFG_MB_OWNER.at k)
  chk6 mBRS (v.range F.TMB.HB_CFG_HB_TIMEOUT 2 255 ++ v.range F.TMB.HB_CFG_HB_PERIOD 1024 65535 ++ mb 0 ++ mb 1)

/-- R523, R527. -/
def chkTport (v : View) : Chk :=
  ⟨mBRS, [], needsTmb v ++ failArg (v.enable && v.s.get tmbPage F.TMB.RING_CFG_DEVICES == 0) rDepend,
    verBad v F.TPORT.VER_LOCAL_MIN F.TPORT.VER_LOCAL_MAX F.TPORT.VER_LOCAL_FEATURES 2 3, []⟩

/-- R544. -/
def chkTsync (v : View) : Chk :=
  ⟨mBRS, [], needsTmb v, v.range F.TSYNC.SYNC_CFG_LOST_THRESH 2 255 ++ v.range F.TSYNC.SYNC_CFG_EXCH_PERIOD 1024 65535, []⟩

/-- A feature bit is agreed with a device (R527), as far as this device's own link of the route shows. (log 194, DEDUCED) -/
def State.featWith (s : State) (j b : Nat) : Bool :=
  match s.tmbRoute j with
  | some p => bit (s.get (tportPage p) F.TPORT.VER_FEATURES_AGREED) b
  | none => false

/-- Two intervals of 64 KiB units overlap. (log 194, DEDUCED) -/
def unitsMeet (a n b k : Nat) : Bool := decide (a < b + k) && decide (b < a + n)

/-- A field that step 6 examines of an entry, with its number. -/
def entryRange (c : Bool) (x : Fld) (e : Nat) : List Viol := failIf c rRange x e

/-- R544: the conditions of the table, in ascending order of entry. (log 20, DEDUCED) -/
def chkTremote (v : View) : Chk :=
  let s := v.s
  let own := s.ringIndex
  let n := s.ringN
  let g (x : Fld) (i : Nat) : Nat := v.f (x.at i)
  let slot (r : Nat) : Bool := g F.TREMOTE.RSLOT_CFG_VALID r == 1
  let mir (m : Nat) : Bool := g F.TREMOTE.MIR_CFG_VALID m == 1
  let fail (f : Nat) : Bool := g F.TREMOTE.FAIL_EN f == 1
  let wrong (j : Nat) : Bool := j == own || decide (n ≤ j)
  let slotMeets (r : Nat) : Bool := slot r && (upto 0 8).any (fun q => q != r && slot q
    && g F.TREMOTE.RSLOT_CFG_DEVICE q == g F.TREMOTE.RSLOT_CFG_DEVICE r
    && g F.TREMOTE.RSLOT_CFG_RSPACE q == g F.TREMOTE.RSLOT_CFG_RSPACE r
    && unitsMeet (g F.TREMOTE.RSLOT_BASE q) (g F.TREMOTE.RSLOT_SIZE q) (g F.TREMOTE.RSLOT_BASE r) (g F.TREMOTE.RSLOT_SIZE r))
  let mirMeets (m : Nat) : Bool := mir m && (upto 0 4).any (fun q => q != m && mir q
    && g F.TREMOTE.MIR_CFG_SPACE q == g F.TREMOTE.MIR_CFG_SPACE m
    && unitsMeet (g F.TREMOTE.MIR_SRC q) (g F.TREMOTE.MIR_SIZE q) (g F.TREMOTE.MIR_SRC m) (g F.TREMOTE.MIR_SIZE m))
  let dests (m : Nat) : List Nat := (upto 0 4).filter (fun j => bit (g F.TREMOTE.MIR_CFG_DESTS m) j)
  let layer (f : Nat) : Nat := pg (0x10 + g F.TREMOTE.FAIL_HEAD f) (2 + g F.TREMOTE.FAIL_LAYER f)
  ⟨mBRS,
    (upto 0 4).flatMap (fun f => failIf (fail f && decide (s.part.heads ≤ g F.TREMOTE.FAIL_HEAD f)) rFused
      (F.TREMOTE.FAIL_HEAD.at f) (0x100 + f)),
    needsTmb v,
    (upto 0 8).flatMap (fun r => if slot r then
        entryRange (wrong (g F.TREMOTE.RSLOT_CFG_DEVICE r)) (F.TREMOTE.RSLOT_CFG_DEVICE.at r) r
          ++ entryRange (!isTen (g F.TREMOTE.RSLOT_CFG_OWNER r)) (F.TREMOTE.RSLOT_CFG_OWNER.at r) r
          ++ entryRange (g F.TREMOTE.RSLOT_SIZE r == 0) (F.TREMOTE.RSLOT_SIZE.at r) r
      else [])
      ++ (upto 0 4).flatMap (fun m => if mir m then
          entryRange ((dests m).any wrong) (F.TREMOTE.MIR_CFG_DESTS.at m) m
        else [])
      ++ (upto 0 4).flatMap (fun f => if fail f then
          entryRange (wrong (g F.TREMOTE.FAIL_DEVICE f)) (F.TREMOTE.FAIL_DEVICE.at f) (0x100 + f)
            ++ entryRange (decide (11 < g F.TREMOTE.FAIL_LAYER f)) (F.TREMOTE.FAIL_LAYER.at f) (0x100 + f)
        else []),
    (upto 0 8).flatMap (fun r => failIf (slotMeets r) 0x40 (F.TREMOTE.RSLOT_BASE.at r) r)
      ++ (upto 0 4).flatMap (fun m =>
        failIf (mirMeets m) 0x40 (F.TREMOTE.MIR_SRC.at m) m
          ++ failIf (mir m && decide (0 < g F.TREMOTE.MIR_SIZE m) && !s.bufOk 0xC0 (g F.TREMOTE.MIR_CFG_OWNER m)
              (g F.TREMOTE.MIR_CFG_SPACE m == 1) (65536 * g F.TREMOTE.MIR_SRC m) (65536 * g F.TREMOTE.MIR_SIZE m) false)
            rBuffer (F.TREMOTE.MIR_SRC.at m) m
          ++ failIf (mir m && decide (1 < (dests m).length) && !(dests m).all (fun j => s.featWith j 1)) 0x41
            (F.TREMOTE.MIR_CFG_DESTS.at m) m)
      ++ (upto 0 4).flatMap (fun f =>
        failIf (fail f && !Config.mirrorTargets (s.owner (layer f))) rNotOwner (F.TREMOTE.FAIL_LAYER.at f) (0x100 + f))⟩

end Sys2Proof.Machine
end

