-- ==== Sys2Proof/Machine/Checks.lean ====
section
/-! DEFINITION. The consistency check (R78–R81): what each kind of page adds, and the seven steps of R79
over the pages of a commit group. -/

namespace Sys2Proof.Machine

/-- What each kind of page adds to the steps of R79. -/
def blockChk (v : View) : PKind → Chk
  | .root => chkRoot v
  | .mode => chkMode v
  | .period => chkPeriod v
  | .bsync => chkBsync v
  | .fcoll => chkFcoll v
  | .fbank => chkFbank v
  | .fcap => chkNone mBRSR
  | .fsafe => chkNone mBRSR
  | .pot => chkPot v
  | .cove => chkCove v
  | .core => chkCore v
  | .worlds => chkNone mBRSR
  | .irqc => chkNone mBRSR
  | .measure => chkNone mBRSR
  | .mbox => chkNone mBRSR
  | .router => chkNone mBRSR
  | .wdog => chkNone mBRSR
  | .hostp => chkHostp v
  | .hfunc => chkHfunc v
  | .hmsix => chkNone mBRSR
  | .herr => chkNone mBRSR
  | .ring => chkRing v
  | .ten => chkTen v
  | .fctl => chkFence v (fun f => v.s.gfx.jobs.any (fun j =>
    j.phase != .fetch && (byteF j.d.toNat 24 2 == f || byteF j.d.toNat 26 2 == f)))
  | .fevt => chkNone mBRS
  | .copy => chkNone mBRS
  | .otp => chkOtp v
  | .cvu => chkCvu v
  | .head => chkHead v
  | .layer => chkLayer v
  | .glayer => chkLayer v
  | .colour => chkColour v
  | .region => chkRegion v
  | .wb => chkWb v
  | .output => chkOutput v
  | .dsi => chkDsi v
  | .alloc => chkAlloc v
  | .poolc => chkNone mBR
  | .holdp => chkNone mBR
  | .gfe => chkGfe v
  | .gsched => chkGsched v
  | .gtiler => chkGfx v [] (v.range F.GTILER.TILER_CFG 0 4)
  | .gtex => chkGfx v [] (v.range F.GTEX.TEX_CFG 0 4)
  | .gsig => chkGfx v [] []
  | .gl2 => chkGfx v [] []
  | .gcount => chkGfx v [] []
  | .gstat => chkGfx v [] []
  | .gcore => chkGfx v [] (v.range F.GCORE.CORE_CFG 1 65535)
  | .tch => chkTch v
  | .panel => chkPanel v
  | .hap => chkNone mBRS
  | .hchan => chkHchan v
  | .hport => chkHport v
  | .reflex => chkReflex v
  | .aeng => chkAeng v
  | .abank => chkAbank v
  | .aport => chkAport v
  | .asrc => chkAsrc v
  | .again => chkAgain v
  | .ameter => chkAmeter v
  | .aclk => chkAclk v
  | .tmb => chkTmb v
  | .tport => chkTport v
  | .tremote => chkTremote v
  | .tsync => chkTsync v
  | .pfunc => chkPfunc v
  | .pgpio => chkNone mBRSR
  | .pbc => chkPbc v
  | .xspi => chkXspi v
  | .dglob => chkDglob v
  | .dmap => chkDmap v
  | .dsched => chkDsched v
  | .dpower => chkDpower v
  | .decc => chkDecc v
  | .dsweep => chkNone mBRSR
  | .dchan => chkDchan v
  | .mbucket => chkMbucket v
  | .mscrub => chkMscrub v
  | .mmode => chkNone mBRSR
  | .mlog => chkNone mBRSR
  | _ => chkNone anyMode

/-- A page of the group under check, with what its block adds. -/
structure CPage where
  page : Nat
  info : PInfo
  view : View
  chk : Chk

/-- The pages of the group under check. -/
def State.cpages (s : State) (img : CfgImage) (pages : List Nat) (armed enable : Bool) : List CPage :=
  pages.filterMap (fun p => (pinfoAt p).map (fun i =>
    let v : View := ⟨s, img, p, armed, enable⟩
    ⟨p, i, v, blockChk v i.kind⟩))

/-- A period source (R50) of an instance that the part lacks. -/
def srcFused (q : Config.Part) (n : Nat) : Bool :=
  (decide (1 ≤ n) && decide (n ≤ 8) && decide (q.heads ≤ n - 1))
    || (decide (10 ≤ n) && decide (n ≤ 13) && decide (q.panels ≤ n - 10))

/-- Steps 1–7 of R79 for one page. -/
def CPage.step1 (c : CPage) (r : Req) : List Viol :=
  failArg (decide (r.tag.toNat ≠ c.view.owner) || c.view.owner == 0) rNotOwner
    ++ (match c.info.kind with
      | .output => linkOwner c.view
      | .head => if c.view.cand.pages.contains (outPage c.view.head) then [] else (linkOwner c.view).map (Viol.on 1)
      | _ => [])
def CPage.step2 (c : CPage) : List Viol := failArg (!c.chk.modes.contains c.view.s.mode) rMode
def CPage.step3 (c : CPage) : List Viol :=
  failArg (!c.view.s.present c.page) rFused ++ c.chk.s3
    ++ failIf (srcFused c.view.s.part (c.view.f F.HDR.PERIOD_SRC)) rFused F.HDR.PERIOD_SRC
def CPage.step4 (c : CPage) (r : Req) : List Viol :=
  failArg (c.view.s.secureHold c.page && decide (r.tag ≠ 1)) rHold
def CPage.step5 (c : CPage) : List Viol := failArg (!c.view.s.clockOk c.page) rClock ++ c.chk.s5
def CPage.step6 (c : CPage) : List Viol :=
  (lowest (c.chk.s6 ++ failIf (decide (14 ≤ c.view.f F.HDR.PERIOD_SRC)) rRange F.HDR.PERIOD_SRC)).toList
def CPage.step7 (c : CPage) : List Viol :=
  let d := domOf c.page
  let auto := c.view.s.flag c.page F.HDR.CTRL_AUTO_COMMIT
  let foreign := decide (0x10 ≤ d) && decide (d < 0x18) && !auto && decide (c.view.owner ≠ c.view.s.owner (pg d 0))
  let fence := c.view.cand.foreign.contains c.page
  (if c.view.enable && foreign then [⟨rInUse, 0x008, 4, 0⟩] else [])
    ++ failIf fence rNotOwner F.HDR.FENCE_SEL ++ c.chk.s7

/-- The first violation of a step over the pages in ascending order (R79). -/
def firstViol (l : List CPage) (f : CPage → List Viol) : Option (Nat × Viol) :=
  l.findSome? (fun c => (f c).head?.map (fun w => (c.page, w)))

/-- The check: the first condition that fails, in the order of R79.  A refusal that names a word names its page
(R69). (log 14, DEDUCED) (log 39, DEDUCED) -/
def State.runCheck (s : State) (r : Req) (img : CfgImage) (pages : List Nat) (armed enable : Bool) : Verdict :=
  let l := s.cpages img pages armed enable
  match firstViol l (fun c => c.step1 r) <|> firstViol l CPage.step2 <|> firstViol l CPage.step3
      <|> firstViol l (fun c => c.step4 r) <|> firstViol l CPage.step5 <|> firstViol l CPage.step6
      <|> firstViol l CPage.step7 with
  | none => Verdict.ok
  | some (p, w) =>
    let named := w.off != 0 || w.bit != 0
    let q := if w.off < 0x1000 then pnoOf p else w.off / 0x1000 - 1
    ⟨w.reason, w.off % 0x1000, w.bit, w.arg,
      if named then some q else none⟩

end Sys2Proof.Machine
end

