-- ==== Sys2Proof/Machine/Compose.lean ====
section
/-! DEFINITION. Composition of a line, fetch and fallback of layers, region checks, hold frames and writeback, one line
at a time (R109, R120–R132, R152–R156, R163–R168, R178–R181). -/

namespace Sys2Proof.Machine

/-! Rows, granules and needs -/

/-- The crop rows that destination line m takes its filter window from (R116). -/
def LayCfg.rows (c : LayCfg) (m : Nat) : List Nat :=
  if c.vid then ((upto 0 4).map (fun (k : Nat) => edge c.sh ((scalePos c.vInit c.vStep m).1 - 1 + (k : Int)))).eraseDups
  else [m]

/-- The rows of a plane that destination line m needs (R109, R110, R116). (log 104, DEDUCED) -/
def Plane.rows (p : Plane) (c : LayCfg) (m : Nat) : List Nat :=
  let rs := c.rows m
  if p.vd = 1 then rs
  else
    let n := p.lines c
    (rs.flatMap (fun y =>
      let k := y / 2
      if y % 2 = 0 then (if c.chromaV then [k, k - 1] else [k])
      else [k, min (k + 1) (n - 1)])).eraseDups

/-- The key of a granule of a layer's buffer. -/
def granKey (plane line g : Nat) : Nat := (plane * 65536 + line) * 65536 + g

/-- Band b of a layer is suppressed (R125). -/
def LaySt.off (x : LaySt) (j : Nat) : Bool := bit x.supp (j / 16)

/-- The active lines in which the layer is composed. (log 119, DEDUCED) -/
def State.layLines (s : State) (h l : Nat) : List Nat :=
  let r := s.rect h l
  (upto r.t (r.b - r.t)).filter (fun j => !(s.lay h l).off j)

/-- Destination line of active line j. -/
def LayCfg.destLine (c : LayCfg) (j : Nat) : Nat := ((j : Int) - c.dy).toNat

/-- The active line that uses crop line y of plane k first (R153, R168). -/
def State.firstUse (s : State) (h l k y : Nat) : Option Nat :=
  let c := s.layCfg h l
  match (s.planes h l)[k]? with
  | none => none
  | some p => (s.layLines h l).find? (fun j => (p.rows c (c.destLine j)).contains y)

/-- The granules that a layer needs for active line j. (log 104, DEDUCED) -/
def State.layNeeds (s : State) (h l j : Nat) : List Nat :=
  let c := s.layCfg h l
  let ps := s.planes h l
  (upto 0 ps.length).flatMap (fun k =>
    match ps[k]? with
    | none => []
    | some p => (p.rows c (c.destLine j)).flatMap (fun y => (upto 0 (p.grans c)).map (granKey k y)))

/-- The layer shows in the frame now composed. -/
def State.shown (s : State) (h l : Nat) : Bool := s.flag (layerPage h l) F.LAYER.LAYER_STATE_VISIBLE

/-- The layer is composed in active line j: visible, in its rectangle, not suppressed. -/
def State.inLine (s : State) (h l j : Nat) : Bool :=
  let r := s.rect h l
  s.shown h l && decide (r.t ≤ j) && decide (j < r.b) && !(s.lay h l).off j

/-- The layer is in fallback at active line j. -/
def LaySt.fell (x : LaySt) (j : Nat) : Bool :=
  match x.fallAt with
  | some k => decide (k ≤ j)
  | none => false

/-! Fallback -/

/-- A layer enters fallback from active line j (R153, R154): address, plane and space of the failing fetch, and the
cause. A layer already in fallback falls back from the earlier line; it enters only once. (log 241, DEDUCED) -/
def State.fallback (s : State) (h l j plane space addr cause : Nat) : State :=
  if (s.lay h l).fallAt.isSome then
    s.modLay h l (fun x => { x with fallAt := x.fallAt.map (min j) })
  else
  let p := layerPage h l
  let hp := headPage h
  let s := (s.modLay h l (fun x => { x with fallAt := some j })).put p F.LAYER.LAYER_STATE_FALLBACK 1
  let s := (s.intSet p (2 + (if cause = 0 then 8 else 16))).intBit hp 1
  let s := (s.stat hp (if cause = 0 then 1 else 2)).stat p 3
  let s := if cause = 0 then s.hit (48 + h) l else s.hitAcc (56 + h) l 1 (0x20 + h) (s.owner p) addr
  let s := s.modHead h (fun x => { x with changed := true })
  let pay := jpay [(16, 5, addr), (21, 1, space * 128 + plane * 16 + l), (22, 1, cause), (23, 1, h),
    (24, 4, s.get hp F.HEAD.FRAME_SEQ), (28, 2, j)]
  let s := s.jrecOwn 0x0003 p s.now pay
  if s.owner hp = s.owner p then s else s.jrecTo (s.owner hp) 0x0003 p s.now pay

/-! Fetch -/

/-- Bytes of DRAM lines in the fetch buffer that no composed line has used (R168). -/
def State.fetchHeld (s : State) (h : Nat) : Nat :=
  (upto 0 12).foldl (fun a l =>
    let x := s.lay h l
    let ps := s.planes h l
    a + 64 * (x.bufs.filter (fun e =>
      let k := e.1 / 0x100000000
      (match ps[k]? with
        | some p => p.space == 0
        | none => false) &&
      (match s.firstUse h l k (e.1 / 65536 % 65536) with
        | some j => decide ((s.headSt h).done ≤ j)
        | none => false))).length) 0

/-- The layer may fetch granule g of crop line y of plane k now (R109, R152, R153, R168): the head composes and
prefetch has started; the layer shows, is not in fallback, does not hold the granule; a line still to be composed
needs it; and there is room. -/
def State.mayFetch (s : State) (h l k y g : Nat) : Bool :=
  let r := s.raster h
  let x := s.lay h l
  let c := s.layCfg h l
  r.on && s.holdState h != 2 && decide (s.get (headPage h) F.HEAD.SCAN_CFG_PREFETCH_LEAD < r.line)
    && s.shown h l && (amGet (fun _ => none) x.bufs (granKey k y g)).isNone
    && (match (s.planes h l)[k]? with
      | none => false
      | some p => decide (y < p.lines c) && decide (g < p.grans c)
          && (p.space == 1 || decide (s.fetchHeld h + 64 ≤ 131072)))
    && (match s.firstUse h l k y with
      | some j => decide ((s.headSt h).done ≤ j) && !x.fell j
      | none => false)

/-- A granule arrives (R153); one that a `DISPLAY_ONLY` page holds makes the frame not static (R444). (log 103, DEDUCED) (log 105, DEDUCED) -/
def State.granArrives (s : State) (h l k y g : Nat) (d : BitVec 512) (display : Bool) : State :=
  let p := layerPage h l
  let dram := ((s.planes h l)[k]?.map (·.space)).getD 0 == 0
  let s := s.modLay h l (fun x => { x with
    bufs := amSet (fun _ => none) x.bufs (granKey k y g) (some (d, display))
    seqs := amSet (fun _ => 0) x.seqs k (s.get (headPage h) F.HEAD.FRAME_SEQ) })
  let s := if display then s.modHead h (fun x => { x with changed := true }) else s
  let s := s.stat64 p 0 64
  if dram then s.stat64 (headPage h) 6 64 else s

/-- A fetch response that is an error (R153): fallback from the line that its bytes belong to. -/
def State.granFails (s : State) (h l k y g cause : Nat) : State :=
  match (s.planes h l)[k]? with
  | none => s
  | some p =>
    let j := (s.firstUse h l k y).getD (s.headSt h).done
    s.fallback h l j k p.space (p.granAddr (s.layCfg h l) y g) cause

/-- A layer fetch is answered (R153): the granule's data as memory holds it, or an error with its cause; an answer
to a fetch whose line has underrun is discarded. (log 103, DEDUCED) -/
def State.layerFetch (s : State) (h l k y g : Nat) : State :=
  let x := s.lay h l
  if s.engineReset (0x20 + h) then s.discard (0x20 + h)
  else if x.late.contains (granKey k y g) then
    s.modLay h l (fun x => { x with late := x.late.filter (· != granKey k y g) })
  else if s.mayFetch h l k y g = false then s
  else
    match (s.planes h l)[k]? with
    | none => s
    | some p =>
      if p.remote then s
      else
        let rq : MemRq := ⟨0x20 + h, s.owner (layerPage h l), p.granAddr (s.layCfg h l) y g, 64, false, p.space == 1, true⟩
        let cause := if (s.wouldAllow rq).isNone then 1
          else if rq.pool = false ∧ (s.enabled dglobPage = false ∨ s.dramServes rq.addr = false) then 3 else 2
        match s.mread rq with
        | (s, some (d, m)) => s.granArrives h l k y g (BitVec.ofNat 512 (bytesNat d)) (m == 2)
        | (s, none) => s.granFails h l k y g cause

/-! Buffer release -/

/-- The buffers of a layer are replaced (R155): those planes for which `f` holds. -/
def State.replaceBufs (s : State) (h l cause : Nat) (ps : List Plane) (f : Nat → Bool) : State :=
  let x := s.lay h l
  if x.active then
    s.setLay h l { x with rel := x.rel ++ ((upto 0 ps.length).filter f).filterMap (fun k =>
      (ps[k]?).map (fun p => ⟨k, p.space, p.addr, cause, amGet (fun _ => 0) x.seqs k⟩)) }
  else s

/-- One buffer is released at tick t (R156). -/
def State.releaseBuf (s : State) (h l t seq : Nat) (b : RelBuf) : State :=
  let p := layerPage h l
  (s.intBit p 5).jrecOwn 0x0002 p t (jpay [(16, 5, b.addr), (21, 1, b.space * 128 + b.plane * 16 + l),
    (22, 1, b.cause), (23, 1, h), (24, 4, b.seq), (28, 4, seq)])

/-- The replaced buffers of a layer with no response outstanding are released at tick t (R156). -/
def State.releaseDue (s : State) (h l t seq : Nat) : State :=
  let x := s.lay h l
  let waits (b : RelBuf) : Bool := x.late.any (fun k => k / 0x100000000 == b.plane)
  let s := s.setLay h l { x with rel := x.rel.filter waits }
  forL (fun b s => s.releaseBuf h l t seq b) (x.rel.filter (fun b => !waits b)) s

/-! Composition of a line -/

/-- The bytes of a layer's crop as its buffer holds them. -/
def State.cropBytes (s : State) (h l : Nat) : CropBytes := fun k y b =>
  let c := s.layCfg h l
  match (s.planes h l)[k]? with
  | none => 0
  | some p =>
    let o := p.byte0 c + b
    match amGet (fun _ => none) (s.lay h l).bufs (granKey k y (o / 64 - p.byte0 c / 64)) with
    | some (d, _) => bits d.toNat (8 * (o % 64) + 7) (8 * (o % 64))
    | none => 0

/-- The scaler coefficients in force. -/
def State.coefsOf (s : State) (h l : Nat) (c : LayCfg) : Coefs := fun d ph t =>
  sext 12 (s.coef h l (if d = 0 then c.hBank else c.vBank) d ph t).toNat

/-- The output of a layer at a pixel of its visible rectangle (R121, R127). -/
def State.layOut (s : State) (h l x j : Nat) : Px :=
  let c := s.layCfg h l
  if (s.lay h l).fell j then c.fall
  else (c.dest (s.coefsOf h l c) (s.cropBytes h l) ((x : Int) - c.dx).toNat (c.destLine j)).scale c.galpha

/-- The background (R123, R127). -/
def State.background (s : State) (h : Nat) : Px :=
  let g (x : Fld) : Nat := s.get (headPage h) x
  ⟨g F.HEAD.BG_RG_R, g F.HEAD.BG_RG_G, g F.HEAD.BG_B, 65535⟩

/-- Stage 5 at a pixel (R123). -/
def State.blendAt (s : State) (h x j : Nat) : Px :=
  (zOrder (s.get (headPage h))).foldl (fun c l =>
    let r := s.rect h l
    if s.inLine h l j ∧ r.l ≤ x ∧ x < r.r then blendPx (s.layCfg h l).add (s.layOut h l x j) c else c) (s.background h)

/-- `HEAD_h.COLOUR`. -/
def colPage (h : Nat) : Nat := pg (0x10 + h) 15

/-- Stages 6 and 7 (R129). (log 109, DEDUCED) -/
def State.encode (s : State) (h : Nat) (c : Px) : Px :=
  let p := colPage h
  let c := if s.flag p F.COLOUR.CP_CFG_GAMUT_EN then gamut (fun k => sext 18 (s.get p (F.COLOUR.GAMUT.at k))) c else c
  if s.flag p F.COLOUR.CP_CFG_LUT_EN then
    let set := s.get p F.COLOUR.CP_CFG_LUT_SET
    ⟨lut1025 (s.lut h set 0) c.r, lut1025 (s.lut h set 1) c.g, lut1025 (s.lut h set 2) c.b, c.a⟩
  else c

/-- The link format of a head is 30-bit. -/
def State.deep (s : State) (h : Nat) : Bool := s.flag (outPage h) F.OUTPUT.LINK_BIND_DEPTH

/-- Stage 8 at a pixel (R129). (log 109, DEDUCED) -/
def State.reduce (s : State) (h x j : Nat) (c : Px) : Px :=
  let m := s.get (colPage h) F.COLOUR.CP_CFG_DITHER
  let n := if s.deep h then 10 else 8
  let f := s.get (headPage h) F.HEAD.FRAME_SEQ
  ⟨dither m n x j f c.r, dither m n x j f c.g, dither m n x j f c.b, c.a⟩

/-! Hold frames -/

/-- The HOLD region that serves head h: its index, first byte and length (R160, R164). -/
def State.holdRegion (s : State) (h : Nat) : Option (Nat × Nat × Nat) :=
  ((upto 0 32).find? (fun r => s.get allocPage (F.ALLOC.REGION_USE.at r) == 2
    && s.get allocPage (F.ALLOC.REGION_USER_HEAD.at r) == h)).map (fun r =>
      (r, 65536 * s.get allocPage (F.ALLOC.REGION_BASE.at r), 65536 * s.get allocPage (F.ALLOC.REGION_COUNT.at r)))

/-- Bytes per pixel and stride of a hold frame (R164). -/
def State.holdBpp (s : State) (h : Nat) : Nat := if s.deep h then 4 else 3
def State.holdStride (s : State) (h : Nat) : Nat :=
  cdiv (s.get (headPage h) F.HEAD.H_TIMING_0_ACTIVE * s.holdBpp h) 64 * 64

/-- Line j of a hold frame is read (R165): its link words, or none for data that cannot be used. -/
def State.holdRead (s : State) (h j : Nat) : State × Option (List Nat) :=
  match s.holdRegion h with
  | none => (s, none)
  | some (_, base, _) =>
    let q := s.holdBpp h
    let ha := s.get (headPage h) F.HEAD.H_TIMING_0_ACTIVE
    let r := s.mread ⟨0x20 + h, s.owner (headPage h), base + j * s.holdStride h, ha * q, false, true, false⟩
    (r.1, r.2.map (fun d => (upto 0 ha).map (fun x => bytesNat ((d.1.drop (x * q)).take q))))

/-- A page granted for display only has a pixel in active line j (R133). -/
def State.lineDisplay (s : State) (h j : Nat) : Bool :=
  (upto 0 12).any (fun l => s.inLine h l j && !(s.lay h l).fell j && (s.layNeeds h l j).any (fun k =>
    match amGet (fun _ => none) (s.lay h l).bufs k with
    | some (_, b) => b
    | none => false))

/-- The capture engine writes line j (R164), unless the line shows a page granted for display only (R444). -/
def State.captureLine (s : State) (h j : Nat) (px : List Nat) : State :=
  match (s.headSt h).cap, s.holdRegion h with
  | some c, some (_, base, _) =>
    if s.lineDisplay h j then s else
    let d := (px.flatMap (linkBytes (s.deep h))).map (BitVec.ofNat 8)
    let r := s.mwrite ⟨0x2A, s.owner (headPage h), base + j * s.holdStride h, d.length, true, true, false⟩ d
    r.1.modHead h (fun x => { x with cap := some { c with ok := c.ok && r.2 } })
  | _, _ => s

/-! Writeback -/

/-- A writeback engine beside its registers. -/
def State.wb (s : State) (n : Nat) : WbSt := amGet (fun _ => WbSt.idle) s.wbs n
def State.setWb (s : State) (n : Nat) (x : WbSt) : State := { s with wbs := amSet (fun _ => WbSt.idle) s.wbs n x }

/-- n bytes that the spec leaves open (log 3). (log 112, DESIGN CHOICE) -/
def State.freeBytes (s : State) : Nat → List Byte → State × List Byte
  | 0, l => (s, l)
  | n + 1, l => (s.tookFree).freeBytes n (l ++ [s.free.setWidth 8])

/-- The engine writes nothing more of the frame (R132, R133): outcome and interrupt bit. (log 111, DEDUCED) -/
def State.wbStop (s : State) (n outcome bitNo : Nat) : State :=
  let s := s.setWb n { s.wb n with stopped := true, outcome := outcome }
  let s := s.intBit (wbPage n) bitNo
  if outcome = 1 then forL (fun u s => s.cvuAbort u) (s.cvuOnWb n) s else s

/-- Engine n writes active line j (R131–R133): the pixels of taps 0 and 1, and the link words. (log 60, DEDUCED) (log 112, DESIGN CHOICE) -/
def State.wbLine (s : State) (h n j : Nat) (full hold : Bool) (t0 t1 : List Px) (px : List Nat) : State :=
  let p := wbPage n
  let x := s.wb n
  if x.on = false ∨ s.get p F.WB.WB_CFG_HEAD ≠ h then s
  else
    let s := if j = 0 then forL (fun u s => s.cvuOpen u) (s.cvuOnWb n) s else s
    if x.stopped then s
    else if full then s.wbStop n 1 1
    else if hold = false ∧ s.lineDisplay h j then s.wbStop n 2 2
    else
      let f := s.get p F.WB.WB_CFG_FORMAT
      let tap := s.get p F.WB.WB_CFG_TAP
      let r : State × List Byte :=
        if tap = 2 then (s, px.flatMap (fun w => wbBytes f 2 (linkPx (s.deep h) w)))
        else if hold then s.freeBytes (px.length * wbBpp f) []
        else (s, (if tap = 0 then t0 else t1).flatMap (wbBytes f tap))
      let s := r.1
      let sp := s.get p F.WB.WB_ADDR_HI_SPACE
      let a := s.get p F.WB.WB_ADDR_LO + s.get p F.WB.WB_ADDR_HI_ADDR * 0x100000000 + j * s.get p F.WB.WB_STRIDE
      let q := s.mwrite ⟨0x28 + n, s.owner p, a, r.2.length, true, sp == 1, false⟩ r.2
      if q.2 then forL (fun u s => s.cvuStream u sp a r.2) (q.1.cvuOnWb n) q.1 else q.1.wbStop n 1 1

/-- A frame of engine n ends at slack point t (R131): its record, and the end of a one-shot. (log 60, DEDUCED) (log 111, DEDUCED) -/
def State.wbEnd (s : State) (h n t : Nat) : State × Bool :=
  let p := wbPage n
  let x := s.wb n
  if x.on = false ∨ s.get p F.WB.WB_CFG_HEAD ≠ h then (s, false)
  else
    let s := (s.inc p F.WB.WB_FRAMES).put p F.WB.WB_LAST x.outcome
    let s := forL (fun u s => s.cvuFinish u) (s.cvuOnWb n) s
    let a := s.get p F.WB.WB_ADDR_LO + s.get p F.WB.WB_ADDR_HI_ADDR * 0x100000000
    let s := (s.jrecOwn 0x0007 p t (jpay [(16, 5, a), (21, 1, s.get p F.WB.WB_ADDR_HI_SPACE * 128 + x.outcome), (22, 1, h),
      (23, 1, n), (24, 4, s.get (headPage h) F.HEAD.FRAME_SEQ), (28, 4, s.get p F.WB.WB_FRAMES)])).intBit p 0
    (s.setWb n WbSt.idle, s.flag p F.WB.WB_CFG_ONE_SHOT)

/-! Region checks -/

/-- `HEAD_h.REGION`. -/
def rgnPage (h : Nat) : Nat := pg (0x10 + h) 14

/-- Region r computes in this frame. -/
def State.rgnOn (s : State) (h r : Nat) : Bool :=
  s.enabled (rgnPage h) && s.flag (rgnPage h) (F.REGION.CV_CFG_RGN_EN.at r)

/-- A field of region r. -/
def State.rgn (s : State) (h r : Nat) (x : Fld) : Nat := s.get (rgnPage h) (x.at r)

/-- The fold word of a region (R175). -/
def State.rgnFold (s : State) (h r : Nat) : List Nat :=
  let x := s.rgn h r F.REGION.RGN_ORIGIN_X
  let y := s.rgn h r F.REGION.RGN_ORIGIN_Y
  let t := s.rgn h r F.REGION.FOLD_TAG
  [x % 256, x / 256, y % 256, y / 256, h, r, t % 256, t / 256]

/-- Line j of link words feeds region r (R173, R178). -/
def State.rgnFeed (s : State) (h r j : Nat) (px : List Nat) : State :=
  let y := s.rgn h r F.REGION.RGN_ORIGIN_Y
  if s.rgnOn h r ∧ y ≤ j ∧ j < y + s.rgn h r F.REGION.RGN_SIZE_H then
    let a := rgnPage h + (F.REGION.CV_CFG_WIDTH.at r).off
    let k := s.cvCfg a
    let v := if j = y then (if s.cvFold a then crcBytes k (s.rgnFold h r) k.init else k.init)
      else amGet (fun _ => 0) (s.headSt h).rgn r
    let d := ((px.drop (s.rgn h r F.REGION.RGN_ORIGIN_X)).take (s.rgn h r F.REGION.RGN_SIZE_W)).flatMap (linkBytes (s.deep h))
    s.modHead h (fun x => { x with rgn := amSet (fun _ => 0) x.rgn r (crcBytes k d v) })
  else s

/-- Region r completes its frame (R179–R181). -/
def State.rgnDone (s : State) (h r : Nat) : State :=
  let p := rgnPage h
  let a := p + (F.REGION.CV_CFG_WIDTH.at r).off
  let res := crcFinish (s.cvCfg a) (amGet (fun _ => 0) (s.headSt h).rgn r)
  let seq := s.get (headPage h) F.HEAD.FRAME_SEQ
  let age := (seq + 0x100000000 - (s.headSt h).applySeq) % 0x100000000
  let fm := s.rgn h r F.REGION.CV_CFG_FRESH_MAX
  let bad := s.cvCompare a && res != s.cvExpect a
  let stale := fm != 0 && decide (fm < age)
  let s := (s.put64 p (F.REGION.RESULT_LO.at r) res).put p (F.REGION.RESULT_SEQ.at r) seq
  let s := s.wr (p + (F.REGION.RESULT_STATE_DONE.at r).off)
    (BitVec.ofNat 32 (sat 65535 age * 65536 + b2n stale * 4 + b2n bad * 2 + 1))
  let s := s.stat p 0
  let s := if bad then ((s.intBit p r).stat p 1).hit (64 + h) r else s
  let s := if stale then ((s.intBit p r).stat p 2).hit (72 + h) r else s
  if bad ∨ stale then
    s.jrecTo (s.owner (headPage h)) 0x0005 p s.now
      (jpay [(16, 8, res), (24, 4, seq), (28, 1, r), (29, 1, b2n bad + 2 * b2n stale), (30, 1, h)])
  else s

/-- The regions whose last line is active line j complete (R179). -/
def State.rgnsDone (s : State) (h j : Nat) : State :=
  forN (fun r s =>
    if s.rgnOn h r ∧ s.rgn h r F.REGION.RGN_ORIGIN_Y + s.rgn h r F.REGION.RGN_SIZE_H = j + 1 then s.rgnDone h r else s) 16 s

/-! A line -/

/-- A missing granule has been requested: one of a local plane always, one of a remote plane while its read is
outstanding (R532). -/
def State.granOut (s : State) (h l key : Nat) : Bool :=
  let k := key / 0x100000000
  let y := key / 65536 % 65536
  let g := key % 65536
  match (s.planes h l)[k]? with
  | some p => !p.remote || s.tmb.reads.any (fun r => r.h == h && r.l == l && r.k == k && r.y == y && decide (r.g ≤ g)
      && decide (g < r.g + r.n))
  | none => false

/-- The test of R153 before line j is composed: a layer that lacks a granule underruns. -/
def State.underruns (s : State) (h j : Nat) : State :=
  forL (fun l s =>
    let x := s.lay h l
    if s.inLine h l j ∧ x.fell j = false then
      match (s.layNeeds h l j).filter (fun k => (amGet (fun _ => none) x.bufs k).isNone) with
      | [] => s
      | miss => (s.modLay h l (fun x => { x with late := x.late ++ miss.filter (s.granOut h l) })).fallback h l j 0
          (((s.planes h l).head?.map (·.space)).getD 0) 0 0
    else s) (upto 0 12) s

/-- Active line j is composed, or read from the hold frame (R123, R129, R165): the pixels after stages 5 and 7 and
the link words. -/
def State.lineMade (s : State) (h j : Nat) : State × List Px × List Px × List Nat :=
  let xs := upto 0 (s.get (headPage h) F.HEAD.H_TIMING_0_ACTIVE)
  let out (s : State) (c : List Px) : State × List Px × List Px × List Nat :=
    let e := c.map (s.encode h)
    (s, c, e, (xs.zip e).map (fun x => linkWord (s.deep h) (s.reduce h x.1 j x.2)))
  let bg (s : State) : State × List Px × List Px × List Nat := out s (xs.map (fun _ => s.background h))
  if s.holdState h = 2 then
    if (s.headSt h).holdBad.isSome then bg s
    else match s.holdRead h j with
      | (s, some px) => (s, [], [], px)
      | (s, none) => bg ((s.modHead h (fun x => { x with holdBad := some j })).holdTrigger h 5)
  else
    let s := s.underruns h j
    out s (xs.map (fun x => s.blendAt h x j))

/-- Active line j passes composition, capture, writeback and the region checks. -/
def State.composeLine (s : State) (h j : Nat) (full : Nat → Bool) : State :=
  let hold := s.holdState h == 2
  match s.lineMade h j with
  | (s, t0, t1, px) =>
    let s := s.modHead h (fun x => { x with px := px, done := j + 1 })
    let s := if s.holdState h = 1 then s.captureLine h j px else s
    let s := forL (fun n s => s.wbLine h n j (full n) hold t0 t1 px) [0, 1] s
    forL (fun r s => s.rgnFeed h r j px) (upto 0 16) s

/-! Latency tolerance -/

/-- need(j) of R168 for the frame in progress (`next` false) or for a later one. -/
def State.latNeed (s : State) (h j : Nat) (next : Bool) : Nat :=
  (upto 0 12).foldl (fun a l =>
    let x := s.lay h l
    let c := s.layCfg h l
    let ps := s.planes h l
    if s.inLine h l j ∧ (next ∨ x.fell j = false) then
      (upto 0 ps.length).foldl (fun a k =>
        match ps[k]? with
        | some p =>
          if p.space = 0 then
            a + 64 * p.grans c * ((p.rows c (c.destLine j)).filter (fun y => s.firstUse h l k y == some j)).length
          else a
        | none => a) a
    else a) 0

/-- The loop of R168 over the line slots from slot i: the number of whole slots that the buffered bytes last. -/
def State.latSlots (s : State) (h blank vt : Nat) : Nat → Nat → Nat → Option Nat
  | 0, _, _ => none
  | n + 1, i, rem =>
    let k := i % vt
    let need := if blank ≤ k + 1 then s.latNeed h (k + 1 - blank) (decide (vt ≤ i)) else 0
    if rem < need then some i else s.latSlots h blank vt n (i + 1) (rem - need)

/-- The report of R168 at the first tick of line slot i. -/
def State.latReport (s : State) (h i : Nat) : State :=
  let p := headPage h
  let vt := s.vTotal h
  let d : Option Nat :=
    if s.holdState h = 2 then none
    else (s.latSlots h (vt - s.get p F.HEAD.V_TIMING_0_ACTIVE) vt vt i (s.fetchHeld h)).map
      (fun k => s.slotTick h (k * s.hTotal h))
  let s := (s.modHead h (fun x => { x with lat := d })).reportLat h d
  s.put p F.HEAD.LAT_TOL (match d with
    | some t => sat 0xFFFFFFFF (t - s.now)
    | none => 0xFFFFFFFF)

end Sys2Proof.Machine
end

