-- ==== Sys2Proof/Machine/TmbLink.lean ====
section
/-! DEFINITION. Tombolo links: neighbours and routes, a port's restart and its entry into UP and DOWN, loss and return of
devices, mirrors, failover, remote reads and the timebase role (R523–R541, R545). -/

namespace Sys2Proof.Machine

/-- The neighbour on port p (R523). -/
def State.tNeighbour (s : State) (p : Nat) : Nat :=
  let n := s.ringN
  if p = 0 then (s.ringIndex + 1) % n else (s.ringIndex + n - 1) % n

/-- A device that this one is heard by (R530). -/
def State.tAlive (s : State) (j : Nat) : Bool := bit (s.get tmbPage F.TMB.PEER_ALIVE) j

/-- A device can be reached: it has a route and is alive. (log 186, DEDUCED) -/
def State.tReach (s : State) (j : Nat) : Bool := (s.tmbRoute j).isSome && s.tAlive j

/-- Records of this chapter to the manager's journal (R545). -/
def State.linkRec (s : State) (p event cause : Nat) : State :=
  s.jrec 0 0x0050 (tportPage p) s.now (jpay [(16, 1, event), (17, 1, p), (18, 1, cause),
    (19, 1, s.get (tportPage p) F.TPORT.VER_STATUS_CHOSEN)])
def State.peerRec (s : State) (j event : Nat) : State :=
  s.jrec 0 0x0051 tmbPage s.now (jpay [(16, 1, event), (17, 1, j)])

/-! Mirrors (R537) -/

/-- The state that mirror entry m takes from where it is. (log 187, DEDUCED) -/
def State.mirNext (s : State) (m : Nat) : Nat :=
  let st := s.mir F.TREMOTE.MIR_STATE_STATE m
  let reach := (s.mirDests m).all s.tReach
  if s.enabled remotePage = false ∨ s.mir F.TREMOTE.MIR_CFG_VALID m = 0 then 0
  else if reach = false then 2
  else if st = 2 then 3
  else if st = 0 then 1
  else st

/-- The mirror entries follow what can be reached; each change writes a record. (log 187, DEDUCED) -/
def State.mirUpdate (s : State) : State :=
  forL (fun m s =>
    let n := s.mirNext m
    if n = s.mir F.TREMOTE.MIR_STATE_STATE m then s
    else
      let s := (s.put remotePage (F.TREMOTE.MIR_STATE_STATE.at m) n).put remotePage (F.TREMOTE.MIR_STATE_PTR.at m) 0
      s.jrec 0 0x0052 remotePage s.now (jpay [(16, 1, n), (17, 1, m)])) (upto 0 4) s

/-- A mirror's resend reaches the end of the range (R537): the rest of the range goes out in ascending address, and the
entry becomes LIVE. (log 187, DEDUCED) -/
def State.mirResync (s : State) (m : Nat) : State :=
  if s.mir F.TREMOTE.MIR_STATE_STATE m ≠ 3 then s
  else
    let pool := s.mir F.TREMOTE.MIR_CFG_SPACE m == 1
    let n := 65536 * s.mir F.TREMOTE.MIR_SIZE m
    let a := 65536 * s.mir F.TREMOTE.MIR_SRC m
    let d := if pool then s.poolData a n else s.dramBytes a n
    let s := s.mirSend m pool (n + 1) (65536 * s.mir F.TREMOTE.MIR_DST m) d
    let s := (s.put remotePage (F.TREMOTE.MIR_STATE_STATE.at m) 1).put remotePage (F.TREMOTE.MIR_STATE_PTR.at m)
      (s.mir F.TREMOTE.MIR_SIZE m)
    s.jrec 0 0x0052 remotePage s.now (jpay [(16, 1, 1), (17, 1, m)])

/-! Loss and return of a device (R530, R538) -/

/-- The failover entries that watch device j change their layers' reflex state at the next slack point. (log 80, DESIGN CHOICE) -/
def State.failover (s : State) (j : Nat) (lost : Bool) : State :=
  forL (fun f s =>
    let g (x : Fld) : Nat := s.get remotePage (x.at f)
    if s.enabled remotePage ∧ g F.TREMOTE.FAIL_EN = 1 ∧ g F.TREMOTE.FAIL_DEVICE = j
        ∧ (lost ∨ g F.TREMOTE.FAIL_FAILBACK = 1) then
      let h := g F.TREMOTE.FAIL_HEAD
      let l := g F.TREMOTE.FAIL_LAYER
      let s := (s.modLay h l (fun x => { x with force := some lost })).holdTrigger h 2
      s.jrecOwn 0x0053 (layerPage h l) s.now (jpay [(16, 1, b2n lost), (17, 1, j), (18, 1, h), (19, 1, l)])
    else s) (upto 0 4) s

/-- Device j is declared lost. -/
def State.deviceLost (s : State) (j : Nat) : State :=
  let s := s.put tmbPage F.TMB.PEER_ALIVE (s.get tmbPage F.TMB.PEER_ALIVE &&& (15 ^^^ (1 <<< j)))
  ((s.peerRec j 0).failover j true).mirUpdate

/-- Device j is heard again. -/
def State.deviceBack (s : State) (j : Nat) : State :=
  let s := s.put tmbPage F.TMB.PEER_ALIVE (s.get tmbPage F.TMB.PEER_ALIVE ||| (1 <<< j))
  ((s.peerRec j 1).failover j false).mirUpdate

/-! Remote reads (R531, R532) -/

/-- A granule of a remote plane is answered: its data, or an error with its fallback cause; an answer to a fetch whose
line has underrun is discarded. -/
def State.granResult (s : State) (h l k y g : Nat) (r : Option (BitVec 512)) (cause : Nat) : State :=
  if (s.lay h l).late.contains (granKey k y g) then
    s.modLay h l (fun x => { x with late := x.late.filter (· != granKey k y g) })
  else if s.mayFetch h l k y g = false then s
  else match r with
    | some d => s.granArrives h l k y g d false
    | none => s.granFails h l k y g cause

/-- A remote read ends: bytes of its granules in order, or an error. -/
def State.readEnds (s : State) (r : TRead) (d : Option (List Byte)) (cause : Nat) : State :=
  let s := s.modTmb (fun t => { t with reads := dropFirst (fun x => x == r) t.reads })
  forL (fun i s => s.granResult r.h r.l r.k r.y (r.g + i)
    (d.map (fun l => BitVec.ofNat 512 (bytesNat ((l.drop (64 * i)).take 64)))) cause) (upto 0 r.n) s

/-! The timebase role (R539, R540) -/

/-- `CLK.THYME`. -/
def thymePage : Nat := pg 0x01 2

/-- `ROLE`: of `CLK.THYME`, which `TMB.SYNC` shows too. (log 122, DEDUCED) (log 198, DEDUCED) -/
def State.role (s : State) : Nat := s.get thymePage F.THYME.SYNC_STATE
def State.setRole (s : State) (r : Nat) : State := s.put thymePage F.THYME.SYNC_STATE r

/-- The upstream port: that of the route to the master. -/
def State.tUpstream (s : State) : Option Nat :=
  match s.tmb.master with
  | some m => if m = s.ringIndex then none else s.tmbRoute m
  | none => none

/-- A follower that has lost every route to the master runs free (R540); an aligned one raises `TIMEBASE_SYNC_LOST`. (log 198, DEDUCED) -/
def State.roleCheck (s : State) (p : Nat) : State :=
  if (s.role = 2 ∨ s.role = 3) ∧ s.tUpstream = none then
    let s := if s.role = 2 then s.hit 27 p else s
    s.setRole 0
  else match s.tUpstream with
    | some u => s.put tsyncPage F.TSYNC.SYNC_STATE_UPSTREAM u
    | none => s

/-! Ports -/

/-- The state of port p (R543). -/
def State.tState (s : State) (p : Nat) : Nat := s.get (tportPage p) F.TPORT.PORT_STATE_STATE

/-- What a link that is no longer UP leaves (R531): its reads end in error responses, its replay buffer is discarded,
queued flits take another route, credits for devices that no route reaches are restored, and its deadlines are
infinite. (log 196, DEDUCED) -/
def State.linkGone (s : State) (p : Nat) : State :=
  let s := forL (fun r s => s.readEnds r none 3) (s.tmb.reads.filter (fun r => r.port == p)) s
  let q := (s.tport p).queue.filter (fun e => decide (2 < e.1))
  let s := s.modTport p (fun x => { TPortSt.idle with due := x.due, downAt := x.downAt, rstAt := x.rstAt, tx := x.tx })
  let s := forL (fun e s =>
    match s.tmbRoute e.2.dst with
    | some r => s.modTport r (fun x => { x with queue := x.queue ++ [e] })
    | none => s) q s
  let s := forL (fun k s =>
    if s.get tmbPage (F.TMB.MB_STATE_CREDIT.at k) = 0
        ∧ (s.tmbRoute (s.get tmbPage (F.TMB.MB_CFG_DEST.at k))).isNone then
      s.put tmbPage (F.TMB.MB_STATE_CREDIT.at k) 1 else s) (upto 0 2) s
  (((s.reportLat (9 + p) none).modTmb (fun t => { t with
    latRx := t.latRx.filter (fun e => ((t.peers.find? (fun x => x.1 == e.1)).map (fun x => x.2.port)) != some p) })).mirUpdate).roleCheck p

/-- Port p enters DOWN (R526, R530, R531). -/
def State.portDown (s : State) (p cause : Nat) : State :=
  let b := tportPage p
  let s := ((s.put b F.TPORT.PORT_STATE_STATE 4).put b F.TPORT.PORT_STATE_DOWN_CAUSE cause).put b F.TPORT.PORT_STATE_PEER_VALID 0
  let s := (s.modTport p (fun x => { x with downAt := some s.now })).intBit b 1
  (s.linkGone p).linkRec p 1 cause

/-- A restart fails (R526). -/
def State.tmbFails (s : State) (p cause : Nat) : State := (s.portDown p cause).hit (23 + p) 0xFF

/-- A restart begins (R526): training. (log 191, DEDUCED) -/
def State.portRestart (s : State) (p : Nat) : State :=
  let b := tportPage p
  let s := if s.tState p = 3 then (s.put b F.TPORT.PORT_STATE_STATE 1).linkGone p else s
  let s := ((s.put b F.TPORT.PORT_STATE_STATE 1).put b F.TPORT.PORT_STATE_PEER_VALID 0).put b F.TPORT.PORT_STATE_EXPECTED 0
  let s := s.put b F.TPORT.PORT_CMD 0
  s.modTport p (fun x => { TPortSt.idle with rstAt := s.now, tx := x.tx, loc := s.rd (b + 0x180) })

/-- Port p becomes UP (R526): sequence numbers start at 0 in both directions. The UP tick is the link restart of R98 (R526). -/
def State.portUp (s : State) (p : Nat) : State :=
  let b := tportPage p
  let s := ((s.put b F.TPORT.PORT_STATE_STATE 3).put b F.TPORT.PORT_STATE_DOWN_CAUSE 0).put b F.TPORT.PORT_STATE_EXPECTED 0
  let s := (s.put b F.TPORT.PORT_STATE_PEER_VALID 1).put b F.TPORT.PORT_STATE_PEER (s.tNeighbour p)
  let s := (s.modTport p (fun x => { TPortSt.idle with rstAt := x.rstAt, rxAt := s.now, exchAt := s.now, tx := x.tx, loc := x.loc, ver := x.ver })).intBit b 0
  let s := s.put64 b F.TPORT.VER_TS_LO s.now
  ((s.linkRec p 0 0).mirUpdate).roleCheck p

/-- A port's page starts: a restart is due (R526). -/
def State.tportStart (s : State) (p : Nat) : State := s.modTport p (fun _ => { TPortSt.idle with due := true })

/-- A port's page stops. -/
def State.tportStop (s : State) (p : Nat) : State :=
  let s := (s.put (tportPage p) F.TPORT.PORT_STATE_STATE 0).put (tportPage p) F.TPORT.PORT_STATE_PEER_VALID 0
  (s.linkGone p).setTport p TPortSt.idle

end Sys2Proof.Machine
end

