-- ==== Sys2Proof/Machine/Hooks.lean ====
section
/-! DEFINITION. What each kind of block does when its page starts, stops, applies an image, or is reset. -/

namespace Sys2Proof.Machine

/-- The blocks that have requests in flight or work queued while they run, so that `IDLE` clears at their
start and sets when the last response returns (R68, R83). -/
def PKind.busy : PKind → Bool
  | .head | .output | .layer | .glayer | .region | .colour | .dsi | .wb | .tch | .panel | .hap | .hchan | .hport | .aeng | .aport | .tmb | .tport | .tremote
  | .tsync => true
  | _ => false

/-- A tenancy's journal configuration has changed, or its page has started (R417, R519). -/
def State.tenJournal (s : State) (base : Nat) : State :=
  let s := s.jHeader (pnoOf base)
  if pnoOf base = 0 then
    let w := s.backupWord 0xF00
    s.jBoot (s.backupWord 0xF04) (w % 256) (bits w 9 8) (bits w 31 30 % 2 * 2 + bits w 31 31 + 4 * bits w 28 28)
  else s

/-- A commit of a `TEN` page applies at accounting boundary t (R424): the SHARE_CHANGE record of changed shares,
and a new journal header for a changed journal. -/
def State.tenApply (s old : State) (base t : Nat) : State :=
  let chg (x : Fld) : Bool := s.get base x != old.get base x
  let s' := if chg F.TEN.SHADER_SHARE || chg F.TEN.DRAM_BE_SHARE || chg F.TEN.COPY_SHARE
    then s.shareRecord (pnoOf base) t else s
  if chg F.TEN.J_CFG_J_EN || chg F.TEN.J_CFG_J_SPACE || chg F.TEN.J_CFG_J_SIZE_LOG2 || chg F.TEN.J_BASE_LO
      || chg F.TEN.J_BASE_HI then s'.tenJournal base
  else s'

/-! Heads, layers and links -/

/-- The head or layer of a page of a head domain. -/
def headOf (base : Nat) : Nat := domOf base - 0x10
def layOf (base : Nat) : Nat := pnoOf base - 2

/-- A head starts at tick t (R140, R149): its raster begins with the first front-porch line. -/
def State.headStart (s : State) (h t : Nat) : State :=
  let s := s.setRaster h ⟨true, t, s.get (headPage h) F.HEAD.RATE_DEN, 1⟩
  let s := s.put (headPage h) F.HEAD.GENLOCK_STATE_LOST 0
  (s.modHead h (fun x => { HeadSt.idle with applySeq := x.applySeq, exit := x.exit, exitAt := x.exitAt })).gfxRetime h

/-- A link goes to a state of R139's `LINK_STATUS`. -/
def State.linkState (s : State) (k v : Nat) : State := s.put (dsiPage k) F.DSI.LINK_STATUS_STATE v

/-- The links that head h claims. -/
def State.claimed (s : State) (h : Nat) : List Nat :=
  (upto 0 16).filter (fun k => s.flag (dsiPage k) F.DSI.LINK_STATUS_CLAIMED && s.get (dsiPage k) F.DSI.LINK_STATUS_HEAD == h)

/-- The raster of head h stops (R148, R149, R150): its links go to stop state and it reports infinite tolerance. -/
def State.rasterOff (s : State) (h : Nat) : State :=
  let s := s.setRaster h Raster.off
  let s := forL (fun k s => s.linkState k 0) (s.claimed h) s
  ((s.modHead h (fun x => { x with lat := none })).reportLat h none).put (headPage h) F.HEAD.LAT_TOL 0xFFFFFFFF

/-- Every layer of head h loses its active buffers (R155). -/
def State.headReplaces (s : State) (h cause : Nat) : State :=
  forL (fun l s =>
    let s := (s.replaceBufs h l cause (s.planes h l) (fun _ => true)).put (layerPage h l) F.LAYER.LAYER_STATE_VISIBLE 0
    s.modLay h l (fun x => { x with active := false, bufs := [], fallAt := none })) (upto 0 12) s

/-- A head's disable applies (R149, R155, R169). -/
def State.headStop (s : State) (h : Nat) : State :=
  (((s.rasterOff h).headReplaces h 2).put (headPage h) F.HEAD.GENLOCK_STATE_STATE 0).gfxHeadOff h

/-- The steps in force of a video layer (R114). -/
def State.laySteps (s : State) (h l : Nat) : State :=
  if isVid l then
    let c := s.layCfg h l
    (s.put (layerPage h l) F.LAYER.H_STEP c.hStep).put (layerPage h l) F.LAYER.V_STEP c.vStep
  else s

/-- A layer starts (R126, R155): it holds active buffers, and its reflex state is clear. -/
def State.layStart (s : State) (h l : Nat) : State :=
  let p := layerPage h l
  let s := if s.flag p F.LAYER.LAYER_STATE_REFLEX_STATE then (s.put p F.LAYER.LAYER_STATE_REFLEX_STATE 0).intBit p 2 else s
  (s.modLay h l (fun x => { LaySt.idle with active := true, rel := x.rel, late := x.late })).laySteps h l

/-- A layer's disable applies (R155). -/
def State.layStop (s : State) (h l : Nat) : State :=
  let s := (s.replaceBufs h l 1 (s.planes h l) (fun _ => true)).put (layerPage h l) F.LAYER.LAYER_STATE_VISIBLE 0
  s.modLay h l (fun x => { x with active := false, bufs := [], fallAt := none })

/-- A commit of a layer has applied (R155): the planes whose base or space differs are replaced, and all planes of the
image are active buffers of an enabled layer. -/
def State.layApply (s old : State) (h l : Nat) : State :=
  let ps := old.planes h l
  let qs := s.planes h l
  let s := s.replaceBufs h l 0 ps (fun k =>
    match ps[k]?, qs[k]? with
    | some a, some b => a.addr != b.addr || a.space != b.space
    | _, _ => true)
  (if s.enabled (layerPage h l) then s.modLay h l (fun x => { x with active := true }) else s).laySteps h l

/-- Frame length as a fraction of ticks: raster slots × DEN, and NUM. -/
def State.frameFrac (s : State) (h : Nat) : Nat × Nat :=
  (s.hTotal h * s.vTotal h * s.get (headPage h) F.HEAD.RATE_DEN, s.get (headPage h) F.HEAD.RATE_NUM)

/-- Two heads have one frame length (R169). -/
def State.sameFrame (s : State) (h g : Nat) : Bool :=
  let a := s.frameFrac h
  let b := s.frameFrac g
  a.1 * b.2 == b.1 * a.2

/-- The followers of a leader whose frame length has changed lose lock (R169). -/
def State.followersFree (s : State) (h : Nat) : State :=
  forL (fun f s =>
    let p := headPage f
    if f ≠ h ∧ s.enabled p ∧ s.get p F.HEAD.SCAN_CFG_GENLOCK_SRC = 1 ∧ s.get p F.HEAD.SCAN_CFG_GENLOCK_HEAD = h
        ∧ s.sameFrame f h = false then
      ((s.put p F.HEAD.GENLOCK_STATE_STATE 0).put p F.HEAD.GENLOCK_STATE_LOST 1).intBit p 2
    else s) (upto 0 8) s

/-- A commit of a head's page 0 has applied at its slack point (R151, R169). (log 114, DEDUCED) -/
def State.headApply (s old : State) (h : Nat) : State :=
  let p := headPage h
  let rate (x : State) : Nat × Nat := (x.get p F.HEAD.RATE_NUM, x.get p F.HEAD.RATE_DEN)
  let s := if rate s ≠ rate old then s.setRaster h { s.raster h with frac := s.get p F.HEAD.RATE_DEN } else s
  let s := if s.frameFrac h ≠ old.frameFrac h then s.followersFree h else s
  s.gfxRetime h

/-- A DOMAIN or BLOCK reset reaches a head's page 0 (R16, R150, R155, R156); `old` is the state before it. -/
def State.headReset (s old : State) (h : Nat) : State :=
  let seq := old.get (headPage h) F.HEAD.FRAME_SEQ
  let s := forL (fun k s => (s.linkState k 0).put (dsiPage k) F.DSI.LINK_STATUS_CLAIMED 0) (s.claimed h)
    (s.setRaster h Raster.off)
  let s := s.headReplaces h 3
  let s := forL (fun l s => (s.releaseDue h l s.now seq)) (upto 0 12) s
  (({ s with heads := amDrop (· == h) s.heads }).reportLat h none).gfxHeadOff h

/-- A DOMAIN or BLOCK reset reaches a layer (R155, R156): what it has replaced stays until its last response has
returned. -/
def State.layReset (s old : State) (h l : Nat) : State :=
  let s := s.replaceBufs h l 3 (old.planes h l) (fun _ => true)
  let x := s.lay h l
  let s := s.setLay h l { LaySt.idle with rel := x.rel, late := x.late }
  s.releaseDue h l s.now (s.get (headPage h) F.HEAD.FRAME_SEQ)

/-- A block starts at tick t. -/
def startHook (k : PKind) (base t : Nat) (s : State) : State :=
  match k with
  | .ring => s.ringApply base
  | .ten => s.tenJournal base
  | .mbucket => forN (fun b s => s.put base (F.MBUCKET.OVERFLOWS.at b) 0) 10 (s.bucketRestart t)
  | .pot => { s with potCache := [] }
  | .gsched => s.put schedPage F.GSCHED.PREEMPT_MAX 0
  | .head => s.headStart (headOf base) t
  | .region => forN (fun r s => s.put base (F.REGION.RESULT_STATE_DONE.at r) 0) 16 s
  | .layer => s.layStart (headOf base) (layOf base)
  | .glayer => s.layStart (headOf base) (layOf base)
  | .panel => s.panelStart (panelOf base) t
  | .aeng => s.aengStart t
  | .dglob => s.globalStart t
  | .bsync => s.syncStart t
  | .pbc => s.bcApply true
  | .tmb => s.modTmb (fun x => { x with hbAt := t })
  | .tport => s.tportStart (pnoOf base - 1)
  | .tremote => s.mirUpdate
  | .dchan => s.chanStart (pnoOf base - 6)
  | .aport => s.aportStart (pnoOf base - 2) t
  | .hchan => s.hchStart (pnoOf base - 1)
  | .hport => s.hptStart (pnoOf base - 9) t
  | _ => s

/-- A block stops at tick t. -/
def stopHook (k : PKind) (base _t : Nat) (s : State) : State :=
  match k with
  | .ring => s.ringApply base
  | .cvu => s.cvuAbort (pnoOf base)
  | .head => s.headStop (headOf base)
  | .layer => s.layStop (headOf base) (layOf base)
  | .glayer => s.layStop (headOf base) (layOf base)
  | .wb => s.setWb (pnoOf base) WbSt.idle
  | .dsi => s.linkState (pnoOf base) 0
  | .panel => s.panelStop (panelOf base)
  | .aeng => s.aengStop
  | .dglob => s.globalStop
  | .bsync => s.syncStop
  | .pbc => s.bcApply false
  | .xspi => s.xspiDrop
  | .tport => s.tportStop (pnoOf base - 1)
  | .tremote => s.mirUpdate
  | .dchan => s.chanStop (pnoOf base - 6)
  | .abank => s.swapOff
  | .aport => s.aportStop (pnoOf base - 2)
  | .hchan => s.hchStop (pnoOf base - 1)
  | .hport => s.hptStop (pnoOf base - 9)
  | _ => s

/-- A commit has been applied to a page at tick t; `old` is the state before it. -/
def applyHook (k : PKind) (old : State) (base t : Nat) (s : State) : State :=
  match k with
  | .ring => s.ringApply base
  | .ten => s.tenApply old base t
  | .fctl => s.fenceApply
  | .alloc => s.allocApply old
  | .gl2 => s.maskApply old
  | .head => s.headApply old (headOf base)
  | .layer => s.layApply old (headOf base) (layOf base)
  | .glayer => s.layApply old (headOf base) (layOf base)
  | .panel => s.panelApply old (panelOf base) t
  | .hport => s.hptApply old (pnoOf base - 9)
  | .reflex => s.reflexApply
  | .tremote => s.mirUpdate
  | .pbc => s.bcApply false
  | .aeng => s.aengApply old
  | .aport => s.aportApply old (pnoOf base - 2) t
  | .mbucket => s.bucketRestart t
  | .pot => if s.potBase = old.potBase then s else { s with potCache := [] }
  | _ => s

/-- What the reset of a page's block clears beside its registers; `old` is the state before the registers were
reset. -/
def resetHook (k : PKind) (old : State) (base : Nat) (s : State) : State :=
  match k with
  | .ring => { s with rings := amDrop (fun r => r / 16 == pnoOf base) s.rings }
  | .copy => { s with copies := amDrop (fun e => e == pnoOf base) s.copies }
  | .gfe => { s with gfx := { s.gfx with jobs := [], saved := [] } }
  | .cvu => { s with cvus := amDrop (fun n => n == pnoOf base) s.cvus }
  | .head => s.headReset old (headOf base)
  | .layer => { s.layReset old (headOf base) (layOf base) with
      coefs := amDrop (fun k => k / 4096 == 16 * headOf base + layOf base) s.coefs }
  | .glayer => s.layReset old (headOf base) (layOf base)
  | .colour => { s with luts := amDrop (fun k => k / 12288 == headOf base) s.luts }
  | .wb => forL (fun u s => s.cvuAbort u) (old.cvuOnWb (pnoOf base)) (s.setWb (pnoOf base) WbSt.idle)
  | .dsi =>
    let k := pnoOf base
    let s := { s with links := amDrop (· == k) s.links }
    (s.put base F.DSI.LINK_STATUS_CLAIMED (old.get base F.DSI.LINK_STATUS_CLAIMED)).put base F.DSI.LINK_STATUS_HEAD
      (old.get base F.DSI.LINK_STATUS_HEAD)
  | .panel => { s with panels := amDrop (· == panelOf base) s.panels }
  | .hap => { s with effects := [], effLoad := none }
  | .hchan => { s with hchans := amDrop (· == pnoOf base - 1) s.hchans }
  | .hport =>
    let p := pnoOf base - 9
    ({ s with hports := amDrop (· == p) s.hports }).put base F.HPORT.PORT_STATE_FAULT_PIN
      (old.get base F.HPORT.PORT_STATE_FAULT_PIN)
  | .reflex => { s with reflex := [], reflexArm := [] }
  | .aeng => { s with lineStarts := [] }.modAudio (fun a => { a with players := [], sinks := [], mem := [] })
  | .abank => s.modAudio (fun a => { a with bank0 := Bank.empty, bank1 := Bank.empty, load := none, swap := none })
  | .aport => s.aportStop (pnoOf base - 2)
  | .asrc => s.modAudio (fun a => { a with convs := [] })
  | .again => s.modAudio (fun a => { a with gains := [], gainWr := [], duck := [] })
  | .ameter => s.modAudio (fun a => { a with meters := [] })
  | .tmb =>
    let s := s.modTmb (fun t => { t with peers := [] })
    (s.put base F.TMB.RING_CFG_MASTER (old.get base F.TMB.RING_CFG_MASTER)).put base F.TMB.RING_CFG_INDEX
      (old.get base F.TMB.RING_CFG_INDEX)
  | .tport => s.tportStop (pnoOf base - 1)
  | .hostp => s.wr (base + 0xF00) (old.rd (base + 0xF00))
  | .bsync => s.syncStop
  | .pbc => forN (fun n s => s.bcDrop n) 2 s
  | .xspi => s.xspiDrop
  | .hmsix => forN (fun f s => s.fnReset (domOf base - 0x06) f) 16 s
  | _ => s

end Sys2Proof.Machine
end

