-- ==== Sys2Proof/Machine/Pages.lean ====
section
/-! DEFINITION. Enable, disable, commit, arm and apply of a page (R82–R92). -/

namespace Sys2Proof.Machine

/-- A 64-bit time stamp of a page header. (log 195, DEDUCED) -/
def State.stamp (s : State) (base : Nat) (lo : Fld) (t : Nat) : State := s.put64 base lo t

/-- The page applies an accepted enable or an armed image on the tick it accepts (R63, R208, R243): pages that
apply on arm, a link page that no head claims, and a panel that runs no frames. -/
def State.onArm (s : State) (base : Nat) (i : PInfo) : Bool :=
  match i.app with
  | .onArm => true
  | .slack => i.kind == .dsi && s.flag base F.DSI.LINK_STATUS_CLAIMED == false
  | .touchFrame => s.panelStill (panelOf base)
  | _ => false

/-- A page that is in force at its next apply point has its block started (R82). -/
def State.startBlock (s : State) (base t : Nat) : State :=
  match pinfoAt base with
  | none => s
  | some i =>
    let s := s.put base F.HDR.STATUS_ENABLED 1
    let s := if i.kind.busy then s.put base F.HDR.STATUS_IDLE 0 else s
    let s := (s.stamp base F.HDR.TS_ENABLE_LO t).stamp base F.HDR.TS_APPLY_LO t
    let s := (s.modCtl base (fun c => { c with startDue := none })).openPeriod base t
    startHook i.kind base t (s.intBit base 30)

/-- A disable acts (R83): the block stops, and `IDLE` sets at once where it has nothing in flight. (log 236, DEDUCED) -/
def State.stopBlock (s : State) (base t : Nat) : State :=
  match pinfoAt base with
  | none => s
  | some i =>
    let s := s.modCtl base (fun c => { c with stopDue := false })
    stopHook i.kind base t (s.put base F.HDR.STATUS_ENABLED 0)

/-- The device stops a block without a write of 0 (R584). -/
def State.haltBlock (s : State) (base t : Nat) : State :=
  ((s.put base F.HDR.CTRL_ENABLE 0).withdraw base).stopBlock base t

/-- A refusal of R79 step 4 is recorded with operation 0 (R454). -/
def State.holdNote (s : State) (base : Nat) (v : Verdict) (r : Req) : State :=
  if v.reason = rHold then s.holdRecord (match v.page with | some p => pg (domOf base) p | none => base) 0 r else s

/-- The image in force replaces the active registers of its pages (R85). -/
def State.applyImage (s : State) (base t seq : Nat) (img : CfgImage) : State :=
  let old := s
  let s := forL (fun p s => s.copySc img p) img.pages s
  let s := s.modCtl base (fun c => { c with armed := none })
  let s := forL (fun p s => ((s.stamp p F.HDR.TS_APPLY_LO t).periodSrcNew old p t).intBit p 30) img.pages s
  let s := s.commitRecord base img t seq 0 0
  forL (fun p s => match pinfoAt p with | some i => applyHook i.kind old p t s | none => s) img.pages s

/-- A page's armed image, armed before tick t, applies at t with the sequence of the apply point (R85). -/
def State.applyArmed (s : State) (base t seq : Nat) : State :=
  match (s.ctl base).armed with
  | some img => if img.tick < t then s.applyImage base t seq img else s
  | none => s

/-- An enable or a disable of the page that waits for its apply point acts at tick t. -/
def State.applyDue (s : State) (base t : Nat) : State :=
  let c := s.ctl base
  if c.stopDue then s.stopBlock base t
  else match c.startDue with
    | some a => if a < t then s.startBlock base t else s
    | none => s

/-- The apply point of a page that forms its own group (R82–R85). -/
def State.applyPoint (s : State) (base t seq : Nat) : State := (s.applyArmed base t seq).applyDue base t

/-- The enable check of a page completes (R82). A withdrawn check that ends lets the enable written after its withdrawal start its own (R83). (log 226, DEDUCED) -/
def State.enableDone (s : State) (base : Nat) : State :=
  match (s.ctl base).enRun, pinfoAt base with
  | some run, some i =>
    let a := s.now
    let v := s.runCheck run.req run.img [base] true true
    let gone := (s.ctl base).withdrawn
    let next := (s.ctl base).enNext
    let s := (s.modCtl base (fun c => { c with enRun := none, enNext := none, withdrawn := false })).checkDone base v
    let s :=
      if v.reason ≠ 0 then
        (if next.isSome then s else s.put base F.HDR.CTRL_ENABLE 0).holdNote base v run.req
      else
        let old := s
        let s := s.copySc run.img base
        let s := if i.kind = .alloc then s.allocApply old else if i.kind = .gl2 then s.maskApply old else s
        if gone then s
        else if s.onArm base i then s.startBlock base a
        else s.modCtl base (fun c => { c with startDue := some a })
    let s := match next with
      | some n => s.startEnable base n.req n.img
      | none => s
    (s.startQueued base).fenceRelease1 base
  | _, _ => s

/-- The commit check of a page or group completes (R84–R86). -/
def State.commitDone (s : State) (base : Nat) : State :=
  match (s.ctl base).run, pinfoAt base with
  | some run, some i =>
    let a := s.now
    let v := s.runCheck run.req run.img run.img.pages true false
    let s := (s.modCtl base (fun c => { c with run := none })).checkDone base v
    let s :=
      if v.reason ≠ 0 then s.holdNote base v run.req
      else if s.onArm base i then s.applyImage base a 0 { run.img with tick := a }
      else s.arm base run.img a
    (s.startQueued base).fenceRelease1 base
  | _, _ => s

/-- A write of `CTRL.ENABLE` = 1 (R82–R84). (log 62, DEDUCED) (log 226, DEDUCED) -/
def State.enableWrite (s : State) (base : Nat) (r : Req) : State :=
  if s.present base = false then s.refuse base (Verdict.no rFused 0x008 0)
  else if s.flag base F.HDR.CTRL_ENABLE then s
  else
    let c := s.ctl base
    let s := s.put base F.HDR.CTRL_ENABLE 1
    if c.stopDue then s.setCtl base { c with stopDue := false }
    else
      let img := s.capture [base]
      if c.enRun.isSome then s.setCtl base { c with enNext := some ⟨r, img⟩ } else s.startEnable base r img

/-- The page leaves the armed image of its domain's group. (log 228, DEDUCED) -/
def State.leaveGroup (s : State) (base : Nat) : State :=
  s.modCtl (pg (domOf base) 0) (fun c =>
    { c with armed := c.armed.map (fun i => { i with pages := i.pages.filter (· != base) }) })

/-- A write of `CTRL.ENABLE` = 0 (R83, R453, R587). -/
def State.disableWrite (s : State) (base : Nat) (r : Req) : State :=
  if s.flag base F.HDR.CTRL_ENABLE = false then s
  else if s.secureHold base ∧ r.tag ≠ 1 then (s.refuse base (Verdict.no rHold 0x008 0)).holdRecord base 1 r
  else match pinfoAt base with
    | none => s
    | some i =>
      let s := (s.put base F.HDR.CTRL_ENABLE 0).withdraw base
      let s := if s.groupPage base = base then s else s.leaveGroup base
      let c := s.ctl base
      if c.enRun.isSome then s.setCtl base { c with withdrawn := true }
      else if c.startDue.isSome then s.setCtl base { c with startDue := none }
      else if s.enabled base = false then s
      else if s.onArm base i then s.stopBlock base s.now
      else s.setCtl base { c with stopDue := true }

/-- A write of `CTRL.COMMIT` = 1 (R84, R86, R88, R92). (log 229, DEDUCED) -/
def State.commitWrite (s : State) (base : Nat) (r : Req) : State :=
  if s.groupPage base ≠ base then s.refuse base (Verdict.no rNotOwner 0x008 1)
  else
    let foreign := s.fenceForeign (s.group base)
    if s.checkBusy base then s.modCtl base (fun c => { c with queued := some (r, foreign) })
    else s.takeCommit base r foreign

/-- A write of `CTRL.AUTO_COMMIT` (R89): judged as a check. -/
def State.autoWrite (s : State) (base : Nat) (b : Bool) : State :=
  match pinfoAt base with
  | none => s
  | some i =>
    if i.hasAuto = false ∨ s.flag base F.HDR.CTRL_AUTO_COMMIT = b then s
    else
      let s := s.checkStart base
      if s.enabled base then s.checkDone base { Verdict.no rInUse 0x008 4 with page := some (pnoOf base) }
      else (s.put base F.HDR.CTRL_AUTO_COMMIT (b2n b)).checkDone base Verdict.ok

/-- A write of `CTRL.COMMIT_ON_FENCE` (R67, R92): 0 withdraws a waiting commit. -/
def State.onFenceWrite (s : State) (base : Nat) (b : Bool) : State :=
  match pinfoAt base with
  | none => s
  | some i =>
    if i.hasFence = false then s
    else
      let s := s.put base F.HDR.CTRL_COMMIT_ON_FENCE (b2n b)
      if b then s else s.modCtl base (fun c => { c with wait := none })

/-- A core beside its registers. (log 219, DESIGN CHOICE) -/
def State.core (s : State) (c : Nat) : CoreSt := amGet (fun _ => CoreSt.idle) s.cores c

/-- The state with a core replaced. -/
def State.setCore (s : State) (c : Nat) (x : CoreSt) : State :=
  { s with cores := amSet (fun _ => CoreSt.idle) s.cores c x }

/-- A line that a write has deasserted is pending at no core any more. (log 56, DEDUCED) -/
def State.dropLine (s : State) (base : Nat) : State :=
  if s.lineOn base then s
  else forN (fun c (s : State) =>
    let x := s.core c
    if x.lines.contains (lineOf base) then s.setCore c { x with lines := x.lines.filter (· != lineOf base) } else s) 4 s

/-- A write of `OWNER` that the manager or the secure world makes (R74–R76, R582, R453). -/
def State.ownerJudge (s : State) (base : Nat) (r : Req) (v : Nat) : State :=
  match pinfoAt base with
  | none => s
  | some i =>
    let id := v % 4096
    let s := s.checkStart base
    let ok := if r.tag = 1 then ownerId id else id == 0 || isTen id
    let reason :=
      if i.fixed ∧ r.tag = 1 ∧ id ≠ 1 then rLocked
      else if ok = false then rRange
      else if s.secureHold base ∧ r.tag ≠ 1 then rHold
      else if i.fixed then 0
      else if s.enabled base ∨ s.checkBusy base ∨ (s.armedFor base).isSome ∨ (s.ctl base).wait.isSome then rInUse
      else 0
    let verdict : Verdict := if reason = 0 then Verdict.ok else { Verdict.no reason 0x018 0 with page := some (pnoOf base) }
    if reason ≠ 0 then
      let s := s.checkDone base verdict
      if reason = rHold then s.holdRecord base 5 r else s
    else if i.fixed then s.checkDone base verdict
    else
      let s := forL (fun off s => s.wr (base + off + 0x800)
        ((s.rd (base + off + 0x800) &&& ~~~scMask i.kind off) ||| (s.rd (base + off) &&& scMask i.kind off)))
        (scOffs i.kind) s
      (((s.put base F.HDR.OWNER id).wr (base + 0x34) 0).dropLine base).checkDone base verdict

/-- The device may write `OWNER` for this requester (R74): otherwise the write is dropped with a violation. -/
def State.mayOwn (s : State) (base : Nat) (r : Req) : Bool :=
  match pinfoAt base with
  | none => false
  | some i =>
    let o := s.owner base
    r.tag == 1 || (r.tag == 0x010 && !i.fixed && o != 1 && !(decide (0x100 ≤ o) && decide (o < 0x140)))

/-- The payload of the RESET record of a DOMAIN or BLOCK reset (R499). -/
def resetPay (level dom page : Nat) (cause : RCause) (rid : Nat) (abandoned : Bool) (src release : Nat) : BitVec 128 :=
  jpay [(16, 1, level), (17, 1, dom), (18, 1, page), (19, 1, cause.code), (20, 1, rid), (21, 1, b2n abandoned),
    (22, 2, src), (24, 8, release)]

/-- A write of `CTRL.BLOCK_RESET` = 1 outside `TEN` pages (R498). -/
def State.blockReset (s : State) (base : Nat) (r : Req) : State :=
  match pinfoAt base with
  | none => s
  | some i =>
    let d := domOf base
    let no := fun reason => s.refuse base (Verdict.no reason 0x008 3)
    if d ≤ 5 ∨ d = 0x30 ∨ d = 0x31 then no 0x40
    else if s.secureHold base ∧ r.tag ≠ 1 then (no rHold).holdRecord base 3 r
    else if i.hasQuiesce ∧ s.flag base F.HDR.STATUS_QUIESCED = false then no rNotQuiesced
    else if s.idle base = false then no rNotIdle
    else if (s.ctl base).inReset.isSome then s
    else s.modCtl base (fun c => { c with inReset := some (r, s.now) })

end Sys2Proof.Machine
end

