-- ==== Sys2Proof/Machine/Slack.lean ====
section
/-! DEFINITION. Slack points and line slots (R91, R126, R125, R149–R153, R163–R170). -/

namespace Sys2Proof.Machine

/-! Links -/

/-- The D-PHY bit clock runs (R32, R147): it is the root's, and returns a while after a loss. (log 122, DEDUCED) -/
def State.dphyOk (s : State) : Bool := s.flag (pg 0x01 0) F.ROOT.ROOT_STATUS_PLL_LOCKED && decide (s.dphyAt ≤ s.now)

/-- The binding in force (R142): that of an enabled `OUTPUT` page. -/
def State.boundLinks (s : State) (h : Nat) : List Nat :=
  let g (x : Fld) : Nat := s.get (outPage h) x
  let a := g F.OUTPUT.LINK_BIND_LINK_A
  if s.enabled (outPage h) = false ∨ 16 ≤ a then []
  else if g F.OUTPUT.LINK_BIND_DUAL = 1 then [a, g F.OUTPUT.LINK_BIND_LINK_B] else [a]

/-- The claims of a head follow its binding at a slack point (R144, R148): links it no longer binds stop; bound ones
start HS while the head runs. (log 117, DEDUCED) -/
def State.bindLinks (s : State) (h : Nat) : State :=
  let o := outPage h
  let new := s.boundLinks h
  let s := forL (fun k s => if new.contains k then s else (s.linkState k 0).put (dsiPage k) F.DSI.LINK_STATUS_CLAIMED 0)
    (s.claimed h) s
  let s := forL (fun k s =>
    let s := (s.put (dsiPage k) F.DSI.LINK_STATUS_CLAIMED 1).put (dsiPage k) F.DSI.LINK_STATUS_HEAD h
    s.linkState k (if (s.raster h).on ∧ s.enabled (dsiPage k) ∧ s.dphyOk then 1 else 0)) new s
  let s := (s.put o F.OUTPUT.CLAIM_STATE_CLAIM_A (b2n (decide (0 < new.length)))).put o F.OUTPUT.CLAIM_STATE_CLAIM_B
    (b2n (decide (1 < new.length)))
  (s.put o F.OUTPUT.CLAIM_STATE_LINK_A (new.getD 0 0x1F)).put o F.OUTPUT.CLAIM_STATE_LINK_B (new.getD 1 0x1F)

/-- `DSI_LINK_ERROR` of link k (R147): 0 for its FIFO, 1 for the clock. -/
def State.linkError (s : State) (k arg : Nat) : State := (s.intBit (dsiPage k) 0).hit (80 + k) arg

/-- The D-PHY clock falls (R147): every link in HS stops. -/
def State.dphyLoss (s : State) (lasts : Nat) : State :=
  let s := { s with dphyAt := s.now + lasts }
  forL (fun k s => if s.get (dsiPage k) F.DSI.LINK_STATUS_STATE = 1 then (s.linkState k 0).linkError k 1 else s) (upto 0 16) s

/-- The link words of the active line that link k carries (R142): the left half on the first link of a dual binding,
the right half on the second. -/
def State.linkHalf (s : State) (h k : Nat) : List Nat :=
  let px := (s.headSt h).px
  match s.claimed h with
  | [a, _] => if k = a then px.take (px.length / 2) else px.drop (px.length / 2)
  | _ => px

/-- The packets of a burst of head h in the present line slot (R143): VSS on the first line of vertical sync and HSS on
every other, on an active line the pixel packet and, with `EOTP`, an EoTp packet; with `LP_IN_BLANK` = 0 blanking
fills the slot. -/
def State.burstOf (s : State) (h : Nat) (active : Bool) (px : List Nat) : List (List Byte) :=
  let p := headPage h
  let g (x : Fld) : Nat := s.get (outPage h) x
  let vss := decide (s.get p F.HEAD.LINE_POS_REGION = 2) && decide (s.get p F.HEAD.LINE_POS_LINE = 0)
  let l := [dsiShort (if vss then 0x01 else 0x21) 0]
    ++ (if active then
        dsiLong (if s.deep h then 0x0D else 0x3E) (dsiPixels (s.deep h) px) ::
          (if g F.OUTPUT.LINK_OPTS_EOTP = 1 then [dsiShort 0x08 0x0F0F] else [])
      else [])
  let sent := (l.map List.length).foldl (· + ·) 0
  let ticks := s.hTotal h * s.get p F.HEAD.RATE_DEN / max 1 (s.get p F.HEAD.RATE_NUM)
  let room := ticks * (g F.OUTPUT.LINK_BIND_LANES + 1) / 2 - sent
  if g F.OUTPUT.LINK_OPTS_LP_IN_BLANK = 1 then l else l ++ dsiBlanks room

/-- The packets of a link's burst. -/
def State.setLinkBurst (s : State) (k : Nat) (b : List (List Byte)) : State :=
  { s with links := amSet (fun _ => LinkSt.idle) s.links k { amGet (fun _ => LinkSt.idle) s.links k with burst := b } }

/-- Bursts of a line slot (R143, R146, R147); `fifo` tells the links whose transmit FIFO empties in a pixel packet. -/
def State.bursts (s : State) (h : Nat) (active : Bool) (fifo : Nat → Bool) : State :=
  forL (fun k s =>
    if s.get (dsiPage k) F.DSI.LINK_STATUS_STATE = 1 then
      let s := s.stat (dsiPage k) 0
      let cut := active && fifo k
      let p := s.linkHalf h k
      let keep := if cut then s.free.toNat % (p.length + 1) else p.length
      let s := if cut then ((s.tookFree).stat (dsiPage k) 1).linkError k 0 else s
      let px := if active then p.take keep ++ List.replicate (p.length - keep) 0 else []
      s.setLinkBurst k (s.burstOf h active px)
    else s) (s.claimed h) s

/-! Genlock -/

/-- A head's frame length in ticks, rounded up. (log 114, DEDUCED) -/
def State.frameTicks (s : State) (h : Nat) : Nat :=
  let f := s.frameFrac h
  cdiv f.1 (max 1 f.2)

/-- The first due slack point of head h at or after tick t (R169); none for a head that is not locked to a source
that runs. -/
def State.dueFrom (s : State) (h t : Nat) : Option Nat :=
  let p := headPage h
  match s.get p F.HEAD.SCAN_CFG_GENLOCK_SRC with
  | 1 =>
    let l := s.get p F.HEAD.SCAN_CFG_GENLOCK_HEAD
    let off := s.get p F.HEAD.GENLOCK_OFFSET
    if (s.raster l).on = false ∨ s.sameFrame h l = false then none
    else
      let last := s.get64 (headPage l) F.HEAD.SLACK_TS_LO + off
      if t ≤ last then some last else some (s.nextSlack l (t - off - 1) + off)
  | 2 =>
    let f := max 1 (s.frameTicks h)
    let o := s.get64 p F.HEAD.GENLOCK_ORIGIN_LO
    some (t + (((o : Int) - (t : Int)) % (f : Int)).toNat)
  | _ => none

/-- The due slack point nearest to tick t; the later one on a tie (R170). -/
def State.dueNear (s : State) (h t : Nat) : Option Nat :=
  (s.dueFrom h t).map (fun a =>
    let b := a - s.frameTicks h
    if a - t ≤ t - b then a else b)

/-- The distance of two ticks. (log 121, DEDUCED) -/
def tickDist (a b : Nat) : Nat := max a b - min a b

/-- The raster of head h is delayed, or advanced, by ticks from now on. -/
def State.rasterShift (s : State) (h : Nat) (d : Int) : State :=
  let r := s.raster h
  s.setRaster h { r with org := ((r.org : Int) + d).toNat }

/-- What a locked head does at slack point t (R169, R170): its state, and the idle ticks that bring it to its next
due slack point. (log 120, DEDUCED) (log 121, DEDUCED) -/
def State.genlockSlack (s : State) (h t : Nat) : State :=
  let p := headPage h
  let src := s.get p F.HEAD.SCAN_CFG_GENLOCK_SRC
  let st (s : State) (v : Nat) : State := s.put p F.HEAD.GENLOCK_STATE_STATE v
  if src = 0 ∨ src = 3 then st s 0
  else if src = 1 ∧ (s.raster (s.get p F.HEAD.SCAN_CFG_GENLOCK_HEAD)).on = false then st s 1
  else
    let n := s.nextSlack h t
    match s.dueNear h n, s.dueFrom h n, s.dueNear h t with
    | some near, some next, some here =>
      let ok := if src = 1 then decide (tickDist t here ≤ 2) else (s.headSt h).lockOk
      let idle := decide (64 < tickDist near n)
      let s := s.modHead h (fun x => { x with lockOk := true, due := if idle then next else near })
      if idle then ((st s 2).rasterShift h ((next : Int) - (n : Int))).stat p 8
      else st s (if ok then 3 else 2)
    | _, _, _ => st s 0

/-- The correction of R170 at the start of line slot i, in THYME mode. -/
def State.genlockLine (s : State) (h i : Nat) : State :=
  let p := headPage h
  if s.get p F.HEAD.SCAN_CFG_GENLOCK_SRC ≠ 2 ∨ (s.headSt h).due = 0 then s
  else
    let due := (s.headSt h).due - s.frameTicks h
      + cdiv (i * s.hTotal h * s.get p F.HEAD.RATE_DEN) (max 1 (s.get p F.HEAD.RATE_NUM))
    let s := if 2 < tickDist s.now due then s.modHead h (fun x => { x with lockOk := false }) else s
    if due < s.now then (s.rasterShift h (-1)).stat p 8
    else if s.now < due then (s.rasterShift h 1).stat p 8
    else s

/-! Commit arbitration -/

/-- The re-verification of an auto-commit page (R91, R135). -/
def State.recheck (s : State) (p : Nat) (img : CfgImage) : Verdict :=
  let v : View := ⟨s, img, p, false, false⟩
  if s.enabled (headPage v.head) = false then Verdict.no rDepend
  else match (layerAgain v).head? with
    | none => Verdict.ok
    | some w => ⟨w.reason, w.off % 0x1000, w.bit, w.arg, none⟩

/-- An auto-commit page at slack point t (R91). (log 230, DEDUCED) (log 231, DEDUCED) -/
def State.autoPage (s : State) (h p t seq : Nat) : State :=
  match (s.ctl p).armed with
  | none => s
  | some img =>
    if t ≤ img.tick then s
    else
    let s := s.checkStart p
    let v := s.recheck p img
    if v.reason = 0 then
      ((s.applyImage p t seq img).stat (headPage h) 4).modHead h (fun x => { x with changed := true })
    else
      let s := s.modCtl p (fun c => { c with armed := none })
      let s := ((s.writeCheck p v).intSet p 0x20000000).stat (headPage h) 5
      s.commitRecord p img t seq 2 v.reason

/-- The arbitration of R91 at slack point t of head h. -/
def State.arbitrate (s : State) (h t seq : Nat) : State :=
  let hp := headPage h
  let pages := pagesOf (0x10 + h)
  let grp := s.group hp
  let armed : Bool := match (s.ctl hp).armed with
    | some img => decide (img.tick < t)
    | none => false
  let starts := grp.any (fun p => (s.ctl p).startDue.isSome && !(s.ctl p).stopDue)
  let s := s.applyArmed hp t seq
  let s := if armed then (s.stat hp 4).modHead h (fun x => { x with changed := true }) else s
  let s := forL (fun p s => s.applyDue p t) pages s
  let s := if armed ∨ starts then s.modHead h (fun x => { x with applySeq := seq, changed := true }) else s
  forL (fun p s => if s.flag p F.HDR.CTRL_AUTO_COMMIT then s.autoPage h p t seq else s) pages s

/-! Reflex visibility -/

/-- The reflex update of one layer at a slack point (R126, R538). -/
def State.reflexUpdate (s : State) (h l t : Nat) : State :=
  let p := layerPage h l
  let x := s.lay h l
  let old := s.flag p F.LAYER.LAYER_STATE_REFLEX_STATE
  let a := if s.flag p F.LAYER.REFLEX_CTL_CLEAR_REQ then false
    else if s.flag p F.LAYER.REFLEX_CTL_SET_REQ then true else old
  let b := x.force.getD (a != ((x.toggles.filter (· < t)).length % 2 == 1))
  let s := s.setLay h l { x with toggles := x.toggles.filter (t ≤ ·), force := none }
  let s := (s.put p F.LAYER.REFLEX_CTL_CLEAR_REQ 0).put p F.LAYER.REFLEX_CTL_SET_REQ 0
  if b = old then s
  else ((s.put p F.LAYER.LAYER_STATE_REFLEX_STATE (b2n b)).intBit p 2).modHead h (fun y => { y with changed := true })

/-- A reflex toggle of a layer (R126, R165). -/
def State.reflexToggle (s : State) (h l : Nat) : State :=
  (s.modLay h l (fun x => { x with toggles := x.toggles ++ [s.now] })).holdTrigger h 2

/-! Static frames and holds -/

/-- A write since tick t reached the Tidepool bytes of a shown layer's crop (R163, R165). (log 99, DEDUCED) -/
def State.poolTouched (s : State) (h t0 t : Nat) : Bool :=
  (upto 0 12).any (fun l => s.shown h l && (s.planes h l).any (fun p =>
    p.space == 1 && s.poolWr.any (fun w => decide (t0 ≤ w.tick) && decide (w.tick < t)
      && (upto 0 (p.lines (s.layCfg h l))).any (fun y =>
        let a := p.lineAddr (s.layCfg h l) y
        decide (a < w.addr + w.bytes) && decide (w.addr < a + p.width (s.layCfg h l))))))

/-- What `AUTO` asks beside R163's list: every shown layer in the Tidepool, no temporal dither. (log 99, DEDUCED) -/
def State.autoStatic (s : State) (h : Nat) : Bool :=
  s.get (colPage h) F.COLOUR.CP_CFG_DITHER != 2
    && (upto 0 12).all (fun l => !s.shown h l || (s.planes h l).all (fun p => p.space == 1))

/-- A hold record (R166): event, cause, region. (log 116, DEDUCED) -/
def State.holdRec (s : State) (h t event cause region : Nat) : State :=
  s.jrecOwn 0x0004 (headPage h) t (jpay [(16, 1, event), (17, 1, cause), (18, 1, h), (19, 1, region),
    (20, 4, s.get (headPage h) F.HEAD.FRAME_SEQ)])

/-- The state of a hold, its interrupt bit and `EXIT_CAUSE`. (log 115, DEDUCED) -/
def State.holdTo (s : State) (h st : Nat) (cause : Option Nat) (bitNo : Option Nat) : State :=
  let p := headPage h
  let s := s.put p F.HEAD.HOLD_STATUS_STATE st
  let s := match cause with
    | some c => s.put p F.HEAD.HOLD_STATUS_EXIT_CAUSE c
    | none => s
  match bitNo with
  | some b => s.intBit p b
  | none => s

/-- A capture starts, or fails at once (R164): the record to write. (log 13, DEDUCED) (log 116, DEDUCED) -/
def State.captureStart (s : State) (h : Nat) (cmd : Bool) : State × List (Nat × Nat × Nat) :=
  match s.holdRegion h with
  | none => (s.holdTo h 0 (some 7) (some 5), [(2, 7, 0)])
  | some (r, _, n) =>
    if n < s.holdStride h * s.get (headPage h) F.HEAD.V_TIMING_0_ACTIVE then
      (s.holdTo h 0 (some 8) (some 5), [(2, 8, r)])
    else ((s.modHead h (fun x => { x with cap := some ⟨cmd, r, true⟩ })).holdTo h 1 none none, [(0, 0, r)])

/-- A frame that leaves CAPTURING or HOLDING with a capture commanded is followed by a captured one (R164); `l` are the
records of the hold so far. -/
def State.captureAgain (s : State) (h : Nat) (cmd : Bool) (l : List (Nat × Nat × Nat)) : State × List (Nat × Nat × Nat) :=
  if s.enabled (headPage h) ∧ cmd then
    let q := s.captureStart h true
    (q.1, l ++ q.2)
  else (s, l)

/-- The hold decision of a slack point (R163–R166): whether the frame that ends was static by R163's list, and by
`AUTO`'s; the records to write. (log 13, DEDUCED) (log 115, DEDUCED) A `CAPTURE` written in a frame that leaves the head composing captures the next one. -/
def State.holdDecide (s : State) (h t : Nat) (ended still auto : Bool) : State × List (Nat × Nat × Nat) :=
  let p := headPage h
  let x := s.headSt h
  let isAuto := s.flag p F.HEAD.HOLD_CFG_AUTO
  let n := if ended = false then s.get p F.HEAD.HOLD_STATUS_STATIC_FRAMES
    else if still && (!isAuto || auto) then sat 255 (s.get p F.HEAD.HOLD_STATUS_STATIC_FRAMES + 1) else 0
  let s := s.put p F.HEAD.HOLD_STATUS_STATIC_FRAMES n
  let cmd := s.flag p F.HEAD.HOLD_CMD_CAPTURE
  let exit0 := if x.exitAt < t then x.exit else 0
  let exit := if s.enabled p = false ∧ exit0 = 0 then 6
    else if exit0 = 0 ∧ s.flag p F.HEAD.HOLD_CMD_EXIT then 4 else exit0
  let s := (s.put p F.HEAD.HOLD_CMD_CAPTURE 0).put p F.HEAD.HOLD_CMD_EXIT 0
  let rgn := ((s.holdRegion h).map (·.1)).getD 0
  let s := s.modHead h (fun x => { x with exit := if x.exitAt < t then 0 else x.exit, cap := none })
  match s.get p F.HEAD.HOLD_STATUS_STATE with
  | 0 =>
    if s.enabled p ∧ (cmd ∨ (isAuto ∧ s.get p F.HEAD.HOLD_CFG_IDLE_FRAMES ≤ n)) then s.captureStart h cmd else (s, [])
  | 1 =>
    match x.cap with
    | none => (s.holdTo h 0 none none).captureAgain h cmd []
    | some c =>
      if c.ok = false then (s.holdTo h 0 (some 10) (some 5)).captureAgain h cmd [(2, 10, c.region)]
      else if still = false ∨ (c.cmd = false ∧ isAuto ∧ auto = false) then
        (s.holdTo h 0 (some 9) (some 5)).captureAgain h cmd [(2, 9, c.region)]
      else
        let s := s.holdTo h 2 none (some 3)
        if exit = 0 then (s, [(1, 0, c.region)])
        else (s.holdTo h 0 (some exit) (some 4)).captureAgain h cmd [(1, 0, c.region), (3, exit, rgn)]
  | _ => if exit = 0 then (s, []) else (s.holdTo h 0 (some exit) (some 4)).captureAgain h cmd [(3, exit, rgn)]

/-! Coverage -/

/-- Layer k covers (R124). -/
def State.covers (s : State) (h k : Nat) : Bool :=
  let c := s.layCfg h k
  s.layVisible h k && !c.add && c.galpha == 0xFFFF && c.fall.a == 0xFFFF && c.solid

/-- Spans, each widened by those it overlaps or touches, cover the columns from a to b: the reach of a from the left. -/
def spanReach (l : List (Nat × Nat)) : Nat → Nat → Nat
  | 0, a => a
  | n + 1, a => spanReach l n (l.foldl (fun r (x : Nat × Nat) => if x.1 ≤ r ∧ r < x.2 then x.2 else r) a)

/-- Layer l is suppressed in band b (R125). -/
def State.suppressed (s : State) (h l b : Nat) : Bool :=
  let va := s.get (headPage h) F.HEAD.V_TIMING_0_ACTIVE
  let r := s.rect h l
  let y0 := max r.t (16 * b)
  let y1 := min r.b (min (16 * b + 16) va)
  let above := ((zOrder (s.get (headPage h))).dropWhile (· != l)).drop 1
  let spans := (above.filter (fun k =>
    let q := s.rect h k
    s.covers h k && decide (q.t ≤ y0) && decide (y1 ≤ q.b))).map (fun k => ((s.rect h k).l, (s.rect h k).r))
  decide (y0 < y1) && decide (r.r ≤ spanReach spans 12 r.l)

/-- Visibility and coverage of the coming frame (R120, R125). -/
def State.coverage (s : State) (h : Nat) : State :=
  let on := s.flag (headPage h) F.HEAD.COMP_CFG_COVERAGE
  let bands := cdiv (s.get (headPage h) F.HEAD.V_TIMING_0_ACTIVE) 16
  let s0 := s
  forL (fun l s =>
    let p := layerPage h l
    let vis := s0.layVisible h l
    let bs := if on && vis then (upto 0 bands).filter (s0.suppressed h l) else []
    let s := s.modLay h l (fun x => { x with supp := bs.foldl (fun a b => a ||| (1 <<< b)) 0, bufs := [], fallAt := none })
    let s := ((s.put p F.LAYER.LAYER_STATE_VISIBLE (b2n vis)).put p F.LAYER.LAYER_STATE_FALLBACK 0).put p
      F.LAYER.LAYER_STATE_BANDS_SUPPRESSED bs.length
    let s := if vis then s.stat p 2 else s
    s.stat p 4 bs.length) (upto 0 12) s

/-! The slack point -/

/-- The first start of the oldest frame in progress: older notes of Tidepool writes are dropped. -/
def State.poolWrPrune (s : State) : State :=
  let on := (upto 0 8).filter (fun h => (s.raster h).on)
  let t := (on.map (fun h => s.get64 (headPage h) F.HEAD.SLACK_TS_LO)).foldl min s.now
  { s with poolWr := if on.isEmpty then [] else s.poolWr.filter (fun w => decide (t ≤ w.tick)) }

/-- The pages outside the head's domain that apply at its slack point (R63, R85, R131). -/
def State.outerApply (s : State) (h t seq : Nat) : State :=
  let s := forL (fun n s =>
    if s.get (wbPage n) F.WB.WB_CFG_HEAD = h then
      let s := s.applyPoint (wbPage n) t seq
      if s.enabled (wbPage n) ∧ s.get (wbPage n) F.WB.WB_CFG_HEAD = h ∧ s.flag (wbPage n) F.HDR.CTRL_QUIESCE = false
          ∧ (s.raster h).on then
        s.setWb n ⟨true, false, 0⟩
      else s
    else s) [0, 1] s
  forL (fun k s => s.applyPoint (dsiPage k) t seq) (s.claimed h) s

/-- A head stops for STANDBY, and every link that it claims enters ULPS (R27, R167): a head that runs on after the
request was accepted does so too, at its next slack point. (log 49, DEDUCED) -/
def State.headSleeps (s : State) (h : Nat) : State :=
  match s.stby with
  | .entry 1 _ =>
    if (s.raster h).on then
      let links := s.claimed h
      let s := (s.rasterOff h).modHead h (fun x => { x with ulps := true })
      let s := forL (fun n s => if s.get (wbPage n) F.WB.WB_CFG_HEAD = h then s.setWb n WbSt.idle else s) [0, 1] s
      forL (fun k s => ((s.linkState k 2).stat (dsiPage k) 2).intBit (dsiPage k) 1) links s
    else s
  | _ => s

/-- Slack point t of head h (R151).  `first` for the start tick of the head; `ended` when a frame ends at t: none
does at the start tick and at the restart after STANDBY (R171). -/
def State.slackAt (s : State) (h t : Nat) (first ended : Bool) : State :=
  let p := headPage h
  let old := s.get64 p F.HEAD.SLACK_TS_LO
  let x := s.headSt h
  let touched := !first && s.poolTouched h old t
  let still := !first && !x.changed && !touched
  let auto := s.autoStatic h
  let wasHold := s.holdState h == 2
  let s := s.sourceAt (1 + h) t
  let s := if ended then (s.put p F.HEAD.FRAME_TICKS (t - old)).stat p 0 else s
  let s := if wasHold && ended then s.stat p 3 else s
  let ends := [0, 1].filter (fun n => (s.wbEnd h n t).2)
  let s := forL (fun n s => (s.wbEnd h n t).1) [0, 1] s
  -- 1
  let s := (s.put64 p F.HEAD.SLACK_TS_LO t).put p F.HEAD.FRAME_SEQ (if first then 1 else s.get p F.HEAD.FRAME_SEQ + 1)
  let seq := s.get p F.HEAD.FRAME_SEQ
  let s := s.modHead h (fun x => { x with changed := false, holdBad := none, done := 0 })
  let s := if touched then s.holdTrigger h 3 (t - 1) else s
  -- 2
  let s := s.arbitrate h t seq
  let s := forL (fun n s => s.haltBlock (wbPage n) t) ends s
  let s := s.outerApply h t seq
  let s := s.bindLinks h
  -- 3
  let s := forL (fun l s => s.reflexUpdate h l t) (upto 0 12) s
  -- 4
  let r := s.holdDecide h t ended still auto
  -- 5
  let s := if (r.1.raster h).on then r.1.coverage h else r.1
  -- 6
  let s := forL (fun l s => s.releaseDue h l t seq) (upto 0 12) s
  -- 7
  let s := forL (fun (e : Nat × Nat × Nat) s => s.holdRec h t e.1 e.2.1 e.2.2) r.2 s
  let s := s.intBit p 0
  let s := if (s.raster h).on then
      ((((s.genlockSlack h t).genlockLine h 0).put p F.HEAD.LINE_POS_REGION 1).put p F.HEAD.LINE_POS_LINE 0).latReport h 0
    else s
  let s := if (s.raster h).on then s.bursts h false (fun _ => false) else s
  (s.headSleeps h).poolWrPrune

/-- Region and line of raster line i (R139). -/
def State.linePos (s : State) (h i : Nat) : Nat × Nat :=
  let p := headPage h
  let fp := s.get p F.HEAD.V_TIMING_0_FP
  let sy := s.get p F.HEAD.V_TIMING_1_SYNC
  let bp := s.get p F.HEAD.V_TIMING_1_BP
  if i < fp then (1, i) else if i < fp + sy then (2, i - fp)
  else if i < fp + sy + bp then (3, i - fp - sy) else (0, i - fp - sy - bp)

/-- A head's next line slot starts (R140, R152, R153, R168, R179): `full` tells the writeback engines whose buffer
fills, `fifo` the links whose FIFO empties. (log 101, DESIGN CHOICE) -/
def State.lineSlot (s : State) (h : Nat) (full fifo : Nat → Bool) : State :=
  let r := s.raster h
  let vt := s.vTotal h
  if r.on = false ∨ vt ≤ r.line then s
  else
    let i := r.line
    let s := s.waitTo (s.slotTick h (i * s.hTotal h))
    let p := headPage h
    let va := s.get p F.HEAD.V_TIMING_0_ACTIVE
    let s := s.setRaster h { r with line := i + 1 }
    let pos := s.linePos h i
    let s := (s.put p F.HEAD.LINE_POS_REGION pos.1).put p F.HEAD.LINE_POS_LINE pos.2
    let s := s.genlockLine h i
    let s := if vt - va ≤ i then s.rgnsDone h (i - (vt - va)) else s
    let s := s.bursts h (decide (vt - va ≤ i)) fifo
    let s := s.latReport h i
    if vt - va ≤ i + 1 ∧ i + 1 < vt then s.composeLine h (i + 1 - (vt - va)) full else s

/-- The next slack point of a running head (R140, R151); line slots that have not been given start on the way. (log 101, DESIGN CHOICE) -/
def State.slackPoint (s : State) (h : Nat) : State :=
  if (s.raster h).on = false then s
  else
    let s := forN (fun _ s => s.lineSlot h (fun _ => false) (fun _ => false)) (s.vTotal h - (s.raster h).line) s
    let r := s.raster h
    let p := headPage h
    let n := s.hTotal h * s.vTotal h
    let due := s.slotTick h n
    let frac := r.frac + (due - r.org) * s.get p F.HEAD.RATE_NUM - n * s.get p F.HEAD.RATE_DEN
    let s := s.waitTo due
    (s.setRaster h ⟨true, s.now, frac, 1⟩).slackAt h s.now false true

/-- An accepted enable of a head starts its raster (R149): on the tick after the acceptance, or on the first due slack
point from then on. -/
def State.headBegins (s : State) (h : Nat) : State :=
  let p := headPage h
  match (s.ctl p).startDue with
  | none => s
  | some a =>
    if (s.raster h).on ∨ s.mode = .safe then s
    else
      let s := s.waitTo (a + 1)
      let s := s.waitTo ((s.dueFrom h s.now).getD s.now)
      s.slackAt h s.now true false

/-- A link's Mark-1 hold ends (R167): when it is the last of its head's links, the head restarts its raster with a
slack point on the next tick, or on its next due one. -/
def State.headWakes (s : State) (h : Nat) : State :=
  if s.mode = .safe ∨ (s.headSt h).ulps = false ∨ (s.claimed h).any (fun k => (amGet (fun _ => LinkSt.idle) s.links k).wake.isSome) then s
  else
    let s := s.waitTo (s.now + 1)
    let s := s.waitTo ((s.dueFrom h s.now).getD s.now)
    let s := (s.setRaster h ⟨true, s.now, s.get (headPage h) F.HEAD.RATE_DEN, 1⟩).modHead h (fun x => { x with ulps := false })
    s.slackAt h s.now false false

/-- The links of the heads that stand leave ULPS (R29, R167). (log 102, DESIGN CHOICE) -/
def State.ulpsExit (s : State) : State :=
  let s := forL (fun k s =>
    let d := dsiPage k
    if s.get d F.DSI.LINK_STATUS_STATE = 2 then
      let x : LinkSt := ⟨some (s.now + 1024 * s.get d F.DSI.DPHY_T_LP_WAKEUP), []⟩
      let s := { s with links := amSet (fun _ => LinkSt.idle) s.links k x }
      (s.linkState k 0).intBit d 2
    else s) (upto 0 16) s
  forL (fun h s => if (s.claimed h).isEmpty then s.headWakes h else s) (upto 0 8) s

/-- The Mark-1 hold of link k ends. (log 102, DESIGN CHOICE) -/
def State.wakeupEnd (s : State) (k : Nat) : State :=
  match (amGet (fun _ => LinkSt.idle) s.links k).wake with
  | none => s
  | some t =>
    let s := s.waitTo t
    let s := { s with links := amSet (fun _ => LinkSt.idle) s.links k LinkSt.idle }
    if s.flag (dsiPage k) F.DSI.LINK_STATUS_CLAIMED then s.headWakes (s.get (dsiPage k) F.DSI.LINK_STATUS_HEAD) else s

/-! Register accesses with an effect of their own -/

/-- The access of `COEF_SEL` advances (R117). -/
def coefNext (w : Nat) : Nat :=
  let tap := bits w 11 9
  let ph := bits w 8 3
  let last := if bit w 2 then 3 else 7
  if tap ≠ last ∧ tap < 7 then w % 512 + (tap + 1) * 512 else w % 8 + (ph + 1) % 64 * 8

/-- A read of `COEF_DATA` (R117). -/
def State.coefRead (s : State) (base : Nat) : State × Word :=
  let w := (s.rd (base + 0x190)).toNat
  let v := if bit w 2 ∧ 4 ≤ bits w 11 9 then 0
    else (s.coef (headOf base) (layOf base) (bits w 1 0) (bits w 2 2) (bits w 8 3) (bits w 11 9)).toNat
  (s.wr (base + 0x190) (BitVec.ofNat 32 (coefNext w)), BitVec.ofNat 32 v)

/-- A write of `COEF_DATA` (R117, R118). -/
def State.coefWrite (s : State) (base : Nat) (v : Word) : State :=
  let w := (s.rd (base + 0x190)).toNat
  let h := headOf base
  let l := layOf base
  let s :=
    if s.bankBusy h l (bits w 1 0) then s.intBit base 0
    else if bit w 2 ∧ 4 ≤ bits w 11 9 then s
    else
      let k := coefKey h l (bits w 1 0) (bits w 2 2) (bits w 8 3) (bits w 11 9)
      { s with coefs := amSet coefReset s.coefs k (v.setWidth 12) }
  s.wr (base + 0x190) (BitVec.ofNat 32 (coefNext w))

/-- `LUT_SEL` after an access (R128); an index above 1,024 wraps as well. -/
def lutNext (w : Nat) : Nat := w / 2048 * 2048 + (if bits w 10 0 < 1024 then bits w 10 0 + 1 else 0)

/-- A read of `LUT_DATA` (R128). (log 233, DESIGN CHOICE) -/
def State.lutRead (s : State) (base : Nat) : State × Word :=
  let w := (s.rd (base + 0x140)).toNat
  let ch := if bits w 13 12 = 3 then 0 else bits w 13 12
  let v := if 1024 < bits w 10 0 then 0 else s.lut (headOf base) (bits w 16 16) ch (bits w 10 0)
  (s.wr (base + 0x140) (BitVec.ofNat 32 (lutNext w)), BitVec.ofNat 32 v)

/-- A write of `LUT_DATA` (R128). (log 233, DESIGN CHOICE) -/
def State.lutWrite (s : State) (base : Nat) (v : Word) : State :=
  let w := (s.rd (base + 0x140)).toNat
  let h := headOf base
  let set := bits w 16 16
  let i := bits w 10 0
  let one (ch : Nat) (s : State) : State :=
    { s with luts := amSet lutReset s.luts (lutKey h set ch i) (v.setWidth 16) }
  let s :=
    if s.lutBusy h set then s.intBit base 0
    else if 1024 < i then s
    else if bits w 13 12 = 3 then one 0 (one 1 (one 2 s))
    else one (bits w 13 12) s
  s.wr (base + 0x140) (BitVec.ofNat 32 (lutNext w))

end Sys2Proof.Machine
end

