-- ==== Sys2Proof/Machine/RegRead.lean ====
section
/-! DEFINITION. Register reads: the access rules of R73 for reads, the values that a read computes, and the
snapshots of 64-bit registers (R45, R53, R71). -/

namespace Sys2Proof.Machine

/-! Values that a read computes -/

/-- `STATUS` (R68). -/
def State.statusWord (s : State) (base : Nat) : Nat :=
  let c := s.ctl base
  (b2n c.queued.isSome <<< 8) + (b2n c.wait.isSome <<< 7) + (b2n (s.checkBusy base) <<< 6)
    + (b2n (s.secureHold base) <<< 5) + (b2n (s.clockOk base) <<< 4)
    + (s.get base F.HDR.STATUS_QUIESCED <<< 3) + (b2n (s.armedFor base).isSome <<< 2)
    + (s.get base F.HDR.STATUS_IDLE <<< 1) + s.get base F.HDR.STATUS_ENABLED

/-- `CTRL` (R67): `COMMIT` reads 1 until the commit applies, is refused or is withdrawn; `BLOCK_RESET` until
it completes. (log 10, DEDUCED) -/
def State.ctrlWord (s : State) (base : Nat) : Nat :=
  let c := s.ctl base
  let commit := c.run.isSome || c.queued.isSome || c.wait.isSome || c.armed.isSome
  (s.get base F.HDR.CTRL_COMMIT_ON_FENCE <<< 5) + (s.get base F.HDR.CTRL_AUTO_COMMIT <<< 4)
    + (b2n c.inReset.isSome <<< 3) + (s.get base F.HDR.CTRL_QUIESCE <<< 2) + (b2n commit <<< 1)
    + s.get base F.HDR.CTRL_ENABLE

/-- A word of an OTP block. -/
def State.otpWord (s : State) (w : Nat) : Word := amGet (fun _ => 0) s.otp w

/-- Word j of the active option record of a key and kind: its winning slot's block (R502, R509). -/
def State.shadowWord (s : State) (key kind j : Nat) : Nat :=
  match s.winners.find? (fun e => e.1 == key * 256 + kind) with
  | some e => (s.otpWord (e.2 * 16 + j)).toNat
  | none => 0

/-- The SC view of a ring's negotiation (R402): that of the ring `VER_VIEW` selects. -/
def Ver.word (v : Ver) (j : Nat) : Nat :=
  match j with
  | 0 => (v.reason <<< 24) + (v.peerMax <<< 16) + (v.peerMin <<< 8) + v.chosen
  | 1 => (v.peerFeat <<< 16) + v.agreed
  | 2 => v.ts % 0x100000000
  | _ => v.ts / 0x100000000

/-- `CTX_c` of core c; core 0 has none (R431). -/
def State.ctxWord (s : State) (c : Nat) : Nat := if c = 0 then 0 else (s.rd (pg 0x04 0 + 0x100 + 4 * (c - 1))).toNat

/-- The tag of a service core's S-mode and U-mode requests (R431). -/
def State.ctxTag (s : State) (c : Nat) : Nat :=
  let w := s.ctxWord c
  if c = 0 then 1 else if bit w 31 then 0x100 + bits w 27 22 else bits w 11 0

/-- The route of a line (R95). -/
def State.route (s : State) (l : Nat) : Word := amGet (fun _ => (0 : Word)) s.routes l

/-- The domain is in reset (R40, R497): its reset is held, or every page of it stays in reset. (log 11, DEDUCED) -/
def State.domHeld (s : State) (d : Nat) : Bool :=
  (s.domReset d).isSome || (isDomain d && (pagesOf d).all (fun p => (s.ctl p).stuck))

/-- The words whose value a read computes, by kind and offset. (log 223, DEDUCED) -/
def State.blockValue (s : State) (k : PKind) (base off : Nat) : Option Nat :=
  match k with
  | .mode =>
    if off = 0x100 then some ((s.prev.code <<< 8) + (s.get base F.MODE.MODE_STATE_IN_TRANSITION <<< 7) + s.mode.code)
    else none
  | .thyme =>
    if off = 0x100 then some (s.now % 0x100000000)
    else if off = 0x104 then some (s.now / 0x100000000)
    else none
  | .backup => if 0xF00 ≤ off then some (s.backupWord off) else none
  | .otp =>
    if 0xF40 ≤ off then
      some (s.shadowWord (s.get base F.OTP.SHADOW_SEL_KEY) (s.get base F.OTP.SHADOW_SEL_KIND) ((off - 0xF40) / 4))
    else none
  | .pinmap =>
    if off = 0xF00 then
      some ((b2n s.rst.loaded <<< 31) + amGet (fun _ => 0) s.pinMap (s.get base F.PINMAP.PIN_SEL))
    else none
  | .blockreq =>
    if 0xF00 ≤ off then
      some (forN (fun b a => a + (b2n (s.domHeld ((off - 0xF00) * 8 + b)) <<< b)) 32 0)
    else none
  | .cove =>
    if 0xF10 ≤ off then
      some (forN (fun b a => a + ((s.cove ((off - 0xF10) * 4 + b)).code <<< (2 * b))) 16 0)
    else none
  | .measure =>
    if 0x100 ≤ off ∧ off < 0x400 then
      some (bits (amGet (fun _ => (0 : BitVec 384)) s.meas ((off - 0x100) / 0x30)).toNat
        (32 * ((off - 0x100) % 0x30 / 4) + 31) (32 * ((off - 0x100) % 0x30 / 4)))
    else if 0x404 ≤ off ∧ off < 0x434 then
      some (bits (amGet (fun _ => (0 : BitVec 384)) s.meas (64 + s.get base F.MEASURE.CMEAS_SEL)).toNat
        (8 * (off - 0x404) + 31) (8 * (off - 0x404)))
    else none
  | .core =>
    if off = 0xF00 then
      let c := pnoOf base
      let w := s.ctxWord c
      some ((s.get base F.CORE.CORE_STATE_STATE <<< 30) + (s.get base F.CORE.CORE_STATE_PRIV <<< 28)
        + (bits w 31 31 <<< 27) + (bits w 27 22 <<< 21) + s.ctxTag c)
    else none
  | .router => if off = 0x104 then some (s.route (s.get base F.ROUTER.IRQ_SELECT)).toNat else none
  | .ring =>
    if 0x214 ≤ off ∧ off < 0x224 then
      some ((s.ring (16 * pnoOf base + s.get base F.RING.VER_VIEW)).ver.word ((off - 0x214) / 4))
    else if 0xF00 ≤ off ∧ off % 8 = 0 then
      let i := (off - 0xF00) / 8
      some (((s.rd (base + off)).toNat &&& 0xFF0FFFFF) + ((s.ring (16 * pnoOf base + i)).pre.length <<< 20))
    else none
  | .fctl =>
    let f := s.fence (s.get base F.FCTL.READ_SEL)
    if off = 0xF00 then some f.cfg.toNat
    else if off = 0xF04 then some (f.mirror.toNat % 0x100000000)
    else if off = 0xF08 then some (f.mirror.toNat / 0x100000000)
    else if off = 0xF0C then some (f.value.toNat % 0x100000000)
    else if off = 0xF10 then some (f.value.toNat / 0x100000000)
    else none
  | .hfunc =>
    if (off = 0x100 ∨ off = 0x900) ∧ s.flag (portPage (domOf base - 0x06)) F.HOSTP.PORT_INFO_MGR then some 0x80000010
    else none
  | .ten =>
    if off = 0xF00 then
      some ((s.rd (base + off)).toNat / 256 * 256 + (s.ringsOf (0x10 + pnoOf base)).length)
    else none
  | .copy =>
    if off = 0xF00 then
      let e := s.copyEng (pnoOf base)
      some ((b2n e.running.isSome <<< 31) + (e.queue.length <<< 24)
        + (match e.running with
          | some x => x.1.tag
          | none => 0))
    else none
  | .gfe => if off = 0xF00 then some s.feState else none
  | .gsched =>
    if off = 0xF00 then some s.schedState
    else if off = 0xF08 then some (s.edfT % 0x100000000)
    else if off = 0xF0C then some (s.edfT / 0x100000000)
    else if 0xF40 ≤ off ∧ off < 0xF80 then some (sat 0xFFFFFFFF (s.usedNow ((off - 0xF40) / 4) / 64))
    else if 0xF80 ≤ off then some (sat 0xFFFFFFFF (s.budget ((off - 0xF80) / 4) / 64))
    else none
  | .gl2 => if off = 0x140 then some (b2n s.gfx.flushing) else none
  | .gcore =>
    if 0xF00 ≤ off then some (s.gcoreWord (pnoOf base + (if domOf base = 0x22 then 16 else 0)) off) else none
  | .div =>
    if off = 0x148 then
      let lock := s.flag (pg 0x01 0) F.ROOT.ROOT_STATUS_PLL_LOCKED
      let up := lock && decide (s.rst.bootAt < s.now)
      some (b2n (up && s.dphyOk) * 4 + b2n (up && decide (0 < s.part.tmbPorts)) * 2 + s.get base F.DIV.PHY_PLL_STATUS_DRAM_PLL_LOCKED)
    else none
  | .dsi =>
    if off = 0xF00 ∧ s.inReset base then some ((s.rd (base + off)).toNat / 4 * 4 + 3) else none
  | .layer =>
    if off = 0xF04 then
      some (forN (fun b a => a + (b2n (s.bankBusy (headOf base) (layOf base) b) <<< b)) 4 0)
    else none
  | .colour =>
    if off = 0xF00 then some (b2n (s.lutBusy (headOf base) 1) * 2 + b2n (s.lutBusy (headOf base) 0)) else none
  | .tsync =>
    if off = 0xF00 then some ((s.rd (base + off)).toNat / 4 * 4 + s.role) else none
  | .fcoll => if off = 0xF00 then some s.collState else none
  | .mmode => if 0xF00 ≤ off then some (s.mmodeWord off) else none
  | .dglob =>
    let on := s.enabled base
    if off = 0xF00 then
      let ch := forL (fun c a => a + (b2n (on && s.get (chanPage c) F.DCHAN.CHAN_STATE_STATE == 2) <<< c)) s.mapChans 0
      some ((ch <<< 8) + s.glbState)
    else if off = 0xF04 then some (if s.enabled dmapPage then s.mapMib else 0)
    else if off = 0xF08 then some (s.tMin.getD 0xFFFFFFFFFFFFFFFF % 0x100000000)
    else if off = 0xF0C then some (s.tMin.getD 0xFFFFFFFFFFFFFFFF / 0x100000000)
    else none
  | .dpower =>
    if off = 0xF00 then
      some (forN (fun c a => a + (b2n ((s.dchan c).pd != 0) <<< (8 + c)) + (b2n (s.dchan c).sr.isSome <<< c)) 8 0)
    else none
  | .dchan =>
    if off = 0xF00 then
      let n := (s.dc.queue.filter (fun q => (s.dramChan q.rq.addr).1 == pnoOf base - 6)).length
      some (((s.rd (base + off)).toNat &&& 0xFF00FFFF) + (n <<< 16))
    else none
  | .dmap =>
    if 0xF00 ≤ off ∧ s.get dmapPage F.DMAP.MAP_CFG_ORDER ≠ 2 then some 0
    else if 0xF00 ≤ off then
      let c := (off - 0xF00) / 4
      some (((s.mapChans.takeWhile (· != c)).map s.chanMib).foldl (· + ·) 0)
    else none
  | .reflex =>
    if 0xF00 ≤ off then
      let k := (off - 0xF00) / 4
      some (bits (s.rflx (s.get base F.REFLEX.READ_SEL)).toNat (32 * k + 31) (32 * k))
    else none
  | .again => if off = 0xF00 then some (s.gain (s.get base F.AGAIN.READ_SEL)).g else none
  | .ameter =>
    let l := (s.meter (s.get base F.AMETER.METER_SEL)).latched
    if off = 0xF00 then some (l % 0x100000000)
    else if off = 0xF04 then some (l / 0x100000000)
    else none
  | .pgpio => if off = 0xF00 then some s.gpioIn else none
  | .pbc =>
    let n := if off < 0xF00 then off % 0x800 / 0x80 - 2 else (off - 0xF00) / 0x10
    if n = 1 ∧ s.part.pkgM then some 0
    else if off % 0x10 = 4 ∧ 0xF00 ≤ off then
      let x := s.bc n
      some ((b2n x.xfer.isSome <<< 31) + (s.get base (F.PBC.BC_STATE_RESULT.at n) <<< 28) + (x.rx.length <<< 16)
        + (x.tx.length <<< 8) + x.ibi.length)
    else none
  | .xspi =>
    if off = 0xF04 then
      let x := s.pad.xspi
      some ((b2n x.cmd.isSome <<< 31) + (b2n x.dma.isSome <<< 30) + (s.get base F.XSPI.XSPI_STATE_RESULT <<< 28)
        + (x.rx.length <<< 16) + (x.tx.length <<< 8))
    else none
  | .mlog =>
    if off = 0xEF0 then some ((s.get base F.MLOG.LOG_STATE_LOST <<< 16) + s.elog.length)
    else if 0xF00 ≤ off then
      match s.elog[s.get base F.MLOG.LOG_RD]? with
      | some e => some (bits e.toNat (8 * (off - 0xF00) + 31) (8 * (off - 0xF00)))
      | none => some 0
    else none
  | _ => none

/-- The bits of a register that read 0 whatever is stored: write-only and write-1-to-set fields. -/
def woMask (k : PKind) (off : Nat) : Word :=
  (fldsAt k off).foldl (fun m f => if f.acc == .wo then m ||| f.mask else m) 0

/-- The word of the previous latched view that a read still sees (R52). -/
def State.oldView (s : State) (base off : Nat) : Option Word :=
  match (s.ctl base).old with
  | some (t, l) => if s.now < t then (l.find? (fun e => e.1 == off)).map (·.2) else none
  | none => none

/-- The value of a register, with no access rule. (log 11, DEDUCED) -/
def State.regValue (s : State) (a : Nat) : Word :=
  match pinfoAt a with
  | none => 0
  | some i =>
    let base := pageOf a
    let off := offOf a
    if off = 0x008 then BitVec.ofNat 32 (s.ctrlWord base)
    else if off = 0x00C then BitVec.ofNat 32 (s.statusWord base)
    else if off < 0x100 then (s.oldView base off).getD (s.rd a &&& ~~~woMask i.kind off)
    else match s.blockValue i.kind base off with
      | some v => BitVec.ofNat 32 v
      | none => s.rd a &&& ~~~woMask i.kind off

/-! Snapshots -/

/-- The even `STAT` indexes of a page's 64-bit counters (R53). -/
def stat64At : PKind → List Nat
  | .dchan => [0, 2]
  | .poolc => [0, 2]
  | .head => [6]
  | .layer => [0]
  | .glayer => [0]
  | .cvu => [4]
  | .gsched => [8, 10, 12, 14]
  | .gsig => [2]
  | .gcount => [2, 4]
  | .copy => [2]
  | .ten => [0, 2, 4]
  | .xspi => [2]
  | _ => []

/-- The register at an offset is the low word of a pair whose read snapshots the high word. (log 22, DEDUCED) -/
def snapLo (k : PKind) (off : Nat) : Bool :=
  off == 0x048 || off == 0x060
    || (decide (0x080 ≤ off) && decide (off < 0x100) && (stat64At k).any (fun i => off == 0x80 + 4 * i))
    || (match k with
      | .thyme => off == 0x100
      | .bsync => off == 0x104
      | .core => off == 0x110
      | .fctl => off == 0xF0C
      | .ameter => off == 0xF00
      | .head => off == 0xF08
      | _ => false)

/-- The access rules of R73 for a read. -/
def State.mayRead (s : State) (r : Req) (i : PInfo) (base : Nat) : Bool :=
  let o := s.owner base
  let ten := decide (0x11 ≤ r.tag.toNat) && decide (r.tag.toNat ≤ 0x1F)
  r.tag.toNat == o || r.tag == 1 || (i.openRead && !ten) || i.tenantRead
    || (r.tag == 0x010 && o != 1 && !(decide (0x100 ≤ o) && decide (o < 0x140)))

/-- Where a requester's snapshot of a high word is kept. (log 22, DEDUCED) -/
def snapKey (rid a : Nat) : Nat := rid * 0x1000000 + a

/-- A read that the rules grant: a low word snapshots its high word for the requester, whose next read of
the high word returns the snapshot. -/
def State.grantRead (s : State) (r : Req) (k : PKind) (a : Nat) : State × Word :=
  let rid := r.rid.toNat
  let v := s.regValue a
  let set := fun (key : Nat) (x : Nat × Word) => { s with snaps := amSet (fun _ => (0, (0 : Word))) s.snaps key x }
  if snapLo k (offOf a) then (set (snapKey rid (a + 4)) (1, s.regValue (a + 4)), v)
  else match amGet (fun _ => (0, (0 : Word))) s.snaps (snapKey rid a) with
    | (0, _) => (s, v)
    | (_, w) => (set (snapKey rid a) (0, 0), w)

/-- A register read (R73): the value returned to the requester.  `f` is what a granted read of a register
with an effect of its own does. (log 22, DEDUCED) -/
def State.readWith (s : State) (r : Req) (a : Nat) (f : State → Option (State × Word)) : State × Word :=
  match pinfoAt a with
  | none => (s.stray r a false, 0)
  | some i =>
    let base := pageOf a
    if offDefined i (offOf a) = false then (s.stray r a false, 0)
    else if s.present base = false then (s, if offOf a < 8 then s.rd a else 0)
    else if s.mayRead r i base = false then (s.violation r a false, 0)
    else if (s.domReset (domOf a)).isSome then (s, rstWord s.die a)
    else match f s with
      | some x => x
      | none => s.grantRead r i.kind a

/-- The addressed bytes of a word, for a read of 1 or 2 bytes (R72). -/
def narrowed (w : Word) (a bytes : Nat) : Word :=
  if bytes < 4 then (w >>> (8 * (a % 4))) &&& BitVec.ofNat 32 (2 ^ (8 * bytes) - 1) else w

/-- The answer of a read stands in the state. -/
def State.answer (r : Req) (a : Nat) (x : State × Word) : State :=
  { x.1 with resp := some ⟨r.rid, BitVec.ofNat 24 a, x.2⟩ }

end Sys2Proof.Machine
end

