-- ==== Sys2Proof/Machine/FltBase.lean ====
section
/-! DEFINITION. The capture slots of the fault collector and the reactions that have not ended (R473, R475,
R481). -/

namespace Sys2Proof.Machine

/-- `FLT.CONTROL`, `.CAPTURE` and `.SAFE`. -/
def fcollPage : Nat := pg 0x03 0
def fcapPage : Nat := pg 0x03 1
def fsafePage : Nat := pg 0x03 10

/-- Word w of the record of slot v. -/
def slotAddr (v w : Nat) : Nat := fcapPage + 0x100 + 0x40 * v + 4 * w
def State.slotWord (s : State) (v w : Nat) : Nat := (s.rd (slotAddr v w)).toNat
def State.setSlot (s : State) (v w x : Nat) : State := s.wr (slotAddr v w) (BitVec.ofNat 32 x)

/-- `ACTIVE` of slot v (R475). -/
def State.active (s : State) (v : Nat) : Nat := bits (s.get fcapPage F.FCAP.SLOT_STATE) (8 * v + 4) (8 * v)

/-- The state with `ACTIVE` of slot v replaced. -/
def State.setActive (s : State) (v a : Nat) : State :=
  let w := s.get fcapPage F.FCAP.SLOT_STATE
  s.put fcapPage F.FCAP.SLOT_STATE ((w &&& (0xFFFFFFFF ^^^ (0x1F <<< (8 * v)))) ||| ((a % 32) <<< (8 * v)))

/-- `VALID` of slot v. -/
def State.slotValid (s : State) (v : Nat) : Bool := bit (s.slotWord v 0) 31
def State.setValid (s : State) (v : Nat) (b : Bool) : State :=
  let w := s.get fcapPage F.FCAP.SLOT_STATE
  let m := 1 <<< (8 * v + 7)
  s.put fcapPage F.FCAP.SLOT_STATE (if b then w ||| m else w &&& (0xFFFFFFFF ^^^ m))

/-- A reaction (one bit) ends in slot v. -/
def State.endReact (s : State) (v re : Nat) : State := s.setActive v (s.active v &&& (31 ^^^ re))

/-- A reaction ends in every slot. -/
def State.endReactAll (s : State) (re : Nat) : State := forN (fun v s => s.endReact v re) 4 s

/-- The B reactions on a target end (R473): those of a slot that has no other B reaction leave its `ACTIVE`. -/
def State.endB (s : State) (t : BTarget) : State :=
  let gone := s.flt.breacts.filter (fun b => b.tgt == t)
  let s := { s with flt := { s.flt with breacts := s.flt.breacts.filter (fun b => !(b.tgt == t)) } }
  forL (fun b s => if s.flt.breacts.any (fun x => x.slot == b.slot) then s else s.endReact b.slot reB) gone s

/-- The reset of a B reaction's domain is released, or its release is abandoned (R473, R477): the masking
window runs 64 ticks more, and an abandoned one ends its reaction at once. -/
def State.releaseB (s : State) (d : Nat) (abandoned : Bool) : State :=
  let t := s.now
  let hit := fun (b : BReact) => b.tgt == .domain d && b.rel.isNone
  let gone := s.flt.breacts.filter hit
  let l := s.flt.breacts.map (fun b => if hit b then { b with rel := some t } else b)
  let s := { s with flt := { s.flt with breacts := l } }
  if abandoned then
    forL (fun b s => if s.flt.breacts.any (fun x => x.slot == b.slot && x.rel.isNone) then s
      else s.endReact b.slot reB) gone s
  else s

end Sys2Proof.Machine
end

