-- ==== Sys2Proof/Machine/Sha.lean ====
section
/-! DEFINITION. SHA-384 (FIPS 180-4) of the 96 bytes that an extension of a measurement register hashes
(R449). -/

namespace Sys2Proof.Machine

/-- The round constants 0–39 and 40–79. -/
def shaK0 : List (BitVec 64) :=
  [0x428a2f98d728ae22#64, 0x7137449123ef65cd#64, 0xb5c0fbcfec4d3b2f#64, 0xe9b5dba58189dbbc#64,
   0x3956c25bf348b538#64, 0x59f111f1b605d019#64, 0x923f82a4af194f9b#64, 0xab1c5ed5da6d8118#64,
   0xd807aa98a3030242#64, 0x12835b0145706fbe#64, 0x243185be4ee4b28c#64, 0x550c7dc3d5ffb4e2#64,
   0x72be5d74f27b896f#64, 0x80deb1fe3b1696b1#64, 0x9bdc06a725c71235#64, 0xc19bf174cf692694#64,
   0xe49b69c19ef14ad2#64, 0xefbe4786384f25e3#64, 0xfc19dc68b8cd5b5#64, 0x240ca1cc77ac9c65#64,
   0x2de92c6f592b0275#64, 0x4a7484aa6ea6e483#64, 0x5cb0a9dcbd41fbd4#64, 0x76f988da831153b5#64,
   0x983e5152ee66dfab#64, 0xa831c66d2db43210#64, 0xb00327c898fb213f#64, 0xbf597fc7beef0ee4#64,
   0xc6e00bf33da88fc2#64, 0xd5a79147930aa725#64, 0x6ca6351e003826f#64, 0x142929670a0e6e70#64,
   0x27b70a8546d22ffc#64, 0x2e1b21385c26c926#64, 0x4d2c6dfc5ac42aed#64, 0x53380d139d95b3df#64,
   0x650a73548baf63de#64, 0x766a0abb3c77b2a8#64, 0x81c2c92e47edaee6#64, 0x92722c851482353b#64]
def shaK1 : List (BitVec 64) :=
  [0xa2bfe8a14cf10364#64, 0xa81a664bbc423001#64, 0xc24b8b70d0f89791#64, 0xc76c51a30654be30#64,
   0xd192e819d6ef5218#64, 0xd69906245565a910#64, 0xf40e35855771202a#64, 0x106aa07032bbd1b8#64,
   0x19a4c116b8d2d0c8#64, 0x1e376c085141ab53#64, 0x2748774cdf8eeb99#64, 0x34b0bcb5e19b48a8#64,
   0x391c0cb3c5c95a63#64, 0x4ed8aa4ae3418acb#64, 0x5b9cca4f7763e373#64, 0x682e6ff3d6b2b8a3#64,
   0x748f82ee5defb2fc#64, 0x78a5636f43172f60#64, 0x84c87814a1f0ab72#64, 0x8cc702081a6439ec#64,
   0x90befffa23631e28#64, 0xa4506cebde82bde9#64, 0xbef9a3f7b2c67915#64, 0xc67178f2e372532b#64,
   0xca273eceea26619c#64, 0xd186b8c721c0c207#64, 0xeada7dd6cde0eb1e#64, 0xf57d4f7fee6ed178#64,
   0x6f067aa72176fba#64, 0xa637dc5a2c898a6#64, 0x113f9804bef90dae#64, 0x1b710b35131c471b#64,
   0x28db77f523047d84#64, 0x32caab7b40c72493#64, 0x3c9ebe0a15c9bebc#64, 0x431d67c49c100d4c#64,
   0x4cc5d4becb3e42b6#64, 0x597f299cfc657e2a#64, 0x5fcb6fab3ad6faec#64, 0x6c44198c4a475817#64]

/-- The initial hash value. -/
def shaH : List (BitVec 64) :=
  [0xcbbb9d5dc1059ed8#64, 0x629a292a367cd507#64, 0x9159015a3070dd17#64, 0x152fecd8f70e5939#64,
   0x67332667ffc00b31#64, 0x8eb44a8768581511#64, 0xdb0c2e0d64f98fa7#64, 0x47b5481dbefa4fa4#64]

/-- The functions of FIPS 180-4 4.1.3. -/
def shaCh (x y z : BitVec 64) : BitVec 64 := (x &&& y) ^^^ (~~~x &&& z)
def shaMaj (x y z : BitVec 64) : BitVec 64 := (x &&& y) ^^^ (x &&& z) ^^^ (y &&& z)
def shaS0 (x : BitVec 64) : BitVec 64 := x.rotateRight 28 ^^^ x.rotateRight 34 ^^^ x.rotateRight 39
def shaS1 (x : BitVec 64) : BitVec 64 := x.rotateRight 14 ^^^ x.rotateRight 18 ^^^ x.rotateRight 41
def shaG0 (x : BitVec 64) : BitVec 64 := x.rotateRight 1 ^^^ x.rotateRight 8 ^^^ (x >>> 7)
def shaG1 (x : BitVec 64) : BitVec 64 := x.rotateRight 19 ^^^ x.rotateRight 61 ^^^ (x >>> 6)

/-- The rounds over the constants left: `w` holds the next 16 words of the message schedule, `h` the eight
working variables. -/
def shaRounds : List (BitVec 64) → List (BitVec 64) → List (BitVec 64) → List (BitVec 64)
  | [], _, h => h
  | k :: ks, w, h =>
    let v := fun i => h.getD i 0
    let x := fun i => w.getD i 0
    let t1 := v 7 + shaS1 (v 4) + shaCh (v 4) (v 5) (v 6) + k + x 0
    let t2 := shaS0 (v 0) + shaMaj (v 0) (v 1) (v 2)
    shaRounds ks (w.drop 1 ++ [shaG1 (x 14) + x 9 + shaG0 (x 1) + x 0])
      [t1 + t2, v 0, v 1, v 2, v 3 + t1, v 4, v 5, v 6]

/-- Eight bytes of a number, byte 0 in its low bits, as a big-endian word. -/
def beWord (m i : Nat) : BitVec 64 :=
  forN (fun j a => a + BitVec.ofNat 64 ((m >>> (64 * i + 8 * j)) % 256 * 2 ^ (56 - 8 * j))) 8 0

/-- SHA-384 of 96 bytes, byte 0 in the low bits; the digest with its byte 0 in the low bits. -/
def sha384of96 (m : Nat) : BitVec 384 :=
  let w := (upto 0 12).map (beWord m) ++ [0x8000000000000000#64, 0, 0, 768#64]
  let h := shaRounds (shaK0 ++ shaK1) w shaH
  let d := (upto 0 6).map (fun i => shaH.getD i 0 + h.getD i 0)
  BitVec.ofNat 384 (forN (fun i a => a + (beWord (d.getD i 0).toNat 0).toNat * 2 ^ (64 * i)) 6 0)

/-- The extension of a measurement register (R449): M = SHA-384(M ‖ D). -/
def extendHash (m d : BitVec 384) : BitVec 384 := sha384of96 (m.toNat + d.toNat * 2 ^ 384)

end Sys2Proof.Machine
end

