-- ==== Sys2Proof/Machine/SecureOps.lean ====
section
/-! DEFINITION. The secure side: contexts, the ownership table's commands, Coves, measurement, mailboxes,
watchdogs, core pages and the restart of the secure side (R431–R467). -/

namespace Sys2Proof.Machine

/-- The pages of `SEC` and `MGT`. -/
def worldsPage : Nat := pg 0x04 0
def covePage : Nat := pg 0x04 2
def irqcPage : Nat := pg 0x04 3
def measPage : Nat := pg 0x04 4
def corePage (c : Nat) : Nat := pg 0x05 c
def mboxPage : Nat := pg 0x05 4
def routerPage : Nat := pg 0x05 5
def wdogPage : Nat := pg 0x05 6

/-! Cores -/

/-- A core's privilege and run state (R463). -/
def State.corePriv (s : State) (c : Nat) : Nat := s.get (corePage c) F.CORE.CORE_STATE_PRIV
def State.coreState (s : State) (c : Nat) : Nat := s.get (corePage c) F.CORE.CORE_STATE_STATE

/-- The core runs in the secure world: core 0 always, a service core in M-mode (R431). -/
def State.coreSecure (s : State) (c : Nat) : Bool := c == 0 || s.corePriv c == 3

/-- A service core enters M-mode with a cause. -/
def State.trapM (s : State) (c cause : Nat) : State :=
  let s := (s.put (corePage c) F.CORE.CORE_STATE_PRIV 3).put (corePage c) F.CORE.CORE_STATE_STATE 1
  let x := s.core c
  s.setCore c { x with traps := x.traps ++ [cause] }

/-- A core starts in M-mode at its boot address (R463). (log 219, DESIGN CHOICE) -/
def State.coreStart (s : State) (c : Nat) : State :=
  let p := corePage c
  let s := ((s.put p F.CORE.CORE_CTRL 1).put p F.CORE.CORE_STATE_STATE 1).put p F.CORE.CORE_STATE_PRIV 3
  let a := if c = 0 then 0x1000000000 else s.get64 p F.CORE.BOOT_ADDR_LO % (1 <<< 40)
  let s := s.put64 p F.CORE.PC_LO a
  let x := s.core c
  s.setCore c { x with wdAt := (if c = 0 then some s.now else x.wdAt) }

/-- A core is held in reset. -/
def State.coreHalt (s : State) (c : Nat) : State :=
  let p := corePage c
  ((s.put p F.CORE.CORE_CTRL 0).put p F.CORE.CORE_STATE_STATE 0).put p F.CORE.CORE_STATE_PRIV 0

/-- A write of `CTX_c` (R433). -/
def State.ctxWrite (s : State) (r : Req) (c : Nat) (v : Word) : State :=
  let a := worldsPage + 0x100 + 4 * (c - 1)
  let n := v.toNat
  if (bit n 31 ∧ s.cove (bits n 27 22) ≠ .sealed) ∨ isTen (bits n 11 0) = false then s.stray r a true
  else s.wr a (v &&& 0x8FC00FFF)

/-- Service cores in the context of Cove n go to M-mode with cause 0x20 (R433). -/
def State.coveLeft (s : State) (n : Nat) : State :=
  forN (fun i s =>
    let c := i + 1
    if bit (s.ctxWord c) 31 ∧ bits (s.ctxWord c) 27 22 = n ∧ s.coreState c ≠ 0 ∧ s.corePriv c ≠ 3
    then s.trapM c 0x20 else s) 3 s

/-- A write of `CORE_CTRL.RUN` (R463); that of core 0 is read-only. -/
def State.runWrite (s : State) (c : Nat) (b : Bool) : State :=
  if c = 0 then s
  else if s.flag (corePage c) F.CORE.CORE_CTRL = b then s
  else if b then s.coreStart c else s.coreHalt c

/-! The ownership table's commands -/

/-- An entry of the table is stored at an address below V. -/
def State.potStored (s : State) (i : Nat) : Bool := decide (s.potBase + 4 * i + 4 ≤ s.vBytes)

/-- An ID that an entry's `OWNER` or `SHARE_TO` may hold (R75). -/
def entryId (o : Nat) : Bool := ownerId o || (decide (0x200 ≤ o) && decide (o < 0x204))

/-- The pages [i, i + n) meet a valid Cove range. -/
def State.coveMeets (s : State) (i n : Nat) : Bool :=
  (upto 0 64).any (fun r =>
    let f := s.get covePage (F.COVE.CRANGE_FIRST.at r)
    let m := s.get covePage (F.COVE.CCOUNT.at r)
    s.flag covePage (F.COVE.CRANGE_VALID.at r) && decide (i < f + m) && decide (f < i + n))

/-- The reason a `WRITE` is refused (R440); 0 when it is accepted. -/
def State.potWriteReason (s : State) (i n v : Nat) : Nat :=
  if s.potRun.isSome then rInUse
  else if s.dramReady = false then rDepend
  else if n = 0 ∨ 525056 < i + n ∨ 0 < bits v 31 28 ∨ bits v 15 14 = 3 ∨ entryId (bits v 11 0) = false
      ∨ entryId (bits v 27 16) = false then rRange
  else if s.potStored (i + n - 1) = false then rRange
  else if decide (i ≤ (s.potBase + potBytes - 1) / 65536) && decide (s.potBase / 65536 < i + n) then 0x42
  else if s.coveMeets i n then 0x41
  else 0

/-- A write of `POT_CMD.WRITE` (R440, R441). (log 38, DEDUCED) (log 63, DEDUCED) -/
def State.potWriteCmd (s : State) : State :=
  let p := potPage
  let i := s.get p F.POT.POT_INDEX
  let n := s.get p F.POT.POT_COUNT
  let v := s.get p F.POT.POT_VALUE
  let e := s.potWriteReason i n v
  let s := s.put p F.POT.POT_RESULT_REASON e
  if e ≠ 0 then s
  else { s.put p F.POT.POT_RESULT_BUSY 1 with potRun := some ⟨i, n, BitVec.ofNat 32 v⟩ }

/-- Entry i of the table, read from DRAM in the word `d`, as the answer of a read command. -/
def State.potAnswer (s : State) (i : Nat) : Dec → State
  | .bad .. => (s.put potPage F.POT.POT_READ_VALUE 0).put potPage F.POT.POT_RESULT_REASON 0x44
  | d => s.put potPage F.POT.POT_READ_VALUE (if i % 2 = 0 then bits d.data 31 0 else bits d.data 63 32)

/-- A write of `POT_CMD.READ` (R440, R441). (log 63, DEDUCED) -/
def State.potReadCmd (s : State) : State :=
  let p := potPage
  let i := s.get p F.POT.POT_INDEX
  let e := if s.potRun.isSome then rInUse else if s.dramReady = false then rDepend
    else if 525056 ≤ i ∨ s.potStored i = false then rRange else 0
  let s := s.put p F.POT.POT_RESULT_REASON e
  if e ≠ 0 then s
  else
    let pick (v : Nat) : Nat := bits v (32 * (i % 16) + 31) (32 * (i % 16))
    match s.potCache.find? (fun x => x.1 == i / 16) with
    | some x => s.put p F.POT.POT_READ_VALUE (pick x.2.toNat)
    | none =>
      let a := s.potBase + 4 * i
      (s.dramScan 0x80 1 a 4 8 (a / 64 * 8)).1.potAnswer i (s.dramDec (a / 8))

/-- The tenancies that hold an entry, as owner or by share. -/
def entryTens (e : Nat) : List Nat :=
  let a := bits e 11 0
  let b := bits e 27 16
  (if isTen a then [a - 0x10] else []) ++ (if isTen b ∧ b ≠ a then [b - 0x10] else [])

/-- The halves `lo` and `hi` of word w, decoded as given, take value v. -/
def State.potPutDec (s : State) (lo hi : Bool) (v w : Nat) (d : Dec) : State × Bool :=
  let x := (if lo then v else bits d.data 31 0) + ((if hi then v else bits d.data 63 32) <<< 32)
  match d with
  | .bad _ c y => if lo && hi then (s.dramClean w x, false) else ((s.dramPoison w x).dramUe 2 0xA0 1 w c y, true)
  | .fixed _ y => (if lo && hi then s.dramClean w x else (s.dramClean w x).dramCe 0xA0 1 w y false, false)
  | .clean _ => (s.dramClean w x, false)

/-- Word h of the table takes value v in the halves that [i, i + n) covers: a word of which one half is
covered and which is uncorrectable is written back poisoned (R441), raising `DRAM_UE`. -/
def State.potPutWord (s : State) (i n v h : Nat) : State × Bool :=
  let w := s.potBase / 8 + h
  s.potPutDec (decide (i ≤ 2 * h)) (decide (2 * h + 1 < i + n)) v w (s.dramDec w)

/-- The tenancies of the entries of word h that [i, i + n) covers. -/
def State.potOldTens (s : State) (i n h : Nat) : List Nat :=
  let d := s.dramDec (s.potBase / 8 + h)
  (if i ≤ 2 * h then entryTens (bits d.data 31 0) else [])
    ++ (if 2 * h + 1 < i + n then entryTens (bits d.data 63 32) else [])

/-- The words of a command, in ascending order: the state, whether a word was damaged, and the tenancies of
the old entries. -/
def State.potPutEntries (s : State) (i n v : Nat) : List Nat → State × Bool × List Nat
  | [] => (s, false, [])
  | h :: t =>
    let old := s.potOldTens i n h
    let x := s.potPutWord i n v h
    let y := x.1.potPutEntries i n v t
    (y.1, x.2 || y.2.1, old ++ y.2.2)

/-- One OWNERSHIP_CHANGE record (R442). -/
def State.ownRecord (s : State) (c : PotCmd) (new old : List Nat) (t : Nat) : State :=
  if new.contains t ∨ old.contains t then
    s.jrec t 0x0020 potPage s.now (jpay [(16, 4, c.index), (20, 4, c.count), (24, 4, c.value.toNat),
      (28, 1, b2n (new.contains t) + 2 * b2n (old.contains t && !new.contains t))])
  else s

/-! Coves -/

/-- The state of a Cove changes, with its record (R447). -/
def State.setCove (s : State) (n : Nat) (c : CoveState) : State :=
  let s := { s with coves := amSet (fun _ => CoveState.free) s.coves n c }
  s.jrec 0 0x0024 covePage s.now (jpay [(16, 1, n), (17, 1, c.code)])

/-- A measurement register. -/
def State.setMeas (s : State) (m : Nat) (v : BitVec 384) : State :=
  { s with meas := amSet (fun _ => (0 : BitVec 384)) s.meas m v }
def State.measOf (s : State) (m : Nat) : BitVec 384 := amGet (fun _ => (0 : BitVec 384)) s.meas m

/-- `COVE_RESULT`. -/
def State.coveResult (s : State) (e : Nat) : State := s.put covePage F.COVE.COVE_RESULT e

/-- A valid range names the Cove. -/
def State.coveNamed (s : State) (n : Nat) : Bool :=
  (upto 0 64).any (fun r =>
    s.flag covePage (F.COVE.CRANGE_VALID.at r) && s.get covePage (F.COVE.CRANGE_COVE.at r) == n)

/-- BUILD (R446). -/
def State.coveBuild (s : State) (n : Nat) : State :=
  if s.cove n ≠ .free then s.coveResult rInUse
  else ((s.setCove n .building).setMeas (64 + n) 0).coveResult 0

/-- SEAL (R446). -/
def State.coveSeal (s : State) (n : Nat) : State :=
  if s.cove n ≠ .building then s.coveResult rInUse
  else if s.coveNamed n = false then s.coveResult rDepend
  else (s.setCove n .sealed).coveResult 0

/-- DESTROY (R446): a context that names the Cove refuses it. -/
def State.coveDestroy (s : State) (n : Nat) : State :=
  let named := (upto 1 3).any (fun c => bit (s.ctxWord c) 31 && bits (s.ctxWord c) 27 22 == n)
  if named ∨ (s.cove n ≠ .sealed ∧ s.cove n ≠ .building) then s.coveResult rInUse
  else ((s.setCove n .clearing).coveLeft n).coveResult 0

/-- DRAM bytes [lo, hi) hold zeros with valid check bytes. -/
def State.dramZero (s : State) (lo hi : Nat) : State := s.dramDrop (fun a => decide (lo ≤ a) && decide (a < hi))

/-- The pages of a range are cleared (R447), and the range becomes invalid. -/
def State.rangeClear (s : State) (r : Nat) : State :=
  let f := s.get covePage (F.COVE.CRANGE_FIRST.at r)
  let n := s.get covePage (F.COVE.CCOUNT.at r)
  let s := if f < 524288 then s.dramZero (65536 * f) (65536 * (f + n))
    else s.poolClear (65536 * (f - 524288)) (65536 * (f - 524288 + n))
  s.put covePage (F.COVE.CRANGE_VALID.at r) 0

/-- The clear of a Cove ends (R447). -/
def State.coveCleared (s : State) (n : Nat) : State :=
  if s.cove n = .clearing then
    (forN (fun r s =>
      if s.flag covePage (F.COVE.CRANGE_VALID.at r) ∧ s.get covePage (F.COVE.CRANGE_COVE.at r) = n
      then s.rangeClear r else s) 64 s).setCove n .free
  else s

/-! Measurement -/

/-- The 48 bytes of `EXTEND_DATA`. -/
def State.extendData (s : State) : BitVec 384 :=
  BitVec.ofNat 384 (forN (fun j a => a + (s.rd (measPage + 0x440 + 4 * j)).toNat * 2 ^ (32 * j)) 12 0)

/-- A write of `EXTEND_CMD.GO` (R449): an extension, or a refusal that writes `CHECK`. -/
def State.extendCmd (s : State) (r : Req) (t : Nat) : State :=
  let no := fun reason => s.refuse measPage (Verdict.no reason 0x470 0)
  if r.tag ≠ 1 then no rNotOwner
  else if 64 ≤ t then
    if s.cove (t - 64) ≠ .building then no 0x41
    else s.setMeas t (extendHash (s.measOf t) s.extendData)
  else if 16 ≤ t then no rRange
  else if t < 2 ∧ s.mode ≠ .load ∧ s.mode ≠ .boot ∧ s.restart.run.isNone then no rLocked
  else s.setMeas t (extendHash (s.measOf t) s.extendData)

/-! Interrupt classification and routes -/

/-- A line is classed secure (R451). -/
def State.lineSecure (s : State) (l : Nat) : Bool :=
  bit (s.rd (irqcPage + 0x100 + 4 * (l / 32))).toNat (l % 32)

/-- The reason a route is refused (R96); 0 when it is in order. (log 57, DEDUCED) -/
def State.routeReason (s : State) (l : Nat) (w : Word) : Nat :=
  let n := w.toNat
  let tgt := bits n 31 30
  let outside := (upto 0 4).any (fun c => bit n (26 + c) && !s.coreSecure c)
  let fn := bits n 24 21
  let o := s.owner (l * 0x1000)
  if (pinfoAt (l * 0x1000)).isNone ∨ tgt = 3 then rRange
  else if s.part.hostPorts ≤ bits n 25 25 then rFused
  else if s.lineSecure l ∧ (tgt = 2 ∨ (tgt = 1 ∧ outside)) then rHold
  else if tgt = 2 ∧ fn ≠ 0 ∧ ((tenOf o).bind (fun t => s.fnOf (bits n 25 25) t)) ≠ some fn then rNotOwner
  else 0

/-- The state with a line's route set. (log 56, DEDUCED) -/
def State.setRoute (s : State) (l : Nat) (w : Word) : State :=
  { s with routes := amSet (fun _ => (0 : Word)) s.routes l w }

/-- A write of `SECURE_k` (R451): a line that becomes secure while routed against R96 loses its route. -/
def State.classWrite (s : State) (k : Nat) (v : Word) : State :=
  let old := s
  let s := s.wr (irqcPage + 0x100 + 4 * k) v
  forN (fun j s =>
    let l := 32 * k + j
    if bit v.toNat j ∧ old.lineSecure l = false ∧ s.routeReason l (s.route l) = rHold
    then s.setRoute l (s.route l &&& 0x3FFFFFFF) else s) 32 s

/-! Mailboxes -/

/-- A `POST` on channel k (R455). -/
def State.mboxPost (s : State) (k : Nat) : State :=
  if s.flag mboxPage (F.MBOX.CHAN_STATE_BUSY.at k) then s.put mboxPage (F.MBOX.CHAN_STATE_OVERRUN.at k) 1
  else
    let s := s.put mboxPage (F.MBOX.CHAN_STATE_BUSY.at k) 1
    (s.put64 mboxPage (F.MBOX.POST_TS_LO.at k) s.now).intBit mboxPage k

/-- `DONE` on channel k (R455): the record holds `OP`, `SEQ` and the reason code of the response. -/
def State.mboxDone (s : State) (k : Nat) : State :=
  if s.flag mboxPage (F.MBOX.CHAN_STATE_BUSY.at k) then
    let w := (s.rd (mboxPage + 0x140 + 0x100 * k)).toNat
    let s := s.put mboxPage (F.MBOX.CHAN_STATE_BUSY.at k) 0
    s.jrecTo (s.get mboxPage (F.MBOX.CHAN_OWNER.at k)) 0x0023 mboxPage s.now
      (jpay [(16, 1, k), (17, 1, bits w 7 0), (18, 1, bits w 15 8), (19, 1, bits w 23 16)])
  else s

/-- A busy channel is answered with SECURE_RESTARTED (R459). -/
def State.mboxLost (s : State) (k : Nat) : State :=
  if s.flag mboxPage (F.MBOX.CHAN_STATE_BUSY.at k) then
    let q := (s.rd (mboxPage + 0x100 + 0x100 * k)).toNat
    (s.wr (mboxPage + 0x140 + 0x100 * k) (BitVec.ofNat 32 (bits q 15 0 + (0x43 <<< 16)))).mboxDone k
  else s

/-! Watchdogs -/

/-- A write of `WD_CFG_c` (R462): that of core 0 cannot be disabled again until COLD reset. -/
def State.wdCfg (s : State) (c : Nat) (v : Word) : State :=
  let on := s.flag wdogPage (F.WDOG.WD_CFG_EN.at c)
  if c = 0 ∧ on ∧ bit v.toNat 31 = false then s.refuse wdogPage (Verdict.no rLocked 0x100 31)
  else
    let s := s.wr (wdogPage + 0x100 + 8 * c) (v &&& 0x80FFFFFF)
    if on = false ∧ bit v.toNat 31 then s.setCore c { s.core c with wdAt := some s.now } else s

/-- The tick at which watchdog c expires, while it runs. -/
def State.wdDue (s : State) (c : Nat) : Option Nat :=
  if s.flag wdogPage (F.WDOG.WD_CFG_EN.at c) then
    (s.core c).wdAt.map (· + 1024 * s.get wdogPage (F.WDOG.WD_CFG_TIMEOUT.at c))
  else none

/-! The restart of the secure side -/

/-- A bank's bulk clear runs: the bank accepts no access until it ends (R374). (log 264, DESIGN CHOICE) -/
def State.clearStarts (s : State) (b : Nat) : State :=
  { s with mem := { s.mem with clearing := s.mem.clearing.filter (· != b) ++ [b] } }

/-- A trigger of a restart (R457, R458, R461): `SECURE_RESTART` is raised; a fourth restart within 10 s leaves
core 0 in reset. -/
def State.secureTrigger (s : State) (c : RestartCause) : State :=
  let t := s.now
  let s := s.coreHalt 0
  let soon := (s.restart.hist.drop 2).take 1 |>.any (fun h => decide (t - h < 6144000000))
  if soon then ({ (s.endB .secure) with restart := { s.restart with run := none, refused := true } }).hit 13 1
  else
    let s := { s.hit 13 0 with restart := ⟨some (t, c), (t :: s.restart.hist).take 3, false⟩ }
    let s := s.put worldsPage F.WORLDS.RESTART_STATE 1
    let s := forN (fun i s =>
      if s.coreState (i + 1) ≠ 0 ∧ s.corePriv (i + 1) = 3 then s.put (corePage (i + 1)) F.CORE.CORE_STATE_STATE 3
      else s) 3 s
    ((s.setMeas 0 0).setMeas 1 0).clearStarts 97

/-- Watchdog c expires (R457, R462): once, until it is kicked or enabled again. (log 64, DEDUCED) -/
def State.wdExpiry (s : State) (c : Nat) : State :=
  match s.wdDue c with
  | none => s
  | some t =>
    let s := s.waitTo t
    let s := ((s.setCore c { s.core c with wdAt := none }).hit (14 + c) c).intBit wdogPage c
    if c = 0 then s.secureTrigger .watchdog else s

/-- A kick of watchdog c (R462): core c is requester 0x80 + c. (log 64, DEDUCED) A kick stamped at the expiry or later comes after it (R10). -/
def State.wdKick (s : State) (r : Req) (c : Nat) (v : Word) : State :=
  let late := match s.wdDue c with
    | some t => decide (t ≤ s.now)
    | none => false
  let s := if late then s.wdExpiry c else s
  if v.toNat % 65536 = 0x4B49 ∧ r.rid.toNat = 0x80 + c then
    s.setCore c { s.core c with wdAt := some s.now }
  else s.stray r (wdogPage + 0x104 + 8 * c) true

/-- The machine-timer interrupt of core c is pending (R463). (log 66, DEDUCED) -/
def State.timerPending (s : State) (c : Nat) : Bool :=
  s.coreState c != 0 && decide (s.get64 (corePage c) F.CORE.MTIMECMP_LO ≤ s.now)

/-- Thyme reaches `MTIMECMP` of core c (R463): a core that waits for an interrupt goes on. (log 66, DEDUCED) -/
def State.machineTimer (s : State) (c : Nat) : State :=
  if s.coreState c = 0 then s
  else
    let s := s.waitTo (s.get64 (corePage c) F.CORE.MTIMECMP_LO)
    if s.timerPending c ∧ s.coreState c = 2 then s.put (corePage c) F.CORE.CORE_STATE_STATE 1 else s

/-- A trap that core 0 takes while its handler runs, or a lockstep mismatch, restarts the secure side (R457). -/
def State.restartCause (s : State) (c : RestartCause) : State :=
  if s.coreState 0 = 0 then s
  else match c with
    | .lockstep => s.hit 12 0
    | c => s.secureTrigger c

/-- Core 0 is released during a restart (R458). -/
def State.restartRelease (s : State) : State :=
  if s.restart.run.isSome ∧ s.coreState 0 = 0 then s.coreStart 0 else s

/-- The secure world resumes (R458, R459); `digest` is the digest of the image that the boot ROM read. -/
def State.restartResume (s : State) (digest : BitVec 384) : State :=
  match s.restart.run with
  | none => s
  | some (t, c) =>
    let s := s.restartRelease
    let s := s.setMeas 0 (extendHash (s.measOf 0) digest)
    let s := s.inc measPage F.MEASURE.RESTART_COUNT
    let b := s.backup.restarts.write [BitVec.ofNat 32 (s.backup.restarts.word 0 + 1)]
    let s := { s with backup := { s.backup with restarts := b } }
    let s := forN (fun i s => if s.coreState (i + 1) = 3 then s.trapM (i + 1) 0x21 else s) 3 s
    let s := s.put worldsPage F.WORLDS.RESTART_STATE 0
    let s := forN (fun k s => s.mboxLost k) 4 s
    let s := ({ s with restart := { s.restart with run := none } }).endB .secure
    s.jrec 0 0x0022 worldsPage t (jpay [(16, 4, s.get measPage F.MEASURE.RESTART_COUNT), (20, 1, c.code), (24, 8, s.now)])

/-! Register writes with an effect of their own -/

/-- `SEC.WORLDS`. -/
def worldsReg (off : Nat) (r : Req) (v : Word) (s : State) : Option State :=
  let n := v.toNat
  if 0x100 ≤ off ∧ off < 0x10C then some (s.ctxWrite r (off / 4 % 4 + 1) v)
  else if off = 0x110 then
    let t := bits n 11 0
    if s.flag worldsPage F.WORLDS.DBG_CFG_DBG_LOCK then some (s.refuse worldsPage (Verdict.no rLocked 0x110 0))
    else if t ≠ 0 ∧ t ≠ 1 ∧ isTen t = false then some (s.refuse worldsPage (Verdict.no rRange 0x110 0))
    else some (s.wr (worldsPage + 0x110) (v &&& 0x80000FFF))
  else if off = 0x114 then some (if bit n 0 then s.secureTrigger .request else s)
  else if off = 0x118 ∨ off = 0x11C then
    if s.mode = .load ∨ s.mode = .boot ∨ s.mode = .recovery then none
    else some (s.refuse worldsPage (Verdict.no rLocked off 0))
  else none

/-- `SEC.POT`. -/
def potReg (off : Nat) (_r : Req) (v : Word) (s : State) : Option State :=
  if off = 0x114 then
    let s := if bit v.toNat 0 then s.potWriteCmd else s
    some (if bit v.toNat 1 then s.potReadCmd else s)
  else none

/-- `SEC.COVE`. -/
def coveReg (off : Nat) (_r : Req) (v : Word) (s : State) : Option State :=
  if off = 0x300 then
    let n := bits v.toNat 5 0
    match bits v.toNat 9 8 with
    | 1 => some (s.coveBuild n)
    | 2 => some (s.coveSeal n)
    | 3 => some (s.coveDestroy n)
    | _ => some (s.coveResult rRange)
  else none

/-- `SEC.IRQC`. -/
def irqcReg (off : Nat) (_r : Req) (v : Word) (s : State) : Option State :=
  if 0x100 ≤ off ∧ off < 0x300 then some (s.classWrite ((off - 0x100) / 4) v) else none

/-- `SEC.MEASURE`: the data words are kept though they read 0. -/
def measReg (off : Nat) (r : Req) (v : Word) (s : State) : Option State :=
  if 0x440 ≤ off ∧ off < 0x470 then some (s.wr (measPage + off) v)
  else if off = 0x470 then some (if bit v.toNat 31 then s.extendCmd r (bits v.toNat 6 0) else s)
  else none

/-- `MGT.MBOX` writes of the secure world. -/
def mboxReg (off : Nat) (_r : Req) (v : Word) (s : State) : Option State :=
  let k := off / 0x100 - 1
  let o := off % 0x100
  if 0x100 ≤ off ∧ off < 0x500 then
    if o < 0x40 then some (if s.flag mboxPage (F.MBOX.CHAN_STATE_BUSY.at k) then s else s.wr (mboxPage + off) v)
    else if o = 0x80 then
      if isTen (bits v.toNat 11 0) ∨ bits v.toNat 11 0 = 0 then none
      else some (s.refuse mboxPage (Verdict.no rRange off 0))
    else if o = 0x84 then some (if bit v.toNat 1 then s.mboxDone k else s)
    else none
  else none

/-- `MGT.MBOX` writes that a channel's owner may make (R455), an exception to R73. -/
def mboxOwnerReg (off : Nat) (r : Req) (v : Word) (s : State) : Option State :=
  let k := off / 0x100 - 1
  let o := off % 0x100
  if 0x100 ≤ off ∧ off < 0x500 ∧ (o < 0x40 ∨ o = 0x84)
      ∧ r.tag.toNat = s.get mboxPage (F.MBOX.CHAN_OWNER.at k) ∧ r.tag ≠ 0 then
    if o = 0x84 then some (if bit v.toNat 0 then s.mboxPost k else s)
    else some (if s.flag mboxPage (F.MBOX.CHAN_STATE_BUSY.at k) then s else s.wr (mboxPage + off) v)
  else none

/-- `MGT.WDOG`. -/
def wdogReg (off : Nat) (_r : Req) (v : Word) (s : State) : Option State :=
  if 0x100 ≤ off ∧ off < 0x120 ∧ off % 8 = 0 then some (s.wdCfg ((off - 0x100) / 8) v) else none

/-- `MGT.CORE_c`. -/
def coreReg (off c : Nat) (_r : Req) (v : Word) (s : State) : Option State :=
  if off = 0x100 then some (s.runWrite c (bit v.toNat 0)) else none

end Sys2Proof.Machine
end

