-- ==== Sys2Proof/Machine/ResetOps.lean ====
section
/-! DEFINITION. Gates, BLOCK resets and DOMAIN resets: clock-ok, holds and releases (R39–R42, R489, R497–R499). -/

namespace Sys2Proof.Machine

/-- `CLK.DIV`. -/
def divPage : Nat := pg 0x01 1

/-- Clock-ok of domain d (R40). -/
def State.setClockOk (s : State) (d : Nat) (b : Bool) : State :=
  let a := divPage + (F.DIV.CLKOK.at (d / 32)).off
  let m := BitVec.ofNat 32 (1 <<< (d % 32))
  s.wr a (if b then s.rd a ||| m else s.rd a &&& ~~~m)

/-- The gate of domain d (R41). -/
def State.setGated (s : State) (d : Nat) (b : Bool) : State :=
  let a := divPage + (F.DIV.GATED.at (d / 32)).off
  let m := BitVec.ofNat 32 (1 <<< (d % 32))
  s.wr a (if b then s.rd a ||| m else s.rd a &&& ~~~m)

/-- The domain's clock-ok stands. (log 18, DEDUCED) -/
def State.domClockOk (s : State) (d : Nat) : Bool := bit (s.rd (divPage + (F.DIV.CLKOK.at (d / 32)).off)).toNat (d % 32)

/-! Resets of pages and domains -/

/-- A page takes its reset values (R498): its registers, its control state, its statistics and what its block
holds. -/
def State.pageReset (s : State) (base : Nat) : State :=
  match pinfoAt base with
  | none => s
  | some i =>
    let old := s
    let s := (s.resetPageRegs base).setCtl base { PageCtl.idle with pstart := s.now, psince := s.now }
    let lo := statKey base 0
    let inPage (k : Nat) : Bool := decide (lo ≤ k) && decide (k < lo + 128)
    let s := { s with
      live := amDrop inPage s.live
      held := amDrop inPage s.held
      edges := s.edges.filter (· != lineOf base) }
    resetHook i.kind old base s

/-- The RESET record of a DOMAIN or BLOCK reset goes to the manager, and that of a BLOCK reset to the page's
owner as well when that is another tenancy (R499). -/
def State.resetRecord (s : State) (base start level page : Nat) (cause : RCause) (rid : Nat) (ab : Bool) (src : Nat) :
    State :=
  let pay := resetPay level (domOf base) page cause rid ab src s.now
  let src' := pg 0x02 1
  let s := s.jrec 0 0x0040 src' start pay
  if level = 0 ∧ s.owner base ≠ 0x010 then s.jrecTo (s.owner base) 0x0040 src' start pay else s

/-- A BLOCK reset completes (R498), or its release is abandoned (R40). (log 17, DEDUCED) -/
def State.blockDone (s : State) (base : Nat) (abandoned : Bool) : State :=
  match (s.ctl base).inReset with
  | none => s
  | some (r, t) =>
    let s := s.pageReset base
    let s := if abandoned then
        (s.modCtl base (fun c => { c with stuck := true })).put base F.HDR.CHECK_REASON rClock
      else s
    let s := s.resetRecord base t 0 (pnoOf base) .software r.rid.toNat abandoned 0
    if abandoned then s.hit 2 (domOf base) else s

/-- The state with the DOMAIN reset of d replaced. -/
def State.setDom (s : State) (d : Nat) (x : Option DomRst) : State :=
  let l := s.rst.doms.filter (fun e => e.1 != d)
  { s with rst := { s.rst with doms := (match x with
    | some x => l ++ [(d, x)]
    | none => l) } }

/-- A DOMAIN reset of d is asserted (R489, R497): every page of d is reset at once; a domain that is already
held joins the reset in progress. -/
def State.domAssert (s : State) (d : Nat) (cause : RCause) (rid src : Nat) : State :=
  match s.domReset d with
  | some _ => s
  | none => (forL (fun p s => s.pageReset p) (pagesOf d) s).setDom d (some ⟨s.now, cause, rid, src⟩)

/-- `RST.BLOCKREQ`. -/
def blockreqPage : Nat := pg 0x02 1

/-- A DOMAIN reset ends with its release, or is abandoned (R40, R497, R499). (log 18, DEDUCED) -/
def State.domEnd (s : State) (d : Nat) (abandoned : Bool) : State :=
  match s.domReset d with
  | none => s
  | some x =>
    let s := s.resetRecord (pg d 0) x.start 1 255 x.cause x.rid abandoned x.src
    let s := if s.get blockreqPage F.BLOCKREQ.DOMAIN_RESULT_DOMAIN = d ∧ s.flag blockreqPage F.BLOCKREQ.DOMAIN_RESULT_DONE = false then
        let s := s.put blockreqPage F.BLOCKREQ.DOMAIN_RESULT_DONE 1
        if abandoned then s.put blockreqPage F.BLOCKREQ.DOMAIN_RESULT_REASON rClock else s
      else s
    let s := (s.setDom d none).releaseB d abandoned
    if abandoned then
      (forL (fun p s => (s.modCtl p (fun c => { c with stuck := true })).put p F.HDR.CHECK_REASON rClock) (pagesOf d) s).hit 2 d
    else forL (fun p s => s.modCtl p (fun c => { c with stuck := false })) (pagesOf d) s

/-- The domains that RECOVERY holds in reset (R506): heads, render, touch, haptic and audio. -/
def recoveryHeld : List Nat :=
  [0x10, 0x11, 0x12, 0x13, 0x14, 0x15, 0x16, 0x17, 0x20, 0x21, 0x22, 0x28, 0x29, 0x2A]

/-- RECOVERY holds the domain in reset, so nothing releases it. -/
def State.recHolds (s : State) (d : Nat) : Bool := s.mode == .recovery && recoveryHeld.contains d

/-- The 3,072-tick hold of a DOMAIN reset ends (R40, R497): the release is requested, which ungates the domain. (log 18, DEDUCED) -/
def State.domHoldEnd (s : State) (d : Nat) : State :=
  match s.domReset d with
  | none => s
  | some x =>
    if s.recHolds d then s else
    let s := (s.waitTo (x.start + 3072)).setGated d false
    if s.domClockOk d then s.domEnd d false else s

/-! Gates -/

/-- A management core, or the manager through a physical function (R42, R497). -/
def gateWriter (r : Req) : Bool :=
  (decide (0x80 ≤ r.rid.toNat) && decide (r.rid.toNat ≤ 0x83)) || (decide (r.rid.toNat ≤ 1) && r.tag == 0x010)

/-- A write of `GATE_REQ` by a requester that may (R41, R42): its check starts, or waits for the running
one. -/
def State.gateWrite (s : State) (r : Req) (d : Nat) (gate : Bool) : State :=
  let g : GateReq := ⟨r, d, gate⟩
  match s.gateRun with
  | some _ => { s with gateWait := s.gateWait ++ [g] }
  | none =>
    let s := (s.put divPage F.DIV.GATE_RESULT_DONE 0).put divPage F.DIV.GATE_RESULT_DOMAIN d
    { s with gateRun := some g }

/-- The reason a gate request is refused (R42); 0 when it is accepted. -/
def State.gateReason (s : State) (g : GateReq) : Nat :=
  if isDomain g.dom = false then rRange
  else if domPresent s.part g.dom = false then rFused
  else if g.gate = false then 0
  else if g.dom ≤ 5 then 0x40
  else if g.req.tag ≠ 1 ∧ (pagesOf g.dom).any s.secureHold then rHold
  else if (pagesOf g.dom).any (fun p => !s.idle p) then rNotIdle
  else 0

/-- The page of a domain that the secure world holds. -/
def State.heldPage (s : State) (d : Nat) : Nat := ((pagesOf d).find? s.secureHold).getD (pg d 0)

/-- A gate check ends with a reason, 0 for an accepted request (R42). -/
def State.gateResult (s : State) (g : GateReq) (e : Nat) : State :=
  let u := ((s.put divPage F.DIV.GATE_RESULT_DONE 1).put divPage F.DIV.GATE_RESULT_REASON e).put divPage
    F.DIV.GATE_RESULT_DOMAIN g.dom
  if e = rHold then u.holdRecord (u.heldPage g.dom) 2 g.req
  else if e ≠ 0 then u
  else if g.gate then (u.setGated g.dom true).setClockOk g.dom false
  else if s.gated g.dom then (u.setGated g.dom false).setClockOk g.dom true
  else u

/-- The next request that waits is checked. -/
def State.gateNext (s : State) : State :=
  match s.gateWait with
  | [] => { s with gateRun := none }
  | n :: t =>
    let s := (s.put divPage F.DIV.GATE_RESULT_DONE 0).put divPage F.DIV.GATE_RESULT_DOMAIN n.dom
    { s with gateRun := some n, gateWait := t }

/-- The check of the running gate request completes (R41, R42), and the next one starts. -/
def State.gateDone (s : State) : State :=
  match s.gateRun with
  | none => s
  | some g => (s.gateResult g (s.gateReason g)).gateNext

/-- The domains that no DOMAIN request resets (R497). -/
def noDomReset : List Nat := [0x00, 0x01, 0x02, 0x03, 0x04, 0x05, 0x08, 0x09, 0x0A, 0x0B, 0x30, 0x31]

/-! Releases -/

/-- Clock-ok is not seen in time (R40): the release is abandoned. (log 62, DEDUCED) -/
def State.abandonPage (s : State) (base : Nat) : State :=
  match (s.ctl base).inReset with
  | none => s
  | some (_, t) => (s.waitTo (t + 12288)).blockDone base true

def State.abandonDom (s : State) (d : Nat) : State :=
  match s.domReset d with
  | none => s
  | some x => if s.recHolds d then s else ((s.waitTo (x.start + 3072 + 12288)).setClockOk d false).domEnd d true

/-- Clock-ok is seen after the release request of a page's reset (R40); seen 12,288 ticks after it or later, it is too
late, and the release is abandoned (R10). -/
def State.clockSeenPage (s : State) (base : Nat) : State :=
  if base = corePage 0 then (s.setClockOk (domOf base) true).restartRelease
  else match (s.ctl base).inReset with
    | some (_, t) => if t + 12288 ≤ s.now then s.abandonPage base else (s.setClockOk (domOf base) true).blockDone base false
    | none => s

/-- Clock-ok is seen after the release request of a domain (R40), or too late (R10). -/
def State.clockSeenDom (s : State) (d : Nat) : State :=
  match s.domReset d with
  | none => s
  | some x =>
    if s.recHolds d then s
    else if x.start + 3072 + 12288 ≤ s.now then s.abandonDom d
    else ((s.waitTo (x.start + 3072)).setClockOk d true).domEnd d false

/-- A BLOCK reset completes (R498): it ungates the domain, and ends when the clock-ok stands. (log 17, DEDUCED) -/
def State.blockRelease (s : State) (base : Nat) : State :=
  match (s.ctl base).inReset, pinfoAt base with
  | some _, some i =>
    if i.kind = .ten then s
    else
      let s := s.setGated (domOf base) false
      if s.domClockOk (domOf base) then s.blockDone base false else s
  | _, _ => s

end Sys2Proof.Machine
end

