-- ==== Sys2Proof/Machine/MemIntOps.lean ====
section
/-! DEFINITION. Stored-data integrity: conversion sweeps, audits, scrubs, bulk clears, buckets and the log
page (R370–R391). -/

namespace Sys2Proof.Machine

/-- The words of a Tidepool bank that are listed, by word index. -/
def State.bankWords (s : State) (b : Nat) : List Nat :=
  if b < 16 then (s.poolChk.map (·.1)).filter (fun w => w % 16 == b && s.poolValid w) else []

/-- Word w re-encoded from the mode in force into A-mode or P-mode, keeping poison (R371, R377); a corrected
word is a correctable event of the engine (R383), an uncorrectable one is logged. -/
def State.reencode (s : State) (w : Nat) (toA : Bool) : State :=
  let put (s : State) (x : Nat) : State := s.poolPut w x (if toA then aCheck x w else pCheck x)
  let bad (s : State) (x : Nat) : State := s.poolPut w x (if toA then aCheck x w ^^^ 0xFF else pCheck x ||| 0xC0)
  match s.poolDec w with
  | .clean x => put s x
  | .fixed x syn => put (s.poolCe 0xA2 0 w syn true) x
  | .bad x cause syn => bad (s.poolUe 1 0xA2 0 w cause syn) x

/-- A conversion sweep starts on the class S banks (R371): to P-mode when RUN is accepted, to A-mode when WARM
enters BOOT. -/
def State.convBegin (s : State) (toA : Bool) : State :=
  let s := forL (fun b s =>
    let x := s.bank b
    if x.phase = 0 ∧ x.amode = toA then s
    else if b < 16 ∧ s.bankWords b ≠ [] then s.setBank b { x with phase := (if toA then 1 else 2), ptr := 0 }
    else s.setBank b ⟨0, toA, 0⟩) s.classS s
  s.put mmodePage F.MMODE.CONVERT_STATE_DONE
    (b2n (s.classS.all (fun b => (s.bank b).phase != 1 && (s.bank b).phase != 2)))

/-- The conversion sweep has re-encoded every bank (R371, R372): each word from the mode that the bank's
state gives it. -/
def State.convEnd (s : State) : State :=
  let toA := match s.mode with
    | .run => false
    | .standby => false
    | _ => true
  let s := forL (fun b s =>
    let s := forL (fun w s => if s.poolA w = toA then s else s.reencode w toA) (s.bankWords b) s
    s.setBank b ⟨0, toA, 0⟩) s.classS s
  s.put mmodePage F.MMODE.CONVERT_STATE_DONE 1

/-- Class S is in P-mode and no conversion runs. (log 9, DESIGN CHOICE) -/
def State.pMode (s : State) : Bool := s.mode == .run || s.mode == .standby

/-- The audit takes bank b (R378). -/
def State.auditBank (s : State) (b : Nat) : State :=
  let s := (s.put mscrubPage F.MSCRUB.AUDIT_STATE_BANK b).put mscrubPage F.MSCRUB.AUDIT_STATE_PHASE 1
  if (s.bank b).phase = 0 ∧ (s.bank b).amode = false then s.setBank b ⟨3, false, 0⟩ else s

/-- An audit round starts (R378). -/
def State.auditStart (s : State) : State :=
  ({ s with mem := { s.mem with auditOn := true, auditLate := false, auditAt := s.now } }).auditBank 0

/-- A round falls due (R378): it starts, or waits for the running one. -/
def State.auditDue (s : State) : State :=
  if s.enabled mscrubPage = false ∨ s.flag mscrubPage F.MSCRUB.AUDIT_CFG_AUDIT_EN = false ∨ s.pMode = false then s
  else
    let s := s.waitTo (s.mem.auditAt + 1024 * s.get mscrubPage F.MSCRUB.AUDIT_CFG_AUDIT_PERIOD)
    if s.mem.auditOn then { s with mem := { s.mem with auditLate := true } } else s.auditStart

/-- Both audit phases over one word (R377, R378): a damaged word ends poisoned. -/
def State.auditWord (s : State) (w : Nat) : State :=
  let s := s.stat mscrubPage 0
  match s.poolDec w with
  | .bad x cause syn =>
    let s := s.poolUe 1 0xA2 0 w cause syn
    (if cause = 2 then s else s.stat mscrubPage 2).poolPut w x (pCheck x ||| 0xC0)
  | .fixed x syn => ((s.poolCe 0xA2 0 w syn true).stat mscrubPage 1).poolPut w x (pCheck x)
  | .clean x => s.poolPut w x (pCheck x)

/-- The audit is abandoned (R379): its round ends, and the bank's state governs each word. -/
def State.auditAbandon (s : State) : State :=
  let b := s.get mscrubPage F.MSCRUB.AUDIT_STATE_BANK
  let x := s.bank b
  let s := ((s.inc mscrubPage F.MSCRUB.OVERRUNS_ABANDONED).put mscrubPage F.MSCRUB.AUDIT_STATE_PHASE 0).setBank b
    { x with phase := (if x.phase = 3 then 0 else x.phase) }
  { s with mem := { s.mem with auditOn := false, auditLate := false } }

/-- The audit of the current bank completes (R378, R379), and the next bank or round follows. -/
def State.auditPass (s : State) : State :=
  if s.mem.auditOn = false then s
  else if s.pMode = false then s.auditAbandon
  else
    let b := s.get mscrubPage F.MSCRUB.AUDIT_STATE_BANK
    let s :=
      if (s.bank b).phase = 1 ∨ (s.bank b).phase = 2 then s
      else (forL (fun w s => s.auditWord w) (s.bankWords b) s).setBank b ⟨0, false, 0⟩
    match s.classS.find? (fun x => decide (b < x)) with
    | some n => s.auditBank n
    | none =>
      let s := (s.inc mscrubPage F.MSCRUB.AUDIT_ROUNDS).put mscrubPage F.MSCRUB.AUDIT_STATE_PHASE 0
      if s.mem.auditLate then (s.inc mscrubPage F.MSCRUB.OVERRUNS_LATE).auditStart
      else { s with mem := { s.mem with auditOn := false } }

/-- The scrub of word w, decoded as given. -/
def State.scrubWord (s : State) (w : Nat) : Dec → State
  | .clean _ => s
  | .fixed x syn => (s.dramCe 0xA1 0 w syn true).dramClean w x
  | .bad x cause syn =>
    let s := s.dramUe 1 0xA1 0 w cause syn
    if cause = 2 then s else (s.dramPoison w x).stat mscrubPage 2

/-- The scrub's read, a BG request, meets its channel in self-refresh: it waits until it is older than `BG_WAKE`, which
wakes the channel (R351, R381). (log 262, DESIGN CHOICE) -/
def State.scrubWake (s : State) (c : Nat) : State :=
  if (s.dchan c).sr.isNone then s
  else
    let s := s.waitTo (s.now + s.get dpowerPage F.DPOWER.BG_WAKE + 1)
    let exit := if s.mode = .standby then 24576 else s.get dpowerPage F.DPOWER.SR_EXIT
    (s.srExit c (s.now + exit)).waitTo (s.now + exit)

/-- The DRAM scrub reads its next block (R381). -/
def State.dramScrub (s : State) : State :=
  if s.enabled mscrubPage = false ∨ s.flag mscrubPage F.MSCRUB.SCRUB_CFG_SCRUB_EN = false
      ∨ s.flag (pg 0x30 5) F.DSWEEP.SWEEP_STATE_DONE = false ∨ s.enabled dglobPage = false ∨ s.vBytes = 0 then s
  else
    let s := s.waitTo (s.mem.scrubAt + s.get mscrubPage F.MSCRUB.SCRUB_CFG_SCRUB_STEP)
    let a := s.get64 mscrubPage F.MSCRUB.SCRUB_PTR_LO % (1 <<< 40)
    let s := (s.scrubWake (s.dramChan a).1).dramServed ⟨0xA1, 0, a, 64, false, false, false⟩ 3
    let s := forN (fun j s => s.scrubWord (a / 8 + j) (s.dramDec (a / 8 + j))) 8 s
    let s := s.stat mscrubPage 3
    let s :=
      if s.vBytes ≤ a + 64 then (s.put64 mscrubPage F.MSCRUB.SCRUB_PTR_LO 0).inc mscrubPage F.MSCRUB.SCRUB_PASSES
      else s.put64 mscrubPage F.MSCRUB.SCRUB_PTR_LO (a + 64)
    { s with mem := { s.mem with scrubAt := s.now } }

/-- A step of the class K scrub (R380): it reads one word, and `found` says where it finds damage: the bank from 96,
the word, the cause of R386 and the syndrome (log 9). (log 69, DESIGN CHOICE) -/
def State.kScrub (s : State) (found : Option (Nat × Nat × Nat × Nat)) : State :=
  if s.enabled mscrubPage = false ∨ s.flag mscrubPage F.MSCRUB.K_SCRUB_CFG_K_SCRUB_EN = false then s
  else
    let s := s.waitTo (s.mem.kAt + s.get mscrubPage F.MSCRUB.K_SCRUB_CFG_K_SCRUB_STEP)
    let s := { s with mem := { s.mem with kAt := s.now } }
    match found with
    | none => s
    | some (b, w, cause, syn) =>
      let entry := logEntry cause (96 + b) syn 0xA2 0 1 0 0 w s.now
      if cause = 0 then (s.bucketAdd 1 true).logAdd entry
      else
        let s := (s.logAdd entry).hitAcc 220 (96 + b) 1 0xA2 0 0
        if cause = 2 then s else s.stat mscrubPage 2

/-- A bulk clear of a bank starts: every valid bit is reset (R374). -/
def State.bulkClear (s : State) (b : Nat) : State :=
  let s := if b < 16 then
      { s with
        pool := amDrop (fun a => a / 6 % 16 == b) s.pool
        poolChk := amDrop (fun w => w % 16 == b) s.poolChk }
    else s
  let s := if s.mem.auditOn ∧ s.get mscrubPage F.MSCRUB.AUDIT_STATE_BANK = b then
      s.inc mscrubPage F.MSCRUB.OVERRUNS_ABANDONED
    else s
  s.clearStarts b

/-- A bulk clear ends, and the bank accepts access again. (log 264, DESIGN CHOICE) -/
def State.bulkDone (s : State) (b : Nat) : State :=
  { s with mem := { s.mem with clearing := s.mem.clearing.filter (· != b) } }

/-- A bucket's leak falls due (R384). -/
def State.bucketLeak (s : State) (b : Nat) : State :=
  if s.enabled bucketPage = false then s
  else
    let due := ctrGet s.leakAt b
    let s := s.waitTo due
    let l := s.get bucketPage (F.MBUCKET.LEVEL.at b)
    let next := due + 1024 * s.get bucketPage (F.MBUCKET.BUCKET_LEAK.at b)
    { s.put bucketPage (F.MBUCKET.LEVEL.at b) (l - 1) with leakAt := amSet (fun _ => 0) s.leakAt b next }

/-- `LOG_POP` (R391). -/
def State.logPop (s : State) : State := { s with elog := s.elog.drop 1 }

/-- `MEMINT.LOG` writes. -/
def mlogReg (off : Nat) (_r : Req) (v : Word) (s : State) : Option State :=
  if off = 0x104 then some (if bit v.toNat 0 then s.logPop else s) else none

end Sys2Proof.Machine
end

