-- ==== Sys2Proof/Machine/OtpOps.lean ====
section
/-! DEFINITION. The OTP array, the option records, the loader and the pin map (R500–R512). -/

namespace Sys2Proof.Machine

/-- `DEV.OTP`, `RST.SOURCES` and `RST.PINMAP`. -/
def otpPage : Nat := pg 0x00 2
def srcsPage : Nat := pg 0x02 0
def pinmapPage : Nat := pg 0x02 2

/-- Byte i of an OTP block. -/
def State.otpByte (s : State) (k i : Nat) : Nat :=
  let w := (s.otpWord (16 * k + i / 4)).toNat
  bits w (8 * (i % 4) + 7) (8 * (i % 4))

/-- n bytes of a block from byte i, little-endian. -/
def State.otpField (s : State) (k i n : Nat) : Nat := forN (fun j a => a + (s.otpByte k (i + j) <<< (8 * j))) n 0

/-- The CRC of R501. -/
def otpCrc : CrcCfg := ⟨32, 0x04C11DB7, 0xFFFFFFFF, 0xFFFFFFFF, true, true⟩

/-- The check of a block passes (R501): the fold word is the block number. -/
def State.otpCheck (s : State) (k : Nat) : Bool :=
  crc otpCrc ([k % 256, k / 256] ++ (upto 0 60).map (fun i => s.otpByte k i)) == s.otpField k 60 4

/-- A block whose 64 bytes are all zero (R500). -/
def State.otpBlank (s : State) (k : Nat) : Bool := (upto 0 16).all (fun j => s.otpWord (16 * k + j) == 0)

/-- The blocks in [lo, hi) that are not blank, in ascending order. -/
def State.otpBlocks (s : State) (lo hi : Nat) : List Nat :=
  (s.otp.map (fun e => e.1 / 16)).foldl (fun l k =>
    if decide (lo ≤ k) && decide (k < hi) && !l.contains k && !s.otpBlank k then l ++ [k] else l) []

/-- The bytes that a record's `KIND` names (R502). -/
def recordBytes (kind i : Nat) : Bool :=
  decide (i < 4) || decide (56 ≤ i) && decide (i ≠ 58) && decide (i ≠ 59) ||
  (match kind with
   | 1 => decide (4 ≤ i) && decide (i < 12)
   | 2 => decide (4 ≤ i) && decide (i < 9)
   | 3 => i == 4 || i == 5 || (decide (8 ≤ i) && decide (i < 12))
   | 4 => i == 4 || i == 5 || (decide (8 ≤ i) && decide (i < 16))
   | 5 => decide (4 ≤ i) && decide (i < 55)
   | _ => decide (i < 58))

/-- The negotiation with the record in block k (R502). -/
def State.recordVer (s : State) (k : Nat) : Ver :=
  let v := s.otpByte k 0
  negotiate (s.get otpPage F.OTP.VER_LOCAL_MIN) (s.get otpPage F.OTP.VER_LOCAL_MAX)
    (s.get otpPage F.OTP.VER_LOCAL_FEATURES) v v (s.otpField k 56 2) (fun _ => 0) s.now

/-- The record in block k is valid (R502). -/
def State.recordOk (s : State) (k : Nat) : Bool :=
  let kind := s.otpByte k 1
  s.otpCheck k && (s.recordVer k).reason == 0
    && (upto 0 60).all (fun i => recordBytes kind i || s.otpByte k i == 0)

/-- The winners of the valid records, the highest block first to win (R502). -/
def State.pickWinners (s : State) : List (Nat × Nat) :=
  (s.otpBlocks 32 1024).foldl (fun l k =>
    if s.recordOk k ∧ decide (1 ≤ s.otpByte k 1) ∧ s.otpByte k 1 ≤ 5 then
      let key := s.otpField k 2 2 * 256 + s.otpByte k 1
      l.filter (fun e => e.1 != key) ++ [(key, k)]
    else l) []

/-- The winning record of a kind and key. -/
def State.winner (s : State) (kind key : Nat) : Option Nat :=
  (s.winners.find? (fun e => e.1 == key * 256 + kind)).map (·.2)

/-- A field of an option record, or its default. -/
def State.option (s : State) (kind key i n dflt : Nat) : Nat :=
  match s.winner kind key with
  | some k => s.otpField k i n
  | none => dflt

/-- A pin-map byte counts as bad: codes 6 and 7, and larger values, at a signal of the part (R510, R557). -/
def State.pinBad (s : State) (i : Nat) : Bool :=
  pinSignal s.part i && decide (5 < s.otpByte (16 + i / 60) (i % 60))

/-- The pin map of blocks 16–31 (R510, R557): codes 4 and 5 act as 1 on the open-drain pins. (log 15, DEDUCED) -/
def State.loadPins (s : State) : State :=
  let code (i : Nat) : Nat :=
    let c := s.otpByte (16 + i / 60) (i % 60)
    if pinSignal s.part i = false ∨ 5 < c then 0
    else if (i = 57 ∨ 96 ≤ i) ∧ (c = 4 ∨ c = 5) then 1
    else c
  let bad := ((upto 0 100).filter s.pinBad).length
  let m := forN (fun i l => amSet (fun _ => 0) l i (code i)) 100 []
  { s.put pinmapPage F.PINMAP.PINMAP_STATE bad with pinMap := m }

/-- The majority of the three copies of the reset fuse table (R492). -/
def State.fuseLevels (s : State) : Nat :=
  let c := fun j => s.otpField 12 (4 * j) 4
  (c 0 &&& c 1) ||| (c 0 &&& c 2) ||| (c 1 &&& c 2)

/-- The level that acts for a source (R491, R492): 0 DOMAIN, 1 WARM, 3 COLD; 0b10 acts as COLD. -/
def levelOf (fused src : Nat) : Nat :=
  let e := bits fused (2 * src + 1) (2 * src)
  let e := if e = 2 then 3 else e
  let floor := if src = 0 ∨ src = 1 ∨ src = 3 then 3 else if src ≤ 8 then 1 else 0
  max e floor

/-- `SRC_LEVEL`: the level of every source. -/
def srcLevels (fused : Nat) : Nat := forN (fun i a => a + (levelOf fused i <<< (2 * i))) 14 0

/-- The level in force for a source. -/
def State.srcLevel (s : State) (src : Nat) : Nat :=
  max (bits (s.get srcsPage F.SOURCES.SRC_LEVEL) (2 * src + 1) (2 * src)) (levelOf 0 src)

/-- The part fuses of block 0 in force, or blank (R549): the registers that keep their reset value follow. -/
def State.setDie (s : State) (n : Nat) : State :=
  let l := forL (fun e l => amSet (rstWord n) l e.1 e.2) s.regs []
  { s with die := n, regs := l }

/-- What a load finds wrong (R504): an OTP read error, a block among 0–11 that is not blank and fails its
check, or a block among 16–31 that does. -/
def State.loadBad (s : State) : Bool :=
  (s.otpBlocks 0 12).any (fun k => !s.otpCheck k) || (s.otpBlocks 16 32).any (fun k => !s.otpCheck k)

/-- Block 0 holds valid fuses. -/
def State.block0Ok (s : State) : Bool := s.otpBlank 0 || s.otpCheck 0

/-- The option shadow is recorded (R503). (log 15, DEDUCED) -/
def State.loadOptions (s : State) : State :=
  let bs := s.otpBlocks 32 1024
  let bad := (bs.filter (fun k => !s.recordOk k)).length
  let ign := (bs.filter (fun k => s.recordOk k && !(decide (1 ≤ s.otpByte k 1) && decide (s.otpByte k 1 ≤ 5)))).length
  let blank := ((upto 32 992).find? s.otpBlank).getD 0
  let s' := s.put otpPage F.OTP.OPT_STATE_INVALID bad
  let s' := s'.put otpPage F.OTP.OPT_STATE_IGNORED ign
  let s' := s'.put otpPage F.OTP.FIRST_BLANK blank
  let s' := match bs.reverse.head? with
    | none => s'
    | some k =>
      let v := s.recordVer k
      forN (fun j s => s.wr (otpPage + 0x184 + 4 * j) (BitVec.ofNat 32 (v.word j))) 4 s'
  { s' with winners := s.pickWinners }

/-! Programming -/

/-- A write of `OTP_CMD.PROGRAM` with its key (R507). -/
def State.otpProgram (s : State) : State :=
  let w := s.get otpPage F.OTP.OTP_ADDR
  let d := s.rd (otpPage + 0x104)
  let k := w / 16
  let e := if s.mode ≠ .boot ∧ s.mode ≠ .run then rMode
    else if s.otpRun.isSome then rInUse
    else if k < 12 ∨ (13 ≤ k ∧ k < 16) then rLocked
    else if s.otpWord w &&& ~~~d ≠ 0 then 0x42
    else 0
  let s := s.put otpPage F.OTP.OTP_RESULT_REASON e
  if e ≠ 0 then s
  else { s.put otpPage F.OTP.OTP_RESULT_BUSY 1 with otpRun := some ⟨w, d, s.now⟩ }

/-- A word of the array. -/
def State.otpPut (s : State) (w : Nat) (d : Word) : State := { s with otp := amSet (fun _ => (0 : Word)) s.otp w d }

/-- The pulse of a running command ends after 7,373 ticks: the word is blown (R507, R508). -/
def State.otpPulse (s : State) : State :=
  match s.otpRun with
  | none => s
  | some o =>
    let s := s.waitTo (o.start + 7373)
    { s.otpPut o.word (s.otpWord o.word ||| o.data) with otpRun := none }

/-- The main supplies fail during a pulse (R508): which of the word's bits were blown is left open. -/
def State.otpCut (s : State) : State :=
  match s.otpRun with
  | none => s
  | some o =>
    let w := s.otpWord o.word ||| (o.data &&& s.free.setWidth 32)
    { s.tookFree.otpPut o.word w with otpRun := none }

/-- The command completes with its read-back (R507); `fail` holds the bits that the pulse did not blow.  The
argument of `OTP_WRITE_FAIL` is the index of the record, block less 32. -/
def State.otpDone (s : State) (fail : Word) : State :=
  match s.otpRun with
  | none => s
  | some o =>
    let s := s.waitTo (o.start + 7373)
    let s := { s.otpPut o.word (s.otpWord o.word ||| (o.data &&& ~~~fail)) with otpRun := none }
    let s := s.put otpPage F.OTP.OTP_RESULT_BUSY 0
    if s.otpWord o.word = o.data then s
    else (s.put otpPage F.OTP.OTP_RESULT_REASON 0x43).hit 7 (o.word / 16 - 32)

/-- A write of `OTP_CMD.READ`: the word stands in `OTP_DATA` (R509).  The device key and the other fuses are
readable, since only the secure world reaches the page. -/
def State.otpRead (s : State) : State :=
  if s.otpRun.isSome then s.put otpPage F.OTP.OTP_RESULT_REASON rInUse
  else (s.wr (otpPage + 0x104) (s.otpWord (s.get otpPage F.OTP.OTP_ADDR))).put otpPage F.OTP.OTP_RESULT_REASON 0

/-- A write of `RCV_CTRL.GO` in RECOVERY (R506): the boot ROM starts to verify the image. -/
def State.rcvGo (s : State) (size : Nat) : State :=
  if size = 0 ∨ 32768 < size then s else s.put otpPage F.OTP.RCV_STATE 1

/-- The boot ROM has verified the image (R506). -/
def State.rcvDone (s : State) (ok : Bool) : State :=
  if s.get otpPage F.OTP.RCV_STATE = 1 then s.put otpPage F.OTP.RCV_STATE (if ok then 3 else 2) else s

/-- `DEV.OTP`. (log 15, DEDUCED) -/
def otpReg (off : Nat) (r : Req) (v : Word) (s : State) : Option State :=
  let n := v.toNat
  if off = 0x108 then
    let s := if bit n 1 then (if bits n 31 16 = 0x4F54 then s.otpProgram else s) else s
    some (if bit n 0 then s.otpRead else s)
  else if off = 0x114 then some (s.violation r (otpPage + 0x114) true)
  else none

/-- `DEV.BACKUP`: `CLEAR_FF` (R516). -/
def backupReg (off : Nat) (_r : Req) (v : Word) (s : State) : Option State :=
  if off = 0x100 then
    some (if bit v.toNat 0 then { s with backup := { s.backup with ff := BkItem.blank } } else s)
  else none

end Sys2Proof.Machine
end

