-- ==== Sys2Proof/Machine/TouchOps.lean ====
section
/-! DEFINITION. Touch panels: the link, restarts, scan and doze frames, correlation, baselines, contacts, reports and
the loss of the front end (R231–R264, R270, R271). -/

namespace Sys2Proof.Machine

/-! Packets -/

/-- The check of a packet (R234). -/
def tchCrc : CrcCfg := ⟨16, 0x1021, 0xFFFF, 0, false, false⟩

/-- A packet's `CHECK` over header and payload, the fold word being its `SEQ` bytes. -/
def tchCheck (body : List Byte) : Nat :=
  let l := body.map (·.toNat)
  crc tchCrc ((l.drop 2).take 2 ++ l)

/-- A packet (R234). -/
def tchPacket (typ seq : Nat) (pay : List Byte) : List Byte :=
  let body := natBytes 1 typ ++ natBytes 1 pay.length ++ natBytes 2 seq ++ pay
  body ++ natBytes 2 (tchCheck body)

/-- A byte of a packet; 0 beyond its end. -/
def pkByte (l : List Byte) (i : Nat) : Nat := (l.getD i 0).toNat

/-- The `TYPE` and `LEN` of the response that a request's `TYPE` expects, for a panel of n columns (R235). -/
def tchExpect (n : Nat) : Nat → Nat × Nat
  | 1 => (0x81, 8)
  | 2 => (0x82, 2)
  | 3 => (0x83, 2 * n)
  | 4 => (0x84, 2 * n)
  | 5 => (0x85, 8)
  | _ => (0x80, 0)

/-- The payload of a response to a request; none for a link error (R236). -/
def tchAnswer (n : Nat) (req rsp : List Byte) : Option (List Byte) :=
  let e := tchExpect n (pkByte req 0)
  let body := rsp.take (4 + e.2)
  if rsp.length < 6 + e.2 ∨ pkByte rsp 0 ≠ e.1 ∨ pkByte rsp 1 ≠ e.2 ∨ (rsp.drop 2).take 2 ≠ (req.drop 2).take 2
      ∨ bytesNat ((rsp.drop (4 + e.2)).take 2) ≠ tchCheck body then none
  else some (body.drop 4)

/-- The rows per group in force under a protocol version (R238). -/
def State.rowsInForce (s : State) (p ver : Nat) : Nat :=
  let l := groupRows (s.pf p F.PANEL.PANEL_SIZE_GROUP_ROWS)
  if ver = 1 then min 8 l else l

/-- The rows per group, the frequencies listened to, and the steps of a scan frame (R238, R241, R243). -/
def State.groupL (s : State) (p : Nat) : Nat := s.rowsInForce p (s.pf p F.PANEL.VER_STATUS_CHOSEN)
def State.listens (s : State) (p : Nat) : Nat :=
  if bit (s.pf p F.PANEL.VER_FEATURES_AGREED) 2 then s.pf p F.PANEL.NOISE_CFG_FREQ_COUNT + 1 else 0
def State.scanSteps (s : State) (p : Nat) : Nat := s.listens p + s.pf p F.PANEL.PANEL_SIZE_ROWS

/-- `GANGED_DOZE` is in force. -/
def State.ganged (s : State) (p : Nat) : Bool := bit (s.pf p F.PANEL.VER_FEATURES_AGREED) 1

/-- The payload of HELLO (R235). -/
def State.helloPay (s : State) (p : Nat) : List Byte :=
  natBytes 1 (s.pf p F.PANEL.VER_LOCAL_MIN) ++ natBytes 1 (s.pf p F.PANEL.VER_LOCAL_MAX)
    ++ natBytes 2 (s.pf p F.PANEL.VER_LOCAL_FEATURES)

/-- The payload of CONFIG (R235). (log 125, DEDUCED) -/
def State.configPay (s : State) (p : Nat) : List Byte :=
  natBytes 1 (s.pf p F.PANEL.PANEL_SIZE_ROWS) ++ natBytes 1 (s.pf p F.PANEL.PANEL_SIZE_COLS)
    ++ natBytes 1 (s.groupL p) ++ natBytes 1 (s.pf p F.PANEL.LINK_CFG_DUAL_IN)
    ++ natBytes 1 (s.pf p F.PANEL.STEP_CFG_PULSES) ++ natBytes 1 0
    ++ (upto 0 4).flatMap (fun k => natBytes 2 (s.pf p (F.PANEL.FREQ_PERIOD.at k))
      ++ natBytes 1 (s.pf p (F.PANEL.FREQ_GAIN.at k)) ++ natBytes 1 0)

/-- `SIGNS` of step k with l rows per group (R241). -/
def tchSigns (l k : Nat) : Nat := forN (fun i a => a + (popcount 4 (k &&& i) % 2) * 2 ^ i) l 0

/-- The request of step i of a frame (R235, R243): type and payload; `sync` for slot −1. -/
def State.stepReq (s : State) (p : Nat) (f : TFrame) (i sync : Nat) : Nat × List Byte :=
  let fc := s.listens p
  if f.self then (5, natBytes 1 sync ++ natBytes 1 f.freq)
  else if i < fc then (4, natBytes 1 sync ++ natBytes 1 i)
  else
    let l := s.groupL p
    let k := (i - fc) % l
    (3, natBytes 1 sync ++ natBytes 1 f.freq ++ natBytes 1 ((i - fc) / l) ++ natBytes 1 k
      ++ natBytes 2 (tchSigns l k) ++ natBytes 2 f.seq)

/-- An IDLE request. -/
def idleReq (sync : Nat) : Nat × List Byte := (6, natBytes 1 sync ++ natBytes 1 0)

/-- What a transaction's response gave: nothing was answered, a link error, or a payload. -/
inductive TAns where
  | nothing
  | error
  | ok (req pay : List Byte)
  deriving DecidableEq, Repr

/-- What the response of a transaction answers: the request of the second-previous transaction (R233, R236). -/
def State.tchRead (s : State) (p : Nat) (rsp : List Byte) : State × TAns :=
  match (s.panel p).reqs with
  | [_, q] =>
    match tchAnswer (s.pf p F.PANEL.PANEL_SIZE_COLS) q rsp with
    | some d => (s, .ok q d)
    | none => (s.stat (panelPage p) 3, .error)
  | _ => (s, .nothing)

/-! The wires (R231, R232) -/

/-- The bits of bytes, most significant bit first (R231). -/
def msbBits (l : List Byte) : List Bool := l.flatMap (fun b => (upto 0 8).map (fun i => bit b.toNat (7 - i)))

/-- The SCK cycles of a transaction with so many request and response bytes on w data-in lines (R232). -/
def tchCycles (w req rsp : Nat) : Nat := max (8 * req) (cdiv (8 * rsp) w)

/-- The ticks that a transaction of c SCK cycles lasts (R232). -/
def tchTicks (sckDiv c : Nat) : Nat := 2 * sckDiv * c + 64

/-- A transaction on the wires, one entry for each SCK cycle (R231, R232): the request on `TCH_DO` and w response bits,
the higher one on `TCH_DI1`; the shorter packet is padded with zeros. -/
def tchWire (w n : Nat) (req rsp : List Byte) : List (Bool × List Bool) :=
  let o := msbBits req
  let i := msbBits rsp
  (upto 0 (tchCycles w req.length n)).map (fun k => (o.getD k false, (upto 0 w).map (fun j => i.getD (w * k + j) false)))

/-- The bytes that the response of the next transaction has: that of the second-previous request (R233); none before
the link has carried two. -/
def State.rspLen (s : State) (p : Nat) : Nat :=
  match (s.panel p).reqs with
  | [_, q] => 6 + (tchExpect (s.pf p F.PANEL.PANEL_SIZE_COLS) (pkByte q 0)).2
  | _ => 0

/-- A request leaves, and a response is clocked in (R232, R234). (log 123, DEDUCED) -/
def State.tchSend (s : State) (p : Nat) (q : Nat × List Byte) (rsp : List Byte) : State :=
  let n := s.rspLen p
  let w := 1 + s.pf p F.PANEL.PANEL_STATE_DUAL
  s.modPanel p (fun x =>
    let k := tchPacket q.1 x.seq q.2
    { x with seq := (x.seq + 1) % 65536, reqs := (k :: x.reqs).take 2, wire := tchWire w n k rsp })

/-- One transaction of panel p. -/
def State.transact (s : State) (p : Nat) (q : Nat × List Byte) (rsp : List Byte) : State × TAns :=
  let r := s.tchRead p rsp
  (r.1.tchSend p q rsp, r.2)

/-! Records and states -/

/-- A touch record (R271). -/
def State.tchRec (s : State) (p event stamp : Nat) (l : List (Nat × Nat × Nat)) : State :=
  s.jrecOwn 0x000B (panelPage p) stamp (jpay ([(16, 1, event), (17, 1, p)] ++ l))

/-- The panel's contacts (R268). -/
def State.setContacts (s : State) (p : Nat) (l : List Contact) : State :=
  (s.modPanel p (fun x => { x with contacts := l })).put (panelPage p) F.PANEL.PANEL_STATE_CONTACTS l.length

/-- Panel p enters DOWN; what waited for an apply point applies, since no frames run (R239, R243, R264). (log 126, DEDUCED) -/
def State.panelDown (s : State) (p cause retry : Nat) : State :=
  let s := (s.setPanelState p 5).put (panelPage p) F.PANEL.PANEL_STATE_DOWN_CAUSE cause
  let s := s.modPanel p (fun x => { x with rst := none, nextAt := none, frame := none, retryAt := some retry })
  let s := s.tchRec p 1 s.now [(18, 1, cause), (20, 4, (s.panel p).bads)]
  s.applyPoint (panelPage p) s.now 0

/-- An acquisition of panel p starts (R247): contacts are dropped without a lift entry. (log 127, DEDUCED) -/
def State.acquire (s : State) (p : Nat) : State :=
  let n := s.pf p F.PANEL.PANEL_SIZE_ROWS * s.pf p F.PANEL.PANEL_SIZE_COLS
  let s := ((s.setPanelState p 2).put (panelPage p) F.PANEL.PANEL_CMD_REACQUIRE 0).setContacts p []
  s.modPanel p (fun x => { x with acq := some (0, List.replicate n 0), quiet := 0 })

/-! Restarts -/

/-- A restart of panel p fails (R239, R240). (log 124, DEDUCED) (log 134, DEDUCED) -/
def State.restartFails (s : State) (p t0 cause : Nat) (retry : Bool) : State :=
  let first := !retry && !(s.panel p).failed
  let s := s.modPanel p (fun x => { x with failed := true, bads := 0 })
  let s := if first then s.hit (144 + p) cause else s
  s.panelDown p cause (t0 + 6144000)

/-- The negotiation with a HELLO_ACK (R98, R238), against what the HELLO offered. -/
def helloVer (hello ack : List Byte) (now : Nat) : Ver :=
  negotiate (pkByte hello 4) (pkByte hello 5) (pkByte hello 6 + 256 * pkByte hello 7) (pkByte ack 0) (pkByte ack 1)
    (pkByte ack 2 + 256 * pkByte ack 3) (fun v => if v = 1 then 1 else 7) now

/-- The outcome of a negotiation in the registers of R97. -/
def State.panelVer (s : State) (p : Nat) (v : Ver) : State :=
  let b := panelPage p
  let s := ((s.put b F.PANEL.VER_STATUS_REASON v.reason).put b F.PANEL.VER_STATUS_PEER_MAX v.peerMax).put b
    F.PANEL.VER_STATUS_PEER_MIN v.peerMin
  let s := ((s.put b F.PANEL.VER_STATUS_CHOSEN v.chosen).put b F.PANEL.VER_FEATURES_PEER v.peerFeat).put b
    F.PANEL.VER_FEATURES_AGREED v.agreed
  s.put64 b F.PANEL.VER_TS_LO v.ts

/-- `NOISY` takes a value; each change is recorded (R258). -/
def State.setNoisy (s : State) (p b f : Nat) (on : Bool) : State :=
  let q := panelPage p
  if s.pf p F.PANEL.PANEL_STATE_NOISY = b2n on then s
  else
    let s := s.put q F.PANEL.PANEL_STATE_NOISY (b2n on)
    let s := if on then (s.intBit q 5).hit (152 + p) f else s
    s.tchRec p 3 b ([(18, 1, b2n on), (19, 1, f)] ++ (upto 0 4).map (fun k => (20 + 2 * k, 2, s.pf p (F.PANEL.NOISE.at k))))

/-- A restart succeeds in its slot t4 (R239): the frequency stays one of those in use. A change of the frequency counts, and a change of `NOISY` is recorded (R258). (log 246, DEDUCED) -/
def State.restartDone (s : State) (p t0 : Nat) : State :=
  let b := panelPage p
  let g := match s.groupL p with | 4 => 0 | 8 => 1 | _ => 2
  let s := ((s.put b F.PANEL.PANEL_STATE_DOWN_CAUSE 0).put b F.PANEL.PANEL_STATE_GROUP_IN_FORCE g)
  let f := if (s.panel p).freq < s.listens p then (s.panel p).freq else 0
  let s := if f = (s.panel p).freq then s else s.stat b 6
  let s := s.modPanel p (fun x => { x with
    rst := none
    nextAt := some (t0 + 5 * s.pf p F.PANEL.STEP_CFG_STEP_TICKS)
    freq := f
    bads := 0 })
  let s := if s.listens p = 0 then s.setNoisy p s.now f false else s
  let s := s.tchRec p 0 s.now [(18, 1, s.pf p F.PANEL.VER_STATUS_CHOSEN), (20, 2, s.pf p F.PANEL.VER_FEATURES_AGREED),
    (22, 4, s.pf p F.PANEL.TFE_ID)]
  (s.intBit b 2).acquire p

/-- Slot k of a restart of panel p (R239). (log 124, DEDUCED) -/
def State.restartSlot (s : State) (p : Nat) (rsp : List Byte) : State :=
  match (s.panel p).rst with
  | none => s
  | some (t0, k, retry) =>
    let s := s.waitTo (t0 + k * s.pf p F.PANEL.STEP_CFG_STEP_TICKS)
    let r := s.tchRead p rsp
    let s := r.1.modPanel p (fun x => { x with rst := some (t0, k + 1, retry) })
    match k with
    | 0 => s.tchSend p (1, s.helloPay p) rsp
    | 2 =>
      match r.2 with
      | .ok q d =>
        let v := helloVer q d s.now
        let s := (s.panelVer p v).put (panelPage p) F.PANEL.TFE_ID (bytesNat ((d.drop 4).take 4))
        let dual := s.pf p F.PANEL.LINK_CFG_DUAL_IN == 1
        let s := s.tchSend p (2, s.configPay p) rsp
        if v.reason ≠ 0 then s.restartFails p t0 2 retry
        else if dual ∧ bit v.agreed 0 = false then s.restartFails p t0 3 retry
        else s.put (panelPage p) F.PANEL.PANEL_STATE_DUAL (b2n dual)
      | _ => (s.tchSend p (2, s.configPay p) rsp).restartFails p t0 1 retry
    | 4 =>
      let s := s.tchSend p (idleReq 0) rsp
      match r.2 with
      | .ok _ d => if pkByte d 0 ≠ 0 then s.restartFails p t0 4 retry else s.restartDone p t0
      | _ => s.restartFails p t0 1 retry
    | _ => s.tchSend p (idleReq 0) rsp

/-- A restart that is due after an enable starts, and runs one slot for each response given (R239, R240). (log 125, DEDUCED) -/
def State.restartRun (s : State) (p : Nat) (rsps : List (List Byte)) : State :=
  let s := match (s.panel p).startAt with
    | some t => (s.waitTo t).panelRestart p (max t s.now) false
    | none => s
  forL (fun r s => s.restartSlot p r) rsps s

/-- The retry of a restart is due (R239, R264). (log 134, DEDUCED) -/
def State.restartRetry (s : State) (p : Nat) : State :=
  match (s.panel p).retryAt with
  | some t => (s.waitTo t).panelRestart p (max t s.now) true
  | none => s

/-- `PANEL_CMD` of panel p (R268): the bits wait for the page's next apply point, which is at once where no frames
run in DOWN. (log 126, DEDUCED) -/
def State.panelCmd (s : State) (p : Nat) (v : Word) : State :=
  let b := panelPage p
  let s := s.wr (b + F.PANEL.PANEL_CMD_RESTART.off) (s.rd (b + F.PANEL.PANEL_CMD_RESTART.off) ||| (v &&& 7))
  if bit v.toNat 0 ∧ s.panelState p = 5 then s.panelRestart p s.now false else s

/-! Correlation (R241, R242) -/

/-- H[k][i]. -/
def hadamard (k i : Nat) : Int := if popcount 4 (k &&& i) % 2 = 1 then -1 else 1

/-- i limited to [lo, hi]. -/
def iclamp (lo hi i : Int) : Int := max lo (min hi i)

/-- The signed samples of a payload. -/
def samples (d : List Byte) : List Int := (upto 0 (d.length / 2)).map (fun c => sext 16 (bytesNat ((d.drop (2 * c)).take 2)))

/-- The node of row i of a group of l rows in column c. -/
def nodeValue (l : Nat) (ys : List (List Int)) (i c : Nat) : Int :=
  let t := forN (fun k a => a + hadamard k i * (ys.getD k []).getD c 0) l 0
  iclamp (-32768) 32767 ((t + (l / 2 : Nat)) / (l : Int))

/-- The node values of a frame, row by row, from the samples of its drive steps. -/
def nodeValues (l rows cols : Nat) (ys : List (List Int)) : List Int :=
  (upto 0 rows).flatMap (fun r => (upto 0 cols).map (fun c => nodeValue l ((ys.drop (r / l * l)).take l) (r % l) c))

/-! Nodes (R247–R250) -/

/-- The nodes of the 3 × 3 window around (r, c) inside the panel, in row-major order. -/
def window (rows cols r c : Nat) : List (Nat × Nat) :=
  ((upto (r - 1) 3).filter (fun i => decide (i < rows) && decide (i ≤ r + 1))).flatMap (fun i =>
    ((upto (c - 1) 3).filter (fun j => decide (j < cols) && decide (j ≤ c + 1))).map (fun j => (i, j)))

/-- A suspect node against a node value (R249). -/
def Node.clear (n : Node) (m : Int) (suspect frames : Nat) : Node :=
  if n.susp = false then n
  else
    let k := if (n.ref - m).natAbs ≤ suspect / 2 then n.clr + 1 else 0
    if frames ≤ k then { n with b := m * 256, susp := false, clr := 0 } else { n with clr := k }

/-- d of a node (R250). -/
def Node.diff (n : Node) (m : Int) : Int := (n.b + 128) / 256 - m

/-- The baseline follower (R250): nodes with their values and differences, row by row. -/
def follow (rows cols lift shift : Nat) (ns : List Node) (ms ds : List Int) : List Node :=
  let touched (i : Nat) : Bool :=
    decide ((lift : Int) ≤ ds.getD i 0) && !(ns.getD i ⟨0, false, 0, 0⟩).susp
  let frozen (r c : Nat) : Bool := (window rows cols r c).any (fun q => touched (q.1 * cols + q.2))
  let step (i : Nat) : Option Int :=
    match ns[i]? with
    | some n => if n.susp || frozen (i / cols) (i % cols) then none else some ((ms.getD i 0 * 256 - n.b) / (2 ^ shift : Nat))
    | none => none
  let steps := (upto 0 (rows * cols)).map step
  let sum (l : List Nat) : Int × Nat := l.foldl (fun a i => match steps.getD i none with
    | some x => (a.1 + x, a.2 + 1)
    | none => a) (0, 0)
  let row := (upto 0 rows).map (fun r => sum (upto (r * cols) cols))
  let col := (upto 0 cols).map (fun c => sum ((upto 0 rows).map (fun r => r * cols + c)))
  ns.zipIdx.map (fun (n, i) =>
    if n.susp then n
    else match steps.getD i none with
      | some x => { n with b := n.b + x }
      | none =>
        let a := row.getD (i / cols) (0, 0)
        let b := col.getD (i % cols) (0, 0)
        let k := a.2 + b.2
        if k = 0 then n else { n with b := n.b + (a.1 + b.1 + (k / 2 : Nat)) / (k : Int) })

/-! Contacts (R251–R253) -/

/-- A candidate: row-major index, place, signal, size, its d and whether its node is suspect. -/
structure Peak where
  idx : Nat
  x : Nat
  y : Nat
  signal : Nat
  size : Nat
  d : Int
  susp : Bool
  deriving DecidableEq, Repr

/-- A node is a candidate peak (R251). -/
def isPeak (rows cols lift : Nat) (ds : List Int) (r c : Nat) : Bool :=
  let i := r * cols + c
  let d := ds.getD i 0
  decide ((lift : Int) ≤ d) && (window rows cols r c).all (fun q =>
    let j := q.1 * cols + q.2
    if j < i then decide (ds.getD j 0 < d) else decide (ds.getD j 0 ≤ d))

/-- The place, signal and size of a candidate (R252). -/
def peakOf (rows cols touch : Nat) (ns : List Node) (ds : List Int) (r c : Nat) : Peak :=
  let w := window rows cols r c
  let wt (q : Nat × Nat) : Int := max (ds.getD (q.1 * cols + q.2) 0) 0
  let tot := w.foldl (fun a q => a + wt q) 0
  let mx := w.foldl (fun a q => a + wt q * ((q.2 : Int) - c)) 0
  let my := w.foldl (fun a q => a + wt q * ((q.1 : Int) - r)) 0
  let pos (k n : Nat) (m : Int) : Nat := (iclamp 0 (64 * ((n : Int) - 1)) (64 * k + (64 * m + tot / 2) / tot)).toNat
  ⟨r * cols + c, pos c cols mx, pos r rows my, (min tot 65535).toNat,
    (w.filter (fun q => decide ((touch / 2 : Nat) ≤ ds.getD (q.1 * cols + q.2) 0))).length,
    ds.getD (r * cols + c) 0, (ns.getD (r * cols + c) ⟨0, false, 0, 0⟩).susp⟩

/-- The candidates of a frame, in row-major order. -/
def peaks (rows cols lift touch : Nat) (ns : List Node) (ds : List Int) : List Peak :=
  (upto 0 (rows * cols)).filterMap (fun i =>
    if isPeak rows cols lift ds (i / cols) (i % cols) then some (peakOf rows cols touch ns ds (i / cols) (i % cols)) else none)

/-- The square of the distance of a contact and a candidate. -/
def dist2 (o : Contact) (k : Peak) : Nat :=
  let d (a b : Nat) : Nat := max a b - min a b
  d o.x k.x * d o.x k.x + d o.y k.y * d o.y k.y

/-- An element inserted in a list that is sorted by `le`. -/
def insertBy {α : Type} (le : α → α → Bool) (a : α) : List α → List α
  | [] => [a]
  | b :: t => if le a b then a :: b :: t else b :: insertBy le a t

/-- A list sorted by `le`; equal elements keep their order. -/
def sortBy {α : Type} (le : α → α → Bool) : List α → List α
  | [] => []
  | a :: t => insertBy le a (sortBy le t)

/-- The contacts that candidates continue (R253): pairs in their order, each side taken once. (log 131, DEDUCED) -/
def pairUp (dist : Nat) (os : List Contact) (ks : List Peak) : List (Contact × Peak) :=
  let all := os.flatMap (fun o => (ks.filter (fun k => decide (dist2 o k ≤ dist * dist))).map (fun k => (o, k)))
  let key (a : Contact × Peak) : Nat := (dist2 a.1 a.2 * 16 + a.1.id) * 65536 + a.2.idx
  (sortBy (fun a b => decide (key a ≤ key b)) all).foldl (fun l a =>
    if l.any (fun b => b.1.id == a.1.id || b.2.idx == a.2.idx) then l else l ++ [a]) []

/-- The new contacts of a frame (R253): at most `room`, the largest signals, in row-major order. (log 131, DEDUCED) -/
def newPeaks (room : Nat) (tnew : Int) (ks : List Peak) : List Peak :=
  let l := sortBy (fun a b => decide (b.signal < a.signal) || (a.signal == b.signal && decide (a.idx ≤ b.idx)))
    (ks.filter (fun k => decide (tnew ≤ k.d)))
  sortBy (fun a b => decide (a.idx ≤ b.idx)) (l.take room)

/-- The lowest identifier that is not used. (log 131, DEDUCED) -/
def freeId (used : List Nat) : Option Nat := (upto 0 16).find? (fun i => !used.contains i)

/-! Reports (R254–R256) -/

/-- A contact entry: event, contact and frames since DOWN (R255). -/
def entryBytes (event : Nat) (c : Contact) (frames : Nat) : List Byte :=
  let lift := event == 2
  natBytes 1 c.id ++ natBytes 1 event ++ natBytes 2 c.x ++ natBytes 2 c.y
    ++ natBytes 2 (if lift then 0 else c.signal) ++ natBytes 1 (if lift then 0 else c.size)
    ++ natBytes 1 (b2n c.stuck + (if c.susp && !lift then 2 else 0)) ++ natBytes 2 0 ++ natBytes 4 frames

/-- The 352 bytes of a report (R255). (log 138, DEDUCED) -/
def State.reportBytes (s : State) (p : Nat) (f : TFrame) (b : Nat) (lost : Bool) (es : List (Nat × Contact)) : List Byte :=
  let x := s.panel p
  let flags := s.pf p F.PANEL.PANEL_STATE_NOISY + 2 * b2n (decide (0 < x.drops)) + 4 * b2n lost + 8 * b2n x.acqFlag
    + 16 * b2n (decide (0 < s.pf p F.PANEL.SUSPECT_COUNT))
  let ents := es.flatMap (fun e => entryBytes e.1 e.2 ((f.seq + 0x100000000 - e.2.downSeq) % 0x100000000))
  natBytes 2 1 ++ natBytes 1 p ++ natBytes 1 es.length ++ natBytes 4 f.seq ++ natBytes 8 b ++ natBytes 2 flags
    ++ natBytes 1 f.freq ++ natBytes 1 (s.pf p F.PANEL.VER_STATUS_CHOSEN) ++ natBytes 2 (s.pf p F.PANEL.SUSPECT_COUNT)
    ++ natBytes 2 0 ++ natBytes 4 x.drops ++ natBytes 4 0 ++ ents ++ natBytes (320 - 16 * es.length) 0

/-- A report is written to the ring, or dropped when it is full (R254, R256). (log 138, DEDUCED) -/
def State.report (s : State) (p : Nat) (f : TFrame) (b : Nat) (lost : Bool) (es : List (Nat × Contact)) : State :=
  let q := panelPage p
  let slots := 1 <<< s.pf p F.PANEL.RING_CFG
  let wr := s.pf p F.PANEL.RING_WR
  if (wr + 1) % slots = s.pf p F.PANEL.RING_RD then
    ((s.stat q 5).intBit q 6).modPanel p (fun x => { x with drops := x.drops + 1 })
  else
    let a := s.get64 q F.PANEL.RING_ADDR_LO % (1 <<< 40) + 352 * wr
    let s' := (s.mwrite ⟨0x61, s.owner q, a, 352, true, false, false⟩ (s.reportBytes p f b lost es)).1
    let s' := ((s'.put q F.PANEL.RING_WR ((wr + 1) % slots)).stat q 4).intBit q 0
    s'.modPanel p (fun x => { x with drops := 0, acqFlag := false })

/-! Frames -/

/-- STANDBY keeps panels in doze: its entry has begun step 2, or has completed (R259, R262). (log 127, DEDUCED) -/
def State.dozeOrdered (s : State) : Bool :=
  match s.stby with
  | .entry n _ => decide (2 ≤ n)
  | .undo _ _ => true
  | .none => s.mode == .standby

/-- A panel that scans enters doze at this frame (R259). -/
def State.dozeNow (s : State) (p : Nat) : Bool :=
  let idle := s.pf p F.PANEL.DOZE_CFG_DOZE_IDLE
  decide (idle ≠ 0) && decide (idle ≤ (s.panel p).quiet) || s.pf p F.PANEL.PANEL_CMD_DOZE == 1 || s.dozeOrdered

/-- A frame of panel p begins with its slot −1 tick t (R243, R260). -/
def State.frameBegin (s : State) (p t : Nat) : State :=
  let q := panelPage p
  let s := if s.pf p F.PANEL.PANEL_CMD_REACQUIRE = 1 then s.acquire p else s
  let s := if s.panelState p = 3 ∧ s.dozeNow p then
      ((s.setPanelState p 4).put q F.PANEL.PANEL_CMD_DOZE 0).modPanel p (fun x => { x with sb := [], cnt := 0, quiet := 0 })
    else s
  let doze := s.panelState p == 4
  let self := doze && s.ganged p
  let s := s.put q F.PANEL.PANEL_STATE_FREQ (s.panel p).freq
  s.modPanel p (fun x => { x with
    nextAt := some (t + s.pf p (if doze then F.PANEL.DOZE_TICKS else F.PANEL.FRAME_TICKS))
    keep := 0
    frame := some ⟨t, s.pf p F.PANEL.STEP_CFG_STEP_TICKS, if self then 1 else s.scanSteps p, x.freq,
      (s.pf p F.PANEL.FRAME_SEQ + 1) % 0x100000000, self, 0, false, []⟩ })

/-- Slot of a frame of panel p (R232, R243, R260). (log 129, DEDUCED) -/
def State.frameSlot (s : State) (p : Nat) (rsp : List Byte) : State :=
  let q := panelPage p
  match (s.panel p).frame with
  | none => s
  | some f =>
    if f.n + 2 ≤ f.next then s
    else
      let s := s.waitTo (f.t0 + f.next * f.step)
      let s := if f.next = 1 then
          ((s.sourceAt (10 + p) (f.t0 + f.step)).put q F.PANEL.FRAME_SEQ f.seq).stat q (if s.panelState p = 4 then 1 else 0)
        else s
      let r := s.transact p (if f.next < f.n then s.stepReq p f f.next (b2n (f.next == 0)) else idleReq 0) rsp
      let pay := match r.2 with
        | .ok _ d => d
        | _ => []
      r.1.modPanel p (fun x => { x with frame := some { f with
        next := f.next + 1
        bad := f.bad || r.2 == .error
        ys := (if f.next < 2 then f.ys else f.ys ++ [pay]) } })

/-- `TOUCH_SLOT`: the next slot of a restart or of a frame. (log 129, DEDUCED) -/
def State.touchSlot (s : State) (p : Nat) (rsp : List Byte) : State :=
  if s.panelState p = 1 then s.restartSlot p rsp else s.frameSlot p rsp

/-- A keep-alive is due (R260): an IDLE transaction with `SYNC` = 1. -/
def State.keepalive (s : State) (p : Nat) (rsp : List Byte) : State :=
  let x := s.panel p
  match x.frame, x.nextAt with
  | none, some next =>
    let f := next - s.pf p F.PANEL.DOZE_TICKS + s.pf p F.PANEL.STEP_CFG_STEP_TICKS
    let t := f + (x.keep + 1) * 24576000
    if s.panelState p = 4 ∧ t < next then
      ((s.waitTo t).transact p (idleReq 1) rsp).1.modPanel p (fun x => { x with keep := x.keep + 1 })
    else s
  | _, _ => s

/-! Acquisition (R247, R248) -/

/-- A node of the factory reference of panel p (R502). (log 133, DESIGN CHOICE) -/
def State.factoryRef (s : State) (p i : Nat) : Int :=
  match s.winner 5 (p * 256 + i / 48) with
  | some k => sext 16 (s.otpField k 4 2) + sext 8 (s.otpByte k (7 + i % 48)) * (2 ^ (s.otpByte k 6 % 8) : Nat)
  | none => 0

/-- The reference of panel p; none without one. A memory reference whose read fails is left open (log 3). (log 133, DESIGN CHOICE) -/
def State.reference (s : State) (p n : Nat) : State × Option (List Int) :=
  match s.pf p F.PANEL.REF_CFG with
  | 1 => (s, some ((upto 0 n).map (s.factoryRef p)))
  | 2 =>
    let q := panelPage p
    match s.mread ⟨0x61, s.owner q, s.get64 q F.PANEL.REF_ADDR_LO % (1 <<< 40), 2 * n, false, false, false⟩ with
    | (s, some (d, _)) => (s, some (samples d))
    | (s, none) =>
      let r := s.freeBytes (2 * n) []
      (r.1, some (samples r.2))
  | _ => (s, none)

/-- The nodes at the end of an acquisition of a frames with the given sums. -/
def acquired (a suspect : Nat) (sums : List Int) (ref : Option (List Int)) : List Node :=
  sums.zipIdx.map (fun (t, i) =>
    let b := (t * 256 + (a / 2 : Nat)) / (a : Int)
    match ref with
    | none => ⟨b, false, 0, 0⟩
    | some l =>
      let r := l.getD i 0
      if suspect < (r - (b + 128) / 256).natAbs then ⟨r * 256, true, 0, r⟩ else ⟨b, false, 0, 0⟩)

/-- The number of suspect nodes (R268). (log 130, DEDUCED) -/
def State.suspects (s : State) (p : Nat) : State :=
  s.put (panelPage p) F.PANEL.SUSPECT_COUNT ((s.panel p).nodes.filter (·.susp)).length

/-- A frame of an acquisition that is not discarded (R247). -/
def State.acquireFrame (s : State) (p : Nat) (ms : List Int) : State :=
  match (s.panel p).acq with
  | none => s
  | some (n, sums) =>
    let sums := List.zipWith (· + ·) sums ms
    let a := s.pf p F.PANEL.FOLLOW_CFG_ACQ_FRAMES + 1
    if n + 1 < a then s.modPanel p (fun x => { x with acq := some (n + 1, sums) })
    else
      let r := s.reference p sums.length
      let nodes := acquired (n + 1) (r.1.pf p F.PANEL.THRESH_2_SUSPECT_THRESH) sums r.2
      let s := r.1.modPanel p (fun x => { x with acq := none, acqFlag := true, nodes := nodes })
      (((s.suspects p).setPanelState p 3).intBit (panelPage p) 7)

/-! A scan frame -/

/-- The noise levels of the listen steps (R258). -/
def State.noiseLevels (s : State) (p : Nat) (ys : List (List Int)) : State :=
  forN (fun k s => s.put (panelPage p) (F.PANEL.NOISE.at k)
    ((ys.getD k []).foldl (fun a y => max a y.natAbs) 0)) (s.listens p) s

/-- The noise test at the end of a frame with listen steps (R258). (log 130, DEDUCED) (log 139, DEDUCED) -/
def State.noiseTest (s : State) (p b f : Nat) : State :=
  let fc := s.listens p
  if fc = 0 then s
  else
    let lvl (k : Nat) : Nat := s.pf p (F.PANEL.NOISE.at k)
    let th := s.pf p F.PANEL.NOISE_CFG_NOISE_THRESH
    if lvl f ≤ th then (s.modPanel p (fun x => { x with hot := 0 })).setNoisy p b f false
    else
      let hot := (s.panel p).hot + 1
      let s := s.modPanel p (fun x => { x with hot := hot })
      if hot < s.pf p F.PANEL.NOISE_CFG_NOISE_FRAMES then s
      else
        let best := (upto 0 fc).foldl (fun a k => if lvl k < lvl a then k else a) 0
        if lvl best ≤ th then
          let s := s.modPanel p (fun x => { x with freq := best, hot := 0 })
          (if best = f then s else s.stat (panelPage p) 6).setNoisy p b f false
        else s.setNoisy p b f true

/-- The contacts of a frame (R253): continued and new ones. -/
def State.track (s : State) (p b : Nat) (f : TFrame) (ks : List Peak) : State × List (Nat × Contact) :=
  let os := (s.panel p).contacts
  let pairs := pairUp (s.pf p F.PANEL.TRACK_CFG_TRACK_DIST) os ks
  let moves := pairs.map (fun a => (1, { a.1 with
    x := a.2.x, y := a.2.y, signal := a.2.signal, size := a.2.size, susp := a.2.susp }))
  let lifts := (os.filter (fun o => !pairs.any (fun a => a.1.id == o.id))).map (fun o => (2, o))
  let extra := if s.pf p F.PANEL.PANEL_STATE_NOISY = 1 then s.pf p (F.PANEL.NOISE.at f.freq) / 4 else 0
  let tnew := min 65535 (s.pf p F.PANEL.THRESH_TOUCH_THRESH + extra)
  let rest := ks.filter (fun k => !pairs.any (fun a => a.2.idx == k.idx))
  let r := forL (fun (k : Peak) (a : State × List Nat × List (Nat × Contact)) =>
    let mk (i : Nat) : Contact := ⟨i, k.x, k.y, k.signal, k.size, b, f.seq, false, k.susp⟩
    match freeId a.2.1 with
    | some i => (a.1.stat (panelPage p) 7, a.2.1 ++ [i], a.2.2 ++ [(0, mk i)])
    | none =>
      let i := a.1.free.toNat % 16
      (a.1.tookFree.stat (panelPage p) 7, a.2.1, a.2.2 ++ [(0, mk i)]))
    (newPeaks (10 - moves.length) tnew rest) (s, os.map (·.id), [])
  (r.1, sortBy (fun a c => decide (a.2.id ≤ c.2.id)) lifts ++ sortBy (fun a c => decide (a.2.id ≤ c.2.id)) (moves ++ r.2.2))

/-- Resting contacts of a frame are noticed once (R257). -/
def State.restNotice (s : State) (p b : Nat) : List (Nat × Contact) → State × List (Nat × Contact)
  | [] => (s, [])
  | (e, c) :: t =>
    let ms := s.pf p F.PANEL.STUCK_MS
    if e ≠ 2 ∧ ms ≠ 0 ∧ c.stuck = false ∧ ms * 614400 ≤ b - c.downB then
      let s := ((s.hit (148 + p) c.id).intBit (panelPage p) 4).tchRec p 2 b
        [(18, 1, c.id), (20, 2, c.x), (22, 2, c.y), (24, 8, c.downB)]
      let r := s.restNotice p b t
      (r.1, (e, { c with stuck := true }) :: r.2)
    else
      let r := s.restNotice p b t
      (r.1, (e, c) :: r.2)

/-- A frame's contact events pass to the reflex table (R246, R301); frames of one tick are taken in ascending panel
number. (log 153, DEDUCED) -/
def State.toReflex (s : State) (q : RflxFrame) : State :=
  if q.evs.isEmpty then s
  else
    let first (e : RflxFrame) : Bool := decide (e.arrival < q.arrival) || (e.arrival == q.arrival && decide (e.panel ≤ q.panel))
    { s with reflexQ := s.reflexQ.takeWhile first ++ [q] ++ s.reflexQ.dropWhile first }

/-- Suspect nodes, the follower, contacts and the report of a scan frame (R249–R257). (log 130, DEDUCED) (log 132, DEDUCED) -/
def State.scanFrame (s : State) (p b : Nat) (f : TFrame) (ms : List Int) : State :=
  let rows := s.pf p F.PANEL.PANEL_SIZE_ROWS
  let cols := s.pf p F.PANEL.PANEL_SIZE_COLS
  let lift := s.pf p F.PANEL.THRESH_LIFT_THRESH
  let touch := s.pf p F.PANEL.THRESH_TOUCH_THRESH
  let ns := List.zipWith (fun (n : Node) m =>
    n.clear m (s.pf p F.PANEL.THRESH_2_SUSPECT_THRESH) (s.pf p F.PANEL.FOLLOW_CFG_CLEAR_FRAMES)) (s.panel p).nodes ms
  let ds := List.zipWith Node.diff ns ms
  let ns' := follow rows cols lift (s.pf p F.PANEL.FOLLOW_CFG_FOLLOW_SHIFT) ns ms ds
  let s := (s.modPanel p (fun x => { x with nodes := ns' })).suspects p
  let r := s.track p b f (peaks rows cols lift touch ns ds)
  let r := r.1.restNotice p b r.2
  let live := (r.2.filter (fun e => e.1 != 2)).map (·.2)
  let quiet := live.isEmpty && ds.all (fun d => decide (d < (lift : Int)))
  let s := (r.1.setContacts p live).modPanel p (fun x => { x with quiet := if quiet then x.quiet + 1 else 0 })
  let s := s.toReflex ⟨p, b, false, r.2, s.now⟩
  if r.2.isEmpty = false ∨ s.pf p F.PANEL.TRACK_CFG_REPORT_ALL = 1 then s.report p f b false r.2 else s

/-! Doze (R260–R262) -/

/-- An approach of panel p (R262); `mask` names the gang groups. (log 136, DEDUCED) (log 137, DEDUCED) -/
def State.approach (s : State) (p b mask : Nat) (f : TFrame) : State :=
  let scan := (s.mode == .run || s.mode == .boot) && s.stby == .none
  let wake := !scan && bit (s.get tchPage F.TCH.WAKE_MASK) p && (s.mode == .standby || s.stby != .none)
  let s := (s.intBit (panelPage p) 1).tchRec p 4 b [(18, 1, mask), (19, 1, b2n wake)]
  if scan then
    (s.setPanelState p 3).modPanel p (fun x => { x with nextAt := some (f.t0 + 3 * f.step), quiet := 0 })
  else if wake then s.wake else s

/-- A self-capacitance frame (R261). (log 136, DEDUCED) -/
def State.dozeFrame (s : State) (p b : Nat) (f : TFrame) : State :=
  let d := f.ys.getD 0 []
  let v (k : Nat) : Int := bytesNat ((d.drop (2 * k)).take 2)
  match (s.panel p).sb with
  | [] => s.modPanel p (fun x => { x with sb := (upto 0 4).map (fun k => v k * 256), cnt := 0 })
  | sb =>
    let th := s.pf p F.PANEL.THRESH_2_APPROACH_THRESH
    let ovr (k : Nat) : Bool := decide ((th : Int) ≤ v k - (sb.getD k 0 + 128) / 256)
    let mask := forN (fun k a => a + b2n (ovr k) * 2 ^ k) 4 0
    let cnt := if mask = 0 then 0 else (s.panel p).cnt + 1
    let s := s.modPanel p (fun x => { x with
      cnt := cnt
      sb := sb.zipIdx.map (fun (y, k) =>
        if ovr k then y else y + (v k * 256 - y) / (2 ^ s.pf p F.PANEL.FOLLOW_CFG_FOLLOW_SHIFT : Nat)) })
    if s.pf p F.PANEL.DOZE_CFG_APPROACH_COUNT ≤ cnt then s.approach p b mask f else s

/-! The end of a frame (R246, R263, R264) -/

/-- The front end of panel p is lost (R264). (log 135, DEDUCED) -/
def State.linkLoss (s : State) (p b : Nat) (f : TFrame) : State :=
  let q := panelPage p
  let s := (s.hit (144 + p) 1).intBit q 3
  let es := sortBy (fun a c => decide (a.2.id ≤ c.2.id)) ((s.panel p).contacts.map (fun c => (2, c)))
  let s := ((s.report p f b true es).setContacts p []).toReflex ⟨p, b, true, es, s.now⟩
  s.panelDown p 1 (s.now + 6144000)

/-- A frame that is not discarded. -/
def State.goodFrame (s : State) (p b : Nat) (f : TFrame) : State :=
  if f.self then s.dozeFrame p b f
  else
    let ys := f.ys.map samples
    let s := s.noiseLevels p ys
    let ms := nodeValues (s.groupL p) (s.pf p F.PANEL.PANEL_SIZE_ROWS) (s.pf p F.PANEL.PANEL_SIZE_COLS) (ys.drop (s.listens p))
    let doze := s.panelState p == 4
    let s := if s.panelState p = 2 then s.acquireFrame p ms else s.scanFrame p b f ms
    let s := s.noiseTest p b f.freq
    if doze ∧ (s.panel p).contacts.isEmpty = false then s.approach p b 0xFF f else s

/-- The engine finishes the frame of panel p whose slots have ended (R246). (log 128, DEDUCED) (log 132, DEDUCED) -/
def State.frameProcessed (s : State) (p : Nat) : State :=
  match (s.panel p).frame with
  | none => s
  | some f =>
    if f.next < f.n + 2 then s
    else
      let q := panelPage p
      let b := f.t0 + f.step + f.n * f.step / 2
      let s := (s.put64 q F.PANEL.LAST_B_LO b).modPanel p (fun x => { x with frame := none })
      if f.bad then
        let k := (s.panel p).bads + 1
        let s := (s.stat q 2).modPanel p (fun x => { x with bads := k })
        if s.pf p F.PANEL.FOLLOW_CFG_LOSS_FRAMES ≤ k then s.linkLoss p b f else s
      else (s.modPanel p (fun x => { x with bads := 0 })).goodFrame p b f

/-- The slot −1 tick of the next frame of panel p (R243): the page's apply point, then a restart that is due, or the
frame.  A frame whose slots have ended is finished first. (log 128, DEDUCED) -/
def State.frameStart (s : State) (p : Nat) : State :=
  let s := s.frameProcessed p
  let x := s.panel p
  match x.frame, x.nextAt with
  | none, some t =>
    let q := panelPage p
    let t := max t s.now
    let s := (s.waitTo t).applyPoint q t (s.pf p F.PANEL.FRAME_SEQ + 1)
    if s.enabled q = false ∨ s.panelState p = 1 then s
    else if s.pf p F.PANEL.PANEL_CMD_RESTART = 1 then s.panelRestart p t false
    else s.frameBegin p t
  | _, _ => s

end Sys2Proof.Machine
end

