-- ==== Sys2Proof/Machine/HapOps.lean ====
section
/-! DEFINITION. Haptic ports, effects, the limiter, triggers and faults, and the reflex table (R272–R304). -/

namespace Sys2Proof.Machine

/-! The sine table -/

/-- The first quarter of the sine table of R281: round(32,767 × sin(2π i / 1,024)) for i = 0 … 256. -/
def sineQuarter : List Nat :=
  [0, 201, 402, 603, 804, 1005, 1206, 1407, 1608, 1809, 2009, 2210, 2410, 2611, 2811, 3012] ++
  [3212, 3412, 3612, 3811, 4011, 4210, 4410, 4609, 4808, 5007, 5205, 5404, 5602, 5800, 5998, 6195] ++
  [6393, 6590, 6786, 6983, 7179, 7375, 7571, 7767, 7962, 8157, 8351, 8545, 8739, 8933, 9126, 9319] ++
  [9512, 9704, 9896, 10087, 10278, 10469, 10659, 10849, 11039, 11228, 11417, 11605, 11793, 11980, 12167, 12353] ++
  [12539, 12725, 12910, 13094, 13279, 13462, 13645, 13828, 14010, 14191, 14372, 14553, 14732, 14912, 15090, 15269] ++
  [15446, 15623, 15800, 15976, 16151, 16325, 16499, 16673, 16846, 17018, 17189, 17360, 17530, 17700, 17869, 18037] ++
  [18204, 18371, 18537, 18703, 18868, 19032, 19195, 19357, 19519, 19680, 19841, 20000, 20159, 20317, 20475, 20631] ++
  [20787, 20942, 21096, 21250, 21403, 21554, 21705, 21856, 22005, 22154, 22301, 22448, 22594, 22739, 22884, 23027] ++
  [23170, 23311, 23452, 23592, 23731, 23870, 24007, 24143, 24279, 24413, 24547, 24680, 24811, 24942, 25072, 25201] ++
  [25329, 25456, 25582, 25708, 25832, 25955, 26077, 26198, 26319, 26438, 26556, 26674, 26790, 26905, 27019, 27133] ++
  [27245, 27356, 27466, 27575, 27683, 27790, 27896, 28001, 28105, 28208, 28310, 28411, 28510, 28609, 28706, 28803] ++
  [28898, 28992, 29085, 29177, 29268, 29358, 29447, 29534, 29621, 29706, 29791, 29874, 29956, 30037, 30117, 30195] ++
  [30273, 30349, 30424, 30498, 30571, 30643, 30714, 30783, 30852, 30919, 30985, 31050, 31113, 31176, 31237, 31297] ++
  [31356, 31414, 31470, 31526, 31580, 31633, 31685, 31736, 31785, 31833, 31880, 31926, 31971, 32014, 32057, 32098] ++
  [32137, 32176, 32213, 32250, 32285, 32318, 32351, 32382, 32412, 32441, 32469, 32495, 32521, 32545, 32567, 32589] ++
  [32609, 32628, 32646, 32663, 32678, 32692, 32705, 32717, 32728, 32737, 32745, 32752, 32757, 32761, 32765, 32766] ++
  [32767]

/-- S[i] (R281). -/
def sine (i : Nat) : Int :=
  let k := i % 1024
  let q (n : Nat) : Int := (sineQuarter.getD n 0 : Nat)
  if k ≤ 256 then q k else if k ≤ 512 then q (512 - k) else if k ≤ 768 then -q (k - 512) else -q (1024 - k)

/-! Effect descriptors (R280, R282) -/

/-- Bytes of an effect: n bytes from byte i, little-endian. -/
def Effect.field (e : Effect) (i n : Nat) : Nat := bits e.d.toNat (8 * (i + n) - 1) (8 * i)

/-- The number of segments, and the fields of segment i. -/
def Effect.segs (e : Effect) : Nat := e.field 1 1
def Effect.kind (e : Effect) (i : Nat) : Nat := e.field (16 + 16 * i) 1
def Effect.amp (e : Effect) (i : Nat) : Nat := e.field (18 + 16 * i) 2
def Effect.freq (e : Effect) (i : Nat) : Nat := e.field (20 + 16 * i) 2
def Effect.count (e : Effect) (i : Nat) : Nat := e.field (24 + 16 * i) 4

/-- The next SUSTAIN after segment i. -/
def Effect.sustain (e : Effect) (i : Nat) : Option Nat :=
  (upto (i + 1) (e.segs - (i + 1))).find? (fun j => e.kind j == 2)

/-- The frequency of an overdrive or sustain segment (R282). -/
def Effect.driveFreq (e : Effect) (f0 i : Nat) : Nat :=
  if e.freq i ≠ 0 then e.freq i
  else match e.sustain i with
    | some j => e.freq j
    | none => f0

/-- The frequency of segment i (R282). -/
def Effect.segFreq (e : Effect) (f0 i : Nat) : Nat :=
  if e.kind i < 3 then e.driveFreq f0 i
  else if e.freq i ≠ 0 then e.freq i
  else if i = 0 then f0
  else e.driveFreq f0 (i - 1)

/-- The first byte of a descriptor that breaks R280. (log 151, DEDUCED) -/
def Effect.fault (e : Effect) : Option Nat :=
  let n := e.segs
  let zero (a k : Nat) : List Nat := (upto a k).filter (fun i => e.field i 1 != 0)
  let seg (i : Nat) : List Nat :=
    let a := 16 + 16 * i
    let k := e.kind i
    (if k = 0 ∨ 4 < k ∨ (3 ≤ k ∧ i + 1 ≠ n) then [a] else []) ++ zero (a + 1) 1
      ++ (if k ≠ 4 ∧ 32767 < e.amp i then [a + 2] else []) ++ (if k = 2 ∧ e.freq i = 0 then [a + 4] else [])
      ++ zero (a + 6) 2 ++ (if k ≠ 4 ∧ e.count i = 0 then [a + 8] else []) ++ zero (a + 12) 4
  ((if e.field 0 1 = 1 then [] else [0]) ++ (if n = 0 ∨ 7 < n then [1] else []) ++ zero 2 14
    ++ (upto 0 (min n 7)).flatMap seg ++ zero (16 + 16 * min n 7) (112 - 16 * min n 7)).head?

/-! The store (R279) -/

/-- A slot is in use. -/
def State.effInUse (s : State) (k : Nat) : Bool :=
  (upto 0 8).any (fun c =>
    (match (s.hch c).play with | some pl => pl.trig.slot == k | none => false)
      || (match (s.hch c).queued with | some t => t.slot == k | none => false))
    || s.reflex.any (fun e => bit e.2.toNat 31 && bit e.2.toNat 128 && bits e.2.toNat 148 144 == k)

/-- `STORE_RESULT` takes a result. -/
def State.storeResult (s : State) (reason arg : Nat) : State :=
  ((s.put hapPage F.HAP.STORE_RESULT_BUSY 0).put hapPage F.HAP.STORE_RESULT_REASON reason).put hapPage
    F.HAP.STORE_RESULT_ARG arg

/-- `STORE_CMD.LOAD` (R279, R295): the fetch starts, or the command is refused. (log 150, DEDUCED) -/
def State.storeLoad (s : State) : State :=
  let k := s.get hapPage F.HAP.STORE_SEL
  let a := s.get64 hapPage F.HAP.STORE_ADDR_LO % (1 <<< 40)
  let o := s.get hapPage F.HAP.STORE_OWNER
  if s.flag hapPage F.HAP.STORE_RESULT_BUSY then s
  else if a % 64 ≠ 0 then s.storeResult rAlign 0
  else if !(o == 1 || isTen o) then s.storeResult rRange 0
  else if s.bufOk 0x62 o false a 128 false = false then s.storeResult rBuffer 0
  else if s.effInUse k then s.storeResult rInUse 0
  else { s.put hapPage F.HAP.STORE_RESULT_BUSY 1 with effLoad := some (k, o, a) }

/-- `STORE_CMD.FREE`. -/
def State.storeFree (s : State) : State :=
  let k := s.get hapPage F.HAP.STORE_SEL
  if s.flag hapPage F.HAP.STORE_RESULT_BUSY then s
  else if s.effInUse k then s.storeResult rInUse 0
  else
    let v := s.get hapPage F.HAP.STORE_VALID
    (s.put hapPage F.HAP.STORE_VALID (if bit v k then v - 2 ^ k else v)).storeResult 0 0

/-- `STORE_CMD` (R295). (log 150, DEDUCED) -/
def State.storeCmd (s : State) (v : Word) : State :=
  let s := if bit v.toNat 0 then s.storeLoad else s
  if bit v.toNat 1 then s.storeFree else s

/-- The descriptor arrives (R279, R280). (log 151, DEDUCED) -/
def State.storeLoaded (s : State) : State :=
  match s.effLoad with
  | none => s
  | some (k, o, a) =>
    let s := { s with effLoad := none }
    match s.mread ⟨0x62, o, a, 128, false, false, false⟩ with
    | (s, none) => s.storeResult rBuffer 0
    | (s, some (d, _)) =>
      let e : Effect := ⟨o, BitVec.ofNat 1024 (bytesNat d)⟩
      match e.fault with
      | some i => s.storeResult 0x40 i
      | none =>
        let s := { s with effects := amSet (fun _ => ⟨0, 0⟩) s.effects k e }
        (s.put hapPage F.HAP.STORE_VALID (s.get hapPage F.HAP.STORE_VALID ||| 2 ^ k)).storeResult 0 0

/-! Triggers (R285–R288) -/

/-- The port of a channel. -/
def chanPort (c : Nat) : Nat := c / 4

/-- A trigger of channel c can act (R285). (log 144, DEDUCED) -/
def State.trigOk (s : State) (c slot : Nat) : Bool :=
  s.effValid slot && (s.effect slot).owner == s.owner (hchanPage c) && s.enabled (hchanPage c) && s.hchState c != 3
    && s.hptState (chanPort c) == 2

/-- A trigger reaches channel c (R285). (log 144, DEDUCED) -/
def State.trigger (s : State) (c : Nat) (t : Trig) : State :=
  if s.trigOk c t.slot then s.modHch c (fun x => { x with trigs := x.trigs ++ [t] }) else s.trigDrop c

/-- The state fields of channel c while an effect plays. -/
def State.showPlay (s : State) (c : Nat) : State :=
  match (s.hch c).play with
  | none => s
  | some pl =>
    let b := hchanPage c
    let st := if (s.effect pl.trig.slot).kind pl.seg < 3 then 1 else 2
    ((s.put b F.HCHAN.CHAN_STATE_STATE st).put b F.HCHAN.CHAN_STATE_SLOT pl.trig.slot).put b F.HCHAN.CHAN_STATE_SEGMENT pl.seg

/-- The merged overdrive of a new effect (R288). -/
def State.mergeOf (s : State) (c slot : Nat) : Option (Nat × Nat × Nat) :=
  let e := s.effect slot
  let full := max 1 (s.get (hchanPage c) F.HCHAN.VEL_V_FULL)
  let r := min ((s.hch c).env / 16) full
  ((upto 0 e.segs).find? (fun i => e.kind i == 1)).map (fun i =>
    let a := e.amp i
    let as := match e.sustain i with
      | some j => e.amp j
      | none => 0
    (i, if a < as then 0 else a - (a - as) * r / full, e.count i - e.count i * r / full))

/-- The first segment from i on that is not skipped (R288). -/
def segFrom (e : Effect) (m : Option (Nat × Nat × Nat)) (i : Nat) : Option Nat :=
  (upto i (e.segs - i)).find? (fun j => match m with
    | some (k, _, n) => !(k == j && n == 0)
    | none => true)

/-- An effect starts on channel c in the slot that begins at tick o (R286–R288). -/
def State.effectStart (s : State) (c : Nat) (t : Trig) (o : Nat) (merge : Bool) : State :=
  let b := hchanPage c
  let m := if merge then s.mergeOf c t.slot else none
  let s := (s.stat b 0).intBit b 0
  let s := if merge then s.stat b 1 else s
  let s := s.put64 b F.HCHAN.ONSET_TS_LO o
  let pl : Play := ⟨t, 0, 0, 0, 0, o, 0, m, 0, o⟩
  match segFrom (s.effect t.slot) m 0 with
  | some i => (s.modHch c (fun x => { x with play := some { pl with seg := i } })).showPlay c
  | none => (s.modHch c (fun x => { x with play := some pl })).effectEnd c 0

/-- The later of two triggers in arrival order (R286). -/
def Trig.after (a b : Trig) : Bool :=
  decide (b.tick < a.tick) || (a.tick == b.tick && (decide (b.src < a.src) || (a.src == b.src && decide (b.entry ≤ a.entry))))

/-- The trigger that takes effect acts by the channel's state (R287). -/
def State.trigAct (s : State) (c : Nat) (t : Trig) (o : Nat) : State :=
  let b := hchanPage c
  match s.hchState c with
  | 0 =>
    let s := if (s.hch c).queued.isSome then (s.dequeue c).trigDrop c else s
    s.effectStart c t o false
  | 1 => (s.effectEnd c 1).effectStart c t o true
  | 2 =>
    if s.get b F.HCHAN.CHAN_CFG = 1 then (s.effectEnd c 2).effectStart c t o true
    else
      let s := if (s.hch c).queued.isSome then s.trigDrop c else s
      (s.modHch c (fun x => { x with queued := some t })).put b F.HCHAN.CHAN_STATE_QUEUED 1
  | _ => s.trigDrop c

/-- A queued effect starts with the first sample after the brake (R287). -/
def State.queuedStarts (s : State) (c o : Nat) : State :=
  match (s.hch c).play, (s.hch c).queued with
  | none, some t => (s.dequeue c).effectStart c t o false
  | _, _ => s

/-- What takes effect on channel c in the frame that starts at tick P, whose slot starts at tick o (R286, R287):
triggers that arrived before the previous frame, or a queued effect. (log 144, DEDUCED) -/
def State.onset (s : State) (c p o : Nat) : State :=
  let x := s.hch c
  let due := x.trigs.filter (fun t => decide (t.tick + 12800 < p))
  let s := s.setHch c { x with trigs := x.trigs.filter (fun t => !decide (t.tick + 12800 < p)) }
  match due with
  | [] => s.queuedStarts c o
  | t :: l =>
    let last := l.foldl (fun a b => if b.after a then b else a) t
    let s := forL (fun _ s => s.trigDrop c) l s
    if s.trigOk c last.slot then s.trigAct c last o else (s.trigDrop c).queuedStarts c o

/-- `TRIGGER.STOP` (R287). -/
def State.trigStop (s : State) (c : Nat) : State :=
  let s := s.dequeue c
  match (s.hch c).play with
  | none => s
  | some pl =>
    let e := s.effect pl.trig.slot
    if 3 ≤ e.kind pl.seg then s
    else if 3 ≤ e.kind (e.segs - 1) then
      (s.modHch c (fun x => { x with play := some { pl with seg := e.segs - 1, n := 0, adv := 0 } })).showPlay c
    else s.effectEnd c 5

/-- `TRIGGER` of channel c (R296). -/
def State.trigWrite (s : State) (c : Nat) (v : Word) : State :=
  let s := if bit v.toNat 9 then s.trigStop c else s
  if bit v.toNat 8 then s.trigger c ⟨s.now, 0, bits v.toNat 4 0, 0⟩ else s

/-! Samples (R281–R284, R289, R290) -/

/-- The phase increment of a frequency (R281). -/
def phaseInc (f : Nat) : Nat := (f * 2 ^ 32 + 384000) / 768000

/-- The stream version in force on a channel's port. -/
def State.hapVer (s : State) (c : Nat) : Nat := s.get (hportPage (chanPort c)) F.HPORT.VER_STATUS_CHOSEN

/-- The amplitude and count in force of a segment. -/
def Play.amp (pl : Play) (e : Effect) (i : Nat) : Nat :=
  match pl.merged with
  | some (k, a, _) => if k = i then a else e.amp i
  | none => e.amp i
def Play.count (pl : Play) (e : Effect) (i : Nat) : Nat :=
  match pl.merged with
  | some (k, _, n) => if k = i then n else e.count i
  | none => e.count i

/-- The sample of the segment that plays (R281, R284). -/
def State.drive (s : State) (c : Nat) (pl : Play) : Int :=
  let e := s.effect pl.trig.slot
  let x := s.hch c
  let i := x.ph.toNat / 2 ^ 22
  let wave (a k : Nat) : Int := ((a : Int) * sine k + 64) / 128
  match e.kind pl.seg with
  | 3 => wave (pl.amp e pl.seg) (i ^^^ 512)
  | 4 =>
    if s.hapVer c = 2 then -((s.get (hchanPage c) F.HCHAN.BRAKE_GAIN : Int) * x.e * 4)
    else wave (if pl.seg = 0 then 0 else pl.amp e (pl.seg - 1)) (i ^^^ 512)
  | _ => wave (pl.amp e pl.seg) i

/-- The bound of a closed brake: its samples, and the result when it is reached (R284). (log 145, DEDUCED) -/
def State.brakeBound (s : State) (c : Nat) (count : Nat) : Nat × Nat :=
  let m := s.get (hchanPage c) F.HCHAN.BRAKE_MAX
  if count = 0 then (m, 1) else if m < count then (m, 2) else (count, 1)

/-- Whether the segment ends with the sample just generated (`n` samples and the phase advance since its start
included), and the brake result (R281, R284). An open brake is bounded by `BRAKE_MAX` too, so that the wait of a queued effect is (R287). (log 249, DEDUCED) -/
def State.segEnds (s : State) (c : Nat) (pl : Play) : Option Nat :=
  let e := s.effect pl.trig.slot
  match e.kind pl.seg with
  | 2 => if pl.count e pl.seg * 2 ^ 32 ≤ pl.adv then some 0 else none
  | 4 =>
    let b := s.brakeBound c (e.count pl.seg)
    if s.hapVer c = 2 then
      if (s.hch c).env / 16 < s.get (hchanPage c) F.HCHAN.VEL_VEL_THRESH then some 0
      else if b.1 ≤ pl.n then some b.2 else none
    else if b.1 ≤ pl.n then some 3 else none
  | 3 => if min (pl.count e pl.seg) (s.get (hchanPage c) F.HCHAN.BRAKE_MAX) ≤ pl.n then some 0 else none
  | _ => if pl.count e pl.seg ≤ pl.n then some 0 else none

/-- A brake has ended with a result: the counts of R296. (log 145, DEDUCED) -/
def State.brakeStat (s : State) (c : Nat) (pl : Play) (res : Nat) : State :=
  let e := s.effect pl.trig.slot
  if e.kind pl.seg = 3 then
    if s.get (hchanPage c) F.HCHAN.BRAKE_MAX < pl.count e pl.seg then s.stat (hchanPage c) 6 else s
  else if e.kind pl.seg ≠ 4 then s
  else if res = 0 then s.stat (hchanPage c) 5
  else if s.get (hchanPage c) F.HCHAN.BRAKE_MAX ≤ pl.n then s.stat (hchanPage c) 6
  else s

/-- The effect goes to its next segment; none when it has ended (R281). (log 147, DEDUCED) -/
def State.nextSeg (s : State) (pl : Play) : Option Play :=
  (segFrom (s.effect pl.trig.slot) pl.merged (pl.seg + 1)).map (fun i => { pl with seg := i, n := 0, adv := 0 })

/-- The new kinds of hit of a sample, in ascending order (R290). (log 148, DEDUCED) -/
def State.hapHits (s : State) (c hit : Nat) : State :=
  match (s.hch c).play with
  | none => s
  | some pl =>
    let s := forL (fun k s =>
      if bit hit k ∧ bit pl.hits k = false then
        ((s.hit (156 + c) (2 ^ k)).intBit (hchanPage c) 2).stat (hchanPage c) 2
      else s) (upto 0 4) s
    s.modHch c (fun x => { x with play := some { pl with hits := pl.hits ||| hit } })

/-- The energy limit (R289): the sample that leaves, and whether the mute has set. (log 146, DEDUCED) -/
def State.energy (s : State) (c : Nat) (d : Int) : State × Int × Bool :=
  let b := hchanPage c
  let x := s.hch c
  let budget := s.get b F.HCHAN.BUDGET
  let w := x.blk.foldl (· + ·) 0
  let q := ((d / 256) * (d / 256)).toNat
  let was := s.flag b F.HCHAN.CHAN_STATE_MUTED
  let m0 := was && !decide (w ≤ budget * 7 / 8 * 65536)
  let sets := !m0 && decide (budget * 65536 < w + q)
  let muted := m0 || sets
  let d := if muted then 0 else d
  let q := if muted then 0 else q
  let blk := x.blk.set x.blkI (x.blk.getD x.blkI 0 + q)
  let i := (x.blkI + 1) % 16
  let x := if x.blkN = 0 then { x with blk := blk.set i 0, blkI := i } else { x with blk := blk }
  let n := if s.get b F.HCHAN.ENERGY_BLOCK ≤ x.blkN + 1 then 0 else x.blkN + 1
  let s := (s.setHch c { x with blkN := n }).put b F.HCHAN.CHAN_STATE_MUTED (b2n muted)
  (s.put b F.HCHAN.ENERGY (sat 0xFFFFFFFF (x.blk.foldl (· + ·) 0 / 65536)), d, sets)

/-- The sample of an effect before the energy limit (R289): the state, the sample and the hits so far. (log 147, DEDUCED) -/
def State.limited (s : State) (c : Nat) : State × Int × Nat :=
  let b := hchanPage c
  match (s.hch c).play with
  | none => (s.modHch c (fun x => { x with odRun := 0 }), 0, 0)
  | some pl =>
    let od := (s.effect pl.trig.slot).kind pl.seg == 1
    let ovr := od && decide (s.get b F.HCHAN.OD_MAX ≤ (s.hch c).odRun)
    let s := s.modHch c (fun x => { x with odRun := if od then (if ovr then x.odRun else x.odRun + 1) else 0 })
    let hit := b2n ovr
    match (if ovr then s.nextSeg pl else some pl) with
    | none => ((s.hapHits c hit).effectEnd c 0, 0, 0)
    | some pl =>
      let s := s.modHch c (fun x => { x with play := some pl })
      if s.get b F.HCHAN.LEN_MAX ≤ pl.t then ((s.hapHits c (hit + 2)).effectEnd c 3, 0, 0)
      else
        let pk : Int := s.get b F.HCHAN.PEAK
        let d := s.drive c pl
        let e := iclamp (-pk) pk d
        (s, e, hit + (if e = d then 0 else 4))

/-- The effect of channel c has given a sample in the slot that starts at tick o: it advances (R281). (log 146, DEDUCED) -/
def State.advance (s : State) (c o : Nat) : State :=
  match (s.hch c).play with
  | none => s
  | some pl =>
    let e := s.effect pl.trig.slot
    let inc := phaseInc (e.segFreq (s.get (hchanPage c) F.HCHAN.F0) pl.seg)
    let pl := { pl with n := pl.n + 1, adv := pl.adv + inc, t := pl.t + 1, last := o }
    let s := s.modHch c (fun x => { x with ph := x.ph + BitVec.ofNat 32 inc, play := some pl })
    match s.segEnds c pl with
    | none => s.showPlay c
    | some res =>
      let s := s.brakeStat c pl res
      let pl := if e.kind pl.seg = 4 then { pl with brake := res } else pl
      match s.nextSeg pl with
      | some pl => (s.modHch c (fun x => { x with play := some pl })).showPlay c
      | none => (s.modHch c (fun x => { x with play := some pl })).effectEnd c 0

/-- Channel c in the frame that starts at tick P: its drive sample (R281–R290). -/
def State.chanFrame (s : State) (c p : Nat) (up : Bool) : State × Int :=
  if s.enabled (hchanPage c) = false then (s, 0)
  else
    let o := p + 1600 * (1 + c % 4)
    let s := if up then s.onset c p o else s.trigsLost c
    let r := if up ∧ s.hchState c ≠ 3 then s.limited c else (s, 0, 0)
    let g := r.1.energy c r.2.1
    let s := g.1.hapHits c (r.2.2 + 8 * b2n g.2.2)
    (if up ∧ (g.1.hchState c) ≠ 3 then s.advance c o else s, g.2.1)

/-- The velocity estimate of channel c from a sense word (R283). Each channel, an enabled one or not. (log 250, DEDUCED) -/
def State.sense (s : State) (c : Nat) (w : Word) : State :=
  let i := sext 16 (w.toNat / 65536)
  let v := sext 16 w.toNat
  let e := v - ((s.get (hchanPage c) F.HCHAN.RCOIL : Int) * i + 2048) / 4096
  let env : Int := (s.hch c).env
  s.setEnv c e (env + ((e.natAbs * 16 : Nat) - env) / 32).toNat

/-! Faults (R291, R292) -/

/-- Channel c enters FAULT. -/
def State.chanFault (s : State) (c arg : Nat) : State :=
  let b := hchanPage c
  if s.enabled b = false ∨ s.hchState c = 3 then s
  else
    let s := ((s.hit (164 + c) arg).intBit b 3).stat b 4
    ((s.effectEnd c 4).dequeue c).put b F.HCHAN.CHAN_STATE_STATE 3

/-- The port of channel c is DOWN under R277: the fault is raised for each enabled channel, one that is in FAULT too. -/
def State.chanLost (s : State) (c : Nat) : State :=
  if s.enabled (hchanPage c) ∧ s.hchState c = 3 then s.hit (164 + c) 2 else s.chanFault c 2

/-- `HAP_FAULT_N[p]` changes level (R292). -/
def State.faultPin (s : State) (p : Nat) (low : Bool) : State :=
  let b := hportPage p
  let s := s.put b F.HPORT.PORT_STATE_FAULT_PIN (b2n low)
  if low then forL (fun c s => s.chanFault c 0) (portChans p) (if s.enabled b then s.intBit b 2 else s) else s

/-- `CHAN_CMD.CLEAR` (R292). -/
def State.chanClear (s : State) (c : Nat) : State :=
  let q := hportPage (chanPort c)
  if s.hchState c = 3 ∧ s.flag q F.HPORT.PORT_STATE_FAULT_PIN = false
      ∧ bit (s.get q F.HPORT.PORT_STATE_STATUS_FAULT) (c % 4) = false ∧ s.hptState (chanPort c) = 2 then
    (s.put (hchanPage c) F.HCHAN.CHAN_STATE_STATE 0).modHch c (fun x => { x with ph := 0 })
  else s

/-- `HAP_EN[c]` (R291). -/
def State.hapEn (s : State) (c : Nat) : Bool :=
  s.enabled (hchanPage c) && s.hchState c != 3 && s.hptState (chanPort c) == 2

/-! Ports (R273–R278) -/

/-- The check of a control word (R274). -/
def hapCrc : CrcCfg := ⟨8, 0x07, 0xFF, 0, false, false⟩
def ctlCheck (v : Nat) : Nat := crc hapCrc [bits v 31 24, bits v 23 16, bits v 15 8]

/-- A control word (R274). -/
def ctlWord (code data : Nat) : Word :=
  let v := code * 0x10000000 + data * 256
  BitVec.ofNat 32 (v + ctlCheck v)

/-- The code and data of a good control word (R274). -/
def ctlRead (w : Word) : Option (Nat × Nat) :=
  let v := w.toNat
  if bits v 7 0 = ctlCheck v ∧ bits v 27 24 = 0 ∧ bits v 31 28 ≤ 4 then some (bits v 31 28, bits v 23 8) else none

/-- The outcome of a negotiation in the registers of R97. -/
def State.hptVer (s : State) (p : Nat) (v : Ver) : State :=
  let b := hportPage p
  let s := ((s.put b F.HPORT.VER_STATUS_REASON v.reason).put b F.HPORT.VER_STATUS_PEER_MAX v.peerMax).put b
    F.HPORT.VER_STATUS_PEER_MIN v.peerMin
  let s := ((s.put b F.HPORT.VER_STATUS_CHOSEN v.chosen).put b F.HPORT.VER_FEATURES_PEER v.peerFeat).put b
    F.HPORT.VER_FEATURES_AGREED v.agreed
  s.put64 b F.HPORT.VER_TS_LO v.ts

/-- The level of `HAP_FS` in bit k of a frame's 256 (R273). -/
def hapFs (long : Bool) (k : Nat) : Bool := if long then decide (k < 128) else k == 255

/-- A frame on the wires, one entry for each bit clock: `HAP_FS` and `HAP_DO`, most significant bit first (R273). -/
def hapLine (long : Bool) (words : List Word) : List (Bool × Bool) :=
  (upto 0 256).map (fun k => (hapFs long k, bit (words.getD (k / 32) 0).toNat (31 - k % 32)))

/-- The last frame of port p on its wires. -/
def State.hapWire (s : State) (p : Nat) : List (Bool × Bool) :=
  hapLine (s.get (hportPage p) F.HPORT.PORT_CFG_FS_LONG == 1) (s.hpt p).tx

/-- The port negotiates with a peer (R98, R275). (log 141, DEDUCED) -/
def State.hptNegotiate (s : State) (p pmin pmax pfeat : Nat) : State × Bool :=
  let v := negotiateW (s.hpt p).loc
    pmin pmax pfeat (fun v => if v = 2 then 1 else 0) s.now
  (s.hptVer p v, v.reason == 0)

/-- The data of the SELECT that the port sends. -/
def State.selectData (s : State) (p : Nat) : Nat :=
  s.get (hportPage p) F.HPORT.VER_STATUS_CHOSEN * 256 + s.get (hportPage p) F.HPORT.VER_FEATURES_AGREED % 256

/-- Port p enters DOWN; the next restart starts at tick t (R276, R277). -/
def State.hptDown (s : State) (p cause t : Nat) : State :=
  let b := hportPage p
  (((s.put b F.HPORT.PORT_STATE_STATE 3).put b F.HPORT.PORT_STATE_DOWN_CAUSE cause).intBit b 1).modHpt p
    (fun x => { x with rst := none, retryAt := some t })

/-- Port p becomes UP (R276). At version 1, e and env are 0 (R283). -/
def State.hptUp (s : State) (p : Nat) : State :=
  let b := hportPage p
  let s := (((s.put b F.HPORT.PORT_STATE_STATE 2).put b F.HPORT.PORT_STATE_DOWN_CAUSE 0).intBit b 0).modHpt p
    (fun x => { x with rst := none, silent := 0 })
  if s.get b F.HPORT.VER_STATUS_CHOSEN = 1 then forL (fun c s => s.setEnv c 0 0) (portChans p) s else s

/-- What a restart decides before its frame n (R276). (log 141, DEDUCED) -/
def State.hptBefore (s : State) (p : Nat) : State :=
  let x := s.hpt p
  match x.rst with
  | none => s
  | some (t0, n, none) =>
    match x.rxA, x.rxB with
    | some a, some f =>
      let r := s.hptNegotiate p (a / 256) (a % 256) f
      if r.2 then r.1.modHpt p (fun x => { x with rst := some (t0, n, some n) }) else r.1.hptDown p 1 (t0 + 6144000)
    | _, _ =>
      if n < 64 then s
      else
        let r := s.hptNegotiate p 1 1 0
        if r.2 then r.1.hptUp p else r.1.hptDown p 1 (t0 + 6144000)
  | _ => s

/-- The control word of a frame. -/
def State.hptWord (s : State) (p : Nat) : Word :=
  let v := (s.hpt p).loc.toNat
  match (s.hpt p).rst with
  | some (_, _, some _) => ctlWord 3 (s.selectData p)
  | some (_, n, none) =>
    if n % 2 = 0 then ctlWord 1 (bits v 7 0 * 256 + bits v 15 8)
    else ctlWord 2 (bits v 31 16)
  | none => ctlWord 0 0

/-- A word received in slot 0 of a restart's frame (R276). (log 141, DEDUCED) -/
def State.hptGreet (s : State) (p : Nat) (w : Option (Nat × Nat)) : State :=
  match (s.hpt p).rst with
  | none => s
  | some (t0, n, sel) =>
    let s := s.modHpt p (fun x => { x with rst := some (t0, n + 1, sel) })
    let s := match w with
      | some (1, d) => s.modHpt p (fun x => { x with rxA := some d })
      | some (2, d) => s.modHpt p (fun x => { x with rxB := some d })
      | _ => s
    match sel with
    | none => s
    | some f =>
      if w = some (3, s.selectData p) then s.hptUp p
      else if f + 7 ≤ n then s.hptDown p 2 (t0 + 6144000)
      else s

/-- A word received in slot 0 of a port that is UP at version 2 (R277, R292). -/
def State.hptStatus (s : State) (p : Nat) (w : Option (Nat × Nat)) : State :=
  let b := hportPage p
  let needs := bit (s.get b F.HPORT.VER_FEATURES_AGREED) 0
  let good := match w with
    | some (c, _) => !needs || c == 4
    | none => false
  let s := match w with
    | some (4, d) =>
      let s := s.put b F.HPORT.PORT_STATE_STATUS_FAULT (d % 16)
      forL (fun c (s : State) => if bit d (c % 4) then s.chanFault c 1 else s) (portChans p) s
    | _ => s
  let k := if good then 0 else (s.hpt p).silent + 1
  let s := s.modHpt p (fun x => { x with silent := k })
  if k < 16 then s
  else forL (fun c (s : State) => s.chanLost c) (portChans p) (s.hptDown p 3 (s.now + 6144000))

/-- Port p stops its clocks in STANDBY (R278): two frames of zeros, then none. -/
def State.hptStandby (s : State) (p : Nat) : State :=
  match (s.hpt p).stopping with
  | some (k + 1) => s.modHpt p (fun x => { x with stopping := some k })
  | some 0 =>
    (s.modHpt p (fun x => { x with stopping := none, stopped := true, nextAt := none, rst := none, retryAt := none })).put
      (hportPage p) F.HPORT.PORT_STATE_STATE 0
  | none => s

/-- The STANDBY entry asks port p to stop (R27, R278). -/
def State.hptMustStop (s : State) (p : Nat) : Bool :=
  s.flag (hportPage p) F.HPORT.PORT_CFG_STOP_IN_STANDBY && (match s.stby with
    | .entry 3 _ => true
    | _ => false)

/-- A frame of port p with the words received in its slots (R273, R276, R277, R283). (log 140, DEDUCED) -/
def State.hapFrame (s : State) (p : Nat) (rx : List Word) : State :=
  let b := hportPage p
  match (s.hpt p).nextAt with
  | none => s
  | some t =>
    let s := s.waitTo t
    let s := if s.hptMustStop p ∧ (s.hpt p).stopping.isNone then
        (s.portEnds p).modHpt p (fun x => { x with stopping := some 2 })
      else s
    let s := s.hptStandby p
    if (s.hpt p).stopped then s
    else
      let s := if s.get b F.HPORT.PORT_CMD = 1 then s.hptRestart p else s
      let s := (s.inc b F.HPORT.FRAME_SEQ).stat b 0
      let s := s.modHpt p (fun x => { x with nextAt := some (t + 12800) })
      let s := s.hptBefore p
      let up := s.hptState p == 2 && (s.hpt p).stopping.isNone
      let v2 := s.get b F.HPORT.VER_STATUS_CHOSEN == 2
      let ctl := s.hptWord p
      let r := forL (fun c (a : State × List Word) =>
        let g := a.1.chanFrame c t up
        (g.1, a.2 ++ [BitVec.ofNat 32 (uenc 24 g.2 * 256)])) (portChans p) (s, [])
      let s := r.1.modHpt p (fun x => { x with tx := ctl :: r.2 ++ [0, 0, 0] })
      let w := ctlRead (rx.getD 0 0)
      if s.hptState p = 2 ∧ v2 = false then s
      else
        let s := if w.isNone then s.stat b 1 else s
        if s.hptState p = 3 then s
        else if up then
          let s := if w.isSome then
              forL (fun c s => s.sense c (rx.getD (1 + c % 4) 0)) (portChans p) s
            else s
          s.hptStatus p w
        else s.hptGreet p w

/-- A restart of port p that is due runs a frame for each list of received words (R276). -/
def State.hptRun (s : State) (p : Nat) (rxs : List (List Word)) : State :=
  forL (fun rx s => if s.hptState p = 1 then s.hapFrame p rx else s) rxs s

/-- The retry of port p (R276). (log 142, DEDUCED) -/
def State.hptRetry (s : State) (p : Nat) : State :=
  match (s.hpt p).retryAt with
  | some t => (s.waitTo t).hptRestart p
  | none => s

/-- A port stopped in STANDBY restarts (R29, R278). -/
def State.hptWake (s : State) (p : Nat) : State := if (s.hpt p).stopped then s.hptRestart p else s

/-! The reflex table (R299–R303) -/

/-- A start reaches audio trigger line k at tick t (R302, R329). -/
def State.lineStart (s : State) (k t : Nat) : State := { s with lineStarts := s.lineStarts ++ [(t, k)] }

/-- An action of entry i whose resource has another owner is skipped, and the entry is revoked (R303). (log 152, DEDUCED) -/
def State.reflexRevoke (s : State) (i owner code panel b : Nat) (c : Contact) : State :=
  let w := s.rflx i
  let s := { s with reflex := amSet (fun _ => 0) s.reflex i (w &&& ~~~(0x80000000 : BitVec 192)) }
  let s := s.jrecTo owner 0x000D reflexPage s.now
    (jpay [(16, 1, i), (17, 1, panel), (18, 1, code), (19, 1, 0xFF), (20, 2, c.x), (22, 2, c.y), (24, 8, b)])
  (s.intBit reflexPage 1).stat reflexPage 1

/-- One action of entry i (R302, R303): its owner check code, whether the resource has the owner, whether it is
enabled, and what it does. -/
def State.reflexAct (s : State) (i owner panel b code : Nat) (c : Contact) (mine on : Bool) (f : State → State) : State :=
  if mine = false then s.reflexRevoke i owner code panel b c
  else if on = false then s.stat reflexPage 2
  else f s

/-- The actions of entry i with words w for an event of contact c (R302). -/
def State.reflexRun (s : State) (i : Nat) (w : Nat) (q : RflxFrame) (c : Contact) : State :=
  let o := bits w 107 96
  let act (k : Nat) : Bool := bit w (128 + k)
  let ch := bits w 138 136
  let ef := bits w 148 144
  let lay := bits w 175 172
  let hd := bits w 170 168
  let ear := bits w 165 160
  let m := s.now
  let s := (s.intBit reflexPage 0).stat reflexPage 0
  let s := if act 0 then
      s.reflexAct i o q.panel q.b (if s.owner (hchanPage ch) = o then 3 else 2) c
        (s.owner (hchanPage ch) == o && (s.effect ef).owner == o) (s.enabled (hchanPage ch))
        (fun s => s.trigger ch ⟨m + 16, 2, ef, i⟩)
    else s
  let s := if act 1 then
      s.reflexAct i o q.panel q.b 4 c (s.get aengPage (F.AENG.TRIG_OWNER.at ear) == o) (s.enabled aengPage)
        (fun s => s.lineStart ear (m + 16))
    else s
  let s := if act 2 then
      s.reflexAct i o q.panel q.b 5 c (s.owner (layerPage hd lay) == o) (s.enabled (layerPage hd lay))
        (fun s => s.reflexToggle hd lay)
    else s
  if act 3 then
    s.jrecTo o 0x000D reflexPage m (jpay [(16, 1, i), (17, 1, q.panel), (18, 1, c.id), (19, 1, bits w 25 24),
      (20, 2, c.x), (22, 2, c.y), (24, 8, q.b)])
  else s

/-- One event against entry i (R301). -/
def State.reflexEvent (s : State) (i w : Nat) (q : RflxFrame) (ev : Nat) (c : Contact) : State :=
  let inside := decide (bits w 47 32 ≤ c.x) && decide (c.x < bits w 79 64) && decide (bits w 63 48 ≤ c.y)
    && decide (c.y < bits w 95 80)
  let armed := amGet (fun _ => 0) s.reflexArm i
  let setArm (s : State) (b : Bool) : State :=
    let m := if bit armed c.id then armed - 2 ^ c.id else armed
    { s with reflexArm := amSet (fun _ => 0) s.reflexArm i (m + b2n b * 2 ^ c.id) }
  match bits w 25 24 with
  | 0 => if ev = 0 ∧ inside then s.reflexRun i w q c else s
  | 1 => if ev = 2 ∧ inside ∧ q.lost = false then s.reflexRun i w q c else s
  | _ =>
    let on := if ev = 0 then inside else bit armed c.id && inside
    if on ∧ ev = 1 ∧ bits w 15 0 * 614400 ≤ q.b - c.downB then (setArm s false).reflexRun i w q c
    else setArm s on

/-- The table evaluates the frame that has waited longest (R301). (log 153, DEDUCED) -/
def State.reflexEvaluate (s : State) : State :=
  match s.reflexQ with
  | [] => s
  | q :: rest =>
    let s := { s with reflexQ := rest }
    if s.enabled reflexPage = false then s
    else forL (fun (e : Nat × BitVec 192) s =>
      let w := e.2.toNat
      if bit w 31 ∧ bits w 27 26 = q.panel then
        forL (fun (v : Nat × Contact) s => s.reflexEvent e.1 w q v.1 v.2) q.evs s
      else s) s.reflex s

end Sys2Proof.Machine
end

