-- ==== Sys2Proof/Machine/AudOps.lean ====
section
/-! DEFINITION. The audio engine: sample boundaries and markers, the sample program, TDM ports, rate converters, program
banks, gain units, ducking, players, trigger lines and meters (R305–R335). -/

namespace Sys2Proof.Machine

/-! Numbers (R306, R308) -/

/-- Saturation to n bits. -/
def satBits (n : Nat) (x : Int) : Int := iclamp (-(2 ^ (n - 1) : Nat)) ((2 ^ (n - 1) : Nat) - 1) x

/-- rnd of R306. -/
def rnd48 (acc : Int) : Int := satBits 48 (asr (acc + 2 ^ 43) 44)

/-- A slot of b bits in, and a value out (R308). -/
def slotIn (b v : Nat) : Int := sext b v * (2 ^ (45 - b) : Nat)
def slotOut (b : Nat) (y : Int) : Nat := uenc b (satBits b (asr (y + (2 ^ (44 - b) : Nat)) (45 - b)))

/-- A value at step k of 96 of a ramp (R311). -/
def ramp96 (y : Int) (k : Nat) : Int := (y * k + 48) / 96

/-- The first multiple of n at or after `now` and after `last`. -/
def nextMult (n last now : Nat) : Nat := max (cdiv now n) (last / n + 1) * n

/-! Converters (R312–R314) -/

/-- A converter's step per output, 32.32 (R314). -/
def convStep (n est : Nat) : Nat := if n % 2 = 0 then 6400 * 2 ^ 48 / max 1 est else est * 2 ^ 16 / 6400

/-- The table C (R314). -/
def convCoef (ph k : Nat) : Int := sext 24 (Config.asrcCoef ph k).toNat

/-- The index of the newest input frame that can be used at tick t. -/
def ConvSt.newest (c : ConvSt) (t : Nat) : Int :=
  (c.cnt : Int) - 1 - ((c.hist.filter (fun e => decide (t < e.1))).length : Nat)

/-- Input sample i of a slot; 0 for one that is not held. (log 158, DEDUCED) -/
def ConvSt.x (c : ConvSt) (i : Int) (slot : Nat) : Int :=
  let k := (c.cnt : Int) - 1 - i
  if k < 0 then 0 else match c.hist[k.toNat]? with
    | some e => e.2.getD slot 0
    | none => 0

/-- The output of a locked converter at position pos for one slot (R314). (log 158, DEDUCED) -/
def ConvSt.filter (c : ConvSt) (pos : Int) (slot : Nat) : Int :=
  let i := asr pos 32
  let f := (pos % (2 ^ 32 : Nat)).toNat
  let ph := f / 2 ^ 25
  let w := f / 2 ^ 9 % 65536
  let acc := (upto 0 64).foldl (fun a k =>
    a + (convCoef ph k * (65536 - w : Nat) + convCoef (ph + 1) k * (w : Nat)) * c.x (i - (k : Nat)) slot) 0
  satBits 48 (asr (acc + 2 ^ 38) 39)

/-- A frame joins a converter's input; it can be used from tick `t`. -/
def State.convPush (s : State) (n t : Nat) (l : List Int) : State :=
  let c := s.conv n
  s.setConv n { c with hist := ((t, l) :: c.hist).take 160, cnt := c.cnt + 1 }

/-- The outputs of converter n at tick t for its slots (R312, R314). -/
def State.convOut (s : State) (n t slots : Nat) : State × List Int :=
  let c := s.conv n
  match s.convState n with
  | 1 => (s, (upto 0 slots).map (c.x (c.newest t)))
  | 3 =>
    let pos := match c.pos with
      | none => (c.newest t - 32) * (2 ^ 32 : Nat)
      | some q => q + (convStep n (s.get asrcPage (F.ASRC.ASRC_EST.at n)) : Nat)
    let k := if c.ramp < 96 then c.ramp + 1 else 96
    (s.setConv n { c with pos := some pos, ramp := k },
      (upto 0 slots).map (fun i => if c.ramp < 96 then ramp96 (c.filter pos i) k else c.filter pos i))
  | _ => (s, (upto 0 slots).map (fun _ => 0))

/-- The lock state of converter n after a frame error (R313). -/
def State.convLock (s : State) (n : Nat) (err : Int) : State :=
  let cfg := (s.rd (asrcPage + 0x100 + 4 * n)).toNat
  let tol := cfg % 2 ^ 24
  let c := s.conv n
  let good := if err.natAbs ≤ tol then c.good + 1 else 0
  let s := s.setConv n { c with good := good }
  let s := if s.convState n = 2 ∧ cfg / 2 ^ 24 ≤ good then
      (s.setConvState n 3).setConv n { s.conv n with pos := none, ramp := 0 }
    else s
  if s.convState n = 3 ∧ 4 * tol < err.natAbs then
    (((s.setConvState n 2).setConv n { s.conv n with good := 0 }).stat asrcPage n).hit (177 + n) 0
  else s

/-- The estimator of a slave port at an edge, P ticks × 2^16 after the one before (R313). (log 157, DESIGN CHOICE) -/
def State.estimate (s : State) (p P : Nat) (first : Bool) : State :=
  let ns := [2 * p, 2 * p + 1]
  let est := F.ASRC.ASRC_EST
  if first then
    let s := forL (fun n s =>
      (s.put asrcPage (est.at n) P).setConvState n 2 |>.setConv n { s.conv n with good := 0 }) ns s
    forL (fun n s => s.convLock n 0) ns s
  else
    forL (fun n s =>
      let e := s.get asrcPage (est.at n)
      let err : Int := (P : Int) - e
      (s.put asrcPage (est.at n) (uenc 32 ((e : Int) + asr err 6))).convLock n err) ns s

/-! Frames of a port (R307–R311) -/

/-- The STANDBY entry asks port p to fade out (R27, R311). -/
def State.aportMustStop (s : State) (p : Nat) : Bool :=
  s.af p F.APORT.PORT_CFG_STOP_IN_STANDBY == 1 && (match s.stby with
    | .entry 3 _ => true
    | _ => false)

/-- The output slots of a frame: the fade of R311, and R308. -/
def State.aportSend (s : State) (p : Nat) (ys : List Int) : State :=
  let x := s.aport p
  let fade := if s.aportMustStop p ∧ x.fade = .run then .down 1 else x.fade
  let zero := ys.map (fun _ => (0 : Int))
  let r : AFade × List Int := match fade with
    | .run => (.run, ys)
    | .down k => (if 96 ≤ k then .zeros 1 else .down (k + 1), ys.map (fun y => ramp96 y (96 - k)))
    | .zeros k => (if 2 ≤ k then .stopped else .zeros (k + 1), zero)
    | .stopped => (.stopped, zero)
    | .up k => (if 96 ≤ k then .run else .up (k + 1), ys.map (fun y => ramp96 y k))
  let out := if s.enabled aengPage && s.mode != .safe then r.2 else zero
  let s := s.setAport p { x with fade := r.1, tx := out.map (slotOut (s.slotBits p)) }
  if r.1 = .stopped then s.put (aportPage p) F.APORT.PORT_STATE 3 else s

/-- A frame of a port on its wires, one entry for each bit clock from the start of the frame's data: `AUD_FS` and
`AUD_DO` (R307).  `w` is the slot width, n the bit clocks. -/
def tdmLine (i2s long : Bool) (delay w n : Nat) (slots : List Nat) : List (Bool × Bool) :=
  (upto 0 n).map (fun k =>
    let half := n / 2
    let fs := if i2s then decide (half ≤ (k + 1) % n) else decide ((k + delay) % n < (if long then w else 1))
    let at' := if i2s then (k / half, k % half) else (k / w, k % w)
    (fs, decide (at'.2 < w) && decide (at'.1 < slots.length) && bit (slots.getD at'.1 0) (w - 1 - at'.2)))

/-- The slots that a frame of received bits carries; the remaining bit clocks are ignored (R307). -/
def tdmSlots (i2s : Bool) (w n slots : Nat) (line : List Bool) : List Nat :=
  (upto 0 slots).map (fun i =>
    let a := if i2s then i * (n / 2) else i * w
    (upto 0 w).foldl (fun v k => 2 * v + b2n (line.getD (a + k) false)) 0)

/-- The last frame of port p on its wires. -/
def State.tdmWire (s : State) (p : Nat) : List (Bool × Bool) :=
  tdmLine (s.af p F.APORT.PORT_CFG_FRAMING == 1) (s.af p F.APORT.PORT_CFG_FS_LONG == 1) (s.af p F.APORT.PORT_CFG_DELAY)
    (s.slotBits p) (s.af p F.APORT.PORT_CFG_FRAME_BITS) (s.aport p).tx

/-- Whether port p launches data on the rising edge of BCLK, and samples on the falling one (R307). -/
def State.tdmInverted (s : State) (p : Nat) : Bool := s.af p F.APORT.PORT_CFG_BCLK_INV == 1

/-- The root cycles of a bit, and those for which BCLK is high (R309). -/
def State.tdmBit (s : State) (p : Nat) : Nat × Nat :=
  let d := (if s.af p F.APORT.PORT_CFG_RATE = 1 then 25600 else 51200) / s.af p F.APORT.PORT_CFG_FRAME_BITS
  (d, cdiv d 2)

/-- A frame counts. -/
def State.aportCount (s : State) (p : Nat) : State := (s.inc (aportPage p) F.APORT.FRAME_SEQ).stat (aportPage p) 0

/-- Input slots as values. -/
def State.aportIn (s : State) (p : Nat) (slots : List Nat) : List Int :=
  (upto 0 (s.slotsIn p)).map (fun i => slotIn (s.slotBits p) (slots.getD i 0))

/-- A frame of a master port starts on its aligned tick (R309): `slots` is what it receives. -/
def State.masterFrame (s : State) (p : Nat) (slots : List Nat) : State :=
  if s.af p F.APORT.PORT_STATE ≠ 1 ∨ s.af p F.APORT.PORT_CFG_ROLE = 1 then s
  else
    let s := s.waitTo (nextMult (s.frameT p) (s.aport p).last s.now)
    let t := s.now
    let s := (s.setAport p { s.aport p with last := t }).aportCount p
    let s := s.convPush (2 * p) (t + s.frameT p) (s.aportIn p slots)
    let r := s.convOut (2 * p + 1) t (s.slotsOut p)
    r.1.aportSend p r.2

/-- A record of `AUD` port p (R335). -/
def State.aportRec (s : State) (p event stamp : Nat) : State :=
  s.jrecOwn 0x000E (aportPage p) stamp (jpay [(16, 1, event), (17, 1, p)])

/-- No FS edge has arrived for 4 × F_T (R313). (log 159, DEDUCED) -/
def State.clockLoss (s : State) (p : Nat) : State :=
  let b := aportPage p
  let st := s.af p F.APORT.PORT_STATE
  if (st = 1 ∨ st = 3) ∧ s.af p F.APORT.PORT_CFG_ROLE = 1 then
    let t := (s.aport p).last + 4 * s.frameT p
    let s := (s.waitTo t).put b F.APORT.PORT_STATE 2
    let s := forL (fun n s => s.setConvState n 0) [2 * p, 2 * p + 1] s
    let s := s.setAport p { s.aport p with edge := false }
    (((s.hit (173 + p) 0).intBit b 0).stat b 2).aportRec p 1 t
  else s

/-- An edge that comes 4 frames after the last one or later finds the loss of R309 first (R10). -/
def State.edgeLate (s : State) (p : Nat) : State :=
  if (s.aport p).edge ∧ (s.aport p).last + 4 * s.frameT p ≤ s.now then s.clockLoss p else s

/-- An FS edge of a slave port (R309, R313): the frame that it ends had `n` bit clocks and carried `slots`. (log 157, DESIGN CHOICE) -/
def State.fsEdge (s : State) (p n : Nat) (slots : List Nat) : State :=
  let s := s.edgeLate p
  let b := aportPage p
  let st := s.af p F.APORT.PORT_STATE
  if st = 0 ∨ s.af p F.APORT.PORT_CFG_ROLE = 0 then s
  else
    let x := s.aport p
    let t := s.now
    let s := if st = 2 then ((s.put b F.APORT.PORT_STATE 1).intBit b 1).aportRec p 2 t else s
    let fresh := st ≠ 2 ∧ x.edge = false
    let P := if fresh then s.free.toNat % 2 ^ 32 else (t - x.last) * 65536
    let s := if fresh then s.tookFree else s
    let s := s.setAport p { s.aport p with last := t, edge := true }
    let s := if x.edge then
        let ok := n == s.af p F.APORT.PORT_CFG_FRAME_BITS
        let s := if ok then s else s.stat b 1
        s.convPush (2 * p) t (s.aportIn p (if ok then slots else []))
      else s
    let s := (s.estimate p P (!x.edge)).aportCount p
    let r := s.convOut (2 * p + 1) t (s.slotsOut p)
    r.1.aportSend p r.2

/-- A port stopped in STANDBY starts again (R311). (log 171, DEDUCED) -/
def State.aportWake (s : State) (p : Nat) : State :=
  if (s.aport p).fade = .run then s
  else
    let s := (s.put (aportPage p) F.APORT.PORT_STATE 1).setAport p { s.aport p with fade := .up 1 }
    forL (fun n s => s.setConv n { s.conv n with pos := none }) [2 * p, 2 * p + 1] s

/-! Program banks (R320, R321) -/

/-- n bytes of an image from byte i, little-endian. -/
def imgField (d : List Byte) (i n : Nat) : Nat := bytesNat ((d.drop i).take n)

/-- Whether an opcode reads operand B. -/
def readsB (op : Nat) : Bool := op == 1 || op == 2 || op == 0x0A || op == 0x0D

/-- An instruction is invalid in a bank with so many rings and coefficients (R321). (log 164, DEDUCED) -/
def instrBad (rings coefs : Nat) (w : Nat) : Bool :=
  let op := bits w 63 58
  let imm := bits w 11 0
  decide (0x12 < op) || bits w 52 51 == 3 || bits w 50 49 == 3 || (bit w 41 && decide (rings ≤ bits w 47 42))
    || (readsB op && !bit w 48 && decide (coefs ≤ bits w 24 12))
    || (match op with
      | 0x03 => decide (127 < imm)
      | 0x09 => decide (63 < imm)
      | 0x0E => decide (60 < imm)
      | 0x0F => decide (60 < imm)
      | 0x10 => decide (15 < imm)
      | 0x11 => decide (28 < imm)
      | _ => false)

/-- The byte offsets of the faults of an image of n bytes (R320, R321). (log 155, DEDUCED) (log 165, DEDUCED) -/
def bankFaults (n : Nat) (d : List Byte) : List Nat :=
  let f := imgField d
  let pl := f 6 2
  let cc := f 8 2
  let rc := f 10 1
  let zc := f 11 1
  let fo := f 12 1
  let fi := f 13 1
  let off (k : Nat) : Nat := f (16 + 4 * k) 4
  let lens := [128, 128, 8 * rc, 4 * zc, fo + fi, 8 * pl, 8 * cc]
  let at' (l : List Nat) (bad : Nat → Bool) : List Nat := l.filter bad
  let zero (a k : Nat) : List Nat := at' (upto a k) (fun i => f i 1 != 0)
  let head := (if f 0 4 = 0x4B4E4241 then [] else [0]) ++ (if f 4 1 = 1 then [] else [4]) ++ zero 5 1
    ++ (if pl = 0 ∨ 3200 < pl then [6] else []) ++ (if 8192 < cc then [8] else []) ++ (if 64 < rc then [10] else [])
    ++ (if 32 < zc then [11] else []) ++ (if 128 < fo then [12] else []) ++ (if 128 < fi then [13] else []) ++ zero 14 2
    ++ (upto 0 7).filterMap (fun k => if off k % 8 ≠ 0 ∨ n < off k + lens.getD k 0 then some (16 + 4 * k) else none)
    ++ zero 44 20
  if head.isEmpty = false ∨ n < 64 then 64 :: head
  else
    let snk (i : Nat) : Nat := f (off 1 + 2 * i) 2
    let map (k : Nat) : List Nat := (upto 0 64).filterMap (fun i =>
      let e := f (off k + 2 * i) 2
      if bit e 7 ∧ 15 < e / 256 then some (off k + 2 * i + 1) else none)
    map 0 ++ map 1
      ++ (upto 0 64).filterMap (fun i =>
        if bit (snk i) 7 ∧ (upto 0 i).any (fun j => bit (snk j) 7 && bits (snk j) 1 0 == bits (snk i) 1 0
          && snk j / 256 == snk i / 256) then some (off 1 + 2 * i) else none)
      ++ (upto 0 rc).flatMap (fun r =>
        let a := off 2 + 8 * r
        (if f (a + 2) 2 = 0 ∨ 65536 < f a 2 + f (a + 2) 2 then [a + 2] else []) ++ zero (a + 4) 4)
      ++ (upto 0 zc).filterMap (fun z => if 65536 < f (off 3 + 4 * z) 2 + f (off 3 + 4 * z + 2) 2 then some (off 3 + 4 * z) else none)
      ++ at' (upto (off 4) (fo + fi)) (fun i => decide (127 < f i 1))
      ++ (upto 0 pl).filterMap (fun i => if instrBad rc cc (f (off 5 + 8 * i) 8) then some (off 5 + 8 * i) else none)
      ++ (upto 0 cc).filterMap (fun i =>
        let w := f (off 6 + 8 * i) 8
        if w / 2 ^ 48 ≠ (if bit w 47 then 0xFFFF else 0) then some (off 6 + 8 * i + 6) else none)

/-- The bank of a checked image; coefficient words beyond the image's keep what the bank held. -/
def bankOf (d : List Byte) (old : Bank) : Bank :=
  let f := imgField d
  let off (k : Nat) : Nat := f (16 + 4 * k) 4
  let map (k : Nat) : List (BitVec 16) := (upto 0 64).map (fun i => BitVec.ofNat 16 (f (off k + 2 * i) 2))
  let list (a k : Nat) : List Nat := (upto a k).map (fun i => f i 1)
  { valid := true
    prog := (upto 0 (f 6 2)).map (fun i => BitVec.ofNat 64 (f (off 5 + 8 * i) 8))
    coefs := forN (fun i m => amSet (fun _ => 0) m i (BitVec.ofNat 48 (f (off 6 + 8 * i) 8))) (f 8 2) old.coefs
    rings := (upto 0 (f 10 1)).map (fun r => (f (off 2 + 8 * r) 2, f (off 2 + 8 * r + 2) 2))
    zeros := (upto 0 (f 11 1)).map (fun z => (f (off 3 + 4 * z) 2, f (off 3 + 4 * z + 2) 2))
    fadeOut := list (off 4) (f 12 1)
    fadeIn := list (off 4 + f 12 1) (f 13 1)
    src := map 0
    snk := map 1 }

/-- `LOAD_RESULT` and `LOAD_ARG`. (log 165, DEDUCED) -/
def State.loadResult (s : State) (reason arg : Nat) : State :=
  ((s.put abankPage F.ABANK.LOAD_RESULT_BUSY 0).put abankPage F.ABANK.LOAD_RESULT_REASON reason).put abankPage
    F.ABANK.LOAD_ARG arg

/-- The inactive bank is no longer valid. -/
def State.bankDrop (s : State) : State :=
  let n := 1 - s.activeBank
  (s.setBankAt n { s.bankAt n with valid := false }).put abankPage F.ABANK.BANK_STATE_INACTIVE_VALID 0

/-- `BANK_CMD.LOAD` (R320, R321): the fetch starts, or the command is refused. (log 163, DEDUCED) -/
def State.bankLoad (s : State) : State :=
  let a := s.get64 abankPage F.ABANK.LOAD_ADDR_LO % (1 <<< 40)
  let n := s.get abankPage F.ABANK.LOAD_SIZE
  if s.audio.load.isSome then s
  else if s.swapping then s.bankDrop.loadResult rInUse 0
  else if a % 64 ≠ 0 ∨ n % 8 ≠ 0 then s.bankDrop.loadResult rAlign 0
  else if 131072 < n then s.bankDrop.loadResult rRange 0
  else if s.bufOk 0x60 (s.owner abankPage) false a n false = false then s.bankDrop.loadResult rBuffer 0
  else (s.bankDrop.put abankPage F.ABANK.LOAD_RESULT_BUSY 1).modAudio (fun x => { x with load := some (a, n) })

/-- The image has arrived (R320, R321). (log 164, DEDUCED) -/
def State.bankLoaded (s : State) : State :=
  match s.audio.load with
  | none => s
  | some (a, n) =>
    let s := s.modAudio (fun x => { x with load := none })
    match s.mread ⟨0x60, s.owner abankPage, a, n, false, false, false⟩ with
    | (s, none) => s.loadResult rBuffer 0
    | (s, some (d, _)) =>
      match (bankFaults n d).foldl (fun (m : Option Nat) i => some (min i (m.getD i))) none with
      | some i => s.loadResult 0x40 i
      | none =>
        if s.swapping then s.bankDrop.loadResult rInUse 0
        else
          let k := 1 - s.activeBank
          ((s.setBankAt k (bankOf d (s.bankAt k))).put abankPage F.ABANK.BANK_STATE_INACTIVE_VALID 1).loadResult 0 0

/-- `BANK_CMD.INVALIDATE` (R334). -/
def State.bankInvalidate (s : State) : State :=
  if s.swapping then s.loadResult rInUse 0 else s.bankDrop.loadResult 0 0

/-- `BANK_CMD` (R334). (log 163, DEDUCED) -/
def State.bankCmd (s : State) (v : Word) : State :=
  let s := if bit v.toNat 0 then s.bankLoad else s
  if bit v.toNat 1 then s.bankInvalidate else s

/-! Gain units and duck rules (R322, R326) -/

/-- A field of unit g or rule r. -/
def State.gf (s : State) (x : Fld) (k : Nat) : Nat := s.get againPage (x.at k)

/-- Rule r acts on unit g. (log 166, DEDUCED) -/
def State.ruleActs (s : State) (r g : Nat) : Bool :=
  s.gf F.AGAIN.DUCK_KEY_VALID r == 1 && bit (s.get againPage F.AGAIN.DUCK_ACTIVE) r && bit (s.gf F.AGAIN.GOWN_DUCK_MASK g) r
    && s.mayDuck (s.gf F.AGAIN.DUCK_KEY_OWNER r) (s.gf F.AGAIN.GOWN_OWNER g)

/-- The target of unit g, reduced by rules and by a fade-out (R322, R324, R326). -/
def State.gainTarget (s : State) (g : Nat) : Nat :=
  let t := s.gf F.AGAIN.TARGET_TARGET g
  let t := (upto 0 16).foldl (fun m r =>
    if s.ruleActs r g then min m ((t * s.gf F.AGAIN.DUCK_DEPTH_DEPTH r + 2 ^ 19) / 2 ^ 20) else m) t
  if s.get abankPage F.ABANK.BANK_STATE_PHASE = 1 ∧ s.bankOff.fadeOut.contains g then 0 else t

/-- The state word that unit g watches. -/
def State.watch (s : State) (g : Nat) : Nat :=
  if g % 2 = 0 then s.gf F.AGAIN.WATCH_ADDR_EVEN (g / 2) else s.gf F.AGAIN.WATCH_ADDR_ODD (g / 2)

/-- Unit g steps at a boundary (R322). -/
def State.gainStep (s : State) (g : Nat) : State :=
  if s.enabled againPage = false ∨ s.gf F.AGAIN.TARGET_EN g = 0 then s.setGain g ⟨0, 0, false⟩
  else
    let x := s.gain g
    let neg := (s.amem (s.watch g)).msb
    let zc := neg != x.neg
    let te := s.gainTarget g
    if x.g = te then s.setGain g { x with wait := 0, neg := neg }
    else if zc ∨ s.get againPage F.AGAIN.STEP_CFG_ZC_WAIT ≤ x.wait + 1 then
      let st : Int := s.get againPage F.AGAIN.STEP_CFG_STEP
      s.setGain g ⟨((x.g : Int) + iclamp (-st) st ((te : Int) - x.g)).toNat, 0, neg⟩
    else s.setGain g { x with wait := x.wait + 1, neg := neg }

/-- The duck rules at a marker (R326). (log 166, DEDUCED) -/
def State.duckRules (s : State) : State :=
  if s.enabled againPage = false then s
  else
    let held (r : Nat) : Bool :=
      let i := s.gf F.AGAIN.DUCK_KEY_INDEX r
      if s.gf F.AGAIN.DUCK_KEY_KIND r = 0 then bit s.audio.played (s.get aengPage (F.AENG.TRIG_PLAYER.at i))
      else decide (s.gf F.AGAIN.DUCK_DEPTH_THRESH r * 65536 ≤ (s.meter (i % 32)).peak)
    let old (r : Nat) : Nat := amGet (fun _ => 0) s.audio.duck r
    let new (r : Nat) : Nat :=
      if s.gf F.AGAIN.DUCK_KEY_VALID r = 0 then 0 else if held r then s.gf F.AGAIN.DUCK_KEY_HOLD r + 1 else old r - 1
    let s' := s.modAudio (fun a => { a with duck := forN (fun r l => amSet (fun _ => 0) l r (new r)) 16 a.duck })
    s'.put againPage F.AGAIN.DUCK_ACTIVE (forN (fun r m => m + b2n (decide (0 < new r)) * 2 ^ r) 16 0)

/-! Swaps (R324) -/

/-- Each unit of a list takes a gain. -/
def State.forceGains (s : State) (l : List Nat) (f : Nat → Nat) : State :=
  forL (fun g s => s.setGain g { s.gain g with g := f g, wait := 0 }) l s

/-- The swap completes at a boundary. -/
def State.swapDone (s : State) (w : SwapSt) : State :=
  let a := match (s.ctl abankPage).armed with
    | some i => i.tick
    | none => 0
  let s := s.swapOff.applyArmed abankPage w.bs w.seq
  s.jrecOwn 0x000E abankPage w.bs (jpay [(16, 1, 0), (17, 1, b2n w.outLate + 2 * b2n w.inLate), (24, 8, a)])

/-- The fade-in ends when every unit has reached its target, or at its timeout. (log 167, DEDUCED) -/
def State.fadeIn (s : State) (w : SwapSt) : State :=
  let l := s.bankOn.fadeIn
  if l.all (fun g => (s.gain g).g == s.gainTarget g) then s.swapDone w
  else if s.get abankPage F.ABANK.FADE_CFG ≤ w.count then
    (s.forceGains l s.gainTarget).swapDone { w with inLate := true }
  else s.modAudio (fun a => { a with swap := some { w with count := w.count + 1 } })

/-- The fade-out ends when every unit reads 0, or at its timeout; the swap falls on the next boundary. (log 167, DEDUCED) -/
def State.fadeOut (s : State) (w : SwapSt) : State :=
  let l := s.bankOff.fadeOut
  let set (s : State) (w : SwapSt) : State := s.modAudio (fun a => { a with swap := some w })
  if l.all (fun g => (s.gain g).g == 0) then set s { w with due := true }
  else if s.get abankPage F.ABANK.FADE_CFG ≤ w.count then
    set (s.forceGains l (fun _ => 0)) { w with due := true, outLate := true }
  else set s { w with count := w.count + 1 }

/-- The banks change places at boundary t. -/
def State.swapBanks (s : State) (w : SwapSt) (t : Nat) : State :=
  let new := s.bankOff
  let inRange (a : Nat) : Bool := new.zeros.any (fun z => decide (z.1 ≤ a) && decide (a < z.1 + z.2))
  let s := s.modAudio (fun a => { a with mem := amDrop inRange a.mem })
  let s := (s.put abankPage F.ABANK.BANK_STATE_ACTIVE (1 - s.activeBank)).put abankPage F.ABANK.BANK_STATE_PHASE 2
  let s := (s.put abankPage F.ABANK.BANK_STATE_INACTIVE_VALID (b2n s.bankOff.valid)).put abankPage F.ABANK.ACTIVE_LEN
    new.prog.length
  let s := s.forceGains new.fadeIn (fun _ => 0)
  s.fadeIn { w with due := false, bs := t, seq := s.get aengPage F.AENG.SAMPLE_SEQ + 1, count := 0 }

/-- The swap at boundary t. (log 167, DEDUCED) -/
def State.swapStep (s : State) (t : Nat) : State :=
  match s.get abankPage F.ABANK.BANK_STATE_PHASE, s.audio.swap with
  | 0, _ => s
  | 1, none => s.fadeOut ⟨1, false, 0, 0, false, false⟩
  | 1, some w => if w.due then s.swapBanks w t else s.fadeOut w
  | _, some w => s.fadeIn w
  | _, none => s.swapOff

/-! Players and trigger lines (R327–R329) -/

/-- A field of player r. -/
def State.plf (s : State) (r : Nat) (x : Fld) : Nat := s.get aengPage (x.at r)

/-- The channels of a stored frame, from its bytes. -/
def frameVals (fmt stereo : Nat) (d : List Byte) : List Int :=
  let n := if fmt = 0 then 2 else 4
  (upto 0 (1 + stereo)).map (fun c => sext (if fmt = 0 then 16 else 24) (bytesNat ((d.drop (n * c)).take n)))

/-- Frame f of player r's earcon, read from memory. (log 160, DESIGN CHOICE) The players' streams are of class ISO (R346). -/
def State.earcon (s : State) (r f n : Nat) : State × Option (List (List Int)) :=
  let fmt := s.plf r F.AENG.PLAY_CFG_FORMAT
  let st := s.plf r F.AENG.PLAY_CFG_STEREO
  let b := frameBytes fmt st
  let a := s.plf r F.AENG.PLAY_ADDR_LO + s.plf r F.AENG.PLAY_ADDR_HI * 0x100000000
  let q := s.mreadC ⟨0x60, s.plf r F.AENG.PLAY_CFG_OWNER, a + b * f, b * n, false, false, false⟩ 0
  (q.1, q.2.map (fun d => (upto 0 n).map (fun i => frameVals fmt st ((d.1.drop (b * i)).take b))))

/-- The head-buffer frames of player r arrive (R327). -/
def State.preloaded (s : State) (r : Nat) : State :=
  if (s.player r).pre = false then s
  else
    let q := s.earcon r 0 (min 2048 (s.plf r F.AENG.PLAY_FRAMES))
    match q.2 with
    | none => q.1.setPlayer r { s.player r with pre := false }
    | some l =>
      let s := q.1.setPlayer r { PlayerSt.idle with head := l }
      s.put aengPage F.AENG.PLAY_STATE_PRELOADED (s.get aengPage F.AENG.PLAY_STATE_PRELOADED ||| 2 ^ r)

/-- Frame f as the player has it: from the head buffer or the stream buffer; a frame past the end is left open (log 3). -/
def State.playFrame (s : State) (r f : Nat) : State × Option (List Int) :=
  if s.plf r F.AENG.PLAY_FRAMES ≤ f then
    (s.tookFree.tookFree, some [sext 24 s.free.toNat, sext 24 s.tookFree.free.toNat])
  else if f < 2048 then (s, (s.player r).head[f]?)
  else (s, ((s.player r).buf[f - (s.player r).base]?).join)

/-- Sample j of the earcon of player r, in frame units (R327). -/
def State.playSample (s : State) (r j : Nat) : State × Option (List Int) :=
  if s.plf r F.AENG.PLAY_CFG_RATE = 1 then s.playFrame r j
  else if j % 2 = 0 then s.playFrame r (j / 2)
  else
    match s.playFrame r (j / 2) with
    | (s, none) => (s, none)
    | (s, some a) =>
      match s.playFrame r (j / 2 + 1) with
      | (s, none) => (s, none)
      | (s, some b) => (s, some (List.zipWith (fun x y => (x + y + 1) / 2) a b))

/-- The samples that player r's earcon lasts. (log 162, DEDUCED) -/
def State.playLen (s : State) (r : Nat) : Nat :=
  s.plf r F.AENG.PLAY_FRAMES * (if s.plf r F.AENG.PLAY_CFG_RATE = 1 then 1 else 2)

/-- Player r plays. -/
def State.playing (s : State) (r : Nat) : Bool := bit (s.get aengPage F.AENG.PLAY_STATE_PLAYING) r

/-- The stream buffer of player r at a boundary (R327): frames that are played leave it, and of those that it has room
for some arrive; how many the spec leaves open, since it bounds no read. (log 253, DESIGN CHOICE) -/
def State.streamStep (s : State) (r : Nat) : State :=
  let x := s.player r
  let f := x.pos / (if s.plf r F.AENG.PLAY_CFG_RATE = 1 then 1 else 2)
  let base := max x.base f
  let buf := x.buf.drop (base - x.base)
  let want := min (s.plf r F.AENG.PLAY_FRAMES) (base + 2048) - (base + buf.length)
  let s := s.setPlayer r { x with base := base, buf := buf }
  if want = 0 then s
  else
    forN (fun _ s =>
      let x := s.player r
      let q := s.earcon r (x.base + x.buf.length) 1
      q.1.setPlayer r { q.1.player r with buf := (q.1.player r).buf ++ [q.2.map (fun l => l.headD [])] })
      (s.free.toNat % (want + 1)) s.tookFree

/-- Player r at boundary t (R327). -/
def State.playStep (s : State) (r t : Nat) : State :=
  if s.playing r = false then s
  else
    let x := s.player r
    if s.playLen r ≤ x.pos then
      ((s.put aengPage F.AENG.PLAY_STATE_PLAYING (s.get aengPage F.AENG.PLAY_STATE_PLAYING - 2 ^ r)).intBit aengPage 2).setPlayer r
        { x with out := [], starved := false }
    else
      let s := (s.modAudio (fun a => { a with played := a.played ||| 2 ^ r })).streamStep r
      let x := s.player r
      if x.starved then s.setPlayer r { x with pos := x.pos + 1, out := [] }
      else match s.playSample r x.pos with
        | (s, some v) =>
          let b := if s.plf r F.AENG.PLAY_CFG_FORMAT = 0 then 16 else 24
          s.setPlayer r { x with pos := x.pos + 1, out := v.map (fun y => y * (2 ^ (45 - b) : Nat)) }
        | (s, none) =>
          let s := s.setPlayer r { s.player r with pos := x.pos + 1, out := [], starved := true }
          let f := if s.plf r F.AENG.PLAY_CFG_RATE = 1 then x.pos else (x.pos + 1) / 2
          ((s.intBit aengPage 1).stat aengPage 3).jrecTo (s.plf r F.AENG.PLAY_CFG_OWNER) 0x000E aengPage t
            (jpay [(16, 1, 3), (17, 1, r), (20, 4, f)])

/-- A start of line k acts, or is dropped (R329). -/
def State.lineFire (s : State) (k : Nat) : State :=
  let r := s.get aengPage (F.AENG.TRIG_PLAYER.at k)
  if s.flag aengPage (F.AENG.TRIG_VALID.at k) && bit (s.get aengPage F.AENG.PLAY_STATE_PRELOADED) r then
    let s := (s.stat aengPage 4).put aengPage F.AENG.PLAY_STATE_PLAYING (s.get aengPage F.AENG.PLAY_STATE_PLAYING ||| 2 ^ r)
    s.setPlayer r { s.player r with pos := 0, starved := false, base := 2048, buf := [] }
  else s.stat aengPage 5

/-- The starts that reached lines before boundary t; starts of one line in one sample interval act once (R329). -/
def State.lineStartsAt (s : State) (t : Nat) : State :=
  let due := s.lineStarts.filter (fun e => decide (e.1 < t))
  let lines := due.foldl (fun l e => if l.contains e.2 then l else l ++ [e.2]) []
  forL (fun k s => s.lineFire k) lines { s with lineStarts := s.lineStarts.filter (fun e => !decide (e.1 < t)) }

/-- The latency tolerance of the players (R328). (log 161, DEDUCED) -/
def State.audTol (s : State) : Nat :=
  (upto 0 16).foldl (fun m r =>
    if s.playing r then
      let x := s.player r
      let rate := if s.plf r F.AENG.PLAY_CFG_RATE = 1 then 1 else 2
      let f := x.pos / rate
      let ahead := (x.head.length - f) + ((x.buf.drop (f - x.base)).takeWhile (·.isSome)).length
      min m (ahead * 6400 * rate)
    else m) 0xFFFFFFFF

/-! The sample program (R316–R319) -/

/-- A program that runs: the state, the accumulators, the cycles taken, what the code found in words of state memory
and of coefficient memory (address, for a coefficient word 65,536 more; cause of R386; syndrome), the sample number, the
source values, and the instructions left when the cycles are used up. -/
structure Run where
  s : State
  acc : List Int
  cyc : Nat
  errs : List (Nat × Nat × Nat)
  n : Nat
  src : List Int
  left : Nat

/-- What the code finds in the word that errs names as k, word a of bank `bank` (R316, R382, R383): none, or the cause of
R386. (log 252, DEDUCED) -/
def Run.finds (x : Run) (k bank a : Nat) : Run × Option Nat :=
  match x.errs.find? (fun e => e.1 == k) with
  | none => (x, none)
  | some e =>
    let x := { x with errs := x.errs.erase e }
    let tag := x.s.owner aengPage
    let entry := logEntry e.2.1 bank e.2.2 0x60 0 1 tag 0 a x.s.now
    if e.2.1 = 0 then ({ x with s := (x.s.bucketAdd 1 false).logAdd entry }, some 0)
    else ({ x with s := (x.s.logAdd entry).hitAcc 220 bank 1 0x60 tag 0 }, some e.2.1)

/-- A read of a state word, with what the code finds there (R316, R382, R383). -/
def Run.read (x : Run) (a : Nat) : Run × Int :=
  let v := (x.s.amem a).toInt
  let r := x.finds a 101 a
  match r.2 with
  | none => (r.1, v)
  | some 0 => ({ r.1 with s := r.1.s.stat aengPage 2, cyc := r.1.cyc + 1 }, v)
  | some _ => (r.1, 0)

/-- A lane stride. -/
def stride (k : Nat) : Int := if k = 1 then 1 else if k = 2 then -1 else 0

/-- The A address of lane l (R317). -/
def Run.addrA (x : Run) (w l : Nat) : Nat :=
  let o : Int := bits w 40 25 + l * stride (bits w 52 51)
  if bit w 41 then
    let r := x.s.bankOn.rings.getD (bits w 47 42) (0, 1)
    r.1 + (((x.n : Int) - o) % (max 1 r.2 : Nat)).toNat
  else (o % 65536).toNat

/-- Operand B of lane l (R317). Coefficient memory is bank 102, bank b of the program from word 8,192 b on; only a corrected state read costs a cycle (R316). (log 252, DEDUCED) -/
def Run.readB (x : Run) (w l : Nat) : Run × Int :=
  let a := (((bits w 24 12 : Nat) + l * stride (bits w 50 49) : Int) % 8192).toNat
  if bit w 48 then x.read a
  else
    let k := 8192 * x.s.activeBank + a
    let r := x.finds (65536 + k) 102 k
    match r.2 with
    | none => (r.1, (amGet (fun _ => (0 : BitVec 48)) x.s.bankOn.coefs a).toInt)
    | some 0 => ({ r.1 with s := r.1.s.stat aengPage 2 }, (amGet (fun _ => (0 : BitVec 48)) x.s.bankOn.coefs a).toInt)
    | some _ => (r.1, 0)

/-- Opcodes that read operand A. -/
def readsA (op : Nat) : Bool := (decide (1 ≤ op) && decide (op ≤ 4)) || (decide (6 ≤ op) && decide (op ≤ 8))
  || (decide (0x0A ≤ op) && decide (op ≤ 0x0D))

/-- LOG2 of R318. -/
def log2Op (a : Int) : Int :=
  if a ≤ 0 then -(2 ^ 44 : Nat)
  else
    let q := a.toNat.log2
    let m : Int := (if q ≤ 44 then a * (2 ^ (44 - q) : Nat) else asr a (q - 44)) - (2 ^ 44 : Nat)
    asr (((q : Int) - 44) * (2 ^ 44 : Nat) + m) 6

/-- EXP2 of R318. -/
def exp2Op (a : Int) : Int :=
  let e := asr a 38
  let y : Int := (2 ^ 44 : Nat) + (a % (2 ^ 38 : Nat)) * 64
  if 0 ≤ e then satBits 48 (y * (2 ^ e.toNat : Nat)) else if 47 < -e then 0 else asr y (-e).toNat

/-- The accumulator of a lane after an instruction with operands a and b (R318). -/
def Run.alu (x : Run) (op imm l : Nat) (acc a b : Int) : Int :=
  let top : Int := (2 ^ 44 : Nat)
  match op with
  | 0x01 => acc + a * b
  | 0x02 => acc - a * b
  | 0x03 => acc + a * ((x.s.gain imm).g * 2 ^ 24 : Nat)
  | 0x04 => a * top
  | 0x06 => min (a.natAbs : Int) ((2 ^ 47 : Nat) - 1) * top
  | 0x07 => max acc (a * top)
  | 0x08 => min acc (a * top)
  | 0x09 => asr acc imm
  | 0x0A => if 0 ≤ acc then a * top else b * top
  | 0x0B => log2Op a * top
  | 0x0C => exp2Op a * top
  | 0x0D => sine (bits (uenc 48 a) 31 22) * (2 ^ 73 : Nat)
  | 0x0E => x.src.getD (imm + l) 0 * top
  | 0x10 => if x.s.playing imm then (x.s.player imm).out.getD l 0 * top else 0
  | _ => acc

/-- A value taken by meter m (R330). -/
def State.meterTake (s : State) (m : Nat) (y : Int) : State :=
  let v := (satBits 24 (asr (y + 2 ^ 20) 21)).natAbs
  let x := s.meter m
  (s.setMeter m { x with peak := max x.peak v, sum := x.sum + v * v }).statMax ameterPage m v

/-- What a lane writes (R318). -/
def Run.store (x : Run) (op imm w l : Nat) (acc a b : Int) : Run :=
  match op with
  | 0x05 => { x with s := x.s.setAmem (x.addrA w l) (BitVec.ofInt 48 (rnd48 acc)) }
  | 0x0D =>
    let p : Int := bits (uenc 48 a) 31 0
    { x with s := x.s.setAmem (x.addrA w l) (BitVec.ofNat 48 ((p + b) % (2 ^ 32 : Nat)).toNat) }
  | 0x0F => { x with s := x.s.modAudio (fun z =>
      { z with sinks := amSet (fun _ => 0) z.sinks (imm + l) (BitVec.ofInt 48 (rnd48 acc)) }) }
  | 0x11 => { x with s := x.s.meterTake (imm + l) (rnd48 acc) }
  | _ => x

/-- One instruction (R316–R318): the lanes read their operands, then write. -/
def Run.step (x : Run) (i : BitVec 64) : Run :=
  if 3200 ≤ x.cyc then { x with left := x.left + 1 }
  else
    let w := i.toNat
    let op := bits w 63 58
    let imm := bits w 11 0
    let lanes := (upto 0 4).filter (fun l => bit w (53 + l))
    let x := { x with cyc := x.cyc + 1 }
    let r := lanes.foldl (fun (p : Run × List (Nat × Int × Int × Int)) l =>
      let acc := if bit w 57 then 0 else p.1.acc.getD l 0
      let a := if readsA op then p.1.read (p.1.addrA w l) else (p.1, 0)
      let b := if readsB op then a.1.readB w l else (a.1, 0)
      (b.1, p.2 ++ [(l, b.1.alu op imm l acc a.2 b.2, a.2, b.2)])) (x, [])
    let sum := r.2.foldl (fun t e => t + e.2.1) 0
    r.2.foldl (fun (x : Run) e =>
      let acc := if op = 0x12 then (if e.1 = 0 then sum else 0) else e.2.1
      { x.store op imm w e.1 acc e.2.2.1 e.2.2.2 with acc := x.acc.set e.1 acc }) r.1

/-- The source values of a sample (R320). -/
def State.sources (s : State) (t : Nat) : State × List Int :=
  let ports := (upto 0 4).filter (fun p => decide (p < s.part.tdm) && s.enabled (aportPage p))
  let r := ports.foldl (fun (a : State × List (Nat × List Int)) p =>
    let q := a.1.convOut (2 * p) t (a.1.slotsIn p)
    (q.1, a.2 ++ [(p, q.2)])) (s, [])
  (r.1, s.bankOn.src.map (fun e =>
    if bit e.toNat 7 then
      match r.2.find? (fun q => q.1 == bits e.toNat 1 0) with
      | some q => q.2.getD (e.toNat / 256) 0
      | none => 0
    else 0))

/-- The sinks of a sample pass to the output converters (R312, R320); they can be used from tick `t`. -/
def State.sinksOut (s : State) (t : Nat) : State :=
  let snk := s.bankOn.snk
  forL (fun p s =>
    if s.enabled (aportPage p) then
      s.convPush (2 * p + 1) t ((upto 0 (s.slotsOut p)).map (fun slot =>
        match (upto 0 64).find? (fun i =>
          let e := (snk.getD i 0).toNat
          bit e 7 && bits e 1 0 == p && e / 256 == slot) with
        | some i => (amGet (fun _ => (0 : BitVec 48)) s.audio.sinks i).toInt
        | none => 0))
    else s) (upto 0 4) s

/-- The program runs once for the sample of boundary t (R305, R319). -/
def State.runProgram (s : State) (t : Nat) (errs : List (Nat × Nat × Nat)) : State :=
  let s := (s.inc aengPage F.AENG.SAMPLE_SEQ).stat aengPage 0
  let src := s.sources t
  let prog := s.bankOn.prog
  let x := prog.foldl Run.step ⟨src.1, [0, 0, 0, 0], 0, errs, s.get aengPage F.AENG.SAMPLE_SEQ, src.2, 0⟩
  let need := x.cyc + x.left
  let s := x.s.put aengPage F.AENG.CYCLES_MAX (max (x.s.get aengPage F.AENG.CYCLES_MAX) need)
  if 3200 < need then ((s.stat aengPage 1).intBit aengPage 0).hit 172 0 else s

/-! Boundaries and markers (R305) -/

/-- Audio block marker t (R305, R322, R326, R330): the period boundary, what applies at it, meters, duck rules and
targets. (log 168, DEDUCED) -/
def State.markerAt (s : State) (t : Nat) : State :=
  let s := (s.sourceAt 9 t).modAudio (fun a => { a with marker := t })
  let seq := s.get aengPage F.AENG.SAMPLE_SEQ + 1
  let s := s.applyDue abankPage t
  let s := forL (fun b s => s.applyPoint b t seq) ([aengPage] ++ (upto 0 4).map aportPage
    ++ [asrcPage, againPage, ameterPage, aclkPage]) s
  let s := s.duckRules
  let s := s.modAudio (fun a => { a with
    meters := a.meters.map (fun (e : Nat × MeterSt) => (e.1, (⟨0, 0, e.2.sum⟩ : MeterSt)))
    played := 0 })
  let s := { s with audio := { s.audio with meters := s.audio.meters.filter (fun (e : Nat × MeterSt) => decide (e.2 ≠ (⟨0, 0, 0⟩ : MeterSt))) } }
  let s := forL (fun (e : Nat × Nat) s => s.put againPage (F.AGAIN.TARGET_TARGET.at e.1) e.2) s.audio.gainWr s
  let awake := match s.stby with
    | .none => s.mode == .run || s.mode == .boot
    | .undo n _ => decide (n ≤ 3)
    | .entry _ _ => false
  s.modAudio (fun a => { a with gainWr := [], mclkOff := a.mclkOff && !awake })

/-- The next audio block marker. (log 168, DEDUCED) -/
def State.blockMarker (s : State) : State :=
  let t := nextMult 614400 s.audio.marker s.now
  (s.waitTo t).markerAt t

/-- The next sample boundary (R305): `errs` is what the code finds in words of state memory. (log 154, DEDUCED) -/
def State.sampleBoundary (s : State) (errs : List (Nat × Nat × Nat)) : State :=
  let t := nextMult 6400 s.audio.lastRun s.now
  let s := s.waitTo t
  let s := if t % 614400 = 0 ∧ s.audio.marker < t then s.markerAt t else s
  if s.enabled aengPage = false then s.modAudio (fun a => { a with lastRun := t })
  else
    let s := s.modAudio (fun a => { a with lastRun := t })
    let s := forL (fun g s => s.gainStep g) (upto 0 128) s
    let s := s.swapStep t
    let s := s.lineStartsAt t
    let s := forL (fun r s => s.playStep r t) (upto 0 16) s
    let s := (s.runProgram t errs).sinksOut (t + 6400)
    let tol := s.audTol
    (s.put aengPage F.AENG.LAT_TOL tol).reportLat 8 (if tol = 0xFFFFFFFF then none else some (s.now + tol))

/-- The timeout of a fade phase (R324): the sample boundaries up to it pass. (log 168, DEDUCED) -/
def State.fadeTimeout (s : State) : State :=
  let ph := s.get abankPage F.ABANK.BANK_STATE_PHASE
  if ph = 0 then s
  else forN (fun _ s =>
    let late := match s.audio.swap with
      | some w => w.due || w.outLate || w.inLate
      | none => false
    if s.get abankPage F.ABANK.BANK_STATE_PHASE = ph ∧ late = false then s.sampleBoundary [] else s)
    (s.get abankPage F.ABANK.FADE_CFG) s

/-! Register accesses with an effect of their own -/

/-- A read of `ASRC_COEF` (R315). (log 170, DEDUCED) -/
def State.asrcRead (s : State) : State × Word :=
  let tap := s.get asrcPage F.ASRC.COEF_SEL_TAP
  (s.put asrcPage F.ASRC.COEF_SEL_TAP (tap + 1),
    (Config.asrcCoef (s.get asrcPage F.ASRC.COEF_SEL_PHASE) tap).signExtend 32)

/-- `TRIG_FIRE` (R329, R333). -/
def State.trigFire (s : State) (v : Word) : State :=
  if bit v.toNat 8 ∧ s.enabled aengPage then s.lineStart (bits v.toNat 5 0) s.now else s

end Sys2Proof.Machine
end

