-- ==== Sys2Proof/Machine/DramOps.lean ====
section
/-! DEFINITION. The DRAM controller's queues, service, sweep, power states, training and errors (R337–R359). -/

namespace Sys2Proof.Machine

/-! Answers and queues -/

/-- The channel of a request. -/
def State.rqChan (s : State) (q : DramRq) : Nat := (s.dramChan q.rq.addr).1

/-- The state of a channel (R363). -/
def State.chanState (s : State) (c : Nat) : Nat := s.get (chanPage c) F.DCHAN.CHAN_STATE_STATE

/-- A request is answered. One to an engine under reset is discarded (R18). -/
def State.dramAnswer (s : State) (rq : MemRq) (ok : Bool) (d : List Byte) : State :=
  if s.engineReset rq.rid then s.discard rq.rid else s.modDc (fun x => { x with ans := some ⟨rq.rid, rq.tag, ok, d⟩ })

/-- A request is made: its place in the issue order of its source, one requester ID and stream (R347). -/
def State.dramNote (s : State) (rq : MemRq) (stream : Nat) : State :=
  s.modDc (fun d => { d with order := d.order ++ [(rq, stream)] })

/-- The oldest request of a source that has no answer yet. -/
def State.dramOldest (s : State) (rid stream : Nat) : Option (MemRq × Nat) :=
  s.dc.order.find? (fun e => e.1.rid == rid && e.2 == stream)

/-- The oldest request of a source is answered. -/
def State.dramReturn (s : State) (rq : MemRq) (stream : Nat) (ok : Bool) (d : List Byte) : State :=
  (s.modDc (fun x => { x with order := dropFirst (fun e => e == (rq, stream)) x.order })).dramAnswer rq ok d

/-- Answers that waited for an earlier one return in issue order (R347). -/
def State.dramRelease (s : State) (rid stream : Nat) : State :=
  forN (fun _ s =>
    match s.dramOldest rid stream with
    | none => s
    | some e =>
      match s.dc.held.find? (fun h => h.rq == e.1 && h.stream == e.2) with
      | none => s
      | some h =>
        (s.modDc (fun x => { x with held := dropFirst (fun y => y == h) x.held })).dramReturn h.rq h.stream h.ok h.data)
    s.dc.held.length s

/-- A request has its answer, which returns once every earlier request of its source has one (R347). -/
def State.dramReply (s : State) (rq : MemRq) (stream : Nat) (ok : Bool) (d : List Byte) : State :=
  match s.dramOldest rq.rid stream with
  | none => s.dramAnswer rq ok d
  | some e =>
    if e.1 = rq then (s.dramReturn rq stream ok d).dramRelease rq.rid stream
    else s.modDc (fun x => { x with held := x.held ++ [⟨rq, stream, ok, d⟩] })

/-- Two requests are of one source (R347). -/
def DramRq.sameSrc (a b : DramRq) : Bool := a.rq.rid == b.rq.rid && a.stream == b.stream

/-- The channel's queue has room for the request: 64 entries, 8 of them for ISO requests only (R346). -/
def State.dramFits (s : State) (q : DramRq) : Bool :=
  let c := s.rqChan q
  let l := s.dc.queue.filter (fun x => s.rqChan x == c)
  decide (l.length < 64) && (q.cls == 0 || decide ((l.filter (fun x => x.cls != 0)).length < 56))

/-- A request joins its channel's queue, or waits at its plane port (R346). -/
def State.dramEnq (s : State) (q : DramRq) : State :=
  if s.dramFits q ∧ s.dc.port.all (fun x => !(x.sameSrc q && s.rqChan x == s.rqChan q)) then
    let c := s.rqChan q
    let s := if q.cls = 0 ∧ (s.dchan c).sr.isSome then s.stat (chanPage c) 13 else s
    s.modDc (fun d => { d with queue := d.queue ++ [{ q with arr := s.now }] })
  else s.modDc (fun d => { d with port := d.port ++ [q] })

/-- Requests at the plane ports enter the queues in arrival order. (log 173, DEDUCED) -/
def State.dramAdmit (s : State) : State :=
  forL (fun q s => s.dramEnq q) s.dc.port (s.modDc (fun d => { d with port := [] }))

/-! The order of service (R348) -/

/-- The age limit of a class. (log 176, DEDUCED) -/
def State.ageOf (s : State) (cls : Nat) : Nat :=
  if cls = 1 then s.get dschedPage F.DSCHED.AGE_RT
  else if cls = 2 then s.get dschedPage F.DSCHED.AGE_BE
  else s.get dschedPage F.DSCHED.AGE_BG

/-- The request is promoted. -/
def State.promoted (s : State) (q : DramRq) : Bool := q.cls != 0 && decide (s.ageOf q.cls ≤ s.now - q.arr)

/-- The tenancy of a tag has used its share of the period (R423); a disabled `TEN` page has none (R424). -/
def State.overShare (s : State) (tag : Nat) : Bool :=
  match tenOf tag with
  | none => false
  | some t =>
    let share := if s.enabled (tenPage t) then s.get (tenPage t) F.TEN.DRAM_BE_SHARE else 0
    share != 0xFFFFFFFF && decide (4096 * share ≤ ctrGet s.dc.be t)

/-- Priority, tier and miss of R348, as one number. -/
def State.dramKey (s : State) (q : DramRq) : Nat :=
  let prio := if q.cls = 0 ∨ s.promoted q then 0 else q.cls
  let tier := b2n (q.cls == 2 && s.overShare q.rq.tag)
  let tier := if s.promoted q then 0 else tier
  let x := s.dchan (s.rqChan q)
  let miss := b2n (!(s.rowHit q.rq.addr || decide (s.get dschedPage F.DSCHED.SCHED_CFG ≤ x.run)))
  4 * prio + 2 * tier + miss

/-- The oldest request of each source on a channel, in the order of R348. (log 174, DESIGN CHOICE) -/
def State.dramCands (s : State) (c : Nat) : List DramRq :=
  let l := s.dc.queue.filter (fun q => s.rqChan q == c)
  let heads := l.foldl (fun a q => if a.any (fun x => x.sameSrc q) then a else a ++ [q]) []
  (upto 0 16).flatMap (fun k => heads.filter (fun q => s.dramKey q == k))

/-- Word w, decoded as given, is written back when it needs a correction. -/
def State.fixWord (s : State) (w : Nat) : Dec → State
  | .fixed x _ => (s.dramClean w x).dramInject w
  | _ => s

/-- A write-back of R341 is issued: it writes the word corrected, if it still needs it. (log 254, DESIGN CHOICE) -/
def State.dramFix (s : State) (q : DramRq) : State :=
  let w := q.rq.addr / 8
  (s.fixWord w (s.dramDec w)).dramServed q.rq q.cls

/-- A request is served by its channel, or fails with it (R340, R341, R357). (log 173, DEDUCED) -/
def State.dramServe (s : State) (q : DramRq) : State :=
  let c := s.rqChan q
  let s := s.modDc (fun d => { d with queue := dropFirst (fun x => x == q) d.queue })
  if s.enabled dglobPage = false then if q.fix then s else s.globalOff.dramReply q.rq q.stream false []
  else if s.chanState c ≠ 2 then if q.fix then s else s.dramReply q.rq q.stream false []
  else
    let s := s.waitTo (s.dchan c).serve
    let s := if bit (s.dchan c).pd ((s.rowOf q.rq.addr).2.1 / 16) then s.waitTo (s.now + 8) else s
    if q.fix then s.dramFix q
    else if q.rq.write then
      let r := s.dramStore q.rq q.cls q.data
      r.1.dramReply q.rq q.stream r.2 []
    else
      let r := s.dramRead q.rq q.cls
      r.1.dramReply q.rq q.stream r.2.isSome (r.2.getD [])

/-- Writes that are first in the order of an awake channel are issued at once. -/
def State.dramDrain (s : State) (c : Nat) : State :=
  (forN (fun _ s =>
    match (s.dramCands c).head? with
    | some q =>
      let x := s.dchan c
      if q.rq.write ∧ s.chanState c = 2 ∧ x.sr.isNone ∧ x.serve ≤ s.now ∧ x.pd = 0 then s.dramServe q else s
    | none => s) s.dc.queue.length s).dramAdmit

/-- A channel returns the data of its next request (R341): the first of the order of R348, or a later one by as many
places as timing does not yet allow. (log 174, DESIGN CHOICE) -/
def State.dramNext (s : State) (c skip : Nat) : State :=
  if (s.dchan c).sr.isSome ∧ s.chanState c = 2 then s
  else match (s.dramCands c)[skip]? with
    | some q => ((s.dramServe q).dramAdmit).dramDrain c
    | none => s

/-- A queued request reaches its age limit (R348): the first that has not been counted yet. (log 176, DEDUCED) -/
def State.agePromote (s : State) (c : Nat) : State :=
  let l := s.dc.queue.filter (fun q => s.rqChan q == c && q.cls != 0 && !q.prom)
  let best := l.foldl (fun (m : Option DramRq) q =>
    match m with
    | some x => if q.arr + s.ageOf q.cls < x.arr + s.ageOf x.cls then some q else m
    | none => some q) none
  match best with
  | none => s
  | some q =>
    let s := s.waitTo (q.arr + s.ageOf q.cls)
    (s.modDc (fun d => { d with queue := d.queue.map (fun x => if x = q then { x with prom := true } else x) })).stat
      (chanPage c) 6

/-! Requests and the sweep (R355, R356) -/

/-- A request to an unswept granule waits, and the sweep jumps to the granule. -/
def State.sweepWait (s : State) (q : DramRq) : State :=
  let g := granuleOf q.rq.addr
  let w := s.dc.sweep
  let s := s.modDc (fun d => { d with sweep := { d.sweep with wait := d.sweep.wait ++ [q] } })
  if w.cur.contains g ∨ w.want.contains g then s
  else
    let s := s.modDc (fun d => { d with sweep := { d.sweep with want := d.sweep.want ++ [g] } })
    let lane := s.sweepLane g
    if w.cur.any (fun x => s.sweepLane x == lane && w.want.contains x) then s
    else
      let out := w.cur.filter (fun x => s.sweepLane x == lane)
      (s.modDc (fun d => { d with sweep := { d.sweep with
        cur := d.sweep.cur.filter (fun x => !out.contains x), paused := d.sweep.paused ++ out } })).sweepFill

/-- A request that the checker has allowed reaches the controller. -/
def State.dramArrive (s : State) (rq : MemRq) (stream : Nat) (data : List Byte) : State :=
  let q : DramRq := ⟨rq, stream, data, s.dramCls rq stream, s.now, false, false⟩
  if s.enabled dglobPage = false then s.globalOff.dramReply rq stream false []
  else if s.chanState (s.rqChan q) ≠ 2 then s.dramReply rq stream false []
  else if s.swept (granuleOf rq.addr) = false then s.sweepWait q
  else (s.dramEnq q).dramDrain (s.rqChan q)

/-- Every granule is swept: the record of R356. -/
def State.sweepFinish (s : State) : State :=
  let s := (s.put dsweepPage F.DSWEEP.SWEEP_STATE_DONE 1).put dsweepPage F.DSWEEP.SWEEP_STATE_ACTIVE 0
  s.jrec 0 0x0010 dsweepPage s.now
    (jpay [(16, 4, s.granules), (20, 4, s.get dsweepPage F.DSWEEP.JUMPS), (24, 8, s.dc.sweep.start)])

/-- A granule is swept (R356): it reads 0, the requests that wait for it are served in arrival order, and the sweep
goes on. (log 179, DEDUCED) -/
def State.sweepDone (s : State) (g : Nat) : State :=
  if s.flag dsweepPage F.DSWEEP.SWEEP_STATE_ACTIVE = false ∨ s.dc.sweep.cur.contains g = false then s
  else
    let s := if s.swept g then s else (s.dramDrop (fun a => a / 0x10000000 == g)).setSwept g
    let ready := s.dc.sweep.wait.filter (fun q => granuleOf q.rq.addr == g)
    let s := s.modDc (fun d => { d with sweep := { d.sweep with
      cur := d.sweep.cur.filter (· != g), want := d.sweep.want.filter (· != g),
      wait := d.sweep.wait.filter (fun q => granuleOf q.rq.addr != g) } })
    let s := forL (fun q s => (s.dramEnq q).dramDrain (s.rqChan q)) ready s
    let s := s.sweepFill
    if s.dc.sweep.cur = [] then s.sweepFinish else s

/-! Refresh, power and tracking (R337, R350–R353) -/

/-- A per-bank refresh of a bank falls due: it is postponed, or issued, at the latest when eight are postponed. (log 180, DESIGN CHOICE) A rank in
power-down takes the command after its exit time. -/
def State.refresh (s : State) (c rank bank : Nat) (postpone : Bool) : State :=
  let x := s.dchan c
  if s.chanState c ≠ 2 ∨ x.sr.isSome then s
  else
    let b := rank * 16 + bank
    let n := ctrGet x.post b + 1
    if postpone ∧ n < 8 then s.setDchan c { x with post := amSet (fun _ => 0) x.post b n }
    else
      let s := if bit x.pd rank then s.waitTo (s.now + 8) else s
      (s.rankCmd c rank).modDchan c (fun y => { y with
        post := amSet (fun _ => 0) y.post b (n - 1)
        rows := y.rows.filter (fun e => e.1 != b)
        run := 0 })

/-- The controller reads MR4 (R337). (log 180, DESIGN CHOICE) -/
def State.mr4 (s : State) (c code : Nat) : State :=
  let x := s.dchan c
  if s.chanState c ≠ 2 ∨ x.sr.isSome then s
  else
    let s := s.waitTo (x.mr4At + 614400)
    let chg := s.get (chanPage c) F.DCHAN.CHAN_STATE_MR4_RATE != code
    (s.put (chanPage c) F.DCHAN.CHAN_STATE_MR4_RATE code).modDchan c (fun y => { y with
      mr4At := s.now, oscAt := if chg then min y.oscAt s.now else y.oscAt })

/-- A rank enters power-down after `PD_IDLE` ticks with no command (R350). -/
def State.powerDown (s : State) (c rank : Nat) : State :=
  let x := s.dchan c
  if s.chanState c ≠ 2 ∨ x.sr.isSome ∨ s.flag dpowerPage F.DPOWER.PD_CFG_PD_EN = false ∨ bit x.pd rank
      ∨ s.get (chanPage c) F.DCHAN.GEOM_RANKS < rank then s
  else
    let s := s.waitTo ((if rank = 0 then x.cmd0 else x.cmd1) + s.get dpowerPage F.DPOWER.PD_CFG_PD_IDLE)
    (s.chanSettle c).modDchan c (fun y => { y with pd := y.pd + (1 <<< rank), pdAt := s.now })

/-- A channel's all-bank refresh and self-refresh entry (R351). -/
def State.srIn (s : State) (c : Nat) : State :=
  ((s.chanSettle c).stat (chanPage c) 10).modDchan c (fun y => { y with
    rows := [], run := 0, post := [], pd := 0, sr := some s.now })

/-- T_min lies at least n ticks ahead. (log 183, DEDUCED) -/
def State.tMinFar (s : State) (n : Nat) : Bool :=
  match s.tMin with
  | some t => decide (s.now + n ≤ t)
  | none => true

/-- An idle channel enters self-refresh (R351); in step 4 of the STANDBY entry it does so with its queue empty,
whatever T_min holds (R352). -/
def State.srEntry (s : State) (c : Nat) : State :=
  let x := s.dchan c
  if s.chanState c ≠ 2 ∨ x.sr.isSome ∨ s.dc.queue.any (fun q => s.rqChan q == c) then s
  else
    match s.stby with
    | .entry 4 _ => s.srIn c
    | _ =>
      if s.flag dpowerPage F.DPOWER.SR_CFG_SR_EN = false then s
      else
        let s := s.waitTo (x.respAt + s.get dpowerPage F.DPOWER.SR_CFG_SR_IDLE)
        if s.tMinFar (s.get dpowerPage F.DPOWER.SR_EXIT + s.get dpowerPage F.DPOWER.WAKE_GUARD
            + s.get dpowerPage F.DPOWER.SR_MIN) then s.srIn c
        else s

/-- A wake condition makes a channel leave self-refresh (R351, R352): the tick from which one holds. -/
def State.srWake (s : State) (c : Nat) : State :=
  let x := s.dchan c
  if x.sr.isNone then s
  else
    let sb := s.mode == .standby
    let exit := if sb then 24576 else s.get dpowerPage F.DPOWER.SR_EXIT
    let l := s.dc.queue.filter (fun q => s.rqChan q == c)
    let t1 := s.tMin.map (fun t => t - exit - s.get dpowerPage F.DPOWER.WAKE_GUARD)
    let t2 := (l.map (fun q => q.arr + s.get dpowerPage F.DPOWER.BG_WAKE + 1)).foldl
      (fun (m : Option Nat) t => some (min t (m.getD t))) none
    let at_ : Option Nat :=
      if l.any (fun q => q.cls == 1 || q.cls == 2) then some s.now
      else match t1, t2 with
        | some a, some b => some (min a b)
        | some a, none => some a
        | none, b => b
    match at_ with
    | none => s
    | some t =>
      let s := s.waitTo t
      let s := if sb then s.put (pg 0x01 1) F.DIV.PHY_PLL_STATUS_DRAM_PLL_LOCKED 1 else s
      s.srExit c (s.now + exit)

/-- Oscillator tracking falls due and runs when T_min allows, or, 10 ms late, when no ISO request is queued (R353);
it blocks the channel for at most 1,024 ticks, by a free value. (log 181, DESIGN CHOICE) -/
def State.oscTrack (s : State) (c : Nat) : State :=
  let x := s.dchan c
  if s.chanState c ≠ 2 ∨ x.sr.isSome then s
  else
    let s := s.waitTo x.oscAt
    let iso := s.dc.queue.any (fun q => s.rqChan q == c && q.cls == 0)
    if s.tMinFar (1024 + s.get dpowerPage F.DPOWER.WAKE_GUARD) ∨ (x.oscAt + 6144000 ≤ s.now ∧ iso = false) then
      let n := s.free.toNat % 1025
      s.tookFree.modDchan c (fun y => { y with oscAt := s.now + 61440000, serve := max y.serve (s.now + n) })
    else s

/-! Training and errors (R354, R357) -/

/-- Training of a channel ends (R354): READY, or FAILED in a step. -/
def State.trainDone (s : State) (c : Nat) (fail : Option Nat) : State :=
  if s.chanState c ≠ 1 then s
  else
    let p := chanPage c
    match fail with
    | none =>
      let s := ((s.put p F.DCHAN.CHAN_STATE_STATE 2).put p F.DCHAN.CHAN_STATE_TRAIN_STEP 6).intBit p 0
      let s := s.put (pg 0x01 1) F.DIV.PHY_PLL_STATUS_DRAM_PLL_LOCKED 1
      s.modDchan c (fun x => { x with
        mr4At := s.now, oscAt := s.now + 61440000, respAt := s.now, cmd0 := s.now, cmd1 := s.now })
    | some k =>
      ((s.put p F.DCHAN.CHAN_STATE_STATE 3).put p F.DCHAN.CHAN_STATE_TRAIN_STEP k).hit 216 (16 * c + k)

/-- A command error counts, is logged and is raised (R357, R358). (log 184, DEDUCED) -/
def State.cmdErr (s : State) (c arg : Nat) (q : Option DramRq) : State :=
  let p := chanPage c
  let s := (s.stat p 14).intBit p 2
  match q with
  | some q =>
    (s.logAdd (s.dramEntry 3 0 q.rq.rid q.rq.tag (q.rq.addr / 8))).hitAcc (208 + c) arg (if q.rq.write then 2 else 1)
      q.rq.rid q.rq.tag q.rq.addr
  | none => (s.logAdd (logEntry 3 0xFF 0 0 c 2 0 0 0 s.now)).hit (208 + c) arg

/-- The eight words of a block are rewritten poisoned. -/
def State.blockPoison (s : State) (a : Nat) : State :=
  forN (fun j s => s.dramPoison (a / 64 * 8 + j) (s.dramDec (a / 64 * 8 + j)).data) 8 s

/-- The channel enters FAILED after a second command error. (log 184, DEDUCED) -/
def State.chanFail (s : State) (c : Nat) (q : Option DramRq) : State :=
  (s.cmdErr c 1 q).put (chanPage c) F.DCHAN.CHAN_STATE_STATE 3

/-- A command mismatches its independent copy (R357): one that serves the channel's next request, or one that serves
none; `again` when the rewrite or the reissue fails too. -/
def State.dramCmdError (s : State) (c : Nat) (serves again : Bool) : State :=
  if s.chanState c ≠ 2 then s
  else
    let q := if serves then (s.dramCands c).head? else none
    let s := s.cmdErr c 0 q
    match q with
    | some q =>
      let s := s.modDc (fun d => { d with queue := dropFirst (fun x => x == q) d.queue })
      let s := if q.rq.write then
          let s := s.blockPoison q.rq.addr
          if again then s.chanFail c (some q) else s
        else s
      (if q.fix then s else s.dramReply q.rq q.stream false []).dramAdmit
    | none => if again then s.chanFail c none else s

/-- `INJ_CTL` (R362): only the secure world writes it. -/
def deccReg (off : Nat) (r : Req) (v : Word) (s : State) : Option State :=
  if off = 0x10C then
    some (if r.tag = 1 then s.put deccPage F.DECC.INJ_CTL (v.toNat % 4) else s.violation r (deccPage + off) true)
  else none

end Sys2Proof.Machine
end

