-- ==== Sys2Proof/Machine/PeriodOps.lean ====
section
/-! DEFINITION. Periods and their latched views (R50–R55), the accounting period (R58), and the slewing and stepping
of Thyme (R46). -/

namespace Sys2Proof.Machine

/-- `CLK.PERIOD`. -/
def periodPage : Nat := pg 0x01 3

/-! Latched views -/

/-- Counters that grow with time are counted up to now: core-ticks, self-refresh and power-down, blocked rings. -/
def State.periodSettle (s : State) : State :=
  let s := forN (fun c s => s.chanSettle c) 8 s.gsettle
  forN (fun n s => s.ringSettle n) 8 s

/-- A boundary of the page's period source ends its open period (R50, R52). -/
def State.periodBoundary (s : State) (base : Nat) : State :=
  if (pinfoAt base).isNone then s
  else match s.boundary base with
    | none => s
    | some b => s.periodSettle.modCtl base (fun c => { c with pend := some b })

/-- The live counters of a page go to its latched view, and those held for the new period take their place (R51). -/
def State.latchStats (s : State) (k : PKind) (base : Nat) : State :=
  let wide := stat64At k
  let s0 := s
  let s := forN (fun i s =>
    let v := ctrGet s0.live (statKey base i)
    if wide.contains i then
      (s.wr (statKey base i) (BitVec.ofNat 32 v)).wr (statKey base (i + 1)) (BitVec.ofNat 32 (v / 0x100000000))
    else if 0 < i ∧ wide.contains (i - 1) then s
    else s.wr (statKey base i) (BitVec.ofNat 32 v)) 32 s
  forN (fun i s =>
    let key := statKey base i
    { s with
      live := amSet (fun _ => 0) s.live key (ctrGet s.held key)
      held := amSet (fun _ => 0) s.held key 0 }) 32 s

/-- The offsets of the latched view: `PERIOD_SEQ`, `PERIOD_START`, `PERIOD_LEN` and the `STAT` registers. -/
def viewOffsets : List Nat := [0x40, 0x48, 0x4C, 0x50] ++ (upto 0 32).map (fun i => 0x80 + 4 * i)

/-- The update of a boundary B, on tick B + 8; reads before B + 12 see the view that it replaces (R51, R52). -/
def State.periodLatch (s : State) (base : Nat) : State :=
  match pinfoAt base, (if (s.ctl base).stuck then none else s.boundary base) with
  | some i, some b =>
    let s := (s.waitTo (b + 8)).periodSettle
    let before := viewOffsets.map (fun o => (o, s.rd (base + o)))
    let c := s.ctl base
    let start := max c.pstart s.epoch
    let s := s.latchStats i.kind base
    let s := s.inc base F.HDR.PERIOD_SEQ
    let s := (s.put64 base F.HDR.PERIOD_START_LO start).put base F.HDR.PERIOD_LEN (sat 0xFFFFFFFF (b - start))
    (s.modCtl base (fun c => { c with
      pstart := b, pend := none, old := some (b + 12, before.filter (fun e => s.rd (base + e.1) != e.2)) })).intBit base 28
  | _, _ => s

/-! The accounting period -/

/-- An accounting boundary at tick t opens the accounting period that starts at tick a (R58, R59, R215, R424). (log 54, DEDUCED) -/
def State.acctAt (s : State) (t a : Nat) : State :=
  let s := (s.periodSettle.sourceAt 0 t).inc periodPage F.PERIOD.ACCT_SEQ
  let s := s.put64 periodPage F.PERIOD.ACCT_START_LO a
  let seq := s.get periodPage F.PERIOD.ACCT_SEQ
  let s := s.gfxPeriod
  let s := forL (fun p s => s.applyPoint p t seq) (periodPage :: (upto 0 16).map tenPage) s
  { s.modDc (fun d => { d with be := [] }) with copied := [] }

/-- The end of the open accounting period. -/
def State.acctEnd (s : State) : Nat :=
  s.get64 periodPage F.PERIOD.ACCT_START_LO + s.get periodPage F.PERIOD.ACCT_LEN

/-- Thyme reaches the end of the open accounting period (R58). (log 54, DEDUCED) -/
def State.acctBoundary (s : State) : State :=
  let b := s.acctEnd
  let s := s.waitTo b
  if s.now < b then s else s.acctAt b b

/-! Slewing and stepping -/

/-- Rasters run on, whatever Thyme does (R150): where Thyme moves by d beside its count, so do the ticks at which the
frames in progress began. (log 53, DESIGN CHOICE) -/
def State.rasterCarry (s : State) (d : Int) : State :=
  forL (fun h (s : State) => if (s.raster h).on then s.rasterShift h d else s) (upto 0 8) s

/-- The pulse of `SYNC_OUT` that has risen lasts its ticks, whatever Thyme does meanwhile (R61): its end shifts with
Thyme, and so does the tick of the last edge of `SYNC_IN`. -/
def State.syncCarry (s : State) (d : Int) : State :=
  let mv (t : Nat) : Nat := ((t : Int) + d).toNat
  s.modSync (fun x => { x with fall := x.fall.map mv, lastIn := x.lastIn.map mv })

/-- After an alignment step the next pulse of `SYNC_OUT` is the first whose tick lies in the future (R61); a page that
gives one pulse gives it still, unless the step has passed it. -/
def State.syncStep (s : State) : State :=
  match s.pad.sync.train, s.pad.sync.rise with
  | some (p, _), some t =>
    let f := s.get64 bsyncPage F.BSYNC.OUT_FIRST_LO
    let k : Option Nat := if p = 0 then (if t ≤ s.now then none else some t)
      else some (if f ≤ s.now then f + ((s.now - f) / p + 1) * p else f)
    s.modSync (fun x => { x with rise := k })
  | _, _ => s

/-- A backward step takes Thyme behind the start of open periods and behind ticks of their sources (R50, R58): those
starts and ticks stand at the Thyme value after the step, so that the next boundary of a source ends the period. (log 221, DESIGN CHOICE) -/
def State.stepBack (s : State) : State :=
  let b := s.now
  { s with
    epoch := min s.epoch b
    srcTick := s.srcTick.map (fun e => (e.1, min e.2 b))
    pages := s.pages.map (fun (e : Nat × PageCtl) => (e.1, { e.2 with pstart := min e.2.pstart b, psince := min e.2.psince b })) }

/-- A slew tick (R46): Thyme takes 0 or 2 while a correction is pending; two slew ticks lie at least 1,024 ticks
apart. (log 52, DEDUCED) -/
def State.slewTick (s : State) : State :=
  let p := sext 32 (s.get thymePage F.THYME.SLEW_PENDING)
  if p = 0 ∨ s.thymeRun = false then s
  else
    let s := match s.slewAt with
      | some t => s.waitTo (t + 1023)
      | none => s
    let up := decide (0 < p)
    let s := { s with thyme := if up then s.thyme + 2 else s.thyme }
    let s := { s with slewAt := some s.now }
    let s := s.put thymePage F.THYME.SLEW_PENDING (uenc 32 (if up then p - 1 else p + 1))
    (s.rasterCarry (if up then 1 else -1)).syncCarry (if up then 1 else -1)

/-- Thyme steps to a new value (R46): a step forward past the end of the open accounting period ends it once, on the
step tick (R58). (log 2, DESIGN CHOICE) (log 52, DEDUCED) (log 53, DESIGN CHOICE) -/
def State.thymeStep (s : State) (d : Int) : State :=
  let a := s.now
  let b := BitVec.ofInt 64 ((a : Int) + d)
  let s := { s with thyme := b, slewAt := s.slewAt.map (fun t => ((t : Int) + d).toNat) }
  let s := (s.inc thymePage F.THYME.STEP_COUNT).put64 thymePage F.THYME.STEP_FROM_LO a
  let s := (s.put64 thymePage F.THYME.STEP_TO_LO b.toNat).jrec 0 0x000F thymePage b.toNat (jpay [(16, 8, a), (24, 8, b.toNat)])
  let s := ((s.rasterCarry d).syncCarry d).syncStep
  let s := if d < 0 then s.stepBack else s
  let start := s.get64 periodPage F.PERIOD.ACCT_START_LO
  let len := max 1 (s.get periodPage F.PERIOD.ACCT_LEN)
  if start + len ≤ s.now then s.acctAt s.now (start + (s.now - start) / len * len) else s

end Sys2Proof.Machine
end

