-- ==== Sys2Proof/Machine/TmbOps.lean ====
section
/-! DEFINITION. Tombolo flits: what a port sends in a slot, what each kind of flit does where it is received, and the
timed events of the links (R525–R541). -/

namespace Sys2Proof.Machine

/-! Flits -/

/-- The parameters of `CHECK` (R528). -/
def flitCrc : CrcCfg := ⟨32, 0x1EDC6F41, 0xFFFFFFFF, 0xFFFFFFFF, true, true⟩

/-- Bytes 0–251 of a flit. -/
def TFlit.body (f : TFlit) : List Byte :=
  natBytes 1 f.typ ++ natBytes 1 f.flags ++ natBytes 2 f.seq ++ natBytes 2 f.ack ++ natBytes 1 f.src ++ natBytes 1 f.dst
    ++ natBytes 2 f.pay.length ++ natBytes 2 0 ++ (f.pay ++ List.replicate 240 0).take 240

/-- The 256 bytes of a flit: `CHECK` covers the fold word, which is `SEQ`, and bytes 0–251. -/
def TFlit.bytes (f : TFlit) : List Byte :=
  f.body ++ natBytes 4 (crc flitCrc ([f.seq % 256, f.seq / 256 % 256] ++ f.body.map BitVec.toNat))

/-- The flits that are sequenced (R528). -/
def sequenced (typ : Nat) : Bool := decide (0x04 ≤ typ) && decide (typ ≤ 0x0B)

/-- The last sequence accepted in order from the peer. -/
def State.tAck (s : State) (p : Nat) : Nat := (s.get (tportPage p) F.TPORT.PORT_STATE_EXPECTED + 65535) % 65536

/-- A HELLO of this device (R526, R528). -/
def State.tmbHello (s : State) (p : Nat) : List Byte :=
  let x := s.tport p
  natBytes 1 (bits x.loc.toNat 7 0) ++ natBytes 1 (bits x.loc.toNat 15 8)
    ++ natBytes 2 (bits x.loc.toNat 31 16) ++ natBytes 1 s.ringIndex ++ natBytes 1 s.ringN
    ++ natBytes 1 (s.get tmbPage F.TMB.RING_CFG_MASTER) ++ natBytes 1 x.ver

/-- A flit leaves port p. -/
def State.tOut (s : State) (p : Nat) (f : TFlit) : State :=
  let s := (s.modTport p (fun x => { x with tx := f.bytes })).stat (tportPage p) 0
  if f.flags = 1 then s.stat (tportPage p) 4 else s

/-- A link-level flit to the neighbour, outside the sequence. -/
def State.tLink (s : State) (p typ seq : Nat) (pay : List Byte) : State :=
  s.tOut p ⟨typ, 0, seq, s.tAck p, s.ringIndex, s.tNeighbour p, pay⟩

/-- The queued flit of the highest priority, oldest first. -/
def tFirst (q : List (Nat × TFlit)) : Option (Nat × TFlit) :=
  q.foldl (fun (m : Option (Nat × TFlit)) e =>
    match m with
    | some x => if e.1 < x.1 then some e else m
    | none => some e) none

/-- The time words of a TIME or TIME_ECHO flit as it leaves (R528, R539): t1 and the stamps of the last exchange; or t1
and t2 as received, and t3. -/
def State.timePay (s : State) (p typ : Nat) : List Byte :=
  let x := s.tport p
  if typ = 0x02 then
    let e := x.up3.getD (0, 0, 0)
    natBytes 8 s.now ++ natBytes 8 e.2.1 ++ natBytes 8 e.2.2
  else
    let e := x.down3.getD (0, 0, 0)
    natBytes 8 e.1 ++ natBytes 8 e.2.1 ++ natBytes 8 s.now

/-- A TIME or TIME_ECHO leaves: its stamp is kept. -/
def State.timeSent (s : State) (p typ : Nat) : State :=
  s.modTport p (fun x =>
    if typ = 0x02 then { x with up3 := some (s.now, 0, 0) }
    else { x with down3 := x.down3.map (fun e => (e.1, e.2.1, s.now)) })

/-- The next slot of port p (R525, R529): a HELLO while it negotiates; UP, the flit of the highest priority, or IDLE. -/
def State.flitSlot (s : State) (p : Nat) : State :=
  let st := s.tState p
  if s.enabled (tportPage p) = false ∨ (st ≠ 2 ∧ st ≠ 3) then s
  else
    let s := s.waitTo ((s.tport p).slotAt + 65)
    let s := s.modTport p (fun x => { x with slotAt := s.now })
    let x := s.tport p
    let exp := s.get (tportPage p) F.TPORT.PORT_STATE_EXPECTED
    let idle (s : State) : State := (s.tLink p 0x00 x.next []).stat (tportPage p) 5
    if st = 2 then s.tLink p 0x01 0 (s.tmbHello p)
    else if x.nak then (s.modTport p (fun x => { x with nak := false })).tLink p 0x0C 0 (natBytes 2 exp)
    else match x.resend with
      | f :: t =>
        ((s.modTport p (fun x => { x with resend := t })).tOut p { f with ack := s.tAck p }).stat (tportPage p) 3
      | [] =>
        match tFirst x.queue with
        | none => idle s
        | some e =>
          let drop (s : State) : State := s.modTport p (fun x => { x with queue := dropFirst (fun y => y == e) x.queue })
          if e.1 = 2 then ((drop s).tLink p e.2.typ 0 (s.timePay p e.2.typ)).timeSent p e.2.typ
          else if 64 ≤ x.replay.length then idle s
          else
            let f := { e.2 with seq := x.next, ack := s.tAck p }
            ((drop s).modTport p (fun x => { x with next := (x.next + 1) % 65536, replay := x.replay ++ [f] })).tOut p f

/-! Reception -/

/-- What a received flit carries beside its payload: the port, `SEQ`, `ACK`, source and destination. -/
structure FlitRx where
  p : Nat
  seq : Nat
  ack : Nat
  src : Nat
  dst : Nat

/-- A flit with a good check on an UP port: it keeps the link alive, and its `ACK` releases the replay buffer (R529,
R530). -/
def State.tGood (s : State) (f : FlitRx) : State :=
  (s.modTport f.p (fun x => { x with
    rxAt := s.now
    replay := x.replay.filter (fun r => decide (32768 ≤ (f.ack + 65536 - r.seq) % 65536)) })).stat (tportPage f.p) 1

/-- An UP port has received no good flit for 2,458 ticks (R530): it enters DOWN, and its neighbour is lost. (log 190, DEDUCED) -/
def State.silence (s : State) (p : Nat) : State :=
  if s.tState p ≠ 3 then s
  else
    let s := s.waitTo ((s.tport p).rxAt + 2458)
    let j := s.tNeighbour p
    let s := (s.portDown p 3).hit (23 + p) j
    if s.tAlive j then s.deviceLost j else s

/-- Block lock or UP is not reached in time (R526). (log 197, DEDUCED) -/
def State.restartLate (s : State) (p : Nat) : State :=
  if s.tState p = 1 then (s.waitTo ((s.tport p).rstAt + 61440)).tmbFails p 1
  else if s.tState p = 2 then (s.waitTo ((s.tport p).rstAt + 122880)).tmbFails p 1
  else s

/-- No heartbeat of device j for `HB_TIMEOUT` periods (R530). -/
def State.beatTimeout (s : State) (j : Nat) : State :=
  if s.enabled tmbPage = false ∨ s.tAlive j = false then s
  else
    let x := amGet (fun _ => (⟨0, 0, 0, 0, 0⟩ : TPeer)) s.tmb.peers j
    let s := s.waitTo (x.tick + s.get tmbPage F.TMB.HB_CFG_HB_TIMEOUT * s.get tmbPage F.TMB.HB_CFG_HB_PERIOD)
    (s.hit (23 + x.port) j).deviceLost j

/-- What arrives at port p at or after the tick that ends its link, or its restart, comes too late (R10, R526, R530). -/
def State.tLate (s : State) (p : Nat) : State :=
  let x := s.tport p
  if s.tState p = 3 ∧ x.rxAt + 2458 ≤ s.now then s.silence p
  else if (s.tState p = 1 ∧ x.rstAt + 61440 ≤ s.now) ∨ (s.tState p = 2 ∧ x.rstAt + 122880 ≤ s.now) then s.restartLate p
  else s

/-- The heartbeat of device j comes too late (R10, R530). -/
def State.beatLate (s : State) (j : Nat) : Bool :=
  decide ((amGet (fun _ => (⟨0, 0, 0, 0, 0⟩ : TPeer)) s.tmb.peers j).tick
    + s.get tmbPage F.TMB.HB_CFG_HB_TIMEOUT * s.get tmbPage F.TMB.HB_CFG_HB_PERIOD ≤ s.now)

/-- A flit outside the sequence, on an UP port. -/
def State.tLoose (s : State) (f : FlitRx) (act : State → State) : State :=
  let s := s.tLate f.p
  if s.tState f.p = 3 then act (s.tGood f) else s

/-- A NAK for the expected value is due, once per value (R529). (log 192, DEDUCED) -/
def State.nakDue (s : State) (p : Nat) : State :=
  let x := s.tport p
  if x.nakOut then s else s.setTport p { x with nakOut := true, nak := true }

/-- A sequenced flit (R529): in order it is accepted, and forwarded when it is for another device (R524); out of order
it is dropped. (log 192, DEDUCED) -/
def State.tSeq (s : State) (f : FlitRx) (typ : Nat) (pay : List Byte) (act : State → State) : State :=
  let s := s.tLate f.p
  if s.tState f.p ≠ 3 then s
  else
    let b := tportPage f.p
    if f.seq ≠ s.get b F.TPORT.PORT_STATE_EXPECTED then
      (s.modTport f.p (fun x => { x with rxAt := s.now })).nakDue f.p
    else
      let s := (s.tGood f).inc b F.TPORT.PORT_STATE_EXPECTED
      let s := s.modTport f.p (fun x => { x with nakOut := false, nak := false })
      if f.dst = s.ringIndex then act s
      else if s.tportUp (1 - f.p) then
        s.modTport (1 - f.p) (fun x => { x with queue := x.queue ++ [(4, ⟨typ, 1, 0, 0, f.src, f.dst, pay⟩)] })
      else s

/-- A received flit fails its check (R529). -/
def State.checkFail (s : State) (p : Nat) : State :=
  let s := s.tLate p
  if s.tState p ≠ 2 ∧ s.tState p ≠ 3 then s
  else
    let b := tportPage p
    let s := ((s.stat b 2).intBit b 2).hit (25 + p) (s.get b F.TPORT.PORT_STATE_EXPECTED)
    if s.tState p = 3 then s.nakDue p else s

/-- An IDLE flit (R528). -/
def State.rxIdle (s : State) (f : FlitRx) : State := s.tLoose f id

/-- The outcome of negotiation in the registers of a port (R97). -/
def State.putTver (s : State) (p : Nat) (v : Ver) : State :=
  let b := tportPage p
  let s := ((s.put b F.TPORT.VER_STATUS_REASON v.reason).put b F.TPORT.VER_STATUS_PEER_MAX v.peerMax).put b
    F.TPORT.VER_STATUS_PEER_MIN v.peerMin
  let s := ((s.put b F.TPORT.VER_STATUS_CHOSEN v.chosen).put b F.TPORT.VER_FEATURES_PEER v.peerFeat).put b
    F.TPORT.VER_FEATURES_AGREED v.agreed
  s.put64 b F.TPORT.VER_TS_LO v.ts

/-- A HELLO (R526, R527, R540): versions, features, index, ring size, master bit and `CHOSEN` of the neighbour. (log 199, DEDUCED) (log 200, DEDUCED) -/
def State.rxHello (s : State) (p min_ max_ feat idx n : Nat) (master : Bool) (chosen : Nat) : State :=
  let b := tportPage p
  let s := s.tLate p
  let s := if master ∧ s.flag tmbPage F.TMB.RING_CFG_MASTER ∧ (s.tState p = 2 ∨ s.tState p = 3) then
      (s.put tsyncPage F.TSYNC.SYNC_STATE_CONFLICT 1).hit 27 p else s
  if s.tState p = 3 then (s.modTport p (fun x => { x with rxAt := s.now })).stat b 1
  else if s.tState p ≠ 2 then s
  else
    let s := s.stat b 1
    let s := if master ∧ s.flag tmbPage F.TMB.RING_CFG_MASTER = false then s.modTmb (fun t => { t with master := some idx })
      else s
    if n ≠ s.ringN ∨ idx = s.ringIndex ∨ idx ≠ s.tNeighbour p then s.tmbFails p 5
    else
      let s := if (s.tport p).ver = 0 then
          let v := negotiateW (s.tport p).loc min_ max_ feat (fun v => if v = 2 then 3 else 0) s.now
          (s.putTver p v).modTport p (fun x => { x with ver := v.chosen })
        else s
      let own := (s.tport p).ver
      if own = 0 then s.tmbFails p 2
      else if chosen = own then s.portUp p
      else s

/-! Time (R539, R540) -/

/-- Division by two toward zero. -/
def half (x : Int) : Int := Int.tdiv x 2

/-- A follower evaluates an exchange on its upstream port (R539, R540). -/
def State.align (s : State) (p : Nat) (t1 t2 t3 t4 : Nat) : State :=
  let off : Int := half (((t2 : Int) - t1) - ((t4 : Int) - t3))
  let del : Int := half (((t2 : Int) - t1) + ((t4 : Int) - t3))
  let x := s.tport p
  let good := if off.natAbs ≤ 1 then x.good + 1 else 0
  let s := (s.wr (tsyncPage + F.TSYNC.OFFSET.off) (BitVec.ofInt 32 off)).wr (tsyncPage + F.TSYNC.DELAY.off) (BitVec.ofInt 32 del)
  let s := (s.put tsyncPage F.TSYNC.SYNC_STATE_UPSTREAM p).modTport p (fun y => { y with fresh := false, good := good })
  let s := if s.role = 2 ∧ s.get tsyncPage F.TSYNC.SYNC_CFG_LOST_THRESH < off.natAbs then s.hit 27 p else s
  let s := if x.fresh ∧ 64 < off.natAbs then (s.thymeStep (-off)).modTport p (fun y => { y with down3 := none })
    else s.wr (thymePage + F.THYME.SLEW_PENDING.off) (BitVec.ofInt 32 (-off))
  s.setRole (if 8 ≤ good then 2 else 3)

/-- A TIME flit (R539): t1, and t4 and t3 of the previous exchange. -/
def State.rxTime (s : State) (f : FlitRx) (t1 t4 t3 : Nat) : State :=
  s.tLoose f (fun s =>
    let p := f.p
    let follow := s.enabled tsyncPage && s.role != 1 && s.tUpstream == some p
      && !s.flag tsyncPage F.TSYNC.SYNC_STATE_CONFLICT
    if follow = false then s
    else
      let t2 := s.now
      let s' := match (s.tport p).down3 with
        | some e => if e.2.2 = t3 ∧ t3 ≠ 0 then s.align p e.1 e.2.1 t3 t4 else s
        | none => s
      let stepped := s'.now != s.now
      s'.modTport p (fun x => { x with
        down3 := if stepped then none else some (t1, t2, 0)
        queue := x.queue ++ [(2, ⟨0x03, 0, 0, 0, 0, 0, []⟩)] }))

/-- A TIME_ECHO flit (R539): its arrival is t4. -/
def State.rxEcho (s : State) (f : FlitRx) (t1 t3 : Nat) : State :=
  s.tLoose f (fun s => s.modTport f.p (fun x => { x with
    up3 := match x.up3 with
      | some e => if e.1 = t1 then some (t1, s.now, t3) else x.up3
      | none => none }))

/-- The upstream neighbour's TIME falls due (R539): on a port whose neighbour aligns to this device, while its own role
is 1 or 2. -/
def State.timeSend (s : State) (p : Nat) : State :=
  let n := s.ringN
  let j := s.tNeighbour p
  let m := if s.role = 1 then some s.ringIndex else s.tmb.master
  let toUs := match m with
    | some m =>
      j != m && (let a := (m + n - j) % n
                 let b := (j + n - m) % n
                 (if a ≤ b then 0 else 1) == 1 - p)
    | none => false
  if s.tState p ≠ 3 ∨ s.enabled tsyncPage = false ∨ (s.role ≠ 1 ∧ s.role ≠ 2) ∨ toUs = false then s
  else
    let s := s.waitTo ((s.tport p).exchAt + s.get tsyncPage F.TSYNC.SYNC_CFG_EXCH_PERIOD)
    s.modTport p (fun x => { x with exchAt := s.now, queue := x.queue ++ [(2, ⟨0x02, 0, 0, 0, 0, 0, []⟩)] })

/-! Remote reads (R532) -/

/-- The entries of a READ_REQ: address, space, granules, columns and stride. -/
structure REntry where
  addr : Nat
  pool : Bool
  n : Nat
  cols : Nat
  stride : Nat
  deriving DecidableEq, Repr

/-- The bytes of an entry: 8, or 16 with `TILED` in force. -/
def REntry.bytes (e : REntry) (tiled : Bool) : List Byte :=
  natBytes 5 e.addr ++ natBytes 1 (b2n e.pool) ++ natBytes 1 e.n
    ++ (if tiled then natBytes 1 e.cols ++ natBytes 4 e.stride ++ natBytes 4 0 else natBytes 1 0)

/-- The address of granule k of an entry. -/
def REntry.granule (e : REntry) (k : Nat) : Nat := e.addr + k / e.cols * e.stride + k % e.cols * 64

/-- One granule of an entry as an inbound request of the port: its data, or its status. -/
def State.remoteGran (s : State) (p src : Nat) (e : REntry) (k : Nat) : State × Option (List Byte) × Nat :=
  let rq : MemRq := ⟨0xC0 + p, 0x200 + src, e.granule k, 64, false, e.pool, true⟩
  let cause := if (s.wouldAllow rq).isNone then 1
    else if rq.pool = false ∧ (s.enabled dglobPage = false ∨ s.dramServes rq.addr = false) then 3 else 2
  match s.mread rq with
  | (s, some (d, _)) => (s, some d, 0)
  | (s, none) => (s, none, cause)

/-- A READ_REQ (R532): each entry is answered by one READ_DATA. (log 193, DEDUCED) -/
def State.rxReadReq (s : State) (f : FlitRx) (tag : Nat) (es : List REntry) : State :=
  let tiled := s.featWith f.src 0
  let pay := natBytes 2 tag ++ natBytes 1 es.length ++ natBytes 1 0 ++ es.flatMap (fun e => e.bytes tiled)
  s.tSeq f 0x04 pay (fun s =>
    forL (fun (e : REntry) s =>
      let n := max 1 (min 3 e.n)
      let r := forN (fun i (a : State × List (List Byte) × Nat) =>
        let q := a.1.remoteGran f.p f.src (if tiled then e else { e with cols := 3 }) (n - 1 - i)
        (q.1, a.2.1 ++ [q.2.1.getD (List.replicate 64 0)], if a.2.2 = 0 then q.2.2 else a.2.2)) n (s, [], 0)
      r.1.tSend f.src 5 0x05 (natBytes 2 tag ++ natBytes 1 r.2.2 ++ natBytes 1 n ++ (if r.2.2 = 0 then r.2.1.flatten else [])))
      es s)

/-- A READ_DATA (R532): the read of its tag ends. -/
def State.rxReadData (s : State) (f : FlitRx) (tag status n : Nat) (d : List Byte) : State :=
  s.tSeq f 0x05 (natBytes 2 tag ++ natBytes 1 status ++ natBytes 1 n ++ d) (fun s =>
    match s.tmb.reads.find? (fun r => r.tag == tag) with
    | none => s
    | some r => if r.tick + 61440 ≤ s.now then s.readEnds r none 3 else if status = 0 then s.readEnds r (some d) 0 else s.readEnds r none (min 3 status))

/-- A remote read has no answer within 61,440 ticks (R532). -/
def State.readTimeout (s : State) : State :=
  match s.tmb.reads with
  | [] => s
  | r :: _ => (s.waitTo (r.tick + 61440)).readEnds r none 3

/-- Granules g to g + n − 1 of a crop line of a remote plane are asked for (R532, R533): refused by the local checker, or
with no route, they fail at once. -/
def State.askGrans (s : State) (h l k y g n : Nat) : State :=
  match (s.planes h l)[k]? with
  | none => s
  | some p =>
    let a := p.granAddr (s.layCfg h l) y g
    let fails (s : State) (c : Nat) : State := forL (fun i s => s.granResult h l k y (g + i) none c) (upto 0 n) s
    match s.judge ⟨0x20 + h, s.owner (layerPage h l), a % (1 <<< 40), 64 * n, false, false, true⟩ with
    | (s, none) => fails s 1
    | (s, some _) =>
      let j := remoteDev a
      match s.tmbRoute j with
      | none => fails s 3
      | some port =>
        let tag := s.tmb.tag
        let e : REntry := ⟨remoteOff a, remoteSpace a == 1, n, n, 0⟩
        let s := s.tSend j 7 0x04 (natBytes 2 tag ++ natBytes 1 1 ++ natBytes 1 0 ++ e.bytes (s.featWith j 0))
        s.modTmb (fun t => { t with
          tag := (tag + 1) % 65536
          reads := t.reads ++ [⟨tag, port, s.now, h, l, k, y, g, n⟩] })

/-- The granules of a layer's remote planes that it may fetch and that are not asked for yet, in line order. -/
def State.remoteWants (s : State) (h l : Nat) : List (Nat × Nat × Nat) :=
  let c := s.layCfg h l
  let ps := s.planes h l
  (upto 0 ps.length).flatMap (fun k =>
    match ps[k]? with
    | none => []
    | some p =>
      if p.remote then
        (upto 0 (p.lines c)).flatMap (fun y => ((upto 0 (p.grans c)).filter (fun g =>
          s.mayFetch h l k y g && !s.granOut h l (granKey k y g))).map (fun g => (k, y, g)))
      else [])

/-- A head asks for the remote granules that its fetch buffer has room for (R152, R168, R532), up to three adjacent
granules of a line in an entry. -/
def State.tmbIssue (s : State) (h : Nat) : State :=
  let out := s.tmb.reads.foldl (fun a r => if r.h = h then a + r.n else a) 0
  let room := 2048 - s.fetchHeld h / 64 - out
  let want := ((upto 0 12).flatMap (fun l => (s.remoteWants h l).map (fun w => (l, w)))).take room
  let runs := want.foldl (fun (a : List (Nat × Nat × Nat × Nat × Nat)) w =>
    match a with
    | (l, k, y, g, n) :: t =>
      if l = w.1 ∧ k = w.2.1 ∧ y = w.2.2.1 ∧ g + n = w.2.2.2 ∧ n < 3 then (l, k, y, g, n + 1) :: t
      else (w.1, w.2.1, w.2.2.1, w.2.2.2, 1) :: a
    | [] => [(w.1, w.2.1, w.2.2.1, w.2.2.2, 1)]) []
  forL (fun r s => s.askGrans h r.1 r.2.1 r.2.2.1 r.2.2.2.1 r.2.2.2.2) runs.reverse s

/-- The deadline for the layers that device j serves (R535): the least over the heads that show one. -/
def State.latFor (s : State) (j : Nat) : Option Nat :=
  (upto 0 8).foldl (fun m h =>
    let shows := (upto 0 12).any (fun l => s.shown h l && (s.planes h l).any (fun p => p.remote && remoteDev p.addr == j))
    match (if shows then (s.headSt h).lat else none), m with
    | some d, some x => some (min (d - s.get remotePage F.TREMOTE.LAT_MARGIN) x)
    | some d, none => some (d - s.get remotePage F.TREMOTE.LAT_MARGIN)
    | none, m => m) none

/-- LAT flits go out where the minimum has changed (R535). -/
def State.latSend (s : State) : State :=
  forL (fun j s =>
    let d := s.latFor j
    if d = amGet (fun _ => none) s.tmb.latTx j then s
    else
      (s.tSend j 6 0x0A (natBytes 8 (d.getD 0xFFFFFFFFFFFFFFFF))).modTmb (fun t => { t with
        latTx := amSet (fun _ => none) t.latTx j d })) (upto 0 4) s

/-- A LAT flit (R535): the port reports the smallest deadline that it has received. -/
def State.rxLat (s : State) (f : FlitRx) (d : Nat) : State :=
  s.tSeq f 0x0A (natBytes 8 d) (fun s =>
    let v := if d = 0xFFFFFFFFFFFFFFFF then none else some d
    let s := s.modTmb (fun t => { t with latRx := amSet (fun _ => none) t.latRx f.src v })
    let least := s.tmb.latRx.foldl (fun (m : Option Nat) e =>
      if s.tmbRoute e.1 = some f.p then
        (match e.2, m with
          | some a, some b => some (min a b)
          | some a, none => some a
          | none, m => m)
      else m) none
    s.reportLat (9 + f.p) least)

/-! Mirrored writes, mailboxes, heartbeats, reset -/

/-- A WRITE (R536): its data is written under the sender's tag, or refused and counted. -/
def State.rxWrite (s : State) (f : FlitRx) (addr : Nat) (pool : Bool) (d : List Byte) : State :=
  s.tSeq f 0x06 (writePay addr pool d) (fun s =>
    match s.mwrite ⟨0xC0 + f.p, 0x200 + f.src, addr % (1 <<< 40), d.length, true, pool, false⟩ d with
    | (s, true) => s
    | (s, false) => s.stat remotePage 6)

/-- A MAILBOX (R541). -/
def State.rxMail (s : State) (f : FlitRx) (k : Nat) (ws : List Word) : State :=
  s.tSeq f 0x07 (natBytes 1 k ++ natBytes 1 ws.length ++ natBytes 2 0 ++ ws.flatMap (fun w => natBytes 4 w.toNat)) (fun s =>
    if 2 ≤ k then s
    else
      let s := forL (fun i s => s.wr (tmbPage + 0x158 + 0x80 * k + 4 * i) (ws.getD i 0)) (upto 0 (min 14 ws.length)) s
      ((s.put tmbPage (F.TMB.MB_STATE_RX_FULL.at k) 1).put tmbPage (F.TMB.MB_STATE_RX_SRC.at k) f.src).intBit tmbPage k)

/-- An MB_CREDIT (R541). -/
def State.rxCredit (s : State) (f : FlitRx) (k : Nat) : State :=
  s.tSeq f 0x08 (natBytes 1 k) (fun s => if k < 2 then s.put tmbPage (F.TMB.MB_STATE_CREDIT.at k) 1 else s)

/-- A HEARTBEAT (R530): mode, flags (bit 0 `FAULT_N` driven, bit 1 master) and Thyme of its device. (log 189, DEDUCED) (log 200, DEDUCED) -/
def State.rxBeat (s : State) (f : FlitRx) (mode flags thyme : Nat) : State :=
  s.tSeq f 0x09 (natBytes 1 mode ++ natBytes 1 flags ++ natBytes 2 0 ++ natBytes 8 thyme) (fun s =>
    let j := f.src
    let s := if s.beatLate j then s.beatTimeout j else s
    let s := s.modTmb (fun t => { t with
      peers := amSet (fun _ => ⟨0, 0, 0, 0, 0⟩) t.peers j ⟨s.now, f.p, mode, flags, thyme⟩
      master := if bit flags 1 then some j else t.master })
    if s.tAlive j then s else s.deviceBack j)

/-- A NAK (R529): the flits from the named `SEQ` are sent again; the sixteenth for one `SEQ` ends the link. -/
def State.rxNak (s : State) (f : FlitRx) (seq : Nat) : State :=
  s.tLoose f (fun s =>
    let x := s.tport f.p
    let n := if x.nakFor.1 = seq then x.nakFor.2 + 1 else 1
    if 16 ≤ n then s.portDown f.p 4
    else s.modTport f.p (fun y => { y with
      nakFor := (seq, n)
      resend := y.replay.filter (fun r => decide ((r.seq + 65536 - seq) % 65536 < 32768)) }))

/-- The next heartbeats fall due (R530): one to each other device. -/
def State.beatSend (s : State) : State :=
  if s.enabled tmbPage = false ∨ s.ringN < 2 then s
  else
    let s := s.waitTo (s.tmb.hbAt + s.get tmbPage F.TMB.HB_CFG_HB_PERIOD)
    let s := s.modTmb (fun t => { t with hbAt := s.now })
    let flags := b2n s.faultLow + 2 * s.get tmbPage F.TMB.RING_CFG_MASTER
    let pay := natBytes 1 s.mode.code ++ natBytes 1 flags ++ natBytes 2 0 ++ natBytes 8 s.now
    forL (fun j s => if j = s.ringIndex then s else s.tSend j 3 0x09 pay) (upto 0 s.ringN) s

/-- `MB_CMD_k` (R541): `RX_DONE` returns a credit; `POST` sends the message, or is dropped without a credit. (log 196, DEDUCED) -/
def State.mbCmd (s : State) (k : Nat) (v : Word) : State :=
  let s :=
    if bit v.toNat 1 ∧ s.flag tmbPage (F.TMB.MB_STATE_RX_FULL.at k) then
      (s.put tmbPage (F.TMB.MB_STATE_RX_FULL.at k) 0).tSend (s.get tmbPage (F.TMB.MB_STATE_RX_SRC.at k)) 9 0x08 (natBytes 1 k)
    else s
  if bit v.toNat 0 then
    if s.flag tmbPage (F.TMB.MB_STATE_CREDIT.at k) then
      let j := s.get tmbPage (F.TMB.MB_CFG_DEST.at k)
      if (s.tmbRoute j).isNone then s
      else
        let ws := (upto 0 14).flatMap (fun i => natBytes 4 (s.rd (tmbPage + 0x120 + 0x80 * k + 4 * i)).toNat)
        (s.put tmbPage (F.TMB.MB_STATE_CREDIT.at k) 0).tSend j 9 0x07 (natBytes 1 k ++ natBytes 1 14 ++ natBytes 2 0 ++ ws)
    else s.put tmbPage (F.TMB.MB_STATE_OVERRUN.at k) 1
  else s

/-- `REMOTE_RESET` (R540, R543): the secure world of the timebase master sends RESET. -/
def State.remoteReset (s : State) (v : Word) : State :=
  let n := v.toNat
  if bits n 31 16 = 0x5254 ∧ bit n 8 then s.tSend (bits n 1 0) 10 0x0B (natBytes 2 0x5254) else s

/-! Restarts -/

/-- The restart that an enable has made due begins. -/
def State.restartDue (s : State) (p : Nat) : State :=
  if s.enabled (tportPage p) ∧ (s.tport p).due then s.portRestart p else s

/-- Block lock on all four lanes (R526). -/
def State.blockLock (s : State) (p : Nat) : State :=
  let s := s.tLate p
  if s.tState p = 1 ∧ s.enabled (tportPage p) then s.put (tportPage p) F.TPORT.PORT_STATE_STATE 2 else s

/-- 6,144,000 ticks after DOWN the port restarts, after a failed restart or with `AUTO_RESTART` (R526). (log 197, DEDUCED) -/
def State.tmbRetry (s : State) (p : Nat) : State :=
  match (s.tport p).downAt with
  | none => s
  | some t =>
    let c := s.get (tportPage p) F.TPORT.PORT_STATE_DOWN_CAUSE
    if s.tState p ≠ 4 ∨ ((c = 3 ∨ c = 4) ∧ s.flag (tportPage p) F.TPORT.PORT_CFG_AUTO_RESTART = false) then s
    else (s.waitTo (t + 6144000)).portRestart p

end Sys2Proof.Machine
end

