-- ==== Sys2Proof/Machine/PadOps.lean ====
section
/-! DEFINITION. Pads, board synchronisation, board controllers, boot flash, the test access port and the junction
sensors (R60, R61, R518, R560–R568, R580). -/

namespace Sys2Proof.Machine

/-! Pads -/

/-- The bits of the part's pads. -/
def State.padMask (s : State) : Nat := (1 <<< s.part.pads) - 1

/-- The outside drives a pad. (log 202, DESIGN CHOICE) -/
def State.padExt (s : State) (g : Nat) (b : Bool) : State :=
  let m := BitVec.ofNat 32 (1 <<< g)
  s.modPad (fun p => { p with ext := if b then p.ext ||| m else p.ext &&& ~~~m })

/-- `PAD.GPIO` writes (R561): bits of absent pads ignore them. -/
def gpioReg (off : Nat) (_r : Req) (v : Word) (s : State) : Option State :=
  let w := v.toNat &&& s.padMask
  let out := s.get gpioPage F.PGPIO.GPIO_OUT
  if off = 0x100 then some (s.put gpioPage F.PGPIO.GPIO_OE w)
  else if off = 0x104 then some (s.put gpioPage F.PGPIO.GPIO_OUT w)
  else if off = 0x108 then some (s.put gpioPage F.PGPIO.GPIO_OUT (out ||| w))
  else if off = 0x10C then some (s.put gpioPage F.PGPIO.GPIO_OUT (out &&& (0xFFFFFFFF ^^^ w)))
  else none

/-- An edge on a pad with a wake function (R28, R560): a wake event when it has the pad's polarity. -/
def State.wakeEdge (s : State) (g : Nat) (rising : Bool) : State :=
  if s.part.pads ≤ g then s
  else
    let s := s.padExt g rising
    if s.padFunc g = 3 ∧ (s.get pfuncPage (F.PFUNC.FUNC_WAKE_POL.at g) = 0) = (rising = true) then s.wake else s

/-! Board synchronisation -/

/-- The pad that carries `SYNC_IN`. -/
def State.syncPad (s : State) : Option Nat := (upto 0 s.part.pads).find? (fun g => s.padFunc g == 1)

/-- An edge on `SYNC_IN` (R60). (log 203, DEDUCED) (log 220, DEDUCED) -/
def State.syncEdge (s : State) (rising : Bool) : State :=
  match s.syncPad with
  | none => s
  | some g =>
    let s := s.padExt g rising
    let falling := s.flag bsyncPage F.BSYNC.SYNC_CTRL_IN_EDGE
    if s.enabled bsyncPage = false ∨ s.flag bsyncPage F.BSYNC.SYNC_CTRL_IN_EN = false ∨ falling = rising then s
    else
      let near := match s.pad.sync.lastIn with
        | some t => decide (s.now < t + 64)
        | none => false
      let s := (s.inc bsyncPage F.BSYNC.SYNC_IN_COUNT).modSync (fun x => { x with lastIn := some s.now })
      let s := if near then s else s.put64 bsyncPage F.BSYNC.SYNC_IN_TS_LO s.now
      s.intBit bsyncPage 0

/-- The next pulse begins (R61). -/
def State.syncRise (s : State) : State :=
  match s.pad.sync.train, s.pad.sync.rise with
  | some (p, w), some t =>
    let s := s.waitTo t
    s.modSync (fun x => { x with level := true, fall := some (s.now + w), rise := if p = 0 then none else some (t + p) })
  | _, _ => s

/-- The pulse ends. -/
def State.syncFall (s : State) : State :=
  match s.pad.sync.fall with
  | some t => (s.waitTo t).modSync (fun x => { x with level := false, fall := none })
  | none => s

/-! The alive signal (R518) -/

/-- The level that `ALIVE` is driven to; none while it is released. (log 213, DEDUCED) -/
def State.alive (s : State) : Option Bool :=
  match s.mode with
  | .run => some (s.now / 307200 % 2 == 1)
  | .standby => some (s.now / 307200 % 2 == 1)
  | _ => none

/-- `ALIVE` changes level: time passes to the next multiple of 307,200. (log 213, DEDUCED) -/
def State.aliveToggle (s : State) : State :=
  if s.alive.isSome then s.waitTo ((s.now / 307200 + 1) * 307200) else s

/-! Board controllers (R564) -/

/-- Fields of a `BC_XFER` word. -/
def xfGo (w : Nat) : Bool := bit w 31
def xfStop (w : Nat) : Bool := bit w 30
def xfRead (w : Nat) : Bool := bit w 29
def xfCcc (w : Nat) : Bool := bit w 27
def xfLen (w : Nat) : Nat := bits w 22 16
/-- The word runs ENTDAA. -/
def xfDaa (w : Nat) : Bool := xfCcc w && bits w 7 0 == 0x07

/-- The offset of a register of controller n. -/
def bcOff (n r : Nat) : Nat := 0x100 + 0x80 * n + r

/-- A write of `BC_XFER`. -/
def State.bcXfer (s : State) (r : Req) (n : Nat) (v : Word) : State :=
  let w := v.toNat
  let x := s.bc n
  let i3c := s.flag bcPage (F.PBC.BC_CFG_PROTO.at n)
  if xfGo w = false then s
  else if s.bcOn n = false ∨ x.xfer.isSome
      ∨ (xfRead w = false ∧ xfDaa w = false ∧ x.tx.length < xfLen w) ∨ 64 < xfLen w ∨ (xfCcc w ∧ i3c = false) then
    s.stray r (bcPage + bcOff n 0x04) true
  else s.setBc n { x with xfer := some v, since := s.now, recover := false }

/-- A write of `BC_TXDATA`. (log 205, DEDUCED) -/
def State.bcPush (s : State) (r : Req) (n : Nat) (v : Word) : State :=
  let x := s.bc n
  if 64 ≤ x.tx.length then s.stray r (bcPage + bcOff n 0x08) true
  else s.setBc n { x with tx := x.tx ++ [v.setWidth 8] }

/-- A transfer ends with a result: `DONE` and its statistics (R563). (log 206, DEDUCED) -/
def State.bcEnd (s : State) (n res : Nat) : State :=
  let s := s.put bcPage (F.PBC.BC_STATE_RESULT.at n) res
  let s := if res = 0 then s.stat bcPage (5 * n) else if res = 1 then s.stat bcPage (5 * n + 1)
    else if res = 3 then s.stat bcPage (5 * n + 4) else s
  (s.modBc n (fun x => { x with
    xfer := none
    held := res == 0 && (match x.xfer with | some w => !xfStop w.toNat | none => false)
    recover := res == 3 || res == 4 })).intBit bcPage (2 * n)

/-- Bytes that arrive in the receive FIFO: 64 at most. -/
def fifoIn (q d : List Byte) : List Byte := (q ++ d).take 64

/-- The transfer of controller n ends (R564): its result, and the data that a read has brought. (log 205, DEDUCED) -/
def State.bcDone (s : State) (n res : Nat) (d : List Byte) : State :=
  let x := s.bc n
  match x.xfer with
  | none => s
  | some v =>
    let w := v.toNat
    let tx := if xfRead w then x.tx else if res = 1 then [] else x.tx.drop (xfLen w)
    let rx := if xfRead w ∧ res = 0 then fifoIn x.rx (d.take (xfLen w)) else x.rx
    (s.setBc n { x with tx := tx, rx := rx }).bcEnd n res

/-- A target has held SCL low for 25 ms (R564), at the earliest since the transfer's start: the timeout expires at its
start + 15,360,000 ticks or later (R10). (log 256, DEDUCED) -/
def State.bcStretch (s : State) (n : Nat) : State :=
  if (s.bc n).xfer.isSome then (s.waitTo ((s.bc n).since + 15360000)).bcDone n 3 [] else s

/-- Dynamic address assignment (R564): each target that answers, with its provisional ID, BCR and DCR, is given the next
address while the receive FIFO has room for its 8 bytes. (log 204, PRESUMED) -/
def State.bcAssign (s : State) (n : Nat) : List (BitVec 48 × Byte × Byte) → State
  | [] => s.bcEnd n 0
  | (id, bcr, dcr) :: t =>
    let x := s.bc n
    if 64 < x.rx.length + 8 then s.bcEnd n 2
    else
      let a := s.get bcPage (F.PBC.BC_DAA.at n)
      let d := (natBytes 6 id.toNat).reverse ++ [bcr, dcr]
      let s := s.setBc n { x with
        rx := x.rx ++ d
        known := (a, bit bcr.toNat 2) :: x.known.filter (fun e => e.1 != a) }
      (s.put bcPage (F.PBC.BC_DAA.at n) (a + 1)).bcAssign n t

/-- ENTDAA runs (R564). (log 204, PRESUMED) -/
def State.entdaa (s : State) (n : Nat) (ts : List (BitVec 48 × Byte × Byte)) : State :=
  match (s.bc n).xfer with
  | some w => if xfDaa w.toNat then s.bcAssign n ts else s
  | none => s

/-- An in-band interrupt from an address (R564). -/
def State.bcIbi (s : State) (n addr : Nat) (mdb : Byte) : State :=
  let x := s.bc n
  if s.bcOn n = false ∨ s.flag bcPage (F.PBC.BC_CFG_PROTO.at n) = false
      ∨ s.flag bcPage (F.PBC.BC_IBI_EN.at n) = false then s
  else match x.known.find? (fun e => e.1 == addr) with
    | some (a, has) =>
      if 8 ≤ x.ibi.length then s.stat bcPage (5 * n + 3)
      else ((s.setBc n { x with ibi := x.ibi ++ [(a, if has then some mdb else none)] }).stat bcPage (5 * n + 2)).intBit
        bcPage (2 * n + 1)
    | none => s.stat bcPage (5 * n + 3)

/-- A read of `BC_RXDATA`, and of `BC_IBI`. -/
def State.bcPop (s : State) (n : Nat) : State × Word :=
  let x := s.bc n
  match x.rx with
  | b :: t => (s.setBc n { x with rx := t }, BitVec.ofNat 32 (0x100 + b.toNat))
  | [] => (s, 0)
def State.ibiPop (s : State) (n : Nat) : State × Word :=
  let x := s.bc n
  match x.ibi with
  | (a, m) :: t =>
    let v := match m with
      | some b => 0x100 + b.toNat
      | none => 0
    (s.setBc n { x with ibi := t }, BitVec.ofNat 32 (0x80000000 + a * 0x1000000 + v))
  | [] => (s, 0)

/-- `PAD.BC` writes: a controller that the part lacks ignores them (R563). -/
def bcReg (off : Nat) (r : Req) (v : Word) (s : State) : Option State :=
  let n := if off % 0x800 < 0x180 then 0 else 1
  if off < 0x100 ∨ 0xA00 ≤ off ∨ (0x200 ≤ off ∧ off < 0x900) then none
  else if s.part.bcs ≤ n then some s
  else if off = bcOff n 0x04 then some (s.bcXfer r n v)
  else if off = bcOff n 0x08 then some (s.bcPush r n v)
  else none

/-! Boot flash (R565) -/

/-- A `GO` is dropped. (log 207, DEDUCED) -/
def State.xspiDropGo (s : State) (r : Req) (off : Nat) : State :=
  (s.put xspiPage F.XSPI.XSPI_STATE_RESULT 2).stray r (xspiPage + off) true

/-- The controller runs a command or a transfer. -/
def XspiSt.busy (x : XspiSt) : Bool := x.cmd.isSome || x.dma.isSome

/-- A write of `XSPI_CMD`. (log 207, DEDUCED) -/
def State.xspiCmd (s : State) (r : Req) (v : Word) : State :=
  if bit v.toNat 31 = false ∨ s.enabled xspiPage = false then s
  else if s.pad.xspi.busy ∨ 64 < bits v.toNat 6 0 then s.xspiDropGo r 0x104
  else s.modXspi (fun x => { x with cmd := some v })

/-- A write of `XSPI_TXDATA`. -/
def State.xspiPush (s : State) (r : Req) (v : Word) : State :=
  if 60 < s.pad.xspi.tx.length then s.stray r (xspiPage + 0x10C) true
  else s.modXspi (fun x => { x with tx := x.tx ++ natBytes 4 v.toNat })

/-- A write of `DMA_CMD`. -/
def State.dmaCmd (s : State) (r : Req) (v : Word) : State :=
  let n := s.get xspiPage F.XSPI.DMA_LEN
  let a := s.get xspiPage F.XSPI.DMA_DST_LO + s.get xspiPage F.XSPI.DMA_DST_HI_ADDR * 0x100000000
  if bit v.toNat 0 = false ∨ s.enabled xspiPage = false then s
  else if s.pad.xspi.busy ∨ n = 0 ∨ n % 64 ≠ 0 ∨ a % 64 ≠ 0 then s.xspiDropGo r 0x11C
  else s.modXspi (fun x => { x with
    dma := some (s.get xspiPage F.XSPI.XSPI_ADDR, a, n, s.flag xspiPage F.XSPI.DMA_DST_HI_SPACE) })

/-- `PAD.XSPI` writes. -/
def xspiReg (off : Nat) (r : Req) (v : Word) (s : State) : Option State :=
  if off = 0x104 then some (s.xspiCmd r v)
  else if off = 0x10C then some (s.xspiPush r v)
  else if off = 0x11C then some (s.dmaCmd r v)
  else none

/-- A command completes, with the data that it has read. -/
def State.xspiDone (s : State) (d : List Byte) : State :=
  match s.pad.xspi.cmd with
  | none => s
  | some v =>
    let w := v.toNat
    let n := bits w 6 0
    let s := s.modXspi (fun x => { x with
      cmd := none
      tx := if bit w 30 then x.tx.drop n else x.tx
      rx := if bit w 30 then x.rx else fifoIn x.rx (d.take n) })
    ((s.put xspiPage F.XSPI.XSPI_STATE_RESULT 0).stat xspiPage 0).intBit xspiPage 0

/-- A transfer writes its blocks in ascending order, up to the first error response: the bytes written. (log 208, DEDUCED) -/
def State.dmaBlocks (s : State) (a : Nat) (pool : Bool) : Nat → Nat → List Byte → State × Nat × Bool
  | 0, n, _ => (s, n, true)
  | k + 1, n, d =>
    match s.mwrite ⟨0x84, 1, a % (1 <<< 40), 64, true, pool, false⟩ ((d ++ List.replicate 64 0).take 64) with
    | (s, false) => (s, n, false)
    | (s, true) => s.dmaBlocks (a + 64) pool k (n + 64) (d.drop 64)

/-- A transfer ends: the data that the flash has given. (log 208, DEDUCED) -/
def State.dmaDone (s : State) (d : List Byte) : State :=
  match s.pad.xspi.dma with
  | none => s
  | some (f, a, n, pool) =>
    let r := s.dmaBlocks a pool (n / 64) 0 d
    let s := r.1.modXspi (fun x => { x with dma := none })
    let s := (s.put xspiPage F.XSPI.XSPI_STATE_RESULT (if r.2.2 then 0 else 1)).put xspiPage F.XSPI.DMA_DONE r.2.1
    let s := s.put xspiPage F.XSPI.XSPI_ADDR (f + r.2.1)
    ((s.stat xspiPage 1).stat64 xspiPage 2 r.2.1).intBit xspiPage 1

/-- A read of `XSPI_RXDATA`. -/
def State.xspiPop (s : State) : State × Word :=
  (s.modXspi (fun x => { x with rx := x.rx.drop 4 }), BitVec.ofNat 32 (bytesNat (s.pad.xspi.rx.take 4)))

/-! The test access port (R566, R567) -/

/-- The identification register (R567). -/
def State.idcode (s : State) : BitVec 304 := (s.rd (pg 0x00 0 + 0x118)).setWidth 304

/-- n free bits. (log 209, DESIGN CHOICE) -/
def State.freeBits (s : State) : Nat → Nat → State × Nat
  | 0, v => (s, v)
  | n + 1, v => s.tookFree.freeBits n (v * 0x10000000000000000 + s.free.toNat)

/-- What the function of pin i, outside the pads, makes of it (R511): none while no enabled block has taken it; whether
it drives the pin, and the level, none for one that moves while the block runs.  Between two transactions `TCH_CS_N` is
high and `TCH_SCK` low (R231, R232, R265); `HAP_EN` follows R291; a port stopped in STANDBY holds its clock and FS low
(R278, R311); a master clock that is off is low (R331). -/
def State.pinFn (s : State) (i : Nat) : Option (Bool × Option Bool) :=
  if i < 20 then
    if s.enabled (panelPage (i / 5)) = false then none
    else match i % 5 with
      | 0 => some (true, some true)
      | 1 => some (true, some false)
      | 2 => some (true, none)
      | _ => some (false, none)
  else if i < 30 then
    let p := (i - 20) / 5
    if s.enabled (hportPage p) = false then none
    else if 3 ≤ (i - 20) % 5 then some (false, none)
    else some (true, if (s.hpt p).stopped ∧ (i - 20) % 5 < 2 then some false else none)
  else if i < 38 then
    if s.enabled (hchanPage (i - 30)) then some (true, some (s.hapEn (i - 30))) else none
  else if i < 54 then
    let p := (i - 38) / 4
    let k := (i - 38) % 4
    let master := s.af p F.APORT.PORT_CFG_ROLE == 0
    if s.enabled (aportPage p) = false then none
    else if k = 3 ∨ (k < 2 ∧ master = false) then some (false, none)
    else some (true, if k < 2 ∧ s.af p F.APORT.PORT_STATE = 3 then some false else none)
  else if i < 56 then
    if s.enabled aclkPage = false then none
    else some (true, if s.get aclkPage (if i = 54 then F.ACLK.MCLK_CFG_MCLK_SEL_0 else F.ACLK.MCLK_CFG_MCLK_SEL_1) = 0
      then some false else none)
  else if s.enabled xspiPage then some (decide (i < 92), none)
  else none

/-- The three cells of pin i that this model knows: output enable, output and input. (log 209, DESIGN CHOICE) -/
def State.pinCells (s : State) (i : Nat) : Option Bool × Option Bool × Option Bool :=
  if 58 ≤ i ∧ i < 90 then
    let o := s.padOut (i - 58)
    (some o.isSome, some (o.getD false), some (s.padLevel (i - 58)))
  else if i = 57 then
    let low := s.faultLow
    (some low, some false, some (!(low || s.flt.extLow)))
  else if i < 56 ∨ (90 ≤ i ∧ i < 96) then
    match s.pinFn i with
    | some (true, b) => (some true, b, b)
    | some (false, _) => (some false, none, none)
    | none =>
      match s.pinCode i with
      | 4 => (some true, some false, some false)
      | 5 => (some true, some true, some true)
      | _ => (some false, none, none)
  else (none, none, none)

/-- The signals scanned, in order of their cells. -/
def State.scanPins (s : State) : List Nat := (upto 0 100).filter (pinSignal s.part)

/-- The cells as captured: those of pins whose level this model does not hold are free (log 3). -/
def State.scanCapture (s : State) : State × BitVec 304 :=
  let f := s.freeBits 5 0
  let ps := s.scanPins
  let v := (ps.zip (upto 0 ps.length)).foldl (fun (a : List Bool) e =>
    let c := s.pinCells e.1
    a ++ [c.1.getD (bit f.2 (3 * e.2)), c.2.1.getD (bit f.2 (3 * e.2 + 1)), c.2.2.getD (bit f.2 (3 * e.2 + 2))]) []
  let port (p : Nat) : Bool := !(s.port p).perst
  let v := v ++ [!s.rst.resetN, port 0] ++ (if 1 < s.part.hostPorts then [port 1] else []) ++ [s.rst.testEn]
  (f.1, BitVec.ofNat 304 ((v.zip (upto 0 v.length)).foldl (fun a e => a + (b2n e.1 <<< e.2)) 0))

/-- The access port takes an instruction. (log 210, DEDUCED) -/
def State.jtag (s : State) (ir : Nat) (drive : Bool) (out : BitVec 304) : State :=
  s.modPad (fun p => { p with jtag := { p.jtag with ir := ir, drive := drive, out := out } })

/-- SAMPLE/PRELOAD: the pins are captured, and cells are preloaded from `TDI`. -/
def State.jtagSample (s : State) (tdi : BitVec 304) : State :=
  let c := s.scanCapture
  let t := c.1.jtag 0x02 false c.2
  t.modPad (fun p => { p with jtag := { p.jtag with cells := tdi } })

/-- EXTEST: the pins are captured, and then driven from the cells shifted in; while debug is locked it acts as BYPASS. -/
def State.jtagExtest (s : State) (tdi : BitVec 304) : State :=
  if s.flag worldsPage F.WORLDS.DBG_CFG_DBG_LOCK then s.jtag 0x1F false 0
  else
    let c := s.scanCapture
    let t := c.1.jtag 0x00 true c.2
    t.modPad (fun p => { p with jtag := { p.jtag with cells := tdi } })

/-! Sensors (R580) -/

/-- A temperature in 1/8 °C reaches c °C. -/
def reaches (t : BitVec 16) (c : Nat) : Bool := decide ((8 * c : Int) ≤ t.toInt)

/-- The next sample of the four sensors. (log 211, DEDUCED) (log 212, DEDUCED) -/
def State.thermal (s : State) (ts : List (BitVec 16)) : State :=
  if s.mode = .off ∨ s.mode = .backup then s
  else
    let p := pg 0x00 1
    let s := s.waitTo (s.pad.therm.tick + 61440)
    let t (k : Nat) : BitVec 16 := ts.getD k 0
    let s := forL (fun k s => s.put p (F.MODE.TEMP.at k) (t k).toNat) (upto 0 4) s
    let warn := s.get p F.MODE.THERM_CFG_WARN_C
    let hyst := s.get p F.MODE.THERM_CFG_HYST_C
    let trip := s.get p F.MODE.THERM_TRIP
    let x := s.pad.therm
    let hot := (upto 0 4).find? (fun k => reaches (t k) warn)
    let cool := (upto 0 4).all (fun k => decide ((t k).toInt < 8 * ((warn : Int) - hyst)))
    let ovr := BitVec.ofNat 4 (forN (fun k a => a + (b2n (reaches (t k) trip) <<< k)) 4 0)
    let s := match hot with
      | some k => if x.armed then s.hit 3 k else s
      | none => s
    let s := s.modPad (fun q => { q with therm := ⟨s.now, if x.armed then hot.isNone else cool, ovr⟩ })
    forL (fun k s => if bit ovr.toNat k ∧ bit x.ovr.toNat k then s.hit 4 k else s) (upto 0 4) s

end Sys2Proof.Machine
end

