-- ==== Sys2Proof/Machine/ChipOps.lean ====
section
/-! DEFINITION. COLD and WARM resets, their release, power loss, and the load (R20, R21, R489–R494,
R503–R506). -/

namespace Sys2Proof.Machine

/-- The registers that a WARM reset keeps (R490), by page and offset. -/
def warmKeeps (a : Nat) : Bool :=
  let p := pageOf a
  let o := offOf a
  (p == pg 0x00 0 && decide (0x100 ≤ o))
    || (p == otpPage && (decide (0xF00 ≤ o) || (decide (0x184 ≤ o) && decide (o < 0x194))) && o != 0xF08)
    || (p == srcsPage && (o == 0x100 || o == 0x10C))
    || (p == pinmapPage && decide (0xF00 ≤ o))
    || (p == pg 0x01 0 && o == 0x100)
    || (p == divPage && (o == 0x148 || (decide (0x100 ≤ o) && decide (o < 0x120))))
    || (p == logPage && o == 0xEF0)
    || (p == pg 0x01 2 && decide (0x100 ≤ o) && decide (o < 0x800))
    || (p == pg 0x01 3 && decide (0x104 ≤ o) && decide (o < 0x110))
    || (p == measPage && o == 0xF00)
    || (p == mmodePage && o == 0xF04)
    || (p == pg 0x30 5 && o == 0xF04)

/-- The source field of `LAST_CAUSE` and the level, as `BK_STATE` shows them. -/
def causeWord (l : RLevel) (src : Nat) : Word :=
  BitVec.ofNat 32 (((match l with | .warm => 1 | .cold => 3) <<< 8) + src)

/-- `RESET_COUNT` and `LAST_CAUSE` are written (R494, R513). -/
def State.noteReset (s : State) (l : RLevel) (src : Nat) : State :=
  let b := s.backup
  let c := b.count.write [BitVec.ofNat 32 (b.count.word 0 + 1)]
  { s with backup := { b with count := c, cause := b.cause.write [causeWord l src] } }

/-- Every channel page keeps nothing of its own over a chip reset but what the DRAM holds; after WARM every
granule below V counts as swept (R355, R490). -/
def State.sweptAll (s : State) : State :=
  let s := forN (fun k s => s.wr (pg 0x30 5 + 0x100 + 4 * k) 0xFFFFFFFF) 4 s
  s.put (pg 0x30 5) F.DSWEEP.SWEEP_STATE_DONE 1

/-- The levels that others drive on the device's inputs: `PERST#` of each port, the fault input of each haptic port
and the pads; and the test access port, which has a reset of its own (R566). -/
def State.inputsOf (s old : State) : State :=
  let s := s.modPad (fun x => { x with ext := old.pad.ext, jtag := old.pad.jtag })
  let s := forN (fun p s => s.setPort p { PortSt.reset with perst := (old.port p).perst }) 2 s
  forN (fun p s => s.put (hportPage p) F.HPORT.PORT_STATE_FAULT_PIN
    (old.get (hportPage p) F.HPORT.PORT_STATE_FAULT_PIN)) 2 s

/-- State.reset, with what a COLD reset does not touch (R489). -/
def State.coldBase (s : State) : State :=
  { State.reset with
    die := s.die
    freeCtr := s.freeCtr
    power := s.power
    mode := s.mode
    prev := s.prev
    thyme := s.thyme
    otp := s.otp
    backup := s.backup
    host := s.host
    flt := { State.reset.flt with extLow := s.flt.extLow }
    pending := s.pending
    mem := { State.reset.mem with clearing := (upto 0 103).filter (bankPresent s.part) }
    rst := { State.reset.rst with
      resetN := s.rst.resetN, rootAbsent := s.rst.rootAbsent, testEn := s.rst.testEn, loading := false } }

/-- Where a COLD reset leaves everything that it resets (R489). (log 210, DEDUCED) -/
def State.coldState (s : State) : State := s.coldBase.inputsOf s

/-- State.reset, with what a WARM reset does not touch (R489, R490). -/
def State.warmBase (s : State) : State :=
  { State.reset with
    die := s.die
    freeCtr := s.freeCtr
    power := s.power
    mode := s.mode
    prev := s.prev
    epoch := s.now
    thyme := s.thyme
    thymeRun := s.thymeRun
    slewAt := s.slewAt
    regs := s.regs.filter (fun e => warmKeeps e.1)
    otp := s.otp
    winners := s.winners
    pinMap := s.pinMap
    backup := s.backup
    host := s.host
    flt := { State.reset.flt with extLow := s.flt.extLow }
    dram := s.dram
    dc := { DramSt.idle with map := s.dc.map, warm := true, resetN := s.dc.resetN }
    pool := s.pool
    poolChk := s.poolChk
    elog := s.elog
    banks := s.banks.filter (fun e => decide (e.1 < 16))
    mem := { State.reset.mem with clearing := (upto 16 74).filter (bankPresent s.part) }
    restart := { s.restart with run := none }
    rst := { State.reset.rst with
      resetN := s.rst.resetN, rootAbsent := s.rst.rootAbsent, testEn := s.rst.testEn, loading := false, loaded := true }
    pending := s.pending }

/-- Where a WARM reset leaves everything that it resets (R489, R490). (log 225, DEDUCED) -/
def State.warmState (s : State) : State :=
  let res := s.get (pg 0x00 1) F.MODE.MODE_REQUEST_RESULT
  let lock := s.get worldsPage F.WORLDS.DBG_CFG_DBG_LOCK
  let t := (s.warmBase.put (pg 0x00 1) F.MODE.MODE_REQUEST_RESULT res).put worldsPage F.WORLDS.DBG_CFG_DBG_LOCK lock
  let t := forL (fun d t => if domPresent t.part d then t.setClockOk d true else t) domains t
  let ro (x : Fld) (t : State) : State := t.put tmbPage x (s.get tmbPage x)
  let t := ro F.TMB.RING_CFG_MASTER (ro F.TMB.RING_CFG_INDEX t)
  let t := if s.role = 1 then t else t.setRole 0
  let mgr (p : Nat) (t : State) : State := t.put (portPage p) F.HOSTP.PORT_INFO_MGR (s.get (portPage p) F.HOSTP.PORT_INFO_MGR)
  let t := mgr 0 (mgr 1 t)
  t.sweptAll.inputsOf s

/-- A COLD or WARM reset of a source asserts (R21, R493, R494, R508): in LOAD, RECOVERY and SAFE a WARM reset
acts as COLD, and a COLD sequence stays COLD.  A running OTP pulse ends first. (log 232, DEDUCED) `FAULT_N` driven low
stays so for 1 ms. (log 263, DESIGN CHOICE) -/
def State.chipAssert (s : State) (lvl : RLevel) (src : Nat) : State :=
  if s.mode = .off ∨ s.mode = .backup then s
  else if lvl = .warm ∧ s.safeRun ∧ s.mode ≠ .safe ∧ s.trigNow then s
  else
    let cold := lvl == .cold || s.mode == .load || s.mode == .recovery || s.mode == .safe || s.safeRun
      || (match s.rst.chip with | some (.cold, _) => true | _ => false)
    let l : RLevel := if cold then .cold else .warm
    let s := s.otpPulse
    let till := if s.faultLow then some (s.now + 614400) else none
    let s := s.noteReset l src
    let t := if cold then s.coldState else s.warmState
    let t := t.put srcsPage F.SOURCES.SRC_SEEN (1 <<< src)
    let reqs := if cold then [] else s.modeReqs
    { t with rst := { t.rst with chip := some (l, t.now) }, flt := { t.flt with lowTill := till }, modeReqs := reqs, modeTrig := some t.now }

/-- A reset source acts at its level (R491): WARM or COLD resets the device; at DOMAIN level the domain named. -/
def State.sourceActs (s : State) (src : Nat) (dom : Option Nat) (cause : RCause) : State :=
  if s.mode = .off ∨ s.mode = .backup then s
  else if s.mode = .load ∧ 9 ≤ src ∧ src ≤ 12 ∧ s.rst.loaded = false then s
  else match s.srcLevel src with
    | 0 =>
      let s := s.put srcsPage F.SOURCES.SRC_SEEN (s.get srcsPage F.SOURCES.SRC_SEEN ||| (1 <<< src))
      match dom with
      | some d => s.domAssert d cause 0 0
      | none => s
    | 1 => s.chipAssert .warm src
    | _ => s.chipAssert .cold src

/-- A write of `DOMAIN_REQ.GO` by a requester that may (R497): an accepted request is reset source 13 (R491). -/
def State.domRequest (s : State) (r : Req) (d : Nat) : State :=
  let e := if isDomain d = false then rRange
    else if domPresent s.part d = false then rFused
    else if noDomReset.contains d then 0x40
    else if r.tag ≠ 1 ∧ (pagesOf d).any s.secureHold then rHold
    else 0
  let lvl := s.srcLevel 13
  let s := (s.put blockreqPage F.BLOCKREQ.DOMAIN_RESULT_REASON e).put blockreqPage F.BLOCKREQ.DOMAIN_RESULT_DOMAIN d
  if e ≠ 0 then
    let s := s.put blockreqPage F.BLOCKREQ.DOMAIN_RESULT_DONE 1
    if e = rHold then s.holdRecord (s.heldPage d) 3 r else s
  else
    let s := s.put blockreqPage F.BLOCKREQ.DOMAIN_RESULT_DONE 0
    match lvl with
    | 0 => (s.put srcsPage F.SOURCES.SRC_SEEN (s.get srcsPage F.SOURCES.SRC_SEEN ||| (1 <<< 13))).domAssert d .software
        r.rid.toNat 0
    | 1 => s.chipAssert .warm 13
    | _ => s.chipAssert .cold 13

/-- The mode becomes m (R20, R23); `ts` for a transition that `MODE_TS` stamps. -/
def State.enter (s : State) (m : Mode) : State :=
  let s := { s with prev := s.mode, mode := m }
  s.put64 (pg 0x00 1) F.MODE.MODE_TS_LO s.now

/-- BOOT is entered: core 0 is released at the boot ROM (R463, R517), and its tick is kept for the BOOT limit. -/
def State.enterBoot (s : State) : State :=
  let s := s.enter .boot
  ({ s with rst := { s.rst with bootAt := s.now } }).coreStart 0

/-- A chip reset is released when nothing asserts it any more, at least 8,192 ticks after its assertion (R493,
R494, R568): WARM into BOOT; COLD into the relock of the root PLL. (log 225, DEDUCED) -/
def State.chipRelease (s : State) : State :=
  match s.rst.chip with
  | none => s
  | some (l, t) =>
    if s.rst.resetN ∨ s.rst.rootAbsent then s
    else
      let s := s.waitTo (t + 8192)
      match l with
      | .warm =>
        let s := { s with rst := { s.rst with chip := none }, modeReqs := [], modeTrig := none }
        if s.safeRun ∨ s.mode = .safe then s else s.enterBoot.convBegin true
      | .cold =>
        if s.rst.testEn then s
        else { s.put (pg 0x01 0) F.ROOT.ROOT_STATUS_PLL_LOCKED 0 with thymeRun := false }

/-- The root PLL locks (R34, R44, R494): after a COLD reset the device enters LOAD at Thyme 0. (log 47, DEDUCED) (log 263, DESIGN CHOICE) -/
def State.pllLock (s : State) : State :=
  match s.rst.chip with
  | some (.cold, _) =>
    if s.rst.resetN ∨ s.rst.testEn then { s with rst := { s.rst with rootAbsent := false } }
    else
      let s := (s.put (pg 0x01 0) F.ROOT.ROOT_STATUS_PLL_LOCKED 1).put (pg 0x01 0) F.ROOT.ROOT_STATUS_MON_OK 1
      let s := { s with
        thyme := 0
        thymeRun := true
        flt := { s.flt with lowTill := s.flt.lowTill.map (fun _ => 614400) }
        mode := .load
        prev := .load
        rst := { s.rst with chip := none, rootAbsent := false, loading := true } }
      s.put64 (pg 0x00 1) F.MODE.MODE_TS_LO 0
  | _ =>
    if s.flag (pg 0x01 0) F.ROOT.ROOT_STATUS_PLL_LOCKED then s
    else s.put (pg 0x01 0) F.ROOT.ROOT_STATUS_PLL_LOCKED 1

/-- The BASE options take effect (R502, R434): manager port, debug lock, ring index, timebase role and BOOT limit. -/
def State.applyBase (s : State) : State :=
  let b := s.option 1 0 4 1 0
  let s := s.put worldsPage F.WORLDS.DBG_CFG_DBG_LOCK (b2n (bit b 1))
  let mgr := b2n (bit b 0)
  let s := forN (fun p s => s.put (pg (0x06 + p) 0) F.HOSTP.PORT_INFO_MGR (b2n (mgr == p))) 2 s
  let s := (s.put tmbPage F.TMB.RING_CFG_MASTER (b2n (bit b 2))).put tmbPage F.TMB.RING_CFG_INDEX (s.option 1 0 5 1 0)
  let s := if bit b 2 ∧ 0 < s.part.tmbPorts then s.setRole 1 else s
  s.put srcsPage F.SOURCES.BOOT_LIMIT (s.option 1 0 6 2 0)

/-- A load ends (R503–R506): `readErr` when an OTP read reported an error. -/
def State.loadDone (s : State) (readErr : Bool) : State :=
  if s.mode ≠ .load ∨ s.rst.loading = false ∨ s.rst.chip.isSome then s
  else
    let s := s.loadOptions
    if readErr ∨ s.loadBad then
      let n := s.rst.fails + 1
      let s := (s.put otpPage F.OTP.OPT_STATE_FAILS n).put otpPage F.OTP.OPT_STATE_LOADED 0
      let s := ({ s with rst := { s.rst with fails := n, loading := false, loaded := false } }).hit 6 n
      if 3 ≤ n then
        let s := if s.block0Ok then s else s.setDie (16 + s.die % 16)
        let s := { s with winners := [], pinMap := [] }
        let s := s.enter .recovery
        let s := forL (fun d s => s.domAssert d .software 0 0) recoveryHeld s
        s.coreStart 0
      else { s with rst := { s.rst with retryAt := some (s.now + 6144) } }
    else
      let s := s.setDie (s.die % 16)
      let s := (s.put otpPage F.OTP.OPT_STATE_FAILS 0).put otpPage F.OTP.OPT_STATE_LOADED 1
      let s := s.put srcsPage F.SOURCES.SRC_LEVEL (srcLevels s.fuseLevels)
      let s := s.applyBase.loadPins
      let s := { s with rst := { s.rst with fails := 0, loading := false, loaded := true, retryAt := none } }
      if bit (s.option 1 0 4 1 0) 3 then { s with rst := { s.rst with bist := true } } else s.enterBoot

/-- The next load starts 6,144 ticks after a failed one (R504). -/
def State.loadRetry (s : State) : State :=
  match s.rst.retryAt with
  | none => s
  | some t =>
    if s.mode ≠ .load then s
    else
      let s := s.waitTo t
      { s with rst := { s.rst with retryAt := none, loading := true } }

/-- The built-in memory test ends (R370, R374, R503): every tested bank is bulk-cleared, and BOOT follows. -/
def State.bistDone (s : State) : State :=
  if s.rst.bist = false then s
  else
    let s := { s with rst := { s.rst with bist := false } }
    (forL (fun b s => s.bulkClear b) ((upto 0 103).filter (bankPresent s.part)) s).enterBoot

/-- A main supply is lost (R20, R508, R521): everything but the backup domain, the OTP and the outside goes. (log 46, DEDUCED) -/
def State.supplyLost (s : State) : State :=
  if s.mode = .off ∨ s.mode = .backup then s
  else
    let s := s.otpCut
    let m : Mode := if s.power.vbak then .backup else .off
    let t := s.coldState
    { t with
      mode := m
      prev := .load
      thymeRun := false
      power := { s.power with main := false }
      rst := { t.rst with chip := none } }

/-- The main supplies become good and the power-on reset is released (R20, R34, R513): a COLD reset of source 0,
whose domains wait for the root PLL. -/
def State.supplyGood (s : State) : State :=
  if s.mode = .off ∨ s.mode = .backup then
    let fromBk := s.mode == .backup
    let s := { s with power := { s.power with main := true }, mode := .load, prev := .load }
    let s := { s with backup := { s.backup with fromBackup := fromBk } }
    let r := s.backup.restarts
    let s := { s with backup := { s.backup with restarts := if r.cur.isNone then r.write [0] else r } }
    let s := (s.noteReset .cold 0).coldState
    let s := s.put srcsPage F.SOURCES.SRC_SEEN 1
    let s := s.put (pg 0x01 0) F.ROOT.ROOT_STATUS_PLL_LOCKED 0
    { s with thyme := 0, thymeRun := false, rst := { s.rst with chip := some (.cold, 0) } }
  else s

/-- A write of `SW_RESET` (R495, R496) by a writer that may. -/
def State.swReset (s : State) (r : Req) (v : Word) : State :=
  let n := v.toNat
  if bits n 31 16 ≠ 0x5253 then s.stray r (srcsPage + 0x108) true
  else match bits n 1 0 with
    | 1 => s.sourceActs 4 none .software
    | 3 => s.sourceActs 3 none .software
    | _ => s

/-- The requester may write `SW_RESET` (R496). -/
def State.mayReset (s : State) (r : Req) : Bool :=
  r.tag == 1 || (r.tag == 0x010 && (s.flag srcsPage F.SOURCES.RST_CFG || s.mode == .safe))

end Sys2Proof.Machine
end

