-- ==== Sys2Proof/Machine/FaultOps.lean ====
section
/-! DEFINITION. The fault collector: acceptance, capture and merging, reactions and their ends, injection,
and the entry into the safe state (R469–R486). -/

namespace Sys2Proof.Machine

/-- The domain word of a capture record: the observed domain beside home, else home. -/
def State.domObserved (s : State) (home src arg : Nat) : Nat := (s.observed2 src arg).getD home

/-- The words of a capture record of an event (R481), with the reactions that it starts. -/
def State.writeRecord (s : State) (v : Nat) (e : Ev) (home sev : Nat) : State :=
  let w (j x : Nat) (s : State) : State := s.setSlot v j x
  let s := w 0 (0x80000000 + (e.acc <<< 27) + (sev <<< 20) + e.src) s
  let s := w 1 ((e.rid <<< 24) + e.tag) s
  let s := w 2 (e.addr % 0x100000000) s
  let s := w 3 (((e.arg % 65536) <<< 16) + ((s.domObserved home e.src e.arg % 256) <<< 8) + bits e.addr 39 32) s
  let s := w 4 (s.now % 0x100000000) s
  let s := w 5 (s.now / 0x100000000) s
  let s := forN (fun j s => s.setSlot v (6 + j) 0) 4 s
  let s := w 10 (s.backup.count.word 0) s
  w 11 s.mode.code s

/-- `LAST_TS` and `LAST_SRC` of a slot. -/
def State.lastEvent (s : State) (v src : Nat) : State :=
  let s := (s.setSlot v 6 (s.now % 0x100000000)).setSlot v 7 (s.now / 0x100000000)
  s.setSlot v 9 ((s.slotWord v 9 &&& 0xFFFF0000) + src)

/-- `MERGE_COUNT` + 1. -/
def State.mergeInto (s : State) (v src : Nat) : State :=
  (s.setSlot v 8 (sat 0xFFFFFFFF (s.slotWord v 8 + 1))).lastEvent v src

/-- `UNCAPTURED` + 1. -/
def State.uncaptured (s : State) (v src : Nat) : State :=
  let w := s.slotWord v 9
  (s.setSlot v 9 ((sat 0xFFFF (bits w 31 16 + 1) <<< 16) + w % 512)).lastEvent v src

/-- The first-fault record (R514): words 0–11 of a capture record, and `SECURE_RESTARTS`. (log 51, DEDUCED) -/
def State.writeFF (s : State) (l : List Nat) : State :=
  let v := (l.map (BitVec.ofNat 32)) ++ [BitVec.ofNat 32 (s.backup.restarts.word 0)]
  { s with backup := { s.backup with ff := s.backup.ff.write v } }

/-- The words 0–11 of slot v. -/
def State.slotWords (s : State) (v : Nat) : List Nat := (upto 0 12).map (s.slotWord v)

/-- The cores that an N reaction traps (R473). -/
def State.nmiTargets (s : State) : List Nat :=
  (upto 0 4).filter (fun c => bit (s.get fcollPage F.FCOLL.COLL_CFG) c && decide (s.coreState c ≠ 0))

/-- A trap with cause 0x30; a stalled core takes it when it resumes. -/
def State.nmiTrap (s : State) (c : Nat) : State :=
  let x := s.core c
  let s := s.setCore c { x with traps := x.traps ++ [0x30] }
  let s := s.put fcollPage F.FCOLL.COLL_STATE_NMI_OPEN (s.get fcollPage F.FCOLL.COLL_STATE_NMI_OPEN ||| (1 <<< c))
  if s.coreState c = 3 then s
  else (s.put (corePage c) F.CORE.CORE_STATE_PRIV 3).put (corePage c) F.CORE.CORE_STATE_STATE 1

/-- The B reaction of a source's event in slot v (R473): a domain that a reaction already holds is joined. -/
def State.startB (s : State) (v src : Nat) (t : BTarget) : State :=
  let add (s : State) (start : Nat) : State :=
    { s with flt := { s.flt with breacts := s.flt.breacts ++ [⟨v, t, start, none⟩] } }
  match t with
  | .none => s.endReact v reB
  | .domain d =>
    match s.flt.breacts.find? (fun b => b.tgt == t && b.rel.isNone) with
    | some b => add s b.start
    | none => add (s.domAssert d .fault 0 src) s.now
  | .core c => add (s.coreHalt c) s.now
  | .secure =>
    let s := add s s.now
    s.secureTrigger .lockstep

/-- The reactions of an event start, in the order P, I, N, B, C (R473). -/
def State.startReactions (s : State) (v src : Nat) (t : BTarget) (re : Nat) : State :=
  let s := if re &&& reP ≠ 0 then s.put fcollPage F.FCOLL.COLL_STATE_PIN_DRIVEN 1 else s
  let s := if re &&& reI ≠ 0 then s.intBit fcollPage v else s
  let s :=
    if re &&& reN ≠ 0 then
      let l := s.nmiTargets
      let s := forL (fun c s => s.nmiTrap c) l s
      if l = [] then s.endReact v reN else s
    else s
  let s := if re &&& reB ≠ 0 then s.startB v src t else s
  if re &&& reC ≠ 0 then s.sourceActs 5 none .fault else s

/-- The FAULT record (R478). -/
def State.faultRecord (s : State) (e : Ev) (home sev outcome re stamp : Nat) : State :=
  if home ≤ 5 then s
  else s.jrec 0 0x0030 fcollPage stamp (jpay [(16, 2, e.src), (18, 1, sev), (19, 1, outcome), (20, 1, re), (21, 1, e.rid),
    (22, 2, e.arg), (24, 5, e.addr)])

/-- The next aggregator in round-robin order (R469) with an event. -/
def State.nextAggr (s : State) : Option Nat :=
  let busy := fun d => !(s.aggr d).isEmpty
  (domains.find? (fun d => decide (s.flt.rr ≤ d) && busy d)) <|> domains.find? busy

/-- Acceptance of an event outside the masking windows (R475), up to the reactions it calls for. -/
def State.capture475 (s : State) (e : Ev) (home sev req : Nat) : State × Nat × Nat :=
  let act := s.active sev
  if act ≠ 0 then (((s.mergeInto sev e.src).stat fcollPage 4), 1, req &&& (31 ^^^ act))
  else if s.slotValid sev then (((s.uncaptured sev e.src).stat fcollPage 6), 2, req)
  else
    ((s.writeRecord sev e home sev).setValid sev true, 0, req)

/-- The collector accepts the next event (R475). -/
def State.acceptEvent (s : State) : State :=
  if s.flt.dead ∨ s.mode = .off ∨ s.mode = .backup then s
  else match s.nextAggr with
    | none => s
    | some d =>
      match s.aggr d with
      | [] => s
      | e :: rest =>
        let s := s.setAggr d rest
        let s := { s with flt := { s.flt with rr := d + 1 } }
        let s := s.put (srcBank e.src) (F.FBANK.SRC_COUNT_PENDING.at (e.src % 48)) 0
        match srcInfo e.src with
        | none => s
        | some i =>
          let cfg := s.srcCfg e.src
          let sev := bits cfg 7 6
          let s := (s.stat fcollPage sev).stat (srcBank e.src) 0
          match s.maskedBy i.home e.src e.arg with
          | some b => (s.mergeInto b.slot e.src).stat fcollPage 5
          | none =>
            let req := (cfg % 32) ||| (if e.src = 13 ∧ e.arg = 1 then reC else 0)
            let a := s.now
            let x := s.capture475 e i.home sev req
            let s := x.1
            let s := s.setActive sev (s.active sev ||| x.2.2)
            let w := s.slotWord sev 0
            let s := s.setSlot sev 0 (w ||| (x.2.2 <<< 22))
            let s := if x.2.1 = 0 ∧ 2 ≤ sev ∧ s.backup.ff.cur.isNone then s.writeFF (s.slotWords sev) else s
            let s := s.faultRecord e i.home sev x.2.1 x.2.2 a
            if x.2.2 = 0 then s else (s.waitTo (a + 3)).startReactions sev e.src i.blk x.2.2

/-- The hold of a B reaction ends (R473): the domain is released under R40, or the core starts again. -/
def State.bHoldEnd (s : State) : State :=
  match s.flt.breacts.find? (fun b => b.rel.isNone && b.tgt != .secure) with
  | none => s
  | some b =>
    match b.tgt with
    | .domain d => (s.waitTo (b.start + 3072)).domHoldEnd d
    | .core c =>
      let s := (s.waitTo (b.start + 3072)).coreStart c
      let t := s.now
      let l := s.flt.breacts.map (fun x => if x.tgt == b.tgt && x.rel.isNone then { x with rel := some t } else x)
      { s with flt := { s.flt with breacts := l } }
    | _ => s

/-- `MASKED` of the sources that no window masks any more. -/
def State.unmask (s : State) : State :=
  forN (fun n s =>
    match srcInfo n with
    | some i =>
      let x := F.FBANK.SRC_COUNT_MASKED.at (n % 48)
      if s.flag (srcBank n) x ∧ (s.maskedBy i.home n 0).isNone then s.put (srcBank n) x 0 else s
    | none => s) 274 s

/-- A masking window ends 64 ticks after the release (R473, R477). -/
def State.windowEnd (s : State) : State :=
  match s.flt.breacts.find? (fun b => b.rel.isSome) with
  | none => s
  | some b =>
    let s := s.waitTo (b.rel.getD 0 + 64)
    (s.endB b.tgt).unmask

/-- A write of `NMI_ACK` by a core (R480): its own bit counts. -/
def State.nmiAck (s : State) (r : Req) (v : Word) : State :=
  let c := r.rid.toNat - 0x80
  if 0x80 ≤ r.rid.toNat ∧ r.rid.toNat ≤ 0x83 ∧ bit v.toNat c then
    let o := s.get fcollPage F.FCOLL.COLL_STATE_NMI_OPEN
    let s := s.put fcollPage F.FCOLL.COLL_STATE_NMI_OPEN (o &&& (15 ^^^ (1 <<< c)))
    if o ≠ 0 ∧ s.get fcollPage F.FCOLL.COLL_STATE_NMI_OPEN = 0 then s.endReactAll reN else s
  else s

/-- `PIN_CTRL.RELEASE` (R473, R480). -/
def State.pinRelease (s : State) : State := (s.put fcollPage F.FCOLL.COLL_STATE_PIN_DRIVEN 0).endReactAll reP

/-- `INJECT.GO` (R480): a hit of the source's detector. -/
def State.inject (s : State) (r : Req) (v : Word) : State :=
  let n := bits v.toNat 8 0
  if (srcInfo n).isNone ∨ 383 ≤ n then s.stray r (fcollPage + 0x110) true else s.hit n (bits v.toNat 24 9)

/-- `SLOT_CLEAR` (R481). -/
def State.slotClear (s : State) (v : Word) : State :=
  forN (fun k s =>
    if bit v.toNat k ∧ s.active k = 0 then forN (fun j s => s.setSlot k j 0) 16 (s.setValid k false) else s) 4 s

/-- The safe state begins at T (R483–R485): cause 1 mismatch, 2 mode request, 3 injection. (log 37, DEDUCED) (log 58, DEDUCED) -/
def State.safeBegin (s : State) (cause mismatch : Nat) : State :=
  let s := (s.put fsafePage F.FSAFE.SAFE_STATE_ACTIVE 1).put fsafePage F.FSAFE.SAFE_STATE_CAUSE cause
  let s := s.put fsafePage F.FSAFE.MISMATCH_WORD mismatch
  let s := s.put64 fsafePage F.FSAFE.SAFE_TS_LO s.now
  { s.triggered with safeRun := true, stby := .none }

/-- A collector self-fault (R483): the collector stops, and the first-fault record takes source 383 whatever
it held. (log 232, DEDUCED) -/
def State.selfFault (s : State) (cause mismatch : Nat) : State :=
  if s.mode = .off ∨ s.mode = .backup ∨ s.flt.dead then s
  else match s.rst.chip with
    | some (.cold, _) => s
    | _ =>
      let s := s.safeBegin cause mismatch
      let s := { s with flt := { s.flt with dead := true } }
      s.writeFF [0x80000000 + (3 <<< 20) + 383, s.owner fcollPage, 0, (mismatch <<< 16) + (3 <<< 8), s.now % 0x100000000,
        s.now / 0x100000000, 0, 0, 0, 0, s.backup.count.word 0, s.mode.code]

/-- `FLT.CONTROL`. -/
def fcollReg (off : Nat) (r : Req) (v : Word) (s : State) : Option State :=
  let n := v.toNat
  if off = 0x108 then some (s.nmiAck r v)
  else if off = 0x10C then some (if bit n 0 then s.pinRelease else s)
  else if off = 0x110 then some (if bit n 31 then s.inject r v else s)
  else if off = 0x114 then some (if n % 65536 = 0x5AFE then s.selfFault 3 0x045 else s)
  else none

/-- `FLT.CAPTURE`. -/
def fcapReg (off : Nat) (_r : Req) (v : Word) (s : State) : Option State :=
  if off = 0x200 then some (s.slotClear v) else none

end Sys2Proof.Machine
end

