-- ==== Sys2Proof/Machine/PotOps.lean ====
section
/-! DEFINITION. The end of an ownership-table command (R441, R442), and requests to the DRAM controller as the checker
judges them (R346, R437). -/

namespace Sys2Proof.Machine

/-- A request to DRAM is judged (R437): a refused one, and one that names another device (R533), is answered with an
error. -/
def State.dramJudge (s : State) (rq : MemRq) (stream : Nat) (data : List Byte) : State :=
  match s.judge rq with
  | (s, none) => s.dramReply rq stream false []
  | (s, some _) => if remoteAddr rq.addr then s.dramReply rq stream false [] else s.dramArrive rq stream data

/-- A request reaches the checker before DRAM (R437, R441): while a command changes one of its pages, it waits. (log 38, DEDUCED) -/
def State.dramRequest (s : State) (rq : MemRq) (stream : Nat) (data : List Byte) : State :=
  if rq.bytes = 0 ∨ (rq.write ∧ data.length ≠ rq.bytes) then s
  else
    let s := s.dramNote rq stream
    if s.potBlocks rq then { s with potWait := s.potWait ++ [⟨rq, stream, data, 0, s.now, false, false⟩] }
    else s.dramJudge rq stream data

/-- A cached block of the table with the entries [i, i + n) replaced by v. -/
def potReplace (i n v : Nat) (e : Nat × BitVec 512) : Nat × BitVec 512 :=
  (e.1, BitVec.ofNat 512 (forN (fun k a =>
    let x := 16 * e.1 + k
    let old := bits e.2.toNat (32 * k + 31) (32 * k)
    a + ((if i ≤ x ∧ x < i + n then v else old) <<< (32 * k))) 16 0))

/-- A `WRITE` command completes (R441, R442): the entries are written, cached copies replaced, the waiting requests
judged, and the OWNERSHIP_CHANGE records written. (log 38, DEDUCED) -/
def State.potDone (s : State) : State :=
  match s.potRun with
  | none => s
  | some c =>
    let h0 := c.index / 2
    let x := s.potPutEntries c.index c.count c.value.toNat (upto h0 ((c.index + c.count - 1) / 2 + 1 - h0))
    let s := x.1
    let s := { s with
      potRun := none
      potCache := s.potCache.map (potReplace c.index c.count c.value.toNat) }
    let s := (s.put potPage F.POT.POT_RESULT_BUSY 0).put potPage F.POT.POT_RESULT_REASON (if x.2.1 then 0x44 else 0)
    let s := forN (fun t s => s.ownRecord c (entryTens c.value.toNat) x.2.2 t) 16 s
    let l := s.potWait
    forL (fun q s => s.dramJudge q.rq q.stream q.data) l { s with potWait := [] }

end Sys2Proof.Machine
end

