-- ==== Sys2Proof/Machine/Fp32.lean ====
section
/-! DEFINITION. FP32 arithmetic with round to nearest even, and the conversion of samples (R193, R204): a finite number is
an integer multiple of a power of two, every result is the exact one rounded once. -/

namespace Sys2Proof.Machine

/-- a / b rounded to the nearest integer, ties to even. -/
def rne (a b : Nat) : Nat :=
  let q := a / b
  let r := 2 * (a % b)
  if b < r ∨ (r = b ∧ q % 2 = 1) then q + 1 else q

/-- The number nearest to n / d in a format of p fraction bits whose least number is 2^-u and whose exponent field ends at
`top`: its bits without the sign. -/
def fltRound (p u top n d : Nat) : Nat :=
  let x := n * 2 ^ u
  let k := (x / d).log2
  let sh := if p < k then k - p else 0
  min (top * 2 ^ p) (sh * 2 ^ p + rne x (d * 2 ^ sh))

/-- The FP32 number nearest to n / d. -/
def fpRound (n : Int) (d : Nat) : Nat :=
  (if n < 0 then 0x80000000 else 0) + fltRound 23 149 255 n.natAbs d

/-- Infinity or not a number. -/
def fpWild (b : Nat) : Bool := b / 0x800000 % 256 == 255

/-- A finite FP32 number in units of 2^-149. -/
def fpInt (b : Nat) : Int :=
  let m := b % 0x800000
  let e := b / 0x800000 % 256
  let a : Nat := if e = 0 then m else (m + 0x800000) * 2 ^ (e - 1)
  if bit b 31 then -(a : Int) else a

/-- The quiet not-a-number. -/
def fpNan : Nat := 0x7FC00000

/-- Sum and product. -/
def fpAdd (a b : Nat) : Nat :=
  if fpWild a ∨ fpWild b then (if fpWild a ∧ fpWild b ∧ a ≠ b then fpNan else if fpWild a then a else b)
  else fpRound (fpInt a + fpInt b) (2 ^ 149)
def fpMul (a b : Nat) : Nat :=
  if fpWild a ∨ fpWild b then fpNan else fpRound (fpInt a * fpInt b) (2 ^ 298)

/-- An unsigned normalised value of n bits as FP32, and back, clamped and rounded to nearest even. -/
def fpOfUnorm (n v : Nat) : Nat := fpRound v (2 ^ n - 1)
def fpToUnorm (n b : Nat) : Nat :=
  if bit b 31 then 0 else if fpWild b then (if b % 0x800000 = 0 then 2 ^ n - 1 else 0)
  else min (2 ^ n - 1) (rne ((fpInt b).toNat * (2 ^ n - 1)) (2 ^ 149))

/-- Half precision as FP32, and back. -/
def fpOfHalf (h : Nat) : Nat :=
  let m := h % 1024
  let e := h / 1024 % 32
  let s := if bit h 15 then 0x80000000 else 0
  if e = 31 then s + 0x7F800000 + m * 0x2000
  else s + fltRound 23 149 255 (if e = 0 then m else (m + 1024) * 2 ^ (e - 1)) (2 ^ 24)
def fpToHalf (b : Nat) : Nat :=
  (if bit b 31 then 0x8000 else 0) +
    (if fpWild b then 0x7C00 + (if b % 0x800000 = 0 then 0 else 0x200)
     else fltRound 10 24 31 (fpInt b).natAbs (2 ^ 149))

/-- The FP32 mean of values: their sum in order, times the reciprocal of their number, a power of two. -/
def fpMean (l : List Nat) : Nat := fpMul (l.foldl fpAdd 0) (fpRound 1 (max 1 l.length))

/-- The channels of a colour format (R105) as lowest bit and width; 16-bit channels of format 7 are half precision. -/
def fmtChans (f : Nat) : List (Nat × Nat) :=
  if f < 4 then [(0, 8), (8, 8), (16, 8), (24, 8)]
  else if f = 4 then [(0, 5), (5, 6), (11, 5)]
  else if f = 5 then [(0, 10), (10, 10), (20, 10), (30, 2)]
  else [(0, 16), (16, 16), (32, 16), (48, 16)]

/-- A stored pixel from its samples (R193): the FP32 mean of each channel, rounded to the format. -/
def meanColour (f : Nat) (l : List Nat) : Nat :=
  (fmtChans f).foldl (fun a (c : Nat × Nat) =>
    let v := l.map (fun x => x / 2 ^ c.1 % 2 ^ c.2)
    let m := if f = 7 then fpToHalf (fpMean (v.map fpOfHalf)) else fpToUnorm c.2 (fpMean (v.map (fpOfUnorm c.2)))
    a + m * 2 ^ c.1) 0

/-- A stored depth value from its samples; the stencil is that of the first sample. (log 243, DEDUCED) -/
def meanDepth (f : Nat) (l : List Nat) : Nat :=
  if f = 1 then fpToUnorm 16 (fpMean (l.map (fpOfUnorm 16)))
  else if f = 2 then
    fpToUnorm 24 (fpMean (l.map (fun x => fpOfUnorm 24 (x % 0x1000000)))) + l.headD 0 / 0x1000000 * 0x1000000
  else fpMean l

end Sys2Proof.Machine
end

