-- ==== Sys2Proof/Machine/Texture.lean ====
section
/-! DEFINITION. The texture unit and the buffers of a shader core: descriptors and their layout (R196), texel formats
(R203), filtering (R204), and what a shader's accesses read and write. -/

namespace Sys2Proof.Machine

/-! Texel formats (R203) -/

/-- Columns and rows of the ASTC blocks, in the order of the format values. -/
def astcBlocks : List (Nat × Nat) :=
  [(4, 4), (5, 4), (5, 5), (6, 5), (6, 6), (8, 5), (8, 6), (8, 8), (10, 5), (10, 6), (10, 8), (10, 10), (12, 10), (12, 12)]

/-- Columns, rows and bytes of a block of a format; a texel of an uncompressed format is a block of its own. -/
def texBlock (f : Nat) : Nat × Nat × Nat :=
  if f = 0x01 then (1, 1, 1)
  else if f = 0x02 ∨ f = 0x06 ∨ f = 0x08 ∨ f = 0x10 then (1, 1, 2)
  else if f = 0x0A ∨ f = 0x0C then (1, 1, 8)
  else if f = 0x0D then (1, 1, 16)
  else if f < 0x20 then (1, 1, 4)
  else if f < 0x80 then (4, 4, if f = 0x22 ∨ f = 0x23 ∨ f = 0x26 then 16 else 8)
  else
    let b := astcBlocks.getD (f % 16) (4, 4)
    (b.1, b.2, 16)

/-- The fifth root of n, rounded down, from its bits below k and a lower bound r. -/
def root5 (n : Nat) : Nat → Nat → Nat
  | 0, r => r
  | k + 1, r => root5 n k (if (r + 2 ^ k) ^ 5 ≤ n then r + 2 ^ k else r)

/-- An 8-bit sRGB code as FP32, by the IEC 61966-2-1 curve and rounded once (R204): c / 12.92 up to 0.04045, and
((c + 0.055) / 1.055)^2.4 above, whose fifth power is rational. (log 259, PRESUMED) -/
def fpOfSrgb (v : Nat) : Nat :=
  if v ≤ 10 then fpRound (25 * v) (255 * 323)
  else if 255 ≤ v then fpRound 1 1
  else fpRound (2 * root5 ((200 * v + 2805) ^ 12 * 2 ^ 200 / 53805 ^ 12) 41 0 + 1) (2 ^ 41)

/-- The number 1. -/
def fpOne : Nat := 0x3F800000

/-- Channels that a format does not have: 0, and 1 for alpha. (log 259, PRESUMED) -/
def texFill (l : List Nat) : List Nat := l ++ [0, 0, 0, fpOne].drop l.length

/-- The channels of an uncompressed texel, as FP32. -/
def texChans (f w : Nat) : List Nat :=
  let u (n i : Nat) : Nat := fpOfUnorm n (w / 2 ^ i % 2 ^ n)
  let h (i : Nat) : Nat := fpOfHalf (w / 2 ^ i % 0x10000)
  let r (i : Nat) : Nat := w / 2 ^ i % 0x100000000
  let g (i : Nat) : Nat := fpOfSrgb (w / 2 ^ i % 256)
  match f with
  | 0x01 => [u 8 0]
  | 0x02 => [u 8 0, u 8 8]
  | 0x03 => [u 8 0, u 8 8, u 8 16, u 8 24]
  | 0x04 => [g 0, g 8, g 16, u 8 24]
  | 0x05 => [u 8 16, u 8 8, u 8 0, u 8 24]
  | 0x06 => [u 5 11, u 6 5, u 5 0]
  | 0x07 => [u 10 0, u 10 10, u 10 20, u 2 30]
  | 0x08 => [h 0]
  | 0x09 => [h 0, h 16]
  | 0x0A => [h 0, h 16, h 32, h 48]
  | 0x0B => [r 0]
  | 0x0C => [r 0, r 32]
  | 0x0D => [r 0, r 32, r 64, r 96]
  | 0x10 => [u 16 0]
  | _ => [r 0]

/-- The channels of texel (x, y) of a compressed block, as FP32: a block of ASTC that is HDR or 3D is opaque magenta.
(log 257, DESIGN CHOICE) -/
def blockChans (f w x y : Nat) : List Nat :=
  let n := if f = 0x25 then 1 else if f = 0x26 then 2 else if f = 0x20 ∨ f = 0x21 then 3 else 4
  if 0x80 ≤ f ∧ Config.astcForeign (BitVec.ofNat 128 w) then [fpOne, 0, fpOne, fpOne]
  else (upto 0 n).map (fun c => (Config.blockTexel f (BitVec.ofNat 128 w) x y c).toNat)

/-- The four channels of texel (x, y) of a block. -/
def texelOf (f w x y : Nat) : List Nat := texFill (if f < 0x20 then texChans f w else blockChans f w x y)

/-! Texture descriptors (R196) -/

/-- Base, space, type, format, mip levels, and columns, rows and slices of level 0. -/
def texBase (d : Nat) : Nat := byteF d 0 5
def texPool (d : Nat) : Bool := bit (byteF d 5 1) 7
def texType (d : Nat) : Nat := byteF d 5 1 % 8
def texFmt (d : Nat) : Nat := byteF d 6 1
def texMips (d : Nat) : Nat := byteF d 7 1
def texCols (d l : Nat) : Nat := max 1 ((byteF d 8 2 + 1) >>> l)
def texRows (d l : Nat) : Nat := max 1 ((byteF d 10 2 + 1) >>> l)

/-- Slices or layers of level l: the depth of a 3D texture halves with the level. (log 259, PRESUMED) -/
def texSlices (d l : Nat) : Nat :=
  if texType d = 2 then max 1 ((byteF d 12 2 + 1) >>> l) else if texType d = 0 then 1 else byteF d 12 2 + 1

/-- Bytes of a row of blocks, padded to 64, and of a slice, padded to 256. -/
def texRow (d l : Nat) : Nat := cdiv (cdiv (texCols d l) (texBlock (texFmt d)).1 * (texBlock (texFmt d)).2.2) 64 * 64
def texSlice (d l : Nat) : Nat := cdiv (texRow d l * cdiv (texRows d l) (texBlock (texFmt d)).2.1) 256 * 256

/-- Where level l begins, from the base. -/
def texLevel (d : Nat) : Nat → Nat
  | 0 => 0
  | l + 1 => texLevel d l + texSlice d l * texSlices d l

/-- The address of the block that holds texel (x, y) of slice z of level l. -/
def texAddr (d l x y z : Nat) : Nat :=
  let b := texBlock (texFmt d)
  texBase d + texLevel d l + z * texSlice d l + y / b.2.1 * texRow d l + x / b.1 * b.2.2

/-- The swizzle: each result channel takes a channel, 0 or 1. -/
def texSwizzle (d : Nat) (l : List Nat) : List Nat :=
  (upto 0 4).map (fun c =>
    let k := byteF d 14 2 / 8 ^ c % 8
    if k < 4 then l.getD k 0 else if k = 5 then fpOne else 0)

/-! Samplers (R196, R204) -/

/-- Filters, mip mode, anisotropy limit, address mode of axis a, LOD bias and limits, compare, and border. -/
def smpLinear (d : Nat) (min : Bool) : Bool := (if min then byteF d 0 1 / 4 % 4 else byteF d 0 1 % 4) == 1
def smpMip (d : Nat) : Nat := byteF d 0 1 / 16 % 4
def smpAniso (d : Nat) : Nat := byteF d 1 1
def smpMode (d a : Nat) : Nat := if a = 0 then byteF d 2 1 % 8 else if a = 1 then byteF d 2 1 / 8 % 8 else byteF d 3 1 % 8
def smpBias (d : Nat) : Int := (BitVec.ofNat 16 (byteF d 4 2)).toInt
def smpMin (d : Nat) : Nat := byteF d 6 2
def smpMax (d : Nat) : Nat := byteF d 8 2
def smpCompare (d : Nat) : Nat := byteF d 10 1
def smpBorder (d : Nat) : List Nat :=
  match byteF d 11 1 with
  | 0 => [0, 0, 0, 0]
  | 1 => [0, 0, 0, fpOne]
  | _ => [fpOne, fpOne, fpOne, fpOne]

/-- Every field of a sampler has one of the values that R196 lists. -/
def smpOk (d : Nat) : Bool :=
  decide (byteF d 0 1 % 4 ≤ 1) && decide (byteF d 0 1 / 4 % 4 ≤ 1) && decide (smpMip d ≤ 2) && decide (smpAniso d ≤ 4)
    && (upto 0 3).all (fun a => decide (smpMode d a ≤ 4)) && decide (smpCompare d ≤ 8) && decide (byteF d 11 1 ≤ 2)

/-- The texel that an address mode takes for coordinate i of n; none: the border. -/
def smpWrap (m n : Nat) (i : Int) : Option Nat :=
  let edge (j : Int) : Nat := min (n - 1) j.toNat
  match m with
  | 0 => some (i % (n : Int)).toNat
  | 1 =>
    let j := (i % (2 * n : Int)).toNat
    some (if j < n then j else 2 * n - 1 - j)
  | 2 => some (edge i)
  | 3 => if 0 ≤ i ∧ i < (n : Int) then some i.toNat else none
  | _ => some (edge (if i < 0 then -1 - i else i))

/-- n / d rounded to the nearest integer, ties to even, for a signed n. -/
def rneInt (n : Int) (d : Nat) : Int :=
  let q := n / (d : Int)
  let r := 2 * (n % (d : Int)).toNat
  if d < r ∨ (r = d ∧ q % 2 = 1) then q + 1 else q

/-- The texels of one axis of n texels that a coordinate takes, with their weights in 256ths (R204): two with an 8-bit
fraction for a linear filter, one for nearest. -/
def smpTaps (linear : Bool) (u n : Nat) : List (Int × Nat) :=
  if linear then
    let t := rneInt (2 * fpInt u * (n : Int) - 2 ^ 149) (2 ^ 142)
    [(t / 256, 256 - (t % 256).toNat), (t / 256 + 1, (t % 256).toNat)]
  else [(fpInt u * (n : Int) / 2 ^ 149, 256)]

/-- `VkCompareOp` on FP32 numbers. -/
def fpCompare (op a b : Nat) : Bool :=
  let x := fpInt a
  let y := fpInt b
  (bit op 0 && decide (x < y)) || (bit op 1 && x == y) || (bit op 2 && decide (y < x))

/-- The probes of an anisotropic filter, as log2 (R204): the least power of two not below major / minor, the sampler's
limit and the device's cap. -/
def probesLog (smp cap major minor : Nat) : Nat :=
  let k := ((upto 0 4).find? (fun k => decide (fpInt major ≤ fpInt minor * 2 ^ k))).getD 4
  min k (min (smpAniso smp) cap)

/-- The LOD in 256ths (R204): log2 of major / N, with the bias added, inside the sampler's limits. (log 258, DESIGN CHOICE) -/
def lodOf (smp major k : Nat) : Nat :=
  let m := fpRound (fpInt major) (2 ^ (149 + k))
  let b := fpAdd (Config.log2Fp (BitVec.ofNat 32 m)).toNat (fpRound (smpBias smp) 256)
  if fpWild b then (if bit b 31 then smpMin smp else max (smpMin smp) (smpMax smp))
  else
    let q := rneInt (fpInt b * 256) (2 ^ 149)
    if q ≤ (smpMin smp : Int) then smpMin smp else if (smpMax smp : Int) ≤ q then smpMax smp else q.toNat

/-! Samples -/

/-- What a shader core's accesses are made with: job, requester, owner tag and ways; heap of descriptors; the device's
anisotropy cap. -/
structure ShCtx where
  job : Nat
  rid : Nat
  tag : Nat
  ways : Nat
  heap : Nat
  slots : Nat
  cap : Nat

/-- n bytes of DRAM or Tidepool. -/
def ShCtx.read (g : ShCtx) (s : State) (pool : Bool) (a n : Nat) : State × List Byte :=
  let r := s.gread g.job g.rid g.tag g.ways pool (n / 64 + 2) a n
  (r.1, r.2.2)

/-- The descriptor in a heap slot; 0, an invalid one, outside the heap. -/
def ShCtx.desc (g : ShCtx) (s : State) (slot : Nat) : State × Nat :=
  if slot < g.slots then
    let r := g.read s false (g.heap + 32 * slot) 32
    (r.1, bytesNat r.2)
  else (s, 0)

/-- A texel of a level, or the border; with a compare, whether the reference value passes against it. -/
def ShCtx.texel (g : ShCtx) (s : State) (td sd l ref : Nat) (p : Option Nat × Option Nat × Option Nat) : State × List Nat :=
  let r : State × List Nat :=
    match p with
    | (some x, some y, some z) =>
      let b := texBlock (texFmt td)
      let r := g.read s (texPool td) (texAddr td l x y z) b.2.2
      (r.1, texelOf (texFmt td) (bytesNat r.2) (x % b.1) (y % b.2.1))
    | _ => (s, smpBorder sd)
  let c := smpCompare sd
  if c = 0 then r else (r.1, texFill [if fpCompare (c - 1) ref (r.2.getD 0 0) then fpOne else 0])

/-- A sum of weighted colours in FP32, in order (R204). (log 258, DESIGN CHOICE) -/
def fpMix (acc c : List Nat) (w : Nat) : List Nat := (acc.zip c).map (fun e => fpAdd e.1 (fpMul e.2 w))

/-- A sample of one level at (u, v), and w of a 3D texture or layer z (R204). (log 258, DESIGN CHOICE) -/
def ShCtx.level (g : ShCtx) (s : State) (td sd l : Nat) (lin : Bool) (u v w z ref : Nat) : State × List Nat :=
  let cols := texCols td l
  let rows := texRows td l
  let zs := if texType td = 2 then smpTaps lin w (texSlices td l) else [((min z (texSlices td l - 1) : Nat), 256)]
  forL (fun (e : Int × Nat) (a : State × List Nat) =>
    forL (fun (f : Int × Nat) (a : State × List Nat) =>
      forL (fun (h : Int × Nat) (a : State × List Nat) =>
        let zi := if texType td = 2 then smpWrap (smpMode sd 2) (texSlices td l) e.1 else some e.1.toNat
        let r := g.texel a.1 td sd l ref
          (smpWrap (smpMode sd 0) cols h.1, smpWrap (smpMode sd 1) rows f.1, zi)
        (r.1, fpMix a.2 r.2 (fpRound (e.2 * f.2 * h.2 : Nat) (2 ^ 24))))
        (smpTaps lin u cols) a) (smpTaps lin v rows) a) zs (s, [0, 0, 0, 0])

/-- A sample with its mip levels (R196, R204): level 0, the nearest level, or the two next levels mixed. (log 258, DESIGN CHOICE) -/
def ShCtx.mipped (g : ShCtx) (s : State) (td sd lod u v w z ref : Nat) : State × List Nat :=
  let top := texMips td - 1
  let lin := smpLinear sd (decide (0 < lod))
  match smpMip sd with
  | 0 => g.level s td sd 0 lin u v w z ref
  | 1 => g.level s td sd (min top ((lod + 127) / 256)) lin u v w z ref
  | _ =>
    let a := g.level s td sd (min top (lod / 256)) lin u v w z ref
    let b := g.level a.1 td sd (min top (lod / 256 + 1)) lin u v w z ref
    (b.1, fpMix (fpMix [0, 0, 0, 0] a.2 (fpRound (256 - lod % 256 : Nat) 256)) b.2 (fpRound (lod % 256 : Nat) 256))

/-- A filtered sample (R204): probes spaced evenly along the major axis (du, dv) and weighted equally. -/
def ShCtx.filtered (g : ShCtx) (s : State) (td sd u v w z du dv major minor ref : Nat) : State × List Nat :=
  let k := probesLog sd g.cap major minor
  let n : Nat := 2 ^ k
  let lod := lodOf sd major k
  let r := forN (fun i (a : State × List Nat) =>
    let o := fpRound ((2 * i + 1 : Nat) - (n : Int)) (2 * n)
    let q := g.mipped a.1 td sd lod (fpAdd u (fpMul du o)) (fpAdd v (fpMul dv o)) w z ref
    (q.1, fpMix a.2 q.2 (fpRound 1 n))) n (s, [0, 0, 0, 0])
  (r.1, texSwizzle td r.2)

/-- Four values that the spec leaves open. -/
def State.freeWords (s : State) : State × List Word :=
  ((((s.tookFree).tookFree).tookFree).tookFree,
    [s.free.setWidth 32, s.tookFree.free.setWidth 32, s.tookFree.tookFree.free.setWidth 32,
      s.tookFree.tookFree.tookFree.free.setWidth 32])

/-! A shader's accesses -/

/-- An access of a shader and what it answers (R196, R204): an access outside a buffer's size reads 0 and drops a write,
and a write through a buffer that is not writable is dropped. (log 259, PRESUMED) -/
def ShCtx.act (g : ShCtx) (s : State) : ShAct → State × List Word
  | .sample tex smp u v w z du dv major minor ref =>
    let t := g.desc s tex.toNat
    let m := g.desc t.1 smp.toNat
    if byteF t.2 31 1 ≠ 1 ∨ byteF m.2 31 1 ≠ 2 ∨ smpOk m.2 = false ∨ [u, v, w, du, dv, major, minor].any (fun x => fpWild x.toNat) then
      m.1.freeWords
    else
      let r := g.filtered m.1 t.2 m.2 u.toNat v.toNat w.toNat z.toNat du.toNat dv.toNat major.toNat minor.toNat ref.toNat
      (r.1, r.2.map (BitVec.ofNat 32))
  | .load slot off n =>
    let d := g.desc s slot.toNat
    if byteF d.2 31 1 = 3 ∧ off.toNat + n.val ≤ byteF d.2 8 4 then
      let r := g.read d.1 (bit (byteF d.2 5 1) 7) (byteF d.2 0 5 + off.toNat) n.val
      (r.1, r.2.map (·.setWidth 32))
    else (d.1, List.replicate n.val 0)
  | .store slot off b =>
    let d := g.desc s slot.toNat
    if byteF d.2 31 1 = 3 ∧ bit (byteF d.2 5 1) 0 ∧ off.toNat + b.length ≤ byteF d.2 8 4 then
      (d.1.gwrite g.job g.rid g.tag g.ways (bit (byteF d.2 5 1) 7) (b.length / 64 + 2) (byteF d.2 0 5 + off.toNat) b, [])
    else (d.1, [])

/-- The accesses of a unit's shaders in order; what they are answered stands with the core. (log 215, DESIGN CHOICE) -/
def State.shActs (s : State) (j : Job) (c : Nat) (acts : List ShAct) : State :=
  let g : ShCtx := ⟨j.id, 0x40 + c, j.tag, j.ways, byteF j.d.toNat 8 5, byteF j.d.toNat 14 2, s.get (pg 0x20 4) F.GTEX.TEX_CFG⟩
  let r := forL (fun a (x : State × List (List Word)) =>
    let q := g.act x.1 a
    (q.1, x.2 ++ [q.2])) acts (s, [])
  { r.1 with gfx := { r.1.gfx with answers := amSet (fun _ => []) r.1.gfx.answers c r.2 } }

/-- The filtered samples among a shader's accesses. -/
def sampleCount (acts : List ShAct) : Nat :=
  (acts.filter (fun a => match a with
    | .sample .. => true
    | _ => false)).length

end Sys2Proof.Machine
end

