-- ==== Sys2Proof/Machine/Render.lean ====
section
/-! DEFINITION. Jobs, passes, draws, tiles and workgroups, their scheduling, and pre-emption (R187–R229). -/

namespace Sys2Proof.Machine

/-! Descriptors -/

/-- Every byte of a list of (first, count) ranges of a descriptor is 0. -/
def zeros (d : Nat) (l : List (Nat × Nat)) : Bool := l.all (fun e => byteF d e.1 e.2 == 0)

/-- A job's descriptor bytes. -/
def Job.f (j : Job) (i n : Nat) : Nat := byteF j.d.toNat i n

/-- A fence that a job may name: none, or one its tenancy owns (R188). -/
def State.jobFence (s : State) (tag f : Nat) : Bool := f == 0xFFFF || (decide (f < 4096) && s.fenceOwner f == tag)

/-- The fields of a job descriptor are in order (R187, R188). -/
def State.jobOk (s : State) (tag d : Nat) : Bool :=
  let kind := byteF d 1 1
  let n := byteF d 22 2
  byteF d 0 1 == 1 && decide (kind ≤ 1) && decide (byteF d 2 1 ≤ 2)
    && (byteF d 2 1 != 0 || decide (byteF d 3 1 ≤ 7))
    && byteF d 8 5 % 32 == 0 && decide (1 ≤ byteF d 14 2)
    && decide (byteF d 21 1 ≤ 1)
    && (if kind = 0 then byteF d 16 5 % 256 == 0 && decide (1 ≤ n) && decide (n ≤ 64) else n == 0)
    && s.jobFence tag (byteF d 24 2) && s.jobFence tag (byteF d 26 2)
    && (kind == 0 || (byteF d 48 5 % 256 == 0 && decide (1 ≤ byteF d 56 2) && decide (1 ≤ byteF d 58 2)
      && decide (1 ≤ byteF d 60 2) && byteF d 72 5 % 16 == 0))
    && zeros d [(13, 1), (44, 4), (53, 3), (62, 2), (69, 3), (77, 3), (80, 48)]

/-- Bytes per pixel of a colour format (R105) and of a depth format (R191). -/
def colourBytes (f : Nat) : Nat := if f = 4 then 2 else if f = 6 ∨ f = 7 then 8 else 4
def depthBytes (f : Nat) : Nat := if f = 0 then 0 else if f = 1 then 2 else 4

/-- An attachment descriptor of a pass: byte offset of attachment k, 4 for the depth attachment. -/
def attOff (k : Nat) : Nat := 64 + 32 * k
def attF (p k i n : Nat) : Nat := byteF p (attOff k + i) n

/-- Bytes per pixel of attachment k. -/
def attBpp (p k : Nat) : Nat := if k = 4 then depthBytes (attF p 4 6 1) else colourBytes (attF p k 6 1)

/-- The colour attachments and the depth attachment that a pass uses (R190, R191). -/
def passColours (p : Nat) : List Nat := upto 0 (byteF p 3 1)
def passAtts (p : Nat) : List Nat := passColours p ++ (if attF p 4 6 1 = 0 then [] else [4])

/-- An attachment descriptor is in order (R191). -/
def attOk (p k : Nat) : Bool :=
  let f := attF p k 6 1
  attF p k 0 5 % 256 == 0 && attF p k 5 1 % 128 == 0
    && (if k = 4 then decide (f ≤ 3) && attF p k 9 1 == 0 else decide (f ≤ 7) && decide (attF p k 9 1 ≤ 3))
    && decide (attF p k 7 1 ≤ 2) && decide (attF p k 8 1 ≤ 1)
    && attF p k 12 4 % 64 == 0 && decide (byteF p 4 2 * attBpp p k ≤ attF p k 12 4)
    && attF p k 24 5 % 8 == 0 && attF p k 29 1 % 128 == 0
    && attF p k 10 2 == 0 && attF p k 30 2 == 0

/-- A render-pass descriptor is in order (R190, R198); `prev` is the pass before it, and `chunk` the tiler chunk. -/
def passOk (chunk : Nat) (prev : Option Nat) (p : Nat) : Bool :=
  byteF p 0 1 == 1 && decide (byteF p 1 1 ≤ 1) && decide (byteF p 2 1 ≤ 2) && decide (byteF p 3 1 ≤ 4)
    && (byteF p 3 1 != 0 || attF p 4 6 1 != 0)
    && decide (1 ≤ byteF p 4 2) && decide (byteF p 4 2 ≤ 8192) && decide (1 ≤ byteF p 6 2) && decide (byteF p 6 2 ≤ 8192)
    && byteF p 8 5 % 64 == 0 && decide (byteF p 16 4 ≤ 1048576) && byteF p 20 5 % 65536 == 0
    && byteF p 28 4 % chunk == 0 && byteF p 32 5 % 256 == 0 && byteF p 44 5 % 8 == 0
    && (byteF p 44 5 == 0 || decide (byteF p 49 1 < byteF p 3 1))
    && (passAtts p).all (attOk p)
    && zeros p [(13, 3), (25, 3), (37, 3), (50, 14), (224, 32)]
    && (match prev with
      | some q => byteF p 1 1 == 0 || (byteF p 4 2 == byteF q 4 2 && byteF p 6 2 == byteF q 6 2)
      | none => true)

/-- The tile-buffer budget of R199. -/
def passBudget (p : Nat) : Bool :=
  let b := ((passAtts p).map (attBpp p)).foldl (· + ·) 0
  decide (1024 * 2 ^ byteF p 2 1 * b ≤ 131072)

/-- The status of a list of passes in order: 0 in order, else that of the first pass at fault (R188). -/
def passesStatus (chunk : Nat) : Option Nat → List Nat → Nat
  | _, [] => 0
  | prev, p :: t =>
    if passOk chunk prev p = false then 0x50
    else if passBudget p = false then 0x56
    else passesStatus chunk (some p) t

/-! Shader objects and bindings -/

/-- A shader object header is in order for a stage (R194, R195). -/
def headerOk (stage addr h : Nat) : Bool :=
  addr % 256 == 0 && byteF h 0 4 == 0x4E565449 && byteF h 4 1 == 1 && byteF h 5 1 == stage
    && byteF h 8 4 % 256 == 0 && byteF h 16 4 % 8 == 0 && decide (byteF h 20 2 ≤ 256)
    && decide (byteF h 22 2 ≤ 256) && byteF h 22 2 % 16 == 0
    && decide (1 ≤ byteF h 24 2) && decide (byteF h 24 2 ≤ 128)
    && decide (byteF h 34 1 ≤ 32) && decide (byteF h 35 1 ≤ (if stage = 1 then 4 else 32))
    && (stage != 2 || (decide (byteF h 26 2 ≤ 64)
      && decide (1 ≤ byteF h 28 2 * byteF h 30 2 * byteF h 32 2) && decide (byteF h 28 2 * byteF h 30 2 * byteF h 32 2 ≤ 1024)))

/-- The texture formats of R203. -/
def texFormat (f : Nat) : Bool :=
  (decide (1 ≤ f) && decide (f ≤ 0x0D)) || f == 0x10 || f == 0x11 || (decide (0x20 ≤ f) && decide (f ≤ 0x26))
    || (decide (0x80 ≤ f) && decide (f ≤ 0x8D)) || (decide (0x90 ≤ f) && decide (f ≤ 0x9D))

/-- The tags of the heap slots that a binding of a type and array count takes, in slot order (R194). -/
def slotTags (typ count : Nat) : List Nat :=
  if typ = 5 then (upto 0 count).flatMap (fun _ => [1, 2])
  else (upto 0 count).map (fun _ => if typ < 2 then 3 else if typ = 4 then 2 else 1)

/-- What reads a job's memory: job number, requester, owner tag, ways. -/
structure GReader where
  job : Nat
  rid : Nat
  tag : Nat
  ways : Nat

/-- A value in DRAM as the job reads it. -/
def GReader.rd (g : GReader) (s : State) (a n : Nat) : State × Nat :=
  let r := s.greadN g.job g.rid g.tag g.ways false a n
  (r.1, r.2.2)

/-- The heap slots from `slot` hold descriptors of the given tags (R195, R196, R203). -/
def heapOk (g : GReader) (heap slots : Nat) (s : State) : Nat → List Nat → State × Bool
  | _, [] => (s, true)
  | slot, t :: ts =>
    if slots ≤ slot then (s, false)
    else
      let r := g.rd s (heap + 32 * slot) 32
      if byteF r.2 31 1 = t ∧ (t ≠ 1 ∨ texFormat (byteF r.2 6 1)) then heapOk g heap slots r.1 (slot + 1) ts
      else (r.1, false)

/-- The binding entries i, i + 1, … of an object are in order with the binding map (R194, R195). -/
def bindsOk (g : GReader) (obj h map heap slots : Nat) (s : State) (i : Nat) : Nat → State × Bool
  | 0 => (s, true)
  | n + 1 =>
    let e := g.rd s (obj + byteF h 16 4 + 8 * i) 8
    let m := g.rd e.1 (map + 2 * i) 2
    let typ := byteF e.2 2 1
    if 6 < typ then (m.1, false)
    else
      let r := heapOk g heap slots m.1 m.2 (slotTags typ (byteF e.2 3 1))
      if r.2 then bindsOk g obj h map heap slots r.1 (i + 1) n else (r.1, false)

/-- One shader object of a draw or dispatch (R195): status 0, `SHADER_OBJECT_INVALID` or `BINDING_MISMATCH`. -/
def objStatus (g : GReader) (stage obj map push heap slots : Nat) (s : State) : State × Nat :=
  let r := g.rd s obj 64
  let h := r.2
  if headerOk stage obj h = false then (r.1, 0x51)
  else if 0 < byteF h 22 2 ∧ push = 0 then (r.1, 0x52)
  else
    let b := bindsOk g obj h map heap slots r.1 0 (byteF h 20 2)
    (b.1, if b.2 then 0 else 0x52)

/-- The status of a draw record (R192, R195). (log 31, DEDUCED) (log 41, DESIGN CHOICE) -/
def drawStatus (g : GReader) (j : Job) (d : Nat) (s : State) : State × Nat :=
  let heap := j.f 8 5
  let slots := j.f 14 2
  let vs := objStatus g 0 (byteF d 0 5) (byteF d 32 5) (byteF d 40 5) heap slots s
  if vs.2 ≠ 0 then vs
  else
    let fs := if byteF d 8 5 = 0 then (vs.1, 0)
      else objStatus g 1 (byteF d 8 5) (byteF d 32 5) (byteF d 40 5) heap slots vs.1
    if fs.2 ≠ 0 then fs
    else
      let st := g.rd fs.1 (byteF d 48 5) 64
      let ok := decide (byteF st.2 0 1 ≤ 5) && (byteF st.2 4 44 == 0 || Config.blendStateOk (byteF st.2 4 44))
      (st.1, if ok then 0 else 0x52)

/-! The front end -/

/-- The pass descriptors of a job, read in order. -/
def State.readPasses (s : State) (g : GReader) (a : Nat) : Nat → State × List Nat
  | 0 => (s, [])
  | n + 1 =>
    let r := g.rd s a 256
    let q := r.1.readPasses g (a + 256) n
    (q.1, r.2 :: q.2)

/-- A job and its pass descriptors have been fetched (R187, R188). -/
def State.jobFetched (s : State) (id : Nat) : State :=
  match s.job id with
  | none => s
  | some j =>
    if j.phase ≠ .fetch then s
    else
      let g : GReader := ⟨id, 0x58, j.tag, s.waysNow j.tag⟩
      let r := g.rd s j.addr 128
      let s := r.1.modJob id (fun j => { j with d := BitVec.ofNat 1024 r.2 })
      let fail (s : State) (st : Nat) : State := (s.jobStatus id st).modJob id (fun j => { j with phase := .done })
      if s.jobOk j.tag r.2 = false then fail s 0x50
      else
        let q := s.readPasses g (byteF r.2 16 5) (if byteF r.2 1 1 = 0 then byteF r.2 22 2 else 0)
        let st := passesStatus (4096 <<< q.1.get tilerPage F.GTILER.TILER_CFG) none q.2
        if st ≠ 0 then fail q.1 st
        else q.1.modJob id (fun j => { j with
          phase := .waiting
          passes := q.2.map (fun p => ⟨BitVec.ofNat 2048 p, false, 0, 0, [], false, (passColours p).map (fun _ => [])⟩) })

/-- Tenancy t is not held by its share (R216). -/
def State.mayShare (s : State) (t : Nat) : Bool :=
  s.share t F.TEN.SHADER_SHARE != 0
    && !(decide (s.budget t ≤ s.usedT t) && bit (s.get schedPage F.GSCHED.SCHED_CFG_SHARE_CAP) t)

/-- The units of tenancy t may be given out (R216, R425). -/
def State.mayGive (s : State) (t : Nat) : Bool := s.mayShare t && !s.stopped t

/-- Core c may serve jobs: present and in `CORE_MASK`. -/
def State.inMask (s : State) (c : Nat) : Bool :=
  decide (c < s.gcores) && bit (s.get fePage F.GFE.CORE_MASK) c

/-- Core c is free to take a unit (R197, R211): its page is enabled, or is at its apply point, and its clock is
ok. -/
def State.coreFree (s : State) (c : Nat) : Bool :=
  let p := gcorePage c
  s.inMask c && (s.gcore c).unit.isNone && s.clockOk p && !s.inReset p
    && (s.enabled p || (match (s.ctl p).startDue with
      | some a => decide (a < s.now)
      | none => false))

/-- rem of R219. -/
def State.jobRem (s : State) (j : Job) : Nat := max (s.predict j - j.held) (j.held >>> 3)

/-- A core is asked to leave its unit for a boosted job (R219). -/
def State.preemptAsk (s : State) (c : Nat) : State :=
  let x := s.gcore c
  match x.unit with
  | some (id, _) =>
    match s.job id with
    | some j =>
      if s.inMask c ∧ j.cls ≠ 0 ∧ x.preempt.isNone then s.setGcore c { x with preempt := some s.now } else s
    | none => s
  | none => s

/-- The evaluation of a DEADLINE job (R219). -/
def State.deadlineEval (s : State) (id : Nat) : State :=
  let s := s.gsettle
  match s.job id with
  | none => s
  | some j =>
    if j.phase ≠ .ready ∨ j.cls ≠ 0 then s
    else
      let n := ((upto 0 24).filter (fun c => s.inMask c && (match (s.gcore c).unit with
        | some (k, _) => k == id
        | none => s.coreFree c))).length
      let s := s.costTouch j
      let late := n == 0 || decide (j.tgt < s.now + cdiv (s.jobRem j) n + j.margin)
      if late ∧ j.boosted = false ∧ s.mayGive (j.tag - 0x10) then
        let s := ((s.modJob id (fun j => { j with boosted := true })).intBit schedPage 1).stat schedPage 2
        forN (fun c s => s.preemptAsk c) 24 s
      else s

/-- A timed evaluation falls due (R219): every `EVAL_INTERVAL` ticks after the ready tick. -/
def State.deadlineDue (s : State) (id : Nat) : State :=
  match s.job id with
  | none => s
  | some j =>
    if j.phase ≠ .ready ∨ j.cls ≠ 0 then s
    else
      let s := (s.waitTo j.evalAt).modJob id (fun j => { j with
        evalAt := j.evalAt + s.get schedPage F.GSCHED.EVAL_INTERVAL })
      s.deadlineEval id

/-- The pages that apply at a job start (R208, R210, R226). (log 34, DEDUCED) -/
def State.jobStartApply (s : State) : State :=
  forL (fun p s => s.applyPoint p s.now 0) [fePage, schedPage, tilerPage, l2Page, pg 0x20 4, sigPage] s

/-- The front end runs, or starts with the next job (R210). -/
def State.feRuns (s : State) : Bool :=
  s.enabled fePage || (match (s.ctl fePage).startDue with
    | some a => decide (a < s.now)
    | none => false)

/-- A validated job whose fence is met becomes ready and starts (R208, R209, R213, R223). (log 34, DEDUCED) -/
def State.jobReady (s : State) (id : Nat) : State :=
  match s.job id with
  | none => s
  | some j =>
    let w := j.f 24 2
    let met := w == 0xFFFF || decide (j.f 28 8 ≤ (s.fence w).value.toNat)
    if j.phase ≠ .waiting ∨ met = false ∨ s.gfx.flushing ∨ s.feRuns = false then s
    else
      let h := j.f 3 1
      let fin' (s : State) (st : Nat) : State := (s.jobStatus id st).modJob id (fun j => { j with phase := .done })
      if j.f 2 1 = 0 ∧ s.part.heads ≤ h then fin' s 0x50
      else
        let cls := if j.f 2 1 = 0 ∧ s.enabled (headPage h) = false then 1 else j.f 2 1
        if cls ≠ 0 ∧ s.saveBase (j.tag - 0x10) = 0 then fin' s 0x57
        else
          let r := if j.f 1 1 = 1 then
              objStatus ⟨id, 0x58, j.tag, s.waysNow j.tag⟩ 2 (j.f 48 5) (j.f 64 5) (j.f 72 5) (j.f 8 5) (j.f 14 2) s
            else (s, 0)
          let s := r.1
          if r.2 ≠ 0 then fin' s r.2
          else
            let s := s.jobStartApply
            let s := if bit (j.f 21 1) 0 then s.setL2 (s.gfx.l2.filter (fun x => !(x.tag == j.tag && !x.dirty))) else s
            let j' : Job := { j with
              phase := .ready, cls := cls, order := s.gfx.nextOrder, ways := s.waysNow j.tag,
              evalAt := s.now + s.get schedPage F.GSCHED.EVAL_INTERVAL,
              guard := s.get schedPage (F.GSCHED.GUARD.at h), margin := s.get schedPage F.GSCHED.MARGIN }
            let j' := if cls = 0 then s.jobTarget j' h s.now else j'
            let s := { s with gfx := { s.gfx with nextOrder := s.gfx.nextOrder + 1 } }
            (s.modJob id (fun k => { j' with status := k.status, berr := k.berr })).deadlineEval id

/-! Dispatch -/

/-- Tiles of a pass: columns and count. -/
def passCols (p : Nat) : Nat := cdiv (byteF p 4 2) 32
def passTiles (p : Nat) : Nat := passCols p * cdiv (byteF p 6 2) 32

/-- Workgroups of a job. -/
def Job.groups (j : Job) : Nat := j.f 56 2 * j.f 58 2 * j.f 60 2

/-- The next tile of pass k, when its dependency allows it (R197). -/
def Job.tileAt (j : Job) (k : Nat) : Option GUnit :=
  match j.passes[k]? with
  | none => none
  | some q =>
    if q.binned ∧ q.next < passTiles q.d.toNat then
      if k = j.passDone then some (.tile k q.next)
      else match j.passes[k - 1]? with
        | some r => if byteF q.d.toNat 1 1 = 1 ∧ r.stored.contains q.next then some (.tile k q.next) else none
        | none => none
    else none

/-- The next new unit of a job (R217). -/
def Job.nextUnit (j : Job) : Option GUnit :=
  if j.f 1 1 = 1 then (if j.gNext < j.groups then some (.group j.gNext) else none)
  else match j.tileAt j.passDone with
    | some u => some u
    | none => j.tileAt (j.passDone + 1)

/-- A job's saved contexts, lowest slot first. -/
def State.savedOf (s : State) (id : Nat) : Option Saved :=
  (s.gfx.saved.filter (fun x => x.job == id)).foldl (fun (m : Option Saved) x =>
    match m with
    | some y => if x.slot < y.slot then some x else m
    | none => some x) none

/-- A job has a unit to give now. -/
def State.hasUnit (s : State) (j : Job) : Bool :=
  j.phase == .ready && s.mayGive (j.tag - 0x10) && ((s.savedOf j.id).isSome || j.nextUnit.isSome)

/-- The key of R217, compared from its head. -/
def State.jobKey (s : State) (j : Job) : List Nat :=
  let t := j.tag - 0x10
  let tier := if s.usedT t < s.budget t then 0 else 1
  if j.cls = 0 then [tier, 0, j.tgt, j.f 3 1, j.order]
  else [tier, j.cls, s.usedT t * 1024 / max (s.budget t) 1, j.order]

/-- Lexicographic order. -/
def lexLt : List Nat → List Nat → Bool
  | [], [] => false
  | [], _ => true
  | _, [] => false
  | a :: s, b :: t => decide (a < b) || (a == b && lexLt s t)

/-- The job that is served next. -/
def State.nextJob (s : State) : Option Job :=
  (s.gfx.jobs.filter s.hasUnit).foldl (fun (m : Option Job) j =>
    match m with
    | some k => if lexLt (s.jobKey j) (s.jobKey k) then some j else m
    | none => some j) none

/-- The pixel area of a tile: left, top, columns, rows. -/
def tileArea (p i : Nat) : Nat × Nat × Nat × Nat :=
  let tx := i % passCols p
  let ty := i / passCols p
  (32 * tx, 32 * ty, min 32 (byteF p 4 2 - 32 * tx), min 32 (byteF p 6 2 - 32 * ty))

/-- Samples per pixel of a pass, and the bytes of one sample of every attachment (R190, R199). -/
def passSamples (p : Nat) : Nat := 2 ^ byteF p 2 1
def passSample (p : Nat) : Nat := ((passAtts p).map (attBpp p)).foldl (· + ·) 0

/-- Every pixel of a row of bytes, n times: the samples of the pixel. -/
def spread (bpp n : Nat) : Nat → List Byte → List Byte
  | 0, _ => []
  | w + 1, l => (List.replicate n (l.take bpp)).flatten ++ spread bpp n w (l.drop bpp)

/-- Where the samples of pixel (x, y) of attachment k lie in the spill buffer (R198): attachments in order, rows, pixels,
samples. (log 244, DESIGN CHOICE) -/
def spillAddr (p k x y : Nat) : Nat :=
  let pre := (((passAtts p).takeWhile (· != k)).map (attBpp p)).foldl (· + ·) 0
  byteF p 32 5 + (pre * byteF p 4 2 * byteF p 6 2 + (y * byteF p 4 2 + x) * attBpp p k) * passSamples p

/-- The samples of one row of an area before anything is drawn (R191, R197, R198): from the spill buffer after an
incremental flush, else from the target, the clear value, or open. -/
def State.rowInit (s : State) (j : Job) (rid p : Nat) (flushed : Bool) (k x y w : Nat) : State × List Byte :=
  let b := attBpp p k
  let n := passSamples p
  if flushed then
    let r := s.gread j.id rid j.tag j.ways false (w * n * b / 64 + 2) (spillAddr p k x y) (w * n * b)
    (r.1, r.2.2)
  else match attF p k 7 1 with
    | 0 =>
      let r := s.gread j.id rid j.tag j.ways (bit (attF p k 5 1) 7) (w * b / 64 + 2)
        (attF p k 0 5 + y * attF p k 12 4 + x * b) (w * b)
      (r.1, spread b n w r.2.2)
    | 1 => (s, (List.replicate (w * n) (natBytes b (attF p k 16 8))).flatten)
    | _ => s.freeBytes (w * n * b) []

/-- The samples of an area, attachment after attachment and row after row. -/
def State.areaInit (s : State) (j : Job) (rid p : Nat) (flushed : Bool) (ar : Nat × Nat × Nat × Nat) : State × List Byte :=
  forL (fun k (a : State × List Byte) =>
    forL (fun y (a : State × List Byte) =>
      let r := a.1.rowInit j rid p flushed k ar.1 (ar.2.1 + y) ar.2.2.1
      (r.1, a.2 ++ r.2)) (upto 0 ar.2.2.2) a) (passAtts p) (s, [])

/-- A core loads the attachments of its tile into its tile buffer (R191, R197). -/
def State.tileLoad (s : State) (id c p i : Nat) : State :=
  match s.job id with
  | none => s
  | some j =>
    match j.passes[p]? with
    | none => s
    | some q =>
      let r := s.areaInit j (0x40 + c) q.d.toNat q.flushed (tileArea q.d.toNat i)
      r.1.setGcore c { r.1.gcore c with tile := r.2 }

/-- What was drawn over what was there: a byte that nothing drew keeps its value. -/
def overlay : List Byte → List (Option Byte) → List Byte
  | [], _ => []
  | b :: l, [] => b :: l
  | b :: l, o :: t => o.getD b :: overlay l t

/-- The stored pixels of an area of attachment k from its samples (R193). -/
def resolvePx (p k : Nat) : Nat → List Byte → List Byte
  | 0, _ => []
  | n + 1, l =>
    let b := attBpp p k
    let m := passSamples p
    let v := (upto 0 m).map (fun i => bytesNat ((l.drop (i * b)).take b))
    let px := if m = 1 then bytesNat (l.take b)
      else if k = 4 then meanDepth (attF p 4 6 1) v else meanColour (attF p k 6 1) v
    natBytes b px ++ resolvePx p k n (l.drop (m * b))

/-- A unit is given to core c (R217, R222). A restore reads the saved context back through the L2 (R220, R222). -/
def State.giveUnit (s : State) (c : Nat) (j : Job) : State :=
  let hold (s : State) (u : GUnit) : State :=
    ((s.setGcore c ⟨some (j.id, u), s.now, none, false, s.now, []⟩).put (gcorePage c) F.HDR.STATUS_IDLE 0).modJob j.id
      (fun j => { j with given := true })
  match s.savedOf j.id with
  | some x =>
    let s := hold { s with gfx := { s.gfx with saved := s.gfx.saved.filter (fun y => y != x) } } x.unit
    let r := s.gread j.id (0x40 + c) j.tag j.ways false (x.len / 64 + 2)
      (s.saveBase (j.tag - 0x10) + x.slot * 196608) x.len
    let s := r.1.setGcore c { r.1.gcore c with tile := r.2.2.take x.tile }
    (s.stat schedPage 7).stat64 schedPage 14 (cdiv x.len 128)
  | none =>
    match j.nextUnit with
    | none => s
    | some (.group i) => (hold s (.group i)).modJob j.id (fun j => { j with gNext := i + 1 })
    | some (.tile p i) =>
      let s := (hold s (.tile p i)).modJob j.id (fun j =>
        { j with passes := j.passes.modify p (fun q => { q with next := i + 1 }) })
      s.tileLoad j.id c p i

/-- The lowest free core takes the next unit (R197, R217); the core's page is at its apply point (R210). -/
def State.dispatch (s : State) : State :=
  if s.mode = .safe then s
  else
    let s := s.gsettle
    match (upto 0 24).find? s.coreFree, s.nextJob with
    | some c, some j =>
      let s := s.applyPoint (gcorePage c) s.now 0
      if s.enabled (gcorePage c) then s.giveUnit c j else s
    | _, _ => s

/-! Binning -/

/-- The pass that bins: the first that is not binned. -/
def Job.binning (j : Job) : Option (Nat × PassSt) :=
  (((upto 0 j.passes.length).zip j.passes).find? (fun e => !e.2.binned))

/-- The tiler fetches and validates the next draw of the pass that bins (R192, R195, R197); `prims` primitives of a
valid draw are binned. (log 260, DESIGN CHOICE) -/
def State.drawNext (s : State) (id prims : Nat) : State :=
  match s.job id with
  | none => s
  | some j =>
    match j.phase, j.binning with
    | .ready, some (k, q) =>
      if q.draw < byteF q.d.toNat 16 4 then
        let g : GReader := ⟨id, 0x59, j.tag, j.ways⟩
        let r := g.rd s (byteF q.d.toNat 8 5 + 64 * q.draw) 64
        let v := drawStatus g j r.2 r.1
        let s := v.1.modJob id (fun j => { j with passes := j.passes.modify k (fun q => { q with draw := q.draw + 1 }) })
        if v.2 ≠ 0 then (s.jobStatus id v.2).stat fePage 2 else s.stat tilerPage 0 prims
      else s
    | _, _ => s

/-- Binning exhausts the bin heap (R198): an incremental flush, which stores the samples `spill` in the spill
buffer, or the end of the pass and of the job. (log 261, DESIGN CHOICE) -/
def State.binFull (s : State) (id : Nat) (spill : List (Option Byte)) : State :=
  match s.job id with
  | none => s
  | some j =>
    match j.phase, j.binning with
    | .ready, some (k, q) =>
      let p := q.d.toNat
      let need := byteF p 4 2 * byteF p 6 2 * passSamples p * passSample p
      if byteF p 32 5 ≠ 0 ∧ need ≤ byteF p 40 4 then
        let r := s.areaInit j 0x59 p q.flushed (0, 0, byteF p 4 2, byteF p 6 2)
        let d := overlay r.2 spill
        let s := r.1.gwrite id 0x59 j.tag j.ways false (d.length / 64 + 2) (byteF p 32 5) d
        (s.modJob id (fun j => { j with passes := j.passes.modify k (fun q => { q with flushed := true }) })).stat tilerPage 1
      else
        let s := (s.jobStatus id 0x53).stat tilerPage 2
        s.modJob id (fun j => { j with
          passes := j.passes.take k
          phase := if j.passDone = k then .done else j.phase })
    | _, _ => s

/-- The tiler finishes a pass whose draws have all been fetched (R197). -/
def State.passBinned (s : State) (id : Nat) : State :=
  match s.job id with
  | none => s
  | some j =>
    match j.phase, j.binning with
    | .ready, some (k, q) =>
      if q.draw = byteF q.d.toNat 16 4 then
        s.modJob id (fun j => { j with passes := j.passes.modify k (fun q => { q with binned := true }) })
      else s
    | _, _ => s

/-! Tiles -/

/-- The CRC-64 of R200. -/
def sigCrc : CrcCfg := ⟨64, 0x42F0E1EBA9EA3693, 0xFFFFFFFFFFFFFFFF, 0xFFFFFFFFFFFFFFFF, false, false⟩

/-- A tile's signature (R200). (log 29, DEDUCED) -/
def tileSig (tx ty k fmt : Nat) (d : List Byte) : Nat :=
  crc sigCrc ([tx % 256, tx / 256, ty % 256, ty / 256, k, fmt, 0, 0] ++ d.map (·.toNat))

/-- The n bytes from offset i of what a core resolved; bytes not given are 0. -/
def pxBytes (px : List Byte) (i n : Nat) : List Byte :=
  let l := (px.drop i).take n
  l ++ List.replicate (n - l.length) 0

/-- The rows of a tile of attachment k are stored (R191, R193). -/
def State.tileStore (s : State) (j : Job) (c d i k : Nat) (px : List Byte) : State :=
  let ar := tileArea d i
  let row := ar.2.2.1 * attBpp d k
  forL (fun y s =>
    s.gwrite j.id (0x40 + c) j.tag j.ways (bit (attF d k 5 1) 7) 10
      (attF d k 0 5 + (ar.2.1 + y) * attF d k 12 4 + ar.1 * attBpp d k) (pxBytes px (y * row) row)) (upto 0 ar.2.2.2) s

/-- One attachment of a resolved tile (R200): whether it was written, and the state. (log 29, DEDUCED) -/
def State.tileAtt (s : State) (j : Job) (c d i k : Nat) (flushed : Bool) (px : List Byte) : State × Bool :=
  let store := attF d k 8 1 == 0
  let sigEn := k != 4 && bit (attF d k 9 1) 0
  let tx := i % passCols d
  let ty := i / passCols d
  let sig := tileSig tx ty k (attF d k 6 1) px
  let ea := attF d k 24 5 + 8 * i
  let pool := bit (attF d k 29 1) 7
  let cmp := sigEn && !bit (attF d k 9 1) 1 && s.flag sigPage F.GSIG.SIG_CFG && store && !flushed
  let r := if cmp then s.greadN j.id (0x40 + c) j.tag j.ways pool ea 8 else (s, false, 0)
  let s := if cmp then r.1.stat sigPage 0 else r.1
  if cmp && r.2.1 && r.2.2 == sig then ((s.stat sigPage 1).stat64 sigPage 2 px.length, false)
  else
    let s := if store then s.tileStore j c d i k px else s
    let s := if sigEn then s.gwrite j.id (0x40 + c) j.tag j.ways pool 3 ea (natBytes 8 sig) else s
    (s, store)

/-- The attachments of a resolved tile in order; those written, and those skipped by signature. (log 29, DEDUCED) -/
def State.tileAtts (s : State) (j : Job) (c d i : Nat) (flushed : Bool) (px : List Byte) :
    List Nat → Nat → State × List Nat
  | [], _ => (s, [])
  | k :: t, off =>
    let ar := tileArea d i
    let n := ar.2.2.1 * ar.2.2.2
    let m := n * attBpp d k * passSamples d
    let r := s.tileAtt j c d i k flushed (resolvePx d k n ((px.drop off).take m))
    let q := r.1.tileAtts j c d i flushed px t (off + m)
    (q.1, if r.2 then k :: q.2 else q.2)

/-- The damage bitmap of a pass (R202). -/
def State.damageMap (s : State) (j : Job) (d : Nat) (tiles : List Nat) : State :=
  let words := cdiv (passCols d) 64
  forL (fun ty s =>
    let v := forL (fun tx a => if tiles.contains (ty * passCols d + tx) then a ||| (1 <<< tx) else a) (upto 0 (passCols d)) 0
    s.gwrite j.id 0x58 j.tag j.ways false (words + 2) (byteF d 44 5 + ty * words * 8) (natBytes (8 * words) v))
    (upto 0 (cdiv (byteF d 6 2) 32)) s

/-- The damage record of attachment k (R202). -/
def State.damageRecord (s : State) (j : Job) (pass d k : Nat) (tiles : List Nat) : State :=
  let rows := tiles.map (fun i => i / passCols d)
  s.jrecTo j.tag 0x0009 fePage s.now (jpay [(16, 5, attF d k 0 5), (21, 1, k), (22, 2, pass),
    (24, 2, rows.foldl min 0xFFFF), (26, 2, if rows.isEmpty then 0xFFFF else rows.foldl max 0), (28, 4, tiles.length)])

/-- A pass has stored its last tile (R189, R202). -/
def State.passEnd (s : State) (id pass : Nat) : State :=
  match s.job id with
  | none => s
  | some j =>
    match j.passes[pass]? with
    | none => s
    | some q =>
      let d := q.d.toNat
      let w (k : Nat) : List Nat := q.written.getD k []
      let s := if byteF d 44 5 ≠ 0 then s.damageMap j d (w (byteF d 49 1)) else s
      let s := forL (fun k s => if bit (attF d k 9 1) 0 then s.damageRecord j pass d k (w k) else s) (passColours d) s
      s.modJob id (fun j => { j with
        passDone := pass + 1
        phase := if pass + 1 = j.passes.length then .done else j.phase })

/-- A core that has given up its unit: a disable of its page applies (R211). -/
def State.coreStops (s : State) (c : Nat) : State :=
  if (s.ctl (gcorePage c)).stopDue then s.applyDue (gcorePage c) s.now else s

/-- A core may still store its tile: nobody asked for it, or no more than `TILE_WAIT` ago (R220). -/
def State.mayStore (s : State) (c : Nat) : Bool :=
  match (s.gcore c).preempt with
  | some q => decide (s.now ≤ q) || decide (s.now < q + s.get schedPage F.GSCHED.TILE_WAIT)
  | none => true

/-- A core resolves its tile (R193, R197, R200); `px` are the samples drawn, attachment after attachment, row after row,
none for a byte that nothing drew, `frags` the fragments shaded, and `acts` the accesses of the shaders in order. (log 215, DESIGN CHOICE)
(log 245, DEDUCED) (log 260, DESIGN CHOICE) -/
def State.tileResolve (s : State) (c : Nat) (px : List (Option Byte)) (frags : Nat) (acts : List ShAct) : State :=
  match (s.gcore c).unit with
  | some (id, .tile p i) =>
    match s.job id with
    | none => s
    | some j =>
      match j.passes[p]? with
      | none => s
      | some q =>
        if s.mayStore c = false then s
        else
        let d := q.d.toNat
        let px := overlay (s.gcore c).tile px
        let s := s.shActs j c acts
        let pre := (s.gcore c).preempt.isSome
        let s := if pre then s.stat schedPage 3 else s
        let s := s.gcoreFree c
        let r := s.tileAtts j c d i q.flushed px (passAtts d) 0
        let col := (passColours d).filter (fun k => r.2.contains k)
        let skip := (passColours d).any (fun k => attF d k 8 1 == 0 && !r.2.contains k)
        let s := (((if r.2.isEmpty then r.1 else r.1.stat countPage 0).stat64 countPage 2 frags).stat64 countPage 4 (sampleCount acts)).stat (gcorePage c) 0
        let s := s.modJob id (fun j => { j with
          wrote := j.wrote + b2n (!r.2.isEmpty)
          skipped := j.skipped + b2n (r.2.isEmpty && skip)
          passes := j.passes.modify p (fun q => { q with
            stored := q.stored ++ [i]
            written := (upto 0 q.written.length).map (fun k =>
              if col.contains k then q.written.getD k [] ++ [i] else q.written.getD k []) }) })
        let full := match (s.job id).bind (fun j => j.passes[p]?) with
          | some q => q.stored.length == passTiles d
          | none => false
        let s := if full then s.passEnd id p else s
        (s.coreStops c).deadlineEval id
  | _ => s

/-- A core retires its workgroup (R189, R219), whose shaders have made the accesses `acts`. (log 215, DESIGN CHOICE) -/
def State.groupRetired (s : State) (c : Nat) (acts : List ShAct) : State :=
  match (s.gcore c).unit with
  | some (id, .group _) =>
    let s := match s.job id with
      | some j => (s.shActs j c acts).stat64 countPage 4 (sampleCount acts)
      | none => s
    let s := (s.gcoreFree c).modJob id (fun j => { j with
      gDone := j.gDone + 1
      phase := if j.gDone + 1 = j.groups then .done else j.phase })
    (s.coreStops c).deadlineEval id
  | _ => s

/-! The end of a job -/

/-- A job ends (R189): write-back, record, fence; its descriptor ends, and its history is updated (R218). -/
def State.jobEnd (s : State) (id : Nat) : State :=
  match s.job id with
  | none => s
  | some j0 =>
    if j0.phase ≠ .done then s
    else
      let s := (s.gsettle).l2Tag id j0.tag false
      match s.job id with
      | none => s
      | some j =>
        let s := s.jrecTo j.tag 0x0008 fePage s.now (jpay [(16, 5, j.addr), (21, 1, j.status), (22, 2, j.passDone),
          (24, 4, j.wrote), (28, 4, j.skipped)])
        let sf := j.f 26 2
        let own := decide (sf < 4096) && s.fenceOwner sf == j.tag
        let s := if own then s.signal sf (j.f 36 8) else s
        let s := (s.descEnd j.ring j.num j.status).costUpdate j
        let s := s.stat fePage 0
        let s := if j.status ≠ 0 then s.stat fePage 1 else s
        let s := if j.cls = 0 then s.stat schedPage 0 else s
        let s := { s with gfx := { s.gfx with
          jobs := s.gfx.jobs.filter (fun k => k.id != id)
          saved := s.gfx.saved.filter (fun x => x.job != id) } }
        (s.maskEnd j.tag).gfxIdle

/-- Every unit of a job leaves its core without a save, and its saved contexts are dropped. (log 30, DEDUCED) -/
def State.jobDrop (s : State) (id : Nat) : State :=
  let s := forN (fun c s =>
    match (s.gcore c).unit with
    | some (k, _) => if k = id then s.gcoreFree c else s
    | none => s) 24 s
  { s with gfx := { s.gfx with saved := s.gfx.saved.filter (fun x => x.job != id) } }

/-- A core hangs (R212): the job ends with `CORE_HANG`. It has made no progress for `HANG_LIMIT` × 1,024 ticks, at the earliest from the tick on which it took its unit. -/
def State.coreHang (s : State) (c : Nat) : State :=
  match (s.gcore c).unit with
  | some (id, _) =>
    let s := s.waitTo ((s.gcore c).took + 1024 * s.get (gcorePage c) F.GCORE.CORE_CFG)
    let s := s.hit (98 + c) c
    (((s.jobStatus id 0x55).jobDrop id).modJob id (fun j => { j with phase := .done })).coreStops c
  | none => s

/-- The jobs of a tenancy end with `PURGED` (R225): how many. (log 30, DEDUCED) -/
def State.gfxPurge (s : State) (tag : Nat) : State × Nat :=
  let l := (s.gfx.jobs.filter (fun j => j.tag == tag)).map (·.id)
  (forL (fun id s =>
    ((s.jobDrop id).modJob id (fun j => { j with status := 0x58, phase := .done })).jobEnd id) l s, l.length)

/-! Pre-emption and misses -/

/-- A pre-empted core has saved its unit (R220–R222); `ctx` is the context written. A tile is saved when it has not stored within `TILE_WAIT`; the tile buffer is saved first. -/
def State.saveDone (s : State) (c : Nat) (ctx : List Byte) : State :=
  let x := s.gcore c
  match x.unit, x.preempt with
  | some (id, u), some _ =>
    match s.job id with
    | none => s
    | some j =>
      let used := (s.gfx.saved.filter (fun y => y.tag == j.tag)).map (·.slot)
      let slot := ((upto 0 (2 * s.gcores)).find? (fun n => !used.contains n)).getD 0
      let s := match u, x.preempt with
        | .tile _ _, some q => s.waitTo (q + s.get schedPage F.GSCHED.TILE_WAIT)
        | _, _ => s
      let d := (x.tile ++ ctx).take 196608
      let s := s.gwrite id (0x40 + c) j.tag (s.get l2Page F.GL2.SAVE_WAYS) false (d.length / 64 + 2)
        (s.saveBase (j.tag - 0x10) + slot * 196608) d
      let s := s.gcoreFree c
      let s := { s with gfx := { s.gfx with saved := s.gfx.saved ++ [(⟨j.tag, slot, id, u, d.length, min x.tile.length d.length⟩ : Saved)] } }
      let s := s.stat64 schedPage 14 (cdiv d.length 128)
      match u with
      | .tile _ _ => (s.stat schedPage 3).stat schedPage 4
      | .group _ => s.stat schedPage 5
  | _, _ => s

/-- A core is not free within the bound of a request (R221). -/
def State.preemptLate (s : State) (c : Nat) : State :=
  let x := s.gcore c
  match x.unit, x.preempt with
  | some (_, u), some q =>
    if x.late then s
    else
      let s := s.waitTo (q + (match u with
        | .tile _ _ => 3072
        | .group _ => 15360))
      (((s.setGcore c { x with late := true }).hit 97 c).intBit schedPage 2).stat schedPage 6
  | _, _ => s

/-- A DEADLINE job has not set its fence by T (R224). (log 33, DEDUCED) -/
def State.deadlineMiss (s : State) (id : Nat) : State :=
  match s.job id with
  | none => s
  | some j0 =>
    if (j0.phase = .ready ∨ j0.phase = .done) ∧ j0.cls = 0 then
      let s := ((s.waitTo j0.tgt).gsettle).costTouch j0
      match s.job id with
      | none => s
      | some j =>
        let t := j.tag - 0x10
        let h := j.f 3 1
        let cause := if s.mayShare t = false then 2 else if j.given = false then 1 else 0
        let r := s.raster h
        let k := if j.dl ≤ r.org then 0 else (s.nextSlackN h (j.dl - 1)).2
        let seq := s.get (headPage h) F.HEAD.FRAME_SEQ + k
        let pay := jpay [(16, 5, j.addr), (21, 1, h), (22, 1, cause), (24, 4, seq),
          (28, 4, sat 0xFFFFFFFF (s.jobRem j / 64))]
        let s := (s.hit 96 h).intBit schedPage 0
        let s := ((s.jrecTo j.tag 0x000A schedPage j.tgt pay).stat schedPage 1).stat sstatPage (16 + t)
        let s := if s.owner (headPage h) ≠ j.tag then s.jrecTo (s.owner (headPage h)) 0x000A schedPage j.tgt pay else s
        let d := s.nextSlack h j.dl
        s.modJob id (fun j => { j with dl := d, tgt := d - j.guard })
    else s

/-! Register writes -/

/-- `L2_CTRL.FLUSH_ALL` (R211). -/
def State.l2FlushAll (s : State) : State :=
  { s.put l2Page F.GL2.L2_CTRL 1 with gfx := { s.gfx with flushing := true } }

/-- The flush completes. -/
def State.l2FlushDone (s : State) : State :=
  if s.gfx.flushing then
    let s := (s.l2Clean (fun _ => true) true).1
    { s.put l2Page F.GL2.L2_CTRL 0 with gfx := { s.gfx with flushing := false } }
  else s

/-- `COST_CTRL.FLUSH` bits (R218). -/
def State.costFlushMask (s : State) (m : Nat) : State :=
  forN (fun t s => if bit m t then s.costFlush t else s) 16 s

/-- `GFX.L2`, `GFX.SCHED`. -/
def gl2Reg (off : Nat) (_r : Req) (v : Word) (s : State) : Option State :=
  if off = 0x140 then some (if bit v.toNat 0 then s.l2FlushAll else s) else none
def gschedReg (off : Nat) (_r : Req) (v : Word) (s : State) : Option State :=
  if off = 0x1C0 then some (s.costFlushMask (if bit v.toNat 16 then 0xFFFF else v.toNat)) else none

end Sys2Proof.Machine
end

