-- ==== Sys2Proof/Machine/HostOps.lean ====
section
/-! DEFINITION. Host ports and what a host does to them: readiness, configuration, links, doorbells and the memory
window (R393–R400), copy engines (R413–R416), quiesce and instance reset (R425–R428). -/

namespace Sys2Proof.Machine

/-! Ports -/

/-- `PERST#` of a port is released (R393). (log 78, DEDUCED) -/
def State.perstRelease (s : State) (p : Nat) : State :=
  let x := s.port p
  if x.perst then s.setPort p { x with perst := false, rel := s.now, late := false } else s

/-- 90 ms after the release the port is ready, and enables itself when nobody has (R393). (log 78, DEDUCED) -/
def State.portReadyTimeout (s : State) (p : Nat) : State :=
  let x := s.port p
  if x.perst ∨ x.late ∨ s.mode = .off ∨ s.mode = .backup ∨ s.rst.chip.isSome ∨ s.part.hostPorts ≤ p then s
  else
    let s := s.waitTo (x.rel + 55296000)
    let s := s.setPort p { x with late := true }
    if s.enabled (portPage p) ∨ s.inReset (portPage p) then s
    else (s.put (portPage p) F.HDR.CTRL_ENABLE 1).startBlock (portPage p) s.now

/-- A function of a port exists (R401). -/
def State.fnExists (s : State) (p f : Nat) : Bool := bit (s.get (funcPage p) F.HFUNC.SRIOV_STATE) f

/-- The vectors of a function send what is pending once nothing masks them (R94). -/
def State.fnRetry (s : State) (p f : Nat) : State := forN (fun v s => s.msixRetry p f v) 64 s

/-- A configuration request (R393, R401): Retry Status until the port is ready. (log 79, DEDUCED) (log 266, DESIGN CHOICE) -/
def State.configRequest (s : State) (p f : Nat) (c : CfgReq) : State :=
  let x := s.port p
  if x.perst ∨ s.part.hostPorts ≤ p then s
  else if s.portReady p = false then s.setPort p { x with crs := x.crs + 1 }
  else if s.fnExists p f = false then s.stat (herrPage p) 3
  else match c with
    | .other => s
    | .sriov en n => if f = 0 then s.put (funcPage p) F.HFUNC.SRIOV_STATE (if en then ones (n.val + 1) else 1) else s
    | .msix en m =>
      let s := (s.put (msixPage p) (F.HMSIX.MSIX_STATE_ENABLE.at f) (b2n en)).put (msixPage p) (F.HMSIX.MSIX_STATE_MASK.at f)
        (b2n m)
      s.fnRetry p f

/-- The link of a port trains (R392): lanes 1, 2 or 4, generation 1–4. (log 77, DEDUCED) (log 266, DESIGN CHOICE) -/
def State.linkUp (s : State) (p width speed : Nat) : State :=
  if (s.port p).perst ∨ s.part.hostPorts ≤ p ∨ s.inReset (portPage p) ∨ s.mode = .off ∨ s.mode = .backup then s
  else
    let s := s.put (portPage p) F.HOSTP.PORT_INFO_UP 1
    (s.put (portPage p) F.HOSTP.PORT_INFO_WIDTH width).put (portPage p) F.HOSTP.PORT_INFO_SPEED speed

/-! Errors -/

/-- The bit of an AER event in its status register, and whether it is correctable (R392). (log 76, PRESUMED) -/
def aerInfo : AerKind → Nat × Bool
  | .receiver => (0, true)
  | .badTlp => (6, true)
  | .badDllp => (7, true)
  | .replayRollover => (8, true)
  | .replayTimeout => (12, true)
  | .poisoned => (12, false)
  | .completerAbort => (15, false)
  | .unexpected => (16, false)
  | .malformed => (18, false)
  | .unsupported => (20, false)

/-- An AER event is raised and recorded (R394, R401): `hdr` is the header of an uncorrectable error. -/
def State.aer (s : State) (p b : Nat) (cor : Bool) (hdr : Option (BitVec 128)) : State :=
  let e := herrPage p
  let s := match hdr with
    | some h => forN (fun j (s : State) => s.wr (e + 0xF00 + 4 * j) (BitVec.ofNat 32 (bits h.toNat (32 * j + 31) (32 * j)))) 4 s
    | none => s
  ((s.stat e (if cor then 0 else 1)).intBit e (if cor then 0 else 1)).hit (21 + p) b

/-- An AER event of a port whose link is up. (log 76, PRESUMED) (log 266, DESIGN CHOICE) -/
def State.aerEvent (s : State) (p : Nat) (k : AerKind) (hdr : BitVec 128) : State :=
  if s.flag (portPage p) F.HOSTP.PORT_INFO_UP = false then s
  else
    let i := aerInfo k
    let s := s.aer p i.1 i.2 (if i.2 then none else some hdr)
    if k = .poisoned then s.stat (herrPage p) 4 else s

/-- A completion timeout is recorded (R400, R401). -/
def State.cplTimeout (s : State) (p : Nat) : State := (s.aer p 14 false none).stat (herrPage p) 2

/-! Doorbell pages (R397) -/

/-- A write of `DOORBELL_r` through function f of port p. (log 74, DEDUCED) -/
def State.doorbell (s : State) (p f r wr : Nat) : State :=
  if s.flag (portPage p) F.HOSTP.PORT_INFO_UP = false ∨ s.fnExists p f = false then s
  else match s.fnTen p f with
    | none => s.stat (herrPage p) 3
    | some t =>
      if s.ringOwner r ≠ 0x10 + t then s.hitAcc 10 (lineOf (ringPage r)) 4 p (0x10 + t) (4 * r)
      else if s.ringState r ≠ 1 ∧ s.ringState r ≠ 2 then s.stat (ringPage r) 5
      else if s.ringSlots r ≤ wr then s.ringError r 5 0
      else (s.ringPut r F.RING.RING_WR wr).wake

/-- A stray access through function f of port p, of tenancy t, at offset o of its pages (R73, R398). (log 75, DEDUCED) -/
def State.fnStray (s : State) (p t o : Nat) (write : Bool) : State :=
  s.hitAcc 9 0x09 (if write then 4 else 3) p (0x10 + t) o

/-- A write of `JOURNAL_RD` through function f of port p. (log 75, DEDUCED) -/
def State.journalRd (s : State) (p f rd : Nat) : State :=
  if s.flag (portPage p) F.HOSTP.PORT_INFO_UP = false ∨ s.fnExists p f = false then s
  else match s.fnTen p f with
    | none => s.stat (herrPage p) 3
    | some t =>
      if s.jSlots t ≤ rd then s.fnStray p t 0x800 true
      else s.put (tenPage t) F.TEN.J_STATE_RD rd

/-! The doorbell and status pages of a function (R396 to R398) -/

/-- The key of the word that a function's read of `THYME_LO` holds for its next read of `THYME_HI` (R45, R398).
(log 255, DEDUCED) -/
def fnSnapKey (p f : Nat) : Nat := 0x100000000 + 16 * p + f

/-- `TEN_STATE` of the status page (R398). -/
def State.tenStateWord (s : State) (t : Nat) : Nat :=
  let q := tenPage t
  4 * b2n (s.enabled q) + 2 * s.get q F.TEN.TEN_STATE_QUIESCING + s.get q F.HDR.STATUS_QUIESCED

/-- The word at offset o, 8 or more, of tenancy t's status page (R398); none: an undefined offset. -/
def State.statusReg (s : State) (t o : Nat) : Option Word :=
  if o = 0x008 then some (BitVec.ofNat 32 (0x10 + t))
  else if o = 0x00C then some (BitVec.ofNat 32 (s.tenStateWord t))
  else if o = 0x010 then some (BitVec.ofNat 32 (s.get (tenPage t) F.TEN.J_STATE_WR))
  else if o = 0x014 then some (BitVec.ofNat 32 (s.get (tenPage t) F.TEN.J_SEQ))
  else if o = 0x018 then some (BitVec.ofNat 32 s.mode.code)
  else if 0x100 ≤ o ∧ o < 0x300 then
    let r := (o - 0x100) / 4
    some (if s.ringOwner r = 0x10 + t then s.regValue (ringPage r + 0xF00 + 8 * (r % 16)) else 0)
  else none

/-- A read of the whole word at offset o of tenancy t's pages. The doorbell registers are write-only and read 0. (log 255, DEDUCED) -/
def State.fnWord (s : State) (p f t o : Nat) : State × Word :=
  let set := fun (x : Nat × Word) => { s with snaps := amSet (fun _ => (0, (0 : Word))) s.snaps (fnSnapKey p f) x }
  if o % 4 = 0 ∧ (o < 0x200 ∨ o = 0x800) then (s, 0)
  else if o = 0x1000 then (set (1, BitVec.ofNat 32 (s.now / 0x100000000)), BitVec.ofNat 32 s.now)
  else if o = 0x1004 then
    match amGet (fun _ => (0, (0 : Word))) s.snaps (fnSnapKey p f) with
    | (0, _) => (s, BitVec.ofNat 32 (s.now / 0x100000000))
    | (_, w) => (set (0, 0), w)
  else match (if o % 4 = 0 ∧ 0x1000 ≤ o then s.statusReg t (o - 0x1000) else none) with
    | some w => (s, w)
    | none => (s.fnStray p t o false, 0)

/-- A read of `bytes` bytes at offset o of the pages of function f of port p (R72, R396). -/
def State.fnRead (s : State) (p f o bytes : Nat) : State :=
  if s.flag (portPage p) F.HOSTP.PORT_INFO_UP = false ∨ s.fnExists p f = false then s
  else match s.fnTen p f with
    | none => s.stat (herrPage p) 3
    | some t =>
      let q := if 0 < bytes ∧ o % 4 + bytes ≤ 4 then s.fnWord p f t (o / 4 * 4) else s.fnWord p f t o
      State.answer ⟨BitVec.ofNat 8 p, BitVec.ofNat 12 (0x10 + t)⟩ o (q.1, narrowed q.2 o bytes)

/-- A write at offset o of the pages of function f of port p (R72, R397, R398): the status page is read-only. -/
def State.fnWrite (s : State) (p f o : Nat) (v : Word) (bytes : Nat) : State :=
  if bytes = 4 ∧ o % 4 = 0 ∧ o < 0x200 then s.doorbell p f (o / 4) (v.toNat % 0x10000)
  else if bytes = 4 ∧ o = 0x800 then s.journalRd p f (v.toNat % 0x10000)
  else if s.flag (portPage p) F.HOSTP.PORT_INFO_UP = false ∨ s.fnExists p f = false then s
  else match s.fnTen p f with
    | none => s.stat (herrPage p) 3
    | some t => s.fnStray p t o true

/-! The memory window (R399) -/

/-- The port of the manager. -/
def State.mgrPort (s : State) : Nat := if s.flag (portPage 0) F.HOSTP.PORT_INFO_MGR then 0 else 1

/-- An access to the window ends: a read that is not successful has sent its completion. (log 81, DEDUCED) -/
def State.barEnd (s : State) (status : Nat) (d : List Byte) : State := { s with bar4 := some ⟨status, d⟩ }

/-- An access of n bytes at window offset o; `data` is written. (log 81, DEDUCED) (log 82, DEDUCED) In RECOVERY only port 0
reaches the Tidepool, with owner tag 0x001 (R506). -/
def State.bar4Access (s : State) (o : Nat) (write : Bool) (n : Nat) (data : List Byte) : State :=
  let rcv := s.mode == .recovery
  let p := if rcv then 0 else s.mgrPort
  let len := if write then data.length else n
  if s.flag (portPage p) F.HOSTP.PORT_INFO_UP = false ∨ len = 0 then s
  else
    let pool := decide (0x800000000 ≤ o)
    let a := if pool then o - 0x800000000 else o
    let top := if pool then s.poolBytesTotal else 0x800000000
    if top < a + len ∨ (rcv ∧ pool = false) then (if write then s else s.stat (herrPage p) 3).barEnd 1 []
    else
      let rq : MemRq := ⟨p, if rcv then 1 else 0x010, a, len, write, pool, false⟩
      if write then (s.mwrite rq data).1.barEnd 0 []
      else
        let ok := (s.wouldAllow rq).isSome
        match s.mread rq with
        | (s, some (d, _)) => s.barEnd 0 d
        | (s, none) =>
          if ok && (pool || s.dramServes a) then s.barEnd 3 [] else (s.stat (herrPage p) 3).barEnd 2 []

/-! Ring fetch (R404, R405) -/

/-- Bytes of ring memory: those of DRAM and the Tidepool as they stand, those of a host as it answered. -/
def State.ringRead (s : State) (r off : Nat) (data : Option (BitVec 512)) : State × Option (BitVec 512) :=
  let sp := s.ringF r F.RING.RING_CFG_SPACE
  let o := s.ringOwner r
  if sp < 2 then
    match s.spRead 0x02 o sp (s.ringBase r + off) 64 with
    | (s, some d) => (s, some (BitVec.ofNat 512 (bytesNat d)))
    | (s, none) => (s, none)
  else (s, if s.hostOk (sp - 2) o then data else none)

/-- The feature bits of a ring version (R404). -/
def ringFeatures (v : Nat) : Nat := if v = 2 then 1 else 0

/-- A ring's header has been read, or its read has failed (R404, R410). -/
def State.ringHeader (s : State) (r : Nat) (data : Option (BitVec 512)) : State :=
  if (s.ring r).starting = false ∨ s.engineRuns 2 = false then s
  else match s.ringRead r 0 data with
    | (s, none) => (s.stat (ringPage r) 4).ringError r 4 0
    | (s, some h) =>
      let n := h.toNat
      if bits n 31 0 ≠ 0x474E4952 then s.ringError r 1 0
      else
        let v := negotiateW (s.ring r).loc
          (bits n 39 32) (bits n 47 40) (bits n 63 48) ringFeatures s.now
        let s := s.setRing r { s.ring r with ver := v, starting := false }
        if v.reason ≠ 0 then s.ringError r 2 0 else s.setRingState r 1

/-- A descriptor's bytes i to i + n − 1 are zero. -/
def dz (d : Desc) (i n : Nat) : Bool := byteF d.toNat i n == 0

/-- Why a descriptor of ring r is invalid (R406–R410, R413, R183): 0 valid, 3 invalid, 6 a named resource not
owned. (log 83, DEDUCED) (log 84, DEDUCED) (log 85, DEDUCED) -/
def State.descBad (s : State) (r : Nat) (d : Desc) : Nat :=
  let n := d.toNat
  let f (i k : Nat) : Nat := byteF n i k
  let o := s.ringOwner r
  let q := s.part
  let fl := f 1 1
  let spBad (sp : Nat) : Bool := decide (3 < sp) || s.spaceFused sp
  let addrBad (sp a : Nat) : Bool := decide (sp < 2) && decide (1 <<< 40 ≤ a)
  if dz d 2 2 = false ∨ 3 < fl ∨ (bit fl 1 ∧ (s.ring r).ver.agreed % 2 = 0) then 3
  else match f 0 1 with
    | 0 => if dz d 8 56 then 0 else 3
    | 1 => if dz d 13 51 && f 8 5 % 64 == 0 then 0 else 3
    | 2 =>
      let e := f 8 1
      let u := f 9 1
      let w := f 12 4
      let rows := f 16 4
      if (decide (3 < e) && e != 0xFF) || (decide (15 < u) && u != 0xFF) || spBad (f 10 1) || spBad (f 11 1)
          || w == 0 || decide (16777216 < w) || rows == 0 || decide (65536 < rows)
          || (decide (1 < rows) && (decide (f 20 4 < w) || decide (f 24 4 < w)))
          || !dz d 28 4 || !dz d 48 16 || addrBad (f 10 1) (f 32 8) || addrBad (f 11 1) (f 40 8) then 3
      else if u ≠ 0xFF ∧ s.owner (cvuPage u) ≠ o then 6 else 0
    | 3 =>
      if dz d 10 6 = false ∨ dz d 24 40 = false ∨ 4096 ≤ f 8 2 then 3
      else if s.fenceOwner (f 8 2) = o then 0 else 6
    | 4 =>
      if dz d 10 6 = false ∨ dz d 24 40 = false ∨ 4096 ≤ f 8 2 then 3
      else if s.fenceOwner (f 8 2) = o ∨ bits (s.fence (f 8 2)).cfg.toNat 23 12 = o then 0 else 6
    | 5 =>
      let k := f 8 1
      if k = 0 ∨ 5 < k ∨ spBad (f 9 1) ∨ addrBad (f 9 1) (f 16 8) ∨ f 16 8 % 4 ≠ 0 ∨ dz d 10 6 = false
          ∨ dz d (24 + 8 * k) (40 - 8 * k) = false
          ∨ (upto 0 k).any (fun j => bits (f (24 + 8 * j) 4) 30 24 != 0 || f (24 + 8 * j) 4 % 4 != 0) then 3
      else 0
    | 6 =>
      if q.hapCh ≤ f 8 1 ∨ 31 < f 9 1 ∨ 1 < f 10 1 ∨ dz d 11 53 = false then 3
      else if s.owner (hchanPage (f 8 1)) = o then 0 else 6
    | 7 =>
      if 127 < f 8 1 ∨ dz d 9 3 = false ∨ dz d 15 49 = false then 3
      else if s.get againPage (F.AGAIN.GOWN_OWNER.at (f 8 1)) = o then 0 else 6
    | 8 =>
      if 63 < f 8 1 ∨ dz d 9 55 = false then 3
      else if s.get aengPage (F.AENG.TRIG_OWNER.at (f 8 1)) = o then 0 else 6
    | _ => 3

/-- A ring runs, and nothing stops its issue or fetch. -/
def State.ringLive (s : State) (r : Nat) : Bool :=
  (s.ringState r == 1 || s.ringState r == 2) && !(s.ring r).stopping && (match tenOf (s.ringOwner r) with
    | some t => !s.stopped t
    | none => true)

/-- The next descriptor of a ring has been fetched (R405, R410). -/
def State.ringFetched (s : State) (r : Nat) (data : Option Desc) : State :=
  let x := s.ring r
  let k := (s.ringF r F.RING.RING_STATE_RD + x.pre.length) % s.ringSlots r
  if s.ringLive r = false ∨ 8 ≤ x.pre.length ∨ k = s.ringF r F.RING.RING_WR ∨ s.engineRuns 2 = false then s
  else match s.ringRead r (64 + 64 * k) data with
    | (s, none) => (s.stat (ringPage r) 4).ringError r 4 0
    | (s, some d) =>
      let s := s.stat (ringPage r) 2
      let e := s.descBad r d
      if e ≠ 0 then s.ringError r e d else s.setRing r { s.ring r with pre := x.pre ++ [d] }

/-- A stopping ring whose issued descriptors have completed is STOPPED (R405). -/
def State.ringStopped (s : State) (r : Nat) : State :=
  let x := s.ring r
  if x.stopping ∧ x.issued = [] then (s.setRingState r 0).setRing r { x with stopping := false, starting := false } else s

/-! Copy engines -/

/-- The page of copy engine e. -/
def copyPage (e : Nat) : Nat := pg 0x0B e

/-- Descriptors that a tenancy has queued on an engine. -/
def State.copyQueued (s : State) (e tag : Nat) : Nat := ((s.copyEng e).queue.filter (fun j => j.tag == tag)).length

/-- An engine with room for the tenancy (R414). (log 86, DEDUCED) -/
def State.copyRoom (s : State) (e tag : Nat) : Bool := s.enabled (copyPage e) && decide (s.copyQueued e tag < 4)

/-- The engine that takes a descriptor (R414). (log 27, DESIGN CHOICE) (log 86, DEDUCED) -/
def State.copyPick (s : State) (e tag : Nat) : Option Nat :=
  if e < 4 then (if s.copyRoom e tag then some e else none)
  else
    let l := (upto 0 4).filter (fun e => s.copyRoom e tag)
    l.find? (fun e => l.all (fun k => decide (s.copyQueued e tag ≤ s.copyQueued k tag)))

/-- `IDLE` of an engine follows its work. (log 27, DESIGN CHOICE) -/
def State.copyIdle (s : State) (e : Nat) : State :=
  let x := s.copyEng e
  s.put (copyPage e) F.HDR.STATUS_IDLE (b2n (x.running.isNone && x.queue.isEmpty))

/-- The budget and the key of a tenancy (R414). -/
def State.copyBudget (s : State) (t : Nat) : Nat := s.share t F.TEN.COPY_SHARE * 4096
def State.copiedBy (s : State) (t : Nat) : Nat := amGet (fun _ => 0) s.copied t
def State.copyKey (s : State) (t : Nat) : Nat × Nat :=
  let b := s.copyBudget t
  let c := s.copiedBy t
  (if c < b then 0 else 1, c * 1024 / max b 1)

/-- Keys in their order. -/
def keyLe (a b : Nat × Nat) : Bool := decide (a.1 < b.1) || (a.1 == b.1 && decide (a.2 ≤ b.2))

/-- The unit that observes a descriptor on engine e (R183). -/
def State.copyCvu (s : State) (e : Nat) (d : Desc) : Option Nat :=
  let u := byteF d.toNat 9 1
  if u < 16 ∧ s.cvuTaps u 0 e then some u else none

/-- A free engine starts the oldest descriptor of the tenancy with the smallest key (R414); a free value decides
between equal keys. -/
def State.copyStart (s : State) (e : Nat) : State :=
  let x := s.copyEng e
  if x.running.isSome ∨ s.enabled (copyPage e) = false ∨ s.mode = .safe ∨ s.engineRuns (4 + e) = false then s
  else
    let may := fun (t : Nat) => s.share t F.TEN.COPY_SHARE != 0 && !s.stopped t
      && x.queue.any (fun j => j.tag == 0x10 + t)
    let ts := (upto 0 16).filter may
    let best := ts.filter (fun t => ts.all (fun k => keyLe (s.copyKey t) (s.copyKey k)))
    match best with
    | [] => s
    | t0 :: rest =>
      let t := if rest = [] then t0 else best.getD (s.free.toNat % best.length) t0
      let s := if rest = [] then s else s.tookFree
      match x.queue.find? (fun j => j.tag == 0x10 + t) with
      | none => s
      | some j =>
        let s := s.setCopyEng e ⟨some (j, s.now), dropFirst (fun k => k.tag == 0x10 + t) x.queue⟩
        let s := match s.copyCvu e j.it.d with
          | some u => s.cvuOpen u
          | none => s
        s.copyIdle e

/-- What a copy in progress carries: blocks it may still do (none: all), bytes written, data of host reads, and
the address of the block that failed. (log 87, DESIGN CHOICE) -/
structure CopyRun where
  left : Option Nat
  bytes : Nat
  data : List Byte
  err : Option Nat

/-- The engine, tag and parameters of a copy. -/
structure CopyCtx where
  e : Nat
  tag : Nat
  ssp : Nat
  dsp : Nat
  ovr : Bool
  unit : Option Nat
  side : Bool
  was : State

/-- Source bytes of a chunk (R413): where source and destination overlap, each byte is the one before the copy or
the one that stands there now. -/
def State.copyRead (s : State) (c : CopyCtx) (a n : Nat) (data : List Byte) : State × Option (List Byte) × List Byte :=
  if c.ssp < 2 then
    match s.spRead (4 + c.e) c.tag c.ssp a n with
    | (s, none) => (s, none, data)
    | (s, some d) =>
      if c.ovr then
        match (c.was.spRead (4 + c.e) c.tag c.ssp a n).2 with
        | some old =>
          let v := s.free.toNat
          (s.tookFree, some ((upto 0 n).map (fun i => if bit v i then old.getD i 0 else d.getD i 0)), data)
        | none => (s, some d, data)
      else (s, some d, data)
  else if s.hostOk (c.ssp - 2) c.tag ∧ n ≤ data.length then (s, some (data.take n), data.drop n)
  else (s, none, data)

/-- A row is copied in chunks that lie in one 64-byte block of the source and one of the destination. -/
def State.copyRow (s : State) (c : CopyCtx) : Nat → Nat → Nat → Nat → CopyRun → State × CopyRun
  | 0, _, _, _, x => (s, x)
  | fuel + 1, sa, da, n, x =>
    if n = 0 ∨ x.err.isSome ∨ x.left = some 0 then (s, x)
    else
      let k := min n (min (64 - sa % 64) (64 - da % 64))
      match s.copyRead c sa k x.data with
      | (s, none, data) => (s, { x with data := data, err := some (sa - sa % 64) })
      | (s, some d, data) =>
        match s.spWrite (4 + c.e) c.tag c.dsp da d with
        | (s, false) => (s, { x with data := data, err := some (da - da % 64) })
        | (s, true) =>
          let s := match c.unit with
            | some u => s.cvuStream u (if c.side then c.dsp else c.ssp) (if c.side then da else sa) d
            | none => s
          s.copyRow c fuel (sa + k) (da + k) (n - k)
            { x with bytes := x.bytes + k, data := data, left := x.left.map (· - 1) }

/-- The rows of a copy in turn. -/
def State.copyRows (s : State) (c : CopyCtx) (w ss ds : Nat) : Nat → Nat → Nat → CopyRun → State × CopyRun
  | 0, _, _, x => (s, x)
  | n + 1, sa, da, x =>
    let r := s.copyRow c w sa da w x
    if r.2.err.isSome ∨ r.2.left = some 0 then r else r.1.copyRows c w ss ds n (sa + ss) (da + ds) r.2

/-- What a running descriptor moves, up to a number of blocks. (log 87, DESIGN CHOICE) -/
def State.copyMove (s : State) (e : Nat) (j : CopyJob) (left : Option Nat) (data : List Byte) : State × CopyRun :=
  let n := j.it.d.toNat
  let f (i k : Nat) : Nat := byteF n i k
  let w := f 12 4
  let rows := f 16 4
  let sa := f 32 8
  let da := f 40 8
  let ovr := f 10 1 == f 11 1 && decide (sa < da + f 24 4 * (rows - 1) + w) && decide (da < sa + f 20 4 * (rows - 1) + w)
  let u := s.copyCvu e j.it.d
  let side := match u with
    | some u => s.get (cvuPage u) F.CVU.SRC_CFG_SIDE == 1
    | none => false
  s.copyRows ⟨e, j.tag, f 10 1, f 11 1, ovr, u, side, s⟩ w (f 20 4) (f 24 4) rows sa da ⟨left, 0, data, none⟩

/-- The bytes moved are counted (R414, R416, R422). -/
def State.copyCount (s : State) (e tag n : Nat) : State :=
  let s := (s.stat64 (copyPage e) 2 n)
  match tenOf tag with
  | some t => { s.stat64 (tenPage t) 4 n with copied := amSet (fun _ => 0) s.copied t (s.copiedBy t + n) }
  | none => s

/-- A running descriptor ends with a status. (log 88, DESIGN CHOICE) -/
def State.copyEnd (s : State) (e : Nat) (j : CopyJob) (x : CopyRun) (status : Nat) : State :=
  let s := s.copyCount e j.tag x.bytes
  let s := match s.copyCvu e j.it.d with
    | some u => if status = 0 then s.cvuFinish u else s.cvuAbort u
    | none => s
  let s := s.setCopyEng e { s.copyEng e with running := none }
  (s.descEnd j.ring j.it.num status).copyIdle e

/-- The running descriptor of an engine completes, or a bus error ends it (R413, R415); `data` is what a host
returned, up to the block that failed. (log 88, DESIGN CHOICE) -/
def State.copyDone (s : State) (e : Nat) (data : List Byte) : State :=
  match (s.copyEng e).running with
  | none => s
  | some (j, _) =>
    let r := s.copyMove e j none data
    let p := copyPage e
    match r.2.err with
    | some a =>
      let s := r.1.copyEnd e j r.2 0x60
      ((s.put64 p F.COPY.ERR_ADDR_LO a).intBit p 0).stat p 1
    | none => (r.1.copyEnd e j r.2 0).stat p 0

/-! Quiesce (R425, R426) -/

/-- A completed descriptor of a ring writes its record at once. -/
def State.descNow (s : State) (r num : Nat) : State :=
  let x := s.ring r
  match x.issued.find? (fun i => i.num == num && i.fin.isSome) with
  | none => s
  | some i =>
    let s := s.setRing r { x with issued := x.issued.filter (fun k => k.num != num) }
    match i.fin with
    | some (st, t) => s.descRecord r i st t
    | none => s

/-- A copy descriptor is purged (R425). -/
def State.copyPurged (s : State) (e : Nat) (j : CopyJob) : State :=
  ((s.stat (copyPage e) 4).descEnd j.ring j.it.num 0x58).descNow j.ring j.it.num

/-- The queued copies of a tag are purged: how many. -/
def State.copyPurgeQueue (s : State) (tag : Nat) : State × Nat :=
  let all := (upto 0 4).flatMap (fun e => ((s.copyEng e).queue.filter (fun j => j.tag == tag)).map (fun j => (e, j)))
  let s := forL (fun e s => s.setCopyEng e { s.copyEng e with queue := (s.copyEng e).queue.filter (fun j => j.tag != tag) })
    [0, 1, 2, 3] s
  let s := forL (fun (x : Nat × CopyJob) s => s.copyPurged x.1 x.2) all s
  (forL (fun e s => s.copyIdle e) [0, 1, 2, 3] s, all.length)

/-- A quiesce of tenancy t starts, with a timeout. (log 90, DEDUCED) -/
def State.quiesceStart (s : State) (t timeout : Nat) (flr : List (Nat × Nat)) : State :=
  let p := tenPage t
  let s := forL (fun r s => s.setRing r { s.ring r with pre := [] }) (s.ringsOf (0x10 + t)) s
  let r := s.copyPurgeQueue (0x10 + t)
  let s := r.1.setQuiesce t (some ⟨s.now, s.now + timeout, false, r.2, 0, flr⟩)
  (s.put p F.TEN.TEN_STATE_QUIESCING 1).put p F.TEN.TEN_STATE_TIMED_OUT 0

/-- A write of `TEN_t.CTRL.QUIESCE` = 1. -/
def State.quiesceWrite (s : State) (t : Nat) : State :=
  let p := tenPage t
  let s := s.put p F.HDR.CTRL_QUIESCE 1
  if s.stopped t then s else s.quiesceStart t (s.get p F.TEN.QUIESCE_TIMEOUT) []

/-- A write of `TEN_t.CTRL.QUIESCE` = 0: functions whose reset has not run yet still return to their defaults. (log 92, DEDUCED) -/
def State.resumeWrite (s : State) (t : Nat) : State :=
  let p := tenPage t
  let fl := match s.quiesce t with
    | some q => q.flr
    | none => []
  let s := ((s.put p F.HDR.CTRL_QUIESCE 0).put p F.HDR.STATUS_QUIESCED 0).put p F.TEN.TEN_STATE_QUIESCING 0
  forL (fun (x : Nat × Nat) s => s.fnReset x.1 x.2) fl (s.setQuiesce t none)

/-- A running copy of the tenancy stops after its block in progress, with what it had done by then. (log 89, DESIGN CHOICE) -/
def State.copyStop (s : State) (e blocks : Nat) (data : List Byte) : State :=
  match (s.copyEng e).running with
  | none => s
  | some (j, _) =>
    let r := s.copyMove e j (some blocks) data
    let s := (r.1.copyEnd e j r.2 0x58).stat (copyPage e) 4
    s.descNow j.ring j.it.num

/-- The timeout of a quiesce (R425, R225): `done` gives the blocks that each engine had done, with the data that a
host returned. (log 89, DESIGN CHOICE) -/
def State.quiesceTimeout (s : State) (t : Nat) (done : List (Nat × List Byte)) : State :=
  match s.quiesce t with
  | none => s
  | some q =>
    if q.timedOut then s
    else
      let s := s.waitTo q.timeout
      let mine := (upto 0 4).filter (fun e => match (s.copyEng e).running with
        | some (j, _) => j.tag == 0x10 + t
        | none => false)
      let s := forL (fun e s => let x := done.getD e (0, []); s.copyStop e x.1 x.2) mine s
      let r := (s.gsettle).gfxPurge (0x10 + t)
      let s := r.1.setQuiesce t (some { q with timedOut := true, descs := q.descs + mine.length, jobs := r.2 })
      s.put (tenPage t) F.TEN.TEN_STATE_TIMED_OUT 1

/-! Instance reset (R427, R428) -/

/-- A ring of the tenancy is STOPPED. -/
def State.ringClear (s : State) (r : Nat) : State :=
  let s := s.setRingState r 0
  let s := (s.ringPut r F.RING.RING_CFG_RUN 0).ringPut r F.RING.RING_CFG_RUN.sh 0
  let s := (s.ringPut r F.RING.RING_STATE_RD 0).ringPut r F.RING.RING_WR 0
  s.setRing r { RingSt.stopped with ver := (s.ring r).ver }

/-- What the instance reset of tenancy t does. (log 94, DEDUCED) -/
def State.instReset (s : State) (t : Nat) : State :=
  let o := 0x10 + t
  let p := tenPage t
  let s := forL (fun r s => s.ringClear r) (s.ringsOf o) s
  let fs := (s.fences.map (·.1)).filter (fun f => s.fenceOwner f == o)
  let s := forL (fun f s => (s.setFence f { s.fence f with value := 0 }).fenceMirror f) fs s
  let s := ((s.costFlush t).l2Clean (fun x => x.tag == o) true).1
  let s := (s.put p F.TEN.J_SEQ 0).put p F.TEN.J_LOST 0
  (s.setJournal t Journal.empty).jHeader t

/-- A write of `TEN_t.CTRL.BLOCK_RESET` = 1 (R427). -/
def State.instWrite (s : State) (t : Nat) (r : Req) : State :=
  let p := tenPage t
  if s.secureHold p ∧ r.tag ≠ 1 then (s.refuse p (Verdict.no rHold 0x008 3)).holdRecord p 3 r
  else if s.quiesced t = false then s.refuse p (Verdict.no rNotQuiesced 0x008 3)
  else if (s.ctl p).inReset.isSome then s
  else (s.instReset t).modCtl p (fun c => { c with inReset := some (r, s.now) })

/-- The instance reset completes: `BLOCK_RESET` reads 0. (log 94, DEDUCED) -/
def State.instDone (s : State) (t : Nat) : State := s.modCtl (tenPage t) (fun c => { c with inReset := none })

/-- No work of tenancy t remains (R425): no running copy, no job, no issued descriptor that has not
ended, no request of engines 0x02–0x07 or of the Render plane that waits for its response. (log 91, DEDUCED) -/
def State.workLeft (s : State) (t : Nat) : Bool :=
  let o := 0x10 + t
  (upto 0 4).any (fun e => match (s.copyEng e).running with
      | some (j, _) => j.tag == o
      | none => false)
    || s.gfx.jobs.any (fun j => j.tag == o)
    || (s.ringsOf o).any (fun r => (s.ring r).issued.any (fun i => i.fin.isNone))
    || s.dc.order.any (fun e => e.1.tag == o && ((decide (0x02 ≤ e.1.rid) && decide (e.1.rid ≤ 0x07)) || e.1.rid / 32 == 2))

/-- The quiesce of tenancy t ends (R425, R428). (log 91, DEDUCED) -/
def State.quiesceDone (s : State) (t : Nat) : State :=
  match s.quiesce t with
  | none => s
  | some q =>
    if s.workLeft t then s
    else
      let p := tenPage t
      let s := ((s.setQuiesce t none).put p F.HDR.STATUS_QUIESCED 1).put p F.TEN.TEN_STATE_QUIESCING 0
      let s := s.put64 p F.TEN.QUIESCE_TS_LO s.now
      let s := s.jrec t 0x0014 p s.now (jpay [(16, 1, b2n q.timedOut), (18, 2, q.descs), (20, 2, q.jobs), (24, 8, q.start)])
      if q.flr = [] then s
      else forL (fun (x : Nat × Nat) s => s.fnReset x.1 x.2) q.flr (s.instReset t)

/-- A Function Level Reset of function f of port p (R428). (log 93, DEDUCED) -/
def State.flr (s : State) (p f : Nat) : State :=
  match s.fnTen p f with
  | none => s.fnReset p f
  | some 0 => s.fnReset p f
  | some t =>
    let lim := min (s.get (tenPage t) F.TEN.QUIESCE_TIMEOUT) 30720000
    match s.quiesce t with
    | some q => s.setQuiesce t (some { q with timeout := min q.timeout (s.now + lim), flr := q.flr ++ [(p, f)] })
    | none =>
      if s.quiesced t then (s.instReset t).fnReset p f else s.quiesceStart t lim [(p, f)]

/-- A Function Level Reset that a host asks for. (log 92, DEDUCED) (log 93, DEDUCED) -/
def State.flrRequest (s : State) (p f : Nat) : State :=
  if s.flag (portPage p) F.HOSTP.PORT_INFO_UP = false ∨ s.fnExists p f = false then s else s.flr p f

/-- The link of a port goes down (R394): every function of the port has received a Function Level Reset. (log 77, DEDUCED) -/
def State.linkDown (s : State) (p : Nat) : State :=
  if s.flag (portPage p) F.HOSTP.PORT_INFO_UP = false then s
  else
    let s := (s.put (portPage p) F.HOSTP.PORT_INFO_UP 0).hit (19 + p) 0
    forL (fun f s => s.flr p f) ((upto 0 16).filter (fun f => s.fnExists p f)) s

/-- A non-posted request of a ring's fetch or of a copy engine has no completion in time (R400). -/
def State.cplLost (s : State) (p : Nat) (c : CplFor) : State :=
  let here (sp : Nat) : Bool := sp == 2 + p
  match c with
  | .ring r =>
    if here (s.ringF r.val F.RING.RING_CFG_SPACE) = false then s
    else if (s.ring r.val).starting then (s.cplTimeout p).ringHeader r.val none
    else
      let x := s.ring r.val
      let k := (s.ringF r.val F.RING.RING_STATE_RD + x.pre.length) % s.ringSlots r.val
      if s.ringLive r.val = false ∨ 8 ≤ x.pre.length ∨ k = s.ringF r.val F.RING.RING_WR then s
      else (s.cplTimeout p).ringFetched r.val none
  | .copy e data =>
    match (s.copyEng e.val).running with
    | some (j, _) => if here (byteF j.it.d.toNat 10 1) then (s.cplTimeout p).copyDone e.val data else s
    | none => s

end Sys2Proof.Machine
end

