-- ==== Sys2Proof/Machine/ModeOps.lean ====
section
/-! DEFINITION. Operating modes (R20–R30), the safe state (R484), the clock monitor (R35–R37), the pin and source
resets (R491), and the delivery of interrupt lines (R94–R96, R452). -/

namespace Sys2Proof.Machine

/-! Requests -/

/-- A write of `MODE_REQUEST.TARGET` (R24). (log 43, DEDUCED) (log 44, DEDUCED) -/
def State.modeWrite (s : State) (v : Word) : State :=
  let t := v.toNat % 16
  let s := (s.put modePage F.MODE.MODE_REQUEST_TARGET t).checkStart modePage
  { s with modeReqs := s.modeReqs ++ [t] }

/-- The enabled heads that are not on a hold frame (R26). -/
def State.liveHead (s : State) : Option Nat :=
  (upto 0 8).find? (fun h => s.enabled (headPage h) && s.holdState h != 2)

/-- The domain, of `GFX` and `COPY`, that has a page which is not idle (R26). -/
def State.busyDomain (s : State) : Option Nat :=
  [0x20, 0x0B].find? (fun d => (pagesOf d).any (fun p => s.present p && !s.idle p))

/-- A STANDBY entry or exit runs. -/
def State.inStandbyMove (s : State) : Bool := s.stby != .none

/-- A request that is accepted and changes nothing (R26). -/
def State.modeQuiet (s : State) (t : Nat) : Bool :=
  (t == 5 || t == 6) && (t == s.mode.code || s.inStandbyMove) && !s.safeRun

/-- A mode request is judged (R25, R26). (log 45, DEDUCED) -/
def State.modeVerdict (s : State) (t : Nat) : Verdict :=
  let no (reason arg : Nat) : Verdict := Verdict.no reason 0x104 0 arg
  let cur : Mode := if s.safeRun then .safe else s.mode
  if 8 ≤ t then no rRange 0
  else if s.modeQuiet t then Verdict.ok
  else match t with
    | 5 =>
      if cur ≠ .boot ∧ cur ≠ .standby then no rMode 0
      else if cur = .boot ∧ (upto 0 8).any (fun c => s.present (chanPage c) && s.chanState c != 2) then no rDepend 0x30
      else Verdict.ok
    | 6 =>
      if cur ≠ .run then no rMode 0
      else match s.liveHead, s.busyDomain with
        | some h, _ => no rInUse h
        | none, some d => no rNotIdle d
        | none, none => Verdict.ok
    | 7 => Verdict.ok
    | _ => no rMode 0

/-- An accepted request acts (R20, R27, R371, R484). -/
def State.modeAct (s : State) (t : Nat) : State :=
  match t with
  | 5 => if s.mode = .boot then (s.enter .run).convBegin false else s.standbyExit
  | 6 => { s.put modePage F.MODE.MODE_STATE_IN_TRANSITION 1 with stby := .entry 1 false }
  | _ => if s.safeRun ∨ s.mode = .safe then s else s.safeBegin 2 0

/-- The check of the oldest mode request completes (R22, R24, R26). (log 43, DEDUCED) (log 44, DEDUCED) -/
def State.modeDone (s : State) : State :=
  match s.modeReqs with
  | [] => s
  | t :: rest =>
    let s := { s with modeReqs := rest }
    if s.trigNow then s.put modePage F.MODE.MODE_REQUEST_RESULT 0x41
    else if s.rst.chip.isSome then { s with modeReqs := [] }
    else
      let v := s.modeVerdict t
      let quiet := s.modeQuiet t
      let s := (s.put modePage F.MODE.MODE_REQUEST_RESULT v.reason).checkDone modePage v
      if v.reason ≠ 0 ∨ quiet then s else s.modeAct t

/-! STANDBY -/

/-- The step of a STANDBY entry in progress has reached its end (R27, R259, R278, R311, R352). (log 48, DEDUCED) (log 247, DEDUCED) -/
def State.standbyMet (s : State) (n : Nat) : Bool :=
  match n with
  | 1 => (upto 0 8).all (fun h => !(s.raster h).on)
  | 2 => (upto 0 4).all (fun p => !s.enabled (panelPage p) || s.panelState p == 4)
  | 3 => (upto 0 4).all (fun p => !(s.enabled (aportPage p) && s.flag (aportPage p) F.APORT.PORT_CFG_STOP_IN_STANDBY)
      || s.get (aportPage p) F.APORT.PORT_STATE == 3)
    && (upto 0 2).all (fun p => !(s.enabled (hportPage p) && s.flag (hportPage p) F.HPORT.PORT_CFG_STOP_IN_STANDBY)
      || (s.hpt p).stopped)
  | _ => s.mapChans.all (fun c => (s.dchan c).sr.isSome)

/-- A step ends: the master clock outputs stop after the ports of step 3 (R331), the PLL of the DRAM after step 4. -/
def State.standbyEnds (s : State) (n : Nat) : State :=
  match n with
  | 3 =>
    let stop := s.enabled aclkPage && s.flag aclkPage F.ACLK.MCLK_CFG_MCLK_STOP_IN_STANDBY
    s.modAudio (fun a => { a with mclkOff := a.mclkOff || stop })
  | 4 => s.put divPage F.DIV.PHY_PLL_STATUS_DRAM_PLL_LOCKED 0
  | _ => s

/-- The last undo: links leave ULPS and the device settles in RUN (R28, R29). -/
def State.standbyOut (s : State) (aborted : Bool) : State :=
  let s := { s.put modePage F.MODE.MODE_STATE_IN_TRANSITION 0 with stby := .none }
  let s := if aborted then { s.put modePage F.MODE.MODE_REQUEST_RESULT 0x40 with prev := .run } else s.enter .run
  s.ulpsExit

/-- A port that stopped for STANDBY has not started its first frame yet (R29). (log 50, DEDUCED) -/
def State.portsPending (s : State) : Bool :=
  (upto 0 4).any (fun p => decide ((s.aport p).fade = .up 1))
    || (upto 0 2).any (fun p => match (s.hpt p).rst with
      | some (t, _, _) => (s.hpt p).nextAt == some t
      | none => false)

/-- The undo of step n starts, and those after it that complete at once (R29). (log 50, DEDUCED) -/
def State.undoFrom (s : State) (n : Nat) (aborted : Bool) : State :=
  match n with
  | 4 => { s with stby := .undo 4 aborted }
  | 3 =>
    let stopped := (upto 0 4).any (fun p => decide ((s.aport p).fade = .stopped)) || (upto 0 2).any (fun p => (s.hpt p).stopped)
    let s := forN (fun p s => s.aportWake p) 4 { s with stby := .undo 3 aborted }
    let s := forN (fun p s => s.hptWake p) 2 s
    if stopped then s else s.standbyOut aborted
  | _ => s.standbyOut aborted

/-- The step of a STANDBY entry in progress completes, and the next one, or the undo after an abort, starts
(R27, R28). (log 48, DEDUCED) (log 49, DEDUCED) -/
def State.standbyStep (s : State) : State :=
  match s.stby with
  | .entry n ab =>
    if s.standbyMet n = false then s
    else
      let s := s.standbyEnds n
      if ab then s.undoFrom n true
      else if n < 4 then { s with stby := .entry (n + 1) false }
      else ({ s.put modePage F.MODE.MODE_STATE_IN_TRANSITION 0 with stby := .none }).enter .standby
  | _ => s

/-- The undo in progress completes (R29): the PLL of the DRAM reports lock, or the ports have started. (log 50, DEDUCED) -/
def State.undoStep (s : State) : State :=
  match s.stby with
  | .undo 4 a => (s.put divPage F.DIV.PHY_PLL_STATUS_DRAM_PLL_LOCKED 1).undoFrom 3 a
  | .undo _ a => if s.portsPending then s else s.standbyOut a
  | _ => s

/-! The safe state -/

/-- The safe state is entered, 3 ticks after its trigger (R484): heads, reflex, audio, haptics, touch and Tombolo
stop. -/
def State.safeEntry (s : State) : State :=
  if s.safeRun = false ∨ s.mode = .safe then s
  else
    let s := s.waitTo (s.get64 fsafePage F.FSAFE.SAFE_TS_LO + 3)
    let s := s.put fcollPage F.FCOLL.COLL_STATE_PIN_DRIVEN 1
    let s := { s.put modePage F.MODE.MODE_STATE_IN_TRANSITION 1 with prev := s.mode, mode := .safe, reflexQ := [] }
    let s := forN (fun h s => (s.rasterOff h).modHead h (fun x => { x with ulps := false })) 8 s
    let s := forN (fun p s => s.hptStop p) 2 s
    let s := forN (fun p (s : State) => if s.panelState p = 0 then s
      else s.modPanel p (fun x => { x with startAt := none, rst := none, retryAt := none, nextAt := none, frame := none })) 4 s
    let s := forN (fun p (s : State) => if s.get (aportPage p) F.APORT.PORT_STATE = 1
      then s.setAport p { s.aport p with fade := .zeros 1 } else s) 4 s
    forN (fun p (s : State) => if s.tState p = 0 then s else s.tportStop p) 2 s

/-- The last action of the entry completes once every audio port has stopped (R484). (log 58, DEDUCED) -/
def State.safeDone (s : State) : State :=
  if s.mode ≠ .safe ∨ s.safeRun = false ∨ (upto 0 4).any (fun p => s.get (aportPage p) F.APORT.PORT_STATE == 1) then s
  else
    let s := { s.put modePage F.MODE.MODE_STATE_IN_TRANSITION 0 with safeRun := false }
    (s.modAudio (fun a => { a with mclkOff := true })).put64 modePage F.MODE.MODE_TS_LO s.now

/-! The clock monitor -/

/-- `CLK.ROOT`. -/
def rootPage : Nat := pg 0x01 0

/-- Supplies are present and no chip reset is asserted. -/
def State.powered (s : State) : Bool := s.mode != .off && s.mode != .backup && s.rst.chip.isNone

/-- The monitor declares root loss (R35, R36): the first-fault record, and a COLD reset held while the root is
absent. (log 51, DEDUCED) (log 224, DESIGN CHOICE) -/
def State.rootLoss (s : State) : State :=
  if s.mode = .off ∨ s.mode = .backup then s
  else
    let s := if s.backup.ff.cur.isNone then
        s.writeFF [0xC0000000 + (2 <<< 20), s.owner rootPage, 0, 0x01 <<< 8, s.now % 0x100000000, s.now / 0x100000000,
          0, 0, 0, 0, s.backup.count.word 0, s.mode.code]
      else s
    let s := s.chipAssert .cold 1
    let s := (s.put rootPage F.ROOT.ROOT_STATUS_PLL_LOCKED 0).put rootPage F.ROOT.ROOT_STATUS_MON_OK 0
    { s with thymeRun := false, rst := { s.rst with rootAbsent := true } }

/-- The monitor oscillator has stopped (R37). (log 224, DESIGN CHOICE) -/
def State.monLoss (s : State) : State :=
  if s.powered ∧ s.flag rootPage F.ROOT.ROOT_STATUS_MON_RUN then (s.put rootPage F.ROOT.ROOT_STATUS_MON_RUN 0).hit 0 0 else s

/-- The lock detector drops while the root toggles (R37, R38). (log 47, DEDUCED) -/
def State.pllUnlock (s : State) : State :=
  if s.powered ∧ s.flag rootPage F.ROOT.ROOT_STATUS_PLL_LOCKED then
    ((s.incSat rootPage F.ROOT.ROOT_STATUS_LOCK_LOSS_COUNT).put rootPage F.ROOT.ROOT_STATUS_PLL_LOCKED 0).hit 1 0
  else s

/-! Reset sources -/

/-- `RESET_N` changes level (R491, R493): low asserts source 2 for as long as it stays low. -/
def State.resetPin (s : State) (low : Bool) : State :=
  let was := s.rst.resetN
  let s := { s with rst := { s.rst with resetN := low } }
  if low ∧ was = false then s.sourceActs 2 none .software else s

/-- A reset that takes port p's `HOST` domain (R491): its link goes down first. -/
def State.hostReset (s : State) (p src : Nat) (cause : RCause) : State :=
  if s.part.hostPorts ≤ p then s else (s.linkDown p).sourceActs src (some (0x06 + p)) cause

/-- `PERST#` of port p asserts. (log 96, DEDUCED) -/
def State.perstAssert (s : State) (p : Nat) : State :=
  if (s.port p).perst then s
  else (s.setPort p { s.port p with perst := true, late := false }).hostReset p (9 + p) .perst

/-- Hot Reset or Link Disable arrives on port p. (log 96, DEDUCED) -/
def State.hotReset (s : State) (p : Nat) : State :=
  if s.flag (portPage p) F.HOSTP.PORT_INFO_UP then s.hostReset p (11 + p) .hot else s

/-- BOOT has lasted `BOOT_LIMIT` ms (R491). -/
def State.bootLate (s : State) : State :=
  let n := s.get srcsPage F.SOURCES.BOOT_LIMIT
  if s.mode ≠ .boot ∨ s.rst.chip.isSome ∨ n = 0 then s
  else (s.waitTo (s.rst.bootAt + 614400 * n)).sourceActs 7 none .software

/-- An authorised JTAG reset request (R434, R491). -/
def State.debugReset (s : State) : State :=
  if s.get worldsPage F.WORLDS.DBG_CFG_TAG = 0 then s else s.sourceActs 6 none .software

/-- A reset of a source asserts at a level (R494): COLD, or WARM where the source acts so and the mode lets it. -/
def State.resetBy (s : State) (cold : Bool) (src : Nat) : State :=
  let lvl := s.srcLevel src
  let up := s.mode = .load ∨ s.mode = .recovery ∨ s.mode = .safe
  if lvl = 0 then s
  else if cold then (if 2 ≤ lvl ∨ up then s.chipAssert .cold src else s)
  else if lvl = 1 then s.chipAssert .warm src else s

/-! Interrupt lines -/

/-- A line reaches core c (R452): it is pending there, and traps into M-mode what it may not interrupt in place. (log 55, DEDUCED) -/
def State.lineToCore (s : State) (l c : Nat) : State :=
  if s.coreState c = 0 ∧ (c ≠ 0 ∨ s.restart.run.isNone) then s
  else
    let x := s.core c
    let s := if x.lines.contains l then s else s.setCore c { x with lines := x.lines ++ [l] }
    let secure := s.lineSecure l
    let s := if s.coreState c = 2 then s.put (corePage c) F.CORE.CORE_STATE_STATE 1 else s
    if c ≠ 0 ∧ s.coreState c = 1 ∧ s.corePriv c ≠ 3 ∧ (secure ∨ bit (s.ctxWord c) 31) then
      s.put (corePage c) F.CORE.CORE_STATE_PRIV 3
    else s

/-- The router delivers a line whose rising edge waits (R94). (log 55, DEDUCED) (log 217, DESIGN CHOICE) Each rising edge is delivered once (R94). -/
def State.irqDeliver (s : State) (l : Nat) : State :=
  if s.edges.contains l = false then s
  else
    let s := { s with edges := s.edges.erase l }
    let w := (s.route l).toNat
    match bits w 31 30 with
    | 1 =>
      if s.lineOn (l * 0x1000) then forN (fun c (s : State) => if bit w (26 + c) then s.lineToCore l c else s) 4 s else s
    | 2 => s.msix (bits w 25 25) (bits w 24 21) (bits w 20 15)
    | _ => s

/-- A host unmasks a vector of a function (R94). -/
def State.unmaskVec (s : State) (p f v : Nat) : State :=
  if s.part.hostPorts ≤ p ∨ s.fnExists p f = false then s
  else (s.setVec (vecKey p f v) { s.vec (vecKey p f v) with masked := false }).msixRetry p f v

/-- A write of `IRQ_ROUTE` (R95): its check starts, for the line selected now. (log 57, DEDUCED) -/
def State.routeWrite (s : State) (v : Word) : State :=
  let l := s.get routerPage F.ROUTER.IRQ_SELECT
  let w := (v &&& 0xFFFFF000) ||| BitVec.ofNat 32 l
  { s.checkStart routerPage with routeRuns := s.routeRuns ++ [w] }

/-- The oldest route check completes (R95, R96): a route of an asserted line to cores is delivered. (log 56, DEDUCED) (log 57, DEDUCED) -/
def State.routeDone (s : State) : State :=
  match s.routeRuns with
  | [] => s
  | w :: rest =>
    let s := { s with routeRuns := rest }
    let l := w.toNat % 4096
    let e := s.routeReason l w
    let off := if e = rRange ∧ (pinfoAt (l * 0x1000)).isNone then (0x100, 0)
      else if e = rFused then (0x104, 25) else if e = rNotOwner then (0x104, 21) else (0x104, 30)
    let s := s.checkDone routerPage (if e = 0 then Verdict.ok else Verdict.no e off.1 off.2)
    if e ≠ 0 then s
    else
      let s := s.setRoute l (w &&& 0xFFFFF000)
      if bits w.toNat 31 30 = 1 ∧ s.lineOn (l * 0x1000) ∧ s.edges.contains l = false then { s with edges := s.edges ++ [l] } else s

/-! Responses -/

/-- A supply falls below its threshold for 1 µs (R570). -/
def State.supplyUv (s : State) (n : Nat) : State := if s.powered ∧ n < 7 then s.hit 5 n else s

/-- `VBAK` appears, or is lost (R20, R515). -/
def State.vbakOn (s : State) : State :=
  let s := { s with power := { s.power with vbak := true } }
  if s.mode = .off then { s with mode := .backup } else s
def State.vbakOff (s : State) : State :=
  let s := { s with power := { s.power with vbak := false } }
  if s.mode = .backup then { s with mode := .off } else s

end Sys2Proof.Machine
end

