-- ==== Sys2Proof/Machine/RegWrite.lean ====
section
/-! DEFINITION. Register writes: the access rules of R72 and R73 for writes with their exceptions, the order of
R585 for `CTRL`, and what a granted write does to each kind of register. -/

namespace Sys2Proof.Machine

/-! Who reaches the registers -/

/-- The register fabric is down: no main supply, or a chip reset is asserted. -/
def State.fabricOff (s : State) : Bool := s.mode == .off || s.mode == .backup || s.rst.chip.isSome

/-- The requester exists (R11, R434): a debug request carries `DBG_CFG.TAG`, which 0 turns off. (log 59, DEDUCED) No engine has a reserved number (R11). -/
def State.reqReal (s : State) (r : Req) : Bool :=
  if r.rid.toNat = 0xE0 then
    r.tag != 0 && r.tag.toNat == s.get worldsPage F.WORLDS.DBG_CFG_TAG
  else (reqHome r.rid.toNat).isSome

/-! Interrupt registers -/

/-- A write of `INT_STATUS` (R93, R94): a host route whose line it leaves asserted sends another message. (log 68, DEDUCED) -/
def State.intClear (s : State) (base : Nat) (v : Word) : State :=
  let old := s.rd (base + 0x30)
  let s := s.wr (base + 0x30) (old &&& ~~~v)
  let s := if base = fcollPage then
      forN (fun b (s : State) => if bit old.toNat b && bit v.toNat b then s.endReact b reI else s) 28 s
    else s
  let l := lineOf base
  let s := if s.lineOn base ∧ bits (s.route l).toNat 31 30 = 2 then
      { s with edges := s.edges ++ [l] }
    else s
  s.dropLine base

/-- The bits of `INT_STATUS` 27:0 that the chapter of a page's block names; the others are reserved (R93, R270).
(log 248, DEDUCED) -/
def PKind.intBits : PKind → Nat
  | .bsync | .colour | .copy => 0x1
  | .layer | .glayer | .head => 0x3F
  | .region | .ring => 0xFFFF
  | .wb | .dsi | .cvu | .gsched | .hport | .aeng | .dchan | .mlog | .tport => 0x7
  | .panel => 0xFF
  | .hchan => 0x1F
  | .reflex | .aport | .herr | .tmb | .xspi => 0x3
  | .mbucket => 0x3FF
  | .mbox | .wdog | .fcoll | .pbc => 0xF
  | _ => 0

/-- The defined bits of a page's `INT_STATUS`. -/
def intMask (base : Nat) : Word :=
  match pinfoAt base with
  | some i => BitVec.ofNat 32 (0xF0000000 + i.kind.intBits)
  | none => 0

/-- A write of `INT_FORCE` (R93). -/
def State.intForce (s : State) (base : Nat) (v : Word) : State := s.intSet base (v &&& intMask base).toNat

/-- A write of `INT_ENABLE`. -/
def State.intEnable (s : State) (base : Nat) (v : Word) : State :=
  (s.withLine base (fun s => s.wr (base + 0x34) (v &&& intMask base))).dropLine base

/-! `CTRL` -/

/-- A write of `CTRL.QUIESCE` (R67, R130, R425). -/
def State.quiesceBit (s : State) (base : Nat) (r : Req) (b : Bool) : State :=
  match pinfoAt base with
  | none => s
  | some i =>
    if i.hasQuiesce = false ∨ s.flag base F.HDR.CTRL_QUIESCE = b then s
    else if b ∧ s.secureHold base ∧ r.tag ≠ 1 then (s.refuse base (Verdict.no rHold 0x008 2)).holdRecord base 6 r
    else if i.kind = .ten then (if b then s.quiesceWrite (pnoOf base) else s.resumeWrite (pnoOf base))
    else if b then s.put base F.HDR.CTRL_QUIESCE 1
    else (s.put base F.HDR.CTRL_QUIESCE 0).put base F.HDR.STATUS_QUIESCED 0

/-- A write of `CTRL.BLOCK_RESET` = 1 (R427, R498). -/
def State.resetBit (s : State) (base : Nat) (r : Req) : State :=
  match pinfoAt base with
  | none => s
  | some i => if i.kind = .ten then s.instWrite (pnoOf base) r else s.blockReset base r

/-- A write of `CTRL`: its bits act in the order of R585. -/
def State.ctrlWrite (s : State) (base : Nat) (r : Req) (v : Word) : State :=
  let n := v.toNat
  let s := s.autoWrite base (bit n 4)
  let s := s.onFenceWrite base (bit n 5)
  let s := s.quiesceBit base r (bit n 2)
  let s := if bit n 0 then s.enableWrite base r else s.disableWrite base r
  let s := if bit n 1 then s.commitWrite base r else s
  if bit n 3 then s.resetBit base r else s

/-! Writes with an effect of their own, by kind of page -/

/-- The effect of a granted write to a register with an effect of its own: none for every other register. -/
def State.kindWrite (s : State) (r : Req) (k : PKind) (base off : Nat) (v : Word) : Option State :=
  let n := v.toNat
  let p := pnoOf base
  match k with
  | .mode => if off = 0x104 then some (s.modeWrite v) else none
  | .router => if off = 0x104 then some (s.routeWrite v) else none
  | .layer => if off = 0x194 then some (s.coefWrite base v) else none
  | .colour => if off = 0x144 then some (s.lutWrite base v) else none
  | .panel => if off = 0x1A0 then some (s.panelCmd (p - 1) v) else none
  | .hap => if off = 0x110 then some (s.storeCmd v) else none
  | .hchan =>
    if off = 0x130 then some (s.trigWrite (p - 1) v)
    else if off = 0x134 then some (if bit n 0 then s.chanClear (p - 1) else s)
    else none
  | .aeng => if off = 0x110 then some (s.trigFire v) else none
  | .abank => if off = 0x10C then some (s.bankCmd v) else none
  | .tport =>
    if off = 0x1A0 then some (if bit n 0 ∧ s.enabled base then s.portRestart (p - 1) else s) else none
  | .cvu => cvuReg off p r v s
  | .decc => deccReg off r v s
  | .fcoll => fcollReg off r v s
  | .fbank => if p = 9 ∧ off % 0x800 = 0x1BC then some s else none
  | .fcap => fcapReg off r v s
  | .mlog => mlogReg off r v s
  | .otp => otpReg off r v s
  | .backup => backupReg off r v s
  | .pgpio => gpioReg off r v s
  | .pbc => bcReg off r v s
  | .xspi => xspiReg off r v s
  | .gl2 => gl2Reg off r v s
  | .gsched => gschedReg off r v s
  | .worlds => worldsReg off r v s
  | .pot => potReg off r v s
  | .cove => coveReg off r v s
  | .irqc => irqcReg off r v s
  | .measure => measReg off r v s
  | .mbox => mboxReg off r v s
  | .wdog => wdogReg off r v s
  | .core => coreReg off p r v s
  | _ => none

/-- One field of a register takes a written word, by its access code (R2). -/
def Fld.accept (f : Fld) (old v : Word) : Word :=
  match f.acc with
  | .rw => (old &&& ~~~f.mask) ||| (v &&& f.mask)
  | .w1c => old &&& ~~~(v &&& f.mask)
  | .w1s => old ||| (v &&& f.mask)
  | _ => old

/-- A granted write of a plain register: its writable fields take the word; a shadow takes its shadowed fields. (log 67, DEDUCED) -/
def State.plainWrite (s : State) (k : PKind) (a : Nat) (v : Word) : State :=
  let off := offOf a
  let old := s.rd a
  let w := (fldsAt k off).foldl (fun w f => f.accept w v) old
  let m := if 0x800 ≤ off then scMask k (off - 0x800) else 0
  s.wr a ((w &&& ~~~m) ||| (v &&& m))

/-- What a granted write of a register does. (log 67, DEDUCED) A commit that waits examines a fence register as it is written (R92). -/
def State.writeEffect (s : State) (r : Req) (i : PInfo) (a : Nat) (v : Word) : State :=
  let base := pageOf a
  let off := offOf a
  if off = 0x008 then s.ctrlWrite base r v
  else if off = 0x030 then s.intClear base v
  else if off = 0x034 then s.intEnable base v
  else if off = 0x038 then s.intForce base v
  else if (off = 0x058 ∨ off = 0x060 ∨ off = 0x064) ∧ i.hasFence = false then s
  else match s.kindWrite r i.kind base off v with
    | some t => t
    | none =>
      let s := s.plainWrite i.kind a v
      if off = 0x058 ∨ off = 0x060 ∨ off = 0x064 then s.fenceRelease1 base else s

/-! The access rules -/

/-- Writes that their own rules grant, whatever the owner of the page: `GATE_REQ` (R42), `DOMAIN_REQ` (R497),
`SW_RESET` (R496), the secure-service mailbox (R455), the Tombolo mailboxes (R541) and `REMOTE_RESET` (R543),
watchdog kicks (R462), `EXTEND_CMD` (R449), `RCV_CTRL` (R509), `INJ_CTL` (R362) and the shadow of `ENG_CFG`
(R325).  The Bool says that the write is dropped with a violation. -/
def State.ownRule (s : State) (r : Req) (a : Nat) (v : Word) : Option (State × Bool) :=
  let base := pageOf a
  let off := offOf a
  let n := v.toNat
  let bad := some (s.violation r a true, true)
  if a = divPage + 0x140 then
    (if gateWriter r then some (s.gateWrite r (bits n 15 8) (bit n 0), false) else bad)
  else if a = blockreqPage + 0x100 then
    (if gateWriter r then some (if bit n 0 then s.domRequest r (bits n 15 8) else s, false) else bad)
  else if a = srcsPage + 0x108 then (if s.mayReset r then some (s.swReset r v, false) else bad)
  else if base = mboxPage then
    (match mboxOwnerReg off r v s with
    | some t => some (t, false)
    | none => none)
  else if base = tmbPage ∧ 0x110 ≤ off ∧ off < 0x210 ∧ (off % 0x80 = 0x14 ∨ (0x20 ≤ off % 0x80 ∧ off % 0x80 < 0x58)) then
    let k := (off - 0x110) / 0x80
    if r.tag.toNat = s.get tmbPage (F.TMB.MB_CFG_MB_OWNER.at k) ∧ r.tag ≠ 0 then
      some (if off % 0x80 = 0x14 then s.mbCmd k v else s.wr a v, false)
    else bad
  else if a = tmbPage + 0x108 then
    (if r.tag = 1 ∧ s.role = 1 then some (s.remoteReset v, false) else bad)
  else if base = wdogPage ∧ 0x104 ≤ off ∧ off < 0x124 ∧ off % 8 = 4 then
    some (s.wdKick r ((off - 0x104) / 8) v, false)
  else if a = measPage + 0x470 then
    (if bit n 31 then some (s.extendCmd r (bits n 6 0), false) else none)
  else if a = otpPage + 0x114 then
    (if r.rid = 0 ∧ r.tag = 0x010 ∧ s.mode = .recovery then
      some (if bit n 31 then s.rcvGo (bits n 15 0) else s, false)
    else bad)
  else if a = deccPage + 0x10C ∨ a = aengPage + 0x900 then
    (if r.tag = 1 then none else bad)
  else none

/-- A write of `CTRL.ENABLE` to a page that no one owns is refused besides (R71). -/
def State.deniedEnable (s : State) (base off : Nat) (v : Word) : State :=
  if s.owner base = 0 ∧ off = 0x008 ∧ bit v.toNat 0 then s.refuse base (Verdict.no rNotOwner 0x008 0) else s

/-- A register write (R72, R73) of `bytes` bytes: the state after it, and whether the write was dropped under the
access rules, as a REGS descriptor reports it (R407). An enable of a page that nobody owns is refused with `NOT_OWNER` (R13) and dropped. (log 238, DEDUCED) -/
def State.regWrite (s : State) (r : Req) (a : Nat) (v : Word) (bytes : Nat := 4) : State × Bool :=
  if s.fabricOff ∨ s.reqReal r = false then (s, true)
  else if bytes ≠ 4 then (s.stray r a true, true)
  else match pinfoAt a with
    | none => (s.stray r a true, true)
    | some i =>
      let base := pageOf a
      let off := offOf a
      if offDefined i off = false then (s.stray r a true, true)
      else if s.present base = false then
        (if off = 0x008 ∧ bit v.toNat 0 then s.refuse base (Verdict.no rFused 0x008 0) else s, true)
      else if s.mode = .safe then
        (if a = srcsPage + 0x108 then (if s.mayReset r then (s.swReset r v, false) else (s.violation r a true, true))
        else (s, true))
      else if (s.domReset (domOf a)).isSome then (s, true)
      else if (s.ctl base).stuck ∧ off ≠ 0x018 ∧ ¬(off = 0x008 ∧ (bit v.toNat 0 ∨ bit v.toNat 3)) then (s, true)
      else if off = 0x018 then
        (if s.mayOwn base r then (s.ownerJudge base r v.toNat, false) else (s.violation r a true, true))
      else match s.ownRule r a v with
        | some x => x
        | none =>
          if r.tag.toNat = s.owner base ∧ r.tag ≠ 0 then (s.writeEffect r i a v, false)
          else
            ((s.deniedEnable base off v).violation r a true, true)

/-- A register read with the effects that reads of some registers have (R117, R128, R315, R563, R565). -/
def State.wordRead (s : State) (r : Req) (a : Nat) : State × Word :=
  if s.fabricOff ∨ s.reqReal r = false then (s, 0)
  else s.readWith r a (fun s =>
    let base := pageOf a
    let off := offOf a
    match pinfoAt a with
    | none => none
    | some i =>
      match i.kind with
      | .layer => if off = 0x194 then some (s.coefRead base) else none
      | .colour => if off = 0x144 then some (s.lutRead base) else none
      | .asrc => if off = 0xF40 then some s.asrcRead else none
      | .pbc =>
        let n := (off - 0xF00) / 0x10
        if off < 0xF00 ∨ (n = 1 ∧ s.part.pkgM) then none
        else if off % 0x10 = 0 then some (s.bcPop n)
        else if off % 0x10 = 8 then some (s.ibiPop n)
        else none
      | .xspi => if off = 0xF00 then some s.xspiPop else none
      | _ => none)

/-- A register read of `bytes` bytes (R72): one within a word reads the word. -/
def State.regRead (s : State) (r : Req) (a : Nat) (bytes : Nat := 4) : State × Word :=
  if 0 < bytes ∧ bytes < 4 ∧ a % 4 + bytes ≤ 4 then
    let q := s.wordRead r (a / 4 * 4)
    (q.1, narrowed q.2 a bytes)
  else s.wordRead r a


end Sys2Proof.Machine
end

