-- ==== Sys2Proof/Machine/RingOps.lean ====
section
/-! DEFINITION. The issue of ring descriptors by the ring fetch: one operation per kind of R406, over what every
issue does (R405). -/

namespace Sys2Proof.Machine

/-- The descriptor at the head of ring r, when it is of kind k and the ring may issue. -/
def State.ringHead (s : State) (r k : Nat) : Option Desc :=
  match (s.ring r).pre with
  | d :: _ => if s.ringLive r ∧ byteF d.toNat 0 1 = k then some d else none
  | [] => none

/-- The head of ring r is issued (R405): it leaves the ring, RD advances, and the ring runs.  The answer is the
descriptor with its issue tick and number. (log 37, DEDUCED) (log 71, DEDUCED) -/
def State.ringIssue (s : State) (r : Nat) (d : Desc) : State × Issued :=
  let x := s.ring r
  let it : Issued := ⟨d, s.now, x.count, none⟩
  let s := s.setRing r { x with pre := x.pre.drop 1, issued := x.issued ++ [it], count := x.count + 1 }
  let s := s.ringPut r F.RING.RING_STATE_RD ((s.ringF r F.RING.RING_STATE_RD + 1) % s.ringSlots r)
  let s := s.stat (ringPage r) 0
  let s := match tenOf (s.ringOwner r) with
    | some t => s.stat (tenPage t) 6
    | none => s
  (s.setRingState r 1, it)

/-- A next descriptor that cannot be issued blocks its ring (R405). -/
def State.ringBlock (s : State) (r : Nat) : State := s.setRingState r 2

/-- The head of ring r is issued when it is of kind k, is valid still (R409, R410), and `can` holds of it; `act`
is what its issue does.  A head that cannot be issued blocks the ring. (log 35, DEDUCED) -/
def State.issueHead (s : State) (r k : Nat) (can : State → Desc → Bool) (act : State → Issued → State) : State :=
  match s.ringHead r k with
  | none => s
  | some d =>
    let e := s.descBad r d
    if e ≠ 0 then s.ringError r e d
    else if can s d then
      let q := s.ringIssue r d
      act q.1 q.2
    else s.ringBlock r

/-- A descriptor that completes at its issue. (log 35, DEDUCED) -/
def State.endAtIssue (s : State) (r : Nat) (it : Issued) : State := s.descEnd r it.num 0

/-- NOP. -/
def State.issueNop (s : State) (r : Nat) : State :=
  s.issueHead r 0 (fun _ _ => true) (fun s it => s.endAtIssue r it)

/-- RENDER: the front end takes the job while it holds fewer than 255 that have not ended. -/
def State.issueRender (s : State) (r : Nat) : State :=
  s.issueHead r 1 (fun s _ => decide (s.gfx.jobs.length < 255)) (fun s it =>
    let g := s.gfx
    let j : Job := ⟨g.nextId, s.ringOwner r, r, it.num, byteF it.d.toNat 8 5, 0, [], 0, .fetch, 3, 0, 0, 0, 0, 0, false,
      false, 0, 0, 0, 0, 0, 0, 0, 0, false⟩
    { s with gfx := { g with jobs := g.jobs ++ [j], nextId := g.nextId + 1 } }.gfxIdle)

/-- COPY: a copy queue accepts the descriptor (R414). -/
def State.issueCopy (s : State) (r : Nat) : State :=
  let o := s.ringOwner r
  s.issueHead r 2 (fun s d => (s.copyPick (byteF d.toNat 8 1) o).isSome) (fun s it =>
    match s.copyPick (byteF it.d.toNat 8 1) o with
    | some e =>
      let x := s.copyEng e
      (s.setCopyEng e { x with queue := x.queue ++ [⟨o, r, it⟩] }).copyIdle e
    | none => s)

/-- FENCE_SIGNAL: every earlier descriptor of the ring is complete; the fence takes the value (R411). -/
def State.issueSignal (s : State) (r : Nat) : State :=
  s.issueHead r 3 (fun s _ => (s.ring r).issued.all (fun i => i.fin.isSome)) (fun s it =>
    (s.signal (byteF it.d.toNat 8 2) (byteF it.d.toNat 16 8)).endAtIssue r it)

/-- FENCE_WAIT: the fence has reached the value. -/
def State.issueWait (s : State) (r : Nat) : State :=
  s.issueHead r 4 (fun s d => decide (byteF d.toNat 16 8 ≤ (s.fence (byteF d.toNat 8 2)).value.toNat))
    (fun s it => s.endAtIssue r it)

/-- The request of the ring fetch for an owner. -/
def ringReq (o : Nat) : Req := ⟨0x02, BitVec.ofNat 12 o⟩

/-- Entry k of a REGS descriptor (R407); the Bool says that a write was dropped. (log 36, DEDUCED) (log 85, DEDUCED) -/
def State.regsEntry (s : State) (r k : Nat) (d : Desc) (dropped : Bool) : State × Bool :=
  let o := s.ringOwner r
  let w := byteF d.toNat (24 + 8 * k) 4
  let a := w % 0x1000000
  if bit w 31 then
    let q := s.regRead (ringReq o) a
    ((q.1.spWrite 0x02 o (byteF d.toNat 9 1) (byteF d.toNat 16 8 + 4 * k) (natBytes 4 q.2.toNat)).1, dropped)
  else
    let q := s.regWrite (ringReq o) a (BitVec.ofNat 32 (byteF d.toNat (28 + 8 * k) 4))
    (q.1, dropped || q.2)

/-- REGS: the entries in order (R407). (log 36, DEDUCED) -/
def State.issueRegs (s : State) (r : Nat) : State :=
  s.issueHead r 5 (fun _ _ => true) (fun s it =>
    let q := forN (fun k (q : State × Bool) => q.1.regsEntry r k it.d q.2) (byteF it.d.toNat 8 1) (s, false)
    q.1.descEnd r it.num (if q.2 then 0x61 else 0))

/-- HAPTIC: a trigger of the channel, or a stop (R285, R287). -/
def State.issueHaptic (s : State) (r : Nat) : State :=
  s.issueHead r 6 (fun _ _ => true) (fun s it =>
    let n := it.d.toNat
    let c := byteF n 8 1
    let s := if bit (byteF n 10 1) 0 then s.trigStop c else s.trigger c ⟨s.now, 1, byteF n 9 1, 0⟩
    s.endAtIssue r it)

/-- AUDIO_GAIN: a new target of a gain unit (R322). -/
def State.issueGain (s : State) (r : Nat) : State :=
  s.issueHead r 7 (fun _ _ => true) (fun s it =>
    let n := it.d.toNat
    (s.modAudio (fun a => { a with gainWr := a.gainWr ++ [(byteF n 8 1, byteF n 12 3)] })).endAtIssue r it)

/-- EARCON: a trigger line starts (R329). -/
def State.issueEarcon (s : State) (r : Nat) : State :=
  s.issueHead r 8 (fun _ _ => true) (fun s it => (s.lineStart (byteF it.d.toNat 8 1) s.now).endAtIssue r it)

end Sys2Proof.Machine
end

