-- ==== Sys2Proof/Machine/CmdBase.lean ====
section
/-! DEFINITION. What the meanings of the commands share: commands that are register accesses, and the rules that
belong to one command only. -/

namespace Sys2Proof.Machine

/-- The base address of a page. -/
def pageBase (p : PageNo) : Nat := p.toNat * 0x1000

/-- The page at an address is of a kind. -/
def isKind (base : Nat) (k : PKind) : Bool :=
  match pinfoAt base with
  | some i => i.kind == k
  | none => false

/-- `DEV.BACKUP`. -/
def backupPage : Nat := pg 0x00 3

/-! Register accesses -/

/-- A command that is a write of a register (R72, R73). -/
def State.cmdWrite (s : State) (r : Req) (a : Nat) (v : Word) : State := (s.regWrite r a v).1

/-- A command that is a write of one bit of a page's `CTRL` (R67), its other writable bits as they stand (log 10). -/
def State.cmdCtrl (s : State) (r : Req) (base i : Nat) (b : Bool) : State :=
  let old := BitVec.ofNat 32 (s.ctrlWord base) &&& 0x35#32
  let m := 1#32 <<< i
  s.cmdWrite r (base + 0x008) (if b then old ||| m else old &&& ~~~m)

/-- A command that is a read of a register: the answer stands in the state. A read that nobody can issue, and a read
with the register fabric down, gets none. -/
def State.cmdRead (s : State) (r : Req) (a : Nat) (bytes : Nat := 4) : State :=
  if s.fabricOff ∨ s.reqReal r = false then s else State.answer r a (s.regRead r a bytes)

/-- A write of a register that only one kind of page has. -/
def State.writeOn (k : PKind) (s : State) (r : Req) (base off : Nat) (v : Word) : State :=
  if isKind base k then s.cmdWrite r (base + off) v else s

/-- A read of a register that only one kind of page has. -/
def State.readOn (k : PKind) (s : State) (r : Req) (base off : Nat) : State :=
  if isKind base k then s.cmdRead r (base + off) else s

/-- A write of `REFLEX_CTL` (R126) of a layer. -/
def State.reflexReq (s : State) (r : Req) (base : Nat) (v : Word) : State :=
  if isKind base .layer ∨ isKind base .glayer then s.cmdWrite r (base + 0x180) v else s

/-- A write of `FEED_CTRL` (R183) of unit n, with `BYTES` as it stands. -/
def State.cvuFeed (s : State) (r : Req) (n : Nat) (v : Word) : State :=
  s.cmdWrite r (cvuPage n + 0x138) (v ||| (s.rd (cvuPage n + 0x138) &&& 0xC#32))

/-- A write of `COVE_CMD` (R446): operation 1 BUILD, 2 SEAL, 3 DESTROY. -/
def State.coveCmd (s : State) (r : Req) (op n : Nat) : State :=
  s.cmdWrite r (covePage + 0x300) (BitVec.ofNat 32 (op * 256 + n))

/-! Events -/

/-- The owner tags that an engine's requests may carry now, by the control hierarchy (R11, R12, R13). (log 239, DEDUCED) -/
def State.engineTag (s : State) (rid tag : Nat) : Bool :=
  let ten := decide (0x10 ≤ tag) && decide (tag < 0x20)
  let job (id : Nat) : Bool := match s.job id with
    | some j => j.tag == tag
    | none => false
  if rid < 2 then ten && (upto 0 16).any (fun f => s.fnTen rid f == some (tag - 0x10))
  else if rid = 2 then (upto 0 128).any (fun r => s.ringOwner r == tag)
  else if rid = 3 then ten || s.fences.any (fun e => s.fenceOwner e.1 == tag)
  else if rid < 8 then match (s.copyEng (rid - 4)).running with
    | some x => x.1.tag == tag
    | none => false
  else if rid < 0x28 then (upto 0 12).any (fun l => s.owner (layerPage (rid - 0x20) l) == tag)
  else if rid < 0x2A then s.owner (wbPage (rid - 0x28)) == tag
  else if rid = 0x2A then (upto 0 8).any (fun h => s.owner (headPage h) == tag)
  else if rid < 0x58 then match (s.gcore (rid - 0x40)).unit with
    | some u => job u.1
    | none => false
  else if rid < 0x5A then s.gfx.jobs.any (fun j => j.tag == tag)
  else if rid = 0x5A then s.gfx.l2.any (fun x => x.tag == tag)
  else if rid = 0x60 then (pagesOf 0x2A).any (fun p => s.owner p == tag)
    || (upto 0 16).any (fun r => s.plf r F.AENG.PLAY_CFG_OWNER == tag)
  else if rid = 0x61 then (upto 0 4).any (fun p => s.owner (panelPage p) == tag)
  else if rid = 0x62 then (upto 0 8).any (fun c => s.owner (hchanPage c) == tag)
  else if rid = 0x63 then s.owner reflexPage == tag || ten
  else if rid = 0x80 then tag == 1
  else if rid < 0x84 then tag == 1 || s.ctxTag (rid - 0x80) == tag
  else if rid < 0x86 then tag == 1
  else if rid < 0xA3 then tag == 0
  else if rid < 0xC2 then decide (0x200 ≤ tag) && decide (tag < 0x200 + s.ringN) && tag != 0x200 + s.ringIndex
  else tag != 0 && tag == s.get worldsPage F.WORLDS.DBG_CFG_TAG

/-- An engine issues a request to DRAM: one that does not exist, does not run or has no such owner issues none
(R11–R15). (log 239, DEDUCED) -/
def State.dramIssue (s : State) (rq : MemRq) (stream : Nat) (data : List Byte) : State :=
  if s.engineRuns rq.rid && s.engineTag rq.rid rq.tag && (rq.tag != 0 || rq.rid / 32 == 5) then s.dramRequest rq stream data
  else s

/-- Clock-ok is seen after a release request (R40). -/
def State.clockSeen (s : State) : RelTarget → State
  | .page p => s.clockSeenPage (pageBase p)
  | .domain d => s.clockSeenDom d.toNat

/-- Clock-ok is not seen in time after a release request (R40). -/
def State.clockLate (s : State) : RelTarget → State
  | .page p => s.abandonPage (pageBase p)
  | .domain d => s.abandonDom d.toNat

/-- A wake event (R28): the source does not change what follows. (log 73, DEDUCED) -/
def State.wakeBy (s : State) : WakeSrc → State
  | .approach => s.wake
  | .doorbell => s.wake
  | .wakePin => s.wake

/-- The last response of a disabled block returns (R83). -/
def State.drainDone (s : State) (base : Nat) : State :=
  match pinfoAt base with
  | some i => if i.kind.busy ∧ s.flag base F.HDR.STATUS_ENABLED = false then s.put base F.HDR.STATUS_IDLE 1 else s
  | none => s

/-- A block whose quiesce was requested has drained (R67, R68): of a tenancy, R425 says when; writeback has drained
when no frame is being written. -/
def State.pageDrained (s : State) (base : Nat) : State :=
  match pinfoAt base with
  | none => s
  | some i =>
    if i.hasQuiesce = false ∨ s.flag base F.HDR.CTRL_QUIESCE = false then s
    else if i.kind = .ten then s.quiesceDone (pnoOf base)
    else if i.kind = .wb ∧ (s.wb (pnoOf base)).on then s
    else (s.put base F.HDR.STATUS_IDLE 1).put base F.HDR.STATUS_QUIESCED 1

/-- What restarts the secure side (R457). -/
def State.secRestart (s : State) : SecureCause → State
  | .watchdog => s.wdExpiry 0
  | .doubleTrap => s.restartCause .doubleTrap
  | .lockstep => s.restartCause .lockstep
  | .request r => s.cmdWrite r (worldsPage + 0x114) 1

/-- A hit of a source (R469, R472): a source that an access causes records the access. (log 65, DEDUCED) -/
def State.hitCmd (s : State) (src arg acc : Nat) (r : Req) (addr : Nat) : State :=
  if srcAccess src then s.hitAcc src arg acc r.rid.toNat r.tag.toNat addr else s.hit src arg

/-- An access to domain d gets no answer in time (R471). -/
def State.busTimeout (s : State) (d acc : Nat) (r : Req) (addr : Nat) : State :=
  if isDomain d then s.hitAcc (busTimeoutSrc d) (r.rid.toNat) acc r.rid.toNat r.tag.toNat addr else s

/-- A received `RESET` flit (R540): from the master with the key it asserts source 8; any other is counted. -/
def State.rxReset (s : State) (f : FlitRx) (key : Nat) : State :=
  s.tSeq f 0x0B (natBytes 2 key) (fun s =>
    if some f.src = s.tmb.master ∧ key = 0x5254 then s.sourceActs 8 none .software else s.stat tmbPage 7)

/-- What a received flit's header says. -/
def flitRx (x : FlitHdr) : FlitRx := ⟨x.p.val, x.seq.toNat, x.ack.toNat, x.src.val, x.dst.val⟩

/-- An entry of a `READ_REQ` flit. -/
def rEntry (e : ReadEntry) : REntry := ⟨e.addr.toNat, e.pool, e.n.val, e.cols.val, e.stride.toNat⟩

end Sys2Proof.Machine
end

