-- ==== Sys2Proof/Machine/AudCmds.lean ====
section
/-! DEFINITION. Commands: the audio engine, its ports, banks and players. -/

namespace Sys2Proof.Machine

/-- SAMPLE_BOUNDARY (R305): At each 96 kHz sample boundary the engine steps gain units, starts triggered players
and runs the program once. -/
def execSampleBoundary (errs : List (Nat × Nat × Nat)) (s : State) : Host.Outcome State Fault Refusal :=
  .next (s.sampleBoundary errs)

/-- AUDIO_BLOCK_MARKER (R305): At each audio block marker commits apply, meters latch, duck rules are evaluated
and gain targets change. -/
def execAudioBlockMarker (s : State) : Host.Outcome State Fault Refusal := .next (s.blockMarker)

/-- AUD_PORT_FRAME (R309): A master TDM port starts a frame on its Thyme-aligned tick and moves its slots. -/
def execAudPortFrame (p : Fin 4) (slots : List Nat) (s : State) : Host.Outcome State Fault Refusal :=
  .next (s.masterFrame p.val slots)

/-- AUD_FS_EDGE (R313): A slave port receives an FS edge, updates its rate estimate and lock state and checks
the frame's bit count. -/
def execAudFsEdge (p : Fin 4) (n : Nat) (slots : List Nat) (s : State) : Host.Outcome State Fault Refusal :=
  .next (s.fsEdge p.val n slots)

/-- AUD_CLOCK_LOSS (R313): No FS edge arrives for 4 × F_T, so the port enters NO_CLOCK, raises AUDIO_PORT_CLOCK
and writes a record. -/
def execAudClockLoss (p : Fin 4) (s : State) : Host.Outcome State Fault Refusal := .next (s.clockLoss p.val)

/-- BANK_LOAD (R320): A write of BANK_CMD.LOAD fetches a program image into the inactive bank. -/
def execBankLoad (r : Req) (s : State) : Host.Outcome State Fault Refusal :=
  .next (s.cmdWrite r (abankPage + 0x10C) 1)

/-- BANK_LOAD_DONE (R321): The bank image has arrived; it is checked and LOAD_RESULT is written. -/
def execBankLoadDone (s : State) : Host.Outcome State Fault Refusal := .next (s.bankLoaded)

/-- BANK_INVALIDATE (R334): A write of BANK_CMD.INVALIDATE invalidates the inactive bank, or is refused during a
swap. -/
def execBankInvalidate (r : Req) (s : State) : Host.Outcome State Fault Refusal :=
  .next (s.cmdWrite r (abankPage + 0x10C) 2)

/-- FADE_TIMEOUT (R324): FADE_TIMEOUT samples pass in a fade phase, and the units are forced to their end gains.
-/
def execFadeTimeout (s : State) : Host.Outcome State Fault Refusal := .next (s.fadeTimeout)

/-- PLAYER_PRELOAD_DONE (R327): The head-buffer frames of a player arrive and PRELOADED sets. -/
def execPlayerPreloadDone (p : Fin 16) (s : State) : Host.Outcome State Fault Refusal := .next (s.preloaded p.val)

/-- TRIG_FIRE (R329): A write of TRIG_FIRE.GO starts a trigger line's player at the next sample, or the start is
dropped. -/
def execTrigFire (r : Req) (line : Fin 64) (s : State) : Host.Outcome State Fault Refusal :=
  .next (s.cmdWrite r (aengPage + 0x110) (BitVec.ofNat 32 (0x100 + line.val)))

/-- ASRC_COEF_READ (R315): A read of ASRC_COEF returns a converter coefficient and advances TAP. -/
def execAsrcCoefRead (r : Req) (s : State) : Host.Outcome State Fault Refusal :=
  .next (s.cmdRead r (asrcPage + 0xF40))

end Sys2Proof.Machine
end

