-- ==== Sys2Proof/Machine/Clocks.lean ====
section
/-! DEFINITION. Commands: supplies, the root clock, domain clocks, Thyme, periods and block synchronisation. -/

namespace Sys2Proof.Machine

/-- MAIN_SUPPLY_GOOD (R20): Main supplies become good and power-on reset is released, so the device enters LOAD
from OFF or BACKUP. -/
def execMainSupplyGood (s : State) : Host.Outcome State Fault Refusal := .next (s.supplyGood)

/-- VBAK_PRESENT (R20): VBAK appears while the main supplies are absent, so the device enters BACKUP. -/
def execVbakPresent (s : State) : Host.Outcome State Fault Refusal := .next (s.vbakOn)

/-- MAIN_SUPPLY_LOSS (R20): A main supply is lost, so the device enters BACKUP when VBAK is present and OFF
otherwise. -/
def execMainSupplyLoss (s : State) : Host.Outcome State Fault Refusal := .next (s.supplyLost)

/-- VBAK_LOSS (R20): VBAK is lost while the main supplies are absent, so the device goes from BACKUP to OFF. -/
def execVbakLoss (s : State) : Host.Outcome State Fault Refusal := .next (s.vbakOff)

/-- SUPPLY_UV (R570): A main supply stays below its UV threshold for 1 µs, which raises SUPPLY_UV with the
supply index. -/
def execSupplyUv (supply : Fin 16) (s : State) : Host.Outcome State Fault Refusal := .next (s.supplyUv supply.val)

/-- PLL_LOCK (R34): The root PLL locks, reset of the domains is released and Thyme starts at 0 after a COLD
reset. -/
def execPllLock (s : State) : Host.Outcome State Fault Refusal := .next (s.pllLock)

/-- PLL_LOCK_RETRY (R34): The root PLL has not locked, and after 1 ms of monitor-oscillator time the device
retries lock. (log 72, DEDUCED) -/
def execPllLockRetry (s : State) : Host.Outcome State Fault Refusal := .next s

/-- ROOT_LOSS (R35): The monitor count reaches LOSS_THRESH without a reference edge; the monitor declares root
loss, asserts COLD reset and writes the first-fault record. -/
def execRootLoss (s : State) : Host.Outcome State Fault Refusal := .next (s.rootLoss)

/-- MON_OSC_LOSS (R37): No monitor-oscillator edge arrives for 3,072 ticks, so MON_RUN clears and CLK_LOSS is
raised. -/
def execMonOscLoss (s : State) : Host.Outcome State Fault Refusal := .next (s.monLoss)

/-- PLL_UNLOCK (R37): The PLL lock detector drops while the root still toggles, so PLL_UNLOCK is raised. -/
def execPllUnlock (s : State) : Host.Outcome State Fault Refusal := .next (s.pllUnlock)

/-- RELEASE_CLOCK_OK (R40): Clock-ok is seen after a release request, so the block or domain reset is released.
-/
def execReleaseClockOk (t : RelTarget) (s : State) : Host.Outcome State Fault Refusal := .next (s.clockSeen t)

/-- RELEASE_ABANDONED (R40): Clock-ok is not seen by 12,288 ticks after a release request; the release is
abandoned and CLK_NOT_STABLE is raised. -/
def execReleaseAbandoned (t : RelTarget) (s : State) : Host.Outcome State Fault Refusal := .next (s.clockLate t)

/-- DOMAIN_GATE (R41): A write of CLK.DIV.GATE_REQ with GATE = 1 requests gating of a domain and starts its
check. -/
def execDomainGate (r : Req) (d : BitVec 8) (s : State) : Host.Outcome State Fault Refusal :=
  .next (s.cmdWrite r (divPage + 0x140) (BitVec.ofNat 32 (d.toNat * 256 + 1)))

/-- DOMAIN_UNGATE (R41): A write of CLK.DIV.GATE_REQ with GATE = 0 requests ungating of a domain and starts its
check. -/
def execDomainUngate (r : Req) (d : BitVec 8) (s : State) : Host.Outcome State Fault Refusal :=
  .next (s.cmdWrite r (divPage + 0x140) (BitVec.ofNat 32 (d.toNat * 256)))

/-- GATE_CHECK_DONE (R42): The gate check completes, writes GATE_RESULT, and gates or ungates the domain, or
refuses. -/
def execGateCheckDone (s : State) : Host.Outcome State Fault Refusal := .next (s.gateDone)

/-- THYME_LO_READ (R45): A read of THYME_LO returns the low word and snapshots the high word for the same
requester. -/
def execThymeLoRead (r : Req) (s : State) : Host.Outcome State Fault Refusal :=
  .next (s.cmdRead r (thymePage + 0x100))

/-- LO_SNAPSHOT_READ (R53): A read of the low word of a 64-bit register snapshots its high word for the next
read.  One narrower than 32 bits returns the addressed bytes of the word (R72). -/
def execLoSnapshotRead (src : RegSrc) (bytes : Nat) (s : State) : Host.Outcome State Fault Refusal :=
  match src with
  | .space r addr => .next (s.cmdRead r addr.toNat bytes)
  | .function p f o => .next (s.fnRead p.val f.val o.toNat bytes)

/-- SLEW_TICK (R46): A slew tick adds 0 or 2 to Thyme to work off SLEW_PENDING. -/
def execSlewTick (s : State) : Host.Outcome State Fault Refusal := .next (s.slewTick)

/-- PERIOD_BOUNDARY (R50): A boundary of a page's period source ends the open period for increments stamped
before it. -/
def execPeriodBoundary (page : PageNo) (s : State) : Host.Outcome State Fault Refusal :=
  .next (s.periodBoundary (pageBase page))

/-- PERIOD_LATCH_UPDATE (R51): At B + 8 the live counters are copied into the latched view and restart, and
PERIOD_SEQ, PERIOD_START and PERIOD_LEN update. -/
def execPeriodLatchUpdate (page : PageNo) (s : State) : Host.Outcome State Fault Refusal :=
  .next (s.periodLatch (pageBase page))

/-- ACCOUNTING_BOUNDARY (R58): Thyme reaches ACCT_START + ACCT_LEN; a new accounting period opens, and shares
and TEN and CLK.PERIOD commits apply. -/
def execAccountingBoundary (s : State) : Host.Outcome State Fault Refusal := .next (s.acctBoundary)

/-- SYNC_IN_EDGE (R60): A selected edge on SYNC_IN is stamped and counted and sets INT_STATUS bit 0. -/
def execSyncInEdge (rising : Bool) (s : State) : Host.Outcome State Fault Refusal := .next (s.syncEdge rising)

/-- SYNC_OUT_RISE (R61): Thyme reaches the next pulse value and SYNC_OUT rises. -/
def execSyncOutRise (s : State) : Host.Outcome State Fault Refusal := .next (s.syncRise)

/-- SYNC_OUT_FALL (R61): OUT_WIDTH ticks after a rise, SYNC_OUT falls. -/
def execSyncOutFall (s : State) : Host.Outcome State Fault Refusal := .next (s.syncFall)

end Sys2Proof.Machine
end

