-- ==== Sys2Proof/Machine/DramCmds.lean ====
section
/-! DEFINITION. Commands: the DRAM controller. -/

namespace Sys2Proof.Machine

/-- DRAM_REQUEST (R346): A request reaches the DRAM controller, takes its service class, and queues, waits on a
sweep, or waits at its plane port. -/
def execDramRequest (rid : BitVec 8) (tag : BitVec 12) (stream : Nat) (addr : BitVec 40) (write layer : Bool) (bytes : Nat) (data : List Byte)
    (s : State) : Host.Outcome State Fault Refusal :=
  .next (s.dramIssue ⟨rid.toNat, tag.toNat, addr.toNat, bytes, write, false, layer⟩ stream data)

/-- DRAM_READ_DATA (R341): Read data returns; each word is decoded, corrected, written back or reported
uncorrectable. -/
def execDramReadData (ch : Fin 8) (skip : Nat) (s : State) : Host.Outcome State Fault Refusal :=
  .next (s.dramNext ch.val skip)

/-- AGE_PROMOTION (R348): A queued request reaches its class age limit and is promoted to ISO priority. -/
def execAgePromotion (ch : Fin 8) (s : State) : Host.Outcome State Fault Refusal := .next (s.agePromote ch.val)

/-- DRAM_REFRESH (R337): A per-bank refresh falls due and is issued, at the latest when eight are postponed. -/
def execDramRefresh (ch : Fin 8) (rank : Fin 2) (bank : Fin 16) (postpone : Bool)
    (s : State) : Host.Outcome State Fault Refusal :=
  .next (s.refresh ch.val rank.val bank.val postpone)

/-- MR4_READ (R337): Every 614,400 ticks the controller reads MR4 and sets the refresh interval. -/
def execMr4Read (ch : Fin 8) (code : Fin 8) (s : State) : Host.Outcome State Fault Refusal :=
  .next (s.mr4 ch.val code.val)

/-- POWER_DOWN_ENTRY (R350): A rank idle for PD_IDLE ticks enters power-down. -/
def execPowerDownEntry (ch : Fin 8) (rank : Fin 2) (s : State) : Host.Outcome State Fault Refusal :=
  .next (s.powerDown ch.val rank.val)

/-- SELF_REFRESH_ENTRY (R351): An idle channel with enough latency tolerance does an all-bank refresh and enters
self-refresh. -/
def execSelfRefreshEntry (ch : Fin 8) (s : State) : Host.Outcome State Fault Refusal := .next (s.srEntry ch.val)

/-- SELF_REFRESH_EXIT (R351): A wake condition makes a channel exit self-refresh and serve from SR_EXIT later.
-/
def execSelfRefreshExit (ch : Fin 8) (s : State) : Host.Outcome State Fault Refusal := .next (s.srWake ch.val)

/-- OSC_TRACKING (R353): WCK-to-DQ oscillator tracking falls due and runs when T_MIN allows. -/
def execOscTracking (ch : Fin 8) (s : State) : Host.Outcome State Fault Refusal := .next (s.oscTrack ch.val)

/-- DRAM_TRAINING_DONE (R354): Training of a channel completes to READY, or fails with DRAM_TRAIN_FAIL. -/
def execDramTrainingDone (ch : Fin 8) (fail : Option (Fin 7)) (s : State) : Host.Outcome State Fault Refusal :=
  .next (s.trainDone ch.val (fail.map (·.val)))

/-- SWEEP_GRANULE_DONE (R356): A granule is swept; waiting requests are served and the next granule starts, or
DONE sets with a record. -/
def execSweepGranuleDone (q : Fin 128) (s : State) : Host.Outcome State Fault Refusal := .next (s.sweepDone q.val)

/-- DRAM_CMD_ERROR (R357): A command mismatches its independent copy; DRAM_CMD_ERROR is raised, the block is
poisoned or the command reissued. -/
def execDramCmdError (ch : Fin 8) (serves again : Bool) (s : State) : Host.Outcome State Fault Refusal :=
  .next (s.dramCmdError ch.val serves again)

/-- ECC_INJECT (R362): A write of INJ_CTL arms an error injection on the next write of a word. -/
def execEccInject (r : Req) (v : Word) (s : State) : Host.Outcome State Fault Refusal :=
  .next (s.cmdWrite r (deccPage + 0x10C) v)

end Sys2Proof.Machine
end

