-- ==== Sys2Proof/Machine/FaultCmds.lean ====
section
/-! DEFINITION. Commands: faults, the collector and its reactions. -/

namespace Sys2Proof.Machine

/-- FAULT_HIT (R469): A source hit reaches its domain aggregator; it counts, sets RAISED and queues the source
unless already pending. -/
def execFaultHit (src : Fin 383) (arg : BitVec 16) (acc : Fin 5) (r : Req) (addr : BitVec 40)
    (s : State) : Host.Outcome State Fault Refusal :=
  .next (s.hitCmd src.val arg.toNat acc.val r addr.toNat)

/-- FAULT_ACCEPT (R475): The collector accepts an event; it captures or merges it, starts reactions and writes a
FAULT record. -/
def execFaultAccept (s : State) : Host.Outcome State Fault Refusal := .next (s.acceptEvent)

/-- FAULT_BLOCK_RESET_RELEASE (R473): The 3,072-tick hold of a B reaction ends and the domain is released. -/
def execFaultBlockResetRelease (s : State) : Host.Outcome State Fault Refusal := .next (s.bHoldEnd)

/-- MASKING_WINDOW_END (R477): 64 ticks after the release, the B reaction and its masking end. -/
def execMaskingWindowEnd (s : State) : Host.Outcome State Fault Refusal := .next (s.windowEnd)

/-- BUS_TIMEOUT (R471): An access to a domain gets no answer within BUS_TIMEOUT, so it completes with an error
and raises BUS_TIMEOUT[d]. -/
def execBusTimeout (d : BitVec 8) (acc : Fin 5) (r : Req) (addr : BitVec 40)
    (s : State) : Host.Outcome State Fault Refusal :=
  .next (s.busTimeout d.toNat acc.val r addr.toNat)

/-- NMI_ACK (R480): A core writes its NMI_ACK bit, and the N reaction ends when all targets have acknowledged.
-/
def execNmiAck (r : Req) (v : Word) (s : State) : Host.Outcome State Fault Refusal :=
  .next (s.cmdWrite r (fcollPage + 0x108) v)

/-- RELEASE (R473): A write of PIN_CTRL.RELEASE ends every P reaction and releases FAULT_N. -/
def execRelease (r : Req) (s : State) : Host.Outcome State Fault Refusal := .next (s.cmdWrite r (fcollPage + 0x10C) 1)

/-- INJECT (R480): A write of INJECT.GO raises a source as a hit of its detector. -/
def execInject (r : Req) (v : Word) (s : State) : Host.Outcome State Fault Refusal :=
  .next (s.cmdWrite r (fcollPage + 0x110) v)

/-- SELF_INJECT (R483): A write of SELF_INJECT with 0x5AFE forces a collector mismatch and the safe state. -/
def execSelfInject (r : Req) (v : Word) (s : State) : Host.Outcome State Fault Refusal :=
  .next (s.cmdWrite r (fcollPage + 0x114) v)

/-- COLLECTOR_SELF_FAULT (R483): The collector's duplicated state mismatches, so the device enters SAFE at once.
-/
def execCollectorSelfFault (word : BitVec 14) (s : State) : Host.Outcome State Fault Refusal :=
  .next (s.selfFault 1 word.toNat)

/-- SLOT_CLEAR (R481): A write of SLOT_CLEAR invalidates idle capture slots. -/
def execSlotClear (r : Req) (v : Word) (s : State) : Host.Outcome State Fault Refusal :=
  .next (s.cmdWrite r (fcapPage + 0x200) v)

end Sys2Proof.Machine
end

