-- ==== Sys2Proof/Machine/HapCmds.lean ====
section
/-! DEFINITION. Commands: haptic ports and channels, and reflexes. -/

namespace Sys2Proof.Machine

/-- HAPTIC_FRAME (R273): A haptic port frame sends control and drive slots, takes control and sense words, and
advances effects, limiter and triggers. -/
def execHapticFrame (p : Fin 2) (rx : List Word) (s : State) : Host.Outcome State Fault Refusal :=
  .next (s.hapFrame p.val rx)

/-- HAPTIC_PORT_RESTART (R276): A haptic port restart exchanges HELLO and SELECT words and becomes UP, or enters
DOWN. -/
def execHapticPortRestart (p : Fin 2) (rxs : List (List Word)) (s : State) : Host.Outcome State Fault Refusal :=
  .next (s.hptRun p.val rxs)

/-- HAPTIC_PORT_RESTART_CMD (R297): A write of PORT_CMD.RESTART restarts the haptic port on the next frame. -/
def execHapticPortRestartCmd (r : Req) (p : Fin 2) (s : State) : Host.Outcome State Fault Refusal :=
  .next (s.cmdWrite r (hportPage p.val + 0x1A0) 1)

/-- HAPTIC_RESTART_RETRY (R276): 6,144,000 ticks after a failed port restart, the next restart starts. -/
def execHapticRestartRetry (p : Fin 2) (s : State) : Host.Outcome State Fault Refusal := .next (s.hptRetry p.val)

/-- EFFECT_LOAD (R279): A write of STORE_CMD.LOAD fetches an effect descriptor into a store slot, or is refused.
-/
def execEffectLoad (r : Req) (s : State) : Host.Outcome State Fault Refusal :=
  .next (s.cmdWrite r (hapPage + 0x110) 1)

/-- EFFECT_LOAD_DONE (R280): The effect descriptor fetch completes; it is validated and the slot becomes valid,
or STORE_RESULT gives the refusal. -/
def execEffectLoadDone (s : State) : Host.Outcome State Fault Refusal := .next (s.storeLoaded)

/-- EFFECT_FREE (R279): A write of STORE_CMD.FREE invalidates a store slot that is not in use. -/
def execEffectFree (r : Req) (s : State) : Host.Outcome State Fault Refusal :=
  .next (s.cmdWrite r (hapPage + 0x110) 2)

/-- HAPTIC_TRIGGER_GO (R285): A write of TRIGGER.GO triggers an effect slot on the channel, or the trigger is
dropped. -/
def execHapticTriggerGo (r : Req) (c : Fin 8) (slot : Fin 32) (s : State) : Host.Outcome State Fault Refusal :=
  .next (s.cmdWrite r (hchanPage c.val + 0x130) (BitVec.ofNat 32 (0x100 + slot.val)))

/-- HAPTIC_TRIGGER_STOP (R287): A write of TRIGGER.STOP moves the playing effect to its brake or ends it and
drops a queued effect. -/
def execHapticTriggerStop (r : Req) (c : Fin 8) (s : State) : Host.Outcome State Fault Refusal :=
  .next (s.cmdWrite r (hchanPage c.val + 0x130) 0x200)

/-- HAP_FAULT_PIN (R292): HAP_FAULT_N goes low and every enabled channel of the port enters FAULT. -/
def execHapFaultPin (p : Fin 2) (low : Bool) (s : State) : Host.Outcome State Fault Refusal :=
  .next (s.faultPin p.val low)

/-- HAPTIC_FAULT_CLEAR (R292): A write of CHAN_CMD.CLEAR leaves FAULT when the pin, status and port allow it. -/
def execHapticFaultClear (r : Req) (c : Fin 8) (s : State) : Host.Outcome State Fault Refusal :=
  .next (s.cmdWrite r (hchanPage c.val + 0x134) 1)

/-- REFLEX_EVALUATE (R301): The reflex table evaluates a panel frame's contact events against its entries and
runs the actions of each match. -/
def execReflexEvaluate (s : State) : Host.Outcome State Fault Refusal := .next (s.reflexEvaluate)

end Sys2Proof.Machine
end

