-- ==== Sys2Proof/Machine/HostCmds.lean ====
section
/-! DEFINITION. Commands: host ports, rings, copies, journals and tenancies. -/

namespace Sys2Proof.Machine

/-- PERST_RELEASE (R393): PERST# of a port is released and the port answers with CRS until ready. -/
def execPerstRelease (p : Fin 2) (s : State) : Host.Outcome State Fault Refusal := .next (s.perstRelease p.val)

/-- PORT_READY_TIMEOUT (R393): 90 ms after PERST# release the port enables itself from the option records if
Sharen has not. -/
def execPortReadyTimeout (p : Fin 2) (s : State) : Host.Outcome State Fault Refusal :=
  .next (s.portReadyTimeout p.val)

/-- PCIE_CONFIG_REQUEST (R393): A configuration request arrives and is answered, with Retry Status while the
port is not ready. -/
def execPcieConfigRequest (p : Fin 2) (f : Fin 16) (c : CfgReq) (s : State) : Host.Outcome State Fault Refusal :=
  .next (s.configRequest p.val f.val c)

/-- PCIE_LINK_DOWN (R394): A PCIe link goes down; outbound requests fail, inbound ones are discarded and every
function is treated as reset. -/
def execPcieLinkDown (p : Fin 2) (s : State) : Host.Outcome State Fault Refusal := .next (s.linkDown p.val)

/-- PCIE_LINK_UP (R393): A host port's PCIe link trains up, so PORT_INFO.UP sets with its width and speed and
configuration requests can be answered. -/
def execPcieLinkUp (p : Fin 2) (width : Fin 3) (speed : Fin 4) (s : State) : Host.Outcome State Fault Refusal :=
  .next (s.linkUp p.val (1 <<< width.val) (speed.val + 1))

/-- PCIE_AER_EVENT (R394): An AER error raises PCIE_AER with the header logged. -/
def execPcieAerEvent (p : Fin 2) (k : AerKind) (hdr : BitVec 128) (s : State) : Host.Outcome State Fault Refusal :=
  .next (s.aerEvent p.val k hdr)

/-- DOORBELL (R397): A write of DOORBELL_r sets a ring's write index, is dropped, or puts the ring in ERROR. -/
def execDoorbell (p : Fin 2) (f : Fin 16) (ring : Fin 128) (wr : BitVec 16)
    (s : State) : Host.Outcome State Fault Refusal :=
  .next (s.doorbell p.val f.val ring.val wr.toNat)

/-- JOURNAL_RD_WRITE (R397): A write of JOURNAL_RD advances the tenancy's journal read index. -/
def execJournalRdWrite (p : Fin 2) (f : Fin 16) (rd : BitVec 16) (s : State) : Host.Outcome State Fault Refusal :=
  .next (s.journalRd p.val f.val rd.toNat)

/-- BAR4_ACCESS (R399): A manager BAR4 access is mapped to DRAM or the Tidepool and checked against the
ownership table. -/
def execBar4Access (off : BitVec 36) (write : Bool) (n : Nat) (data : List Byte)
    (s : State) : Host.Outcome State Fault Refusal :=
  .next (s.bar4Access off.toNat write n data)

/-- CPL_TIMEOUT (R400): An outbound non-posted request has no completion after CPL_TIMEOUT and receives an error
response. -/
def execCplTimeout (p : Fin 2) (c : CplFor) (s : State) : Host.Outcome State Fault Refusal :=
  .next (s.cplLost p.val c)

/-- FUNCTION_LEVEL_RESET (R428): A Function Level Reset quiesces and instance-resets the tenancy, then resets
the function. -/
def execFunctionLevelReset (p : Fin 2) (f : Fin 16) (s : State) : Host.Outcome State Fault Refusal :=
  .next (s.flrRequest p.val f.val)

/-- RING_HEADER_FETCHED (R404): A starting ring's header is read and negotiated, and the ring becomes RUNNING or
ERROR. -/
def execRingHeaderFetched (ring : Fin 128) (data : Option (BitVec 512))
    (s : State) : Host.Outcome State Fault Refusal :=
  .next (s.ringHeader ring.val data)

/-- RING_DESCRIPTOR_FETCHED (R410): A ring descriptor is fetched and validated; an invalid one puts the ring in
ERROR with a record. -/
def execRingDescriptorFetched (ring : Fin 128) (data : Option (BitVec 512))
    (s : State) : Host.Outcome State Fault Refusal :=
  .next (s.ringFetched ring.val data)

/-- RING_STOPPED (R405): A ring with RUN = 0 becomes STOPPED when its issued descriptors complete. -/
def execRingStopped (ring : Fin 128) (s : State) : Host.Outcome State Fault Refusal := .next (s.ringStopped ring.val)

/-- NOP (R406): A NOP descriptor is issued and completes at once. -/
def execNop (ring : Fin 128) (s : State) : Host.Outcome State Fault Refusal := .next (s.issueNop ring.val)

/-- RENDER (R406): A RENDER descriptor passes a job to the front end when it has room. -/
def execRender (ring : Fin 128) (s : State) : Host.Outcome State Fault Refusal := .next (s.issueRender ring.val)

/-- COPY (R406): A COPY descriptor is queued on a copy engine when there is room. -/
def execCopy (ring : Fin 128) (s : State) : Host.Outcome State Fault Refusal := .next (s.issueCopy ring.val)

/-- FENCE_SIGNAL (R411): A FENCE_SIGNAL descriptor, after earlier descriptors complete, sets a fence and
releases its waiters. -/
def execFenceSignal (ring : Fin 128) (s : State) : Host.Outcome State Fault Refusal := .next (s.issueSignal ring.val)

/-- FENCE_WAIT (R406): A FENCE_WAIT descriptor is issued when the fence reaches its value. -/
def execFenceWait (ring : Fin 128) (s : State) : Host.Outcome State Fault Refusal := .next (s.issueWait ring.val)

/-- REGS (R407): A REGS descriptor performs register accesses under the ring owner's tag and writes results. -/
def execRegs (ring : Fin 128) (s : State) : Host.Outcome State Fault Refusal := .next (s.issueRegs ring.val)

/-- HAPTIC (R406): A HAPTIC descriptor triggers or stops an effect on a channel. -/
def execHaptic (ring : Fin 128) (s : State) : Host.Outcome State Fault Refusal := .next (s.issueHaptic ring.val)

/-- AUDIO_GAIN (R406): An AUDIO_GAIN descriptor sets a gain unit's target at the next marker. -/
def execAudioGain (ring : Fin 128) (s : State) : Host.Outcome State Fault Refusal := .next (s.issueGain ring.val)

/-- EARCON (R406): An EARCON descriptor starts a trigger line. -/
def execEarcon (ring : Fin 128) (s : State) : Host.Outcome State Fault Refusal := .next (s.issueEarcon ring.val)

/-- DESCRIPTOR_COMPLETE (R408): A descriptor completes and writes a DESCRIPTOR record when JOURNAL is set. -/
def execDescriptorComplete (ring : Fin 128) (s : State) : Host.Outcome State Fault Refusal :=
  .next (s.descReport ring.val)

/-- COPY_START (R414): A free copy engine starts the oldest queued descriptor of the tenancy with the smallest
key. -/
def execCopyStart (e : Fin 4) (s : State) : Host.Outcome State Fault Refusal := .next (s.copyStart e.val)

/-- COPY_COMPLETE (R413): A copy ends normally or at a bus error, with its status. -/
def execCopyComplete (e : Fin 4) (data : List Byte) (s : State) : Host.Outcome State Fault Refusal :=
  .next (s.copyDone e.val data)

/-- JOURNAL_RECORD_WRITE (R418): The journal writer writes a queued record and WR, or loses it and later writes
JOURNAL_LOSS. -/
def execJournalRecordWrite (t : Fin 16) (s : State) : Host.Outcome State Fault Refusal := .next (s.jWriteNext t.val)

/-- JOURNAL_HOLDOFF_END (R420): The journal holdoff ends and a withheld MSI-X message is sent when records
remain unread. -/
def execJournalHoldoffEnd (t : Fin 16) (s : State) : Host.Outcome State Fault Refusal := .next (s.jHoldoffEnd t.val)

/-- TENANCY_QUIESCE (R425): A write of TEN_t.CTRL.QUIESCE = 1 stops the tenancy's rings, dispatch and unstarted
copies. -/
def execTenancyQuiesce (r : Req) (t : Fin 16) (s : State) : Host.Outcome State Fault Refusal :=
  .next (s.cmdCtrl r (tenPage t.val) 2 true)

/-- TENANCY_QUIESCE_TIMEOUT (R425): QUIESCE_TIMEOUT expires and the tenancy's running copies and render work are
purged. -/
def execTenancyQuiesceTimeout (t : Fin 16) (done : List (Nat × List Byte))
    (s : State) : Host.Outcome State Fault Refusal :=
  .next (s.quiesceTimeout t.val done)

/-- TENANCY_QUIESCED (R425): No work or response of the tenancy remains; QUIESCED sets and a QUIESCE record is
written. -/
def execTenancyQuiesced (t : Fin 16) (s : State) : Host.Outcome State Fault Refusal := .next (s.quiesceDone t.val)

/-- TENANCY_RESUME (R426): A write of QUIESCE = 0 clears QUIESCED and rings resume issue. -/
def execTenancyResume (r : Req) (t : Fin 16) (s : State) : Host.Outcome State Fault Refusal :=
  .next (s.cmdCtrl r (tenPage t.val) 2 false)

/-- INSTANCE_RESET (R427): A write of TEN_t.CTRL.BLOCK_RESET resets the quiesced tenancy's rings, fences,
history, L2 lines and journal. -/
def execInstanceReset (r : Req) (t : Fin 16) (s : State) : Host.Outcome State Fault Refusal :=
  .next (s.cmdCtrl r (tenPage t.val) 3 true)

/-- INSTANCE_RESET_DONE (R427): The instance reset completes and BLOCK_RESET reads 0. -/
def execInstanceResetDone (t : Fin 16) (s : State) : Host.Outcome State Fault Refusal := .next (s.instDone t.val)

end Sys2Proof.Machine
end

