-- ==== Sys2Proof/Machine/MemCmds.lean ====
section
/-! DEFINITION. Commands: the integrity of the memories. -/

namespace Sys2Proof.Machine

/-- CONVERSION_SWEEP_DONE (R371): The conversion sweep has re-encoded every class S bank and CONVERT_STATE.DONE
sets. -/
def execConversionSweepDone (s : State) : Host.Outcome State Fault Refusal := .next (s.convEnd)

/-- AUDIT_ROUND_START (R378): An audit round falls due every AUDIT_PERIOD, or starts late after an overrun. -/
def execAuditRoundStart (s : State) : Host.Outcome State Fault Refusal := .next (s.auditDue)

/-- AUDIT_PASS_DONE (R378): Both audit phases of a bank complete and the audit moves to the next bank. -/
def execAuditPassDone (s : State) : Host.Outcome State Fault Refusal := .next (s.auditPass)

/-- K_SCRUB_STEP (R380): Every K_SCRUB_STEP ticks one class K word is read, corrected or poisoned. -/
def execKScrubStep (found : Option KDamage) (s : State) : Host.Outcome State Fault Refusal :=
  .next (s.kScrub (found.map (fun k => (k.bank.val, k.word.toNat, k.cause.val, k.syn.toNat))))

/-- DRAM_SCRUB_STEP (R381): SCRUB_STEP ticks after the last response, the DRAM scrub reads its next block. -/
def execDramScrubStep (s : State) : Host.Outcome State Fault Refusal := .next (s.dramScrub)

/-- BULK_CLEAR_DONE (R374): A bulk clear of a bank completes and the bank accepts access again. -/
def execBulkClearDone (bank : Fin 128) (s : State) : Host.Outcome State Fault Refusal := .next (s.bulkDone bank.val)

/-- BUCKET_LEAK (R384): A bucket's leak falls due and its level decrements. -/
def execBucketLeak (b : Fin 10) (s : State) : Host.Outcome State Fault Refusal := .next (s.bucketLeak b.val)

/-- LOG_POP (R391): A write of LOG_POP removes the oldest error-log entry. -/
def execLogPop (r : Req) (s : State) : Host.Outcome State Fault Refusal := .next (s.cmdWrite r (logPage + 0x104) 1)

end Sys2Proof.Machine
end

