-- ==== Sys2Proof/Machine/Modes.lean ====
section
/-! DEFINITION. Commands: device modes, STANDBY, SAFE and responses discarded. -/

namespace Sys2Proof.Machine

/-- MODE_REQUEST (R24): A write of DEV.MODE.MODE_REQUEST.TARGET starts a mode request check. -/
def execModeRequest (r : Req) (v : Word) (s : State) : Host.Outcome State Fault Refusal :=
  .next (s.cmdWrite r (modePage + 0x104) v)

/-- MODE_REQUEST_CHECK_DONE (R26): The mode request check completes; it accepts or refuses the request, writes
RESULT and CHECK, and starts any transition. -/
def execModeRequestCheckDone (s : State) : Host.Outcome State Fault Refusal := .next (s.modeDone)

/-- STANDBY_ENTRY_STEP_COMPLETE (R27): A step of STANDBY entry (ULPS, doze, audio stop, self-refresh) completes,
and the next step starts or entry ends. -/
def execStandbyEntryStepComplete (s : State) : Host.Outcome State Fault Refusal := .next (s.standbyStep)

/-- WAKE_EVENT (R28): A touch approach, host doorbell or enabled wake pin aborts a STANDBY entry or starts the
exit to RUN. -/
def execWakeEvent (src : WakeSrc) (s : State) : Host.Outcome State Fault Refusal := .next (s.wakeBy src)

/-- STANDBY_UNDO_STEP_COMPLETE (R29): An undo step of STANDBY exit or abort completes, and the next undo starts
or the device settles in RUN. -/
def execStandbyUndoStepComplete (s : State) : Host.Outcome State Fault Refusal := .next (s.undoStep)

/-- RESPONSE_DISCARD (R18): A response that returns to an engine whose domain or page is under reset is
discarded at the plane's return port and counted. -/
def execResponseDiscard (rid : BitVec 8) (s : State) : Host.Outcome State Fault Refusal := .next (s.discard rid.toNat)

/-- SAFE_ENTRY (R484): The device enters SAFE: heads stop, outputs are quietened and FAULT_N goes low. -/
def execSafeEntry (s : State) : Host.Outcome State Fault Refusal := .next (s.safeEntry)

/-- SAFE_TRANSITION_DONE (R484): The last action of safe entry completes; IN_TRANSITION clears and MODE_TS is
stamped. -/
def execSafeTransitionDone (s : State) : Host.Outcome State Fault Refusal := .next (s.safeDone)

end Sys2Proof.Machine
end

