-- ==== Sys2Proof/Machine/PadCmds.lean ====
section
/-! DEFINITION. Commands: pads, the board controllers, the boot flash, JTAG and the thermal sensors. -/

namespace Sys2Proof.Machine

/-- WAKE_PIN_EDGE (R560): An edge on a WAKE pad in STANDBY is a wake event. -/
def execWakePinEdge (g : Fin 32) (rising : Bool) (s : State) : Host.Outcome State Fault Refusal :=
  .next (s.wakeEdge g.val rising)

/-- GPIO_SET (R561): A write of GPIO_SET sets bits of OUT. -/
def execGpioSet (r : Req) (v : Word) (s : State) : Host.Outcome State Fault Refusal :=
  .next (s.cmdWrite r (gpioPage + 0x108) v)

/-- GPIO_CLR (R561): A write of GPIO_CLR clears bits of OUT. -/
def execGpioClr (r : Req) (v : Word) (s : State) : Host.Outcome State Fault Refusal :=
  .next (s.cmdWrite r (gpioPage + 0x10C) v)

/-- BC_XFER (R564): A write of BC_XFER.GO starts an I2C or I3C transfer, or is dropped. -/
def execBcXfer (r : Req) (n : Fin 2) (v : Word) (s : State) : Host.Outcome State Fault Refusal :=
  .next (s.cmdWrite r (bcPage + bcOff n.val 0x04) v)

/-- ENTDAA (R564): CCC code 0x07 runs I3C dynamic address assignment. -/
def execEntdaa (n : Fin 2) (targets : List (BitVec 48 × Byte × Byte))
    (s : State) : Host.Outcome State Fault Refusal :=
  .next (s.entdaa n.val targets)

/-- BC_TRANSFER_DONE (R564): A board-controller transfer ends with its RESULT and sets DONE. -/
def execBcTransferDone (n : Fin 2) (res : Fin 5) (data : List Byte) (s : State) : Host.Outcome State Fault Refusal :=
  .next (s.bcDone n.val res.val data)

/-- BC_STRETCH_TIMEOUT (R564): A target holds SCL low for 25 ms, so the transfer ends with RESULT 3. -/
def execBcStretchTimeout (n : Fin 2) (s : State) : Host.Outcome State Fault Refusal := .next (s.bcStretch n.val)

/-- BC_IBI (R564): A target requests an in-band interrupt; it is acknowledged and queued, or refused with NACK.
-/
def execBcIbi (n : Fin 2) (addr : BitVec 7) (mdb : Byte) (s : State) : Host.Outcome State Fault Refusal :=
  .next (s.bcIbi n.val addr.toNat mdb)

/-- BC_TXDATA (R563): A write of BC_TXDATA pushes a byte into the transmit FIFO. -/
def execBcTxdata (r : Req) (n : Fin 2) (v : Word) (s : State) : Host.Outcome State Fault Refusal :=
  .next (s.cmdWrite r (bcPage + bcOff n.val 8) v)

/-- BC_RXDATA (R563): A read of BC_RXDATA pops a byte of the receive FIFO. -/
def execBcRxdata (r : Req) (n : Fin 2) (s : State) : Host.Outcome State Fault Refusal :=
  .next (s.cmdRead r (bcPage + 0xF00 + 0x10 * n.val))

/-- BC_IBI_POP (R563): A read of BC_IBI pops an in-band interrupt entry. -/
def execBcIbiPop (r : Req) (n : Fin 2) (s : State) : Host.Outcome State Fault Refusal :=
  .next (s.cmdRead r (bcPage + 0xF08 + 0x10 * n.val))

/-- XSPI_CMD (R565): A write of XSPI_CMD.GO runs one boot-flash command. -/
def execXspiCmd (r : Req) (v : Word) (s : State) : Host.Outcome State Fault Refusal :=
  .next (s.cmdWrite r (xspiPage + 0x104) v)

/-- XSPI_CMD_DONE (R565): A boot-flash command completes and CMD_DONE sets. -/
def execXspiCmdDone (data : List Byte) (s : State) : Host.Outcome State Fault Refusal := .next (s.xspiDone data)

/-- DMA_CMD (R565): A write of DMA_CMD.GO reads flash into memory. -/
def execDmaCmd (r : Req) (v : Word) (s : State) : Host.Outcome State Fault Refusal :=
  .next (s.cmdWrite r (xspiPage + 0x11C) v)

/-- XSPI_DMA_DONE (R565): The flash transfer completes or stops on an error response. -/
def execXspiDmaDone (data : List Byte) (s : State) : Host.Outcome State Fault Refusal := .next (s.dmaDone data)

/-- XSPI_TXDATA (R565): A write of XSPI_TXDATA pushes 4 bytes into the transmit FIFO. -/
def execXspiTxdata (r : Req) (v : Word) (s : State) : Host.Outcome State Fault Refusal :=
  .next (s.cmdWrite r (xspiPage + 0x10C) v)

/-- XSPI_RXDATA (R565): A read of XSPI_RXDATA pops 4 bytes of the receive FIFO. -/
def execXspiRxdata (r : Req) (s : State) : Host.Outcome State Fault Refusal := .next (s.cmdRead r (xspiPage + 0xF00))

/-- EXTEST (R566): JTAG instruction EXTEST drives and samples pins through the boundary scan, or acts as BYPASS
when locked. -/
def execExtest (tdi : BitVec 304) (s : State) : Host.Outcome State Fault Refusal := .next (s.jtagExtest tdi)

/-- IDCODE (R567): JTAG instruction IDCODE selects the 32-bit identification register. -/
def execIdcode (s : State) : Host.Outcome State Fault Refusal := .next (s.jtag 0x01 false s.idcode)

/-- SAMPLE_PRELOAD (R566): JTAG instruction SAMPLE/PRELOAD captures and preloads the boundary scan. -/
def execSamplePreload (tdi : BitVec 304) (s : State) : Host.Outcome State Fault Refusal := .next (s.jtagSample tdi)

/-- DEBUG (R566): JTAG instruction DEBUG selects the debug access port. -/
def execDebug (s : State) : Host.Outcome State Fault Refusal := .next (s.jtag 0x10 false 0)

/-- BYPASS (R566): JTAG instruction BYPASS selects the 1-bit bypass register. -/
def execBypass (s : State) : Host.Outcome State Fault Refusal := .next (s.jtag 0x1F false 0)

/-- THERMAL_SAMPLE (R580): Every 61,440 ticks each sensor is sampled, raising THERMAL_WARN or THERMAL_TRIP when
thresholds are met. -/
def execThermalSample (t0 t1 t2 t3 : BitVec 16) (s : State) : Host.Outcome State Fault Refusal :=
  .next (s.thermal [t0, t1, t2, t3])

end Sys2Proof.Machine
end

