-- ==== Sys2Proof/Machine/PageCmds.lean ====
section
/-! DEFINITION. Commands: register accesses, the common page header and interrupts. -/

namespace Sys2Proof.Machine

/-- REGISTER_WRITE (R73): A register write to a register with no row of its own is judged by the access rules
and takes effect or is dropped. -/
def execRegisterWrite (via : RegVia) (addr : RegAddr) (v : Word) (bytes : Nat) (s : State) : Host.Outcome State Fault Refusal :=
  match via with
  | .space r => .next ((s.regWrite r addr.toNat v bytes).1)
  | .function p f => .next (s.fnWrite p.val f.val (addr.toNat % 8192) v bytes)

/-- OWNER_WRITE (R76): A write of a page's OWNER is judged and changes the owner, resetting shadows and
INT_ENABLE, or is refused. -/
def execOwnerWrite (r : Req) (page : PageNo) (v : Word) (s : State) : Host.Outcome State Fault Refusal :=
  .next (s.cmdWrite r (pageBase page + 0x018) v)

/-- AUTO_COMMIT_WRITE (R89): A write of CTRL.AUTO_COMMIT moves the page into or out of its domain's commit group
while the page is disabled. -/
def execAutoCommitWrite (r : Req) (page : PageNo) (b : Bool) (s : State) : Host.Outcome State Fault Refusal :=
  .next (s.cmdCtrl r (pageBase page) 4 b)

/-- COMMIT_ON_FENCE_WRITE (R92): A write of CTRL.COMMIT_ON_FENCE arms commits on fence, or withdraws a waiting
commit when written 0. -/
def execCommitOnFenceWrite (r : Req) (page : PageNo) (b : Bool) (s : State) : Host.Outcome State Fault Refusal :=
  .next (s.cmdCtrl r (pageBase page) 5 b)

/-- PAGE_QUIESCE (R67): A write of CTRL.QUIESCE requests quiesce of the block, or resumes it when written 0. -/
def execPageQuiesce (r : Req) (page : PageNo) (b : Bool) (s : State) : Host.Outcome State Fault Refusal :=
  .next (s.cmdCtrl r (pageBase page) 2 b)

/-- ENABLE (R82): A write of CTRL.ENABLE = 1 captures a candidate and starts the enable check, or cancels a
waiting disable. -/
def execEnable (r : Req) (page : PageNo) (s : State) : Host.Outcome State Fault Refusal :=
  .next (s.cmdCtrl r (pageBase page) 0 true)

/-- DISABLE (R83): A write of CTRL.ENABLE = 0 withdraws pending commits and stops the block at its apply point,
or withdraws an enable. -/
def execDisable (r : Req) (page : PageNo) (s : State) : Host.Outcome State Fault Refusal :=
  .next (s.cmdCtrl r (pageBase page) 0 false)

/-- COMMIT (R84): A write of CTRL.COMMIT captures a candidate and starts a commit check, queues, or waits on a
fence. -/
def execCommit (r : Req) (page : PageNo) (s : State) : Host.Outcome State Fault Refusal :=
  .next (s.cmdCtrl r (pageBase page) 1 true)

/-- BLOCK_RESET (R498): A write of CTRL.BLOCK_RESET by the owner starts a BLOCK reset, or is refused. -/
def execBlockReset (r : Req) (page : PageNo) (s : State) : Host.Outcome State Fault Refusal :=
  .next (s.cmdCtrl r (pageBase page) 3 true)

/-- ENABLE_CHECK_DONE (R82): The enable check completes; it accepts, copies the SC values and starts the block
at the apply point, or refuses. -/
def execEnableCheckDone (page : PageNo) (s : State) : Host.Outcome State Fault Refusal :=
  .next (s.enableDone (pageBase page))

/-- COMMIT_CHECK_DONE (R85): The commit check completes; it arms the image, superseding an earlier one, or
refuses, and a queued commit starts its check. -/
def execCommitCheckDone (page : PageNo) (s : State) : Host.Outcome State Fault Refusal :=
  .next (s.commitDone (pageBase page))

/-- DISABLE_DRAIN_DONE (R83): The last response of a disabled block returns and IDLE sets. -/
def execDisableDrainDone (page : PageNo) (s : State) : Host.Outcome State Fault Refusal :=
  .next (s.drainDone (pageBase page))

/-- PAGE_QUIESCE_DONE (R68): A block whose quiesce was requested finishes draining and STATUS.QUIESCED sets,
which a later BLOCK reset requires. -/
def execPageQuiesceDone (page : PageNo) (s : State) : Host.Outcome State Fault Refusal :=
  .next (s.pageDrained (pageBase page))

/-- INT_STATUS_CLEAR (R93): A write of 1 to INT_STATUS bits clears them, and an interrupt line that stays
asserted sends another message. -/
def execIntStatusClear (r : Req) (page : PageNo) (v : Word) (s : State) : Host.Outcome State Fault Refusal :=
  .next (s.cmdWrite r (pageBase page + 0x030) v)

/-- INT_FORCE (R93): A write of 1 to INT_FORCE sets the same bits of INT_STATUS. -/
def execIntForce (r : Req) (page : PageNo) (v : Word) (s : State) : Host.Outcome State Fault Refusal :=
  .next (s.cmdWrite r (pageBase page + 0x038) v)

/-- IRQ_DELIVERY (R94): An asserted interrupt line is routed to cores or to a host MSI-X vector, or is held
pending when the vector is masked. -/
def execIrqDelivery (line : PageNo) (s : State) : Host.Outcome State Fault Refusal := .next (s.irqDeliver line.toNat)

/-- MSIX_UNMASK (R94): Unmasking an MSI-X vector whose pending bit is set sends the message. -/
def execMsixUnmask (port : Fin 2) (fn : Fin 16) (vec : Fin 64) (s : State) : Host.Outcome State Fault Refusal :=
  .next (s.unmaskVec port.val fn.val vec.val)

/-- IRQ_ROUTE_WRITE (R95): A write of MGT.IRQ.IRQ_ROUTE starts a route check for the selected line. -/
def execIrqRouteWrite (r : Req) (v : Word) (s : State) : Host.Outcome State Fault Refusal :=
  .next (s.cmdWrite r (routerPage + 0x104) v)

/-- IRQ_ROUTE_CHECK_DONE (R96): The route check completes, and the route takes effect or is refused. -/
def execIrqRouteCheckDone (s : State) : Host.Outcome State Fault Refusal := .next (s.routeDone)

end Sys2Proof.Machine
end

