-- ==== Sys2Proof/Machine/RenderCmds.lean ====
section
/-! DEFINITION. Commands: the render front end, the tiler, the shader cores and the scheduler. -/

namespace Sys2Proof.Machine

/-- JOB_DESCRIPTOR_FETCHED (R188): The front end has fetched a job and its pass descriptors and validates them,
ending the job unrun if they are invalid. -/
def execJobDescriptorFetched (job : Nat) (s : State) : Host.Outcome State Fault Refusal := .next (s.jobFetched job)

/-- JOB_READY (R213): A validated job's wait fence is met; the job becomes ready with its class and deadline
fixed. -/
def execJobReady (job : Nat) (s : State) : Host.Outcome State Fault Refusal := .next (s.jobReady job)

/-- CORE_DISPATCH (R217): A free eligible core is given the next unit by class, budget and deadline. -/
def execCoreDispatch (s : State) : Host.Outcome State Fault Refusal := .next (s.dispatch)

/-- DRAW_VALIDATE (R195): The tiler fetches a draw record, validates it and skips it when it is invalid. -/
def execDrawValidate (job : Nat) (prims : Nat) (s : State) : Host.Outcome State Fault Refusal :=
  .next (s.drawNext job prims)

/-- BIN_HEAP_EXHAUSTED (R198): Binning exhausts the bin heap; the tiler makes an incremental flush, or the pass
ends with BIN_OVERFLOW. -/
def execBinHeapExhausted (job : Nat) (spill : List (Option Byte)) (s : State) : Host.Outcome State Fault Refusal :=
  .next (s.binFull job spill)

/-- TILE_RESOLVE (R200): A core resolves a tile, computes its signature and skips or stores the tile. -/
def execTileResolve (core : Fin 24) (px : List (Option Byte)) (frags : Nat) (acts : List ShAct)
    (s : State) : Host.Outcome State Fault Refusal :=
  .next (s.tileResolve core.val px frags acts)

/-- JOB_END (R189): A job ends; L2 writes back, a job record is written and SIGNAL_FENCE takes its value. -/
def execJobEnd (job : Nat) (s : State) : Host.Outcome State Fault Refusal := .next (s.jobEnd job)

/-- CORE_HANG (R212): A busy core retires nothing for HANG_LIMIT; it raises GFX_CORE_HANG, is cleared, and the
job ends with CORE_HANG. -/
def execCoreHang (core : Fin 24) (s : State) : Host.Outcome State Fault Refusal := .next (s.coreHang core.val)

/-- L2_FLUSH_ALL (R211): A write of L2_CTRL.FLUSH_ALL writes back and invalidates every L2 line while new jobs
wait. -/
def execL2FlushAll (r : Req) (s : State) : Host.Outcome State Fault Refusal := .next (s.cmdWrite r (l2Page + 0x140) 1)

/-- L2_FLUSH_DONE (R211): The L2 flush completes, and FLUSH_ALL reads 0. -/
def execL2FlushDone (s : State) : Host.Outcome State Fault Refusal := .next (s.l2FlushDone)

/-- DEADLINE_EVAL (R219): EVAL_INTERVAL expires, or a tile stores, and the scheduler re-evaluates a DEADLINE job
and may boost it and request pre-emption. -/
def execDeadlineEval (job : Nat) (s : State) : Host.Outcome State Fault Refusal := .next (s.deadlineDue job)

/-- PREEMPT_SAVE_DONE (R220): A pre-empted core finishes storing or saving its unit and is free for the boosted
job. -/
def execPreemptSaveDone (core : Fin 24) (ctx : List Byte) (s : State) : Host.Outcome State Fault Refusal :=
  .next (s.saveDone core.val ctx)

/-- PREEMPT_TIMEOUT (R221): A core is not free within the pre-emption bound, so it raises GFX_PREEMPT_TIMEOUT.
-/
def execPreemptTimeout (core : Fin 24) (s : State) : Host.Outcome State Fault Refusal :=
  .next (s.preemptLate core.val)

/-- DEADLINE_MISS (R224): A DEADLINE job has not set its fence by T; GFX_DEADLINE_MISS is raised, a miss record
is written and the deadline moves. -/
def execDeadlineMiss (job : Nat) (s : State) : Host.Outcome State Fault Refusal := .next (s.deadlineMiss job)

/-- COST_FLUSH (R227): A write of COST_CTRL.FLUSH bit t removes tenancy t's cost-history entries. -/
def execCostFlush (r : Req) (mask : BitVec 16) (s : State) : Host.Outcome State Fault Refusal :=
  .next (s.cmdWrite r (schedPage + 0x1C0) (mask.setWidth 32))

/-- COST_FLUSH_ALL (R227): A write of COST_CTRL.FLUSH_ALL removes every cost-history entry. -/
def execCostFlushAll (r : Req) (s : State) : Host.Outcome State Fault Refusal :=
  .next (s.cmdWrite r (schedPage + 0x1C0) 0x10000)

/-- WORKGROUP_RETIRED (R219): A shader core retires a compute workgroup, which updates the job's done count,
triggers its DEADLINE evaluation and frees the core for dispatch. -/
def execWorkgroupRetired (w : GroupEnd) (s : State) : Host.Outcome State Fault Refusal :=
  .next (s.groupRetired w.core.val w.acts)

/-- PASS_BINNED (R197): The tiler finishes binning a render pass, so its tiles become queueable for cores once
the previous pass's dependency is met. -/
def execPassBinned (job : Nat) (s : State) : Host.Outcome State Fault Refusal := .next (s.passBinned job)

end Sys2Proof.Machine
end

