-- ==== Sys2Proof/Machine/ResetCmds.lean ====
section
/-! DEFINITION. Commands: resets, the option load, OTP and the backup region. -/

namespace Sys2Proof.Machine

/-- RESET_N_PIN (R491): RESET_N held low past the glitch filter asserts reset source 2. -/
def execResetNPin (low : Bool) (s : State) : Host.Outcome State Fault Refusal := .next (s.resetPin low)

/-- SW_RESET_WARM (R496): A write of SW_RESET with LEVEL = WARM and the key asserts source 4. -/
def execSwResetWarm (r : Req) (s : State) : Host.Outcome State Fault Refusal :=
  .next (s.cmdWrite r (srcsPage + 0x108) 0x52530001)

/-- SW_RESET_COLD (R496): A write of SW_RESET with LEVEL = COLD and the key asserts source 3. -/
def execSwResetCold (r : Req) (s : State) : Host.Outcome State Fault Refusal :=
  .next (s.cmdWrite r (srcsPage + 0x108) 0x52530003)

/-- DEBUG_RESET (R491): An authorised JTAG reset request asserts source 6. -/
def execDebugReset (s : State) : Host.Outcome State Fault Refusal := .next (s.debugReset)

/-- BOOT_TIMEOUT (R491): BOOT lasts BOOT_LIMIT ms without RUN, which asserts source 7. -/
def execBootTimeout (s : State) : Host.Outcome State Fault Refusal := .next (s.bootLate)

/-- PERST_ASSERT (R491): PERST# of a port asserts, which resets its HOST domain. -/
def execPerstAssert (p : Fin 2) (s : State) : Host.Outcome State Fault Refusal := .next (s.perstAssert p.val)

/-- HOT_RESET (R491): Hot Reset or Link Disable received on a port resets its HOST domain. -/
def execHotReset (p : Fin 2) (s : State) : Host.Outcome State Fault Refusal := .next (s.hotReset p.val)

/-- COLD_RESET (R494): A COLD reset asserts; outputs are quietened, DRAM_RESET_N falls and the count and cause
are written. -/
def execColdReset (src : Fin 14) (s : State) : Host.Outcome State Fault Refusal := .next (s.resetBy true src.val)

/-- WARM_RESET (R494): A WARM reset asserts; outputs are quietened, DRAM enters self-refresh and the count and
cause are written. -/
def execWarmReset (src : Fin 14) (s : State) : Host.Outcome State Fault Refusal := .next (s.resetBy false src.val)

/-- CHIP_RESET_RELEASE (R494): After at least 8,192 ticks with no source asserted, the reset is released into
LOAD or BOOT. -/
def execChipResetRelease (s : State) : Host.Outcome State Fault Refusal := .next (s.chipRelease)

/-- DOMAIN_RESET_REQUEST (R497): A write of DOMAIN_REQ.GO requests a DOMAIN reset, judged within 96 ticks. -/
def execDomainResetRequest (r : Req) (d : BitVec 8) (s : State) : Host.Outcome State Fault Refusal :=
  .next (s.cmdWrite r (blockreqPage + 0x100) (BitVec.ofNat 32 (d.toNat * 256 + 1)))

/-- DOMAIN_RESET_RELEASE (R497): The 3,072-tick DOMAIN reset hold ends and the domain is released. -/
def execDomainResetRelease (d : BitVec 8) (s : State) : Host.Outcome State Fault Refusal :=
  .next (s.domHoldEnd d.toNat)

/-- BLOCK_RESET_DONE (R498): The BLOCK reset completes, the page reads its reset values and a RESET record is
written. -/
def execBlockResetDone (page : PageNo) (s : State) : Host.Outcome State Fault Refusal :=
  .next (s.blockRelease (pageBase page))

/-- OPTION_LOAD_DONE (R503): The loader finishes reading OTP and applies options, fuses and the pin map, or the
load fails. -/
def execOptionLoadDone (readErr : Bool) (s : State) : Host.Outcome State Fault Refusal := .next (s.loadDone readErr)

/-- OPTION_LOAD_RETRY (R504): 6,144 ticks after a failed load, a new load starts, or the third failure enters
RECOVERY. -/
def execOptionLoadRetry (s : State) : Host.Outcome State Fault Refusal := .next (s.loadRetry)

/-- BIST_DONE (R503): The built-in memory test ends and the tested banks are bulk-cleared. -/
def execBistDone (s : State) : Host.Outcome State Fault Refusal := .next (s.bistDone)

/-- RCV_GO (R506): A write of RCV_CTRL.GO in RECOVERY starts verification of the host-loaded image. -/
def execRcvGo (r : Req) (size : BitVec 16) (s : State) : Host.Outcome State Fault Refusal :=
  .next (s.cmdWrite r (otpPage + 0x114) (BitVec.ofNat 32 (0x80000000 + size.toNat)))

/-- RECOVERY_VERIFY_DONE (R506): The recovery image verification ends: the image runs, or RCV_STATE reads
refused. -/
def execRecoveryVerifyDone (ok : Bool) (s : State) : Host.Outcome State Fault Refusal := .next (s.rcvDone ok)

/-- PROGRAM (R507): A write of OTP_CMD.PROGRAM with the key programs one OTP word, or is refused. -/
def execProgram (r : Req) (s : State) : Host.Outcome State Fault Refusal :=
  .next (s.cmdWrite r (otpPage + 0x108) 0x4F540002)

/-- OTP_PROGRAM_DONE (R507): The program pulse ends and the read-back verifies the word or raises
OTP_WRITE_FAIL. -/
def execOtpProgramDone (fail : Word) (s : State) : Host.Outcome State Fault Refusal := .next (s.otpDone fail)

/-- READ (R509): A write of OTP_CMD.READ reads an OTP word into OTP_DATA. -/
def execRead (r : Req) (s : State) : Host.Outcome State Fault Refusal := .next (s.cmdWrite r (otpPage + 0x108) 1)

/-- CLEAR_FF (R516): A write of BK_CMD.CLEAR_FF invalidates the first-fault record. -/
def execClearFf (r : Req) (s : State) : Host.Outcome State Fault Refusal :=
  .next (s.cmdWrite r (backupPage + 0x100) 1)

/-- ALIVE_TOGGLE (R518): Every 307,200 ticks in RUN and STANDBY, ALIVE changes level. -/
def execAliveToggle (s : State) : Host.Outcome State Fault Refusal := .next (s.aliveToggle)

end Sys2Proof.Machine
end

