-- ==== Sys2Proof/Machine/Scan.lean ====
section
/-! DEFINITION. Commands: heads, layers, links, Tidepool regions and checks of rendered content. -/

namespace Sys2Proof.Machine

/-- COEF_DATA_WRITE (R117): A write of COEF_DATA stores a scaler coefficient, or is dropped for a bank in use,
and advances TAP. -/
def execCoefDataWrite (r : Req) (page : PageNo) (v : Word) (s : State) : Host.Outcome State Fault Refusal :=
  .next (s.writeOn .layer r (pageBase page) 0x194 v)

/-- COEF_DATA_READ (R117): A read of COEF_DATA returns a scaler coefficient and advances TAP. -/
def execCoefDataRead (r : Req) (page : PageNo) (s : State) : Host.Outcome State Fault Refusal :=
  .next (s.readOn .layer r (pageBase page) 0x194)

/-- LUT_DATA_WRITE (R128): A write of LUT_DATA stores an output LUT entry, or is dropped for a set in use, and
advances INDEX. -/
def execLutDataWrite (r : Req) (page : PageNo) (v : Word) (s : State) : Host.Outcome State Fault Refusal :=
  .next (s.writeOn .colour r (pageBase page) 0x144 v)

/-- LUT_DATA_READ (R128): A read of LUT_DATA returns an output LUT entry and advances INDEX. -/
def execLutDataRead (r : Req) (page : PageNo) (s : State) : Host.Outcome State Fault Refusal :=
  .next (s.readOn .colour r (pageBase page) 0x144)

/-- REFLEX_SET_REQ (R126): A write of REFLEX_CTL.SET_REQ requests that the layer's reflex state be set at the
next slack point. -/
def execReflexSetReq (r : Req) (page : PageNo) (s : State) : Host.Outcome State Fault Refusal :=
  .next (s.reflexReq r (pageBase page) 1)

/-- REFLEX_CLEAR_REQ (R126): A write of REFLEX_CTL.CLEAR_REQ requests that the layer's reflex state be cleared
at the next slack point. -/
def execReflexClearReq (r : Req) (page : PageNo) (s : State) : Host.Outcome State Fault Refusal :=
  .next (s.reflexReq r (pageBase page) 2)

/-- HEAD_START (R149): An accepted head enable starts the raster at its start tick with a slack point and
FRAME_SEQ = 1. -/
def execHeadStart (h : Fin 8) (s : State) : Host.Outcome State Fault Refusal := .next ((s.headBegins h.val).latSend)

/-- SLACK_POINT (R151): At a head's slack point it updates SLACK_TS and FRAME_SEQ, arbitrates commits, updates
reflex, hold and coverage, releases buffers and writes records. -/
def execSlackPoint (h : Fin 8) (s : State) : Host.Outcome State Fault Refusal := .next ((s.slackPoint h.val).latSend)

/-- HOLD_CMD_CAPTURE (R164): A write of HOLD_CMD.CAPTURE commands capture of the frame after the next slack
point. -/
def execHoldCmdCapture (r : Req) (h : Fin 8) (s : State) : Host.Outcome State Fault Refusal :=
  .next (s.cmdWrite r (headPage h.val + 0x12C) 1)

/-- HOLD_CMD_EXIT (R165): A write of HOLD_CMD.EXIT makes the head leave hold at the next slack point. -/
def execHoldCmdExit (r : Req) (h : Fin 8) (s : State) : Host.Outcome State Fault Refusal :=
  .next (s.cmdWrite r (headPage h.val + 0x12C) 2)

/-- LINE_SLOT_START (R153): At the first tick of a line slot the head tests layers for underrun, composes a
line, reports latency tolerance and completes region results. -/
def execLineSlotStart (h : Fin 8) (full : BitVec 2) (fifo : BitVec 16)
    (s : State) : Host.Outcome State Fault Refusal :=
  .next (((s.lineSlot h.val (fun i => bit full.toNat i) (fun k => bit fifo.toNat k)).tmbIssue h.val).latSend)

/-- LAYER_FETCH_RESPONSE (R153): A layer fetch response returns data, or an error that puts the layer into
fallback or stops writeback for display-only data. -/
def execLayerFetchResponse (h : Fin 8) (l : Fin 12) (plane : Fin 3) (line : Nat) (gran : Nat)
    (s : State) : Host.Outcome State Fault Refusal :=
  .next (s.layerFetch h.val l.val plane.val line gran)

/-- BUFFER_RELEASE (R156): A replaced layer buffer is released after its last fetch response, with a release
record and the RELEASED bit. -/
def execBufferRelease (h : Fin 8) (l : Fin 12) (s : State) : Host.Outcome State Fault Refusal :=
  .next (s.releaseDue h.val l.val s.now (s.get (headPage h.val) F.HEAD.FRAME_SEQ))

/-- DPHY_CLOCK_LOSS (R147): DPHY_CLK_OK falls while a link is in HS, so the link enters stop state and raises
DSI_LINK_ERROR. -/
def execDphyClockLoss (lasts : Nat) (s : State) : Host.Outcome State Fault Refusal := .next (s.dphyLoss lasts)

/-- ULPS_WAKEUP_END (R167): A link that left ULPS ends its Mark-1 hold of WAKEUP and its head on a hold frame
restarts its raster with a slack point. -/
def execUlpsWakeupEnd (k : Fin 16) (s : State) : Host.Outcome State Fault Refusal := .next (s.wakeupEnd k.val)

/-- TIDEPOOL_REGION_CLEAR_DONE (R162): The clear of a freed Tidepool region's granules ends and its CLEAR_BUSY
bit clears. -/
def execTidepoolRegionClearDone (region : Fin 32) (s : State) : Host.Outcome State Fault Refusal :=
  .next (s.regionCleared region.val)

/-- CVU_FEED_START (R183): A write of FEED_CTRL.START opens a fed stream, aborting an open one. -/
def execCvuFeedStart (r : Req) (n : Fin 16) (s : State) : Host.Outcome State Fault Refusal :=
  .next (s.cvuFeed r n.val 1)

/-- CVU_FEED_DATA (R183): A write of FEED_DATA feeds bytes into the open stream, or is dropped when no stream is
open. -/
def execCvuFeedData (r : Req) (n : Fin 16) (v : Word) (s : State) : Host.Outcome State Fault Refusal :=
  .next (s.cmdWrite r (cvuPage n.val + 0x134) v)

/-- CVU_FEED_END (R184): A write of FEED_CTRL.END finishes the fed stream, writes the result, compares it and
increments FEED_SEQ. -/
def execCvuFeedEnd (r : Req) (n : Fin 16) (s : State) : Host.Outcome State Fault Refusal :=
  .next (s.cvuFeed r n.val 2)

end Sys2Proof.Machine
end

