-- ==== Sys2Proof/Machine/SecCmds.lean ====
section
/-! DEFINITION. Commands: the secure world, ownership, Coves, mailboxes and the service cores. -/

namespace Sys2Proof.Machine

/-- CTX_WRITE (R433): The secure world writes a service core's context and tag. -/
def execCtxWrite (r : Req) (c : Fin 3) (v : Word) (s : State) : Host.Outcome State Fault Refusal :=
  .next (s.cmdWrite r (worldsPage + 0x100 + 4 * c.val) v)

/-- POT_WRITE (R440): A write of POT_CMD.WRITE starts changing a range of ownership-table entries, or is
refused. -/
def execPotWrite (r : Req) (s : State) : Host.Outcome State Fault Refusal := .next (s.cmdWrite r (potPage + 0x114) 1)

/-- POT_WRITE_DONE (R441): The entries are written and cached copies replaced, waiting requests are judged and
OWNERSHIP_CHANGE records are written. -/
def execPotWriteDone (s : State) : Host.Outcome State Fault Refusal := .next (s.potDone)

/-- POT_READ (R441): A write of POT_CMD.READ returns an ownership-table entry in POT_READ_VALUE. -/
def execPotRead (r : Req) (s : State) : Host.Outcome State Fault Refusal := .next (s.cmdWrite r (potPage + 0x114) 2)

/-- BUILD (R446): COVE_CMD BUILD takes a Cove from FREE to BUILDING. -/
def execBuild (r : Req) (n : Fin 64) (s : State) : Host.Outcome State Fault Refusal := .next (s.coveCmd r 1 n.val)

/-- SEAL (R446): COVE_CMD SEAL takes a Cove from BUILDING to SEALED. -/
def execSeal (r : Req) (n : Fin 64) (s : State) : Host.Outcome State Fault Refusal := .next (s.coveCmd r 2 n.val)

/-- DESTROY (R446): COVE_CMD DESTROY takes a Cove to CLEARING and starts clearing its ranges. -/
def execDestroy (r : Req) (n : Fin 64) (s : State) : Host.Outcome State Fault Refusal := .next (s.coveCmd r 3 n.val)

/-- COVE_CLEAR_DONE (R447): The Cove's ranges are cleared, become invalid and the Cove becomes FREE. -/
def execCoveClearDone (n : Fin 64) (s : State) : Host.Outcome State Fault Refusal := .next (s.coveCleared n.val)

/-- EXTEND (R449): A write of EXTEND_CMD extends a measurement register with SHA-384, or is refused. -/
def execExtend (r : Req) (t : BitVec 7) (s : State) : Host.Outcome State Fault Refusal :=
  .next (s.cmdWrite r (measPage + 0x470) (BitVec.ofNat 32 (0x80000000 + t.toNat)))

/-- MAILBOX_POST (R455): The channel owner writes POST; BUSY sets, the post is stamped and the secure line is
asserted. -/
def execMailboxPost (r : Req) (k : Fin 4) (s : State) : Host.Outcome State Fault Refusal :=
  .next (s.cmdWrite r (mboxPage + 0x184 + 0x100 * k.val) 1)

/-- MAILBOX_DONE (R455): The secure world writes DONE; BUSY clears and a MAILBOX_DONE record is written. -/
def execMailboxDone (r : Req) (k : Fin 4) (s : State) : Host.Outcome State Fault Refusal :=
  .next (s.cmdWrite r (mboxPage + 0x184 + 0x100 * k.val) 2)

/-- SECURE_RESTART (R458): A watchdog, double trap, RESTART write or lockstep reaction restarts the secure side.
-/
def execSecureRestart (c : SecureCause) (s : State) : Host.Outcome State Fault Refusal := .next (s.secRestart c)

/-- SECURE_RESTART_RESUME (R459): The secure world resumes; stalled cores trap, busy mailboxes are answered and
a SECURE_RESTART record is written. -/
def execSecureRestartResume (digest : BitVec 384) (s : State) : Host.Outcome State Fault Refusal :=
  .next (s.restartResume digest)

/-- WATCHDOG_KICK (R462): A core writes 0x4B49 to its WD_KICK and restarts its watchdog. -/
def execWatchdogKick (r : Req) (c : Fin 4) (v : Word) (s : State) : Host.Outcome State Fault Refusal :=
  .next (s.cmdWrite r (wdogPage + 0x104 + 8 * c.val) v)

/-- WATCHDOG_EXPIRY (R462): A watchdog expires and raises WATCHDOG[c]. -/
def execWatchdogExpiry (c : Fin 4) (s : State) : Host.Outcome State Fault Refusal := .next (s.wdExpiry c.val)

/-- CORE_RUN (R463): A write of CORE_CTRL.RUN = 1 releases a service core at BOOT_ADDR. -/
def execCoreRun (r : Req) (c : Fin 4) (s : State) : Host.Outcome State Fault Refusal :=
  .next (s.cmdWrite r (corePage c.val + 0x100) 1)

/-- CORE_HALT (R463): A write of CORE_CTRL.RUN = 0 holds a service core in reset. -/
def execCoreHalt (r : Req) (c : Fin 4) (s : State) : Host.Outcome State Fault Refusal :=
  .next (s.cmdWrite r (corePage c.val + 0x100) 0)

/-- MACHINE_TIMER (R463): Thyme reaches MTIMECMP and the core's machine-timer interrupt becomes pending. -/
def execMachineTimer (c : Fin 4) (s : State) : Host.Outcome State Fault Refusal := .next (s.machineTimer c.val)

end Sys2Proof.Machine
end

