-- ==== Sys2Proof/Machine/TmbCmds.lean ====
section
/-! DEFINITION. Commands: the Tombolo ring. -/

namespace Sys2Proof.Machine

/-- TMB_PORT_RESTART (R526): A Tombolo port restart trains lanes, sends HELLO and negotiates. -/
def execTmbPortRestart (p : Fin 2) (s : State) : Host.Outcome State Fault Refusal := .next (s.restartDue p.val)

/-- TMB_RESTART_CMD (R543): A write of PORT_CMD.RESTART restarts the Tombolo port. -/
def execTmbRestartCmd (r : Req) (p : Fin 2) (s : State) : Host.Outcome State Fault Refusal :=
  .next (s.cmdWrite r (tportPage p.val + 0x1A0) 1)

/-- TMB_RESTART_TIMEOUT (R526): Block lock or UP is not reached in time, so the restart fails with DOWN_CAUSE 1.
-/
def execTmbRestartTimeout (p : Fin 2) (s : State) : Host.Outcome State Fault Refusal := .next (s.restartLate p.val)

/-- TMB_RESTART_RETRY (R526): 6,144,000 ticks after DOWN with AUTO_RESTART or after a failure, the port
restarts. -/
def execTmbRestartRetry (p : Fin 2) (s : State) : Host.Outcome State Fault Refusal := .next (s.tmbRetry p.val)

/-- TMB_BLOCK_LOCK (R526): The receiver of a training Tombolo port gains block lock and deskew on all four
lanes, and the port moves from TRAINING to NEGOTIATING and starts sending HELLO. -/
def execTmbBlockLock (p : Fin 2) (s : State) : Host.Outcome State Fault Refusal := .next (s.blockLock p.val)

/-- TMB_FLIT_SLOT (R529): Each 65-tick slot the port sends the highest-priority flit, or IDLE. -/
def execTmbFlitSlot (p : Fin 2) (s : State) : Host.Outcome State Fault Refusal := .next (s.flitSlot p.val)

/-- TMB_CHECK_FAIL (R529): A received flit fails its check; TOMBOLO_CHECK is raised and a NAK is sent. -/
def execTmbCheckFail (p : Fin 2) (s : State) : Host.Outcome State Fault Refusal := .next (s.checkFail p.val)

/-- IDLE (R528): An IDLE flit is received and keeps the link alive. -/
def execIdle (x : FlitHdr) (s : State) : Host.Outcome State Fault Refusal := .next (s.rxIdle (flitRx x))

/-- HELLO (R526): A HELLO flit is received and negotiated, making the port UP or DOWN. -/
def execHello (p : Fin 2) (min max : Byte) (feat : BitVec 16) (idx : Fin 4) (n : Fin 5) (master : Bool) (chosen : Byte)
    (s : State) : Host.Outcome State Fault Refusal :=
  .next (s.rxHello p.val min.toNat max.toNat feat.toNat idx.val n.val master chosen.toNat)

/-- TMB_TIME (R539): A TIME flit is received; the follower computes offset and delay, slews or steps Thyme and
answers with TIME_ECHO. -/
def execTmbTime (x : FlitHdr) (t1 t4 t3 : BitVec 64) (s : State) : Host.Outcome State Fault Refusal :=
  .next (s.rxTime (flitRx x) t1.toNat t4.toNat t3.toNat)

/-- TIME_ECHO (R539): A TIME_ECHO flit is received and stamped for the next TIME. -/
def execTimeEcho (x : FlitHdr) (t1 t3 : BitVec 64) (s : State) : Host.Outcome State Fault Refusal :=
  .next (s.rxEcho (flitRx x) t1.toNat t3.toNat)

/-- READ_REQ (R532): A READ_REQ flit is received and its entries are issued as remote layer fetches. -/
def execReadReq (x : FlitHdr) (tag : BitVec 16) (es : List ReadEntry)
    (s : State) : Host.Outcome State Fault Refusal :=
  .next (s.rxReadReq (flitRx x) tag.toNat (es.map rEntry))

/-- READ_DATA (R532): A READ_DATA flit is received and completes a remote read with data or an error. -/
def execReadData (x : FlitHdr) (tag : BitVec 16) (status : Byte) (n : Fin 4) (data : List Byte)
    (s : State) : Host.Outcome State Fault Refusal :=
  .next (s.rxReadData (flitRx x) tag.toNat status.toNat n.val data)

/-- WRITE (R536): A WRITE flit is received and writes mirrored data, or is refused and counted. -/
def execWrite (x : FlitHdr) (addr : BitVec 40) (pool : Bool) (data : List Byte)
    (s : State) : Host.Outcome State Fault Refusal :=
  .next (s.rxWrite (flitRx x) addr.toNat pool data)

/-- MAILBOX (R541): A MAILBOX flit is received into RX_k and RX_FULL sets. -/
def execMailbox (x : FlitHdr) (k : Fin 2) (ws : List Word) (s : State) : Host.Outcome State Fault Refusal :=
  .next (s.rxMail (flitRx x) k.val ws)

/-- MB_CREDIT (R541): An MB_CREDIT flit is received and restores the channel's CREDIT. -/
def execMbCredit (x : FlitHdr) (k : Fin 2) (s : State) : Host.Outcome State Fault Refusal :=
  .next (s.rxCredit (flitRx x) k.val)

/-- HEARTBEAT (R530): A HEARTBEAT flit is received and marks its device alive. -/
def execHeartbeat (x : FlitHdr) (mode flags : Byte) (thyme : BitVec 64)
    (s : State) : Host.Outcome State Fault Refusal :=
  .next (s.rxBeat (flitRx x) mode.toNat flags.toNat thyme.toNat)

/-- LAT (R535): A LAT flit is received and its deadline is reported to the DRAM controller. -/
def execLat (x : FlitHdr) (deadline : BitVec 64) (s : State) : Host.Outcome State Fault Refusal :=
  .next (s.rxLat (flitRx x) deadline.toNat)

/-- RESET (R540): A RESET flit from the master with the key asserts reset source 8; otherwise it is dropped. -/
def execReset (x : FlitHdr) (key : BitVec 16) (s : State) : Host.Outcome State Fault Refusal :=
  .next (s.rxReset (flitRx x) key.toNat)

/-- NAK (R529): A NAK flit is received and the sender replays from the named SEQ, or enters DOWN after 16. -/
def execNak (p : Fin 2) (ack seq : BitVec 16) (s : State) : Host.Outcome State Fault Refusal :=
  .next (s.rxNak ⟨p.val, 0, ack.toNat, 0, 0⟩ seq.toNat)

/-- TMB_LINK_SILENCE (R530): An UP port receives no good flit for 2,458 ticks and enters DOWN. -/
def execTmbLinkSilence (p : Fin 2) (s : State) : Host.Outcome State Fault Refusal := .next (s.silence p.val)

/-- HEARTBEAT_SEND (R530): Every HB_PERIOD ticks a HEARTBEAT is queued for each other device. -/
def execHeartbeatSend (s : State) : Host.Outcome State Fault Refusal := .next (s.beatSend)

/-- PEER_LOST (R530): No heartbeat from a device for HB_TIMEOUT periods declares it lost, with failover and PEER
records. -/
def execPeerLost (j : Fin 4) (s : State) : Host.Outcome State Fault Refusal := .next (s.beatTimeout j.val)

/-- REMOTE_READ_TIMEOUT (R532): A remote read has no answer within 61,440 ticks and the layer falls back with
cause 3. -/
def execRemoteReadTimeout (s : State) : Host.Outcome State Fault Refusal := .next (s.readTimeout)

/-- MIRROR_RESYNC_DONE (R537): A mirror's resend reaches the end of the range and the entry becomes LIVE. -/
def execMirrorResyncDone (m : Fin 4) (s : State) : Host.Outcome State Fault Refusal := .next (s.mirResync m.val)

/-- TIME_EXCHANGE_SEND (R539): Every EXCH_PERIOD ticks the upstream neighbour sends TIME. -/
def execTimeExchangeSend (p : Fin 2) (s : State) : Host.Outcome State Fault Refusal := .next (s.timeSend p.val)

/-- REMOTE_RESET_GO (R543): The master's secure world writes REMOTE_RESET.GO and a RESET flit is sent. -/
def execRemoteResetGo (r : Req) (v : Word) (s : State) : Host.Outcome State Fault Refusal :=
  .next (s.cmdWrite r (tmbPage + 0x108) v)

/-- TMB_MB_POST (R541): A write of MB_CMD.POST sends a MAILBOX flit when CREDIT allows. -/
def execTmbMbPost (r : Req) (k : Fin 2) (s : State) : Host.Outcome State Fault Refusal :=
  .next (s.cmdWrite r (tmbPage + 0x114 + 0x80 * k.val) 1)

/-- RX_DONE (R541): A write of MB_CMD.RX_DONE clears RX_FULL and returns a credit. -/
def execRxDone (r : Req) (k : Fin 2) (s : State) : Host.Outcome State Fault Refusal :=
  .next (s.cmdWrite r (tmbPage + 0x114 + 0x80 * k.val) 2)

end Sys2Proof.Machine
end

