-- ==== Sys2Proof/Machine/TouchCmds.lean ====
section
/-! DEFINITION. Commands: touch panels. -/

namespace Sys2Proof.Machine

/-- TOUCH_RESTART (R239): A touch link restart runs HELLO and CONFIG over five slots and negotiates, then starts
acquisition or enters DOWN. -/
def execTouchRestart (p : Fin 4) (rsps : List (List Byte)) (s : State) : Host.Outcome State Fault Refusal :=
  .next (s.restartRun p.val rsps)

/-- TOUCH_RESTART_RETRY (R239): 10 ms after a failed or lost link, the next touch restart starts. -/
def execTouchRestartRetry (p : Fin 4) (s : State) : Host.Outcome State Fault Refusal := .next (s.restartRetry p.val)

/-- TOUCH_PANEL_RESTART (R268): A write of PANEL_CMD.RESTART requests a restart at the panel's next apply point.
-/
def execTouchPanelRestart (r : Req) (p : Fin 4) (s : State) : Host.Outcome State Fault Refusal :=
  .next (s.cmdWrite r (panelPage p.val + 0x1A0) 1)

/-- TOUCH_REACQUIRE (R247): A write of PANEL_CMD.REACQUIRE requests acquisition at the next apply point. -/
def execTouchReacquire (r : Req) (p : Fin 4) (s : State) : Host.Outcome State Fault Refusal :=
  .next (s.cmdWrite r (panelPage p.val + 0x1A0) 2)

/-- TOUCH_DOZE_CMD (R259): A write of PANEL_CMD.DOZE makes the panel enter doze at its next frame. -/
def execTouchDozeCmd (r : Req) (p : Fin 4) (s : State) : Host.Outcome State Fault Refusal :=
  .next (s.cmdWrite r (panelPage p.val + 0x1A0) 4)

/-- TOUCH_SLOT (R232): A link slot starts a SPI transaction that sends one request and receives the response
packet. -/
def execTouchSlot (p : Fin 4) (rsp : List Byte) (s : State) : Host.Outcome State Fault Refusal :=
  .next (s.touchSlot p.val rsp)

/-- TOUCH_FRAME_START (R243): A scan or doze frame starts at its slot −1 tick; the frame grid advances and
pending commits apply. -/
def execTouchFrameStart (p : Fin 4) (s : State) : Host.Outcome State Fault Refusal := .next (s.frameStart p.val)

/-- TOUCH_FRAME_PROCESSED (R246): The engine finishes a frame's correlation, baseline, contact finding and
tracking, and writes its report and records. -/
def execTouchFrameProcessed (p : Fin 4) (s : State) : Host.Outcome State Fault Refusal :=
  .next (s.frameProcessed p.val)

/-- TOUCH_DOZE_KEEPALIVE (R260): In long doze intervals an IDLE transaction with SYNC = 1 is sent every
24,576,000 ticks. -/
def execTouchDozeKeepalive (p : Fin 4) (rsp : List Byte) (s : State) : Host.Outcome State Fault Refusal :=
  .next (s.keepalive p.val rsp)

end Sys2Proof.Machine
end

