-- ==== Sys2Proof/Machine/Dispatch.lean ====
section
/-! DEFINITION. One arm per command, each one call of its meaning. -/

namespace Sys2Proof.Machine

/-- What a command does to everything but the queue. -/
def exec (i : Instr) (s : State) : Host.Outcome State Fault Refusal :=
  match i with
  | .mainSupplyGood => Sys2Proof.Machine.execMainSupplyGood s
  | .vbakPresent => Sys2Proof.Machine.execVbakPresent s
  | .mainSupplyLoss => Sys2Proof.Machine.execMainSupplyLoss s
  | .vbakLoss => Sys2Proof.Machine.execVbakLoss s
  | .supplyUv supply => Sys2Proof.Machine.execSupplyUv supply s
  | .modeRequest r v => Sys2Proof.Machine.execModeRequest r v s
  | .modeRequestCheckDone => Sys2Proof.Machine.execModeRequestCheckDone s
  | .standbyEntryStepComplete => Sys2Proof.Machine.execStandbyEntryStepComplete s
  | .wakeEvent src => Sys2Proof.Machine.execWakeEvent src s
  | .standbyUndoStepComplete => Sys2Proof.Machine.execStandbyUndoStepComplete s
  | .responseDiscard rid => Sys2Proof.Machine.execResponseDiscard rid s
  | .pllLock => Sys2Proof.Machine.execPllLock s
  | .pllLockRetry => Sys2Proof.Machine.execPllLockRetry s
  | .rootLoss => Sys2Proof.Machine.execRootLoss s
  | .monOscLoss => Sys2Proof.Machine.execMonOscLoss s
  | .pllUnlock => Sys2Proof.Machine.execPllUnlock s
  | .releaseClockOk t => Sys2Proof.Machine.execReleaseClockOk t s
  | .releaseAbandoned t => Sys2Proof.Machine.execReleaseAbandoned t s
  | .domainGate r d => Sys2Proof.Machine.execDomainGate r d s
  | .domainUngate r d => Sys2Proof.Machine.execDomainUngate r d s
  | .gateCheckDone => Sys2Proof.Machine.execGateCheckDone s
  | .thymeLoRead r => Sys2Proof.Machine.execThymeLoRead r s
  | .loSnapshotRead src bytes => Sys2Proof.Machine.execLoSnapshotRead src bytes s
  | .slewTick => Sys2Proof.Machine.execSlewTick s
  | .periodBoundary page => Sys2Proof.Machine.execPeriodBoundary page s
  | .periodLatchUpdate page => Sys2Proof.Machine.execPeriodLatchUpdate page s
  | .accountingBoundary => Sys2Proof.Machine.execAccountingBoundary s
  | .syncInEdge rising => Sys2Proof.Machine.execSyncInEdge rising s
  | .syncOutRise => Sys2Proof.Machine.execSyncOutRise s
  | .syncOutFall => Sys2Proof.Machine.execSyncOutFall s
  | .registerWrite via addr v bytes => Sys2Proof.Machine.execRegisterWrite via addr v bytes s
  | .ownerWrite r page v => Sys2Proof.Machine.execOwnerWrite r page v s
  | .autoCommitWrite r page b => Sys2Proof.Machine.execAutoCommitWrite r page b s
  | .commitOnFenceWrite r page b => Sys2Proof.Machine.execCommitOnFenceWrite r page b s
  | .pageQuiesce r page b => Sys2Proof.Machine.execPageQuiesce r page b s
  | .enable r page => Sys2Proof.Machine.execEnable r page s
  | .disable r page => Sys2Proof.Machine.execDisable r page s
  | .commit r page => Sys2Proof.Machine.execCommit r page s
  | .enableCheckDone page => Sys2Proof.Machine.execEnableCheckDone page s
  | .commitCheckDone page => Sys2Proof.Machine.execCommitCheckDone page s
  | .disableDrainDone page => Sys2Proof.Machine.execDisableDrainDone page s
  | .intStatusClear r page v => Sys2Proof.Machine.execIntStatusClear r page v s
  | .intForce r page v => Sys2Proof.Machine.execIntForce r page v s
  | .irqDelivery line => Sys2Proof.Machine.execIrqDelivery line s
  | .msixUnmask port fn vec => Sys2Proof.Machine.execMsixUnmask port fn vec s
  | .irqRouteWrite r v => Sys2Proof.Machine.execIrqRouteWrite r v s
  | .irqRouteCheckDone => Sys2Proof.Machine.execIrqRouteCheckDone s
  | .coefDataWrite r page v => Sys2Proof.Machine.execCoefDataWrite r page v s
  | .coefDataRead r page => Sys2Proof.Machine.execCoefDataRead r page s
  | .lutDataWrite r page v => Sys2Proof.Machine.execLutDataWrite r page v s
  | .lutDataRead r page => Sys2Proof.Machine.execLutDataRead r page s
  | .reflexSetReq r page => Sys2Proof.Machine.execReflexSetReq r page s
  | .reflexClearReq r page => Sys2Proof.Machine.execReflexClearReq r page s
  | .headStart h => Sys2Proof.Machine.execHeadStart h s
  | .slackPoint h => Sys2Proof.Machine.execSlackPoint h s
  | .holdCmdCapture r h => Sys2Proof.Machine.execHoldCmdCapture r h s
  | .holdCmdExit r h => Sys2Proof.Machine.execHoldCmdExit r h s
  | .lineSlotStart h full fifo => Sys2Proof.Machine.execLineSlotStart h full fifo s
  | .layerFetchResponse h l plane line gran => Sys2Proof.Machine.execLayerFetchResponse h l plane line gran s
  | .bufferRelease h l => Sys2Proof.Machine.execBufferRelease h l s
  | .dphyClockLoss lasts => Sys2Proof.Machine.execDphyClockLoss lasts s
  | .tidepoolRegionClearDone region => Sys2Proof.Machine.execTidepoolRegionClearDone region s
  | .cvuFeedStart r n => Sys2Proof.Machine.execCvuFeedStart r n s
  | .cvuFeedData r n v => Sys2Proof.Machine.execCvuFeedData r n v s
  | .cvuFeedEnd r n => Sys2Proof.Machine.execCvuFeedEnd r n s
  | .jobDescriptorFetched job => Sys2Proof.Machine.execJobDescriptorFetched job s
  | .jobReady job => Sys2Proof.Machine.execJobReady job s
  | .coreDispatch => Sys2Proof.Machine.execCoreDispatch s
  | .drawValidate job prims => Sys2Proof.Machine.execDrawValidate job prims s
  | .binHeapExhausted job spill => Sys2Proof.Machine.execBinHeapExhausted job spill s
  | .tileResolve core px frags acts => Sys2Proof.Machine.execTileResolve core px frags acts s
  | .jobEnd job => Sys2Proof.Machine.execJobEnd job s
  | .coreHang core => Sys2Proof.Machine.execCoreHang core s
  | .l2FlushAll r => Sys2Proof.Machine.execL2FlushAll r s
  | .l2FlushDone => Sys2Proof.Machine.execL2FlushDone s
  | .deadlineEval job => Sys2Proof.Machine.execDeadlineEval job s
  | .preemptSaveDone core ctx => Sys2Proof.Machine.execPreemptSaveDone core ctx s
  | .preemptTimeout core => Sys2Proof.Machine.execPreemptTimeout core s
  | .deadlineMiss job => Sys2Proof.Machine.execDeadlineMiss job s
  | .costFlush r mask => Sys2Proof.Machine.execCostFlush r mask s
  | .costFlushAll r => Sys2Proof.Machine.execCostFlushAll r s
  | .touchRestart p rsps => Sys2Proof.Machine.execTouchRestart p rsps s
  | .touchRestartRetry p => Sys2Proof.Machine.execTouchRestartRetry p s
  | .touchPanelRestart r p => Sys2Proof.Machine.execTouchPanelRestart r p s
  | .touchReacquire r p => Sys2Proof.Machine.execTouchReacquire r p s
  | .touchDozeCmd r p => Sys2Proof.Machine.execTouchDozeCmd r p s
  | .touchSlot p rsp => Sys2Proof.Machine.execTouchSlot p rsp s
  | .touchFrameStart p => Sys2Proof.Machine.execTouchFrameStart p s
  | .touchFrameProcessed p => Sys2Proof.Machine.execTouchFrameProcessed p s
  | .touchDozeKeepalive p rsp => Sys2Proof.Machine.execTouchDozeKeepalive p rsp s
  | .hapticFrame p rx => Sys2Proof.Machine.execHapticFrame p rx s
  | .hapticPortRestart p rxs => Sys2Proof.Machine.execHapticPortRestart p rxs s
  | .hapticPortRestartCmd r p => Sys2Proof.Machine.execHapticPortRestartCmd r p s
  | .hapticRestartRetry p => Sys2Proof.Machine.execHapticRestartRetry p s
  | .effectLoad r => Sys2Proof.Machine.execEffectLoad r s
  | .effectLoadDone => Sys2Proof.Machine.execEffectLoadDone s
  | .effectFree r => Sys2Proof.Machine.execEffectFree r s
  | .hapticTriggerGo r c slot => Sys2Proof.Machine.execHapticTriggerGo r c slot s
  | .hapticTriggerStop r c => Sys2Proof.Machine.execHapticTriggerStop r c s
  | .hapFaultPin p low => Sys2Proof.Machine.execHapFaultPin p low s
  | .hapticFaultClear r c => Sys2Proof.Machine.execHapticFaultClear r c s
  | .reflexEvaluate => Sys2Proof.Machine.execReflexEvaluate s
  | .sampleBoundary errs => Sys2Proof.Machine.execSampleBoundary errs s
  | .audioBlockMarker => Sys2Proof.Machine.execAudioBlockMarker s
  | .audPortFrame p slots => Sys2Proof.Machine.execAudPortFrame p slots s
  | .audFsEdge p n slots => Sys2Proof.Machine.execAudFsEdge p n slots s
  | .audClockLoss p => Sys2Proof.Machine.execAudClockLoss p s
  | .bankLoad r => Sys2Proof.Machine.execBankLoad r s
  | .bankLoadDone => Sys2Proof.Machine.execBankLoadDone s
  | .bankInvalidate r => Sys2Proof.Machine.execBankInvalidate r s
  | .fadeTimeout => Sys2Proof.Machine.execFadeTimeout s
  | .playerPreloadDone p => Sys2Proof.Machine.execPlayerPreloadDone p s
  | .trigFire r line => Sys2Proof.Machine.execTrigFire r line s
  | .asrcCoefRead r => Sys2Proof.Machine.execAsrcCoefRead r s
  | .dramRequest rid tag stream addr write layer bytes data => Sys2Proof.Machine.execDramRequest rid tag stream addr write layer bytes data s
  | .dramReadData ch skip => Sys2Proof.Machine.execDramReadData ch skip s
  | .agePromotion ch => Sys2Proof.Machine.execAgePromotion ch s
  | .dramRefresh ch rank bank postpone => Sys2Proof.Machine.execDramRefresh ch rank bank postpone s
  | .mr4Read ch code => Sys2Proof.Machine.execMr4Read ch code s
  | .powerDownEntry ch rank => Sys2Proof.Machine.execPowerDownEntry ch rank s
  | .selfRefreshEntry ch => Sys2Proof.Machine.execSelfRefreshEntry ch s
  | .selfRefreshExit ch => Sys2Proof.Machine.execSelfRefreshExit ch s
  | .oscTracking ch => Sys2Proof.Machine.execOscTracking ch s
  | .dramTrainingDone ch fail => Sys2Proof.Machine.execDramTrainingDone ch fail s
  | .sweepGranuleDone q => Sys2Proof.Machine.execSweepGranuleDone q s
  | .dramCmdError ch serves again => Sys2Proof.Machine.execDramCmdError ch serves again s
  | .eccInject r v => Sys2Proof.Machine.execEccInject r v s
  | .conversionSweepDone => Sys2Proof.Machine.execConversionSweepDone s
  | .auditRoundStart => Sys2Proof.Machine.execAuditRoundStart s
  | .auditPassDone => Sys2Proof.Machine.execAuditPassDone s
  | .kScrubStep found => Sys2Proof.Machine.execKScrubStep found s
  | .dramScrubStep => Sys2Proof.Machine.execDramScrubStep s
  | .bulkClearDone bank => Sys2Proof.Machine.execBulkClearDone bank s
  | .bucketLeak b => Sys2Proof.Machine.execBucketLeak b s
  | .logPop r => Sys2Proof.Machine.execLogPop r s
  | .perstRelease p => Sys2Proof.Machine.execPerstRelease p s
  | .portReadyTimeout p => Sys2Proof.Machine.execPortReadyTimeout p s
  | .pcieConfigRequest p f c => Sys2Proof.Machine.execPcieConfigRequest p f c s
  | .pcieLinkDown p => Sys2Proof.Machine.execPcieLinkDown p s
  | .pcieAerEvent p k hdr => Sys2Proof.Machine.execPcieAerEvent p k hdr s
  | .doorbell p f ring wr => Sys2Proof.Machine.execDoorbell p f ring wr s
  | .journalRdWrite p f rd => Sys2Proof.Machine.execJournalRdWrite p f rd s
  | .bar4Access off write n data => Sys2Proof.Machine.execBar4Access off write n data s
  | .cplTimeout p c => Sys2Proof.Machine.execCplTimeout p c s
  | .functionLevelReset p f => Sys2Proof.Machine.execFunctionLevelReset p f s
  | .ringHeaderFetched ring data => Sys2Proof.Machine.execRingHeaderFetched ring data s
  | .ringDescriptorFetched ring data => Sys2Proof.Machine.execRingDescriptorFetched ring data s
  | .ringStopped ring => Sys2Proof.Machine.execRingStopped ring s
  | .nop ring => Sys2Proof.Machine.execNop ring s
  | .render ring => Sys2Proof.Machine.execRender ring s
  | .copy ring => Sys2Proof.Machine.execCopy ring s
  | .fenceSignal ring => Sys2Proof.Machine.execFenceSignal ring s
  | .fenceWait ring => Sys2Proof.Machine.execFenceWait ring s
  | .regs ring => Sys2Proof.Machine.execRegs ring s
  | .haptic ring => Sys2Proof.Machine.execHaptic ring s
  | .audioGain ring => Sys2Proof.Machine.execAudioGain ring s
  | .earcon ring => Sys2Proof.Machine.execEarcon ring s
  | .descriptorComplete ring => Sys2Proof.Machine.execDescriptorComplete ring s
  | .copyStart e => Sys2Proof.Machine.execCopyStart e s
  | .copyComplete e data => Sys2Proof.Machine.execCopyComplete e data s
  | .journalRecordWrite t => Sys2Proof.Machine.execJournalRecordWrite t s
  | .journalHoldoffEnd t => Sys2Proof.Machine.execJournalHoldoffEnd t s
  | .tenancyQuiesce r t => Sys2Proof.Machine.execTenancyQuiesce r t s
  | .tenancyQuiesceTimeout t done => Sys2Proof.Machine.execTenancyQuiesceTimeout t done s
  | .tenancyQuiesced t => Sys2Proof.Machine.execTenancyQuiesced t s
  | .tenancyResume r t => Sys2Proof.Machine.execTenancyResume r t s
  | .instanceReset r t => Sys2Proof.Machine.execInstanceReset r t s
  | .instanceResetDone t => Sys2Proof.Machine.execInstanceResetDone t s
  | .ctxWrite r c v => Sys2Proof.Machine.execCtxWrite r c v s
  | .potWrite r => Sys2Proof.Machine.execPotWrite r s
  | .potWriteDone => Sys2Proof.Machine.execPotWriteDone s
  | .potRead r => Sys2Proof.Machine.execPotRead r s
  | .build r n => Sys2Proof.Machine.execBuild r n s
  | .seal r n => Sys2Proof.Machine.execSeal r n s
  | .destroy r n => Sys2Proof.Machine.execDestroy r n s
  | .coveClearDone n => Sys2Proof.Machine.execCoveClearDone n s
  | .extend r t => Sys2Proof.Machine.execExtend r t s
  | .mailboxPost r k => Sys2Proof.Machine.execMailboxPost r k s
  | .mailboxDone r k => Sys2Proof.Machine.execMailboxDone r k s
  | .secureRestart c => Sys2Proof.Machine.execSecureRestart c s
  | .secureRestartResume digest => Sys2Proof.Machine.execSecureRestartResume digest s
  | .watchdogKick r c v => Sys2Proof.Machine.execWatchdogKick r c v s
  | .watchdogExpiry c => Sys2Proof.Machine.execWatchdogExpiry c s
  | .coreRun r c => Sys2Proof.Machine.execCoreRun r c s
  | .coreHalt r c => Sys2Proof.Machine.execCoreHalt r c s
  | .machineTimer c => Sys2Proof.Machine.execMachineTimer c s
  | .faultHit src arg acc r addr => Sys2Proof.Machine.execFaultHit src arg acc r addr s
  | .faultAccept => Sys2Proof.Machine.execFaultAccept s
  | .faultBlockResetRelease => Sys2Proof.Machine.execFaultBlockResetRelease s
  | .maskingWindowEnd => Sys2Proof.Machine.execMaskingWindowEnd s
  | .busTimeout d acc r addr => Sys2Proof.Machine.execBusTimeout d acc r addr s
  | .nmiAck r v => Sys2Proof.Machine.execNmiAck r v s
  | .release r => Sys2Proof.Machine.execRelease r s
  | .inject r v => Sys2Proof.Machine.execInject r v s
  | .selfInject r v => Sys2Proof.Machine.execSelfInject r v s
  | .collectorSelfFault word => Sys2Proof.Machine.execCollectorSelfFault word s
  | .safeEntry => Sys2Proof.Machine.execSafeEntry s
  | .safeTransitionDone => Sys2Proof.Machine.execSafeTransitionDone s
  | .slotClear r v => Sys2Proof.Machine.execSlotClear r v s
  | .resetNPin low => Sys2Proof.Machine.execResetNPin low s
  | .swResetWarm r => Sys2Proof.Machine.execSwResetWarm r s
  | .swResetCold r => Sys2Proof.Machine.execSwResetCold r s
  | .debugReset => Sys2Proof.Machine.execDebugReset s
  | .bootTimeout => Sys2Proof.Machine.execBootTimeout s
  | .perstAssert p => Sys2Proof.Machine.execPerstAssert p s
  | .hotReset p => Sys2Proof.Machine.execHotReset p s
  | .coldReset src => Sys2Proof.Machine.execColdReset src s
  | .warmReset src => Sys2Proof.Machine.execWarmReset src s
  | .chipResetRelease => Sys2Proof.Machine.execChipResetRelease s
  | .domainResetRequest r d => Sys2Proof.Machine.execDomainResetRequest r d s
  | .domainResetRelease d => Sys2Proof.Machine.execDomainResetRelease d s
  | .blockReset r page => Sys2Proof.Machine.execBlockReset r page s
  | .blockResetDone page => Sys2Proof.Machine.execBlockResetDone page s
  | .optionLoadDone readErr => Sys2Proof.Machine.execOptionLoadDone readErr s
  | .optionLoadRetry => Sys2Proof.Machine.execOptionLoadRetry s
  | .bistDone => Sys2Proof.Machine.execBistDone s
  | .rcvGo r size => Sys2Proof.Machine.execRcvGo r size s
  | .recoveryVerifyDone ok => Sys2Proof.Machine.execRecoveryVerifyDone ok s
  | .program r => Sys2Proof.Machine.execProgram r s
  | .otpProgramDone fail => Sys2Proof.Machine.execOtpProgramDone fail s
  | .read r => Sys2Proof.Machine.execRead r s
  | .clearFf r => Sys2Proof.Machine.execClearFf r s
  | .aliveToggle => Sys2Proof.Machine.execAliveToggle s
  | .tmbPortRestart p => Sys2Proof.Machine.execTmbPortRestart p s
  | .tmbRestartCmd r p => Sys2Proof.Machine.execTmbRestartCmd r p s
  | .tmbRestartTimeout p => Sys2Proof.Machine.execTmbRestartTimeout p s
  | .tmbRestartRetry p => Sys2Proof.Machine.execTmbRestartRetry p s
  | .tmbFlitSlot p => Sys2Proof.Machine.execTmbFlitSlot p s
  | .tmbCheckFail p => Sys2Proof.Machine.execTmbCheckFail p s
  | .idle x => Sys2Proof.Machine.execIdle x s
  | .hello p min max feat idx n master chosen => Sys2Proof.Machine.execHello p min max feat idx n master chosen s
  | .tmbTime x t1 t4 t3 => Sys2Proof.Machine.execTmbTime x t1 t4 t3 s
  | .timeEcho x t1 t3 => Sys2Proof.Machine.execTimeEcho x t1 t3 s
  | .readReq x tag es => Sys2Proof.Machine.execReadReq x tag es s
  | .readData x tag status n data => Sys2Proof.Machine.execReadData x tag status n data s
  | .write x addr pool data => Sys2Proof.Machine.execWrite x addr pool data s
  | .mailbox x k ws => Sys2Proof.Machine.execMailbox x k ws s
  | .mbCredit x k => Sys2Proof.Machine.execMbCredit x k s
  | .heartbeat x mode flags thyme => Sys2Proof.Machine.execHeartbeat x mode flags thyme s
  | .lat x deadline => Sys2Proof.Machine.execLat x deadline s
  | .reset x key => Sys2Proof.Machine.execReset x key s
  | .nak p ack seq => Sys2Proof.Machine.execNak p ack seq s
  | .tmbLinkSilence p => Sys2Proof.Machine.execTmbLinkSilence p s
  | .heartbeatSend => Sys2Proof.Machine.execHeartbeatSend s
  | .peerLost j => Sys2Proof.Machine.execPeerLost j s
  | .remoteReadTimeout => Sys2Proof.Machine.execRemoteReadTimeout s
  | .mirrorResyncDone m => Sys2Proof.Machine.execMirrorResyncDone m s
  | .timeExchangeSend p => Sys2Proof.Machine.execTimeExchangeSend p s
  | .remoteResetGo r v => Sys2Proof.Machine.execRemoteResetGo r v s
  | .tmbMbPost r k => Sys2Proof.Machine.execTmbMbPost r k s
  | .rxDone r k => Sys2Proof.Machine.execRxDone r k s
  | .wakePinEdge g rising => Sys2Proof.Machine.execWakePinEdge g rising s
  | .gpioSet r v => Sys2Proof.Machine.execGpioSet r v s
  | .gpioClr r v => Sys2Proof.Machine.execGpioClr r v s
  | .bcXfer r n v => Sys2Proof.Machine.execBcXfer r n v s
  | .entdaa n targets => Sys2Proof.Machine.execEntdaa n targets s
  | .bcTransferDone n res data => Sys2Proof.Machine.execBcTransferDone n res data s
  | .bcStretchTimeout n => Sys2Proof.Machine.execBcStretchTimeout n s
  | .bcIbi n addr mdb => Sys2Proof.Machine.execBcIbi n addr mdb s
  | .bcTxdata r n v => Sys2Proof.Machine.execBcTxdata r n v s
  | .bcRxdata r n => Sys2Proof.Machine.execBcRxdata r n s
  | .bcIbiPop r n => Sys2Proof.Machine.execBcIbiPop r n s
  | .xspiCmd r v => Sys2Proof.Machine.execXspiCmd r v s
  | .xspiCmdDone data => Sys2Proof.Machine.execXspiCmdDone data s
  | .dmaCmd r v => Sys2Proof.Machine.execDmaCmd r v s
  | .xspiDmaDone data => Sys2Proof.Machine.execXspiDmaDone data s
  | .xspiTxdata r v => Sys2Proof.Machine.execXspiTxdata r v s
  | .xspiRxdata r => Sys2Proof.Machine.execXspiRxdata r s
  | .extest tdi => Sys2Proof.Machine.execExtest tdi s
  | .idcode => Sys2Proof.Machine.execIdcode s
  | .samplePreload tdi => Sys2Proof.Machine.execSamplePreload tdi s
  | .debug => Sys2Proof.Machine.execDebug s
  | .bypass => Sys2Proof.Machine.execBypass s
  | .thermalSample t0 t1 t2 t3 => Sys2Proof.Machine.execThermalSample t0 t1 t2 t3 s
  | .tmbBlockLock p => Sys2Proof.Machine.execTmbBlockLock p s
  | .workgroupRetired w => Sys2Proof.Machine.execWorkgroupRetired w s
  | .passBinned job => Sys2Proof.Machine.execPassBinned job s
  | .pageQuiesceDone page => Sys2Proof.Machine.execPageQuiesceDone page s
  | .ulpsWakeupEnd k => Sys2Proof.Machine.execUlpsWakeupEnd k s
  | .pcieLinkUp p width speed => Sys2Proof.Machine.execPcieLinkUp p width speed s

end Sys2Proof.Machine
end

