-- ==== Sys2Proof/Safety.lean ====
section
/-! DEFINITION. What counts as a well-formed state: the tables and memories in their one canonical form. -/

namespace Sys2Proof.Machine

/-- The canonical form of the state: the register map lists exactly the registers that do not hold their reset value,
and each memory lists exactly the bytes and check words that are not 0, all by rising address.  Equal
contents are then equal data. -/
def State.Wf (s : State) : Prop :=
  amWf (rstWord s.die) s.regs = true ∧ amWf (fun _ => (0 : Byte)) s.dram = true
    ∧ amWf (fun _ => (0 : Byte)) s.pool = true
    ∧ amWf (fun _ => (0 : BitVec 9)) s.poolChk = true ∧ amWf (fun _ => (0 : Byte)) s.host = true

/-- An access reaches register a (R11, R17, R40, R434, R484, R497): the fabric is up, the mode is not SAFE, the
requester exists, the page is present, its domain is not held in reset, and its block is not stuck in reset. -/
structure State.Reaches (s : State) (r : Req) (a : Nat) : Prop where
  up : s.powered = true
  safe : s.mode ≠ .safe
  real : s.reqReal r = true
  here : s.present (pageOf a) = true
  run : s.domReset (domOf a) = none
  free : (s.ctl (pageOf a)).stuck = false

/-- A read of the register at a is granted (R11, R40, R73): the fabric is up, the requester exists, the page is present and
may be read by the requester, and its domain is not held in reset. -/
structure State.MayRead (s : State) (r : Req) (a : Nat) (i : PInfo) : Prop where
  up : s.powered = true
  real : s.reqReal r = true
  info : pinfoAt a = some i
  here : s.present (pageOf a) = true
  may : s.mayRead r i (pageOf a) = true
  run : s.domReset (domOf a) = none

/-- The owner's access reaches register a (R72, R73). -/
structure State.MayWrite (s : State) (r : Req) (a : Nat) : Prop extends s.Reaches r a where
  owner : r.tag.toNat = s.owner (pageOf a)
  tag : r.tag ≠ 0

/-- The word of `CTRL` in force, its writable bits as they stand, with bit i as given. -/
def State.ctrlAs (s : State) (base i : Nat) (b : Bool) : Word :=
  let old := BitVec.ofNat 32 (s.ctrlWord base) &&& 0x35#32
  if b then old ||| 1#32 <<< i else old &&& ~~~(1#32 <<< i)

/-- Every byte of DRAM, of the Tidepool and of host memory is the same in both states, with its check bits. -/
def State.SameMem (s t : State) : Prop :=
  t.dram = s.dram ∧ t.pool = s.pool ∧ t.poolChk = s.poolChk ∧ t.host = s.host

/-- The commands that store no byte in DRAM, the Tidepool or host memory, whatever their operands and the state. -/
def storesNothing : Instr → Bool
  | .mainSupplyGood .. => false
  | .vbakPresent .. => true
  | .mainSupplyLoss .. => false
  | .vbakLoss .. => true
  | .supplyUv .. => true
  | .modeRequest .. => false
  | .modeRequestCheckDone .. => true
  | .standbyEntryStepComplete .. => false
  | .wakeEvent .. => true
  | .standbyUndoStepComplete .. => false
  | .responseDiscard .. => true
  | .pllLock .. => true
  | .pllLockRetry .. => true
  | .rootLoss .. => false
  | .monOscLoss .. => true
  | .pllUnlock .. => true
  | .releaseClockOk .. => true
  | .releaseAbandoned .. => true
  | .domainGate .. => false
  | .domainUngate .. => false
  | .gateCheckDone .. => true
  | .thymeLoRead .. => true
  | .loSnapshotRead .. => true
  | .slewTick .. => true
  | .periodBoundary .. => true
  | .periodLatchUpdate .. => true
  | .accountingBoundary .. => false
  | .syncInEdge .. => true
  | .syncOutRise .. => true
  | .syncOutFall .. => true
  | .registerWrite .. => false
  | .ownerWrite .. => false
  | .autoCommitWrite .. => false
  | .commitOnFenceWrite .. => false
  | .pageQuiesce .. => false
  | .enable .. => false
  | .disable .. => false
  | .commit .. => false
  | .enableCheckDone .. => false
  | .commitCheckDone .. => false
  | .disableDrainDone .. => true
  | .intStatusClear .. => false
  | .intForce .. => false
  | .irqDelivery .. => true
  | .msixUnmask .. => true
  | .irqRouteWrite .. => false
  | .irqRouteCheckDone .. => true
  | .coefDataWrite .. => false
  | .coefDataRead .. => true
  | .lutDataWrite .. => false
  | .lutDataRead .. => true
  | .reflexSetReq .. => false
  | .reflexClearReq .. => false
  | .headStart .. => false
  | .slackPoint .. => false
  | .holdCmdCapture .. => false
  | .holdCmdExit .. => false
  | .lineSlotStart .. => false
  | .layerFetchResponse .. => true
  | .bufferRelease .. => true
  | .dphyClockLoss .. => true
  | .tidepoolRegionClearDone .. => false
  | .cvuFeedStart .. => false
  | .cvuFeedData .. => false
  | .cvuFeedEnd .. => false
  | .jobDescriptorFetched .. => false
  | .jobReady .. => false
  | .coreDispatch .. => false
  | .drawValidate .. => false
  | .binHeapExhausted .. => false
  | .tileResolve .. => false
  | .jobEnd .. => false
  | .coreHang .. => false
  | .l2FlushAll .. => false
  | .l2FlushDone .. => false
  | .deadlineEval .. => true
  | .preemptSaveDone .. => false
  | .preemptTimeout .. => true
  | .deadlineMiss .. => true
  | .costFlush .. => false
  | .costFlushAll .. => false
  | .touchRestart .. => false
  | .touchRestartRetry .. => true
  | .touchPanelRestart .. => false
  | .touchReacquire .. => false
  | .touchDozeCmd .. => false
  | .touchSlot .. => false
  | .touchFrameStart .. => false
  | .touchFrameProcessed .. => false
  | .touchDozeKeepalive .. => true
  | .hapticFrame .. => true
  | .hapticPortRestart .. => true
  | .hapticPortRestartCmd .. => false
  | .hapticRestartRetry .. => true
  | .effectLoad .. => false
  | .effectLoadDone .. => true
  | .effectFree .. => false
  | .hapticTriggerGo .. => false
  | .hapticTriggerStop .. => false
  | .hapFaultPin .. => true
  | .hapticFaultClear .. => false
  | .reflexEvaluate .. => true
  | .sampleBoundary .. => false
  | .audioBlockMarker .. => false
  | .audPortFrame .. => true
  | .audFsEdge .. => true
  | .audClockLoss .. => true
  | .bankLoad .. => false
  | .bankLoadDone .. => true
  | .bankInvalidate .. => false
  | .fadeTimeout .. => false
  | .playerPreloadDone .. => true
  | .trigFire .. => false
  | .asrcCoefRead .. => true
  | .dramRequest .. => false
  | .dramReadData .. => false
  | .agePromotion .. => true
  | .dramRefresh .. => true
  | .mr4Read .. => true
  | .powerDownEntry .. => true
  | .selfRefreshEntry .. => true
  | .selfRefreshExit .. => true
  | .oscTracking .. => true
  | .dramTrainingDone .. => true
  | .sweepGranuleDone .. => false
  | .dramCmdError .. => false
  | .eccInject .. => false
  | .conversionSweepDone .. => false
  | .auditRoundStart .. => true
  | .auditPassDone .. => false
  | .kScrubStep .. => true
  | .dramScrubStep .. => false
  | .bulkClearDone .. => true
  | .bucketLeak .. => true
  | .logPop .. => false
  | .perstRelease .. => true
  | .portReadyTimeout .. => false
  | .pcieConfigRequest .. => true
  | .pcieLinkDown .. => false
  | .pcieAerEvent .. => true
  | .doorbell .. => true
  | .journalRdWrite .. => true
  | .bar4Access .. => false
  | .cplTimeout .. => false
  | .functionLevelReset .. => false
  | .ringHeaderFetched .. => true
  | .ringDescriptorFetched .. => true
  | .ringStopped .. => true
  | .nop .. => true
  | .render .. => true
  | .copy .. => true
  | .fenceSignal .. => false
  | .fenceWait .. => true
  | .regs .. => false
  | .haptic .. => true
  | .audioGain .. => true
  | .earcon .. => true
  | .descriptorComplete .. => true
  | .copyStart .. => true
  | .copyComplete .. => false
  | .journalRecordWrite .. => false
  | .journalHoldoffEnd .. => true
  | .tenancyQuiesce .. => false
  | .tenancyQuiesceTimeout .. => false
  | .tenancyQuiesced .. => false
  | .tenancyResume .. => false
  | .instanceReset .. => false
  | .instanceResetDone .. => true
  | .ctxWrite .. => false
  | .potWrite .. => false
  | .potWriteDone .. => false
  | .potRead .. => false
  | .build .. => false
  | .seal .. => false
  | .destroy .. => false
  | .coveClearDone .. => false
  | .extend .. => false
  | .mailboxPost .. => false
  | .mailboxDone .. => false
  | .secureRestart .. => false
  | .secureRestartResume .. => true
  | .watchdogKick .. => false
  | .watchdogExpiry .. => true
  | .coreRun .. => false
  | .coreHalt .. => false
  | .machineTimer .. => true
  | .faultHit .. => true
  | .faultAccept .. => false
  | .faultBlockResetRelease .. => true
  | .maskingWindowEnd .. => true
  | .busTimeout .. => true
  | .nmiAck .. => false
  | .release .. => false
  | .inject .. => false
  | .selfInject .. => false
  | .collectorSelfFault .. => true
  | .safeEntry .. => true
  | .safeTransitionDone .. => true
  | .slotClear .. => false
  | .resetNPin .. => false
  | .swResetWarm .. => false
  | .swResetCold .. => false
  | .debugReset .. => false
  | .bootTimeout .. => false
  | .perstAssert .. => false
  | .hotReset .. => false
  | .coldReset .. => false
  | .warmReset .. => false
  | .chipResetRelease .. => true
  | .domainResetRequest .. => false
  | .domainResetRelease .. => true
  | .blockReset .. => false
  | .blockResetDone .. => true
  | .optionLoadDone .. => true
  | .optionLoadRetry .. => true
  | .bistDone .. => false
  | .rcvGo .. => false
  | .recoveryVerifyDone .. => true
  | .program .. => false
  | .otpProgramDone .. => true
  | .read .. => false
  | .clearFf .. => false
  | .aliveToggle .. => true
  | .tmbPortRestart .. => true
  | .tmbRestartCmd .. => false
  | .tmbRestartTimeout .. => true
  | .tmbRestartRetry .. => true
  | .tmbFlitSlot .. => true
  | .tmbCheckFail .. => true
  | .idle .. => true
  | .hello .. => true
  | .tmbTime .. => false
  | .timeEcho .. => true
  | .readReq .. => true
  | .readData .. => true
  | .write .. => false
  | .mailbox .. => true
  | .mbCredit .. => true
  | .heartbeat .. => true
  | .lat .. => true
  | .reset .. => false
  | .nak .. => true
  | .tmbLinkSilence .. => true
  | .heartbeatSend .. => true
  | .peerLost .. => true
  | .remoteReadTimeout .. => true
  | .mirrorResyncDone .. => true
  | .timeExchangeSend .. => true
  | .remoteResetGo .. => false
  | .tmbMbPost .. => false
  | .rxDone .. => false
  | .wakePinEdge .. => true
  | .gpioSet .. => false
  | .gpioClr .. => false
  | .bcXfer .. => false
  | .entdaa .. => true
  | .bcTransferDone .. => true
  | .bcStretchTimeout .. => true
  | .bcIbi .. => true
  | .bcTxdata .. => false
  | .bcRxdata .. => true
  | .bcIbiPop .. => true
  | .xspiCmd .. => false
  | .xspiCmdDone .. => true
  | .dmaCmd .. => false
  | .xspiDmaDone .. => false
  | .xspiTxdata .. => false
  | .xspiRxdata .. => true
  | .extest .. => true
  | .idcode .. => true
  | .samplePreload .. => true
  | .debug .. => true
  | .bypass .. => true
  | .thermalSample .. => true
  | .tmbBlockLock .. => true
  | .workgroupRetired .. => false
  | .passBinned .. => true
  | .pageQuiesceDone .. => false
  | .ulpsWakeupEnd .. => false
  | .pcieLinkUp .. => true

end Sys2Proof.Machine
end

