-- ==== Sys2Proof/Certificates/Slice0/Obligations.lean ====
section
/-! DEFINITION. The statements for the provers. -/

open Sys2Proof Sys2Proof.Machine

/-! The step -/

/-- A step runs the command at the front of the queue: `exec` of it on the state with the rest of the queue. -/
def Obligations.StepRunsFront : Prop :=
  ∀ (s : State) (c : Instr) (rest : List Instr), s.pending = c :: rest → step s = exec c { s with pending := rest }

/-! Rules stated word for word -/

/-- A source with `ENABLE` = 0 counts its hits and sets `RAISED`, and never becomes pending: nothing of the collector changes,
so it is never captured and takes no reaction; a hit of a reserved source changes nothing (R470). -/
def Obligations.DisabledSources : Prop :=
  (∀ (s : State) (src : Fin 383) (arg : BitVec 16) (acc : Fin 5) (r : Req) (addr : BitVec 40), s.Wf →
    srcPresent s.part src.val = true → s.mode ≠ .off → s.mode ≠ .backup → bit (s.srcCfg src.val) 5 = false →
    ∃ t, exec (.faultHit src arg acc r addr) s = .next t
      ∧ t.get (srcBank src.val) (F.FBANK.SRC_COUNT_HITS.at (src.val % 48))
        = sat (ones (F.FBANK.SRC_COUNT_HITS.at (src.val % 48)).width)
          (s.get (srcBank src.val) (F.FBANK.SRC_COUNT_HITS.at (src.val % 48)) + 1)
      ∧ (t.rd (srcBank src.val + (if src.val % 48 < 32 then 0x200 else 0x204))).getLsbD (src.val % 48 % 32) = true
      ∧ t.srcPending src.val = s.srcPending src.val ∧ t.flt = s.flt)
  ∧ (∀ (s : State) (src : Fin 383) (arg : BitVec 16) (acc : Fin 5) (r : Req) (addr : BitVec 40), srcInfo src.val = none →
    exec (.faultHit src arg acc r addr) s = .next s)

/-- With `IN_EN` = 1, each selected edge on `SYNC_IN` writes its stamp, increments `SYNC_IN_COUNT` and sets `INT_STATUS` bit 0;
an edge within 64 ticks of the previous one is counted and not stamped (R60).  The stamp is the edge's tick.
That the page of the block is enabled as well is the model's own reading (log 220). -/
def Obligations.SyncInEdges : Prop :=
  ∀ (s : State) (g : Nat) (up : Bool), s.syncPad = some g → (s.padExt g up).enabled bsyncPage = true →
    (s.padExt g up).flag bsyncPage F.BSYNC.SYNC_CTRL_IN_EN = true →
    (s.padExt g up).flag bsyncPage F.BSYNC.SYNC_CTRL_IN_EDGE = !up →
    (∀ k, s.pad.sync.lastIn = some k → s.now < k + 64 → exec (.syncInEdge up) s = .next
      ((((s.padExt g up).inc bsyncPage F.BSYNC.SYNC_IN_COUNT).modSync (fun x => { x with lastIn := some s.now })).intBit
        bsyncPage 0))
    ∧ ((∀ k, s.pad.sync.lastIn = some k → k + 64 ≤ s.now) → exec (.syncInEdge up) s = .next
      (((((s.padExt g up).inc bsyncPage F.BSYNC.SYNC_IN_COUNT).modSync (fun x => { x with lastIn := some s.now })).put64
        bsyncPage F.BSYNC.SYNC_IN_TS_LO s.now).intBit bsyncPage 0))
/-! Supplies, modes, clocks and time -/

/-- The supplies move the device between OFF, BACKUP and LOAD (R20). -/
def Obligations.SuppliesMoveTheMode : Prop :=
  (∀ s : State, s.mode = .off ∨ s.mode = .backup → ∃ t, exec .mainSupplyGood s = .next t ∧ t.mode = .load
    ∧ t.power = ⟨true, s.power.vbak⟩ ∧ t.rst.chip = some (.cold, 0) ∧ t.thyme = 0 ∧ t.thymeRun = false
    ∧ t.dram = [] ∧ t.pool = [] ∧ t.otp = s.otp ∧ t.backup.ff = s.backup.ff ∧ t.host = s.host ∧ t.pending = s.pending)
  ∧ (∀ s : State, s.mode = .off →
    exec .vbakPresent s = .next { s with power := { s.power with vbak := true }, mode := .backup })
  ∧ (∀ s : State, s.mode ≠ .off → s.mode ≠ .backup → ∃ t, exec .mainSupplyLoss s = .next t
    ∧ t.mode = (if s.power.vbak then .backup else .off) ∧ t.power = ⟨false, s.power.vbak⟩
    ∧ t.dram = [] ∧ t.pool = [] ∧ t.backup = s.backup ∧ t.host = s.host ∧ t.pending = s.pending)
  ∧ (∀ s : State, s.mode = .backup →
    exec .vbakLoss s = .next { s with power := { s.power with vbak := false }, mode := .off })

/-- A mode request starts a check, and the check judges it (R22, R24, R26): what a refusal and an acceptance write. -/
def Obligations.ModeRequestsAreJudged : Prop :=
  (∀ (s : State) (r : Req) (v : Word), s.MayWrite r (modePage + 0x104) →
    exec (.modeRequest r v) s = .next
      { (s.put modePage F.MODE.MODE_REQUEST_TARGET (v.toNat % 16)).inc modePage F.HDR.CHECK_ATTEMPT with
        modeReqs := s.modeReqs ++ [v.toNat % 16] })
  ∧ (∀ (s : State) (q : Nat) (rest : List Nat), s.modeReqs = q :: rest → s.trigNow = false → s.rst.chip = none →
    (s.modeVerdict q).reason ≠ 0 →
    exec .modeRequestCheckDone s = .next
      (({ s with modeReqs := rest }.put modePage F.MODE.MODE_REQUEST_RESULT (s.modeVerdict q).reason).checkDone modePage
        (s.modeVerdict q)))
  ∧ (∀ (s : State) (q : Nat), 8 ≤ q → s.modeVerdict q = Verdict.no 0x04 0x104)
  ∧ (∀ (s : State) (q : Nat), q ≤ 4 → s.modeVerdict q = Verdict.no 0x0F 0x104)
  ∧ (∀ s : State, s.modeVerdict 7 = Verdict.ok)
  ∧ (∀ (s : State) (h : Nat), s.safeRun = false → s.stby = .none → s.mode = .run → s.liveHead = some h →
    s.modeVerdict 6 = Verdict.no 0x07 0x104 0 h)
  ∧ (∀ (s : State) (rest : List Nat), s.modeReqs = 5 :: rest → s.trigNow = false → s.rst.chip = none →
    s.safeRun = false → s.mode = .run → s.stby = .none →
    exec .modeRequestCheckDone s = .next
      (({ s with modeReqs := rest }.put modePage F.MODE.MODE_REQUEST_RESULT 0).checkDone modePage Verdict.ok))
  ∧ (∀ (s : State) (q : Nat) (rest : List Nat), s.modeReqs = q :: rest → s.trigNow = true →
    exec .modeRequestCheckDone s = .next ({ s with modeReqs := rest }.put modePage F.MODE.MODE_REQUEST_RESULT 0x41))
  ∧ (∀ (s : State) (q : Nat) (rest : List Nat), s.modeReqs = q :: rest → s.trigNow = false → s.rst.chip = none →
    (s.modeVerdict q).reason = 0 → s.modeQuiet q = false →
    exec .modeRequestCheckDone s = .next
      ((({ s with modeReqs := rest }.put modePage F.MODE.MODE_REQUEST_RESULT 0).checkDone modePage
        (s.modeVerdict q)).modeAct q))
  ∧ (∀ s : State, s.modeAct 6 = { s.put modePage F.MODE.MODE_STATE_IN_TRANSITION 1 with stby := .entry 1 false })
  ∧ (∀ s : State, s.mode = .standby → s.modeAct 5 = s.standbyExit)

/-- The steps of a STANDBY entry, a wake during it or after it, and the undo (R27, R28, R29). -/
def Obligations.StandbyEntersAndLeaves : Prop :=
  (∀ (s : State) (n : Nat), s.stby = .entry n false → s.standbyMet n = true → n < 4 → n ≠ 3 →
    exec .standbyEntryStepComplete s = .next { s with stby := .entry (n + 1) false })
  ∧ (∀ s : State, s.stby = .entry 3 false → s.standbyMet 3 = true → ∃ t, exec .standbyEntryStepComplete s = .next t
    ∧ t.stby = .entry 4 false ∧ t.regs = s.regs
    ∧ t.audio.mclkOff = (s.audio.mclkOff || (s.enabled aclkPage && s.flag aclkPage F.ACLK.MCLK_CFG_MCLK_STOP_IN_STANDBY)))
  ∧ (∀ (s : State) (n : Nat), s.stby = .entry n true → s.standbyMet n = true →
    exec .standbyEntryStepComplete s = .next ((s.standbyEnds n).undoFrom n true))
  ∧ (∀ s : State, s.stby = .entry 4 false → s.standbyMet 4 = true → exec .standbyEntryStepComplete s = .next
      ({ (s.put divPage F.DIV.PHY_PLL_STATUS_DRAM_PLL_LOCKED 0).put modePage F.MODE.MODE_STATE_IN_TRANSITION 0 with
        stby := .none, prev := s.mode, mode := .standby }.put64 modePage F.MODE.MODE_TS_LO s.now))
  ∧ (∀ (s : State) (n : Nat), s.stby = .entry n false → s.standbyMet n = false →
    exec .standbyEntryStepComplete s = .next s)
  ∧ (∀ (s : State) (w : WakeSrc) (n : Nat) (ab : Bool), s.stby = .entry n ab →
    s.rst.chip = none → exec (.wakeEvent w) s = .next { s with modeTrig := some s.now, stby := .entry n true })
  ∧ (∀ (s : State) (w : WakeSrc), s.stby = .none → s.mode = .standby → s.rst.chip = none →
    exec (.wakeEvent w) s = .next
      { ({ s with modeTrig := some s.now }).put modePage F.MODE.MODE_STATE_IN_TRANSITION 1 with stby := .undo 4 false })
  ∧ (∀ (s : State) (w : WakeSrc), s.stby = .none → s.mode ≠ .standby → exec (.wakeEvent w) s = .next s)
  ∧ (∀ (s : State) (ab : Bool), s.stby = .undo 4 ab → exec .standbyUndoStepComplete s = .next
      ((s.put divPage F.DIV.PHY_PLL_STATUS_DRAM_PLL_LOCKED 1).undoFrom 3 ab))
  ∧ (∀ s : State, s.stby = .undo 3 false → s.portsPending = false →
    exec .standbyUndoStepComplete s = .next
      ({ s.put modePage F.MODE.MODE_STATE_IN_TRANSITION 0 with
        stby := .none, prev := s.mode, mode := .run }.put64 modePage F.MODE.MODE_TS_LO s.now).ulpsExit)
  ∧ (∀ s : State, s.stby = .undo 3 true → s.portsPending = false →
    exec .standbyUndoStepComplete s = .next
      ({ (s.put modePage F.MODE.MODE_STATE_IN_TRANSITION 0).put modePage F.MODE.MODE_REQUEST_RESULT 0x40 with
        stby := .none, prev := .run }).ulpsExit)

/-- The root clock: lock, root loss, a stopped monitor oscillator and a lost lock (R34–R37). -/
def Obligations.RootClockEvents : Prop :=
  (∀ (s : State) (k : Nat), s.rst.chip = some (.cold, k) → s.rst.resetN = false → s.rst.testEn = false →
    exec .pllLock s = .next
      ({ (s.put rootPage F.ROOT.ROOT_STATUS_PLL_LOCKED 1).put rootPage F.ROOT.ROOT_STATUS_MON_OK 1 with
        thyme := 0, thymeRun := true, mode := .load, prev := .load,
        flt := { s.flt with lowTill := s.flt.lowTill.map (fun _ => 614400) },
        rst := { s.rst with chip := none, rootAbsent := false, loading := true } }.put64 modePage F.MODE.MODE_TS_LO 0))
  ∧ (∀ s : State, exec .pllLockRetry s = .next s)
  ∧ (∀ s : State, s.mode ≠ .off → s.mode ≠ .backup → ∃ t, exec .rootLoss s = .next t ∧ t.thymeRun = false
    ∧ t.rst.rootAbsent = true ∧ (∃ k, t.rst.chip = some (.cold, k)) ∧ t.mode = s.mode ∧ t.pending = s.pending
    ∧ (∀ c, s.backup.ff.cur = some c → t.backup.ff = s.backup.ff))
  ∧ (∀ s : State, s.powered = true → s.flag rootPage F.ROOT.ROOT_STATUS_MON_RUN = true →
    exec .monOscLoss s = .next ((s.put rootPage F.ROOT.ROOT_STATUS_MON_RUN 0).hit 0 0))
  ∧ (∀ s : State, s.powered = true → s.flag rootPage F.ROOT.ROOT_STATUS_PLL_LOCKED = true →
    exec .pllUnlock s = .next (((s.incSat rootPage F.ROOT.ROOT_STATUS_LOCK_LOSS_COUNT).put rootPage
      F.ROOT.ROOT_STATUS_PLL_LOCKED 0).hit 1 0))

/-- A gate request starts a check, which gates an idle domain or refuses (R41, R42); a reset release with clock-ok seen or
not seen in time (R40). -/
def Obligations.GatesAndReleases : Prop :=
  (∀ (s : State) (r : Req) (d : BitVec 8), s.Reaches r (divPage + 0x140) → gateWriter r = true → s.gateRun = none →
    exec (.domainGate r d) s = .next
      { (s.put divPage F.DIV.GATE_RESULT_DONE 0).put divPage F.DIV.GATE_RESULT_DOMAIN d.toNat with
        gateRun := some ⟨r, d.toNat, true⟩ })
  ∧ (∀ (s : State) (r : Req) (d : BitVec 8), s.Reaches r (divPage + 0x140) → gateWriter r = true → s.gateRun = none →
    exec (.domainUngate r d) s = .next
      { (s.put divPage F.DIV.GATE_RESULT_DONE 0).put divPage F.DIV.GATE_RESULT_DOMAIN d.toNat with
        gateRun := some ⟨r, d.toNat, false⟩ })
  ∧ (∀ (s : State) (r : Req) (d : BitVec 8) (g : GateReq), s.Reaches r (divPage + 0x140) → gateWriter r = true →
    s.gateRun = some g →
    exec (.domainGate r d) s = .next { s with gateWait := s.gateWait ++ [⟨r, d.toNat, true⟩] }
    ∧ exec (.domainUngate r d) s = .next { s with gateWait := s.gateWait ++ [⟨r, d.toNat, false⟩] })
  ∧ (∀ (s : State) (r : Req) (d : BitVec 8), s.Reaches r (divPage + 0x140) → gateWriter r = false →
    exec (.domainGate r d) s = .next (s.violation r (divPage + 0x140) true)
    ∧ exec (.domainUngate r d) s = .next (s.violation r (divPage + 0x140) true))
  ∧ (∀ (s : State) (g : GateReq), s.gateRun = some g →
    exec .gateCheckDone s = .next (s.gateResult g (s.gateReason g)).gateNext)
  ∧ (∀ (s u : State) (g : GateReq) (e : Nat), u = ((s.put divPage F.DIV.GATE_RESULT_DONE 1).put divPage
      F.DIV.GATE_RESULT_REASON e).put divPage F.DIV.GATE_RESULT_DOMAIN g.dom →
    (e = 0 → g.gate = true → s.gateResult g e = (u.setGated g.dom true).setClockOk g.dom false)
    ∧ (e = 0 → g.gate = false → s.gated g.dom = true → s.gateResult g e = (u.setGated g.dom false).setClockOk g.dom true)
    ∧ (e = 0 → g.gate = false → s.gated g.dom = false → s.gateResult g e = u)
    ∧ (e ≠ 0 → e ≠ 0x0C → s.gateResult g e = u))
  ∧ (∀ s : State, s.gateWait = [] → s.gateNext = { s with gateRun := none })
  ∧ (∀ (s : State) (n : GateReq) (l : List GateReq), s.gateWait = n :: l → s.gateNext =
    { (s.put divPage F.DIV.GATE_RESULT_DONE 0).put divPage F.DIV.GATE_RESULT_DOMAIN n.dom with
      gateRun := some n, gateWait := l })
  ∧ (∀ (s : State) (g : GateReq), isDomain g.dom = true → domPresent s.part g.dom = true → g.gate = true → g.dom ≤ 5 →
    s.gateReason g = 0x40)
  ∧ (∀ (s : State) (g : GateReq), isDomain g.dom = true → domPresent s.part g.dom = true → g.gate = true → 5 < g.dom →
    g.req.tag = 1 → (∃ p ∈ pagesOf g.dom, s.idle p = false) → s.gateReason g = 0x0E)
  ∧ (∀ (s : State) (p : PageNo) (q : Req) (k : Nat), pageBase p ≠ corePage 0 → (s.ctl (pageBase p)).inReset = some (q, k) →
    (s.now < k + 12288 → exec (.releaseClockOk (.page p)) s
      = .next ((s.setClockOk (domOf (pageBase p)) true).blockDone (pageBase p) false))
    ∧ exec (.releaseAbandoned (.page p)) s = .next ((s.waitTo (k + 12288)).blockDone (pageBase p) true))
  ∧ (∀ (s : State) (d : BitVec 8) (x : DomRst), s.domReset d.toNat = some x → s.recHolds d.toNat = false →
    (s.now < x.start + 15360 → exec (.releaseClockOk (.domain d)) s
      = .next (((s.waitTo (x.start + 3072)).setClockOk d.toNat true).domEnd d.toNat false))
    ∧ exec (.releaseAbandoned (.domain d)) s = .next
      (((s.waitTo (x.start + 15360)).setClockOk d.toNat false).domEnd d.toNat true))

/-- A read of `THYME_LO` answers with the low word and snapshots the high word for the reader, whose next read of
`THYME_HI` returns it (R45); the same rule serves every other low word (R53), and the status page of a function (R398).
A read that is not granted returns 0 and raises a violation (R73). -/
def Obligations.SnapshotReads : Prop :=
  (∀ (s : State) (r : Req) (i : PInfo), s.MayRead r (thymePage + 0x100) i →
    exec (.thymeLoRead r) s = .next
      { s with
        snaps := amSet (fun _ => (0, (0 : Word))) s.snaps (snapKey r.rid.toNat (thymePage + 0x104))
          (1, s.regValue (thymePage + 0x104)),
        resp := some ⟨r.rid, BitVec.ofNat 24 (thymePage + 0x100), s.regValue (thymePage + 0x100)⟩ })
  ∧ (∀ s : State, s.regValue (thymePage + 0x100) = s.thyme.extractLsb' 0 32
    ∧ s.regValue (thymePage + 0x104) = s.thyme.extractLsb' 32 32)
  ∧ (∀ (s : State) (r : Req) (a : RegAddr) (i : PInfo), s.MayRead r a.toNat i → offDefined i (offOf a.toNat) = true →
    snapLo i.kind (offOf a.toNat) = true →
    exec (.loSnapshotRead (.space r a) 4) s = .next
      { s with
        snaps := amSet (fun _ => (0, (0 : Word))) s.snaps (snapKey r.rid.toNat (a.toNat + 4)) (1, s.regValue (a.toNat + 4)),
        resp := some ⟨r.rid, a, s.regValue a.toNat⟩ })
  ∧ (∀ (s : State) (r : Req) (i : PInfo) (w : Word), s.MayRead r (thymePage + 0x104) i →
    amGet (fun _ => (0, (0 : Word))) s.snaps (snapKey r.rid.toNat (thymePage + 0x104)) = (1, w) →
    exec (.loSnapshotRead (.space r (BitVec.ofNat 24 (thymePage + 0x104))) 4) s = .next
      { s with
        snaps := amSet (fun _ => (0, (0 : Word))) s.snaps (snapKey r.rid.toNat (thymePage + 0x104)) (0, 0),
        resp := some ⟨r.rid, BitVec.ofNat 24 (thymePage + 0x104), w⟩ })
  ∧ (∀ (s : State) (p : Fin 2) (f : Fin 16) (t : Nat), s.flag (portPage p.val) F.HOSTP.PORT_INFO_UP = true →
    s.fnExists p.val f.val = true → s.fnTen p.val f.val = some t → ∃ u v, exec (.loSnapshotRead (.function p f 0x1000) 4) s = .next u
      ∧ exec (.loSnapshotRead (.function p f 0x1004) 4) u = .next v
      ∧ u.resp = some ⟨BitVec.ofNat 8 p.val, 0x1000, BitVec.ofNat 32 s.now⟩
      ∧ v.resp = some ⟨BitVec.ofNat 8 p.val, 0x1004, BitVec.ofNat 32 (s.now / 0x100000000)⟩)
  ∧ (∀ (s : State) (r : Req) (i : PInfo), s.powered = true → s.reqReal r = true →
    pinfoAt (thymePage + 0x100) = some i → s.present thymePage = true → s.mayRead r i thymePage = false →
    exec (.thymeLoRead r) s = .next
      { s.violation r (thymePage + 0x100) false with resp := some ⟨r.rid, BitVec.ofNat 24 (thymePage + 0x100), 0⟩ })

/-- A slew tick adds 0 or 2 to Thyme (R46), and the accounting boundary falls at `ACCT_START` + `ACCT_LEN` (R50, R58). -/
def Obligations.ThymeAndAccounting : Prop :=
  (∀ (s u : State) (k : Int), s.thymeRun = true → sext 32 (s.get thymePage F.THYME.SLEW_PENDING) = k → 0 < k →
    (s.slewAt = none → u = s) → (∀ t, s.slewAt = some t → u = s.waitTo (t + 1023)) →
    exec .slewTick s = .next ((({ u with thyme := u.thyme + 2, slewAt := some (u.thyme + 2).toNat }.put thymePage
      F.THYME.SLEW_PENDING (uenc 32 (k - 1))).rasterCarry 1).syncCarry 1))
  ∧ (∀ (s u : State) (k : Int), s.thymeRun = true → sext 32 (s.get thymePage F.THYME.SLEW_PENDING) = k → k < 0 →
    (s.slewAt = none → u = s) → (∀ t, s.slewAt = some t → u = s.waitTo (t + 1023)) →
    exec .slewTick s = .next ((({ u with slewAt := some u.now }.put thymePage F.THYME.SLEW_PENDING
      (uenc 32 (k + 1))).rasterCarry (-1)).syncCarry (-1)))
  ∧ (∀ s : State, sext 32 (s.get thymePage F.THYME.SLEW_PENDING) = 0 → exec .slewTick s = .next s)
  ∧ (∀ s : State, s.now < s.acctEnd → s.thymeRun = true → s.acctEnd < 2 ^ 64 →
    exec .accountingBoundary s = .next ((s.waitTo s.acctEnd).acctAt s.acctEnd s.acctEnd))
  ∧ (∀ s : State, s.acctEnd ≤ s.now → exec .accountingBoundary s = .next (s.acctAt s.acctEnd s.acctEnd))
  ∧ (∀ (s : State) (p : PageNo) (b : Nat), (pinfoAt (pageBase p)).isSome = true → s.boundary (pageBase p) = some b →
    exec (.periodBoundary p) s = .next (s.periodSettle.modCtl (pageBase p) (fun c => { c with pend := some b })))
  ∧ (∀ (s : State) (p : PageNo) (i : PInfo) (b : Nat), pinfoAt (pageBase p) = some i → s.boundary (pageBase p) = some b →
    (s.ctl (pageBase p)).stuck = false → s.Wf → ∃ t, exec (.periodLatchUpdate p) s = .next t
      ∧ t.get (pageBase p) F.HDR.PERIOD_SEQ = (((s.waitTo (b + 8)).periodSettle.latchStats i.kind (pageBase p)).get
        (pageBase p) F.HDR.PERIOD_SEQ + 1) % 2 ^ 32
      ∧ t.get (pageBase p) F.HDR.PERIOD_LEN = sat 0xFFFFFFFF (b - max (((s.waitTo (b + 8)).periodSettle).ctl
        (pageBase p)).pstart ((s.waitTo (b + 8)).periodSettle).epoch))

/-- The pulses of `SYNC_OUT` rise and fall at their ticks (R61); a
low supply and a discarded response are counted (R18, R570). -/
def Obligations.BoardSyncAndPins : Prop :=
  (∀ (s : State) (p w k : Nat), s.pad.sync.train = some (p, w) → s.pad.sync.rise = some k →
    exec .syncOutRise s = .next ((s.waitTo k).modSync (fun x =>
      { x with level := true, fall := some ((s.waitTo k).now + w), rise := if p = 0 then none else some (k + p) })))
  ∧ (∀ (s : State) (k : Nat), s.pad.sync.fall = some k →
    exec .syncOutFall s = .next ((s.waitTo k).modSync (fun x => { x with level := false, fall := none })))
  ∧ (∀ (s : State) (n : Fin 16), s.powered = true → n.val < 7 → exec (.supplyUv n) s = .next (s.hit 5 n.val))
  ∧ (∀ (s : State) (rid : BitVec 8), s.engineReset rid.toNat = true → exec (.responseDiscard rid) s = .next
      { s with
        discards := (amSet (fun _ => 0) s.discards (rid.toNat / 32)
          (amGet (fun _ => 0) s.discards (rid.toNat / 32) + 1)) })

/-! The machine as a whole -/

/-- The state after reset is in canonical form. -/
def Obligations.ResetIsCanonical : Prop := State.reset.Wf

/-- Every step from every state in canonical form gives a state in canonical form. -/
def Obligations.StepsKeepTheForm : Prop := ∀ s t : State, s.Wf → step s = .next t → t.Wf

/-- A step takes exactly the front command out of the queue and puts none in. -/
def Obligations.StepTakesOneCommand : Prop := ∀ s t : State, step s = .next t → t.pending = s.pending.tail

/-- No step stops: every state and every queue has a next state. -/
def Obligations.EveryStepGoesOn : Prop := ∀ s : State, ∃ t, step s = .next t

/-- The commands of `storesNothing` leave every byte of DRAM, Tidepool and host memory, and every check word, as it
was. -/
def Obligations.QuietCommandsStoreNothing : Prop :=
  ∀ (i : Instr) (s t : State), storesNothing i = true → exec i s = .next t →
    (∀ a, memByte t.dram a = memByte s.dram a) ∧ (∀ a, memByte t.pool a = memByte s.pool a)
    ∧ (∀ a, memByte t.host a = memByte s.host a) ∧ (∀ w, t.dramChkOf w = s.dramChkOf w)
    ∧ (∀ w, t.poolChkOf w = s.poolChkOf w)

/-! Register pages, enable, commit, interrupts -/

/-- The bits of `CTRL` that have commands of their own: each command is the owner's write of `CTRL` with that bit set or
cleared and the other bits as they stand, and the bits act in the order of R585 (log 10, the model's reading).  On a page
without AUTO, FENCE and QUIESCE a disabled page then starts its enable check (R82), an enabled page that applies on arm
stops (R83), a commit captures the page and starts its check (R84), and a block reset of an idle page begins (R498). -/
def Obligations.CtrlCommands : Prop :=
  ∀ (s : State) (r : Req) (p : PageNo) (i : PInfo) (b : Bool), s.MayWrite r (pageBase p + 8) →
    pinfoAt (pageBase p + 8) = some i →
    exec (.autoCommitWrite r p b) s = .next (s.ctrlWrite (pageBase p) r (s.ctrlAs (pageBase p) 4 b))
    ∧ exec (.commitOnFenceWrite r p b) s = .next (s.ctrlWrite (pageBase p) r (s.ctrlAs (pageBase p) 5 b))
    ∧ exec (.pageQuiesce r p b) s = .next (s.ctrlWrite (pageBase p) r (s.ctrlAs (pageBase p) 2 b))
    ∧ exec (.enable r p) s = .next (s.ctrlWrite (pageBase p) r (s.ctrlAs (pageBase p) 0 true))
    ∧ exec (.disable r p) s = .next (s.ctrlWrite (pageBase p) r (s.ctrlAs (pageBase p) 0 false))
    ∧ exec (.commit r p) s = .next (s.ctrlWrite (pageBase p) r (s.ctrlAs (pageBase p) 1 true))
    ∧ exec (.blockReset r p) s = .next (s.ctrlWrite (pageBase p) r (s.ctrlAs (pageBase p) 3 true))
    ∧ (i.hasAuto = false → i.hasFence = false → i.hasQuiesce = false → ∀ v : Word,
      s.ctrlWrite (pageBase p) r v
        = (let s := if bit v.toNat 0 then s.enableWrite (pageBase p) r else s.disableWrite (pageBase p) r
           let s := if bit v.toNat 1 then s.commitWrite (pageBase p) r else s
           if bit v.toNat 3 then s.resetBit (pageBase p) r else s))
    ∧ (s.flag (pageBase p) F.HDR.CTRL_ENABLE = false → (s.ctl (pageBase p)).stopDue = false →
      (s.ctl (pageBase p)).enRun = none → s.enableWrite (pageBase p) r = (s.put (pageBase p) F.HDR.CTRL_ENABLE 1).startEnable
        (pageBase p) r ((s.put (pageBase p) F.HDR.CTRL_ENABLE 1).capture [pageBase p]))
    ∧ (s.flag (pageBase p) F.HDR.CTRL_ENABLE = true → (s.secureHold (pageBase p) && r.tag != 1) = false → ∀ u : State,
      u = (s.put (pageBase p) F.HDR.CTRL_ENABLE 0).withdraw (pageBase p) → u.groupPage (pageBase p) = pageBase p →
      (u.ctl (pageBase p)).enRun = none → (u.ctl (pageBase p)).startDue = none → u.enabled (pageBase p) = true →
      i.app = .onArm → s.disableWrite (pageBase p) r = u.stopBlock (pageBase p) u.now)
    ∧ (s.groupPage (pageBase p) = pageBase p → s.checkBusy (pageBase p) = true →
      s.commitWrite (pageBase p) r = s.modCtl (pageBase p) (fun c =>
        { c with queued := some (r, s.fenceForeign (s.group (pageBase p))) }))
    ∧ (s.groupPage (pageBase p) = pageBase p → s.checkBusy (pageBase p) = false → s.onFence (pageBase p) = false →
      s.commitWrite (pageBase p) r = (s.modCtl (pageBase p) (fun c => { c with wait := none })).startCommit
        (pageBase p) r { s.capture (s.group (pageBase p)) with foreign := s.fenceForeign (s.group (pageBase p)) })
    ∧ (s.groupPage (pageBase p) = pageBase p → s.checkBusy (pageBase p) = false → s.onFence (pageBase p) = true →
      s.fenceMet (pageBase p) = false → s.fenceForeign (s.group (pageBase p)) = [] →
      s.commitWrite (pageBase p) r = s.modCtl (pageBase p) (fun c =>
        { c with wait := some ⟨r, { s.capture (s.group (pageBase p)) with foreign := [] }⟩ }))
    ∧ (s.idle (pageBase p) = true → (s.ctl (pageBase p)).inReset = none → 5 < domOf (pageBase p) →
      domOf (pageBase p) ≠ 0x30 → domOf (pageBase p) ≠ 0x31 → i.hasQuiesce = false → i.kind ≠ .ten →
      (s.secureHold (pageBase p) && r.tag != 1) = false →
      s.resetBit (pageBase p) r = s.modCtl (pageBase p) (fun c => { c with inReset := some (r, s.now) }))

/-- A check that completes writes its result, sets `CHECK_DONE` and, on a refusal, `REFUSED` (R69, R93); a refused enable
clears `ENABLE` (R82), an accepted one copies the candidate's shadows and starts the block at once on a page that applies
on arm and at its apply point elsewhere, and an accepted commit is applied or armed (R84, R85).  A drain or a quiesce that
ends shows in STATUS. -/
def Obligations.ChecksComplete : Prop :=
  (∀ (s : State) (p : PageNo) (i : PInfo) (run : CheckRun), pinfoAt (pageBase p) = some i →
    (s.ctl (pageBase p)).enRun = some run → (s.ctl (pageBase p)).enNext = none →
    let v := s.runCheck run.req run.img [pageBase p] true true
    let t := (s.modCtl (pageBase p) (fun c => { c with enRun := none, enNext := none, withdrawn := false })).checkDone (pageBase p) v
    let u := t.copySc run.img (pageBase p)
    let next := fun (w : State) => Host.Outcome.next (φ := Fault) (ρ := Refusal) ((w.startQueued (pageBase p)).fenceRelease1 (pageBase p))
    (v.reason ≠ 0 → exec (.enableCheckDone p) s = next ((t.put (pageBase p) F.HDR.CTRL_ENABLE 0).holdNote (pageBase p) v run.req))
    ∧ (v.reason = 0 → i.kind ≠ .alloc → i.kind ≠ .gl2 → (s.ctl (pageBase p)).withdrawn = true →
      exec (.enableCheckDone p) s = next u)
    ∧ (v.reason = 0 → i.kind ≠ .alloc → i.kind ≠ .gl2 → (s.ctl (pageBase p)).withdrawn = false →
      u.onArm (pageBase p) i = true → exec (.enableCheckDone p) s = next (u.startBlock (pageBase p) s.now))
    ∧ (v.reason = 0 → i.kind ≠ .alloc → i.kind ≠ .gl2 → (s.ctl (pageBase p)).withdrawn = false →
      u.onArm (pageBase p) i = false →
      exec (.enableCheckDone p) s = next (u.modCtl (pageBase p) (fun c => { c with startDue := some s.now }))))
  ∧ (∀ (s : State) (p : PageNo) (i : PInfo) (run : CheckRun), pinfoAt (pageBase p) = some i →
    (s.ctl (pageBase p)).run = some run →
    let v := s.runCheck run.req run.img run.img.pages true false
    let t := (s.modCtl (pageBase p) (fun c => { c with run := none })).checkDone (pageBase p) v
    (v.reason ≠ 0 → exec (.commitCheckDone p) s
      = .next (((t.holdNote (pageBase p) v run.req).startQueued (pageBase p)).fenceRelease1 (pageBase p)))
    ∧ (v.reason = 0 → t.onArm (pageBase p) i = true → exec (.commitCheckDone p) s = .next
      (((t.applyImage (pageBase p) s.now 0 { run.img with tick := s.now }).startQueued (pageBase p)).fenceRelease1 (pageBase p)))
    ∧ (v.reason = 0 → t.onArm (pageBase p) i = false → exec (.commitCheckDone p) s = .next
      (((t.arm (pageBase p) run.img s.now).startQueued (pageBase p)).fenceRelease1 (pageBase p))))
  ∧ (∀ (s : State) (p : PageNo) (i : PInfo), pinfoAt (pageBase p) = some i → i.kind.busy = true →
    s.enabled (pageBase p) = false →
    exec (.disableDrainDone p) s = .next (s.put (pageBase p) F.HDR.STATUS_IDLE 1))
  ∧ (∀ (s : State) (p : PageNo) (i : PInfo), pinfoAt (pageBase p) = some i → i.hasQuiesce = true →
    s.flag (pageBase p) F.HDR.CTRL_QUIESCE = true →
    (i.kind = .ten → exec (.pageQuiesceDone p) s = .next (s.quiesceDone (pnoOf (pageBase p))))
    ∧ (i.kind = .wb → (s.wb (pnoOf (pageBase p))).on = true → exec (.pageQuiesceDone p) s = .next s)
    ∧ (i.kind = .wb → (s.wb (pnoOf (pageBase p))).on = false → exec (.pageQuiesceDone p) s
      = .next ((s.put (pageBase p) F.HDR.STATUS_IDLE 1).put (pageBase p) F.HDR.STATUS_QUIESCED 1)))

/-- `INT_STATUS` is cleared by ones and set by `INT_FORCE` (R93); a line's rising edge waits for its delivery, which goes to
a host's vector as its route says, or pends there while the vector is masked, and an unmask sends it (R94). A write of
`IRQ_ROUTE` starts a check of the selected line's route, and a refused route leaves the routes as they were (R95, R96). -/
def Obligations.InterruptsAndRoutes : Prop :=
  (∀ (s : State) (r : Req) (p : PageNo) (i : PInfo) (v : Word), s.MayWrite r (pageBase p + 0x30) →
    pinfoAt (pageBase p + 0x30) = some i →
    exec (.intStatusClear r p v) s = .next (s.intClear (pageBase p) v)
    ∧ (pageBase p ≠ fcollPage → (s.lineOn (pageBase p) = false ∨ bits (s.route (lineOf (pageBase p))).toNat 31 30 ≠ 2) →
      s.intClear (pageBase p) v
        = (s.wr (pageBase p + 0x30) (s.rd (pageBase p + 0x30) &&& ~~~v)).dropLine (pageBase p)))
  ∧ (∀ (s : State) (r : Req) (p : PageNo) (i : PInfo) (v : Word), s.MayWrite r (pageBase p + 0x38) →
    pinfoAt (pageBase p + 0x38) = some i →
    exec (.intForce r p v) s = .next (s.intSet (pageBase p) (v &&& intMask (pageBase p)).toNat))
  ∧ (∀ (s : State) (base mask : Nat), s.intSet base mask
      = s.withLine base (fun s => s.wr (base + 0x30) (s.rd (base + 0x30) ||| BitVec.ofNat 32 mask)))
  ∧ (∀ (s : State) (l : PageNo), s.edges.contains l.toNat = false → exec (.irqDelivery l) s = .next s)
  ∧ (∀ (s : State) (l : PageNo) (f v : Nat), s.edges.contains l.toNat = true → bits (s.route l.toNat).toNat 31 30 = 2 →
    bits (s.route l.toNat).toNat 24 21 = f → bits (s.route l.toNat).toNat 20 15 = v →
    s.vecOpen (bits (s.route l.toNat).toNat 25 25) f v = true →
    exec (.irqDelivery l) s = .next
      (({ s with edges := s.edges.erase l.toNat }).setVec (vecKey (bits (s.route l.toNat).toNat 25 25) f v)
        { s.vec (vecKey (bits (s.route l.toNat).toNat 25 25) f v) with
          sent := (s.vec (vecKey (bits (s.route l.toNat).toNat 25 25) f v)).sent + 1 }))
  ∧ (∀ (s : State) (l : PageNo) (f v : Nat), s.edges.contains l.toNat = true → bits (s.route l.toNat).toNat 31 30 = 2 →
    bits (s.route l.toNat).toNat 24 21 = f → bits (s.route l.toNat).toNat 20 15 = v →
    s.vecOpen (bits (s.route l.toNat).toNat 25 25) f v = false →
    exec (.irqDelivery l) s = .next (({ s with edges := s.edges.erase l.toNat }).setPend
      (bits (s.route l.toNat).toNat 25 25) f v true))
  ∧ (∀ (s : State) (l : PageNo), s.edges.contains l.toNat = true → bits (s.route l.toNat).toNat 31 30 ≠ 1 →
    bits (s.route l.toNat).toNat 31 30 ≠ 2 → exec (.irqDelivery l) s = .next { s with edges := s.edges.erase l.toNat })
  ∧ (∀ (s : State) (l : PageNo), s.edges.contains l.toNat = true → bits (s.route l.toNat).toNat 31 30 = 1 →
    s.lineOn (l.toNat * 0x1000) = true → exec (.irqDelivery l) s = .next (forN (fun c (u : State) =>
      if bit (s.route l.toNat).toNat (26 + c) then u.lineToCore l.toNat c else u) 4 { s with edges := s.edges.erase l.toNat }))
  ∧ (∀ (s : State) (p : Fin 2) (f : Fin 16) (v : Fin 64), p.val < s.part.hostPorts → s.fnExists p.val f.val = true →
    s.vecPend p.val f.val v.val = false →
    exec (.msixUnmask p f v) s = .next
      (s.setVec (vecKey p.val f.val v.val) { s.vec (vecKey p.val f.val v.val) with masked := false }))
  ∧ (∀ (s : State) (r : Req) (v : Word), s.MayWrite r (routerPage + 0x104) →
    exec (.irqRouteWrite r v) s = .next
      { s.checkStart routerPage with
        routeRuns := s.routeRuns ++ [(v &&& 0xFFFFF000) ||| BitVec.ofNat 32 (s.get routerPage F.ROUTER.IRQ_SELECT)] })
  ∧ (∀ (s : State) (w : Word) (rest : List Word), s.routeRuns = w :: rest →
    { s with routeRuns := rest }.routeReason (w.toNat % 4096) w ≠ 0 → ∃ t, exec .irqRouteCheckDone s = .next t
      ∧ t.routes = s.routes ∧ t.routeRuns = rest)
  ∧ (∀ (s : State) (w : Word) (rest : List Word), s.routeRuns = w :: rest → bits w.toNat 31 30 ≠ 1 →
    { s with routeRuns := rest }.routeReason (w.toNat % 4096) w = 0 →
    exec .irqRouteCheckDone s = .next (({ s with routeRuns := rest }.checkDone routerPage Verdict.ok).setRoute
      (w.toNat % 4096) (w &&& 0xFFFFF000)))

/-- Writes of a page's `OWNER` are the manager's and the secure world's alone (R74): anyone else's is dropped with a
violation. A plain register keeps what its owner writes to its RW fields, and a write by anyone else is dropped with a
violation (R73). -/
def Obligations.OwnersAndPlainRegisters : Prop :=
  (∀ (s : State) (r : Req) (p : PageNo) (i : PInfo) (v : Word), s.Reaches r (pageBase p + 0x18) →
    pinfoAt (pageBase p + 0x18) = some i → s.mayOwn (pageBase p) r = false →
    exec (.ownerWrite r p v) s = .next (s.violation r (pageBase p + 0x18) true))
  ∧ (∀ (s : State) (r : Req) (p : PageNo) (i : PInfo) (v : Word), s.Reaches r (pageBase p + 0x18) →
    pinfoAt (pageBase p + 0x18) = some i → s.mayOwn (pageBase p) r = true →
    exec (.ownerWrite r p v) s = .next (s.ownerJudge (pageBase p) r v.toNat))
  ∧ (∀ (s : State) (r : Req) (p : PageNo) (i : PInfo) (v : Word), s.Reaches r (pageBase p + 0x18) →
    pinfoAt (pageBase p + 0x18) = some i → i.fixed = false → r.tag = 1 → ownerId (v.toNat % 4096) = true →
    s.enabled (pageBase p) = false → s.checkBusy (pageBase p) = false → s.armedFor (pageBase p) = none →
    (s.ctl (pageBase p)).wait = none → s.Wf → ∃ t, exec (.ownerWrite r p v) s = .next t
      ∧ t.owner (pageBase p) = v.toNat % 4096 ∧ t.get (pageBase p) F.HDR.CHECK_REASON = 0
      ∧ t.rd (pageBase p + 0x34) = 0)
  ∧ (∀ (s : State) (r : Req) (v : Word), s.MayWrite r (modePage + 0x034) → s.lineOn modePage = false →
    v &&& intMask modePage = v → v &&& s.rd (modePage + 0x30) = 0 → s.Wf → ∃ t, exec (.registerWrite (.space r) (BitVec.ofNat 24 (modePage + 0x034)) v 4) s = .next t
      ∧ t.rd (modePage + 0x034) = v)
  ∧ (∀ (s : State) (r : Req) (a : RegAddr) (i : PInfo) (v : Word), s.MayWrite r a.toNat → pinfoAt a.toNat = some i →
    offDefined i (offOf a.toNat) = true → offOf a.toNat ≠ 0x018 → s.ownRule r a.toNat v = none →
    exec (.registerWrite (.space r) a v 4) s = .next (s.writeEffect r i a.toNat v))
  ∧ (∀ (s : State) (r : Req) (a : RegAddr) (i : PInfo) (v : Word), s.Reaches r a.toNat → pinfoAt a.toNat = some i →
    offDefined i (offOf a.toNat) = true → offOf a.toNat ≠ 0x018 → s.ownRule r a.toNat v = none →
    (r.tag.toNat ≠ s.owner (pageOf a.toNat) ∨ r.tag = 0) →
    exec (.registerWrite (.space r) a v 4) s
      = .next ((s.deniedEnable (pageOf a.toNat) (offOf a.toNat) v).violation r a.toNat true))
  ∧ (∀ (s : State) (r : Req) (a : RegAddr) (v : Word) (n : Nat), s.powered = true → s.reqReal r = true →
    (pinfoAt a.toNat = none ∨ n ≠ 4) →
    exec (.registerWrite (.space r) a v n) s = .next (s.stray r a.toNat true))
  ∧ (∀ (s : State) (p : Fin 2) (f : Fin 16) (o : RegAddr) (v : Word) (t : Nat), 0x1000 ≤ o.toNat → o.toNat < 0x2000 →
    s.flag (portPage p.val) F.HOSTP.PORT_INFO_UP = true → s.fnExists p.val f.val = true → s.fnTen p.val f.val = some t →
    exec (.registerWrite (.function p f) o v 4) s = .next (s.hitAcc 9 0x09 4 p.val (0x10 + t) o.toNat))

/-! Layers, scan-out and check-value units -/

/-- `COEF_DATA` stores or returns the coefficient that `COEF_SEL` names and advances the selection, and `LUT_DATA` the entry
that `LUT_SEL` names, channel 3 writing all three; a write to a bank or set in use is dropped with interrupt bit 0 (R117,
R118, R128). A tap or an index with no place takes no value (log 233, the model's choice). -/
def Obligations.TableAccess : Prop :=
  (∀ (s : State) (r : Req) (p : PageNo) (i : PInfo) (v : Word), s.MayWrite r (pageBase p + 0x194) →
    pinfoAt (pageBase p + 0x194) = some i → i.kind = .layer →
    let w := (s.rd (pageBase p + 0x190)).toNat
    let h := headOf (pageBase p)
    let l := layOf (pageBase p)
    (s.bankBusy h l (bits w 1 0) = true →
      exec (.coefDataWrite r p v) s = .next ((s.intBit (pageBase p) 0).wr (pageBase p + 0x190) (BitVec.ofNat 32 (coefNext w))))
    ∧ (s.bankBusy h l (bits w 1 0) = false → (bit w 2 = false ∨ bits w 11 9 < 4) →
      exec (.coefDataWrite r p v) s = .next
        ({ s with coefs := (amSet coefReset s.coefs (coefKey h l (bits w 1 0) (bits w 2 2) (bits w 8 3) (bits w 11 9))
          (v.setWidth 12)) }.wr (pageBase p + 0x190) (BitVec.ofNat 32 (coefNext w))))
    ∧ (s.bankBusy h l (bits w 1 0) = false → bit w 2 = true → 4 ≤ bits w 11 9 →
      exec (.coefDataWrite r p v) s = .next (s.wr (pageBase p + 0x190) (BitVec.ofNat 32 (coefNext w)))))
  ∧ (∀ (s : State) (p : PageNo),
    let w := (s.rd (pageBase p + 0x190)).toNat
    (bit w 2 = false ∨ bits w 11 9 < 4) → (s.coefRead (pageBase p)).2
      = BitVec.ofNat 32 (s.coef (headOf (pageBase p)) (layOf (pageBase p)) (bits w 1 0) (bits w 2 2) (bits w 8 3)
        (bits w 11 9)).toNat)
  ∧ (∀ (s : State) (r : Req) (p : PageNo) (i : PInfo), s.Reaches r (pageBase p + 0x194) →
    pinfoAt (pageBase p + 0x194) = some i → i.kind = .layer → s.mayRead r i (pageBase p) = true →
    exec (.coefDataRead r p) s = .next
      { s.wr (pageBase p + 0x190) (BitVec.ofNat 32 (coefNext (s.rd (pageBase p + 0x190)).toNat)) with
        resp := some ⟨r.rid, BitVec.ofNat 24 (pageBase p + 0x194), (s.coefRead (pageBase p)).2⟩ })
  ∧ (∀ (s : State) (r : Req) (p : PageNo) (i : PInfo) (v : Word), s.MayWrite r (pageBase p + 0x144) →
    pinfoAt (pageBase p + 0x144) = some i → i.kind = .colour →
    let w := (s.rd (pageBase p + 0x140)).toNat
    let k (ch : Nat) : Nat := lutKey (headOf (pageBase p)) (bits w 16 16) ch (bits w 10 0)
    (s.lutBusy (headOf (pageBase p)) (bits w 16 16) = true →
      exec (.lutDataWrite r p v) s = .next ((s.intBit (pageBase p) 0).wr (pageBase p + 0x140) (BitVec.ofNat 32 (lutNext w))))
    ∧ (s.lutBusy (headOf (pageBase p)) (bits w 16 16) = false → bits w 10 0 ≤ 1024 → bits w 13 12 < 3 →
      exec (.lutDataWrite r p v) s = .next
        ({ s with luts := amSet lutReset s.luts (k (bits w 13 12)) (v.setWidth 16) }.wr (pageBase p + 0x140)
          (BitVec.ofNat 32 (lutNext w))))
    ∧ (s.lutBusy (headOf (pageBase p)) (bits w 16 16) = false → bits w 10 0 ≤ 1024 → bits w 13 12 = 3 →
      exec (.lutDataWrite r p v) s = .next
        ({ s with luts := (amSet lutReset (amSet lutReset (amSet lutReset s.luts (k 2) (v.setWidth 16)) (k 1) (v.setWidth 16))
          (k 0) (v.setWidth 16)) }.wr (pageBase p + 0x140) (BitVec.ofNat 32 (lutNext w))))
    ∧ (s.lutBusy (headOf (pageBase p)) (bits w 16 16) = false → 1024 < bits w 10 0 →
      exec (.lutDataWrite r p v) s = .next (s.wr (pageBase p + 0x140) (BitVec.ofNat 32 (lutNext w)))))
  ∧ (∀ (s : State) (r : Req) (p : PageNo) (i : PInfo), s.Reaches r (pageBase p + 0x144) →
    pinfoAt (pageBase p + 0x144) = some i → i.kind = .colour → s.mayRead r i (pageBase p) = true →
    exec (.lutDataRead r p) s = .next
      { s.wr (pageBase p + 0x140) (BitVec.ofNat 32 (lutNext (s.rd (pageBase p + 0x140)).toNat)) with
        resp := some ⟨r.rid, BitVec.ofNat 24 (pageBase p + 0x144), (s.lutRead (pageBase p)).2⟩ })

/-- The requests of `REFLEX_CTL` and `HOLD_CMD` stand in their register until the next slack point (R126, R164, R165). -/
def Obligations.RequestsStand : Prop :=
  (∀ (s : State) (r : Req) (p : PageNo) (i : PInfo), s.MayWrite r (pageBase p + 0x180) →
    pinfoAt (pageBase p + 0x180) = some i → i.kind = .layer →
    exec (.reflexSetReq r p) s = .next (s.wr (pageBase p + 0x180) (s.rd (pageBase p + 0x180) ||| 1))
    ∧ exec (.reflexClearReq r p) s = .next (s.wr (pageBase p + 0x180) (s.rd (pageBase p + 0x180) ||| 2)))
  ∧ (∀ (s : State) (r : Req) (h : Fin 8), s.MayWrite r (headPage h.val + 0x12C) →
    exec (.holdCmdCapture r h) s = .next (s.wr (headPage h.val + 0x12C) (s.rd (headPage h.val + 0x12C) ||| 1))
    ∧ exec (.holdCmdExit r h) s = .next (s.wr (headPage h.val + 0x12C) (s.rd (headPage h.val + 0x12C) ||| 2)))

/-- A head starts on the tick after its enable was accepted, and later slack points come when the raster's ticks have passed,
with the fraction carried (R140, R149, R151); a head that is off does neither, nor starts a line slot (R152). -/
def Obligations.RastersRun : Prop :=
  (∀ (s : State) (h : Fin 8) (a : Nat), (s.ctl (headPage h.val)).startDue = some a → (s.raster h.val).on = false →
    s.mode ≠ .safe →
    let u := (s.waitTo (a + 1)).waitTo (((s.waitTo (a + 1)).dueFrom h.val (s.waitTo (a + 1)).now).getD (s.waitTo (a + 1)).now)
    exec (.headStart h) s = .next (u.slackAt h.val u.now true false).latSend)
  ∧ (∀ (s : State) (h : Fin 8), (s.ctl (headPage h.val)).startDue = none →
    exec (.headStart h) s = .next s.latSend)
  ∧ (∀ (s : State) (h : Fin 8), (s.raster h.val).on = true →
    let v := forN (fun _ u => u.lineSlot h.val (fun _ => false) (fun _ => false)) (s.vTotal h.val - (s.raster h.val).line) s
    let n := v.hTotal h.val * v.vTotal h.val
    let due := v.slotTick h.val n
    let frac := (v.raster h.val).frac + (due - (v.raster h.val).org) * v.get (headPage h.val) F.HEAD.RATE_NUM
      - n * v.get (headPage h.val) F.HEAD.RATE_DEN
    exec (.slackPoint h) s = .next
      ((((v.waitTo due).setRaster h.val ⟨true, (v.waitTo due).now, frac, 1⟩).slackAt h.val (v.waitTo due).now false true).latSend))
  ∧ (∀ (s : State) (h : Fin 8) (full : BitVec 2) (fifo : BitVec 16), (s.raster h.val).on = false →
    exec (.slackPoint h) s = .next s.latSend
    ∧ exec (.lineSlotStart h full fifo) s = .next (s.tmbIssue h.val).latSend)
  ∧ (∀ (s : State) (h : Fin 8) (full : BitVec 2) (fifo : BitVec 16), (s.raster h.val).on = true →
    (s.raster h.val).line < s.vTotal h.val →
    let i := (s.raster h.val).line
    let top := s.vTotal h.val - s.get (headPage h.val) F.HEAD.V_TIMING_0_ACTIVE
    i + 1 < top →
    let u := (s.waitTo (s.slotTick h.val (i * s.hTotal h.val))).setRaster h.val { s.raster h.val with line := i + 1 }
    let w := (((u.put (headPage h.val) F.HEAD.LINE_POS_REGION (u.linePos h.val i).1).put (headPage h.val)
      F.HEAD.LINE_POS_LINE (u.linePos h.val i).2).genlockLine h.val i)
    exec (.lineSlotStart h full fifo) s = .next (((((w.bursts h.val false (fun k => bit fifo.toNat k)).latReport h.val i)).tmbIssue
      h.val).latSend))
  ∧ (∀ (s : State) (h : Fin 8) (full : BitVec 2) (fifo : BitVec 16), exec (.lineSlotStart h full fifo) s
    = .next (((s.lineSlot h.val (fun i => bit full.toNat i) (fun k => bit fifo.toNat k)).tmbIssue h.val).latSend))

/-- Answers of layer fetches (R153), buffer releases (R156), a lost D-PHY clock (R147), the end of a link's wake-up (R167)
and the end of a region's clear (R162). -/
def Obligations.FetchesAndLinks : Prop :=
  (∀ (s : State) (h : Fin 8) (l : Fin 12) (k : Fin 3) (y g : Nat), s.engineReset (0x20 + h.val) = true →
    exec (.layerFetchResponse h l k y g) s = .next (s.discard (0x20 + h.val)))
  ∧ (∀ (s : State) (h : Fin 8) (l : Fin 12) (k : Fin 3) (y g : Nat), s.engineReset (0x20 + h.val) = false →
    (s.lay h.val l.val).late.contains (granKey k.val y g) = true →
    exec (.layerFetchResponse h l k y g) s = .next
      (s.modLay h.val l.val (fun x => { x with late := x.late.filter (· != granKey k.val y g) })))
  ∧ (∀ (s : State) (h : Fin 8) (l : Fin 12) (k : Fin 3) (y g : Nat) (p : Plane), s.engineReset (0x20 + h.val) = false →
    (s.lay h.val l.val).late.contains (granKey k.val y g) = false → s.mayFetch h.val l.val k.val y g = true →
    (s.planes h.val l.val)[k.val]? = some p → p.remote = false →
    let rq : MemRq := ⟨0x20 + h.val, s.owner (layerPage h.val l.val), p.granAddr (s.layCfg h.val l.val) y g, 64, false,
      p.space == 1, true⟩
    (∀ (u : State) (d : List Byte) (m : Nat), s.mread rq = (u, some (d, m)) →
      exec (.layerFetchResponse h l k y g) s = .next (u.granArrives h.val l.val k.val y g (BitVec.ofNat 512 (bytesNat d))
        (m == 2)))
    ∧ (∀ u : State, s.mread rq = (u, none) → s.wouldAllow rq = none →
      exec (.layerFetchResponse h l k y g) s = .next (u.granFails h.val l.val k.val y g 1)))
  ∧ (∀ (s : State) (h : Fin 8) (l : Fin 12),
    let waits := fun (b : RelBuf) => (s.lay h.val l.val).late.any (fun k => k / 0x100000000 == b.plane)
    exec (.bufferRelease h l) s = .next (forL (fun b u => u.releaseBuf h.val l.val s.now
      (s.get (headPage h.val) F.HEAD.FRAME_SEQ) b) ((s.lay h.val l.val).rel.filter (fun b => !waits b))
      (s.setLay h.val l.val { s.lay h.val l.val with rel := (s.lay h.val l.val).rel.filter waits })))
  ∧ (∀ (s : State) (n : Nat), (∀ k, k < 16 → s.get (dsiPage k) F.DSI.LINK_STATUS_STATE ≠ 1) →
    exec (.dphyClockLoss n) s = .next { s with dphyAt := s.now + n })
  ∧ (∀ (s : State) (n : Nat), exec (.dphyClockLoss n) s = .next (forL (fun k u =>
    if u.get (dsiPage k) F.DSI.LINK_STATUS_STATE = 1 then ((u.put (dsiPage k) F.DSI.LINK_STATUS_STATE 0).intBit (dsiPage k) 0).hit
      (80 + k) 1 else u) (upto 0 16) { s with dphyAt := s.now + n }))
  ∧ (∀ (s : State) (k : Fin 16) (t : Nat), (amGet (fun _ => LinkSt.idle) s.links k.val).wake = some t →
    s.flag (dsiPage k.val) F.DSI.LINK_STATUS_CLAIMED = false →
    exec (.ulpsWakeupEnd k) s = .next { s.waitTo t with links := amSet (fun _ => LinkSt.idle) (s.waitTo t).links k.val LinkSt.idle })
  ∧ (∀ (s : State) (k : Fin 16) (t : Nat), (amGet (fun _ => LinkSt.idle) s.links k.val).wake = some t →
    s.flag (dsiPage k.val) F.DSI.LINK_STATUS_CLAIMED = true →
    exec (.ulpsWakeupEnd k) s = .next
      ({ s.waitTo t with links := amSet (fun _ => LinkSt.idle) (s.waitTo t).links k.val LinkSt.idle }.headWakes
        (s.get (dsiPage k.val) F.DSI.LINK_STATUS_HEAD)))
  ∧ (∀ (s : State) (r : Fin 32),
    let u := forL (fun (e : Nat × Nat × Nat) v => v.poolClear (65536 * e.2.1) (65536 * (e.2.1 + e.2.2)))
      (s.poolClr.filter (fun e => e.1 == r.val)) s
    let w := { u with poolClr := u.poolClr.filter (fun e => e.1 != r.val) }
    exec (.tidepoolRegionClearDone r) s = .next (w.put allocPage F.ALLOC.CLEAR_BUSY
      (w.get allocPage F.ALLOC.CLEAR_BUSY &&& (0xFFFFFFFF ^^^ (1 <<< r.val)))))

/-- A fed stream of a check-value unit: `START` opens it with the unit's initial value, `FEED_DATA` feeds bytes into it or is a
stray access while none is open, and `END` writes the result, compares it and counts it (R183, R184, R185). -/
def Obligations.FedStreams : Prop :=
  (∀ (s : State) (r : Req) (n : Fin 16) (v : Word), s.MayWrite r (cvuPage n.val + 0x134) → s.cvuFed n.val = true →
    exec (.cvuFeedData r n v) s = .next ((s.cvuBytes n.val ((natBytes (s.get (cvuPage n.val) F.CVU.FEED_CTRL_BYTES + 1)
      v.toNat).map (·.toNat))).stat64 (cvuPage n.val) 4 (s.get (cvuPage n.val) F.CVU.FEED_CTRL_BYTES + 1)))
  ∧ (∀ (s : State) (r : Req) (n : Fin 16) (v : Word), s.MayWrite r (cvuPage n.val + 0x134) → s.cvuFed n.val = false →
    exec (.cvuFeedData r n v) s = .next (s.stray r (cvuPage n.val + 0x134) true))
  ∧ (∀ (s : State) (r : Req) (n : Fin 16), s.MayWrite r (cvuPage n.val + 0x138) →
    let c := bits (s.rd (cvuPage n.val + 0x138)).toNat 3 2
    let u := s.put (cvuPage n.val) F.CVU.FEED_CTRL_BYTES c
    exec (.cvuFeedStart r n) s = .next (u.feedStart n.val)
    ∧ exec (.cvuFeedEnd r n) s = .next (u.feedEnd r n.val))
  ∧ (∀ (s : State) (n : Nat), s.enabled (cvuPage n) = true → s.get (cvuPage n) F.CVU.SRC_CFG_SOURCE = 2 →
    (s.cvu n).isOpen = false → s.cvFold (cvuPage n + 0x100) = false →
    s.feedStart n = (s.setCvu n ⟨true, (s.cvCfg (cvuPage n + 0x100)).init, none⟩).put (cvuPage n) F.HDR.STATUS_IDLE 0)
  ∧ (∀ (s : State) (r : Req) (n : Nat), s.cvuFed n = true →
    s.feedEnd r n = (s.cvuFinish n).inc (cvuPage n) F.CVU.FEED_SEQ)
  ∧ (∀ (s : State) (n : Nat), (s.cvu n).isOpen = true → s.cvCompare (cvuPage n + 0x100) = false →
    s.cvuFinish n
      = ((((((((s.setCvu n CvuSt.idle).put (cvuPage n) F.HDR.STATUS_IDLE 1).put64 (cvuPage n) F.CVU.RESULT_LO
          (crcFinish (s.cvCfg (cvuPage n + 0x100)) (s.cvu n).reg)).put64 (cvuPage n) F.CVU.RESULT_TS_LO s.now).put (cvuPage n)
          F.CVU.RESULT_STATE_DONE 1).put (cvuPage n) F.CVU.RESULT_STATE_ABORTED 0).put (cvuPage n)
          F.CVU.RESULT_STATE_MISMATCH 0).stat (cvuPage n) 0).intSet (cvuPage n) 1)

/-! The render engine -/

/-- A fetched job that is in order waits with its passes, and one that is not ends with status 0x50 (R187, R188, R189). -/
def Obligations.JobsAreFetched : Prop :=
  (∀ (s : State) (id : Nat) (j : Job), s.job id = some j → j.phase = .fetch →
    let r := (⟨id, 0x58, j.tag, s.waysNow j.tag⟩ : GReader).rd s j.addr 128
    let u := r.1.modJob id (fun j => { j with d := BitVec.ofNat 1024 r.2 })
    let q := u.readPasses ⟨id, 0x58, j.tag, s.waysNow j.tag⟩ (byteF r.2 16 5) (if byteF r.2 1 1 = 0 then byteF r.2 22 2 else 0)
    let st := passesStatus (4096 <<< q.1.get tilerPage F.GTILER.TILER_CFG) none q.2
    (u.jobOk j.tag r.2 = false →
      exec (.jobDescriptorFetched id) s = .next ((u.jobStatus id 0x50).modJob id (fun j => { j with phase := .done })))
    ∧ (u.jobOk j.tag r.2 = true → st ≠ 0 →
      exec (.jobDescriptorFetched id) s = .next ((q.1.jobStatus id st).modJob id (fun j => { j with phase := .done })))
    ∧ (u.jobOk j.tag r.2 = true → st = 0 →
      exec (.jobDescriptorFetched id) s = .next (q.1.modJob id (fun j => { j with phase := .waiting, passes := q.2.map (fun p =>
        ⟨BitVec.ofNat 2048 p, false, 0, 0, [], false, (passColours p).map (fun _ => [])⟩) }))))
  ∧ (∀ (s : State) (id : Nat) (j : Job), s.job id = some j → j.phase ≠ .fetch → exec (.jobDescriptorFetched id) s = .next s)

/-- A waiting job starts when its wait fence has reached its value, and not before (R213), and not while the L2 flush runs
(R211) or the front end does not; it then starts with its class, its limits and the next order, or ends with status 0x50 or
0x57 or that of its dispatch objects (R187, R195, R208, R219). -/
def Obligations.JobsBecomeReady : Prop :=
  (∀ (s : State) (id : Nat) (j : Job), s.job id = some j → j.f 24 2 ≠ 0xFFFF →
    (s.fence (j.f 24 2)).value.toNat < j.f 28 8 → exec (.jobReady id) s = .next s)
  ∧ (∀ (s : State) (id : Nat) (j : Job), s.job id = some j → j.phase ≠ .waiting → exec (.jobReady id) s = .next s)
  ∧ (∀ (s : State) (id : Nat), s.gfx.flushing = true → exec (.jobReady id) s = .next s)
  ∧ (∀ (s : State) (id : Nat) (j : Job), s.job id = some j → j.phase = .waiting →
    (j.f 24 2 = 0xFFFF ∨ j.f 28 8 ≤ (s.fence (j.f 24 2)).value.toNat) → s.gfx.flushing = false → s.feRuns = true →
    let ends := fun (u : State) (st : Nat) => (u.jobStatus id st).modJob id (fun j => { j with phase := .done })
    let cls := if j.f 2 1 = 0 ∧ s.enabled (headPage (j.f 3 1)) = false then 1 else j.f 2 1
    let r := if j.f 1 1 = 1 then objStatus ⟨id, 0x58, j.tag, s.waysNow j.tag⟩ 2 (j.f 48 5) (j.f 64 5) (j.f 72 5) (j.f 8 5)
      (j.f 14 2) s else (s, 0)
    let u := if bit (j.f 21 1) 0 then r.1.jobStartApply.setL2 (r.1.jobStartApply.gfx.l2.filter (fun x =>
      !(x.tag == j.tag && !x.dirty))) else r.1.jobStartApply
    let k : Job := { j with
      phase := .ready, cls := cls, order := u.gfx.nextOrder, ways := u.waysNow j.tag,
      evalAt := u.now + u.get schedPage F.GSCHED.EVAL_INTERVAL, guard := u.get schedPage (F.GSCHED.GUARD.at (j.f 3 1)),
      margin := u.get schedPage F.GSCHED.MARGIN }
    let m := if cls = 0 then u.jobTarget k (j.f 3 1) u.now else k
    (j.f 2 1 = 0 → s.part.heads ≤ j.f 3 1 → exec (.jobReady id) s = .next (ends s 0x50))
    ∧ (¬(j.f 2 1 = 0 ∧ s.part.heads ≤ j.f 3 1) → cls ≠ 0 → s.saveBase (j.tag - 0x10) = 0 →
      exec (.jobReady id) s = .next (ends s 0x57))
    ∧ (¬(j.f 2 1 = 0 ∧ s.part.heads ≤ j.f 3 1) → (cls = 0 ∨ s.saveBase (j.tag - 0x10) ≠ 0) → r.2 ≠ 0 →
      exec (.jobReady id) s = .next (ends r.1 r.2))
    ∧ (¬(j.f 2 1 = 0 ∧ s.part.heads ≤ j.f 3 1) → (cls = 0 ∨ s.saveBase (j.tag - 0x10) ≠ 0) → r.2 = 0 →
      exec (.jobReady id) s = .next ((({ u with gfx := { u.gfx with nextOrder := u.gfx.nextOrder + 1 } } : State).modJob id
        (fun x => { m with status := x.status, berr := x.berr })).deadlineEval id)))

/-- The lowest free core takes a unit of the job that is served next, and in SAFE none is given (R217, R197, R484). -/
def Obligations.CoresAreGivenUnits : Prop :=
  (∀ s : State, s.mode = .safe → exec .coreDispatch s = .next s)
  ∧ (∀ (s : State) (c : Nat) (j : Job), s.mode ≠ .safe → (upto 0 24).find? s.gsettle.coreFree = some c →
    s.gsettle.nextJob = some j → (s.gsettle.applyPoint (gcorePage c) s.gsettle.now 0).enabled (gcorePage c) = true →
    exec .coreDispatch s = .next ((s.gsettle.applyPoint (gcorePage c) s.gsettle.now 0).giveUnit c j))
  ∧ (∀ s : State, s.mode ≠ .safe → ((upto 0 24).find? s.gsettle.coreFree = none ∨ s.gsettle.nextJob = none) →
    exec .coreDispatch s = .next s.gsettle)
  ∧ (∀ (s : State) (c p i : Nat) (j : Job), s.savedOf j.id = none → j.nextUnit = some (.tile p i) →
    s.giveUnit c j = ((((s.setGcore c ⟨some (j.id, .tile p i), s.now, none, false, s.now, []⟩).put (gcorePage c)
      F.HDR.STATUS_IDLE 0).modJob j.id (fun j => { j with given := true })).modJob j.id (fun j => { j with
        passes := j.passes.modify p (fun q => { q with next := i + 1 }) })).tileLoad j.id c p i)
  ∧ (∀ (s : State) (c i : Nat) (j : Job), s.savedOf j.id = none → j.nextUnit = some (.group i) →
    s.giveUnit c j = ((((s.setGcore c ⟨some (j.id, .group i), s.now, none, false, s.now, []⟩).put (gcorePage c) F.HDR.STATUS_IDLE 0).modJob
      j.id (fun j => { j with given := true })).modJob j.id (fun j => { j with gNext := i + 1 })))

/-- The tiler fetches and judges a draw, finishes a pass whose draws are all fetched, and on an exhausted heap flushes into the
spill buffer where it holds the pass, else ends the job with 0x53 (R195, R197, R198). -/
def Obligations.Binning : Prop :=
  (∀ (s : State) (id n k : Nat) (j : Job) (q : PassSt), s.job id = some j → j.phase = .ready → j.binning = some (k, q) →
    q.draw < byteF q.d.toNat 16 4 →
    let r := (⟨id, 0x59, j.tag, j.ways⟩ : GReader).rd s (byteF q.d.toNat 8 5 + 64 * q.draw) 64
    let v := drawStatus ⟨id, 0x59, j.tag, j.ways⟩ j r.2 r.1
    let u := v.1.modJob id (fun j => { j with passes := j.passes.modify k (fun q => { q with draw := q.draw + 1 }) })
    (v.2 ≠ 0 → exec (.drawValidate id n) s = .next ((u.jobStatus id v.2).stat fePage 2))
    ∧ (v.2 = 0 → exec (.drawValidate id n) s = .next (u.stat tilerPage 0 n)))
  ∧ (∀ (s : State) (id k : Nat) (j : Job) (q : PassSt), s.job id = some j → j.phase = .ready → j.binning = some (k, q) →
    q.draw = byteF q.d.toNat 16 4 →
    exec (.passBinned id) s = .next (s.modJob id (fun j => { j with
      passes := j.passes.modify k (fun q => { q with binned := true }) })))
  ∧ (∀ (s : State) (id k : Nat) (j : Job) (q : PassSt) (px : List (Option Byte)), s.job id = some j → j.phase = .ready →
    j.binning = some (k, q) →
    let p := q.d.toNat
    let need := byteF p 4 2 * byteF p 6 2 * passSamples p * passSample p
    let a := s.areaInit j 0x59 p q.flushed (0, 0, byteF p 4 2, byteF p 6 2)
    ((byteF p 32 5 = 0 ∨ byteF p 40 4 < need) →
      exec (.binHeapExhausted id px) s = .next (((s.jobStatus id 0x53).stat tilerPage 2).modJob id (fun j => { j with
        passes := j.passes.take k
        phase := if j.passDone = k then .done else j.phase })))
    ∧ (byteF p 32 5 ≠ 0 → need ≤ byteF p 40 4 →
      exec (.binHeapExhausted id px) s = .next (((a.1.gwrite id 0x59 j.tag j.ways false ((overlay a.2 px).length / 64 + 2)
        (byteF p 32 5) (overlay a.2 px)).modJob id (fun j => { j with
          passes := j.passes.modify k (fun q => { q with flushed := true }) })).stat tilerPage 1)))

/-- A tile whose signature equals the stored one is not written; any other is stored with its signature (R200); a core that runs
no tile, or no workgroup, has none to resolve or retire. -/
def Obligations.TilesAndWorkgroups : Prop :=
  (∀ (s : State) (j : Job) (c d i k : Nat) (px : List Byte), k ≠ 4 → bit (attF d k 9 1) 0 = true → bit (attF d k 9 1) 1 = false →
    attF d k 8 1 = 0 → s.flag sigPage F.GSIG.SIG_CFG = true →
    let sig := tileSig (i % passCols d) (i / passCols d) k (attF d k 6 1) px
    let r := s.greadN j.id (0x40 + c) j.tag j.ways (bit (attF d k 29 1) 7) (attF d k 24 5 + 8 * i) 8
    (r.2.1 = true → r.2.2 = sig →
      s.tileAtt j c d i k false px = (((r.1.stat sigPage 0).stat sigPage 1).stat64 sigPage 2 px.length, false))
    ∧ (r.2.1 = true → r.2.2 ≠ sig →
      s.tileAtt j c d i k false px = (((r.1.stat sigPage 0).tileStore j c d i k px).gwrite j.id (0x40 + c) j.tag j.ways
        (bit (attF d k 29 1) 7) 3 (attF d k 24 5 + 8 * i) (natBytes 8 sig), true)))
  ∧ (∀ (s : State) (c : Fin 24) (px : List (Option Byte)) (f : Nat) (acts : List ShAct), (s.gcore c.val).unit = none →
    exec (.tileResolve c px f acts) s = .next s ∧ exec (.workgroupRetired ⟨c, acts⟩) s = .next s)
  ∧ (∀ (s : State) (c : Fin 24) (id k : Nat) (acts : List ShAct) (j : Job), (s.gcore c.val).unit = some (id, .group k) →
    s.job id = some j →
    let u := (((s.shActs j c.val acts).stat64 countPage 4 (sampleCount acts)).gcoreFree c.val).modJob id (fun j => { j with
      gDone := j.gDone + 1
      phase := if j.gDone + 1 = j.groups then .done else j.phase })
    exec (.workgroupRetired ⟨c, acts⟩) s = .next ((u.coreStops c.val).deadlineEval id))
  ∧ (∀ (s : State) (c : Fin 24) (px : List (Option Byte)) (f id p i : Nat) (acts : List ShAct) (j : Job) (q : PassSt),
    (s.gcore c.val).unit = some (id, .tile p i) → s.job id = some j → j.passes[p]? = some q → s.mayStore c.val = true →
    let d := q.d.toNat
    let a := s.shActs j c.val acts
    let b := (if (a.gcore c.val).preempt.isSome then a.stat schedPage 3 else a).gcoreFree c.val
    let r := b.tileAtts j c.val d i q.flushed (overlay (s.gcore c.val).tile px) (passAtts d) 0
    let col := (passColours d).filter (fun k => r.2.contains k)
    let skip := (passColours d).any (fun k => attF d k 8 1 == 0 && !r.2.contains k)
    let u := ((((if r.2.isEmpty then r.1 else r.1.stat countPage 0).stat64 countPage 2 f).stat64 countPage 4
      (sampleCount acts)).stat (gcorePage c.val) 0).modJob id (fun j => { j with
        wrote := j.wrote + b2n (!r.2.isEmpty)
        skipped := j.skipped + b2n (r.2.isEmpty && skip)
        passes := j.passes.modify p (fun q => { q with
          stored := q.stored ++ [i]
          written := (upto 0 q.written.length).map (fun k =>
            if col.contains k then q.written.getD k [] ++ [i] else q.written.getD k []) }) })
    ∀ x, (u.job id).bind (fun j => j.passes[p]?) = some x → exec (.tileResolve c px f acts) s
      = .next (((if x.stored.length = passTiles d then u.passEnd id p else u).coreStops c.val).deadlineEval id))

/-- A job that has done its work ends: its lines are written back, it leaves the engine, and its descriptor ends with its
status (R189); a job with work left does not end. -/
def Obligations.JobsEnd : Prop :=
  (∀ (s : State) (id : Nat) (j : Job), s.job id = some j → j.phase ≠ .done → exec (.jobEnd id) s = .next s)
  ∧ (∀ (s : State) (id : Nat) (j0 j : Job), s.job id = some j0 → j0.phase = .done →
    ((s.gsettle).l2Tag id j0.tag false).job id = some j →
    let u := (s.gsettle).l2Tag id j0.tag false
    let a := u.jrecTo j.tag 0x0008 fePage u.now (jpay [(16, 5, j.addr), (21, 1, j.status), (22, 2, j.passDone),
      (24, 4, j.wrote), (28, 4, j.skipped)])
    let b := if j.f 26 2 < 4096 ∧ a.fenceOwner (j.f 26 2) = j.tag then a.signal (j.f 26 2) (j.f 36 8) else a
    let c := ((b.descEnd j.ring j.num j.status).costUpdate j).stat fePage 0
    let e := if j.status ≠ 0 then c.stat fePage 1 else c
    let v := if j.cls = 0 then e.stat schedPage 0 else e
    exec (.jobEnd id) s = .next (({ v with gfx := { v.gfx with
      jobs := v.gfx.jobs.filter (fun k => k.id != id)
      saved := v.gfx.saved.filter (fun x => x.job != id) } }.maskEnd j.tag).gfxIdle))

/-- A hung core, a late pre-emption and a missed deadline raise their sources (R212, R221, R224); a saved unit frees its core
(R220); a job that is not ready is not evaluated (R219). -/
def Obligations.HangsPreemptionAndMisses : Prop :=
  (∀ (s : State) (c : Fin 24) (id : Nat) (u : GUnit), (s.gcore c.val).unit = some (id, u) →
    exec (.coreHang c) s = .next ((((((s.waitTo ((s.gcore c.val).took + 1024 * s.get (gcorePage c.val) F.GCORE.CORE_CFG)).hit
      (98 + c.val) c.val).jobStatus id 0x55).jobDrop id).modJob id (fun j => { j with phase := .done })).coreStops c.val))
  ∧ (∀ (s : State) (c : Fin 24) (id q : Nat) (u : GUnit), (s.gcore c.val).unit = some (id, u) →
    (s.gcore c.val).preempt = some q → (s.gcore c.val).late = false →
    let n := match u with
      | .tile _ _ => 3072
      | .group _ => 15360
    exec (.preemptTimeout c) s = .next (((((s.waitTo (q + n)).setGcore c.val { s.gcore c.val with late := true }).hit 97
      c.val).intBit schedPage 2).stat schedPage 6))
  ∧ (∀ (s : State) (c : Fin 24) (ctx : List Byte), (s.gcore c.val).preempt = none →
    exec (.preemptSaveDone c ctx) s = .next s)
  ∧ (∀ (s : State) (c : Fin 24) (ctx : List Byte) (id q : Nat) (u : GUnit) (j : Job), (s.gcore c.val).unit = some (id, u) →
    (s.gcore c.val).preempt = some q → s.job id = some j →
    let used := (s.gfx.saved.filter (fun y => y.tag == j.tag)).map (·.slot)
    let slot := ((upto 0 (2 * s.gcores)).find? (fun n => !used.contains n)).getD 0
    let a := match u with
      | .tile _ _ => s.waitTo (q + s.get schedPage F.GSCHED.TILE_WAIT)
      | .group _ => s
    let d := ((s.gcore c.val).tile ++ ctx).take 196608
    let b := (a.gwrite id (0x40 + c.val) j.tag (a.get l2Page F.GL2.SAVE_WAYS) false (d.length / 64 + 2)
      (a.saveBase (j.tag - 0x10) + slot * 196608) d).gcoreFree c.val
    let e := { b with gfx := { b.gfx with saved := b.gfx.saved ++
      [(⟨j.tag, slot, id, u, d.length, min (s.gcore c.val).tile.length d.length⟩ : Saved)] } }.stat64 schedPage 14
        (cdiv d.length 128)
    exec (.preemptSaveDone c ctx) s = .next (match u with
      | .tile _ _ => (e.stat schedPage 3).stat schedPage 4
      | .group _ => e.stat schedPage 5))
  ∧ (∀ (s : State) (id : Nat) (j : Job), s.job id = some j → j.phase ≠ .ready →
    exec (.deadlineEval id) s = .next s)
  ∧ (∀ (s : State) (id : Nat) (j : Job), s.job id = some j → j.phase = .ready → j.cls = 0 →
    let u := s.waitTo j.evalAt
    exec (.deadlineEval id) s = .next ((u.modJob id (fun j => { j with
      evalAt := j.evalAt + s.get schedPage F.GSCHED.EVAL_INTERVAL })).deadlineEval id))
  ∧ (∀ (s : State) (id : Nat) (j : Job), s.job id = some j → j.cls ≠ 0 → exec (.deadlineMiss id) s = .next s)
  ∧ (∀ (s : State) (id : Nat) (j0 j : Job), s.job id = some j0 → (j0.phase = .ready ∨ j0.phase = .done) → j0.cls = 0 →
    (((s.waitTo j0.tgt).gsettle).costTouch j0).job id = some j → ∃ t, exec (.deadlineMiss id) s = .next t
    ∧ ∀ k, t.job id = some k → k.dl = t.nextSlack (j.f 3 1) j.dl ∧ k.tgt = k.dl - k.guard)

/-- The L2 flush begins by the register, holds new jobs back, and ends with the cache empty (R211); a cost flush removes the
entries of the tenancies that its bits name (R218, R227). -/
def Obligations.FlushesOfTheEngine : Prop :=
  (∀ (s : State) (r : Req), s.MayWrite r (l2Page + 0x140) →
    exec (.l2FlushAll r) s = .next { s.put l2Page F.GL2.L2_CTRL 1 with gfx := { s.gfx with flushing := true } })
  ∧ (∀ s : State, s.gfx.flushing = true → ∃ t, exec .l2FlushDone s = .next t ∧ t.gfx.flushing = false)
  ∧ (∀ s : State, s.gfx.flushing = false → exec .l2FlushDone s = .next s)
  ∧ (∀ (s : State) (r : Req) (m : BitVec 16), s.MayWrite r (schedPage + 0x1C0) →
    exec (.costFlush r m) s = .next { s with gfx := { s.gfx with
      cost := s.gfx.cost.filter (fun e => !(decide (0x10 ≤ e.tag ∧ e.tag < 0x20) && bit m.toNat (e.tag - 0x10))) } })
  ∧ (∀ (s : State) (r : Req), s.MayWrite r (schedPage + 0x1C0) →
    exec (.costFlushAll r) s = .next { s with gfx := { s.gfx with
      cost := s.gfx.cost.filter (fun e => !decide (0x10 ≤ e.tag ∧ e.tag < 0x20)) } })

/-! Touch -/

/-- A restart that is due begins at its tick, or after a failed one at the retry's (R239, R240): the panel is in state RESTART
with slot 0 next; the slots of a restart follow each other by the step time, slot 0 sends HELLO, and a slot that has no
special packet sends IDLE. -/
def Obligations.TouchRestarts : Prop :=
  (∀ (s : State) (p : Fin 4) (t : Nat), (s.panel p.val).startAt = some t →
    ∀ rsps, exec (.touchRestart p rsps) s = .next (forL (fun r s => s.restartSlot p.val r) rsps
      ((s.waitTo t).panelRestart p.val (max t s.now) false)))
  ∧ (∀ (s : State) (p : Fin 4) (rsp : List (List Byte)), (s.panel p.val).startAt = none →
    exec (.touchRestart p rsp) s = .next (forL (fun r s => s.restartSlot p.val r) rsp s))
  ∧ (∀ (s : State) (p : Fin 4) (t : Nat), (s.panel p.val).retryAt = some t →
    exec (.touchRestartRetry p) s = .next ((s.waitTo t).panelRestart p.val (max t s.now) true))
  ∧ (∀ (s : State) (p : Fin 4), (s.panel p.val).retryAt = none → exec (.touchRestartRetry p) s = .next s)
  ∧ (∀ (s : State) (p : Fin 4) (rsp : List Byte) (t0 : Nat) (ag : Bool), s.panelState p.val = 1 →
    (s.panel p.val).rst = some (t0, 0, ag) →
    exec (.touchSlot p rsp) s = .next
      (let u := (s.waitTo (t0 + 0 * s.pf p.val F.PANEL.STEP_CFG_STEP_TICKS)).tchRead p.val rsp
       let v := u.1.modPanel p.val (fun x => { x with rst := some (t0, 0 + 1, ag) })
       v.tchSend p.val (1, v.helloPay p.val) rsp))
  ∧ (∀ (s : State) (p : Fin 4) (rsp : List Byte) (t0 k : Nat) (ag : Bool), s.panelState p.val = 1 →
    (s.panel p.val).rst = some (t0, k, ag) → k ≠ 0 → k ≠ 2 → k ≠ 4 →
    exec (.touchSlot p rsp) s = .next
      ((((s.waitTo (t0 + k * s.pf p.val F.PANEL.STEP_CFG_STEP_TICKS)).tchRead p.val rsp).1.modPanel p.val (fun x =>
        { x with rst := some (t0, k + 1, ag) })).tchSend p.val (idleReq 0) rsp))
  ∧ (∀ (s : State) (p : Fin 4) (rsp : List Byte), s.panelState p.val = 1 →
    exec (.touchSlot p rsp) s = .next (s.restartSlot p.val rsp))
  ∧ (∀ (s : State) (p : Fin 4) (rsp : List Byte) (f : TFrame), s.panelState p.val ≠ 1 → (s.panel p.val).frame = some f →
    f.next < f.n + 2 →
    let a := s.waitTo (f.t0 + f.next * f.step)
    let b := if f.next = 1 then ((a.sourceAt (10 + p.val) (f.t0 + f.step)).put (panelPage p.val) F.PANEL.FRAME_SEQ f.seq).stat
      (panelPage p.val) (if a.panelState p.val = 4 then 1 else 0) else a
    let q := if f.next < f.n then b.stepReq p.val f f.next (b2n (f.next == 0)) else idleReq 0
    ∃ u n, u = b.transact p.val q rsp ∧ exec (.touchSlot p rsp) s = .next (u.1.modPanel p.val (fun x =>
      { x with frame := some n })) ∧ n.next = f.next + 1 ∧ n.bad = (f.bad || u.2 == .error) ∧ n.t0 = f.t0 ∧ n.n = f.n)
  ∧ (∀ (s : State) (p : Nat) (t : Nat) (ag : Bool), ∃ x : PanelSt, s.panelRestart p t ag
      = ((((s.setPanelState p 1).put (panelPage p) F.PANEL.PANEL_CMD_RESTART 0).put (panelPage p) F.PANEL.PANEL_STATE_DUAL
        0).setPanel p x).stat (panelPage p) 8 ∧ x.rst = some (t, 0, ag)
      ∧ x.startAt = none ∧ x.retryAt = none ∧ x.frame = none)

/-- The bits of `PANEL_CMD` wait for the panel's next apply point (R268): a restart in DOWN begins at once. -/
def Obligations.PanelCommands : Prop :=
  ∀ (s : State) (r : Req) (p : Fin 4), s.MayWrite r (panelPage p.val + 0x1A0) →
    let cmd (v : Word) : State := s.wr (panelPage p.val + 0x1A0) (s.rd (panelPage p.val + 0x1A0) ||| (v &&& 7))
    ((cmd 1).panelState p.val ≠ 5 → exec (.touchPanelRestart r p) s = .next (cmd 1))
    ∧ ((cmd 1).panelState p.val = 5 →
      exec (.touchPanelRestart r p) s = .next ((cmd 1).panelRestart p.val (cmd 1).now false))
    ∧ exec (.touchReacquire r p) s = .next (cmd 2)
    ∧ exec (.touchDozeCmd r p) s = .next (cmd 4)

/-- The frames of a panel (R232, R243, R246, R260, R263): a frame whose slots have not ended is not processed, a discarded one is
counted and loses the link after LOSS_FRAMES, a good one clears the count and is taken; a frame starts at its grid's tick; a
keep-alive leaves a panel without frames as it is. -/
def Obligations.TouchFrames : Prop :=
  (∀ (s : State) (p : Fin 4), (s.panel p.val).frame = none → exec (.touchFrameProcessed p) s = .next s)
  ∧ (∀ (s : State) (p : Fin 4) (f : TFrame), (s.panel p.val).frame = some f → f.next < f.n + 2 →
    exec (.touchFrameProcessed p) s = .next s)
  ∧ (∀ (s : State) (p : Fin 4) (f : TFrame), (s.panel p.val).frame = some f → f.n + 2 ≤ f.next → f.bad = false →
    let b := f.t0 + f.step + f.n * f.step / 2
    exec (.touchFrameProcessed p) s = .next
      ((((s.put64 (panelPage p.val) F.PANEL.LAST_B_LO b).modPanel p.val (fun x => { x with frame := none })).modPanel p.val
        (fun x => { x with bads := 0 })).goodFrame p.val b f))
  ∧ (∀ (s : State) (p : Fin 4) (f : TFrame), (s.panel p.val).frame = some f → f.n + 2 ≤ f.next → f.bad = true →
    let b := f.t0 + f.step + f.n * f.step / 2
    let u := (s.put64 (panelPage p.val) F.PANEL.LAST_B_LO b).modPanel p.val (fun x => { x with frame := none })
    let v := (u.stat (panelPage p.val) 2).modPanel p.val (fun x => { x with bads := (u.panel p.val).bads + 1 })
    (v.pf p.val F.PANEL.FOLLOW_CFG_LOSS_FRAMES ≤ (u.panel p.val).bads + 1 →
      exec (.touchFrameProcessed p) s = .next (v.linkLoss p.val b f))
    ∧ ((u.panel p.val).bads + 1 < v.pf p.val F.PANEL.FOLLOW_CFG_LOSS_FRAMES → exec (.touchFrameProcessed p) s = .next v))
  ∧ (∀ (s : State) (p : Fin 4) (t : Nat),
    let v := s.frameProcessed p.val
    (v.panel p.val).frame = none → (v.panel p.val).nextAt = some t →
    let u := (v.waitTo (max t v.now)).applyPoint (panelPage p.val) (max t v.now) (v.pf p.val F.PANEL.FRAME_SEQ + 1)
    (u.enabled (panelPage p.val) = true → u.panelState p.val ≠ 1 → u.pf p.val F.PANEL.PANEL_CMD_RESTART ≠ 1 →
      exec (.touchFrameStart p) s = .next (u.frameBegin p.val (max t v.now)))
    ∧ (u.enabled (panelPage p.val) = true → u.panelState p.val ≠ 1 → u.pf p.val F.PANEL.PANEL_CMD_RESTART = 1 →
      exec (.touchFrameStart p) s = .next (u.panelRestart p.val (max t v.now) false))
    ∧ ((u.enabled (panelPage p.val) = false ∨ u.panelState p.val = 1) → exec (.touchFrameStart p) s = .next u))
  ∧ (∀ (s : State) (p : Fin 4) (rsp : List Byte) (n : Nat), (s.panel p.val).frame = none → (s.panel p.val).nextAt = some n →
    let t := n - s.pf p.val F.PANEL.DOZE_TICKS + s.pf p.val F.PANEL.STEP_CFG_STEP_TICKS + ((s.panel p.val).keep + 1) * 24576000
    s.panelState p.val = 4 → t < n →
    exec (.touchDozeKeepalive p rsp) s = .next (((s.waitTo t).transact p.val (idleReq 1) rsp).1.modPanel p.val
      (fun x => { x with keep := x.keep + 1 })))
  ∧ (∀ (s : State) (p : Fin 4) (rsp : List Byte), (s.panel p.val).frame ≠ none → exec (.touchDozeKeepalive p rsp) s = .next s)

/-! Haptics and the reflex table -/

/-- A haptic port's frames (R272, R276): a port with no frame due does nothing; a frame counts, sends the control word and the
channels' drive, and reads the answer, which a port of version 1 that is UP ignores (R274); restarts retry when due, and the
registers' restart waits for the port's next frame. -/
def Obligations.HapticPorts : Prop :=
  (∀ (s : State) (p : Fin 2) (rx : List Word), (s.hpt p.val).nextAt = none → exec (.hapticFrame p rx) s = .next s)
  ∧ (∀ (s : State) (p : Fin 2) (rx : List Word) (t : Nat), (s.hpt p.val).nextAt = some t →
    (s.waitTo t).hptMustStop p.val = false → ((s.waitTo t).hptStandby p.val).stby = .none →
    (((s.waitTo t).hptStandby p.val).hpt p.val).stopped = true →
    exec (.hapticFrame p rx) s = .next ((s.waitTo t).hptStandby p.val))
  ∧ (∀ (s : State) (p : Fin 2) (rx : List Word) (t : Nat), (s.hpt p.val).nextAt = some t →
    (s.waitTo t).hptMustStop p.val = false →
    let b := hportPage p.val
    let u := (s.waitTo t).hptStandby p.val
    (u.hpt p.val).stopped = false → u.get b F.HPORT.PORT_CMD ≠ 1 →
    let v := (((u.inc b F.HPORT.FRAME_SEQ).stat b 0).modHpt p.val (fun x => { x with nextAt := some (t + 12800) })).hptBefore p.val
    let up := v.hptState p.val == 2 && (v.hpt p.val).stopping.isNone
    let a := forL (fun c (a : State × List Word) =>
      ((a.1.chanFrame c t up).1, a.2 ++ [BitVec.ofNat 32 (uenc 24 (a.1.chanFrame c t up).2 * 256)])) (portChans p.val) (v, [])
    let w := a.1.modHpt p.val (fun x => { x with tx := v.hptWord p.val :: a.2 ++ [0, 0, 0] })
    let m := ctlRead (rx.getD 0 0)
    let x := if m.isNone then w.stat b 1 else w
    (w.hptState p.val = 2 → v.get b F.HPORT.VER_STATUS_CHOSEN ≠ 2 → exec (.hapticFrame p rx) s = .next w)
    ∧ ((w.hptState p.val ≠ 2 ∨ v.get b F.HPORT.VER_STATUS_CHOSEN = 2) →
      (x.hptState p.val = 3 → exec (.hapticFrame p rx) s = .next x)
      ∧ (x.hptState p.val ≠ 3 → up = true → exec (.hapticFrame p rx) s = .next ((if m.isSome then
        forL (fun c s => s.sense c (rx.getD (1 + c % 4) 0)) (portChans p.val) x else x).hptStatus p.val m))
      ∧ (x.hptState p.val ≠ 3 → up = false → exec (.hapticFrame p rx) s = .next (x.hptGreet p.val m))))
  ∧ (∀ (s : State) (p : Fin 2) (rxs : List (List Word)), exec (.hapticPortRestart p rxs) s
    = .next (forL (fun rx u => if u.hptState p.val = 1 then u.hapFrame p.val rx else u) rxs s))
  ∧ (∀ (s : State) (p : Fin 2) (t : Nat), (s.hpt p.val).retryAt = some t →
    exec (.hapticRestartRetry p) s = .next ((s.waitTo t).hptRestart p.val))
  ∧ (∀ (s : State) (p : Fin 2), (s.hpt p.val).retryAt = none → exec (.hapticRestartRetry p) s = .next s)
  ∧ (∀ (s : State) (r : Req) (p : Fin 2), s.MayWrite r (hportPage p.val + 0x1A0) →
    exec (.hapticPortRestartCmd r p) s = .next (s.wr (hportPage p.val + 0x1A0) (s.rd (hportPage p.val + 0x1A0) ||| 1)))

/-- The effect store (R279, R280): a load of an aligned readable descriptor into a slot that is not in use begins, a refusal is
written, the fetched descriptor becomes valid or gives the refusal with its byte, and a free of an unused slot clears its bit. -/
def Obligations.EffectStore : Prop :=
  (∀ (s : State) (r : Req), s.MayWrite r (hapPage + 0x110) → s.flag hapPage F.HAP.STORE_RESULT_BUSY = true →
    exec (.effectLoad r) s = .next s ∧ exec (.effectFree r) s = .next s)
  ∧ (∀ (s : State) (r : Req), s.MayWrite r (hapPage + 0x110) → s.flag hapPage F.HAP.STORE_RESULT_BUSY = false →
    let k := s.get hapPage F.HAP.STORE_SEL
    let a := s.get64 hapPage F.HAP.STORE_ADDR_LO % (1 <<< 40)
    let o := s.get hapPage F.HAP.STORE_OWNER
    (a % 64 ≠ 0 → exec (.effectLoad r) s = .next (s.storeResult 0x05 0))
    ∧ (a % 64 = 0 → (o == 1 || isTen o) = true → s.bufOk 0x62 o false a 128 false = true → s.effInUse k = true →
      exec (.effectLoad r) s = .next (s.storeResult 0x07 0))
    ∧ (a % 64 = 0 → (o == 1 || isTen o) = true → s.bufOk 0x62 o false a 128 false = true → s.effInUse k = false →
      exec (.effectLoad r) s = .next { s.put hapPage F.HAP.STORE_RESULT_BUSY 1 with effLoad := some (k, o, a) })
    ∧ (s.effInUse k = true → exec (.effectFree r) s = .next (s.storeResult 0x07 0))
    ∧ (s.effInUse k = false → exec (.effectFree r) s = .next ((s.put hapPage F.HAP.STORE_VALID
        (if bit (s.get hapPage F.HAP.STORE_VALID) k then s.get hapPage F.HAP.STORE_VALID - 2 ^ k
          else s.get hapPage F.HAP.STORE_VALID)).storeResult 0 0)))
  ∧ (∀ s : State, s.effLoad = none → exec .effectLoadDone s = .next s)
  ∧ (∀ (s u : State) (k o a : Nat) (d : List Byte) (m : Nat), s.effLoad = some (k, o, a) →
    { s with effLoad := none }.mread ⟨0x62, o, a, 128, false, false, false⟩ = (u, some (d, m)) →
    let e : Effect := ⟨o, BitVec.ofNat 1024 (bytesNat d)⟩
    (∀ i, e.fault = some i → exec .effectLoadDone s = .next (u.storeResult 0x40 i))
    ∧ (e.fault = none → exec .effectLoadDone s = .next
      (({ u with effects := amSet (fun _ => ⟨0, 0⟩) u.effects k e }.put hapPage F.HAP.STORE_VALID
        (u.get hapPage F.HAP.STORE_VALID ||| 2 ^ k)).storeResult 0 0)))

/-- A trigger joins the channel's queue of arrivals when its slot is valid and the channel's owner owns it, and is dropped with a
count and interrupt bit 4 otherwise (R285); a stop moves an effect to its brake or ends it (R287). -/
def Obligations.HapticTriggers : Prop :=
  (∀ (s : State) (r : Req) (c : Fin 8) (k : Fin 32), s.MayWrite r (hchanPage c.val + 0x130) →
    (s.trigOk c.val k.val = true → exec (.hapticTriggerGo r c k) s = .next
      (s.modHch c.val (fun x => { x with trigs := x.trigs ++ [⟨s.now, 0, k.val, 0⟩] })))
    ∧ (s.trigOk c.val k.val = false → exec (.hapticTriggerGo r c k) s = .next
      ((s.statTo 0xFFFFFFFF (hchanPage c.val) 3 1).intBit (hchanPage c.val) 4)))
  ∧ (∀ (s : State) (r : Req) (c : Fin 8), s.MayWrite r (hchanPage c.val + 0x130) →
    ((s.dequeue c.val).hch c.val).play = none → exec (.hapticTriggerStop r c) s = .next (s.dequeue c.val))
  ∧ (∀ (s : State) (r : Req) (c : Fin 8) (pl : Play), s.MayWrite r (hchanPage c.val + 0x130) →
    ((s.dequeue c.val).hch c.val).play = some pl →
    (((s.dequeue c.val).effect pl.trig.slot).kind pl.seg < 3) →
    let e := (s.dequeue c.val).effect pl.trig.slot
    (3 ≤ e.kind (e.segs - 1) → exec (.hapticTriggerStop r c) s = .next (((s.dequeue c.val).modHch c.val (fun x => { x with
        play := some { pl with seg := e.segs - 1, n := 0, adv := 0 } })).showPlay c.val))
    ∧ (e.kind (e.segs - 1) < 3 → exec (.hapticTriggerStop r c) s = .next ((s.dequeue c.val).effectEnd c.val 5)))
  ∧ (∀ (s : State) (r : Req) (c : Fin 8) (pl : Play), s.MayWrite r (hchanPage c.val + 0x130) →
    ((s.dequeue c.val).hch c.val).play = some pl →
    3 ≤ ((s.dequeue c.val).effect pl.trig.slot).kind pl.seg → exec (.hapticTriggerStop r c) s = .next (s.dequeue c.val))

/-- The fault pin and the fault of a channel (R292): the pin's level shows in its register, a low pin faults the port's enabled
channels, and CLEAR leaves FAULT only with the pin high, the status clear and the port UP. -/
def Obligations.HapticFaults : Prop :=
  (∀ (s : State) (p : Fin 2), exec (.hapFaultPin p false) s = .next (s.put (hportPage p.val) F.HPORT.PORT_STATE_FAULT_PIN 0))
  ∧ (∀ (s : State) (p : Fin 2), (s.put (hportPage p.val) F.HPORT.PORT_STATE_FAULT_PIN 1).enabled (hportPage p.val) = true →
    exec (.hapFaultPin p true) s = .next (forL (fun c s => s.chanFault c 0) (portChans p.val)
      ((s.put (hportPage p.val) F.HPORT.PORT_STATE_FAULT_PIN 1).intBit (hportPage p.val) 2)))
  ∧ (∀ (s : State) (p : Fin 2), (s.put (hportPage p.val) F.HPORT.PORT_STATE_FAULT_PIN 1).enabled (hportPage p.val) = false →
    exec (.hapFaultPin p true) s = .next (forL (fun c s => s.chanFault c 0) (portChans p.val)
      (s.put (hportPage p.val) F.HPORT.PORT_STATE_FAULT_PIN 1)))
  ∧ (∀ (s : State) (c arg : Nat), s.enabled (hchanPage c) = true → s.hchState c ≠ 3 →
    s.chanFault c arg = (((((s.hit (164 + c) arg).intBit (hchanPage c) 3).stat (hchanPage c) 4).effectEnd c 4).dequeue c).put
      (hchanPage c) F.HCHAN.CHAN_STATE_STATE 3)
  ∧ (∀ (s : State) (r : Req) (c : Fin 8), s.MayWrite r (hchanPage c.val + 0x134) → s.hchState c.val ≠ 3 →
    exec (.hapticFaultClear r c) s = .next s)
  ∧ (∀ (s : State) (r : Req) (c : Fin 8), s.MayWrite r (hchanPage c.val + 0x134) → s.hchState c.val = 3 →
    s.flag (hportPage (chanPort c.val)) F.HPORT.PORT_STATE_FAULT_PIN = false →
    bit (s.get (hportPage (chanPort c.val)) F.HPORT.PORT_STATE_STATUS_FAULT) (c.val % 4) = false →
    s.hptState (chanPort c.val) = 2 →
    exec (.hapticFaultClear r c) s = .next ((s.put (hchanPage c.val) F.HCHAN.CHAN_STATE_STATE 0).modHch c.val
      (fun x => { x with ph := 0 })))
  ∧ (∀ (s : State) (q : RflxFrame) (rest : List RflxFrame), s.reflexQ = q :: rest → s.enabled reflexPage = false →
    exec .reflexEvaluate s = .next { s with reflexQ := rest })
  ∧ (∀ (s : State) (q : RflxFrame) (rest : List RflxFrame), s.reflexQ = q :: rest → s.enabled reflexPage = true →
    exec .reflexEvaluate s = .next (forL (fun (e : Nat × BitVec 192) u =>
      if bit e.2.toNat 31 ∧ bits e.2.toNat 27 26 = q.panel then
        forL (fun (v : Nat × Contact) u => u.reflexEvent e.1 e.2.toNat q v.1 v.2) q.evs u
      else u) s.reflex { s with reflexQ := rest }))
  ∧ (∀ (s : State) (q : RflxFrame) (rest : List RflxFrame) (i : Nat) (w : BitVec 192) (c : Contact), s.reflexQ = q :: rest →
    s.enabled reflexPage = true → s.reflex = [(i, w)] → bit w.toNat 31 = true → bits w.toNat 27 26 = q.panel →
    q.evs = [(0, c)] → bits w.toNat 25 24 = 0 → bits w.toNat 47 32 ≤ c.x → c.x < bits w.toNat 79 64 →
    bits w.toNat 63 48 ≤ c.y → c.y < bits w.toNat 95 80 →
    exec .reflexEvaluate s = .next ({ s with reflexQ := rest }.reflexRun i w.toNat q c))
  ∧ (∀ s : State, s.reflexQ = [] → exec .reflexEvaluate s = .next s)

/-! Audio -/

/-- The 96 kHz grid (R305): a boundary with the engine disabled only moves the grid, one with it enabled steps every gain, the
swap, the waiting starts and the players in this order, runs the program once, and shows the latency tolerance; a block marker
comes on the grid of 614,400 ticks. -/
def Obligations.AudioGrid : Prop :=
  (∀ (s : State) (errs : List (Nat × Nat × Nat)),
    let t := nextMult 6400 s.audio.lastRun s.now
    let m := if t % 614400 = 0 ∧ (s.waitTo t).audio.marker < t then (s.waitTo t).markerAt t else s.waitTo t
    (m.enabled aengPage = false → exec (.sampleBoundary errs) s = .next (m.modAudio (fun a => { a with lastRun := t })))
    ∧ (m.enabled aengPage = true →
      let u := forL (fun g s => s.gainStep g) (upto 0 128) (m.modAudio (fun a => { a with lastRun := t }))
      let v := (((forL (fun r s => s.playStep r t) (upto 0 16) ((u.swapStep t).lineStartsAt t)).runProgram t errs).sinksOut
        (t + 6400))
      exec (.sampleBoundary errs) s = .next ((v.put aengPage F.AENG.LAT_TOL v.audTol).reportLat 8
        (if v.audTol = 0xFFFFFFFF then none else some (v.now + v.audTol)))))
  ∧ (∀ s : State, exec .audioBlockMarker s = .next ((s.waitTo (nextMult 614400 s.audio.marker s.now)).markerAt
      (nextMult 614400 s.audio.marker s.now)))
  ∧ (∀ (s : State) (t : Nat), (s.markerAt t).audio.gainWr = [])
  ∧ (∀ s : State, s.get abankPage F.ABANK.BANK_STATE_PHASE = 0 → exec .fadeTimeout s = .next s)
  ∧ (∀ s : State, s.get abankPage F.ABANK.BANK_STATE_PHASE ≠ 0 → exec .fadeTimeout s = .next (forN (fun _ u =>
    let late := match u.audio.swap with
      | some w => w.due || w.outLate || w.inLate
      | none => false
    if u.get abankPage F.ABANK.BANK_STATE_PHASE = s.get abankPage F.ABANK.BANK_STATE_PHASE ∧ late = false then
      u.sampleBoundary [] else u) (s.get abankPage F.ABANK.FADE_CFG) s))
  ∧ (∀ s : State, s.get abankPage F.ABANK.BANK_STATE_PHASE = 1 → s.audio.swap = none → s.get abankPage F.ABANK.FADE_CFG = 1 →
    exec .fadeTimeout s = .next (s.sampleBoundary []))

/-- The audio ports (R309, R313): a stopped or follower port starts no frame of its own, a stopped or master port takes no edge,
a loss of the clock enters NO_CLOCK with its source and record. -/
def Obligations.AudioPorts : Prop :=
  (∀ (s : State) (p : Fin 4) (slots : List Nat), (s.af p.val F.APORT.PORT_STATE ≠ 1 ∨ s.af p.val F.APORT.PORT_CFG_ROLE = 1) →
    exec (.audPortFrame p slots) s = .next s)
  ∧ (∀ (s : State) (p : Fin 4) (slots : List Nat), s.af p.val F.APORT.PORT_STATE = 1 → s.af p.val F.APORT.PORT_CFG_ROLE = 0 →
    let u := s.waitTo (nextMult (s.frameT p.val) (s.aport p.val).last s.now)
    let v := (u.setAport p.val { u.aport p.val with last := u.now }).aportCount p.val
    let w := v.convPush (2 * p.val) (u.now + v.frameT p.val) (v.aportIn p.val slots)
    let r := w.convOut (2 * p.val + 1) u.now (w.slotsOut p.val)
    exec (.audPortFrame p slots) s = .next (r.1.aportSend p.val r.2))
  ∧ (∀ (s : State) (p : Fin 4) (n : Nat) (slots : List Nat),
    let u := s.edgeLate p.val
    ((u.af p.val F.APORT.PORT_STATE = 0 ∨ u.af p.val F.APORT.PORT_CFG_ROLE = 0) →
      exec (.audFsEdge p n slots) s = .next u)
    ∧ (u.af p.val F.APORT.PORT_STATE ≠ 0 → u.af p.val F.APORT.PORT_CFG_ROLE ≠ 0 →
      let x := u.aport p.val
      let a := if u.af p.val F.APORT.PORT_STATE = 2 then ((u.put (aportPage p.val) F.APORT.PORT_STATE 1).intBit
        (aportPage p.val) 1).aportRec p.val 2 u.now else u
      let fresh := u.af p.val F.APORT.PORT_STATE ≠ 2 ∧ x.edge = false
      let c := if fresh then a.tookFree else a
      let d := c.setAport p.val { c.aport p.val with last := u.now, edge := true }
      let ok := n == d.af p.val F.APORT.PORT_CFG_FRAME_BITS
      let g := if ok then d else d.stat (aportPage p.val) 1
      let e := if x.edge then g.convPush (2 * p.val) u.now (g.aportIn p.val (if ok then slots else [])) else d
      let y := (e.estimate p.val (if fresh then a.free.toNat % 2 ^ 32 else (u.now - x.last) * 65536) (!x.edge)).aportCount p.val
      let r := y.convOut (2 * p.val + 1) u.now (y.slotsOut p.val)
      exec (.audFsEdge p n slots) s = .next (r.1.aportSend p.val r.2)))
  ∧ (∀ (s : State) (p : Fin 4), (s.af p.val F.APORT.PORT_STATE = 1 ∨ s.af p.val F.APORT.PORT_STATE = 3) →
    s.af p.val F.APORT.PORT_CFG_ROLE = 1 →
    let t := (s.aport p.val).last + 4 * s.frameT p.val
    let u := forL (fun n s => s.setConvState n 0) [2 * p.val, 2 * p.val + 1] ((s.waitTo t).put (aportPage p.val) F.APORT.PORT_STATE 2)
    let v := u.setAport p.val { u.aport p.val with edge := false }
    exec (.audClockLoss p) s = .next ((((v.hit (173 + p.val) 0).intBit (aportPage p.val) 0).stat (aportPage p.val) 2).aportRec
      p.val 1 t))

/-- The inactive bank (R320, R321, R334): its load is refused during a swap and while one runs, an image that is out of order is
refused with the lowest offset, and a good one becomes the inactive bank. -/
def Obligations.ProgramBanks : Prop :=
  (∀ (s : State) (r : Req), s.MayWrite r (abankPage + 0x10C) → s.audio.load.isSome = true →
    exec (.bankLoad r) s = .next s)
  ∧ (∀ (s : State) (r : Req), s.MayWrite r (abankPage + 0x10C) → s.swapping = true →
    (s.audio.load = none → exec (.bankLoad r) s = .next (s.bankDrop.loadResult 0x07 0))
    ∧ exec (.bankInvalidate r) s = .next (s.loadResult 0x07 0))
  ∧ (∀ (s : State) (r : Req), s.MayWrite r (abankPage + 0x10C) → s.swapping = false →
    let a := s.get64 abankPage F.ABANK.LOAD_ADDR_LO % (1 <<< 40)
    let n := s.get abankPage F.ABANK.LOAD_SIZE
    exec (.bankInvalidate r) s = .next (s.bankDrop.loadResult 0 0)
    ∧ (s.audio.load = none → (a % 64 ≠ 0 ∨ n % 8 ≠ 0) → exec (.bankLoad r) s = .next (s.bankDrop.loadResult 0x05 0))
    ∧ (s.audio.load = none → a % 64 = 0 → n % 8 = 0 → n ≤ 131072 →
      s.bufOk 0x60 (s.owner abankPage) false a n false = true →
      exec (.bankLoad r) s = .next ((s.bankDrop.put abankPage F.ABANK.LOAD_RESULT_BUSY 1).modAudio
        (fun x => { x with load := some (a, n) }))))
  ∧ (∀ (s u : State) (a n m : Nat) (d : List Byte), s.audio.load = some (a, n) →
    (s.modAudio (fun x => { x with load := none })).mread ⟨0x60, (s.modAudio (fun x => { x with load := none })).owner abankPage,
      a, n, false, false, false⟩ = (u, some (d, m)) →
    bankFaults n d = [] → u.swapping = false →
    exec .bankLoadDone s = .next (((u.setBankAt (1 - u.activeBank) (bankOf d (u.bankAt (1 - u.activeBank)))).put abankPage
      F.ABANK.BANK_STATE_INACTIVE_VALID 1).loadResult 0 0))
  ∧ (∀ (s u : State) (a n m i : Nat) (d : List Byte), s.audio.load = some (a, n) →
    (s.modAudio (fun x => { x with load := none })).mread ⟨0x60, (s.modAudio (fun x => { x with load := none })).owner abankPage,
      a, n, false, false, false⟩ = (u, some (d, m)) →
    (bankFaults n d).foldl (fun (m : Option Nat) i => some (min i (m.getD i))) none = some i →
    exec .bankLoadDone s = .next (u.loadResult 0x40 i))
  ∧ (∀ s : State, s.audio.load = none → exec .bankLoadDone s = .next s)

/-- Players (R327, R329): a fired trigger line waits for its sample; a start of a preloaded player plays from frame 0 and a start
of any other is counted and dropped; the frames that a preload awaits set PRELOADED. A coefficient is read with its tap advanced
(R315). -/
def Obligations.PlayersAndTriggers : Prop :=
  (∀ (s : State) (r : Req) (k : Fin 64), s.MayWrite r (aengPage + 0x110) → s.enabled aengPage = true →
    exec (.trigFire r k) s = .next { s with lineStarts := s.lineStarts ++ [(s.now, k.val)] })
  ∧ (∀ (s : State) (r : Req) (k : Fin 64), s.MayWrite r (aengPage + 0x110) → s.enabled aengPage = false →
    exec (.trigFire r k) s = .next s)
  ∧ (∀ (s : State) (k : Nat), s.flag aengPage (F.AENG.TRIG_VALID.at k) = false → s.lineFire k = s.stat aengPage 5)
  ∧ (∀ (s : State) (k : Fin 16), (s.player k.val).pre = false → exec (.playerPreloadDone k) s = .next s)
  ∧ (∀ (s u : State) (k : Fin 16) (l : List (List Int)), (s.player k.val).pre = true →
    s.earcon k.val 0 (min 2048 (s.plf k.val F.AENG.PLAY_FRAMES)) = (u, some l) →
    exec (.playerPreloadDone k) s = .next
      ((u.setPlayer k.val { PlayerSt.idle with head := l }).put aengPage F.AENG.PLAY_STATE_PRELOADED
        ((u.setPlayer k.val { PlayerSt.idle with head := l }).get aengPage F.AENG.PLAY_STATE_PRELOADED ||| 2 ^ k.val)))
  ∧ (∀ (s u : State) (k : Fin 16), (s.player k.val).pre = true →
    s.earcon k.val 0 (min 2048 (s.plf k.val F.AENG.PLAY_FRAMES)) = (u, none) →
    exec (.playerPreloadDone k) s = .next (u.setPlayer k.val { s.player k.val with pre := false }))
  ∧ (∀ (s : State) (r : Req) (i : PInfo), s.MayRead r (asrcPage + 0xF40) i → ∃ u : State, exec (.asrcCoefRead r) s = .next u
      ∧ u.get asrcPage F.ASRC.COEF_SEL_TAP = (s.asrcRead).1.get asrcPage F.ASRC.COEF_SEL_TAP
      ∧ u.resp = some ⟨r.rid, BitVec.ofNat 24 (asrcPage + 0xF40),
        (Config.asrcCoef (s.get asrcPage F.ASRC.COEF_SEL_PHASE) (s.get asrcPage F.ASRC.COEF_SEL_TAP)).signExtend 32⟩)

/-! The DRAM controller -/

/-- A request that may not be made is answered with an error, one that meets a channel which is not ready or a disabled controller
too, one for an unswept granule waits for the sweep, and any other joins its channel's queue (R337, R343, R346, R354, R443).  An
engine whose domain is off or in reset, and one that does not carry the tag, makes no request (R12, R13, R15). -/
def Obligations.DramRequests : Prop :=
  (∀ (s : State) (rid : BitVec 8) (tag : BitVec 12) (k : Nat) (a : BitVec 40) (w l : Bool) (n : Nat) (d : List Byte), n ≠ 0 →
    (w = true → d.length = n) → s.engineRuns rid.toNat = true → s.engineTag rid.toNat tag.toNat = true →
    (tag ≠ 0 ∨ rid.toNat / 32 = 5) →
    let rq : MemRq := ⟨rid.toNat, tag.toNat, a.toNat, n, w, false, l⟩
    let v := s.modDc (fun x => { x with order := x.order ++ [(rq, k)] })
    (v.potBlocks rq = true → exec (.dramRequest rid tag k a w l n d) s
      = .next { v with potWait := v.potWait ++ [⟨rq, k, d, 0, v.now, false, false⟩] })
    ∧ (∀ u, v.potBlocks rq = false → v.judge rq = (u, none) →
      exec (.dramRequest rid tag k a w l n d) s = .next (u.dramReply rq k false []))
    ∧ (∀ u e, v.potBlocks rq = false → v.judge rq = (u, some e) → remoteAddr rq.addr = false →
      exec (.dramRequest rid tag k a w l n d) s = .next (u.dramArrive rq k d))
    ∧ (∀ u e, v.potBlocks rq = false → v.judge rq = (u, some e) → remoteAddr rq.addr = true →
      exec (.dramRequest rid tag k a w l n d) s = .next (u.dramReply rq k false [])))
  ∧ (∀ (s : State) (rq : MemRq) (k : Nat) (ok : Bool) (d : List Byte) (e : MemRq × Nat), s.dramOldest rq.rid k = some e →
    (e.1 ≠ rq → s.dramReply rq k ok d = s.modDc (fun x => { x with held := x.held ++ [⟨rq, k, ok, d⟩] }))
    ∧ (e.1 = rq → s.dc.held = [] → s.dramReply rq k ok d
      = (s.modDc (fun x => { x with order := dropFirst (fun y => y == (rq, k)) x.order })).dramAnswer rq ok d))
  ∧ (∀ (s : State) (rid : BitVec 8) (tag : BitVec 12) (k : Nat) (a : BitVec 40) (w l : Bool) (n : Nat) (d : List Byte),
    (s.engineRuns rid.toNat = false ∨ s.engineTag rid.toNat tag.toNat = false) →
    exec (.dramRequest rid tag k a w l n d) s = .next s)
  ∧ (∀ (s : State) (rq : MemRq) (k : Nat) (d : List Byte), s.enabled dglobPage = true →
    s.chanState (s.rqChan ⟨rq, k, d, s.dramCls rq k, s.now, false, false⟩) = 2 → s.swept (granuleOf rq.addr) = true →
    s.dramArrive rq k d = (s.dramEnq ⟨rq, k, d, s.dramCls rq k, s.now, false, false⟩).dramDrain
      (s.rqChan ⟨rq, k, d, s.dramCls rq k, s.now, false, false⟩))
  ∧ (∀ (s : State) (rq : MemRq) (k : Nat) (d : List Byte), s.enabled dglobPage = false →
    s.dramArrive rq k d = s.globalOff.dramReply rq k false [])
  ∧ (∀ (s : State) (rq : MemRq) (k : Nat) (d : List Byte), s.enabled dglobPage = true →
    s.chanState (s.rqChan ⟨rq, k, d, s.dramCls rq k, s.now, false, false⟩) = 2 → s.swept (granuleOf rq.addr) = false →
    s.dramArrive rq k d = s.sweepWait ⟨rq, k, d, s.dramCls rq k, s.now, false, false⟩)

/-- What a ready channel does with its queue (R347, R348, R350, R352, R356–R360): it serves the candidate that its timing admits,
promotes the oldest request by age, refreshes a bank or postpones the refresh up to eight times, reads MR4, and enters and leaves
power-down and self-refresh; a channel that is not ready, or is in self-refresh, does none of these. -/
def Obligations.DramChannels : Prop :=
  (∀ (s : State) (c : Fin 8) (k : Nat) (q : DramRq),
    ((s.dchan c.val).sr = none ∨ s.chanState c.val ≠ 2) → (s.dramCands c.val)[k]? = some q →
    exec (.dramReadData c k) s = .next (((s.dramServe q).dramAdmit).dramDrain c.val))
  ∧ (∀ (s : State) (c : Fin 8) (k : Nat), (s.dramCands c.val)[k]? = none → exec (.dramReadData c k) s = .next s)
  ∧ (∀ (s : State) (c : Fin 8) (q : DramRq),
    (s.dc.queue.filter (fun q => s.rqChan q == c.val && q.cls != 0 && !q.prom)).foldl (fun (m : Option DramRq) q =>
      match m with
      | some x => if q.arr + s.ageOf q.cls < x.arr + s.ageOf x.cls then some q else m
      | none => some q) none = some q →
    let u := s.waitTo (q.arr + s.ageOf q.cls)
    exec (.agePromotion c) s = .next ((u.modDc (fun d => { d with
      queue := d.queue.map (fun x => if x = q then { x with prom := true } else x) })).stat (chanPage c.val) 6))
  ∧ (∀ (s : State) (c : Fin 8), s.dc.queue.filter (fun q => s.rqChan q == c.val && q.cls != 0 && !q.prom) = [] →
    exec (.agePromotion c) s = .next s)
  ∧ (∀ (s : State) (c : Fin 8) (r : Fin 2) (b : Fin 16), s.chanState c.val = 2 → (s.dchan c.val).sr = none →
    7 ≤ ctrGet (s.dchan c.val).post (r.val * 16 + b.val) → exec (.dramRefresh c r b true) s = exec (.dramRefresh c r b false) s)
  ∧ (∀ (s : State) (c : Fin 8) (r : Fin 2) (b : Fin 16), s.chanState c.val = 2 → (s.dchan c.val).sr = none →
    (ctrGet (s.dchan c.val).post (r.val * 16 + b.val) < 7 →
      exec (.dramRefresh c r b true) s = .next (s.setDchan c.val { s.dchan c.val with
        post := (amSet (fun _ => 0) (s.dchan c.val).post (r.val * 16 + b.val)
          (ctrGet (s.dchan c.val).post (r.val * 16 + b.val) + 1)) }))
    ∧ exec (.dramRefresh c r b false) s = .next (((if bit (s.dchan c.val).pd r.val then s.waitTo (s.now + 8) else s).rankCmd
      c.val r.val).modDchan c.val (fun y => { y with
        post := (amSet (fun _ => 0) y.post (r.val * 16 + b.val) (ctrGet (s.dchan c.val).post (r.val * 16 + b.val)))
        rows := y.rows.filter (fun e => e.1 != r.val * 16 + b.val)
        run := 0 })))
  ∧ (∀ (s : State) (c : Fin 8) (k : Fin 8), s.chanState c.val = 2 → (s.dchan c.val).sr = none →
    let u := s.waitTo ((s.dchan c.val).mr4At + 614400)
    exec (.mr4Read c k) s = .next ((u.put (chanPage c.val) F.DCHAN.CHAN_STATE_MR4_RATE k.val).modDchan c.val (fun y => { y with
      mr4At := u.now
      oscAt := if (u.get (chanPage c.val) F.DCHAN.CHAN_STATE_MR4_RATE != k.val) then min y.oscAt u.now else y.oscAt })))
  ∧ (∀ (s : State) (c : Fin 8) (r : Fin 2), s.chanState c.val = 2 → (s.dchan c.val).sr = none →
    s.flag dpowerPage F.DPOWER.PD_CFG_PD_EN = true → bit (s.dchan c.val).pd r.val = false →
    r.val ≤ s.get (chanPage c.val) F.DCHAN.GEOM_RANKS →
    let u := (s.waitTo ((if r.val = 0 then (s.dchan c.val).cmd0 else (s.dchan c.val).cmd1)
      + s.get dpowerPage F.DPOWER.PD_CFG_PD_IDLE))
    exec (.powerDownEntry c r) s = .next ((u.chanSettle c.val).modDchan c.val (fun y => { y with
      pd := y.pd + (1 <<< r.val), pdAt := (u.chanSettle c.val).now })))
  ∧ (∀ (s : State) (c : Fin 8), s.chanState c.val = 2 → (s.dchan c.val).sr = none →
    s.dc.queue.any (fun q => s.rqChan q == c.val) = false → ∀ b, s.stby = .entry 4 b →
    exec (.selfRefreshEntry c) s = .next (s.srIn c.val))
  ∧ (∀ (s : State) (c : Fin 8), s.chanState c.val = 2 → (s.dchan c.val).sr = none →
    s.dc.queue.any (fun q => s.rqChan q == c.val) = false → s.stby = .none →
    s.flag dpowerPage F.DPOWER.SR_CFG_SR_EN = true →
    let u := s.waitTo ((s.dchan c.val).respAt + s.get dpowerPage F.DPOWER.SR_CFG_SR_IDLE)
    (u.tMinFar (u.get dpowerPage F.DPOWER.SR_EXIT + u.get dpowerPage F.DPOWER.WAKE_GUARD + u.get dpowerPage F.DPOWER.SR_MIN)
      = true → exec (.selfRefreshEntry c) s = .next (u.srIn c.val)))
  ∧ (∀ (s : State) (c : Fin 8), (s.dchan c.val).sr = none → exec (.selfRefreshExit c) s = .next s)
  ∧ (∀ (s : State) (c : Fin 8) (t0 t : Nat), (s.dchan c.val).sr = some t0 →
    let exit := if s.mode == .standby then 24576 else s.get dpowerPage F.DPOWER.SR_EXIT
    let l := s.dc.queue.filter (fun q => s.rqChan q == c.val)
    let t1 := s.tMin.map (fun t => t - exit - s.get dpowerPage F.DPOWER.WAKE_GUARD)
    let t2 := (l.map (fun q => q.arr + s.get dpowerPage F.DPOWER.BG_WAKE + 1)).foldl
      (fun (m : Option Nat) t => some (min t (m.getD t))) none
    (if l.any (fun q => q.cls == 1 || q.cls == 2) then some s.now
      else match t1, t2 with
        | some a, some b => some (min a b)
        | some a, none => some a
        | none, b => b) = some t →
    let u := if s.mode == .standby then (s.waitTo t).put (pg 0x01 1) F.DIV.PHY_PLL_STATUS_DRAM_PLL_LOCKED 1 else s.waitTo t
    exec (.selfRefreshExit c) s = .next (u.srExit c.val (u.now + exit)))
  ∧ (∀ (s : State) (c : Fin 8), s.chanState c.val ≠ 2 → exec (.oscTracking c) s = .next s)
  ∧ (∀ (s : State) (c : Fin 8), s.chanState c.val = 2 → (s.dchan c.val).sr = none →
    ((s.waitTo (s.dchan c.val).oscAt).tMinFar (1024 + (s.waitTo (s.dchan c.val).oscAt).get dpowerPage F.DPOWER.WAKE_GUARD) = true
      ∨ ((s.dchan c.val).oscAt + 6144000 ≤ (s.waitTo (s.dchan c.val).oscAt).now
        ∧ (s.waitTo (s.dchan c.val).oscAt).dc.queue.any (fun q => (s.waitTo (s.dchan c.val).oscAt).rqChan q == c.val && q.cls == 0)
          = false)) →
    ∃ n, n ≤ 1024 ∧ exec (.oscTracking c) s = .next ((s.waitTo (s.dchan c.val).oscAt).tookFree.modDchan c.val (fun y => { y with
      oscAt := (s.waitTo (s.dchan c.val).oscAt).now + 61440000
      serve := max y.serve ((s.waitTo (s.dchan c.val).oscAt).now + n) })))

/-- Training ends ready or failed with its step (R351), the sweep's granules read as zero (R357), and an error of a channel's
command is counted, logged and answered with an error (R360, R361). Errors are injected by the secure world alone (R362). -/
def Obligations.DramTrainingSweepErrors : Prop :=
  (∀ (s : State) (c : Fin 8) (f : Option (Fin 7)), s.chanState c.val ≠ 1 → exec (.dramTrainingDone c f) s = .next s)
  ∧ (∀ (s : State) (c : Fin 8), s.chanState c.val = 1 →
    exec (.dramTrainingDone c none) s = .next
      (((((s.put (chanPage c.val) F.DCHAN.CHAN_STATE_STATE 2).put (chanPage c.val) F.DCHAN.CHAN_STATE_TRAIN_STEP 6).intBit
        (chanPage c.val) 0).put (pg 0x01 1) F.DIV.PHY_PLL_STATUS_DRAM_PLL_LOCKED 1).modDchan c.val (fun x => { x with
          mr4At := s.now, oscAt := s.now + 61440000, respAt := s.now, cmd0 := s.now, cmd1 := s.now })))
  ∧ (∀ (s : State) (c : Fin 8) (k : Fin 7), s.chanState c.val = 1 →
    exec (.dramTrainingDone c (some k)) s = .next
      (((s.put (chanPage c.val) F.DCHAN.CHAN_STATE_STATE 3).put (chanPage c.val) F.DCHAN.CHAN_STATE_TRAIN_STEP k.val).hit 216
        (16 * c.val + k.val)))
  ∧ (∀ (s : State) (g : Fin 128), s.flag dsweepPage F.DSWEEP.SWEEP_STATE_ACTIVE = false → exec (.sweepGranuleDone g) s = .next s)
  ∧ (∀ (s : State) (g : Fin 128), s.dc.sweep.cur.contains g.val = false → exec (.sweepGranuleDone g) s = .next s)
  ∧ (∀ (s : State) (g : Fin 128), s.flag dsweepPage F.DSWEEP.SWEEP_STATE_ACTIVE = true → s.dc.sweep.cur.contains g.val = true →
    let u := if s.swept g.val then s else (s.dramDrop (fun a => a / 0x10000000 == g.val)).setSwept g.val
    let w := forL (fun q v => (v.dramEnq q).dramDrain (v.rqChan q))
      (u.dc.sweep.wait.filter (fun q => granuleOf q.rq.addr == g.val))
      (u.modDc (fun d => { d with sweep := { d.sweep with
        cur := d.sweep.cur.filter (· != g.val), want := d.sweep.want.filter (· != g.val),
        wait := d.sweep.wait.filter (fun q => granuleOf q.rq.addr != g.val) } }))
    exec (.sweepGranuleDone g) s = .next (if w.sweepFill.dc.sweep.cur = [] then w.sweepFill.sweepFinish else w.sweepFill))
  ∧ (∀ (s : State) (c : Fin 8) (a b : Bool), s.chanState c.val ≠ 2 → exec (.dramCmdError c a b) s = .next s)
  ∧ (∀ (s : State) (c : Fin 8), s.chanState c.val = 2 →
    exec (.dramCmdError c false false) s = .next (s.cmdErr c.val 0 none)
    ∧ exec (.dramCmdError c false true) s = .next ((s.cmdErr c.val 0 none).chanFail c.val none))
  ∧ (∀ (s : State) (c : Fin 8) (q : DramRq) (again : Bool), s.chanState c.val = 2 → (s.dramCands c.val).head? = some q →
    let u := (s.cmdErr c.val 0 (some q)).modDc (fun d => { d with queue := dropFirst (fun x => x == q) d.queue })
    let w := if q.rq.write then (if again then (u.blockPoison q.rq.addr).chanFail c.val (some q) else u.blockPoison q.rq.addr) else u
    exec (.dramCmdError c true again) s = .next ((if q.fix then w else w.dramReply q.rq q.stream false []).dramAdmit))
  ∧ (∀ (s : State) (r : Req) (v : Word), s.MayWrite r (deccPage + 0x10C) → r.tag = 1 →
    exec (.eccInject r v) s = .next (s.put deccPage F.DECC.INJ_CTL (v.toNat % 4)))
  ∧ (∀ (s : State) (r : Req) (v : Word), s.Reaches r (deccPage + 0x10C) → r.tag ≠ 1 →
    exec (.eccInject r v) s = .next (s.violation r (deccPage + 0x10C) true))

/-! Stored-data integrity -/

/-- Audits, scrubs, bulk clears, leaks and the log (R374, R378–R384, R391): what is disabled does nothing, an audit that falls due
starts at bank 0 or waits for the running one, a scrub step without damage only moves its time, a leak takes one from its bucket
and is due again, the log's oldest entry leaves, and a bulk clear ends. -/
def Obligations.IntegrityEngine : Prop :=
  (∀ s : State,
    let toA := s.mode != .run && s.mode != .standby
    exec .conversionSweepDone s = .next ((forL (fun b u => (forL (fun w u => if u.poolA w = toA then u else u.reencode w toA)
      (u.bankWords b) u).setBank b ⟨0, toA, 0⟩) s.classS s).put mmodePage F.MMODE.CONVERT_STATE_DONE 1))
  ∧ (∀ s : State, s.classS = [] → exec .conversionSweepDone s = .next (s.put mmodePage F.MMODE.CONVERT_STATE_DONE 1))
  ∧ (∀ s : State, s.enabled mscrubPage = true → s.flag mscrubPage F.MSCRUB.AUDIT_CFG_AUDIT_EN = true → s.pMode = true →
    let u := s.waitTo (s.mem.auditAt + 1024 * s.get mscrubPage F.MSCRUB.AUDIT_CFG_AUDIT_PERIOD)
    (s.mem.auditOn = false → exec .auditRoundStart s = .next
      (({ u with mem := { u.mem with auditOn := true, auditLate := false, auditAt := u.now } }).auditBank 0))
    ∧ (s.mem.auditOn = true → exec .auditRoundStart s = .next { u with mem := { u.mem with auditLate := true } }))
  ∧ (∀ s : State, s.enabled mscrubPage = false → exec .auditRoundStart s = .next s ∧ exec .dramScrubStep s = .next s
    ∧ exec (.kScrubStep none) s = .next s)
  ∧ (∀ s : State, s.mem.auditOn = false → exec .auditPassDone s = .next s)
  ∧ (∀ s : State, s.mem.auditOn = true → s.pMode = false →
    let b := s.get mscrubPage F.MSCRUB.AUDIT_STATE_BANK
    let u := ((s.inc mscrubPage F.MSCRUB.OVERRUNS_ABANDONED).put mscrubPage F.MSCRUB.AUDIT_STATE_PHASE 0).setBank b
      { s.bank b with phase := if (s.bank b).phase = 3 then 0 else (s.bank b).phase }
    exec .auditPassDone s = .next { u with mem := { u.mem with auditOn := false, auditLate := false } })
  ∧ (∀ s : State, s.mem.auditOn = true → s.pMode = true →
    let b := s.get mscrubPage F.MSCRUB.AUDIT_STATE_BANK
    let u := if (s.bank b).phase = 1 ∨ (s.bank b).phase = 2 then s
      else (forL (fun w v => v.auditWord w) (s.bankWords b) s).setBank b ⟨0, false, 0⟩
    let w := (u.inc mscrubPage F.MSCRUB.AUDIT_ROUNDS).put mscrubPage F.MSCRUB.AUDIT_STATE_PHASE 0
    (∀ n, u.classS.find? (fun x => decide (b < x)) = some n → exec .auditPassDone s = .next (u.auditBank n))
    ∧ (u.classS.find? (fun x => decide (b < x)) = none → exec .auditPassDone s = .next
      (if w.mem.auditLate then (w.inc mscrubPage F.MSCRUB.OVERRUNS_LATE).auditStart
        else { w with mem := { w.mem with auditOn := false } })))
  ∧ (∀ s : State, s.enabled mscrubPage = true → s.flag mscrubPage F.MSCRUB.K_SCRUB_CFG_K_SCRUB_EN = true →
    let u := s.waitTo (s.mem.kAt + s.get mscrubPage F.MSCRUB.K_SCRUB_CFG_K_SCRUB_STEP)
    let w : State := { u with mem := { u.mem with kAt := u.now } }
    exec (.kScrubStep none) s = .next w
    ∧ ∀ k : KDamage,
      let e := logEntry k.cause.val (96 + k.bank.val) k.syn.toNat 0xA2 0 1 0 0 k.word.toNat w.now
      let x := (w.logAdd e).hitAcc 220 (96 + k.bank.val) 1 0xA2 0 0
      (k.cause.val = 0 → exec (.kScrubStep (some k)) s = .next ((w.bucketAdd 1 true).logAdd e))
      ∧ (k.cause.val = 2 → exec (.kScrubStep (some k)) s = .next x)
      ∧ (k.cause.val ≠ 0 → k.cause.val ≠ 2 → exec (.kScrubStep (some k)) s = .next (x.stat mscrubPage 2)))
  ∧ (∀ s : State, s.enabled mscrubPage = true → s.flag mscrubPage F.MSCRUB.SCRUB_CFG_SCRUB_EN = true →
    s.flag (pg 0x30 5) F.DSWEEP.SWEEP_STATE_DONE = true → s.enabled dglobPage = true → s.vBytes ≠ 0 →
    let u := s.waitTo (s.mem.scrubAt + s.get mscrubPage F.MSCRUB.SCRUB_CFG_SCRUB_STEP)
    let a := u.get64 mscrubPage F.MSCRUB.SCRUB_PTR_LO % (1 <<< 40)
    let r := (u.scrubWake (u.dramChan a).1).dramServed ⟨0xA1, 0, a, 64, false, false, false⟩ 3
    let v := (forN (fun j v => v.scrubWord (a / 8 + j) (v.dramDec (a / 8 + j))) 8 r).stat mscrubPage 3
    let w := if v.vBytes ≤ a + 64 then (v.put64 mscrubPage F.MSCRUB.SCRUB_PTR_LO 0).inc mscrubPage F.MSCRUB.SCRUB_PASSES
      else v.put64 mscrubPage F.MSCRUB.SCRUB_PTR_LO (a + 64)
    exec .dramScrubStep s = .next { w with mem := { w.mem with scrubAt := w.now } })
  ∧ (∀ (s : State) (b : Fin 128), exec (.bulkClearDone b) s = .next
      { s with mem := { s.mem with clearing := s.mem.clearing.filter (· != b.val) } })
  ∧ (∀ (s : State) (b : Fin 10), s.enabled bucketPage = true →
    let u := s.waitTo (ctrGet s.leakAt b.val)
    exec (.bucketLeak b) s = .next
      { u.put bucketPage (F.MBUCKET.LEVEL.at b.val) (u.get bucketPage (F.MBUCKET.LEVEL.at b.val) - 1) with
        leakAt := (amSet (fun _ => 0) u.leakAt b.val (ctrGet s.leakAt b.val
          + 1024 * u.get bucketPage (F.MBUCKET.BUCKET_LEAK.at b.val))) })
  ∧ (∀ (s : State) (b : Fin 10), s.enabled bucketPage = false → exec (.bucketLeak b) s = .next s)
  ∧ (∀ (s : State) (r : Req), s.MayWrite r (logPage + 0x104) →
    exec (.logPop r) s = .next { s with elog := s.elog.drop 1 })

/-! Faults and the safe state -/

/-- Hits, acceptance and reactions (R469, R471, R473, R475, R480–R484): an enabled source that is not pending joins its
aggregator's queue; a masked event merges into its window's slot; an unmasked one with no reactions that finds its slot free is
captured; a bus timeout is a hit with its access; the acknowledgements, the pin, the injections, the slots and the entry into
SAFE have the effects of their registers. -/
def Obligations.FaultsAreTaken : Prop :=
  (∀ (s : State) (src : Fin 383) (arg : BitVec 16) (acc : Fin 5) (r : Req) (addr : BitVec 40) (i : SrcInfo),
    srcInfo src.val = some i → srcPresent s.part src.val = true → s.mode ≠ .off → s.mode ≠ .backup →
    let e : Ev := if srcAccess src.val then ⟨src.val, arg.toNat, acc.val, r.rid.toNat, r.tag.toNat, addr.toNat⟩
      else ⟨src.val, arg.toNat, 0, 0, s.owner (srcPage src.val arg.toNat), 0⟩
    let u := (s.incSat (srcBank src.val) (F.FBANK.SRC_COUNT_HITS.at (src.val % 48))).setRaised src.val
    let w := if (u.maskedBy i.home src.val arg.toNat).isSome then
        u.put (srcBank src.val) (F.FBANK.SRC_COUNT_MASKED.at (src.val % 48)) 1 else u
    (bit (w.srcCfg src.val) 5 = true → w.srcPending src.val = false → exec (.faultHit src arg acc r addr) s = .next
      ((w.put (srcBank src.val) (F.FBANK.SRC_COUNT_PENDING.at (src.val % 48)) 1).setAggr i.home (w.aggr i.home ++ [e])))
    ∧ ((bit (w.srcCfg src.val) 5 = false ∨ w.srcPending src.val = true) → exec (.faultHit src arg acc r addr) s = .next w))
  ∧ (∀ s : State, s.nextAggr = none → exec .faultAccept s = .next s)
  ∧ (∀ (s : State) (d : Nat) (e : Ev) (rest : List Ev) (i : SrcInfo), s.flt.dead = false → s.mode ≠ .off → s.mode ≠ .backup →
    s.nextAggr = some d → s.aggr d = e :: rest → srcInfo e.src = some i →
    let u := ({ s.setAggr d rest with flt := { (s.setAggr d rest).flt with rr := d + 1 } }).put (srcBank e.src)
      (F.FBANK.SRC_COUNT_PENDING.at (e.src % 48)) 0
    let v := bits (u.srcCfg e.src) 7 6
    let w := (u.stat fcollPage v).stat (srcBank e.src) 0
    let x := w.capture475 e i.home v ((u.srcCfg e.src % 32) ||| (if e.src = 13 ∧ e.arg = 1 then reC else 0))
    let y := x.1.setActive v (x.1.active v ||| x.2.2)
    let z := y.setSlot v 0 (y.slotWord v 0 ||| (x.2.2 <<< 22))
    let f := (if x.2.1 = 0 ∧ 2 ≤ v ∧ z.backup.ff.cur.isNone then z.writeFF (z.slotWords v) else z).faultRecord e i.home v x.2.1
      x.2.2 w.now
    (w.maskedBy i.home e.src e.arg = none → exec .faultAccept s = .next
      (if x.2.2 = 0 then f else (f.waitTo (w.now + 3)).startReactions v e.src i.blk x.2.2))
    ∧ (∀ b, w.maskedBy i.home e.src e.arg = some b →
      exec .faultAccept s = .next ((w.mergeInto b.slot e.src).stat fcollPage 5))
    ∧ (w.maskedBy i.home e.src e.arg = none → e.src ≠ 13 → u.srcCfg e.src % 32 = 0 → w.active v = 0 → w.slotValid v = false →
      v < 2 → ∃ a, a = (w.writeRecord v e i.home v).setValid v true
        ∧ exec .faultAccept s = .next (((a.setActive v (a.active v ||| 0)).setSlot v 0
            ((a.setActive v (a.active v ||| 0)).slotWord v 0 ||| (0 <<< 22))).faultRecord e i.home v 0 0 w.now))
    ∧ (w.maskedBy i.home e.src e.arg = none → e.src ≠ 13 → u.srcCfg e.src % 32 ≠ 0 → w.active v = 0 → w.slotValid v = false →
      v < 2 → ∃ a, a = (w.writeRecord v e i.home v).setValid v true
        ∧ exec .faultAccept s = .next ((((((a.setActive v (a.active v ||| u.srcCfg e.src % 32)).setSlot v 0
            ((a.setActive v (a.active v ||| u.srcCfg e.src % 32)).slotWord v 0 ||| ((u.srcCfg e.src % 32) <<< 22)))).faultRecord e
            i.home v 0 (u.srcCfg e.src % 32) w.now).waitTo (w.now + 3)).startReactions v e.src i.blk (u.srcCfg e.src % 32))))
  ∧ (∀ s : State, s.flt.dead = true → exec .faultAccept s = .next s)
  ∧ (∀ (s : State) (b : BReact) (c : Nat), s.flt.breacts.find? (fun b => b.rel.isNone && b.tgt != .secure) = some b → b.tgt = .core c →
    let u := (s.waitTo (b.start + 3072)).coreStart c
    exec .faultBlockResetRelease s = .next { u with flt := { u.flt with breacts := u.flt.breacts.map (fun x =>
      if x.tgt == b.tgt && x.rel.isNone then { x with rel := some u.now } else x) } })
  ∧ (∀ (s : State) (b : BReact) (d : Nat), s.flt.breacts.find? (fun b => b.rel.isNone && b.tgt != .secure) = some b → b.tgt = .domain d →
    exec .faultBlockResetRelease s = .next ((s.waitTo (b.start + 3072)).domHoldEnd d))
  ∧ (∀ (s : State) (b : BReact) (k : Nat), s.flt.breacts.find? (fun b => b.rel.isSome) = some b → b.rel = some k →
    exec .maskingWindowEnd s = .next (((s.waitTo (k + 64)).endB b.tgt).unmask))
  ∧ (∀ (s : State) (d : BitVec 8) (acc : Fin 5) (r : Req) (addr : BitVec 40), isDomain d.toNat = true →
    exec (.busTimeout d acc r addr) s = .next (s.hitAcc (busTimeoutSrc d.toNat) r.rid.toNat acc.val r.rid.toNat r.tag.toNat
      addr.toNat))
  ∧ (∀ (s : State) (r : Req) (v : Word) (c : Nat), s.MayWrite r (fcollPage + 0x108) → c < 4 → r.rid.toNat = 0x80 + c →
    bit v.toNat c = true →
    let o := s.get fcollPage F.FCOLL.COLL_STATE_NMI_OPEN
    let u := s.put fcollPage F.FCOLL.COLL_STATE_NMI_OPEN (o &&& (15 ^^^ (1 <<< c)))
    ((o = 0 ∨ u.get fcollPage F.FCOLL.COLL_STATE_NMI_OPEN ≠ 0) → exec (.nmiAck r v) s = .next u)
    ∧ (o ≠ 0 → u.get fcollPage F.FCOLL.COLL_STATE_NMI_OPEN = 0 → exec (.nmiAck r v) s = .next (u.endReactAll reN)))
  ∧ (∀ (s : State) (r : Req), s.MayWrite r (fcollPage + 0x10C) →
    exec (.release r) s = .next ((s.put fcollPage F.FCOLL.COLL_STATE_PIN_DRIVEN 0).endReactAll reP))
  ∧ (∀ (s : State) (r : Req) (v : Word), s.MayWrite r (fcollPage + 0x110) → bit v.toNat 31 = true →
    (srcInfo (bits v.toNat 8 0)).isSome = true → bits v.toNat 8 0 < 383 →
    exec (.inject r v) s = .next (s.hit (bits v.toNat 8 0) (bits v.toNat 24 9)))
  ∧ (∀ (s : State) (r : Req) (v : Word), s.MayWrite r (fcollPage + 0x114) → v.toNat % 65536 = 0x5AFE → s.flt.dead = false →
    exec (.selfInject r v) s = .next (s.selfFault 3 0x045))
  ∧ (∀ (s : State) (w : BitVec 14), exec (.collectorSelfFault w) s = .next (s.selfFault 1 w.toNat))
  ∧ (∀ (s : State) (cause w : Nat), s.mode ≠ .off → s.mode ≠ .backup → s.flt.dead = false →
    (∀ k, s.rst.chip ≠ some (.cold, k)) →
    let u := s.safeBegin cause w
    s.selfFault cause w = ({ u with flt := { u.flt with dead := true } }).writeFF
      [0x8030017F, u.owner fcollPage, 0, (w <<< 16) + 0x300, s.now % 0x100000000, s.now / 0x100000000, 0, 0, 0, 0,
        s.backup.count.word 0, s.mode.code])
  ∧ (∀ s : State, s.flt.dead = true → ∀ cause w, s.selfFault cause w = s)
  ∧ (∀ (s : State) (r : Req) (v : Word), s.MayWrite r (fcapPage + 0x200) →
    exec (.slotClear r v) s = .next (forN (fun k u => if bit v.toNat k ∧ u.active k = 0 then
      forN (fun j u => u.setSlot k j 0) 16 (u.setValid k false) else u) 4 s))
  ∧ (∀ s : State, s.safeRun = true → s.mode ≠ .safe → ∃ t, exec .safeEntry s = .next t ∧ t.mode = .safe ∧ t.prev = s.mode
    ∧ t.reflexQ = [] ∧ t.safeRun = true ∧ t.pending = s.pending)
  ∧ (∀ s : State, s.mode = .safe → s.safeRun = true → (∀ p, p < 4 → s.get (aportPage p) F.APORT.PORT_STATE ≠ 1) →
    exec .safeTransitionDone s = .next
      ((({ s.put modePage F.MODE.MODE_STATE_IN_TRANSITION 0 with safeRun := false }).modAudio (fun a => { a with
        mclkOff := true })).put64 modePage F.MODE.MODE_TS_LO s.now))

/-! Resets, options and OTP -/

/-- Reset sources act at their levels (R491–R494): a WARM reset asked for in LOAD, RECOVERY or SAFE asserts as COLD (R21), COLD
leaves `SRC_SEEN` with the source alone; the pin, software, debug, BOOT-limit and port sources reach it, and a chip reset is
released when its sources are quiet. -/
def Obligations.ChipResets : Prop :=
  (∀ (s : State) (src : Nat), s.mode = .load ∨ s.mode = .recovery ∨ s.mode = .safe →
    (s.safeRun = false ∨ s.mode = .safe ∨ s.trigNow = false) → s.chipAssert .warm src = s.chipAssert .cold src)
  ∧ (∀ (s : State) (src : Nat), s.mode ≠ .off → s.mode ≠ .backup → ∃ x,
    x = ((s.otpPulse.noteReset .cold src).coldState.put srcsPage F.SOURCES.SRC_SEEN (1 <<< src)) ∧ s.chipAssert .cold src
      = { x with rst := { x.rst with chip := some (.cold, x.now) }, modeReqs := [], modeTrig := some x.now })
  ∧ (∀ s : State, s.mode = .run → s.rst.chip = none → 1 ≤ s.srcLevel 4 → s.srcLevel 4 < 2 →
    s.sourceActs 4 none .software = s.chipAssert .warm 4)
  ∧ (∀ (s : State) (c : RCause), s.mode ≠ .off → s.mode ≠ .backup → 2 ≤ s.srcLevel 3 → s.sourceActs 3 none c = s.chipAssert .cold 3)
  ∧ (∀ (s : State) (d : Nat) (src : Nat) (c : RCause), s.mode ≠ .off → s.mode ≠ .backup → s.mode ≠ .load → s.srcLevel src = 0 →
    s.sourceActs src (some d) c = (s.put srcsPage F.SOURCES.SRC_SEEN
      (s.get srcsPage F.SOURCES.SRC_SEEN ||| (1 <<< src))).domAssert d c 0 0)
  ∧ (∀ s : State, s.rst.resetN = false → exec (.resetNPin true) s
      = .next ({ s with rst := { s.rst with resetN := true } }.sourceActs 2 none .software))
  ∧ (∀ s : State, exec (.resetNPin false) s = .next { s with rst := { s.rst with resetN := false } })
  ∧ (∀ (s : State) (r : Req), s.Reaches r (srcsPage + 0x108) → s.mayReset r = true →
    exec (.swResetWarm r) s = .next (s.sourceActs 4 none .software)
    ∧ exec (.swResetCold r) s = .next (s.sourceActs 3 none .software))
  ∧ (∀ (s : State) (r : Req), s.Reaches r (srcsPage + 0x108) → s.mayReset r = false →
    exec (.swResetWarm r) s = .next (s.violation r (srcsPage + 0x108) true)
    ∧ exec (.swResetCold r) s = .next (s.violation r (srcsPage + 0x108) true))
  ∧ (∀ s : State, s.get worldsPage F.WORLDS.DBG_CFG_TAG ≠ 0 → exec .debugReset s = .next (s.sourceActs 6 none .software))
  ∧ (∀ s : State, s.get worldsPage F.WORLDS.DBG_CFG_TAG = 0 → exec .debugReset s = .next s)
  ∧ (∀ s : State, s.mode = .boot → s.rst.chip = none → s.get srcsPage F.SOURCES.BOOT_LIMIT ≠ 0 → exec .bootTimeout s = .next
      ((s.waitTo (s.rst.bootAt + 614400 * s.get srcsPage F.SOURCES.BOOT_LIMIT)).sourceActs 7 none .software))
  ∧ (∀ s : State, s.mode ≠ .boot → exec .bootTimeout s = .next s)
  ∧ (∀ (s : State) (p : Fin 2), (s.port p.val).perst = false → p.val < s.part.hostPorts → exec (.perstAssert p) s = .next
      (((s.setPort p.val { s.port p.val with perst := true, late := false }).linkDown p.val).sourceActs (9 + p.val)
        (some (6 + p.val)) .perst))
  ∧ (∀ (s : State) (p : Fin 2), s.flag (portPage p.val) F.HOSTP.PORT_INFO_UP = true → p.val < s.part.hostPorts →
    exec (.hotReset p) s = .next ((s.linkDown p.val).sourceActs (11 + p.val) (some (6 + p.val)) .hot))
  ∧ (∀ (s : State) (p : Fin 2), s.flag (portPage p.val) F.HOSTP.PORT_INFO_UP = false → exec (.hotReset p) s = .next s)
  ∧ (∀ (s : State) (src : Fin 14), 2 ≤ s.srcLevel src.val →
    exec (.coldReset src) s = .next (s.chipAssert .cold src.val) ∧ exec (.warmReset src) s = .next s)
  ∧ (∀ (s : State) (src : Fin 14), s.srcLevel src.val = 1 → exec (.warmReset src) s = .next (s.chipAssert .warm src.val)
    ∧ ((s.mode = .load ∨ s.mode = .recovery ∨ s.mode = .safe) → exec (.coldReset src) s = .next (s.chipAssert .cold src.val))
    ∧ (s.mode ≠ .load → s.mode ≠ .recovery → s.mode ≠ .safe → exec (.coldReset src) s = .next s))
  ∧ (∀ (s : State) (src : Fin 14), s.srcLevel src.val = 0 →
    exec (.coldReset src) s = .next s ∧ exec (.warmReset src) s = .next s)
  ∧ (∀ (s : State) (k : Nat), s.rst.chip = some (.warm, k) → s.rst.resetN = false → s.rst.rootAbsent = false →
    let u := s.waitTo (k + 8192)
    let v : State := { u with rst := { u.rst with chip := none }, modeReqs := [], modeTrig := none }
    (s.safeRun = false → s.mode ≠ .safe → exec .chipResetRelease s = .next (v.enterBoot.convBegin true))
    ∧ ((s.safeRun = true ∨ s.mode = .safe) → exec .chipResetRelease s = .next v))
  ∧ (∀ (s : State) (k : Nat), s.rst.chip = some (.cold, k) → s.rst.resetN = false → s.rst.rootAbsent = false →
    s.rst.testEn = false → exec .chipResetRelease s = .next
      { (s.waitTo (k + 8192)).put rootPage F.ROOT.ROOT_STATUS_PLL_LOCKED 0 with thymeRun := false })
  ∧ (∀ s : State, s.rst.resetN = true → exec .chipResetRelease s = .next s)

/-- DOMAIN and BLOCK resets (R497, R498): a request is judged and its domain asserted, a refusal writes its reason; the hold ends
after 3,072 ticks; an ended BLOCK reset leaves the page at its reset values with a RESET record (R499). -/
def Obligations.DomainAndBlockResets : Prop :=
  (∀ (s : State) (r : Req) (d : BitVec 8), s.Reaches r (blockreqPage + 0x100) → gateWriter r = true →
    exec (.domainResetRequest r d) s = .next (s.domRequest r d.toNat))
  ∧ (∀ (s : State) (r : Req) (d : BitVec 8), s.Reaches r (blockreqPage + 0x100) → gateWriter r = false →
    exec (.domainResetRequest r d) s = .next (s.violation r (blockreqPage + 0x100) true))
  ∧ (∀ (s : State) (r : Req) (d : Nat), isDomain d = true → domPresent s.part d = true → noDomReset.contains d = false →
    r.tag = 1 →
    let u := ((s.put blockreqPage F.BLOCKREQ.DOMAIN_RESULT_REASON 0).put blockreqPage F.BLOCKREQ.DOMAIN_RESULT_DOMAIN d).put
      blockreqPage F.BLOCKREQ.DOMAIN_RESULT_DONE 0
    (s.srcLevel 13 = 0 → s.domRequest r d = (u.put srcsPage F.SOURCES.SRC_SEEN
      (u.get srcsPage F.SOURCES.SRC_SEEN ||| (1 <<< 13))).domAssert d .software r.rid.toNat 0)
    ∧ (s.srcLevel 13 = 1 → s.domRequest r d = u.chipAssert .warm 13)
    ∧ (2 ≤ s.srcLevel 13 → s.domRequest r d = u.chipAssert .cold 13))
  ∧ (∀ (s : State) (r : Req) (d : Nat), isDomain d = true → domPresent s.part d = true → noDomReset.contains d = true →
    s.domRequest r d = ((s.put blockreqPage F.BLOCKREQ.DOMAIN_RESULT_REASON 0x40).put blockreqPage
      F.BLOCKREQ.DOMAIN_RESULT_DOMAIN d).put blockreqPage F.BLOCKREQ.DOMAIN_RESULT_DONE 1)
  ∧ (∀ (s : State) (d : Nat) (c : RCause) (rid src : Nat), s.domReset d = none →
    s.domAssert d c rid src = (forL (fun (p : Nat) (s : State) => s.pageReset p) (pagesOf d) s).setDom d
      (some ⟨(forL (fun (p : Nat) (s : State) => s.pageReset p) (pagesOf d) s).now, c, rid, src⟩))
  ∧ (∀ (s : State) (d : BitVec 8), s.recHolds d.toNat = true → exec (.domainResetRelease d) s = .next s)
  ∧ (∀ (s : State) (d : BitVec 8) (x : DomRst), s.domReset d.toNat = some x → s.recHolds d.toNat = false →
    ((s.waitTo (x.start + 3072)).setGated d.toNat false).domClockOk d.toNat = true →
    exec (.domainResetRelease d) s = .next (((s.waitTo (x.start + 3072)).setGated d.toNat false).domEnd d.toNat false))
  ∧ (∀ (s : State) (d : BitVec 8), s.domReset d.toNat = none → exec (.domainResetRelease d) s = .next s)
  ∧ (∀ (s : State) (p : PageNo) (i : PInfo) (r : Req) (k : Nat), pinfoAt (pageBase p) = some i → i.kind ≠ .ten →
    (s.ctl (pageBase p)).inReset = some (r, k) → (s.setGated (domOf (pageBase p)) false).domClockOk (domOf (pageBase p)) = true →
    exec (.blockResetDone p) s = .next (((s.setGated (domOf (pageBase p)) false).pageReset (pageBase p)).resetRecord
      (pageBase p) k 0 (pnoOf (pageBase p)) .software r.rid.toNat false 0))
  ∧ (∀ (s : State) (p : PageNo), (s.ctl (pageBase p)).inReset = none → exec (.blockResetDone p) s = .next s)

/-- The option load, the recovery image, OTP and the backup region (R503–R509, R516, R518). -/
def Obligations.OptionsAndOtp : Prop :=
  (∀ (s : State) (e : Bool), s.mode = .load → s.rst.loading = true → s.rst.chip = none → (e || s.loadOptions.loadBad) = true →
    s.loadOptions.rst.fails < 2 → ∃ t, exec (.optionLoadDone e) s = .next t ∧ t.rst.fails = s.loadOptions.rst.fails + 1
      ∧ t.rst.loading = false ∧ t.rst.loaded = false ∧ t.mode = .load ∧ t.rst.retryAt = some (t.now + 6144)
      ∧ t.pending = s.pending)
  ∧ (∀ (s : State), s.mode = .load → s.rst.loading = true → s.rst.chip = none → s.loadOptions.loadBad = false →
    ∃ t, exec (.optionLoadDone false) s = .next t ∧ t.rst.fails = 0 ∧ t.rst.loading = false ∧ t.rst.loaded = true
      ∧ t.rst.retryAt = none ∧ (t.rst.bist = true ∨ t.mode = .boot))
  ∧ (∀ (s : State) (e : Bool), s.mode ≠ .load → exec (.optionLoadDone e) s = .next s)
  ∧ (∀ (s : State) (k : Nat), s.rst.retryAt = some k → s.mode = .load → exec .optionLoadRetry s = .next
      { s.waitTo k with rst := { (s.waitTo k).rst with retryAt := none, loading := true } })
  ∧ (∀ s : State, s.rst.retryAt = none → exec .optionLoadRetry s = .next s)
  ∧ (∀ s : State, s.rst.bist = true → exec .bistDone s = .next
      ((forL (fun (b : Nat) (s : State) => s.bulkClear b) ((upto 0 103).filter (bankPresent s.part))
        { s with rst := { s.rst with bist := false } }).enterBoot))
  ∧ (∀ (s : State) (r : Req) (size : BitVec 16), s.Reaches r (otpPage + 0x114) → r.rid = 0 → r.tag = 0x010 → s.mode = .recovery →
    0 < size.toNat → size.toNat ≤ 32768 → exec (.rcvGo r size) s = .next (s.put otpPage F.OTP.RCV_STATE 1))
  ∧ (∀ (s : State) (r : Req) (size : BitVec 16), s.Reaches r (otpPage + 0x114) → s.mode ≠ .recovery →
    exec (.rcvGo r size) s = .next (s.violation r (otpPage + 0x114) true))
  ∧ (∀ (s : State) (ok : Bool), s.get otpPage F.OTP.RCV_STATE = 1 →
    exec (.recoveryVerifyDone ok) s = .next (s.put otpPage F.OTP.RCV_STATE (if ok then 3 else 2)))
  ∧ (∀ (s : State) (r : Req), s.MayWrite r (otpPage + 0x108) → s.mode = .boot ∨ s.mode = .run → s.otpRun = none →
    let w := s.get otpPage F.OTP.OTP_ADDR
    let d := s.rd (otpPage + 0x104)
    (16 ≤ w / 16 → s.otpWord w &&& ~~~d = 0 → exec (.program r) s = .next
      { (s.put otpPage F.OTP.OTP_RESULT_REASON 0).put otpPage F.OTP.OTP_RESULT_BUSY 1 with otpRun := some ⟨w, d, s.now⟩ })
    ∧ (16 ≤ w / 16 → s.otpWord w &&& ~~~d ≠ 0 → exec (.program r) s = .next (s.put otpPage F.OTP.OTP_RESULT_REASON 0x42))
    ∧ (w / 16 < 12 → exec (.program r) s = .next (s.put otpPage F.OTP.OTP_RESULT_REASON 0x10)))
  ∧ (∀ (s : State) (o : OtpRun) (f : Word), s.otpRun = some o →
    let u := (s.waitTo (o.start + 7373)).otpPut o.word ((s.waitTo (o.start + 7373)).otpWord o.word ||| (o.data &&& ~~~f))
    let x := { u with otpRun := none }.put otpPage F.OTP.OTP_RESULT_BUSY 0
    (x.otpWord o.word = o.data → exec (.otpProgramDone f) s = .next x)
    ∧ (x.otpWord o.word ≠ o.data → exec (.otpProgramDone f) s
      = .next ((x.put otpPage F.OTP.OTP_RESULT_REASON 0x43).hit 7 (o.word / 16 - 32))))
  ∧ (∀ (s : State) (r : Req), s.MayWrite r (otpPage + 0x108) → s.otpRun = none → exec (.read r) s = .next
      ((s.wr (otpPage + 0x104) (s.otpWord (s.get otpPage F.OTP.OTP_ADDR))).put otpPage F.OTP.OTP_RESULT_REASON 0))
  ∧ (∀ (s : State) (r : Req), s.MayWrite r (backupPage + 0x100) →
    exec (.clearFf r) s = .next { s with backup := { s.backup with ff := BkItem.blank } })
  ∧ (∀ s : State, s.mode = .run ∨ s.mode = .standby → exec .aliveToggle s = .next (s.waitTo ((s.now / 307200 + 1) * 307200)))
  ∧ (∀ s : State, s.mode ≠ .run → s.mode ≠ .standby → exec .aliveToggle s = .next s)

/-! Worlds, ownership and the service cores -/

/-- Contexts, the ownership table, Coves and measurement (R433, R440, R441, R446, R447, R449): a context of a tenancy is taken
and any other is a stray access; a table command starts or writes its reason; a Cove goes from FREE to BUILDING to SEALED to
CLEARING to FREE; an extension replaces its register by the hash of it and the data. -/
def Obligations.SecureWorld : Prop :=
  (∀ (s : State) (r : Req) (c : Fin 3) (v : Word), s.MayWrite r (worldsPage + 0x100 + 4 * c.val) → isTen (bits v.toNat 11 0) = true →
    (bit v.toNat 31 = true → s.cove (bits v.toNat 27 22) = .sealed) → exec (.ctxWrite r c v) s = .next (s.wr (worldsPage + 0x100 + 4 * c.val) (v &&& 0x8FC00FFF)))
  ∧ (∀ (s : State) (r : Req) (c : Fin 3) (v : Word), s.MayWrite r (worldsPage + 0x100 + 4 * c.val) → (isTen (bits v.toNat 11 0) = false ∨
    (bit v.toNat 31 = true ∧ s.cove (bits v.toNat 27 22) ≠ .sealed)) →
    exec (.ctxWrite r c v) s = .next (s.stray r (worldsPage + 0x100 + 4 * c.val) true))
  ∧ (∀ (s : State) (r : Req), s.MayWrite r (potPage + 0x114) →
    let i := s.get potPage F.POT.POT_INDEX
    let n := s.get potPage F.POT.POT_COUNT
    let v := s.get potPage F.POT.POT_VALUE
    (s.potWriteReason i n v = 0 → exec (.potWrite r) s = .next { (s.put potPage F.POT.POT_RESULT_REASON 0).put potPage
      F.POT.POT_RESULT_BUSY 1 with potRun := some ⟨i, n, BitVec.ofNat 32 v⟩ })
    ∧ (s.potWriteReason i n v ≠ 0 → exec (.potWrite r) s
      = .next (s.put potPage F.POT.POT_RESULT_REASON (s.potWriteReason i n v))))
  ∧ (∀ (s : State) (i n v : Nat), (s.potRun.isSome = true → s.potWriteReason i n v = 0x07)
    ∧ (s.potRun = none → s.dramReady = false → s.potWriteReason i n v = 0x0A)
    ∧ (s.potRun = none → s.dramReady = true → n = 0 ∨ 525056 < i + n → s.potWriteReason i n v = 0x04))
  ∧ (∀ (s : State), s.potRun = none → exec .potWriteDone s = .next s)
  ∧ (∀ (s : State) (c : PotCmd), s.potRun = some c →
    let x := s.potPutEntries c.index c.count c.value.toNat
      (upto (c.index / 2) ((c.index + c.count - 1) / 2 + 1 - c.index / 2))
    let u : State := { x.1 with potRun := none, potCache := x.1.potCache.map (potReplace c.index c.count c.value.toNat) }
    let v := forN (fun t w => w.ownRecord c (entryTens c.value.toNat) x.2.2 t) 16 ((u.put potPage F.POT.POT_RESULT_BUSY 0).put
      potPage F.POT.POT_RESULT_REASON (if x.2.1 then 0x44 else 0))
    exec .potWriteDone s = .next (forL (fun q w => w.dramJudge q.rq q.stream q.data) v.potWait { v with potWait := [] }))
  ∧ (∀ (s : State) (c : PotCmd), s.potRun = some c → s.potWait = [] → ∃ t u : State, exec .potWriteDone s = .next t
      ∧ u = (s.potPutEntries c.index c.count c.value.toNat
        (upto (c.index / 2) ((c.index + c.count - 1) / 2 + 1 - c.index / 2))).1
      ∧ t.potRun = none ∧ t.potWait = [] ∧ t.dram = u.dram ∧ (∀ w, t.dramChkOf w = u.dramChkOf w)
      ∧ t.potCache = u.potCache.map (potReplace c.index c.count c.value.toNat))
  ∧ (∀ (s : State) (r : Req), s.MayWrite r (potPage + 0x114) → s.potRun = none → s.dramReady = true →
    let i := s.get potPage F.POT.POT_INDEX
    (525056 ≤ i → exec (.potRead r) s = .next (s.put potPage F.POT.POT_RESULT_REASON 0x04))
    ∧ (∀ b x, i < 525056 → s.potStored i = true → s.potCache.find? (fun e => e.1 == i / 16) = some (b, x) →
      exec (.potRead r) s = .next ((s.put potPage F.POT.POT_RESULT_REASON 0).put potPage F.POT.POT_READ_VALUE
        (bits x.toNat (32 * (i % 16) + 31) (32 * (i % 16)))))
    ∧ (i < 525056 → s.potStored i = true → s.potCache.find? (fun e => e.1 == i / 16) = none →
      let u := s.put potPage F.POT.POT_RESULT_REASON 0
      let a := u.potBase + 4 * i
      exec (.potRead r) s = .next ((u.dramScan 0x80 1 a 4 8 (a / 64 * 8)).1.potAnswer i (u.dramDec (a / 8)))))
  ∧ (∀ (s : State) (r : Req), s.MayWrite r (potPage + 0x114) → s.potRun.isSome = true →
    exec (.potRead r) s = .next (s.put potPage F.POT.POT_RESULT_REASON 0x07))
  ∧ (∀ (s : State) (r : Req) (n : Fin 64), s.MayWrite r (covePage + 0x300) →
    (s.cove n.val = .free → exec (.build r n) s
      = .next (((s.setCove n.val .building).setMeas (64 + n.val) 0).put covePage F.COVE.COVE_RESULT 0))
    ∧ (s.cove n.val ≠ .free → exec (.build r n) s = .next (s.put covePage F.COVE.COVE_RESULT 0x07))
    ∧ (s.cove n.val = .building → s.coveNamed n.val = true →
      exec (.seal r n) s = .next ((s.setCove n.val .sealed).put covePage F.COVE.COVE_RESULT 0))
    ∧ (s.cove n.val = .building → s.coveNamed n.val = false →
      exec (.seal r n) s = .next (s.put covePage F.COVE.COVE_RESULT 0x0A))
    ∧ (s.cove n.val ≠ .building → exec (.seal r n) s = .next (s.put covePage F.COVE.COVE_RESULT 0x07))
    ∧ (s.cove n.val = .sealed ∨ s.cove n.val = .building → (∀ c, 1 ≤ c → c ≤ 3 → bit (s.ctxWord c) 31 = false) →
      exec (.destroy r n) s = .next (((s.setCove n.val .clearing).coveLeft n.val).put covePage F.COVE.COVE_RESULT 0))
    ∧ (s.cove n.val = .free → exec (.destroy r n) s = .next (s.put covePage F.COVE.COVE_RESULT 0x07)))
  ∧ (∀ (s : State) (n : Fin 64), s.cove n.val ≠ .clearing → exec (.coveClearDone n) s = .next s)
  ∧ (∀ (s : State) (n : Fin 64), s.cove n.val = .clearing →
    exec (.coveClearDone n) s = .next ((forN (fun k u =>
      if u.flag covePage (F.COVE.CRANGE_VALID.at k) ∧ u.get covePage (F.COVE.CRANGE_COVE.at k) = n.val then u.rangeClear k
      else u) 64 s).setCove n.val .free))
  ∧ (∀ (s : State) (r : Req) (t : BitVec 7), s.Reaches r (measPage + 0x470) →
    (r.tag = 1 → 2 ≤ t.toNat → t.toNat < 16 →
      exec (.extend r t) s = .next (s.setMeas t.toNat (extendHash (s.measOf t.toNat) s.extendData)))
    ∧ (r.tag = 1 → 64 ≤ t.toNat → s.cove (t.toNat - 64) = .building →
      exec (.extend r t) s = .next (s.setMeas t.toNat (extendHash (s.measOf t.toNat) s.extendData)))
    ∧ (r.tag = 1 → 64 ≤ t.toNat → s.cove (t.toNat - 64) ≠ .building →
      exec (.extend r t) s = .next (s.refuse measPage (Verdict.no 0x41 0x470 0)))
    ∧ (r.tag = 1 → 16 ≤ t.toNat → t.toNat < 64 →
      exec (.extend r t) s = .next (s.refuse measPage (Verdict.no 0x04 0x470 0)))
    ∧ (r.tag = 1 → t.toNat < 2 → s.mode = .run → s.restart.run = none →
      exec (.extend r t) s = .next (s.refuse measPage (Verdict.no 0x10 0x470 0))))

/-- Mailboxes, the restart of the secure side, watchdogs and service cores (R455, R457–R459, R462, R463): a post of an idle channel
sets BUSY, stamps it and sets the channel's interrupt bit, one of a busy channel sets OVERRUN, DONE clears BUSY with a record; a
restart halts core 0, raises its source and starts the restart; the kick and the expiry of a watchdog, RUN and the machine timer
have their effects. -/
def Obligations.MailboxesAndCores : Prop :=
  (∀ (s : State) (r : Req) (k : Fin 4), s.Reaches r (mboxPage + 0x184 + 0x100 * k.val) → r.tag ≠ 0 →
    r.tag.toNat = s.get mboxPage (F.MBOX.CHAN_OWNER.at k.val) →
    (s.flag mboxPage (F.MBOX.CHAN_STATE_BUSY.at k.val) = false → exec (.mailboxPost r k) s
      = .next (((s.put mboxPage (F.MBOX.CHAN_STATE_BUSY.at k.val) 1).put64 mboxPage (F.MBOX.POST_TS_LO.at k.val)
        s.now).intBit mboxPage k.val))
    ∧ (s.flag mboxPage (F.MBOX.CHAN_STATE_BUSY.at k.val) = true → exec (.mailboxPost r k) s
      = .next (s.put mboxPage (F.MBOX.CHAN_STATE_OVERRUN.at k.val) 1)))
  ∧ (∀ (s : State) (r : Req) (k : Fin 4), s.MayWrite r (mboxPage + 0x184 + 0x100 * k.val) →
    r.tag.toNat ≠ s.get mboxPage (F.MBOX.CHAN_OWNER.at k.val) →
    (s.flag mboxPage (F.MBOX.CHAN_STATE_BUSY.at k.val) = false → exec (.mailboxDone r k) s = .next s)
    ∧ (s.flag mboxPage (F.MBOX.CHAN_STATE_BUSY.at k.val) = true →
      let w := (s.rd (mboxPage + 0x140 + 0x100 * k.val)).toNat
      let u := s.put mboxPage (F.MBOX.CHAN_STATE_BUSY.at k.val) 0
      exec (.mailboxDone r k) s = .next (u.jrecTo (u.get mboxPage (F.MBOX.CHAN_OWNER.at k.val)) 0x0023 mboxPage s.now
        (jpay [(16, 1, k.val), (17, 1, bits w 7 0), (18, 1, bits w 15 8), (19, 1, bits w 23 16)]))))
  ∧ (∀ (s : State) (r : Req), s.MayWrite r (worldsPage + 0x114) →
    exec (.secureRestart (.request r)) s = .next (s.secureTrigger .request))
  ∧ (∀ s : State, s.coreState 0 ≠ 0 → exec (.secureRestart .doubleTrap) s = .next (s.secureTrigger .doubleTrap)
    ∧ exec (.secureRestart .lockstep) s = .next (s.hit 12 0))
  ∧ (∀ (s : State) (c : RestartCause), s.restart.hist.length < 3 → ∃ t, s.secureTrigger c = t
      ∧ t.restart = ⟨some (s.now, c), (s.now :: s.restart.hist).take 3, false⟩ ∧ t.pending = s.pending)
  ∧ (∀ (s : State) (c : RestartCause) (a b h : Nat) (l : List Nat), s.restart.hist = a :: b :: h :: l → s.now - h < 6144000000 →
    ∃ t, s.secureTrigger c = t ∧ t.restart.run = none ∧ t.restart.refused = true)
  ∧ (∀ (s : State) (x : BitVec 384), s.restart.run = none → exec (.secureRestartResume x) s = .next s)
  ∧ (∀ (s : State) (x : BitVec 384) (k : Nat) (c : RestartCause), s.restart.run = some (k, c) → ∃ t,
    exec (.secureRestartResume x) s = .next t ∧ t.restart.run = none
      ∧ t.backup.restarts = s.backup.restarts.write [BitVec.ofNat 32 (s.backup.restarts.word 0 + 1)])
  ∧ (∀ (s : State) (r : Req) (c : Fin 4) (v : Word), s.Reaches r (wdogPage + 0x104 + 8 * c.val) →
    let late := match s.wdDue c.val with
      | some t => decide (t ≤ s.now)
      | none => false
    let u := if late then s.wdExpiry c.val else s
    (v.toNat % 65536 = 0x4B49 → r.rid.toNat = 0x80 + c.val →
      exec (.watchdogKick r c v) s = .next (u.setCore c.val { u.core c.val with wdAt := some u.now }))
    ∧ (v.toNat % 65536 ≠ 0x4B49 ∨ r.rid.toNat ≠ 0x80 + c.val →
      exec (.watchdogKick r c v) s = .next (u.stray r (wdogPage + 0x104 + 8 * c.val) true)))
  ∧ (∀ (s : State) (c : Fin 4), s.wdDue c.val = none → exec (.watchdogExpiry c) s = .next s)
  ∧ (∀ (s : State) (c : Fin 4) (k : Nat), s.wdDue c.val = some k →
    let u := (((s.waitTo k).setCore c.val { (s.waitTo k).core c.val with wdAt := none }).hit (14 + c.val) c.val).intBit wdogPage
      c.val
    exec (.watchdogExpiry c) s = .next (if c.val = 0 then u.secureTrigger .watchdog else u))
  ∧ (∀ (s : State) (r : Req) (c : Fin 4), s.MayWrite r (corePage c.val + 0x100) →
    (c.val ≠ 0 → s.flag (corePage c.val) F.CORE.CORE_CTRL = false → exec (.coreRun r c) s = .next (s.coreStart c.val))
    ∧ (s.flag (corePage c.val) F.CORE.CORE_CTRL = true → exec (.coreRun r c) s = .next s)
    ∧ (c.val ≠ 0 → s.flag (corePage c.val) F.CORE.CORE_CTRL = true → exec (.coreHalt r c) s
      = .next (((s.put (corePage c.val) F.CORE.CORE_CTRL 0).put (corePage c.val) F.CORE.CORE_STATE_STATE 0).put (corePage c.val)
        F.CORE.CORE_STATE_PRIV 0))
    ∧ (c.val = 0 → exec (.coreRun r c) s = .next s ∧ exec (.coreHalt r c) s = .next s))
  ∧ (∀ (s : State) (c : Fin 4), s.coreState c.val = 0 → exec (.machineTimer c) s = .next s)
  ∧ (∀ (s : State) (c : Fin 4), s.coreState c.val ≠ 0 →
    let u := s.waitTo (s.get64 (corePage c.val) F.CORE.MTIMECMP_LO)
    ((u.timerPending c.val = true ∧ u.coreState c.val = 2) →
      exec (.machineTimer c) s = .next (u.put (corePage c.val) F.CORE.CORE_STATE_STATE 1))
    ∧ ((u.timerPending c.val = false ∨ u.coreState c.val ≠ 2) → exec (.machineTimer c) s = .next u))

/-! Host ports, rings, journals and tenancies -/

/-- A host port (R393, R394, R395): `PERST#` rises and starts the 90 ms after which the port enables itself, its link comes up
with its width and speed and goes down with a fault and a reset of every function, a configuration request is retried while the
port is not ready, and an AER event is logged. The doorbells and journal indices of a function (R397), the manager's window
(R399), a completion that does not come (R400) and a Function Level Reset (R428) have the effects of their rules. -/
def Obligations.HostPorts : Prop :=
  (∀ (s : State) (p : Fin 2),
    ((s.port p.val).perst = true → exec (.perstRelease p) s = .next (s.setPort p.val { s.port p.val with
      perst := false, rel := s.now, late := false }))
    ∧ ((s.port p.val).perst = false → exec (.perstRelease p) s = .next s))
  ∧ (∀ (s : State) (p : Fin 2), (s.port p.val).perst = false → (s.port p.val).late = false → s.mode ≠ .off → s.mode ≠ .backup →
    s.rst.chip = none → p.val < s.part.hostPorts →
    let x := s.port p.val
    let u := (s.waitTo (x.rel + 55296000)).setPort p.val { x with late := true }
    ((u.enabled (portPage p.val) = true ∨ u.inReset (portPage p.val) = true) → exec (.portReadyTimeout p) s = .next u)
    ∧ (u.enabled (portPage p.val) = false → u.inReset (portPage p.val) = false → exec (.portReadyTimeout p) s
      = .next ((u.put (portPage p.val) F.HDR.CTRL_ENABLE 1).startBlock (portPage p.val) u.now)))
  ∧ (∀ (s : State) (p : Fin 2) (f : Fin 16) (c : CfgReq), (s.port p.val).perst = false → p.val < s.part.hostPorts →
    s.portReady p.val = false →
    exec (.pcieConfigRequest p f c) s = .next (s.setPort p.val { s.port p.val with crs := (s.port p.val).crs + 1 }))
  ∧ (∀ (s : State) (p : Fin 2) (f : Fin 16), (s.port p.val).perst = false → p.val < s.part.hostPorts →
    s.portReady p.val = true →
    (s.fnExists p.val f.val = false → ∀ c, exec (.pcieConfigRequest p f c) s = .next (s.stat (herrPage p.val) 3))
    ∧ (s.fnExists p.val f.val = true → exec (.pcieConfigRequest p f .other) s = .next s
      ∧ (∀ en n, f.val = 0 → exec (.pcieConfigRequest p f (.sriov en n)) s = .next
        (s.put (funcPage p.val) F.HFUNC.SRIOV_STATE (if en then ones (n.val + 1) else 1)))
      ∧ (∀ en m, exec (.pcieConfigRequest p f (.msix en m)) s = .next
        (((s.put (msixPage p.val) (F.HMSIX.MSIX_STATE_ENABLE.at f.val) (b2n en)).put (msixPage p.val)
          (F.HMSIX.MSIX_STATE_MASK.at f.val) (b2n m)).fnRetry p.val f.val))))
  ∧ (∀ (s : State) (p : Fin 2), s.flag (portPage p.val) F.HOSTP.PORT_INFO_UP = true →
    let u := (s.put (portPage p.val) F.HOSTP.PORT_INFO_UP 0).hit (19 + p.val) 0
    exec (.pcieLinkDown p) s = .next (forL (fun f v => v.flr p.val f) ((upto 0 16).filter (fun f => u.fnExists p.val f)) u))
  ∧ (∀ (s : State) (p : Fin 2) (w : Fin 3) (v : Fin 4), (s.port p.val).perst = false → p.val < s.part.hostPorts →
    s.inReset (portPage p.val) = false → s.mode ≠ .off → s.mode ≠ .backup →
    exec (.pcieLinkUp p w v) s = .next (((s.put (portPage p.val) F.HOSTP.PORT_INFO_UP 1).put (portPage p.val)
      F.HOSTP.PORT_INFO_WIDTH (1 <<< w.val)).put (portPage p.val) F.HOSTP.PORT_INFO_SPEED (v.val + 1)))
  ∧ (∀ (s : State) (p : Fin 2) (k : AerKind) (h : BitVec 128), s.flag (portPage p.val) F.HOSTP.PORT_INFO_UP = true →
    let u := s.aer p.val (aerInfo k).1 (aerInfo k).2 (if (aerInfo k).2 then none else some h)
    exec (.pcieAerEvent p k h) s = .next (if k = .poisoned then u.stat (herrPage p.val) 4 else u))
  ∧ (∀ (s : State) (p : Fin 2) (f : Fin 16) (r : Fin 128) (wr : BitVec 16) (t : Nat),
    s.flag (portPage p.val) F.HOSTP.PORT_INFO_UP = true → s.fnExists p.val f.val = true → s.fnTen p.val f.val = some t →
    (s.ringOwner r.val ≠ 0x10 + t → exec (.doorbell p f r wr) s
      = .next (s.hitAcc 10 (lineOf (ringPage r.val)) 4 p.val (0x10 + t) (4 * r.val)))
    ∧ (s.ringOwner r.val = 0x10 + t → s.ringState r.val ≠ 1 → s.ringState r.val ≠ 2 →
      exec (.doorbell p f r wr) s = .next (s.stat (ringPage r.val) 5))
    ∧ (s.ringOwner r.val = 0x10 + t → (s.ringState r.val = 1 ∨ s.ringState r.val = 2) → s.ringSlots r.val ≤ wr.toNat →
      exec (.doorbell p f r wr) s = .next (s.ringError r.val 5 0))
    ∧ (s.ringOwner r.val = 0x10 + t → (s.ringState r.val = 1 ∨ s.ringState r.val = 2) → wr.toNat < s.ringSlots r.val →
      exec (.doorbell p f r wr) s = .next ((s.ringPut r.val F.RING.RING_WR wr.toNat).wake)))
  ∧ (∀ (s : State) (p : Fin 2) (f : Fin 16) (rd : BitVec 16) (t : Nat),
    s.flag (portPage p.val) F.HOSTP.PORT_INFO_UP = true → s.fnExists p.val f.val = true → s.fnTen p.val f.val = some t →
    (rd.toNat < s.jSlots t → exec (.journalRdWrite p f rd) s = .next (s.put (tenPage t) F.TEN.J_STATE_RD rd.toNat))
    ∧ (s.jSlots t ≤ rd.toNat → exec (.journalRdWrite p f rd) s = .next (s.hitAcc 9 0x09 4 p.val (0x10 + t) 0x800)))
  ∧ (∀ (s : State) (o : BitVec 36) (w : Bool) (n : Nat) (d : List Byte),
    let rcv := s.mode == .recovery
    let q := if rcv then 0 else s.mgrPort
    s.flag (portPage q) F.HOSTP.PORT_INFO_UP = true →
    let len := if w then d.length else n
    let pool := decide (0x800000000 ≤ o.toNat)
    let a := if pool then o.toNat - 0x800000000 else o.toNat
    let top := if pool then s.poolBytesTotal else 0x800000000
    let rq : MemRq := ⟨q, if rcv then 1 else 0x010, a, len, w, pool, false⟩
    len ≠ 0 →
    ((top < a + len ∨ (rcv = true ∧ pool = false)) →
      exec (.bar4Access o w n d) s = .next ((if w then s else s.stat (herrPage q) 3).barEnd 1 []))
    ∧ (a + len ≤ top → (rcv = true → pool = true) → w = true → exec (.bar4Access o w n d) s = .next ((s.mwrite rq d).1.barEnd 0 []))
    ∧ (∀ (u : State) (x : List Byte) (m : Nat), a + len ≤ top → (rcv = true → pool = true) → w = false → s.mread rq = (u, some (x, m)) →
      exec (.bar4Access o w n d) s = .next (u.barEnd 0 x)))
  ∧ (∀ (s : State) (p : Fin 2) (r : Fin 128), (s.ringF r.val F.RING.RING_CFG_SPACE) = 2 + p.val → (s.ring r.val).starting = true →
    exec (.cplTimeout p (.ring r)) s = .next ((s.cplTimeout p.val).ringHeader r.val none))
  ∧ (∀ (s : State) (p : Fin 2) (e : Fin 4) (d : List Byte) (j : CopyJob) (k : Nat), (s.copyEng e.val).running = some (j, k) →
    byteF j.it.d.toNat 10 1 = 2 + p.val →
    exec (.cplTimeout p (.copy e d)) s = .next ((s.cplTimeout p.val).copyDone e.val d))
  ∧ (∀ (s : State) (p : Fin 2) (f : Fin 16), s.flag (portPage p.val) F.HOSTP.PORT_INFO_UP = true → s.fnExists p.val f.val = true →
    exec (.functionLevelReset p f) s = .next (s.flr p.val f.val))

/-- A ring's header makes it RUNNING or gives its error (R404); its descriptors are prefetched, judged and issued in order
(R405–R411): a descriptor of each operation that is in order and has what it waits for is issued with its effect, one that is
not ends the ring with its error, and one that must wait marks the ring BLOCKED. -/
def Obligations.RingsAndDescriptors : Prop :=
  (∀ (s u : State) (r : Fin 128) (data : Option (BitVec 512)) (h : BitVec 512), (s.ring r.val).starting = true →
    s.engineRuns 2 = true → s.ringRead r.val 0 data = (u, some h) →
    let v := negotiateW (u.ring r.val).loc (bits h.toNat 39 32) (bits h.toNat 47 40) (bits h.toNat 63 48) ringFeatures u.now
    let w := u.setRing r.val { u.ring r.val with ver := v, starting := false }
    (bits h.toNat 31 0 ≠ 0x474E4952 → exec (.ringHeaderFetched r data) s = .next (u.ringError r.val 1 0))
    ∧ (bits h.toNat 31 0 = 0x474E4952 → v.reason ≠ 0 → exec (.ringHeaderFetched r data) s = .next (w.ringError r.val 2 0))
    ∧ (bits h.toNat 31 0 = 0x474E4952 → v.reason = 0 → exec (.ringHeaderFetched r data) s = .next (w.setRingState r.val 1)))
  ∧ (∀ (s u : State) (r : Fin 128) (data : Option (BitVec 512)), (s.ring r.val).starting = true → s.engineRuns 2 = true →
    s.ringRead r.val 0 data = (u, none) →
    exec (.ringHeaderFetched r data) s = .next ((u.stat (ringPage r.val) 4).ringError r.val 4 0))
  ∧ (∀ (s u : State) (r : Fin 128) (data : Option (BitVec 512)) (d : BitVec 512),
    let x := s.ring r.val
    let k := (s.ringF r.val F.RING.RING_STATE_RD + x.pre.length) % s.ringSlots r.val
    s.ringLive r.val = true → x.pre.length < 8 → k ≠ s.ringF r.val F.RING.RING_WR → s.engineRuns 2 = true →
    s.ringRead r.val (64 + 64 * k) data = (u, some d) →
    let v := u.stat (ringPage r.val) 2
    (v.descBad r.val d = 0 → exec (.ringDescriptorFetched r data) s
      = .next (v.setRing r.val { v.ring r.val with pre := x.pre ++ [d] }))
    ∧ (v.descBad r.val d ≠ 0 → exec (.ringDescriptorFetched r data) s = .next (v.ringError r.val (v.descBad r.val d) d)))
  ∧ (∀ (s : State) (r : Fin 128), (s.ring r.val).stopping = true → (s.ring r.val).issued = [] →
    exec (.ringStopped r) s = .next ((s.setRingState r.val 0).setRing r.val { s.ring r.val with
      stopping := false, starting := false }))
  ∧ (∀ (s : State) (r : Fin 128) (k : Fin 9) (d : BitVec 512), s.ringHead r.val k.val = some d → s.descBad r.val d ≠ 0 →
    exec (match k.val with
      | 0 => .nop r | 1 => .render r | 2 => .copy r | 3 => .fenceSignal r | 4 => .fenceWait r | 5 => .regs r
      | 6 => .haptic r | 7 => .audioGain r | _ => .earcon r) s = .next (s.ringError r.val (s.descBad r.val d) d))
  ∧ (∀ (s : State) (r : Fin 128) (d : BitVec 512), s.descBad r.val d = 0 →
    let q := s.ringIssue r.val d
    (s.ringHead r.val 0 = some d → exec (.nop r) s = .next (q.1.endAtIssue r.val q.2))
    ∧ (s.ringHead r.val 1 = some d → s.gfx.jobs.length < 255 → ∃ j : Job, j.id = q.1.gfx.nextId ∧ j.tag = q.1.ringOwner r.val
      ∧ j.ring = r.val ∧ j.num = q.2.num ∧ j.addr = byteF q.2.d.toNat 8 5 ∧ j.phase = .fetch
      ∧ exec (.render r) s = .next (({ q.1 with gfx := { q.1.gfx with
        jobs := q.1.gfx.jobs ++ [j], nextId := q.1.gfx.nextId + 1 } } : State).gfxIdle))
    ∧ (s.ringHead r.val 1 = some d → 255 ≤ s.gfx.jobs.length → exec (.render r) s = .next (s.ringBlock r.val))
    ∧ (∀ e, s.ringHead r.val 2 = some d → (s.copyPick (byteF d.toNat 8 1) (s.ringOwner r.val)).isSome = true →
      q.1.copyPick (byteF q.2.d.toNat 8 1) (s.ringOwner r.val) = some e →
      exec (.copy r) s = .next ((q.1.setCopyEng e { q.1.copyEng e with
        queue := (q.1.copyEng e).queue ++ [⟨s.ringOwner r.val, r.val, q.2⟩] }).copyIdle e))
    ∧ (s.ringHead r.val 2 = some d → s.copyPick (byteF d.toNat 8 1) (s.ringOwner r.val) = none →
      exec (.copy r) s = .next (s.ringBlock r.val))
    ∧ (s.ringHead r.val 3 = some d → (s.ring r.val).issued.all (fun i => i.fin.isSome) = true →
      exec (.fenceSignal r) s = .next ((q.1.signal (byteF q.2.d.toNat 8 2) (byteF q.2.d.toNat 16 8)).endAtIssue r.val q.2))
    ∧ (s.ringHead r.val 3 = some d → (s.ring r.val).issued.all (fun i => i.fin.isSome) = false →
      exec (.fenceSignal r) s = .next (s.ringBlock r.val))
    ∧ (s.ringHead r.val 4 = some d → byteF d.toNat 16 8 ≤ (s.fence (byteF d.toNat 8 2)).value.toNat →
      exec (.fenceWait r) s = .next (q.1.endAtIssue r.val q.2))
    ∧ (s.ringHead r.val 4 = some d → (s.fence (byteF d.toNat 8 2)).value.toNat < byteF d.toNat 16 8 →
      exec (.fenceWait r) s = .next (s.ringBlock r.val))
    ∧ (s.ringHead r.val 5 = some d →
      let x := forN (fun k (x : State × Bool) => x.1.regsEntry r.val k q.2.d x.2) (byteF q.2.d.toNat 8 1) (q.1, false)
      exec (.regs r) s = .next (x.1.descEnd r.val q.2.num (if x.2 then 0x61 else 0)))
    ∧ (s.ringHead r.val 6 = some d → exec (.haptic r) s = .next ((if bit (byteF q.2.d.toNat 10 1) 0
        then q.1.trigStop (byteF q.2.d.toNat 8 1)
        else q.1.trigger (byteF q.2.d.toNat 8 1) ⟨q.1.now, 1, byteF q.2.d.toNat 9 1, 0⟩).endAtIssue r.val q.2))
    ∧ (s.ringHead r.val 7 = some d → exec (.audioGain r) s = .next ((q.1.modAudio (fun a => { a with
        gainWr := a.gainWr ++ [(byteF q.2.d.toNat 8 1, byteF q.2.d.toNat 12 3)] })).endAtIssue r.val q.2))
    ∧ (s.ringHead r.val 8 = some d → exec (.earcon r) s = .next
      ((q.1.lineStart (byteF q.2.d.toNat 8 1) q.1.now).endAtIssue r.val q.2)))
  ∧ (∀ (s : State) (r : Fin 128) (i : Issued) (st t : Nat), (s.ring r.val).issued.find? (fun i => i.fin.isSome) = some i →
    i.fin = some (st, t) → exec (.descriptorComplete r) s = .next ((s.setRing r.val { s.ring r.val with
      issued := (s.ring r.val).issued.filter (fun k => k.num != i.num) }).descRecord r.val i st t))
  ∧ (∀ (s : State) (r : Fin 128), (s.ring r.val).issued.find? (fun i => i.fin.isSome) = none →
    exec (.descriptorComplete r) s = .next s)

/-- A copy engine takes the oldest copy of the tenancy with the least key and ends it with its status and address (R413, R414);
the journal writer stores its next record or loses it (R418), and a held message goes out when the holdoff ends (R420); a
tenancy is quiesced, resumed and reset (R425–R427). -/
def Obligations.JournalsAndTenancies : Prop :=
  (∀ (s : State) (e : Fin 4) (t : Nat) (j : CopyJob), (s.copyEng e.val).running = none → s.enabled (copyPage e.val) = true →
    s.mode ≠ .safe → s.engineRuns (4 + e.val) = true →
    let may := fun (t : Nat) => s.share t F.TEN.COPY_SHARE != 0 && !s.stopped t
      && (s.copyEng e.val).queue.any (fun j => j.tag == 0x10 + t)
    let ts := (upto 0 16).filter may
    ts.filter (fun t => ts.all (fun k => keyLe (s.copyKey t) (s.copyKey k))) = [t] →
    (s.copyEng e.val).queue.find? (fun j => j.tag == 0x10 + t) = some j →
    let u := s.setCopyEng e.val ⟨some (j, s.now), dropFirst (fun k => k.tag == 0x10 + t) (s.copyEng e.val).queue⟩
    exec (.copyStart e) s = .next ((match u.copyCvu e.val j.it.d with
      | some n => u.cvuOpen n
      | none => u).copyIdle e.val))
  ∧ (∀ (s : State) (e : Fin 4), ((s.copyEng e.val).running.isSome = true ∨ s.enabled (copyPage e.val) = false ∨ s.mode = .safe
    ∨ s.engineRuns (4 + e.val) = false) → exec (.copyStart e) s = .next s)
  ∧ (∀ (s : State) (e : Fin 4) (d : List Byte) (j : CopyJob) (k : Nat), (s.copyEng e.val).running = some (j, k) →
    let r := s.copyMove e.val j none d
    (r.2.err = none → exec (.copyComplete e d) s = .next ((r.1.copyEnd e.val j r.2 0).stat (copyPage e.val) 0))
    ∧ (∀ a, r.2.err = some a → exec (.copyComplete e d) s = .next ((((r.1.copyEnd e.val j r.2 0x60).put64 (copyPage e.val)
      F.COPY.ERR_ADDR_LO a).intBit (copyPage e.val) 0).stat (copyPage e.val) 1)))
  ∧ (∀ (s : State) (t : Fin 16) (r : JRec) (l : List JRec), (s.journal t.val).queue = r :: l → (s.journal t.val).lost = 0 →
    let u := s.setJournal t.val { s.journal t.val with queue := l }
    let live := s.flag (tenPage t.val) F.TEN.J_CFG_J_EN && s.enabled (tenPage t.val)
    ((live = false ∨ u.jFull t.val = true) → exec (.journalRecordWrite t) s = .next (u.jLose t.val r.seq))
    ∧ (∀ w, live = true → u.jFull t.val = false → u.jStore t.val r = (w, true) → exec (.journalRecordWrite t) s = .next w)
    ∧ (∀ w, live = true → u.jFull t.val = false → u.jStore t.val r = (w, false) →
      exec (.journalRecordWrite t) s = .next (w.jLose t.val r.seq)))
  ∧ (∀ (s : State) (t : Fin 16), s.flag (tenPage t.val) F.TEN.J_CFG_J_EN = true → s.enabled (tenPage t.val) = true →
    s.jFull t.val = false → 0 < (s.journal t.val).lost → (∀ r, (s.journal t.val).queue.head? = some r → r.typ ≠ 0x0041) →
    let j := s.journal t.val
    let u := s.inc (tenPage t.val) F.TEN.J_SEQ
    let r : JRec := ⟨0x0016, lineOf (tenPage t.val), s.now, jpay [(16, 4, j.lost), (20, 4, j.lost0), (24, 4, j.lost1)],
      s.get (tenPage t.val) F.TEN.J_SEQ⟩
    ∀ w, u.jStore t.val r = (w, true) → exec (.journalRecordWrite t) s
      = .next (w.setJournal t.val { w.journal t.val with lost := 0, lost0 := 0, lost1 := 0 }))
  ∧ (∀ (s : State) (t : Fin 16) (m : Nat), (s.journal t.val).held = true → (s.journal t.val).msgAt = some m →
    let u := (s.waitTo (m + s.get (tenPage t.val) F.TEN.J_HOLDOFF)).setJournal t.val { s.journal t.val with held := false }
    exec (.journalHoldoffEnd t) s = .next (if u.flag (tenPage t.val) F.TEN.J_IRQ_J_IRQ_EN ∧ u.jUnread t.val
      then u.jMessage t.val else u))
  ∧ (∀ (s : State) (r : Req) (t : Fin 16), s.MayWrite r (tenPage t.val + 8) →
    exec (.tenancyQuiesce r t) s = .next (s.ctrlWrite (tenPage t.val) r (s.ctrlAs (tenPage t.val) 2 true))
    ∧ exec (.tenancyResume r t) s = .next (s.ctrlWrite (tenPage t.val) r (s.ctrlAs (tenPage t.val) 2 false))
    ∧ exec (.instanceReset r t) s = .next (s.ctrlWrite (tenPage t.val) r (s.ctrlAs (tenPage t.val) 3 true)))
  ∧ (∀ (s : State) (r : Req) (t : Fin 16), s.secureHold (tenPage t.val) = false →
    (s.flag (tenPage t.val) F.HDR.CTRL_QUIESCE = false → s.quiesceBit (tenPage t.val) r true = s.quiesceWrite t.val)
    ∧ (s.flag (tenPage t.val) F.HDR.CTRL_QUIESCE = true → s.quiesceBit (tenPage t.val) r false = s.resumeWrite t.val)
    ∧ (s.quiesced t.val = true → (s.ctl (tenPage t.val)).inReset = none → s.resetBit (tenPage t.val) r
      = (s.instReset t.val).modCtl (tenPage t.val) (fun c => { c with inReset := some (r, (s.instReset t.val).now) })))
  ∧ (∀ (s : State) (t : Fin 16) (q : Quiesce) (done : List (Nat × List Byte)), s.quiesce t.val = some q → q.timedOut = false →
    let u := s.waitTo q.timeout
    let mine := (upto 0 4).filter (fun e => match (u.copyEng e).running with
      | some (j, _) => j.tag == 0x10 + t.val
      | none => false)
    let r := ((forL (fun e v => v.copyStop e (done.getD e (0, [])).1 (done.getD e (0, [])).2) mine u).gsettle).gfxPurge
      (0x10 + t.val)
    exec (.tenancyQuiesceTimeout t done) s = .next ((r.1.setQuiesce t.val (some { q with
      timedOut := true, descs := q.descs + mine.length, jobs := r.2 })).put (tenPage t.val) F.TEN.TEN_STATE_TIMED_OUT 1))
  ∧ (∀ (s : State) (t : Fin 16) (q : Quiesce), s.quiesce t.val = some q → s.workLeft t.val = false →
    let p := tenPage t.val
    let u := ((((s.setQuiesce t.val none).put p F.HDR.STATUS_QUIESCED 1).put p F.TEN.TEN_STATE_QUIESCING 0).put64 p
      F.TEN.QUIESCE_TS_LO s.now).jrec t.val 0x0014 p s.now
        (jpay [(16, 1, b2n q.timedOut), (18, 2, q.descs), (20, 2, q.jobs), (24, 8, q.start)])
    (q.flr = [] → exec (.tenancyQuiesced t) s = .next u)
    ∧ (q.flr ≠ [] → exec (.tenancyQuiesced t) s = .next
      (forL (fun (x : Nat × Nat) v => v.fnReset x.1 x.2) q.flr (u.instReset t.val))))
  ∧ (∀ (s : State) (t : Fin 16), s.workLeft t.val = true → exec (.tenancyQuiesced t) s = .next s)
  ∧ (∀ (s : State) (t : Fin 16), exec (.instanceResetDone t) s
    = .next (s.modCtl (tenPage t.val) (fun c => { c with inReset := none })))

/-! The Tombolo ring -/

/-- A Tombolo port (R526, R529, R530, R543): a due or commanded restart trains it again, block lock takes it to NEGOTIATING, a
restart that takes too long fails with cause 1 and is tried again 6,144,000 ticks after it went down; each flit slot sends HELLO
while it negotiates, else the NAK that is due, the next flit of a replay, the first queued flit or IDLE; a flit that fails its
check is counted, raised and answered with a NAK, and 2,458 ticks of silence take the port down. -/
def Obligations.TomboloPorts : Prop :=
  (∀ (s : State) (p : Fin 2), s.enabled (tportPage p.val) = true → (s.tport p.val).due = true →
    exec (.tmbPortRestart p) s = .next (s.portRestart p.val))
  ∧ (∀ (s : State) (r : Req) (p : Fin 2), s.MayWrite r (tportPage p.val + 0x1A0) → s.enabled (tportPage p.val) = true →
    exec (.tmbRestartCmd r p) s = .next (s.portRestart p.val))
  ∧ (∀ (s : State) (p : Fin 2), (s.tState p.val = 1 → exec (.tmbRestartTimeout p) s
      = .next ((s.waitTo ((s.tport p.val).rstAt + 61440)).tmbFails p.val 1))
    ∧ (s.tState p.val = 2 → exec (.tmbRestartTimeout p) s
      = .next ((s.waitTo ((s.tport p.val).rstAt + 122880)).tmbFails p.val 1))
    ∧ (s.tState p.val ≠ 1 → s.tState p.val ≠ 2 → exec (.tmbRestartTimeout p) s = .next s))
  ∧ (∀ (s : State) (p : Fin 2) (t : Nat), (s.tport p.val).downAt = some t → s.tState p.val = 4 →
    let c := s.get (tportPage p.val) F.TPORT.PORT_STATE_DOWN_CAUSE
    let auto := s.flag (tportPage p.val) F.TPORT.PORT_CFG_AUTO_RESTART
    (((c ≠ 3 ∧ c ≠ 4) ∨ auto = true) → exec (.tmbRestartRetry p) s = .next ((s.waitTo (t + 6144000)).portRestart p.val))
    ∧ ((c = 3 ∨ c = 4) → auto = false → exec (.tmbRestartRetry p) s = .next s))
  ∧ (∀ (s : State) (p : Fin 2), s.tState p.val = 1 → s.enabled (tportPage p.val) = true →
    s.now < (s.tport p.val).rstAt + 61440 →
    exec (.tmbBlockLock p) s = .next (s.put (tportPage p.val) F.TPORT.PORT_STATE_STATE 2))
  ∧ (∀ (s : State) (p : Fin 2), s.enabled (tportPage p.val) = true →
    let q := p.val
    let v := s.waitTo ((s.tport q).slotAt + 65)
    let u := v.modTport q (fun x => { x with slotAt := v.now })
    let x := u.tport q
    (s.tState q = 2 → exec (.tmbFlitSlot p) s = .next (u.tLink q 0x01 0 (u.tmbHello q)))
    ∧ (s.tState q = 3 → x.nak = true → exec (.tmbFlitSlot p) s = .next ((u.modTport q (fun y => { y with nak := false })).tLink q
      0x0C 0 (natBytes 2 (u.get (tportPage q) F.TPORT.PORT_STATE_EXPECTED))))
    ∧ (∀ f l, s.tState q = 3 → x.nak = false → x.resend = f :: l →
      let w := u.modTport q (fun y => { y with resend := l })
      exec (.tmbFlitSlot p) s = .next ((w.tOut q { f with ack := u.tAck q }).stat (tportPage q) 3))
    ∧ (s.tState q = 3 → x.nak = false → x.resend = [] → (x.queue = [] ∨ (∃ e, tFirst x.queue = some e ∧ e.1 ≠ 2 ∧
        64 ≤ x.replay.length)) →
      exec (.tmbFlitSlot p) s = .next ((u.tLink q 0x00 x.next []).stat (tportPage q) 5))
    ∧ (∀ e, s.tState q = 3 → x.nak = false → x.resend = [] → tFirst x.queue = some e →
      let w := u.modTport q (fun y => { y with queue := dropFirst (fun k => k == e) y.queue })
      (e.1 = 2 → exec (.tmbFlitSlot p) s = .next ((w.tLink q e.2.typ 0 (u.timePay q e.2.typ)).timeSent q e.2.typ))
      ∧ (e.1 ≠ 2 → x.replay.length < 64 →
        let f : TFlit := { e.2 with seq := x.next, ack := u.tAck q }
        exec (.tmbFlitSlot p) s = .next ((w.modTport q (fun y => { y with
          next := (y.next + 1) % 65536, replay := y.replay ++ [f] })).tOut q f))))
  ∧ (∀ (s : State) (p : Fin 2), (s.enabled (tportPage p.val) = false ∨ (s.tState p.val ≠ 2 ∧ s.tState p.val ≠ 3)) →
    exec (.tmbFlitSlot p) s = .next s)
  ∧ (∀ (s : State) (p : Fin 2),
    let u := ((s.stat (tportPage p.val) 2).intBit (tportPage p.val) 2)
    let w := u.hit (25 + p.val) (s.get (tportPage p.val) F.TPORT.PORT_STATE_EXPECTED)
    (s.tState p.val = 2 → s.now < (s.tport p.val).rstAt + 122880 → w.tState p.val = 2 → exec (.tmbCheckFail p) s = .next w)
    ∧ (s.tState p.val = 3 → s.now < (s.tport p.val).rxAt + 2458 → w.tState p.val = 3 → exec (.tmbCheckFail p) s = .next (w.nakDue p.val)))
  ∧ (∀ (s : State) (p : Fin 2) (ack seq : BitVec 16), s.tState p.val = 3 → s.now < (s.tport p.val).rxAt + 2458 →
    let u := s.tGood ⟨p.val, 0, ack.toNat, 0, 0⟩
    let x := u.tport p.val
    let n := if x.nakFor.1 = seq.toNat then x.nakFor.2 + 1 else 1
    (16 ≤ n → exec (.nak p ack seq) s = .next (u.portDown p.val 4))
    ∧ (n < 16 → exec (.nak p ack seq) s = .next (u.modTport p.val (fun y => { y with
      nakFor := (seq.toNat, n)
      resend := y.replay.filter (fun r => decide ((r.seq + 65536 - seq.toNat) % 65536 < 32768)) }))))
  ∧ (∀ (s : State) (p : Fin 2), s.tState p.val = 3 →
    let v := s.waitTo ((s.tport p.val).rxAt + 2458)
    let j := v.tNeighbour p.val
    let u := (v.portDown p.val 3).hit (23 + p.val) j
    (u.tAlive j = true → exec (.tmbLinkSilence p) s = .next (u.deviceLost j))
    ∧ (u.tAlive j = false → exec (.tmbLinkSilence p) s = .next u))
  ∧ (∀ (s : State) (p : Fin 2) (mn mx chosen : Byte) (ft : BitVec 16) (i : Fin 4) (n : Fin 5), s.tState p.val = 2 →
    s.now < (s.tport p.val).rstAt + 122880 →
    let u := s.stat (tportPage p.val) 1
    ((n.val ≠ u.ringN ∨ i.val = u.ringIndex ∨ i.val ≠ u.tNeighbour p.val) →
      exec (.hello p mn mx ft i n false chosen) s = .next (u.tmbFails p.val 5))
    ∧ (∀ v, n.val = u.ringN → i.val ≠ u.ringIndex → i.val = u.tNeighbour p.val → (u.tport p.val).ver = v → 0 < v →
      (chosen.toNat = v → exec (.hello p mn mx ft i n false chosen) s = .next (u.portUp p.val))
      ∧ (chosen.toNat ≠ v → exec (.hello p mn mx ft i n false chosen) s = .next u))
    ∧ (n.val = u.ringN → i.val ≠ u.ringIndex → i.val = u.tNeighbour p.val → (u.tport p.val).ver = 0 →
      let v := negotiateW (u.tport p.val).loc mn.toNat mx.toNat ft.toNat (fun v => if v = 2 then 3 else 0) u.now
      let w := (u.putTver p.val v).modTport p.val (fun y => { y with ver := v.chosen })
      v.chosen = 0 → (w.tport p.val).ver = 0 →
        exec (.hello p mn mx ft i n false chosen) s = .next (w.tmbFails p.val 2)))

/-- Flits that an UP port receives in order and for this device have their rule's effect, after the port has counted them and
dropped what they acknowledge; one out of order asks for a replay (R528, R529).  Reads are answered, read data ends its read,
writes are stored, mail is received, credits return, heartbeats keep a device alive, a LAT flit is reported and a RESET flit from
the master acts (R530, R532, R535, R536, R540, R541); TIME and TIME_ECHO align Thyme (R539); time-outs, heartbeats, exchanges,
mirrors and the register commands of the ring act as their rules say (R530, R532, R537, R539, R541, R543). -/
def Obligations.TomboloTraffic : Prop :=
  (∀ (s : State) (x : FlitHdr), s.tState x.p.val = 3 → s.now < (s.tport x.p.val).rxAt + 2458 →
    let f := flitRx x
    let g := s.tGood f
    exec (.idle x) s = .next g
    ∧ (x.seq.toNat ≠ s.get (tportPage f.p) F.TPORT.PORT_STATE_EXPECTED → ∀ k,
      exec (.mbCredit x k) s = .next ((s.modTport f.p (fun y => { y with rxAt := s.now })).nakDue f.p))
    ∧ (∀ t1 t3 : BitVec 64, exec (.timeEcho x t1 t3) s = .next (g.modTport f.p (fun y => { y with
      up3 := match y.up3 with
        | some e => if e.1 = t1.toNat then some (t1.toNat, g.now, t3.toNat) else y.up3
        | none => none })))
    ∧ (∀ t1 t4 t3 : BitVec 64, (g.enabled tsyncPage = false ∨ g.role = 1 ∨ g.tUpstream ≠ some f.p ∨
      g.flag tsyncPage F.TSYNC.SYNC_STATE_CONFLICT = true) → exec (.tmbTime x t1 t4 t3) s = .next g)
    ∧ (∀ t1 t4 t3 : BitVec 64, g.enabled tsyncPage = true → g.role ≠ 1 → g.tUpstream = some f.p →
      g.flag tsyncPage F.TSYNC.SYNC_STATE_CONFLICT = false →
      let w := match (g.tport f.p).down3 with
        | some e => if e.2.2 = t3.toNat ∧ t3.toNat ≠ 0 then g.align f.p e.1 e.2.1 t3.toNat t4.toNat else g
        | none => g
      exec (.tmbTime x t1 t4 t3) s = .next (w.modTport f.p (fun y => { y with
        down3 := if w.now = g.now then some (t1.toNat, g.now, 0) else none
        queue := y.queue ++ [(2, ⟨0x03, 0, 0, 0, 0, 0, []⟩)] }))))
  ∧ (∀ (s : State) (x : FlitHdr), s.tState x.p.val = 3 → s.now < (s.tport x.p.val).rxAt + 2458 →
    let f := flitRx x
    let u := ((s.tGood f).inc (tportPage f.p) F.TPORT.PORT_STATE_EXPECTED).modTport f.p (fun y => { y with
      nakOut := false, nak := false })
    x.seq.toNat = s.get (tportPage f.p) F.TPORT.PORT_STATE_EXPECTED → x.dst.val = u.ringIndex →
    (∀ (tag : BitVec 16) (es : List ReadEntry),
      exec (.readReq x tag es) s = .next (forL (fun (e : REntry) v =>
        let n := max 1 (min 3 e.n)
        let r := forN (fun i (a : State × List (List Byte) × Nat) =>
          let q := a.1.remoteGran f.p f.src (if s.featWith f.src 0 then e else { e with cols := 3 }) (n - 1 - i)
          (q.1, a.2.1 ++ [q.2.1.getD (List.replicate 64 0)], if a.2.2 = 0 then q.2.2 else a.2.2)) n (v, [], 0)
        r.1.tSend f.src 5 0x05 (natBytes 2 tag.toNat ++ natBytes 1 r.2.2 ++ natBytes 1 n
          ++ (if r.2.2 = 0 then r.2.1.flatten else []))) (es.map rEntry) u))
    ∧ (∀ (tag : BitVec 16) (st : Byte) (n : Fin 4) (d : List Byte),
      (u.tmb.reads.find? (fun r => r.tag == tag.toNat) = none → exec (.readData x tag st n d) s = .next u)
      ∧ (∀ r, u.tmb.reads.find? (fun r => r.tag == tag.toNat) = some r →
        (u.now < r.tick + 61440 → st = 0 → exec (.readData x tag st n d) s = .next (u.readEnds r (some d) 0))
        ∧ (u.now < r.tick + 61440 → st ≠ 0 → exec (.readData x tag st n d) s = .next (u.readEnds r none (min 3 st.toNat)))
        ∧ (r.tick + 61440 ≤ u.now → exec (.readData x tag st n d) s = .next (u.readEnds r none 3))))
    ∧ (∀ (a : BitVec 40) (pool : Bool) (d : List Byte) (v : State),
      let rq : MemRq := ⟨0xC0 + f.p, 0x200 + f.src, a.toNat % (1 <<< 40), d.length, true, pool, false⟩
      (u.mwrite rq d = (v, true) → exec (.write x a pool d) s = .next v)
      ∧ (u.mwrite rq d = (v, false) → exec (.write x a pool d) s = .next (v.stat remotePage 6)))
    ∧ (∀ (k : Fin 2) (ws : List Word), exec (.mailbox x k ws) s = .next
      ((((forL (fun i v => v.wr (tmbPage + 0x158 + 0x80 * k.val + 4 * i) (ws.getD i 0)) (upto 0 (min 14 ws.length)) u).put tmbPage
        (F.TMB.MB_STATE_RX_FULL.at k.val) 1).put tmbPage (F.TMB.MB_STATE_RX_SRC.at k.val) f.src).intBit tmbPage k.val))
    ∧ (∀ k : Fin 2, exec (.mbCredit x k) s = .next (u.put tmbPage (F.TMB.MB_STATE_CREDIT.at k.val) 1))
    ∧ (∀ (m fl : Byte) (t : BitVec 64), (u.tAlive f.src = true → u.beatLate f.src = false) →
      let w := u.modTmb (fun y => { y with
        peers := amSet (fun _ => ⟨0, 0, 0, 0, 0⟩) y.peers f.src ⟨u.now, f.p, m.toNat, fl.toNat, t.toNat⟩
        master := if bit fl.toNat 1 then some f.src else y.master })
      (w.tAlive f.src = true → exec (.heartbeat x m fl t) s = .next w)
      ∧ (w.tAlive f.src = false → exec (.heartbeat x m fl t) s = .next (w.deviceBack f.src)))
    ∧ (∀ d : BitVec 64,
      let w := u.modTmb (fun y => { y with
        latRx := amSet (fun _ => none) y.latRx f.src (if d.toNat = 0xFFFFFFFFFFFFFFFF then none else some d.toNat) })
      exec (.lat x d) s = .next (w.reportLat (9 + f.p) (w.tmb.latRx.foldl (fun (m : Option Nat) e =>
        if w.tmbRoute e.1 = some f.p then
          (match e.2, m with
            | some a, some b => some (min a b)
            | some a, none => some a
            | none, m => m)
        else m) none)))
    ∧ (∀ key : BitVec 16, (u.tmb.master = some f.src → key = 0x5254 →
        exec (.reset x key) s = .next (u.sourceActs 8 none .software))
      ∧ ((u.tmb.master ≠ some f.src ∨ key ≠ 0x5254) → exec (.reset x key) s = .next (u.stat tmbPage 7))))
  ∧ (∀ (s : State), s.enabled tmbPage = true → 2 ≤ s.ringN →
    let v := s.waitTo (s.tmb.hbAt + s.get tmbPage F.TMB.HB_CFG_HB_PERIOD)
    let u := v.modTmb (fun t => { t with hbAt := v.now })
    exec .heartbeatSend s = .next (forL (fun j w => if j = w.ringIndex then w else w.tSend j 3 0x09 (natBytes 1 u.mode.code
      ++ natBytes 1 (b2n u.faultLow + 2 * u.get tmbPage F.TMB.RING_CFG_MASTER)
      ++ natBytes 2 0 ++ natBytes 8 u.now)) (upto 0 u.ringN) u))
  ∧ (∀ (s : State), (s.enabled tmbPage = false ∨ s.ringN < 2) → exec .heartbeatSend s = .next s)
  ∧ (∀ (s : State) (j : Fin 4), s.enabled tmbPage = true → s.tAlive j.val = true →
    let x := amGet (fun _ => (⟨0, 0, 0, 0, 0⟩ : TPeer)) s.tmb.peers j.val
    let u := s.waitTo (x.tick + s.get tmbPage F.TMB.HB_CFG_HB_TIMEOUT * s.get tmbPage F.TMB.HB_CFG_HB_PERIOD)
    exec (.peerLost j) s = .next ((u.hit (23 + x.port) j.val).deviceLost j.val))
  ∧ (∀ (s : State) (r : TRead) (l : List TRead), s.tmb.reads = r :: l →
    exec .remoteReadTimeout s = .next ((s.waitTo (r.tick + 61440)).readEnds r none 3))
  ∧ (∀ (s : State) (m : Fin 4), s.mir F.TREMOTE.MIR_STATE_STATE m.val = 3 →
    let pool := s.mir F.TREMOTE.MIR_CFG_SPACE m.val == 1
    let n := s.mir F.TREMOTE.MIR_SIZE m.val
    let a := 65536 * s.mir F.TREMOTE.MIR_SRC m.val
    let u := s.mirSend m.val pool (65536 * n + 1) (65536 * s.mir F.TREMOTE.MIR_DST m.val)
      (if pool then s.poolData a (65536 * n) else s.dramBytes a (65536 * n))
    let v := (u.put remotePage (F.TREMOTE.MIR_STATE_STATE.at m.val) 1).put remotePage (F.TREMOTE.MIR_STATE_PTR.at m.val)
      (u.mir F.TREMOTE.MIR_SIZE m.val)
    exec (.mirrorResyncDone m) s = .next (v.jrec 0 0x0052 remotePage v.now (jpay [(16, 1, 1), (17, 1, m.val)])))
  ∧ (∀ (s : State) (p : Fin 2), s.tState p.val = 3 → s.enabled tsyncPage = true →
    let up := s.tNeighbour p.val
    let a := fun (m : Nat) => (m + s.ringN - up) % s.ringN
    let b := fun (m : Nat) => (up + s.ringN - m) % s.ringN
    (∃ m, up ≠ m ∧ ((s.role = 1 ∧ m = s.ringIndex) ∨ (s.role = 2 ∧ s.tmb.master = some m))
      ∧ ((p.val = 1 ∧ a m ≤ b m) ∨ (p.val = 0 ∧ b m < a m))) →
    let v := s.waitTo ((s.tport p.val).exchAt + s.get tsyncPage F.TSYNC.SYNC_CFG_EXCH_PERIOD)
    exec (.timeExchangeSend p) s = .next (v.modTport p.val (fun y => { y with
      exchAt := v.now, queue := y.queue ++ [(2, ⟨0x02, 0, 0, 0, 0, 0, []⟩)] })))
  ∧ (∀ (s : State) (r : Req) (v : Word), s.Reaches r (tmbPage + 0x108) →
    (r.tag = 1 → s.role = 1 → bits v.toNat 31 16 = 0x5254 → bit v.toNat 8 = true →
      exec (.remoteResetGo r v) s = .next (s.tSend (bits v.toNat 1 0) 10 0x0B (natBytes 2 0x5254)))
    ∧ (r.tag = 1 → s.role = 1 → (bits v.toNat 31 16 ≠ 0x5254 ∨ bit v.toNat 8 = false) →
      exec (.remoteResetGo r v) s = .next s)
    ∧ ((r.tag ≠ 1 ∨ s.role ≠ 1) → exec (.remoteResetGo r v) s = .next (s.violation r (tmbPage + 0x108) true)))
  ∧ (∀ (s : State) (r : Req) (k : Fin 2), s.Reaches r (tmbPage + 0x114 + 0x80 * k.val) → r.tag ≠ 0 →
    r.tag.toNat = s.get tmbPage (F.TMB.MB_CFG_MB_OWNER.at k.val) →
    let j := s.get tmbPage (F.TMB.MB_CFG_DEST.at k.val)
    let credit := F.TMB.MB_STATE_CREDIT.at k.val
    (s.flag tmbPage credit = false →
      exec (.tmbMbPost r k) s = .next (s.put tmbPage (F.TMB.MB_STATE_OVERRUN.at k.val) 1))
    ∧ (s.flag tmbPage credit = true → s.tmbRoute j = none → exec (.tmbMbPost r k) s = .next s)
    ∧ (s.flag tmbPage credit = true → (s.tmbRoute j).isSome = true →
      exec (.tmbMbPost r k) s = .next ((s.put tmbPage credit 0).tSend j 9 0x07 (natBytes 1 k.val ++ natBytes 1 14 ++ natBytes 2 0
        ++ (upto 0 14).flatMap (fun i => natBytes 4 (s.rd (tmbPage + 0x120 + 0x80 * k.val + 4 * i)).toNat))))
    ∧ (s.flag tmbPage (F.TMB.MB_STATE_RX_FULL.at k.val) = true →
      let u := s.put tmbPage (F.TMB.MB_STATE_RX_FULL.at k.val) 0
      exec (.rxDone r k) s = .next (u.tSend (u.get tmbPage (F.TMB.MB_STATE_RX_SRC.at k.val)) 9 0x08 (natBytes 1 k.val)))
    ∧ (s.flag tmbPage (F.TMB.MB_STATE_RX_FULL.at k.val) = false → exec (.rxDone r k) s = .next s))

/-! Pads, board controllers, boot flash, test access port and sensors -/

/-- Pads, the board controllers, the boot flash, JTAG and the sensors (R560, R561, R563–R567, R580): an edge with a WAKE pad's
polarity wakes, SET and CLR change the bits of present pads, a transfer starts or is dropped with a stray access, runs ENTDAA,
ends with its result and data or after 25 ms of stretching, an in-band interrupt is queued or refused, each FIFO is pushed and
popped, a flash command or transfer runs and ends, each JTAG instruction selects its register, and a sample compares the four
temperatures with the thresholds. -/
def Obligations.PadsAndBoard : Prop :=
  (∀ (s : State) (g : Fin 32) (b : Bool),
    let u := s.padExt g.val b
    (s.part.pads ≤ g.val → exec (.wakePinEdge g b) s = .next s)
    ∧ (g.val < s.part.pads → u.padFunc g.val = 3 → (u.get pfuncPage (F.PFUNC.FUNC_WAKE_POL.at g.val) = 0 ↔ b = true) →
      exec (.wakePinEdge g b) s = .next u.wake)
    ∧ (g.val < s.part.pads → (u.padFunc g.val ≠ 3 ∨ ¬ (u.get pfuncPage (F.PFUNC.FUNC_WAKE_POL.at g.val) = 0 ↔ b = true)) → exec (.wakePinEdge g b) s = .next u))
  ∧ (∀ (s : State) (r : Req) (v : Word),
    let out := s.get gpioPage F.PGPIO.GPIO_OUT
    let w := v.toNat &&& s.padMask
    (s.MayWrite r (gpioPage + 0x108) → exec (.gpioSet r v) s = .next (s.put gpioPage F.PGPIO.GPIO_OUT (out ||| w)))
    ∧ (s.MayWrite r (gpioPage + 0x10C) →
      exec (.gpioClr r v) s = .next (s.put gpioPage F.PGPIO.GPIO_OUT (out &&& (0xFFFFFFFF ^^^ w)))))
  ∧ (∀ (s : State) (r : Req) (n : Fin 2) (v : Word), s.MayWrite r (bcPage + bcOff n.val 4) → n.val < s.part.bcs →
    let w := v.toNat
    let x := s.bc n.val
    let i3c := s.flag bcPage (F.PBC.BC_CFG_PROTO.at n.val)
    let bad := s.bcOn n.val = false ∨ x.xfer.isSome = true
      ∨ (xfRead w = false ∧ xfDaa w = false ∧ x.tx.length < xfLen w) ∨ 64 < xfLen w ∨ (xfCcc w = true ∧ i3c = false)
    (xfGo w = false → exec (.bcXfer r n v) s = .next s)
    ∧ (xfGo w = true → bad → exec (.bcXfer r n v) s = .next (s.stray r (bcPage + bcOff n.val 4) true))
    ∧ (xfGo w = true → ¬ bad → exec (.bcXfer r n v) s = .next (s.setBc n.val { x with
      xfer := some v, since := s.now, recover := false })))
  ∧ (∀ (s : State) (r : Req) (n : Fin 2) (v : Word), s.MayWrite r (bcPage + bcOff n.val 8) → n.val < s.part.bcs →
    let x := s.bc n.val
    (x.tx.length < 64 → exec (.bcTxdata r n v) s = .next (s.setBc n.val { x with tx := x.tx ++ [v.setWidth 8] }))
    ∧ (64 ≤ x.tx.length → exec (.bcTxdata r n v) s = .next (s.stray r (bcPage + bcOff n.val 8) true)))
  ∧ (∀ (s : State) (r : Req) (i : PInfo) (n : Fin 2), n.val < s.part.bcs →
    let x := s.bc n.val
    let a := bcPage + 0xF00 + 0x10 * n.val
    let b := bcPage + 0xF08 + 0x10 * n.val
    (s.MayRead r a i → (∀ d l, x.rx = d :: l → exec (.bcRxdata r n) s = .next { s.setBc n.val { x with rx := l } with
        resp := some ⟨r.rid, BitVec.ofNat 24 a, BitVec.ofNat 32 (0x100 + d.toNat)⟩ })
      ∧ (x.rx = [] → exec (.bcRxdata r n) s = .next { s with resp := some ⟨r.rid, BitVec.ofNat 24 a, 0⟩ }))
    ∧ (s.MayRead r b i → (∀ k m l, x.ibi = (k, m) :: l → exec (.bcIbiPop r n) s = .next { s.setBc n.val { x with ibi := l } with
        resp := some ⟨r.rid, BitVec.ofNat 24 b, BitVec.ofNat 32 (0x80000000 + k * 0x1000000 + (match m with
          | some d => 0x100 + d.toNat
          | none => 0))⟩ })
      ∧ (x.ibi = [] → exec (.bcIbiPop r n) s = .next { s with resp := some ⟨r.rid, BitVec.ofNat 24 b, 0⟩ })))
  ∧ (∀ (s : State) (n : Fin 2), (s.bc n.val).xfer = none → (∀ ts, exec (.entdaa n ts) s = .next s)
    ∧ (∀ res d, exec (.bcTransferDone n res d) s = .next s) ∧ exec (.bcStretchTimeout n) s = .next s)
  ∧ (∀ (s : State) (n : Fin 2) (v : Word), (s.bc n.val).xfer = some v →
    let w := v.toNat
    let x := s.bc n.val
    (xfDaa w = true → exec (.entdaa n []) s = .next (s.bcEnd n.val 0)
      ∧ (∀ (id : BitVec 48) (bcr dcr : Byte) (ts : List (BitVec 48 × Byte × Byte)),
        (56 < x.rx.length → exec (.entdaa n ((id, bcr, dcr) :: ts)) s = .next (s.bcEnd n.val 2))
        ∧ (x.rx.length ≤ 56 →
          let a := s.get bcPage (F.PBC.BC_DAA.at n.val)
          let u := s.setBc n.val { x with
            rx := x.rx ++ ((natBytes 6 id.toNat).reverse ++ [bcr, dcr])
            known := (a, bit bcr.toNat 2) :: x.known.filter (fun e => e.1 != a) }
          exec (.entdaa n ((id, bcr, dcr) :: ts)) s
            = .next ((u.put bcPage (F.PBC.BC_DAA.at n.val) (a + 1)).bcAssign n.val ts))))
    ∧ (xfDaa w = false → ∀ ts, exec (.entdaa n ts) s = .next s)
    ∧ (∀ (res : Fin 5) (d : List Byte), exec (.bcTransferDone n res d) s = .next ((s.setBc n.val { x with
      tx := if xfRead w then x.tx else if res.val = 1 then [] else x.tx.drop (xfLen w)
      rx := if xfRead w ∧ res.val = 0 then fifoIn x.rx (d.take (xfLen w)) else x.rx }).bcEnd n.val res.val))
    ∧ exec (.bcStretchTimeout n) s = .next ((s.waitTo (x.since + 15360000)).bcDone n.val 3 []))
  ∧ (∀ (s : State) (n : Fin 2) (addr : BitVec 7) (mdb : Byte), s.bcOn n.val = true →
    s.flag bcPage (F.PBC.BC_CFG_PROTO.at n.val) = true → s.flag bcPage (F.PBC.BC_IBI_EN.at n.val) = true →
    let x := s.bc n.val
    (∀ a has, x.known.find? (fun e => e.1 == addr.toNat) = some (a, has) → x.ibi.length < 8 → exec (.bcIbi n addr mdb) s
      = .next (((s.setBc n.val { x with ibi := x.ibi ++ [(a, if has then some mdb else none)] }).stat bcPage
        (5 * n.val + 2)).intBit bcPage (2 * n.val + 1)))
    ∧ (∀ a has, x.known.find? (fun e => e.1 == addr.toNat) = some (a, has) → 8 ≤ x.ibi.length →
      exec (.bcIbi n addr mdb) s = .next (s.stat bcPage (5 * n.val + 3)))
    ∧ (x.known.find? (fun e => e.1 == addr.toNat) = none → exec (.bcIbi n addr mdb) s = .next (s.stat bcPage (5 * n.val + 3))))
  ∧ (∀ (s : State) (n : Fin 2) (addr : BitVec 7) (mdb : Byte), (s.bcOn n.val = false
    ∨ s.flag bcPage (F.PBC.BC_CFG_PROTO.at n.val) = false ∨ s.flag bcPage (F.PBC.BC_IBI_EN.at n.val) = false) →
    exec (.bcIbi n addr mdb) s = .next s)
  ∧ (∀ (s : State) (r : Req) (v : Word),
    let x := s.pad.xspi
    (s.MayWrite r (xspiPage + 0x104) → bit v.toNat 31 = true → s.enabled xspiPage = true →
      (x.busy = false → bits v.toNat 6 0 ≤ 64 → exec (.xspiCmd r v) s = .next (s.modXspi (fun y => { y with cmd := some v })))
      ∧ ((x.busy = true ∨ 64 < bits v.toNat 6 0) → exec (.xspiCmd r v) s
        = .next ((s.put xspiPage F.XSPI.XSPI_STATE_RESULT 2).stray r (xspiPage + 0x104) true)))
    ∧ (s.MayWrite r (xspiPage + 0x10C) →
      (x.tx.length ≤ 60 → exec (.xspiTxdata r v) s = .next (s.modXspi (fun y => { y with tx := y.tx ++ natBytes 4 v.toNat })))
      ∧ (60 < x.tx.length → exec (.xspiTxdata r v) s = .next (s.stray r (xspiPage + 0x10C) true)))
    ∧ (s.MayWrite r (xspiPage + 0x11C) → bit v.toNat 0 = true → s.enabled xspiPage = true →
      let n := s.get xspiPage F.XSPI.DMA_LEN
      let a := s.get xspiPage F.XSPI.DMA_DST_LO + s.get xspiPage F.XSPI.DMA_DST_HI_ADDR * 0x100000000
      (x.busy = false → n ≠ 0 → n % 64 = 0 → a % 64 = 0 → exec (.dmaCmd r v) s = .next (s.modXspi (fun y => { y with
        dma := some (s.get xspiPage F.XSPI.XSPI_ADDR, a, n, s.flag xspiPage F.XSPI.DMA_DST_HI_SPACE) })))
      ∧ ((x.busy = true ∨ n = 0 ∨ n % 64 ≠ 0 ∨ a % 64 ≠ 0) → exec (.dmaCmd r v) s
        = .next ((s.put xspiPage F.XSPI.XSPI_STATE_RESULT 2).stray r (xspiPage + 0x11C) true))))
  ∧ (∀ (s : State) (r : Req) (i : PInfo), s.MayRead r (xspiPage + 0xF00) i → exec (.xspiRxdata r) s
    = .next { s.modXspi (fun y => { y with rx := y.rx.drop 4 }) with
        resp := some ⟨r.rid, BitVec.ofNat 24 (xspiPage + 0xF00), BitVec.ofNat 32 (bytesNat (s.pad.xspi.rx.take 4))⟩ })
  ∧ (∀ (s : State) (d : List Byte), (s.pad.xspi.cmd = none → exec (.xspiCmdDone d) s = .next s)
    ∧ (s.pad.xspi.dma = none → exec (.xspiDmaDone d) s = .next s)
    ∧ (∀ v, s.pad.xspi.cmd = some v →
      let w := v.toNat
      let u := s.modXspi (fun y => { y with
        cmd := none
        tx := if bit w 30 then y.tx.drop (bits w 6 0) else y.tx
        rx := if bit w 30 then y.rx else fifoIn y.rx (d.take (bits w 6 0)) })
      exec (.xspiCmdDone d) s = .next (((u.put xspiPage F.XSPI.XSPI_STATE_RESULT 0).stat xspiPage 0).intBit xspiPage 0))
    ∧ (∀ f a n pool u k ok, s.pad.xspi.dma = some (f, a, n, pool) → s.dmaBlocks a pool (n / 64) 0 d = (u, k, ok) →
      let v := (u.modXspi (fun y => { y with dma := none })).put xspiPage F.XSPI.XSPI_STATE_RESULT (if ok then 0 else 1)
      exec (.xspiDmaDone d) s = .next (((((v.put xspiPage F.XSPI.DMA_DONE k).put xspiPage F.XSPI.XSPI_ADDR (f + k)).stat
        xspiPage 1).stat64 xspiPage 2 k).intBit xspiPage 1)))
  ∧ (∀ s : State, exec .idcode s = .next (s.jtag 0x01 false s.idcode) ∧ exec .debug s = .next (s.jtag 0x10 false 0)
    ∧ exec .bypass s = .next (s.jtag 0x1F false 0)
    ∧ (∀ ir b out, (s.jtag ir b out).pad.jtag.ir = ir ∧ (s.jtag ir b out).pad.jtag.out = out
      ∧ (s.jtag ir b out).pad.jtag.cells = s.pad.jtag.cells ∧ (s.jtag ir b out).regs = s.regs))
  ∧ (∀ (s : State) (tdi : BitVec 304),
    let c := s.scanCapture
    exec (.samplePreload tdi) s
      = .next ((c.1.jtag 0x02 false c.2).modPad (fun p => { p with jtag := { p.jtag with cells := tdi } }))
    ∧ (s.flag worldsPage F.WORLDS.DBG_CFG_DBG_LOCK = false → exec (.extest tdi) s
      = .next ((c.1.jtag 0x00 true c.2).modPad (fun p => { p with jtag := { p.jtag with cells := tdi } })))
    ∧ (s.flag worldsPage F.WORLDS.DBG_CFG_DBG_LOCK = true → exec (.extest tdi) s = .next (s.jtag 0x1F false 0)))
  ∧ (∀ (s : State) (t0 t1 t2 t3 : BitVec 16), (s.mode = .off ∨ s.mode = .backup) →
    exec (.thermalSample t0 t1 t2 t3) s = .next s)
  ∧ (∀ (s : State) (t0 t1 t2 t3 : BitVec 16), s.mode ≠ .off → s.mode ≠ .backup →
    let p := pg 0x00 1
    let ts := [t0, t1, t2, t3]
    let t := fun (k : Nat) => ts.getD k 0
    let u := forL (fun k v => v.put p (F.MODE.TEMP.at k) (t k).toNat) (upto 0 4) (s.waitTo (s.pad.therm.tick + 61440))
    let warn := u.get p F.MODE.THERM_CFG_WARN_C
    let trip := u.get p F.MODE.THERM_TRIP
    let o := BitVec.ofNat 4 (forN (fun k a => a + (b2n (reaches (t k) trip) <<< k)) 4 0)
    let hot := (upto 0 4).find? (fun k => reaches (t k) warn)
    let cool := (upto 0 4).all (fun k => decide ((t k).toInt < 8 * ((warn : Int) - u.get p F.MODE.THERM_CFG_HYST_C)))
    let trips := fun (v : State) => forL (fun k w => if bit o.toNat k = true ∧ bit v.pad.therm.ovr.toNat k = true then w.hit 4 k
      else w) (upto 0 4) (v.modPad (fun q => { q with
        therm := ⟨v.now, if v.pad.therm.armed then hot.isNone else cool, o⟩ }))
    ((hot = none ∨ u.pad.therm.armed = false) → exec (.thermalSample t0 t1 t2 t3) s = .next (trips u))
    ∧ (∀ k, hot = some k → u.pad.therm.armed = true → (u.hit 3 k).pad.therm = u.pad.therm →
      exec (.thermalSample t0 t1 t2 t3) s = .next (trips (u.hit 3 k))))
end

