-- ==== Sys2Proof/Laws/Canon.lean ====
section
/-! SUPPORT. The canonical form of tables and memories under every operation that rebuilds one. -/

namespace Sys2Proof.Machine

theorem amWfFrom_mono {α : Type} [DecidableEq α] (d : Nat → α) : ∀ (l : List (Nat × α)) (a b : Nat), a ≤ b →
    amWfFrom d b l = true → amWfFrom d a l = true := by
  intro l; cases l with
  | nil => intros; rfl
  | cons e t => obtain ⟨k, v⟩ := e; intro a b h; simp only [amWfFrom, Bool.and_eq_true, decide_eq_true_eq]
                rintro ⟨⟨h1, h2⟩, h3⟩; exact ⟨⟨by omega, h2⟩, h3⟩

theorem amWfFrom_set {α : Type} [DecidableEq α] (d : Nat → α) (a : Nat) (v : α) : ∀ (l : List (Nat × α)) (lo : Nat),
    lo ≤ a → amWfFrom d lo l = true → amWfFrom d lo (amSet d l a v) = true := by
  intro l
  induction l with
  | nil => intro lo h _; unfold amSet; split <;> simp_all [amWfFrom]
  | cons e t ih =>
    obtain ⟨k, w⟩ := e
    intro lo h hw
    simp only [amWfFrom, Bool.and_eq_true, decide_eq_true_eq] at hw
    obtain ⟨⟨h1, h2⟩, h3⟩ := hw
    unfold amSet
    split
    · split
      · simp [amWfFrom, h1, h2, h3]
      · rename_i hlt hne; simp [amWfFrom, h, hne, h2, h3]; omega
    · split
      · split
        · exact amWfFrom_mono d t lo (k+1) (by omega) h3
        · rename_i hne; subst_vars; simp [amWfFrom, h1, hne, h3]
      · simp only [amWfFrom, Bool.and_eq_true, decide_eq_true_eq]
        exact ⟨⟨h1, h2⟩, ih (k+1) (by omega) h3⟩

theorem amWf_set {α : Type} [DecidableEq α] (d : Nat → α) (l : List (Nat × α)) (a : Nat) (v : α) (h : amWf d l = true) :
    amWf d (amSet d l a v) = true := amWfFrom_set d a v l 0 (Nat.zero_le _) h

theorem amWfFrom_filter {α : Type} [DecidableEq α] (d : Nat → α) (p : Nat × α → Bool) : ∀ (l : List (Nat × α)) (lo : Nat),
    amWfFrom d lo l = true → amWfFrom d lo (l.filter p) = true := by
  intro l
  induction l with
  | nil => intro lo h; exact h
  | cons e t ih =>
    obtain ⟨k, w⟩ := e
    intro lo hw
    simp only [amWfFrom, Bool.and_eq_true, decide_eq_true_eq] at hw
    obtain ⟨⟨h1, h2⟩, h3⟩ := hw
    rw [List.filter_cons]
    split
    · simp only [amWfFrom, Bool.and_eq_true, decide_eq_true_eq]; exact ⟨⟨h1, h2⟩, ih _ h3⟩
    · exact ih lo (amWfFrom_mono d t lo (k+1) (by omega) h3)

theorem amWf_drop {α : Type} [DecidableEq α] (d : Nat → α) (p : Nat → Bool) (l : List (Nat × α)) (h : amWf d l = true) :
    amWf d (amDrop p l) = true := amWfFrom_filter d _ l 0 h

theorem memPut_wf (m : List Host.Cell) (a : Nat) (b : Byte) (h : amWf (fun _ => (0 : Byte)) m = true) :
    amWf (fun _ => (0 : Byte)) (memPut m a b) = true := amWf_set _ m a b h

theorem memPutNat_wf (n : Nat) : ∀ (m : List Host.Cell) (a v : Nat), amWf (fun _ => (0 : Byte)) m = true →
    amWf (fun _ => (0 : Byte)) (memPutNat m a n v) = true := by
  induction n with
  | zero => intro m a v h; exact h
  | succ n ih => intro m a v h; exact ih _ _ _ (memPut_wf m a _ h)

theorem memPutList_wf (l : List Byte) : ∀ (m : List Host.Cell) (a : Nat), amWf (fun _ => (0 : Byte)) m = true →
    amWf (fun _ => (0 : Byte)) (memPutList m a l) = true := by
  induction l with
  | nil => intro m a h; exact h
  | cons b l ih => intro m a h; exact ih _ _ (memPut_wf m a b h)

theorem forL_amSet_wf {α β : Type} [DecidableEq α] (d : Nat → α) (k : β → Nat) (v : β → α) (l : List β) :
    ∀ (m : List (Nat × α)), amWf d m = true → amWf d (forL (fun e m => amSet d m (k e) (v e)) l m) = true := by
  induction l with
  | nil => intro m h; exact h
  | cons b l ih => intro m h; exact ih _ (amWf_set d m _ _ h)

end Sys2Proof.Machine
end

