-- ==== Sys2Proof/Laws/Regs.lean ====
section
/-! SUPPORT. Reads after writes: sparse tables, registers and fields. -/

namespace Sys2Proof.Machine

/-! Sparse tables -/

theorem amGet_below {α : Type} [DecidableEq α] (d : Nat → α) (b : Nat) :
    ∀ (l : List (Nat × α)) (lo : Nat), amWfFrom d lo l = true → b < lo → amGet d l b = d b := by
  intro l
  induction l with
  | nil => intros; rfl
  | cons e t ih =>
    obtain ⟨k, w⟩ := e
    intro lo h hb
    simp only [amWfFrom, Bool.and_eq_true, decide_eq_true_eq] at h
    have hk : b ≠ k := by omega
    simp only [amGet, hk, if_false]
    exact ih (k + 1) h.2 (by omega)

theorem amGet_amSet_other {α : Type} [DecidableEq α] (d : Nat → α) {a b : Nat} (v : α) (hb : b ≠ a) :
    ∀ l : List (Nat × α), amGet d (amSet d l a v) b = amGet d l b := by
  intro l
  induction l with
  | nil => unfold amSet; split <;> simp [amGet, hb]
  | cons e t ih =>
    obtain ⟨k, w⟩ := e
    unfold amSet
    split
    · split <;> simp [amGet, hb]
    · split
      · rename_i ha; subst ha
        split <;> simp [amGet, hb]
      · simp only [amGet, ih]

theorem amGet_amSet {α : Type} [DecidableEq α] (d : Nat → α) (a b : Nat) (v : α) (l : List (Nat × α))
    (h : amWf d l = true) : amGet d (amSet d l a v) b = if b = a then v else amGet d l b := by
  suffices H : ∀ (l : List (Nat × α)) (lo : Nat), amWfFrom d lo l = true →
      amGet d (amSet d l a v) b = if b = a then v else amGet d l b from H l 0 h
  intro l
  induction l with
  | nil =>
    intro lo _
    unfold amSet
    split <;> rename_i hv
    · simp only [amGet]; split <;> simp_all
    · simp only [amGet]
  | cons e t ih =>
    obtain ⟨k, w⟩ := e
    intro lo hw
    simp only [amWfFrom, Bool.and_eq_true, decide_eq_true_eq] at hw
    obtain ⟨⟨h1, h2⟩, h3⟩ := hw
    have hbelow : ∀ c, c ≤ k → amGet d t c = d c := fun c hc => amGet_below d c t (k + 1) h3 (by omega)
    unfold amSet
    split <;> rename_i hak
    · split <;> rename_i hv
      · by_cases hb : b = a
        · subst hb
          have : b ≠ k := by omega
          simp [amGet, this, hbelow b (by omega), hv]
        · simp [hb]
      · simp only [amGet]
    · split <;> rename_i hak2
      · subst hak2
        split <;> rename_i hv
        · by_cases hb : b = a
          · subst hb; simp [hbelow b (by omega), hv]
          · simp [amGet, hb]
        · by_cases hb : b = a
          · simp [amGet, hb]
          · simp [amGet, hb]
      · by_cases hb : b = k
        · subst hb
          have : b ≠ a := by omega
          simp [amGet, this]
        · simp only [amGet, hb, if_false]
          exact ih (k + 1) h3

/-! Registers -/

/-- The registers are in their canonical form. -/
abbrev State.RegsWf (s : State) : Prop := amWf (rstWord s.die) s.regs = true

theorem State.Wf.regs {s : State} (h : s.Wf) : s.RegsWf := h.1

theorem State.wr_regsWf {s : State} (h : s.RegsWf) (a : Nat) (w : Word) : (s.wr a w).RegsWf := amWf_set _ _ _ _ h

theorem State.put_regsWf {s : State} (h : s.RegsWf) (p : Nat) (x : Fld) (v : Nat) : (s.put p x v).RegsWf :=
  State.wr_regsWf h _ _

theorem State.rd_wr {s : State} (h : s.RegsWf) (a b : Nat) (w : Word) :
    (s.wr a w).rd b = if b = a then w else s.rd b := amGet_amSet _ a b w s.regs h

theorem State.rd_wr_same {s : State} (h : s.RegsWf) (a : Nat) (w : Word) : (s.wr a w).rd a = w := by
  rw [State.rd_wr h]; simp

theorem State.rd_wr_other (s : State) {a b : Nat} (n : b ≠ a) (w : Word) :
    (s.wr a w).rd b = s.rd b := amGet_amSet_other _ w n s.regs

theorem State.rd_put_other (s : State) {p b : Nat} {x : Fld} (n : b ≠ p + x.off) (v : Nat) :
    (s.put p x v).rd b = s.rd b := State.rd_wr_other s n _

theorem State.rd_intSet_other (s : State) {p a : Nat} (n : a ≠ p + 0x30) (m : Nat) : (s.intSet p m).rd a = s.rd a := by
  unfold State.intSet State.withLine
  dsimp only
  split
  · exact State.rd_wr_other s n _
  · exact State.rd_wr_other s n _

theorem State.rd_setCtl (s : State) (p a : Nat) (c : PageCtl) : (s.setCtl p c).rd a = s.rd a := rfl

theorem State.get_setCtl (s : State) (p q : Nat) (c : PageCtl) (x : Fld) : (s.setCtl p c).get q x = s.get q x := rfl

theorem State.get_intSet (s : State) {p q : Nat} {x : Fld} (n : q + x.off ≠ p + 0x30) (m : Nat) :
    (s.intSet p m).get q x = s.get q x := by
  unfold State.get
  rw [State.rd_intSet_other s n]

/-! Fields -/

theorem bits_testBit (v hi lo i : Nat) : (bits v hi lo).testBit i = (decide (i < hi + 1 - lo) && v.testBit (lo + i)) := by
  unfold bits
  rw [Nat.one_shiftLeft, Nat.testBit_mod_two_pow, Nat.testBit_shiftRight]

theorem Fld.mask_bit (x : Fld) (hl : x.lo ≤ x.hi) (hh : x.hi < 32) (i : Nat) :
    x.mask.getLsbD i = (decide (x.lo ≤ i) && decide (i ≤ x.hi)) := by
  unfold Fld.mask Fld.width
  rw [BitVec.getLsbD_ofNat, Nat.testBit_shiftLeft, Nat.one_shiftLeft, Nat.testBit_two_pow_sub_one]
  by_cases h1 : x.lo ≤ i <;> by_cases h2 : i ≤ x.hi <;> simp [h1, h2] <;> omega

theorem Fld.put_bit (x : Fld) (hl : x.lo ≤ x.hi) (hh : x.hi < 32) (w : Word) (v i : Nat) (hi : i < 32) :
    (x.put w v).getLsbD i = if x.lo ≤ i ∧ i ≤ x.hi then v.testBit (i - x.lo) else w.getLsbD i := by
  unfold Fld.put
  simp only [BitVec.getLsbD_or, BitVec.getLsbD_and, BitVec.getLsbD_not, Fld.mask_bit x hl hh, BitVec.getLsbD_ofNat,
    Nat.testBit_shiftLeft]
  by_cases h1 : x.lo ≤ i <;> by_cases h2 : i ≤ x.hi <;> simp [h1, h2, hi]

theorem Fld.get_put (x : Fld) (w : Word) (v : Nat) (hl : x.lo ≤ x.hi) (hh : x.hi < 32) :
    x.get (x.put w v) = v % 2 ^ x.width := by
  apply Nat.eq_of_testBit_eq
  intro i
  unfold Fld.get
  rw [bits_testBit, Nat.testBit_mod_two_pow, BitVec.testBit_toNat]
  unfold Fld.width
  by_cases h : i < x.hi + 1 - x.lo
  · rw [Fld.put_bit x hl hh w v _ (by omega), if_pos (by omega)]
    simp [h]
  · simp [h]

theorem Fld.get_put_other (x y : Fld) (w : Word) (v : Nat) (hx : x.lo ≤ x.hi) (hh : x.hi < 32) (hy : y.hi < 32)
    (hd : y.hi < x.lo ∨ x.hi < y.lo) : y.get (x.put w v) = y.get w := by
  apply Nat.eq_of_testBit_eq
  intro i
  unfold Fld.get
  rw [bits_testBit, bits_testBit, BitVec.testBit_toNat, BitVec.testBit_toNat]
  by_cases h : i < y.hi + 1 - y.lo
  · rw [Fld.put_bit x hx hh w v _ (by omega), if_neg (by omega)]
  · simp [h]

theorem State.get_put {s : State} (h : s.RegsWf) (p : Nat) (x : Fld) (v : Nat) (hl : x.lo ≤ x.hi) (hh : x.hi < 32) :
    (s.put p x v).get p x = v % 2 ^ x.width := by
  unfold State.get State.put
  rw [State.rd_wr_same h, Fld.get_put x _ _ hl hh]

theorem State.get_put_field {s : State} (h : s.RegsWf) (p : Nat) (x y : Fld) (v : Nat) (hx : x.lo ≤ x.hi)
    (hh : x.hi < 32) (hy : y.hi < 32) (ho : y.off = x.off) (hd : y.hi < x.lo ∨ x.hi < y.lo) :
    (s.put p x v).get p y = s.get p y := by
  unfold State.get State.put
  rw [ho, State.rd_wr_same h, Fld.get_put_other x y _ _ hx hh hy hd]

theorem State.get_put_reg (s : State) (p q : Nat) (x y : Fld) (v : Nat)
    (n : q + y.off ≠ p + x.off) : (s.put p x v).get q y = s.get q y := by
  unfold State.get
  rw [State.rd_put_other s n]

/-- A field that counts up. -/
theorem State.get_inc {s : State} (h : s.RegsWf) (p : Nat) (x : Fld) (n : Nat) (hl : x.lo ≤ x.hi) (hh : x.hi < 32) :
    (s.inc p x n).get p x = (s.get p x + n) % 2 ^ x.width := State.get_put h p x _ hl hh

theorem State.get_put64 (s : State) {p q : Nat} {lo x : Fld} (n1 : q + x.off ≠ p + lo.off)
    (n2 : q + x.off ≠ p + lo.off + 4) (v : Nat) : (s.put64 p lo v).get q x = s.get q x := by
  unfold State.get State.put64
  rw [State.rd_wr_other _ n2, State.rd_wr_other _ n1]

end Sys2Proof.Machine
end

