-- ==== Sys2Proof/Laws/State.lean ====
section
/-! SUPPORT. What each update of the state leaves alone, one lemma per field and update. -/

namespace Sys2Proof.Machine

@[simp] theorem State.wr_die (s : State) (a : Nat) (w : Word) : (s.wr a w).die = s.die := rfl
@[simp] theorem State.wr_freeCtr (s : State) (a : Nat) (w : Word) : (s.wr a w).freeCtr = s.freeCtr := rfl
@[simp] theorem State.wr_power (s : State) (a : Nat) (w : Word) : (s.wr a w).power = s.power := rfl
@[simp] theorem State.wr_mode (s : State) (a : Nat) (w : Word) : (s.wr a w).mode = s.mode := rfl
@[simp] theorem State.wr_prev (s : State) (a : Nat) (w : Word) : (s.wr a w).prev = s.prev := rfl
@[simp] theorem State.wr_stby (s : State) (a : Nat) (w : Word) : (s.wr a w).stby = s.stby := rfl
@[simp] theorem State.wr_safeRun (s : State) (a : Nat) (w : Word) : (s.wr a w).safeRun = s.safeRun := rfl
@[simp] theorem State.wr_modeReqs (s : State) (a : Nat) (w : Word) : (s.wr a w).modeReqs = s.modeReqs := rfl
@[simp] theorem State.wr_modeTrig (s : State) (a : Nat) (w : Word) : (s.wr a w).modeTrig = s.modeTrig := rfl
@[simp] theorem State.wr_epoch (s : State) (a : Nat) (w : Word) : (s.wr a w).epoch = s.epoch := rfl
@[simp] theorem State.wr_thyme (s : State) (a : Nat) (w : Word) : (s.wr a w).thyme = s.thyme := rfl
@[simp] theorem State.wr_thymeRun (s : State) (a : Nat) (w : Word) : (s.wr a w).thymeRun = s.thymeRun := rfl
@[simp] theorem State.wr_slewAt (s : State) (a : Nat) (w : Word) : (s.wr a w).slewAt = s.slewAt := rfl
@[simp] theorem State.wr_pages (s : State) (a : Nat) (w : Word) : (s.wr a w).pages = s.pages := rfl
@[simp] theorem State.wr_live (s : State) (a : Nat) (w : Word) : (s.wr a w).live = s.live := rfl
@[simp] theorem State.wr_held (s : State) (a : Nat) (w : Word) : (s.wr a w).held = s.held := rfl
@[simp] theorem State.wr_srcTick (s : State) (a : Nat) (w : Word) : (s.wr a w).srcTick = s.srcTick := rfl
@[simp] theorem State.wr_snaps (s : State) (a : Nat) (w : Word) : (s.wr a w).snaps = s.snaps := rfl
@[simp] theorem State.wr_resp (s : State) (a : Nat) (w : Word) : (s.wr a w).resp = s.resp := rfl
@[simp] theorem State.wr_flt (s : State) (a : Nat) (w : Word) : (s.wr a w).flt = s.flt := rfl
@[simp] theorem State.wr_ringAt (s : State) (a : Nat) (w : Word) : (s.wr a w).ringAt = s.ringAt := rfl
@[simp] theorem State.wr_journals (s : State) (a : Nat) (w : Word) : (s.wr a w).journals = s.journals := rfl
@[simp] theorem State.wr_rings (s : State) (a : Nat) (w : Word) : (s.wr a w).rings = s.rings := rfl
@[simp] theorem State.wr_fences (s : State) (a : Nat) (w : Word) : (s.wr a w).fences = s.fences := rfl
@[simp] theorem State.wr_copies (s : State) (a : Nat) (w : Word) : (s.wr a w).copies = s.copies := rfl
@[simp] theorem State.wr_copied (s : State) (a : Nat) (w : Word) : (s.wr a w).copied = s.copied := rfl
@[simp] theorem State.wr_quiesces (s : State) (a : Nat) (w : Word) : (s.wr a w).quiesces = s.quiesces := rfl
@[simp] theorem State.wr_bootRec (s : State) (a : Nat) (w : Word) : (s.wr a w).bootRec = s.bootRec := rfl
@[simp] theorem State.wr_potRun (s : State) (a : Nat) (w : Word) : (s.wr a w).potRun = s.potRun := rfl
@[simp] theorem State.wr_potWait (s : State) (a : Nat) (w : Word) : (s.wr a w).potWait = s.potWait := rfl
@[simp] theorem State.wr_coves (s : State) (a : Nat) (w : Word) : (s.wr a w).coves = s.coves := rfl
@[simp] theorem State.wr_potCache (s : State) (a : Nat) (w : Word) : (s.wr a w).potCache = s.potCache := rfl
@[simp] theorem State.wr_meas (s : State) (a : Nat) (w : Word) : (s.wr a w).meas = s.meas := rfl
@[simp] theorem State.wr_restart (s : State) (a : Nat) (w : Word) : (s.wr a w).restart = s.restart := rfl
@[simp] theorem State.wr_cores (s : State) (a : Nat) (w : Word) : (s.wr a w).cores = s.cores := rfl
@[simp] theorem State.wr_routes (s : State) (a : Nat) (w : Word) : (s.wr a w).routes = s.routes := rfl
@[simp] theorem State.wr_edges (s : State) (a : Nat) (w : Word) : (s.wr a w).edges = s.edges := rfl
@[simp] theorem State.wr_routeRuns (s : State) (a : Nat) (w : Word) : (s.wr a w).routeRuns = s.routeRuns := rfl
@[simp] theorem State.wr_vecs (s : State) (a : Nat) (w : Word) : (s.wr a w).vecs = s.vecs := rfl
@[simp] theorem State.wr_ports (s : State) (a : Nat) (w : Word) : (s.wr a w).ports = s.ports := rfl
@[simp] theorem State.wr_bar4 (s : State) (a : Nat) (w : Word) : (s.wr a w).bar4 = s.bar4 := rfl
@[simp] theorem State.wr_gateRun (s : State) (a : Nat) (w : Word) : (s.wr a w).gateRun = s.gateRun := rfl
@[simp] theorem State.wr_gateWait (s : State) (a : Nat) (w : Word) : (s.wr a w).gateWait = s.gateWait := rfl
@[simp] theorem State.wr_rst (s : State) (a : Nat) (w : Word) : (s.wr a w).rst = s.rst := rfl
@[simp] theorem State.wr_otp (s : State) (a : Nat) (w : Word) : (s.wr a w).otp = s.otp := rfl
@[simp] theorem State.wr_otpRun (s : State) (a : Nat) (w : Word) : (s.wr a w).otpRun = s.otpRun := rfl
@[simp] theorem State.wr_winners (s : State) (a : Nat) (w : Word) : (s.wr a w).winners = s.winners := rfl
@[simp] theorem State.wr_pinMap (s : State) (a : Nat) (w : Word) : (s.wr a w).pinMap = s.pinMap := rfl
@[simp] theorem State.wr_backup (s : State) (a : Nat) (w : Word) : (s.wr a w).backup = s.backup := rfl
@[simp] theorem State.wr_dram (s : State) (a : Nat) (w : Word) : (s.wr a w).dram = s.dram := rfl
@[simp] theorem State.wr_pool (s : State) (a : Nat) (w : Word) : (s.wr a w).pool = s.pool := rfl
@[simp] theorem State.wr_dc (s : State) (a : Nat) (w : Word) : (s.wr a w).dc = s.dc := rfl
@[simp] theorem State.wr_poolChk (s : State) (a : Nat) (w : Word) : (s.wr a w).poolChk = s.poolChk := rfl
@[simp] theorem State.wr_elog (s : State) (a : Nat) (w : Word) : (s.wr a w).elog = s.elog := rfl
@[simp] theorem State.wr_leakAt (s : State) (a : Nat) (w : Word) : (s.wr a w).leakAt = s.leakAt := rfl
@[simp] theorem State.wr_banks (s : State) (a : Nat) (w : Word) : (s.wr a w).banks = s.banks := rfl
@[simp] theorem State.wr_mem (s : State) (a : Nat) (w : Word) : (s.wr a w).mem = s.mem := rfl
@[simp] theorem State.wr_host (s : State) (a : Nat) (w : Word) : (s.wr a w).host = s.host := rfl
@[simp] theorem State.wr_poolClr (s : State) (a : Nat) (w : Word) : (s.wr a w).poolClr = s.poolClr := rfl
@[simp] theorem State.wr_rasters (s : State) (a : Nat) (w : Word) : (s.wr a w).rasters = s.rasters := rfl
@[simp] theorem State.wr_gfx (s : State) (a : Nat) (w : Word) : (s.wr a w).gfx = s.gfx := rfl
@[simp] theorem State.wr_cvus (s : State) (a : Nat) (w : Word) : (s.wr a w).cvus = s.cvus := rfl
@[simp] theorem State.wr_heads (s : State) (a : Nat) (w : Word) : (s.wr a w).heads = s.heads := rfl
@[simp] theorem State.wr_layers (s : State) (a : Nat) (w : Word) : (s.wr a w).layers = s.layers := rfl
@[simp] theorem State.wr_wbs (s : State) (a : Nat) (w : Word) : (s.wr a w).wbs = s.wbs := rfl
@[simp] theorem State.wr_links (s : State) (a : Nat) (w : Word) : (s.wr a w).links = s.links := rfl
@[simp] theorem State.wr_dphyAt (s : State) (a : Nat) (w : Word) : (s.wr a w).dphyAt = s.dphyAt := rfl
@[simp] theorem State.wr_poolWr (s : State) (a : Nat) (w : Word) : (s.wr a w).poolWr = s.poolWr := rfl
@[simp] theorem State.wr_poolFree (s : State) (a : Nat) (w : Word) : (s.wr a w).poolFree = s.poolFree := rfl
@[simp] theorem State.wr_coefs (s : State) (a : Nat) (w : Word) : (s.wr a w).coefs = s.coefs := rfl
@[simp] theorem State.wr_luts (s : State) (a : Nat) (w : Word) : (s.wr a w).luts = s.luts := rfl
@[simp] theorem State.wr_panels (s : State) (a : Nat) (w : Word) : (s.wr a w).panels = s.panels := rfl
@[simp] theorem State.wr_effects (s : State) (a : Nat) (w : Word) : (s.wr a w).effects = s.effects := rfl
@[simp] theorem State.wr_effLoad (s : State) (a : Nat) (w : Word) : (s.wr a w).effLoad = s.effLoad := rfl
@[simp] theorem State.wr_hchans (s : State) (a : Nat) (w : Word) : (s.wr a w).hchans = s.hchans := rfl
@[simp] theorem State.wr_hports (s : State) (a : Nat) (w : Word) : (s.wr a w).hports = s.hports := rfl
@[simp] theorem State.wr_reflex (s : State) (a : Nat) (w : Word) : (s.wr a w).reflex = s.reflex := rfl
@[simp] theorem State.wr_reflexArm (s : State) (a : Nat) (w : Word) : (s.wr a w).reflexArm = s.reflexArm := rfl
@[simp] theorem State.wr_reflexQ (s : State) (a : Nat) (w : Word) : (s.wr a w).reflexQ = s.reflexQ := rfl
@[simp] theorem State.wr_lineStarts (s : State) (a : Nat) (w : Word) : (s.wr a w).lineStarts = s.lineStarts := rfl
@[simp] theorem State.wr_audio (s : State) (a : Nat) (w : Word) : (s.wr a w).audio = s.audio := rfl
@[simp] theorem State.wr_tmb (s : State) (a : Nat) (w : Word) : (s.wr a w).tmb = s.tmb := rfl
@[simp] theorem State.wr_pad (s : State) (a : Nat) (w : Word) : (s.wr a w).pad = s.pad := rfl
@[simp] theorem State.wr_discards (s : State) (a : Nat) (w : Word) : (s.wr a w).discards = s.discards := rfl
@[simp] theorem State.wr_pending (s : State) (a : Nat) (w : Word) : (s.wr a w).pending = s.pending := rfl

@[simp] theorem State.put_die (s : State) (p : Nat) (x : Fld) (v : Nat) : (s.put p x v).die = s.die := rfl
@[simp] theorem State.put_freeCtr (s : State) (p : Nat) (x : Fld) (v : Nat) : (s.put p x v).freeCtr = s.freeCtr := rfl
@[simp] theorem State.put_power (s : State) (p : Nat) (x : Fld) (v : Nat) : (s.put p x v).power = s.power := rfl
@[simp] theorem State.put_mode (s : State) (p : Nat) (x : Fld) (v : Nat) : (s.put p x v).mode = s.mode := rfl
@[simp] theorem State.put_prev (s : State) (p : Nat) (x : Fld) (v : Nat) : (s.put p x v).prev = s.prev := rfl
@[simp] theorem State.put_stby (s : State) (p : Nat) (x : Fld) (v : Nat) : (s.put p x v).stby = s.stby := rfl
@[simp] theorem State.put_safeRun (s : State) (p : Nat) (x : Fld) (v : Nat) : (s.put p x v).safeRun = s.safeRun := rfl
@[simp] theorem State.put_modeReqs (s : State) (p : Nat) (x : Fld) (v : Nat) : (s.put p x v).modeReqs = s.modeReqs := rfl
@[simp] theorem State.put_modeTrig (s : State) (p : Nat) (x : Fld) (v : Nat) : (s.put p x v).modeTrig = s.modeTrig := rfl
@[simp] theorem State.put_epoch (s : State) (p : Nat) (x : Fld) (v : Nat) : (s.put p x v).epoch = s.epoch := rfl
@[simp] theorem State.put_thyme (s : State) (p : Nat) (x : Fld) (v : Nat) : (s.put p x v).thyme = s.thyme := rfl
@[simp] theorem State.put_thymeRun (s : State) (p : Nat) (x : Fld) (v : Nat) : (s.put p x v).thymeRun = s.thymeRun := rfl
@[simp] theorem State.put_slewAt (s : State) (p : Nat) (x : Fld) (v : Nat) : (s.put p x v).slewAt = s.slewAt := rfl
@[simp] theorem State.put_pages (s : State) (p : Nat) (x : Fld) (v : Nat) : (s.put p x v).pages = s.pages := rfl
@[simp] theorem State.put_live (s : State) (p : Nat) (x : Fld) (v : Nat) : (s.put p x v).live = s.live := rfl
@[simp] theorem State.put_held (s : State) (p : Nat) (x : Fld) (v : Nat) : (s.put p x v).held = s.held := rfl
@[simp] theorem State.put_srcTick (s : State) (p : Nat) (x : Fld) (v : Nat) : (s.put p x v).srcTick = s.srcTick := rfl
@[simp] theorem State.put_snaps (s : State) (p : Nat) (x : Fld) (v : Nat) : (s.put p x v).snaps = s.snaps := rfl
@[simp] theorem State.put_resp (s : State) (p : Nat) (x : Fld) (v : Nat) : (s.put p x v).resp = s.resp := rfl
@[simp] theorem State.put_flt (s : State) (p : Nat) (x : Fld) (v : Nat) : (s.put p x v).flt = s.flt := rfl
@[simp] theorem State.put_ringAt (s : State) (p : Nat) (x : Fld) (v : Nat) : (s.put p x v).ringAt = s.ringAt := rfl
@[simp] theorem State.put_journals (s : State) (p : Nat) (x : Fld) (v : Nat) : (s.put p x v).journals = s.journals := rfl
@[simp] theorem State.put_rings (s : State) (p : Nat) (x : Fld) (v : Nat) : (s.put p x v).rings = s.rings := rfl
@[simp] theorem State.put_fences (s : State) (p : Nat) (x : Fld) (v : Nat) : (s.put p x v).fences = s.fences := rfl
@[simp] theorem State.put_copies (s : State) (p : Nat) (x : Fld) (v : Nat) : (s.put p x v).copies = s.copies := rfl
@[simp] theorem State.put_copied (s : State) (p : Nat) (x : Fld) (v : Nat) : (s.put p x v).copied = s.copied := rfl
@[simp] theorem State.put_quiesces (s : State) (p : Nat) (x : Fld) (v : Nat) : (s.put p x v).quiesces = s.quiesces := rfl
@[simp] theorem State.put_bootRec (s : State) (p : Nat) (x : Fld) (v : Nat) : (s.put p x v).bootRec = s.bootRec := rfl
@[simp] theorem State.put_potRun (s : State) (p : Nat) (x : Fld) (v : Nat) : (s.put p x v).potRun = s.potRun := rfl
@[simp] theorem State.put_potWait (s : State) (p : Nat) (x : Fld) (v : Nat) : (s.put p x v).potWait = s.potWait := rfl
@[simp] theorem State.put_coves (s : State) (p : Nat) (x : Fld) (v : Nat) : (s.put p x v).coves = s.coves := rfl
@[simp] theorem State.put_potCache (s : State) (p : Nat) (x : Fld) (v : Nat) : (s.put p x v).potCache = s.potCache := rfl
@[simp] theorem State.put_meas (s : State) (p : Nat) (x : Fld) (v : Nat) : (s.put p x v).meas = s.meas := rfl
@[simp] theorem State.put_restart (s : State) (p : Nat) (x : Fld) (v : Nat) : (s.put p x v).restart = s.restart := rfl
@[simp] theorem State.put_cores (s : State) (p : Nat) (x : Fld) (v : Nat) : (s.put p x v).cores = s.cores := rfl
@[simp] theorem State.put_routes (s : State) (p : Nat) (x : Fld) (v : Nat) : (s.put p x v).routes = s.routes := rfl
@[simp] theorem State.put_edges (s : State) (p : Nat) (x : Fld) (v : Nat) : (s.put p x v).edges = s.edges := rfl
@[simp] theorem State.put_routeRuns (s : State) (p : Nat) (x : Fld) (v : Nat) : (s.put p x v).routeRuns = s.routeRuns := rfl
@[simp] theorem State.put_vecs (s : State) (p : Nat) (x : Fld) (v : Nat) : (s.put p x v).vecs = s.vecs := rfl
@[simp] theorem State.put_ports (s : State) (p : Nat) (x : Fld) (v : Nat) : (s.put p x v).ports = s.ports := rfl
@[simp] theorem State.put_bar4 (s : State) (p : Nat) (x : Fld) (v : Nat) : (s.put p x v).bar4 = s.bar4 := rfl
@[simp] theorem State.put_gateRun (s : State) (p : Nat) (x : Fld) (v : Nat) : (s.put p x v).gateRun = s.gateRun := rfl
@[simp] theorem State.put_gateWait (s : State) (p : Nat) (x : Fld) (v : Nat) : (s.put p x v).gateWait = s.gateWait := rfl
@[simp] theorem State.put_rst (s : State) (p : Nat) (x : Fld) (v : Nat) : (s.put p x v).rst = s.rst := rfl
@[simp] theorem State.put_otp (s : State) (p : Nat) (x : Fld) (v : Nat) : (s.put p x v).otp = s.otp := rfl
@[simp] theorem State.put_otpRun (s : State) (p : Nat) (x : Fld) (v : Nat) : (s.put p x v).otpRun = s.otpRun := rfl
@[simp] theorem State.put_winners (s : State) (p : Nat) (x : Fld) (v : Nat) : (s.put p x v).winners = s.winners := rfl
@[simp] theorem State.put_pinMap (s : State) (p : Nat) (x : Fld) (v : Nat) : (s.put p x v).pinMap = s.pinMap := rfl
@[simp] theorem State.put_backup (s : State) (p : Nat) (x : Fld) (v : Nat) : (s.put p x v).backup = s.backup := rfl
@[simp] theorem State.put_dram (s : State) (p : Nat) (x : Fld) (v : Nat) : (s.put p x v).dram = s.dram := rfl
@[simp] theorem State.put_pool (s : State) (p : Nat) (x : Fld) (v : Nat) : (s.put p x v).pool = s.pool := rfl
@[simp] theorem State.put_dc (s : State) (p : Nat) (x : Fld) (v : Nat) : (s.put p x v).dc = s.dc := rfl
@[simp] theorem State.put_poolChk (s : State) (p : Nat) (x : Fld) (v : Nat) : (s.put p x v).poolChk = s.poolChk := rfl
@[simp] theorem State.put_elog (s : State) (p : Nat) (x : Fld) (v : Nat) : (s.put p x v).elog = s.elog := rfl
@[simp] theorem State.put_leakAt (s : State) (p : Nat) (x : Fld) (v : Nat) : (s.put p x v).leakAt = s.leakAt := rfl
@[simp] theorem State.put_banks (s : State) (p : Nat) (x : Fld) (v : Nat) : (s.put p x v).banks = s.banks := rfl
@[simp] theorem State.put_mem (s : State) (p : Nat) (x : Fld) (v : Nat) : (s.put p x v).mem = s.mem := rfl
@[simp] theorem State.put_host (s : State) (p : Nat) (x : Fld) (v : Nat) : (s.put p x v).host = s.host := rfl
@[simp] theorem State.put_poolClr (s : State) (p : Nat) (x : Fld) (v : Nat) : (s.put p x v).poolClr = s.poolClr := rfl
@[simp] theorem State.put_rasters (s : State) (p : Nat) (x : Fld) (v : Nat) : (s.put p x v).rasters = s.rasters := rfl
@[simp] theorem State.put_gfx (s : State) (p : Nat) (x : Fld) (v : Nat) : (s.put p x v).gfx = s.gfx := rfl
@[simp] theorem State.put_cvus (s : State) (p : Nat) (x : Fld) (v : Nat) : (s.put p x v).cvus = s.cvus := rfl
@[simp] theorem State.put_heads (s : State) (p : Nat) (x : Fld) (v : Nat) : (s.put p x v).heads = s.heads := rfl
@[simp] theorem State.put_layers (s : State) (p : Nat) (x : Fld) (v : Nat) : (s.put p x v).layers = s.layers := rfl
@[simp] theorem State.put_wbs (s : State) (p : Nat) (x : Fld) (v : Nat) : (s.put p x v).wbs = s.wbs := rfl
@[simp] theorem State.put_links (s : State) (p : Nat) (x : Fld) (v : Nat) : (s.put p x v).links = s.links := rfl
@[simp] theorem State.put_dphyAt (s : State) (p : Nat) (x : Fld) (v : Nat) : (s.put p x v).dphyAt = s.dphyAt := rfl
@[simp] theorem State.put_poolWr (s : State) (p : Nat) (x : Fld) (v : Nat) : (s.put p x v).poolWr = s.poolWr := rfl
@[simp] theorem State.put_poolFree (s : State) (p : Nat) (x : Fld) (v : Nat) : (s.put p x v).poolFree = s.poolFree := rfl
@[simp] theorem State.put_coefs (s : State) (p : Nat) (x : Fld) (v : Nat) : (s.put p x v).coefs = s.coefs := rfl
@[simp] theorem State.put_luts (s : State) (p : Nat) (x : Fld) (v : Nat) : (s.put p x v).luts = s.luts := rfl
@[simp] theorem State.put_panels (s : State) (p : Nat) (x : Fld) (v : Nat) : (s.put p x v).panels = s.panels := rfl
@[simp] theorem State.put_effects (s : State) (p : Nat) (x : Fld) (v : Nat) : (s.put p x v).effects = s.effects := rfl
@[simp] theorem State.put_effLoad (s : State) (p : Nat) (x : Fld) (v : Nat) : (s.put p x v).effLoad = s.effLoad := rfl
@[simp] theorem State.put_hchans (s : State) (p : Nat) (x : Fld) (v : Nat) : (s.put p x v).hchans = s.hchans := rfl
@[simp] theorem State.put_hports (s : State) (p : Nat) (x : Fld) (v : Nat) : (s.put p x v).hports = s.hports := rfl
@[simp] theorem State.put_reflex (s : State) (p : Nat) (x : Fld) (v : Nat) : (s.put p x v).reflex = s.reflex := rfl
@[simp] theorem State.put_reflexArm (s : State) (p : Nat) (x : Fld) (v : Nat) : (s.put p x v).reflexArm = s.reflexArm := rfl
@[simp] theorem State.put_reflexQ (s : State) (p : Nat) (x : Fld) (v : Nat) : (s.put p x v).reflexQ = s.reflexQ := rfl
@[simp] theorem State.put_lineStarts (s : State) (p : Nat) (x : Fld) (v : Nat) : (s.put p x v).lineStarts = s.lineStarts := rfl
@[simp] theorem State.put_audio (s : State) (p : Nat) (x : Fld) (v : Nat) : (s.put p x v).audio = s.audio := rfl
@[simp] theorem State.put_tmb (s : State) (p : Nat) (x : Fld) (v : Nat) : (s.put p x v).tmb = s.tmb := rfl
@[simp] theorem State.put_pad (s : State) (p : Nat) (x : Fld) (v : Nat) : (s.put p x v).pad = s.pad := rfl
@[simp] theorem State.put_discards (s : State) (p : Nat) (x : Fld) (v : Nat) : (s.put p x v).discards = s.discards := rfl
@[simp] theorem State.put_pending (s : State) (p : Nat) (x : Fld) (v : Nat) : (s.put p x v).pending = s.pending := rfl

@[simp] theorem State.put64_die (s : State) (p : Nat) (x : Fld) (v : Nat) : (s.put64 p x v).die = s.die := rfl
@[simp] theorem State.put64_freeCtr (s : State) (p : Nat) (x : Fld) (v : Nat) : (s.put64 p x v).freeCtr = s.freeCtr := rfl
@[simp] theorem State.put64_power (s : State) (p : Nat) (x : Fld) (v : Nat) : (s.put64 p x v).power = s.power := rfl
@[simp] theorem State.put64_mode (s : State) (p : Nat) (x : Fld) (v : Nat) : (s.put64 p x v).mode = s.mode := rfl
@[simp] theorem State.put64_prev (s : State) (p : Nat) (x : Fld) (v : Nat) : (s.put64 p x v).prev = s.prev := rfl
@[simp] theorem State.put64_stby (s : State) (p : Nat) (x : Fld) (v : Nat) : (s.put64 p x v).stby = s.stby := rfl
@[simp] theorem State.put64_safeRun (s : State) (p : Nat) (x : Fld) (v : Nat) : (s.put64 p x v).safeRun = s.safeRun := rfl
@[simp] theorem State.put64_modeReqs (s : State) (p : Nat) (x : Fld) (v : Nat) : (s.put64 p x v).modeReqs = s.modeReqs := rfl
@[simp] theorem State.put64_modeTrig (s : State) (p : Nat) (x : Fld) (v : Nat) : (s.put64 p x v).modeTrig = s.modeTrig := rfl
@[simp] theorem State.put64_epoch (s : State) (p : Nat) (x : Fld) (v : Nat) : (s.put64 p x v).epoch = s.epoch := rfl
@[simp] theorem State.put64_thyme (s : State) (p : Nat) (x : Fld) (v : Nat) : (s.put64 p x v).thyme = s.thyme := rfl
@[simp] theorem State.put64_thymeRun (s : State) (p : Nat) (x : Fld) (v : Nat) : (s.put64 p x v).thymeRun = s.thymeRun := rfl
@[simp] theorem State.put64_slewAt (s : State) (p : Nat) (x : Fld) (v : Nat) : (s.put64 p x v).slewAt = s.slewAt := rfl
@[simp] theorem State.put64_pages (s : State) (p : Nat) (x : Fld) (v : Nat) : (s.put64 p x v).pages = s.pages := rfl
@[simp] theorem State.put64_live (s : State) (p : Nat) (x : Fld) (v : Nat) : (s.put64 p x v).live = s.live := rfl
@[simp] theorem State.put64_held (s : State) (p : Nat) (x : Fld) (v : Nat) : (s.put64 p x v).held = s.held := rfl
@[simp] theorem State.put64_srcTick (s : State) (p : Nat) (x : Fld) (v : Nat) : (s.put64 p x v).srcTick = s.srcTick := rfl
@[simp] theorem State.put64_snaps (s : State) (p : Nat) (x : Fld) (v : Nat) : (s.put64 p x v).snaps = s.snaps := rfl
@[simp] theorem State.put64_resp (s : State) (p : Nat) (x : Fld) (v : Nat) : (s.put64 p x v).resp = s.resp := rfl
@[simp] theorem State.put64_flt (s : State) (p : Nat) (x : Fld) (v : Nat) : (s.put64 p x v).flt = s.flt := rfl
@[simp] theorem State.put64_ringAt (s : State) (p : Nat) (x : Fld) (v : Nat) : (s.put64 p x v).ringAt = s.ringAt := rfl
@[simp] theorem State.put64_journals (s : State) (p : Nat) (x : Fld) (v : Nat) : (s.put64 p x v).journals = s.journals := rfl
@[simp] theorem State.put64_rings (s : State) (p : Nat) (x : Fld) (v : Nat) : (s.put64 p x v).rings = s.rings := rfl
@[simp] theorem State.put64_fences (s : State) (p : Nat) (x : Fld) (v : Nat) : (s.put64 p x v).fences = s.fences := rfl
@[simp] theorem State.put64_copies (s : State) (p : Nat) (x : Fld) (v : Nat) : (s.put64 p x v).copies = s.copies := rfl
@[simp] theorem State.put64_copied (s : State) (p : Nat) (x : Fld) (v : Nat) : (s.put64 p x v).copied = s.copied := rfl
@[simp] theorem State.put64_quiesces (s : State) (p : Nat) (x : Fld) (v : Nat) : (s.put64 p x v).quiesces = s.quiesces := rfl
@[simp] theorem State.put64_bootRec (s : State) (p : Nat) (x : Fld) (v : Nat) : (s.put64 p x v).bootRec = s.bootRec := rfl
@[simp] theorem State.put64_potRun (s : State) (p : Nat) (x : Fld) (v : Nat) : (s.put64 p x v).potRun = s.potRun := rfl
@[simp] theorem State.put64_potWait (s : State) (p : Nat) (x : Fld) (v : Nat) : (s.put64 p x v).potWait = s.potWait := rfl
@[simp] theorem State.put64_coves (s : State) (p : Nat) (x : Fld) (v : Nat) : (s.put64 p x v).coves = s.coves := rfl
@[simp] theorem State.put64_potCache (s : State) (p : Nat) (x : Fld) (v : Nat) : (s.put64 p x v).potCache = s.potCache := rfl
@[simp] theorem State.put64_meas (s : State) (p : Nat) (x : Fld) (v : Nat) : (s.put64 p x v).meas = s.meas := rfl
@[simp] theorem State.put64_restart (s : State) (p : Nat) (x : Fld) (v : Nat) : (s.put64 p x v).restart = s.restart := rfl
@[simp] theorem State.put64_cores (s : State) (p : Nat) (x : Fld) (v : Nat) : (s.put64 p x v).cores = s.cores := rfl
@[simp] theorem State.put64_routes (s : State) (p : Nat) (x : Fld) (v : Nat) : (s.put64 p x v).routes = s.routes := rfl
@[simp] theorem State.put64_edges (s : State) (p : Nat) (x : Fld) (v : Nat) : (s.put64 p x v).edges = s.edges := rfl
@[simp] theorem State.put64_routeRuns (s : State) (p : Nat) (x : Fld) (v : Nat) : (s.put64 p x v).routeRuns = s.routeRuns := rfl
@[simp] theorem State.put64_vecs (s : State) (p : Nat) (x : Fld) (v : Nat) : (s.put64 p x v).vecs = s.vecs := rfl
@[simp] theorem State.put64_ports (s : State) (p : Nat) (x : Fld) (v : Nat) : (s.put64 p x v).ports = s.ports := rfl
@[simp] theorem State.put64_bar4 (s : State) (p : Nat) (x : Fld) (v : Nat) : (s.put64 p x v).bar4 = s.bar4 := rfl
@[simp] theorem State.put64_gateRun (s : State) (p : Nat) (x : Fld) (v : Nat) : (s.put64 p x v).gateRun = s.gateRun := rfl
@[simp] theorem State.put64_gateWait (s : State) (p : Nat) (x : Fld) (v : Nat) : (s.put64 p x v).gateWait = s.gateWait := rfl
@[simp] theorem State.put64_rst (s : State) (p : Nat) (x : Fld) (v : Nat) : (s.put64 p x v).rst = s.rst := rfl
@[simp] theorem State.put64_otp (s : State) (p : Nat) (x : Fld) (v : Nat) : (s.put64 p x v).otp = s.otp := rfl
@[simp] theorem State.put64_otpRun (s : State) (p : Nat) (x : Fld) (v : Nat) : (s.put64 p x v).otpRun = s.otpRun := rfl
@[simp] theorem State.put64_winners (s : State) (p : Nat) (x : Fld) (v : Nat) : (s.put64 p x v).winners = s.winners := rfl
@[simp] theorem State.put64_pinMap (s : State) (p : Nat) (x : Fld) (v : Nat) : (s.put64 p x v).pinMap = s.pinMap := rfl
@[simp] theorem State.put64_backup (s : State) (p : Nat) (x : Fld) (v : Nat) : (s.put64 p x v).backup = s.backup := rfl
@[simp] theorem State.put64_dram (s : State) (p : Nat) (x : Fld) (v : Nat) : (s.put64 p x v).dram = s.dram := rfl
@[simp] theorem State.put64_pool (s : State) (p : Nat) (x : Fld) (v : Nat) : (s.put64 p x v).pool = s.pool := rfl
@[simp] theorem State.put64_dc (s : State) (p : Nat) (x : Fld) (v : Nat) : (s.put64 p x v).dc = s.dc := rfl
@[simp] theorem State.put64_poolChk (s : State) (p : Nat) (x : Fld) (v : Nat) : (s.put64 p x v).poolChk = s.poolChk := rfl
@[simp] theorem State.put64_elog (s : State) (p : Nat) (x : Fld) (v : Nat) : (s.put64 p x v).elog = s.elog := rfl
@[simp] theorem State.put64_leakAt (s : State) (p : Nat) (x : Fld) (v : Nat) : (s.put64 p x v).leakAt = s.leakAt := rfl
@[simp] theorem State.put64_banks (s : State) (p : Nat) (x : Fld) (v : Nat) : (s.put64 p x v).banks = s.banks := rfl
@[simp] theorem State.put64_mem (s : State) (p : Nat) (x : Fld) (v : Nat) : (s.put64 p x v).mem = s.mem := rfl
@[simp] theorem State.put64_host (s : State) (p : Nat) (x : Fld) (v : Nat) : (s.put64 p x v).host = s.host := rfl
@[simp] theorem State.put64_poolClr (s : State) (p : Nat) (x : Fld) (v : Nat) : (s.put64 p x v).poolClr = s.poolClr := rfl
@[simp] theorem State.put64_rasters (s : State) (p : Nat) (x : Fld) (v : Nat) : (s.put64 p x v).rasters = s.rasters := rfl
@[simp] theorem State.put64_gfx (s : State) (p : Nat) (x : Fld) (v : Nat) : (s.put64 p x v).gfx = s.gfx := rfl
@[simp] theorem State.put64_cvus (s : State) (p : Nat) (x : Fld) (v : Nat) : (s.put64 p x v).cvus = s.cvus := rfl
@[simp] theorem State.put64_heads (s : State) (p : Nat) (x : Fld) (v : Nat) : (s.put64 p x v).heads = s.heads := rfl
@[simp] theorem State.put64_layers (s : State) (p : Nat) (x : Fld) (v : Nat) : (s.put64 p x v).layers = s.layers := rfl
@[simp] theorem State.put64_wbs (s : State) (p : Nat) (x : Fld) (v : Nat) : (s.put64 p x v).wbs = s.wbs := rfl
@[simp] theorem State.put64_links (s : State) (p : Nat) (x : Fld) (v : Nat) : (s.put64 p x v).links = s.links := rfl
@[simp] theorem State.put64_dphyAt (s : State) (p : Nat) (x : Fld) (v : Nat) : (s.put64 p x v).dphyAt = s.dphyAt := rfl
@[simp] theorem State.put64_poolWr (s : State) (p : Nat) (x : Fld) (v : Nat) : (s.put64 p x v).poolWr = s.poolWr := rfl
@[simp] theorem State.put64_poolFree (s : State) (p : Nat) (x : Fld) (v : Nat) : (s.put64 p x v).poolFree = s.poolFree := rfl
@[simp] theorem State.put64_coefs (s : State) (p : Nat) (x : Fld) (v : Nat) : (s.put64 p x v).coefs = s.coefs := rfl
@[simp] theorem State.put64_luts (s : State) (p : Nat) (x : Fld) (v : Nat) : (s.put64 p x v).luts = s.luts := rfl
@[simp] theorem State.put64_panels (s : State) (p : Nat) (x : Fld) (v : Nat) : (s.put64 p x v).panels = s.panels := rfl
@[simp] theorem State.put64_effects (s : State) (p : Nat) (x : Fld) (v : Nat) : (s.put64 p x v).effects = s.effects := rfl
@[simp] theorem State.put64_effLoad (s : State) (p : Nat) (x : Fld) (v : Nat) : (s.put64 p x v).effLoad = s.effLoad := rfl
@[simp] theorem State.put64_hchans (s : State) (p : Nat) (x : Fld) (v : Nat) : (s.put64 p x v).hchans = s.hchans := rfl
@[simp] theorem State.put64_hports (s : State) (p : Nat) (x : Fld) (v : Nat) : (s.put64 p x v).hports = s.hports := rfl
@[simp] theorem State.put64_reflex (s : State) (p : Nat) (x : Fld) (v : Nat) : (s.put64 p x v).reflex = s.reflex := rfl
@[simp] theorem State.put64_reflexArm (s : State) (p : Nat) (x : Fld) (v : Nat) : (s.put64 p x v).reflexArm = s.reflexArm := rfl
@[simp] theorem State.put64_reflexQ (s : State) (p : Nat) (x : Fld) (v : Nat) : (s.put64 p x v).reflexQ = s.reflexQ := rfl
@[simp] theorem State.put64_lineStarts (s : State) (p : Nat) (x : Fld) (v : Nat) : (s.put64 p x v).lineStarts = s.lineStarts := rfl
@[simp] theorem State.put64_audio (s : State) (p : Nat) (x : Fld) (v : Nat) : (s.put64 p x v).audio = s.audio := rfl
@[simp] theorem State.put64_tmb (s : State) (p : Nat) (x : Fld) (v : Nat) : (s.put64 p x v).tmb = s.tmb := rfl
@[simp] theorem State.put64_pad (s : State) (p : Nat) (x : Fld) (v : Nat) : (s.put64 p x v).pad = s.pad := rfl
@[simp] theorem State.put64_discards (s : State) (p : Nat) (x : Fld) (v : Nat) : (s.put64 p x v).discards = s.discards := rfl
@[simp] theorem State.put64_pending (s : State) (p : Nat) (x : Fld) (v : Nat) : (s.put64 p x v).pending = s.pending := rfl

@[simp] theorem State.setCtl_die (s : State) (p : Nat) (c : PageCtl) : (s.setCtl p c).die = s.die := rfl
@[simp] theorem State.setCtl_freeCtr (s : State) (p : Nat) (c : PageCtl) : (s.setCtl p c).freeCtr = s.freeCtr := rfl
@[simp] theorem State.setCtl_power (s : State) (p : Nat) (c : PageCtl) : (s.setCtl p c).power = s.power := rfl
@[simp] theorem State.setCtl_mode (s : State) (p : Nat) (c : PageCtl) : (s.setCtl p c).mode = s.mode := rfl
@[simp] theorem State.setCtl_prev (s : State) (p : Nat) (c : PageCtl) : (s.setCtl p c).prev = s.prev := rfl
@[simp] theorem State.setCtl_stby (s : State) (p : Nat) (c : PageCtl) : (s.setCtl p c).stby = s.stby := rfl
@[simp] theorem State.setCtl_safeRun (s : State) (p : Nat) (c : PageCtl) : (s.setCtl p c).safeRun = s.safeRun := rfl
@[simp] theorem State.setCtl_modeReqs (s : State) (p : Nat) (c : PageCtl) : (s.setCtl p c).modeReqs = s.modeReqs := rfl
@[simp] theorem State.setCtl_modeTrig (s : State) (p : Nat) (c : PageCtl) : (s.setCtl p c).modeTrig = s.modeTrig := rfl
@[simp] theorem State.setCtl_epoch (s : State) (p : Nat) (c : PageCtl) : (s.setCtl p c).epoch = s.epoch := rfl
@[simp] theorem State.setCtl_thyme (s : State) (p : Nat) (c : PageCtl) : (s.setCtl p c).thyme = s.thyme := rfl
@[simp] theorem State.setCtl_thymeRun (s : State) (p : Nat) (c : PageCtl) : (s.setCtl p c).thymeRun = s.thymeRun := rfl
@[simp] theorem State.setCtl_slewAt (s : State) (p : Nat) (c : PageCtl) : (s.setCtl p c).slewAt = s.slewAt := rfl
@[simp] theorem State.setCtl_regs (s : State) (p : Nat) (c : PageCtl) : (s.setCtl p c).regs = s.regs := rfl
@[simp] theorem State.setCtl_live (s : State) (p : Nat) (c : PageCtl) : (s.setCtl p c).live = s.live := rfl
@[simp] theorem State.setCtl_held (s : State) (p : Nat) (c : PageCtl) : (s.setCtl p c).held = s.held := rfl
@[simp] theorem State.setCtl_srcTick (s : State) (p : Nat) (c : PageCtl) : (s.setCtl p c).srcTick = s.srcTick := rfl
@[simp] theorem State.setCtl_snaps (s : State) (p : Nat) (c : PageCtl) : (s.setCtl p c).snaps = s.snaps := rfl
@[simp] theorem State.setCtl_resp (s : State) (p : Nat) (c : PageCtl) : (s.setCtl p c).resp = s.resp := rfl
@[simp] theorem State.setCtl_flt (s : State) (p : Nat) (c : PageCtl) : (s.setCtl p c).flt = s.flt := rfl
@[simp] theorem State.setCtl_ringAt (s : State) (p : Nat) (c : PageCtl) : (s.setCtl p c).ringAt = s.ringAt := rfl
@[simp] theorem State.setCtl_journals (s : State) (p : Nat) (c : PageCtl) : (s.setCtl p c).journals = s.journals := rfl
@[simp] theorem State.setCtl_rings (s : State) (p : Nat) (c : PageCtl) : (s.setCtl p c).rings = s.rings := rfl
@[simp] theorem State.setCtl_fences (s : State) (p : Nat) (c : PageCtl) : (s.setCtl p c).fences = s.fences := rfl
@[simp] theorem State.setCtl_copies (s : State) (p : Nat) (c : PageCtl) : (s.setCtl p c).copies = s.copies := rfl
@[simp] theorem State.setCtl_copied (s : State) (p : Nat) (c : PageCtl) : (s.setCtl p c).copied = s.copied := rfl
@[simp] theorem State.setCtl_quiesces (s : State) (p : Nat) (c : PageCtl) : (s.setCtl p c).quiesces = s.quiesces := rfl
@[simp] theorem State.setCtl_bootRec (s : State) (p : Nat) (c : PageCtl) : (s.setCtl p c).bootRec = s.bootRec := rfl
@[simp] theorem State.setCtl_potRun (s : State) (p : Nat) (c : PageCtl) : (s.setCtl p c).potRun = s.potRun := rfl
@[simp] theorem State.setCtl_potWait (s : State) (p : Nat) (c : PageCtl) : (s.setCtl p c).potWait = s.potWait := rfl
@[simp] theorem State.setCtl_coves (s : State) (p : Nat) (c : PageCtl) : (s.setCtl p c).coves = s.coves := rfl
@[simp] theorem State.setCtl_potCache (s : State) (p : Nat) (c : PageCtl) : (s.setCtl p c).potCache = s.potCache := rfl
@[simp] theorem State.setCtl_meas (s : State) (p : Nat) (c : PageCtl) : (s.setCtl p c).meas = s.meas := rfl
@[simp] theorem State.setCtl_restart (s : State) (p : Nat) (c : PageCtl) : (s.setCtl p c).restart = s.restart := rfl
@[simp] theorem State.setCtl_cores (s : State) (p : Nat) (c : PageCtl) : (s.setCtl p c).cores = s.cores := rfl
@[simp] theorem State.setCtl_routes (s : State) (p : Nat) (c : PageCtl) : (s.setCtl p c).routes = s.routes := rfl
@[simp] theorem State.setCtl_edges (s : State) (p : Nat) (c : PageCtl) : (s.setCtl p c).edges = s.edges := rfl
@[simp] theorem State.setCtl_routeRuns (s : State) (p : Nat) (c : PageCtl) : (s.setCtl p c).routeRuns = s.routeRuns := rfl
@[simp] theorem State.setCtl_vecs (s : State) (p : Nat) (c : PageCtl) : (s.setCtl p c).vecs = s.vecs := rfl
@[simp] theorem State.setCtl_ports (s : State) (p : Nat) (c : PageCtl) : (s.setCtl p c).ports = s.ports := rfl
@[simp] theorem State.setCtl_bar4 (s : State) (p : Nat) (c : PageCtl) : (s.setCtl p c).bar4 = s.bar4 := rfl
@[simp] theorem State.setCtl_gateRun (s : State) (p : Nat) (c : PageCtl) : (s.setCtl p c).gateRun = s.gateRun := rfl
@[simp] theorem State.setCtl_gateWait (s : State) (p : Nat) (c : PageCtl) : (s.setCtl p c).gateWait = s.gateWait := rfl
@[simp] theorem State.setCtl_rst (s : State) (p : Nat) (c : PageCtl) : (s.setCtl p c).rst = s.rst := rfl
@[simp] theorem State.setCtl_otp (s : State) (p : Nat) (c : PageCtl) : (s.setCtl p c).otp = s.otp := rfl
@[simp] theorem State.setCtl_otpRun (s : State) (p : Nat) (c : PageCtl) : (s.setCtl p c).otpRun = s.otpRun := rfl
@[simp] theorem State.setCtl_winners (s : State) (p : Nat) (c : PageCtl) : (s.setCtl p c).winners = s.winners := rfl
@[simp] theorem State.setCtl_pinMap (s : State) (p : Nat) (c : PageCtl) : (s.setCtl p c).pinMap = s.pinMap := rfl
@[simp] theorem State.setCtl_backup (s : State) (p : Nat) (c : PageCtl) : (s.setCtl p c).backup = s.backup := rfl
@[simp] theorem State.setCtl_dram (s : State) (p : Nat) (c : PageCtl) : (s.setCtl p c).dram = s.dram := rfl
@[simp] theorem State.setCtl_pool (s : State) (p : Nat) (c : PageCtl) : (s.setCtl p c).pool = s.pool := rfl
@[simp] theorem State.setCtl_dc (s : State) (p : Nat) (c : PageCtl) : (s.setCtl p c).dc = s.dc := rfl
@[simp] theorem State.setCtl_poolChk (s : State) (p : Nat) (c : PageCtl) : (s.setCtl p c).poolChk = s.poolChk := rfl
@[simp] theorem State.setCtl_elog (s : State) (p : Nat) (c : PageCtl) : (s.setCtl p c).elog = s.elog := rfl
@[simp] theorem State.setCtl_leakAt (s : State) (p : Nat) (c : PageCtl) : (s.setCtl p c).leakAt = s.leakAt := rfl
@[simp] theorem State.setCtl_banks (s : State) (p : Nat) (c : PageCtl) : (s.setCtl p c).banks = s.banks := rfl
@[simp] theorem State.setCtl_mem (s : State) (p : Nat) (c : PageCtl) : (s.setCtl p c).mem = s.mem := rfl
@[simp] theorem State.setCtl_host (s : State) (p : Nat) (c : PageCtl) : (s.setCtl p c).host = s.host := rfl
@[simp] theorem State.setCtl_poolClr (s : State) (p : Nat) (c : PageCtl) : (s.setCtl p c).poolClr = s.poolClr := rfl
@[simp] theorem State.setCtl_rasters (s : State) (p : Nat) (c : PageCtl) : (s.setCtl p c).rasters = s.rasters := rfl
@[simp] theorem State.setCtl_gfx (s : State) (p : Nat) (c : PageCtl) : (s.setCtl p c).gfx = s.gfx := rfl
@[simp] theorem State.setCtl_cvus (s : State) (p : Nat) (c : PageCtl) : (s.setCtl p c).cvus = s.cvus := rfl
@[simp] theorem State.setCtl_heads (s : State) (p : Nat) (c : PageCtl) : (s.setCtl p c).heads = s.heads := rfl
@[simp] theorem State.setCtl_layers (s : State) (p : Nat) (c : PageCtl) : (s.setCtl p c).layers = s.layers := rfl
@[simp] theorem State.setCtl_wbs (s : State) (p : Nat) (c : PageCtl) : (s.setCtl p c).wbs = s.wbs := rfl
@[simp] theorem State.setCtl_links (s : State) (p : Nat) (c : PageCtl) : (s.setCtl p c).links = s.links := rfl
@[simp] theorem State.setCtl_dphyAt (s : State) (p : Nat) (c : PageCtl) : (s.setCtl p c).dphyAt = s.dphyAt := rfl
@[simp] theorem State.setCtl_poolWr (s : State) (p : Nat) (c : PageCtl) : (s.setCtl p c).poolWr = s.poolWr := rfl
@[simp] theorem State.setCtl_poolFree (s : State) (p : Nat) (c : PageCtl) : (s.setCtl p c).poolFree = s.poolFree := rfl
@[simp] theorem State.setCtl_coefs (s : State) (p : Nat) (c : PageCtl) : (s.setCtl p c).coefs = s.coefs := rfl
@[simp] theorem State.setCtl_luts (s : State) (p : Nat) (c : PageCtl) : (s.setCtl p c).luts = s.luts := rfl
@[simp] theorem State.setCtl_panels (s : State) (p : Nat) (c : PageCtl) : (s.setCtl p c).panels = s.panels := rfl
@[simp] theorem State.setCtl_effects (s : State) (p : Nat) (c : PageCtl) : (s.setCtl p c).effects = s.effects := rfl
@[simp] theorem State.setCtl_effLoad (s : State) (p : Nat) (c : PageCtl) : (s.setCtl p c).effLoad = s.effLoad := rfl
@[simp] theorem State.setCtl_hchans (s : State) (p : Nat) (c : PageCtl) : (s.setCtl p c).hchans = s.hchans := rfl
@[simp] theorem State.setCtl_hports (s : State) (p : Nat) (c : PageCtl) : (s.setCtl p c).hports = s.hports := rfl
@[simp] theorem State.setCtl_reflex (s : State) (p : Nat) (c : PageCtl) : (s.setCtl p c).reflex = s.reflex := rfl
@[simp] theorem State.setCtl_reflexArm (s : State) (p : Nat) (c : PageCtl) : (s.setCtl p c).reflexArm = s.reflexArm := rfl
@[simp] theorem State.setCtl_reflexQ (s : State) (p : Nat) (c : PageCtl) : (s.setCtl p c).reflexQ = s.reflexQ := rfl
@[simp] theorem State.setCtl_lineStarts (s : State) (p : Nat) (c : PageCtl) : (s.setCtl p c).lineStarts = s.lineStarts := rfl
@[simp] theorem State.setCtl_audio (s : State) (p : Nat) (c : PageCtl) : (s.setCtl p c).audio = s.audio := rfl
@[simp] theorem State.setCtl_tmb (s : State) (p : Nat) (c : PageCtl) : (s.setCtl p c).tmb = s.tmb := rfl
@[simp] theorem State.setCtl_pad (s : State) (p : Nat) (c : PageCtl) : (s.setCtl p c).pad = s.pad := rfl
@[simp] theorem State.setCtl_discards (s : State) (p : Nat) (c : PageCtl) : (s.setCtl p c).discards = s.discards := rfl
@[simp] theorem State.setCtl_pending (s : State) (p : Nat) (c : PageCtl) : (s.setCtl p c).pending = s.pending := rfl

@[simp] theorem State.tookFree_die (s : State) : (s.tookFree).die = s.die := rfl
@[simp] theorem State.tookFree_power (s : State) : (s.tookFree).power = s.power := rfl
@[simp] theorem State.tookFree_mode (s : State) : (s.tookFree).mode = s.mode := rfl
@[simp] theorem State.tookFree_prev (s : State) : (s.tookFree).prev = s.prev := rfl
@[simp] theorem State.tookFree_stby (s : State) : (s.tookFree).stby = s.stby := rfl
@[simp] theorem State.tookFree_safeRun (s : State) : (s.tookFree).safeRun = s.safeRun := rfl
@[simp] theorem State.tookFree_modeReqs (s : State) : (s.tookFree).modeReqs = s.modeReqs := rfl
@[simp] theorem State.tookFree_modeTrig (s : State) : (s.tookFree).modeTrig = s.modeTrig := rfl
@[simp] theorem State.tookFree_epoch (s : State) : (s.tookFree).epoch = s.epoch := rfl
@[simp] theorem State.tookFree_thyme (s : State) : (s.tookFree).thyme = s.thyme := rfl
@[simp] theorem State.tookFree_thymeRun (s : State) : (s.tookFree).thymeRun = s.thymeRun := rfl
@[simp] theorem State.tookFree_slewAt (s : State) : (s.tookFree).slewAt = s.slewAt := rfl
@[simp] theorem State.tookFree_regs (s : State) : (s.tookFree).regs = s.regs := rfl
@[simp] theorem State.tookFree_pages (s : State) : (s.tookFree).pages = s.pages := rfl
@[simp] theorem State.tookFree_live (s : State) : (s.tookFree).live = s.live := rfl
@[simp] theorem State.tookFree_held (s : State) : (s.tookFree).held = s.held := rfl
@[simp] theorem State.tookFree_srcTick (s : State) : (s.tookFree).srcTick = s.srcTick := rfl
@[simp] theorem State.tookFree_snaps (s : State) : (s.tookFree).snaps = s.snaps := rfl
@[simp] theorem State.tookFree_resp (s : State) : (s.tookFree).resp = s.resp := rfl
@[simp] theorem State.tookFree_flt (s : State) : (s.tookFree).flt = s.flt := rfl
@[simp] theorem State.tookFree_ringAt (s : State) : (s.tookFree).ringAt = s.ringAt := rfl
@[simp] theorem State.tookFree_journals (s : State) : (s.tookFree).journals = s.journals := rfl
@[simp] theorem State.tookFree_rings (s : State) : (s.tookFree).rings = s.rings := rfl
@[simp] theorem State.tookFree_fences (s : State) : (s.tookFree).fences = s.fences := rfl
@[simp] theorem State.tookFree_copies (s : State) : (s.tookFree).copies = s.copies := rfl
@[simp] theorem State.tookFree_copied (s : State) : (s.tookFree).copied = s.copied := rfl
@[simp] theorem State.tookFree_quiesces (s : State) : (s.tookFree).quiesces = s.quiesces := rfl
@[simp] theorem State.tookFree_bootRec (s : State) : (s.tookFree).bootRec = s.bootRec := rfl
@[simp] theorem State.tookFree_potRun (s : State) : (s.tookFree).potRun = s.potRun := rfl
@[simp] theorem State.tookFree_potWait (s : State) : (s.tookFree).potWait = s.potWait := rfl
@[simp] theorem State.tookFree_coves (s : State) : (s.tookFree).coves = s.coves := rfl
@[simp] theorem State.tookFree_potCache (s : State) : (s.tookFree).potCache = s.potCache := rfl
@[simp] theorem State.tookFree_meas (s : State) : (s.tookFree).meas = s.meas := rfl
@[simp] theorem State.tookFree_restart (s : State) : (s.tookFree).restart = s.restart := rfl
@[simp] theorem State.tookFree_cores (s : State) : (s.tookFree).cores = s.cores := rfl
@[simp] theorem State.tookFree_routes (s : State) : (s.tookFree).routes = s.routes := rfl
@[simp] theorem State.tookFree_edges (s : State) : (s.tookFree).edges = s.edges := rfl
@[simp] theorem State.tookFree_routeRuns (s : State) : (s.tookFree).routeRuns = s.routeRuns := rfl
@[simp] theorem State.tookFree_vecs (s : State) : (s.tookFree).vecs = s.vecs := rfl
@[simp] theorem State.tookFree_ports (s : State) : (s.tookFree).ports = s.ports := rfl
@[simp] theorem State.tookFree_bar4 (s : State) : (s.tookFree).bar4 = s.bar4 := rfl
@[simp] theorem State.tookFree_gateRun (s : State) : (s.tookFree).gateRun = s.gateRun := rfl
@[simp] theorem State.tookFree_gateWait (s : State) : (s.tookFree).gateWait = s.gateWait := rfl
@[simp] theorem State.tookFree_rst (s : State) : (s.tookFree).rst = s.rst := rfl
@[simp] theorem State.tookFree_otp (s : State) : (s.tookFree).otp = s.otp := rfl
@[simp] theorem State.tookFree_otpRun (s : State) : (s.tookFree).otpRun = s.otpRun := rfl
@[simp] theorem State.tookFree_winners (s : State) : (s.tookFree).winners = s.winners := rfl
@[simp] theorem State.tookFree_pinMap (s : State) : (s.tookFree).pinMap = s.pinMap := rfl
@[simp] theorem State.tookFree_backup (s : State) : (s.tookFree).backup = s.backup := rfl
@[simp] theorem State.tookFree_dram (s : State) : (s.tookFree).dram = s.dram := rfl
@[simp] theorem State.tookFree_pool (s : State) : (s.tookFree).pool = s.pool := rfl
@[simp] theorem State.tookFree_dc (s : State) : (s.tookFree).dc = s.dc := rfl
@[simp] theorem State.tookFree_poolChk (s : State) : (s.tookFree).poolChk = s.poolChk := rfl
@[simp] theorem State.tookFree_elog (s : State) : (s.tookFree).elog = s.elog := rfl
@[simp] theorem State.tookFree_leakAt (s : State) : (s.tookFree).leakAt = s.leakAt := rfl
@[simp] theorem State.tookFree_banks (s : State) : (s.tookFree).banks = s.banks := rfl
@[simp] theorem State.tookFree_mem (s : State) : (s.tookFree).mem = s.mem := rfl
@[simp] theorem State.tookFree_host (s : State) : (s.tookFree).host = s.host := rfl
@[simp] theorem State.tookFree_poolClr (s : State) : (s.tookFree).poolClr = s.poolClr := rfl
@[simp] theorem State.tookFree_rasters (s : State) : (s.tookFree).rasters = s.rasters := rfl
@[simp] theorem State.tookFree_gfx (s : State) : (s.tookFree).gfx = s.gfx := rfl
@[simp] theorem State.tookFree_cvus (s : State) : (s.tookFree).cvus = s.cvus := rfl
@[simp] theorem State.tookFree_heads (s : State) : (s.tookFree).heads = s.heads := rfl
@[simp] theorem State.tookFree_layers (s : State) : (s.tookFree).layers = s.layers := rfl
@[simp] theorem State.tookFree_wbs (s : State) : (s.tookFree).wbs = s.wbs := rfl
@[simp] theorem State.tookFree_links (s : State) : (s.tookFree).links = s.links := rfl
@[simp] theorem State.tookFree_dphyAt (s : State) : (s.tookFree).dphyAt = s.dphyAt := rfl
@[simp] theorem State.tookFree_poolWr (s : State) : (s.tookFree).poolWr = s.poolWr := rfl
@[simp] theorem State.tookFree_poolFree (s : State) : (s.tookFree).poolFree = s.poolFree := rfl
@[simp] theorem State.tookFree_coefs (s : State) : (s.tookFree).coefs = s.coefs := rfl
@[simp] theorem State.tookFree_luts (s : State) : (s.tookFree).luts = s.luts := rfl
@[simp] theorem State.tookFree_panels (s : State) : (s.tookFree).panels = s.panels := rfl
@[simp] theorem State.tookFree_effects (s : State) : (s.tookFree).effects = s.effects := rfl
@[simp] theorem State.tookFree_effLoad (s : State) : (s.tookFree).effLoad = s.effLoad := rfl
@[simp] theorem State.tookFree_hchans (s : State) : (s.tookFree).hchans = s.hchans := rfl
@[simp] theorem State.tookFree_hports (s : State) : (s.tookFree).hports = s.hports := rfl
@[simp] theorem State.tookFree_reflex (s : State) : (s.tookFree).reflex = s.reflex := rfl
@[simp] theorem State.tookFree_reflexArm (s : State) : (s.tookFree).reflexArm = s.reflexArm := rfl
@[simp] theorem State.tookFree_reflexQ (s : State) : (s.tookFree).reflexQ = s.reflexQ := rfl
@[simp] theorem State.tookFree_lineStarts (s : State) : (s.tookFree).lineStarts = s.lineStarts := rfl
@[simp] theorem State.tookFree_audio (s : State) : (s.tookFree).audio = s.audio := rfl
@[simp] theorem State.tookFree_tmb (s : State) : (s.tookFree).tmb = s.tmb := rfl
@[simp] theorem State.tookFree_pad (s : State) : (s.tookFree).pad = s.pad := rfl
@[simp] theorem State.tookFree_discards (s : State) : (s.tookFree).discards = s.discards := rfl
@[simp] theorem State.tookFree_pending (s : State) : (s.tookFree).pending = s.pending := rfl

@[simp] theorem State.sourceAt_die (s : State) (n t : Nat) : (s.sourceAt n t).die = s.die := rfl
@[simp] theorem State.sourceAt_freeCtr (s : State) (n t : Nat) : (s.sourceAt n t).freeCtr = s.freeCtr := rfl
@[simp] theorem State.sourceAt_power (s : State) (n t : Nat) : (s.sourceAt n t).power = s.power := rfl
@[simp] theorem State.sourceAt_mode (s : State) (n t : Nat) : (s.sourceAt n t).mode = s.mode := rfl
@[simp] theorem State.sourceAt_prev (s : State) (n t : Nat) : (s.sourceAt n t).prev = s.prev := rfl
@[simp] theorem State.sourceAt_stby (s : State) (n t : Nat) : (s.sourceAt n t).stby = s.stby := rfl
@[simp] theorem State.sourceAt_safeRun (s : State) (n t : Nat) : (s.sourceAt n t).safeRun = s.safeRun := rfl
@[simp] theorem State.sourceAt_modeReqs (s : State) (n t : Nat) : (s.sourceAt n t).modeReqs = s.modeReqs := rfl
@[simp] theorem State.sourceAt_modeTrig (s : State) (n t : Nat) : (s.sourceAt n t).modeTrig = s.modeTrig := rfl
@[simp] theorem State.sourceAt_epoch (s : State) (n t : Nat) : (s.sourceAt n t).epoch = s.epoch := rfl
@[simp] theorem State.sourceAt_thyme (s : State) (n t : Nat) : (s.sourceAt n t).thyme = s.thyme := rfl
@[simp] theorem State.sourceAt_thymeRun (s : State) (n t : Nat) : (s.sourceAt n t).thymeRun = s.thymeRun := rfl
@[simp] theorem State.sourceAt_slewAt (s : State) (n t : Nat) : (s.sourceAt n t).slewAt = s.slewAt := rfl
@[simp] theorem State.sourceAt_regs (s : State) (n t : Nat) : (s.sourceAt n t).regs = s.regs := rfl
@[simp] theorem State.sourceAt_pages (s : State) (n t : Nat) : (s.sourceAt n t).pages = s.pages := rfl
@[simp] theorem State.sourceAt_live (s : State) (n t : Nat) : (s.sourceAt n t).live = s.live := rfl
@[simp] theorem State.sourceAt_held (s : State) (n t : Nat) : (s.sourceAt n t).held = s.held := rfl
@[simp] theorem State.sourceAt_snaps (s : State) (n t : Nat) : (s.sourceAt n t).snaps = s.snaps := rfl
@[simp] theorem State.sourceAt_resp (s : State) (n t : Nat) : (s.sourceAt n t).resp = s.resp := rfl
@[simp] theorem State.sourceAt_flt (s : State) (n t : Nat) : (s.sourceAt n t).flt = s.flt := rfl
@[simp] theorem State.sourceAt_ringAt (s : State) (n t : Nat) : (s.sourceAt n t).ringAt = s.ringAt := rfl
@[simp] theorem State.sourceAt_journals (s : State) (n t : Nat) : (s.sourceAt n t).journals = s.journals := rfl
@[simp] theorem State.sourceAt_rings (s : State) (n t : Nat) : (s.sourceAt n t).rings = s.rings := rfl
@[simp] theorem State.sourceAt_fences (s : State) (n t : Nat) : (s.sourceAt n t).fences = s.fences := rfl
@[simp] theorem State.sourceAt_copies (s : State) (n t : Nat) : (s.sourceAt n t).copies = s.copies := rfl
@[simp] theorem State.sourceAt_copied (s : State) (n t : Nat) : (s.sourceAt n t).copied = s.copied := rfl
@[simp] theorem State.sourceAt_quiesces (s : State) (n t : Nat) : (s.sourceAt n t).quiesces = s.quiesces := rfl
@[simp] theorem State.sourceAt_bootRec (s : State) (n t : Nat) : (s.sourceAt n t).bootRec = s.bootRec := rfl
@[simp] theorem State.sourceAt_potRun (s : State) (n t : Nat) : (s.sourceAt n t).potRun = s.potRun := rfl
@[simp] theorem State.sourceAt_potWait (s : State) (n t : Nat) : (s.sourceAt n t).potWait = s.potWait := rfl
@[simp] theorem State.sourceAt_coves (s : State) (n t : Nat) : (s.sourceAt n t).coves = s.coves := rfl
@[simp] theorem State.sourceAt_potCache (s : State) (n t : Nat) : (s.sourceAt n t).potCache = s.potCache := rfl
@[simp] theorem State.sourceAt_meas (s : State) (n t : Nat) : (s.sourceAt n t).meas = s.meas := rfl
@[simp] theorem State.sourceAt_restart (s : State) (n t : Nat) : (s.sourceAt n t).restart = s.restart := rfl
@[simp] theorem State.sourceAt_cores (s : State) (n t : Nat) : (s.sourceAt n t).cores = s.cores := rfl
@[simp] theorem State.sourceAt_routes (s : State) (n t : Nat) : (s.sourceAt n t).routes = s.routes := rfl
@[simp] theorem State.sourceAt_edges (s : State) (n t : Nat) : (s.sourceAt n t).edges = s.edges := rfl
@[simp] theorem State.sourceAt_routeRuns (s : State) (n t : Nat) : (s.sourceAt n t).routeRuns = s.routeRuns := rfl
@[simp] theorem State.sourceAt_vecs (s : State) (n t : Nat) : (s.sourceAt n t).vecs = s.vecs := rfl
@[simp] theorem State.sourceAt_ports (s : State) (n t : Nat) : (s.sourceAt n t).ports = s.ports := rfl
@[simp] theorem State.sourceAt_bar4 (s : State) (n t : Nat) : (s.sourceAt n t).bar4 = s.bar4 := rfl
@[simp] theorem State.sourceAt_gateRun (s : State) (n t : Nat) : (s.sourceAt n t).gateRun = s.gateRun := rfl
@[simp] theorem State.sourceAt_gateWait (s : State) (n t : Nat) : (s.sourceAt n t).gateWait = s.gateWait := rfl
@[simp] theorem State.sourceAt_rst (s : State) (n t : Nat) : (s.sourceAt n t).rst = s.rst := rfl
@[simp] theorem State.sourceAt_otp (s : State) (n t : Nat) : (s.sourceAt n t).otp = s.otp := rfl
@[simp] theorem State.sourceAt_otpRun (s : State) (n t : Nat) : (s.sourceAt n t).otpRun = s.otpRun := rfl
@[simp] theorem State.sourceAt_winners (s : State) (n t : Nat) : (s.sourceAt n t).winners = s.winners := rfl
@[simp] theorem State.sourceAt_pinMap (s : State) (n t : Nat) : (s.sourceAt n t).pinMap = s.pinMap := rfl
@[simp] theorem State.sourceAt_backup (s : State) (n t : Nat) : (s.sourceAt n t).backup = s.backup := rfl
@[simp] theorem State.sourceAt_dram (s : State) (n t : Nat) : (s.sourceAt n t).dram = s.dram := rfl
@[simp] theorem State.sourceAt_pool (s : State) (n t : Nat) : (s.sourceAt n t).pool = s.pool := rfl
@[simp] theorem State.sourceAt_dc (s : State) (n t : Nat) : (s.sourceAt n t).dc = s.dc := rfl
@[simp] theorem State.sourceAt_poolChk (s : State) (n t : Nat) : (s.sourceAt n t).poolChk = s.poolChk := rfl
@[simp] theorem State.sourceAt_elog (s : State) (n t : Nat) : (s.sourceAt n t).elog = s.elog := rfl
@[simp] theorem State.sourceAt_leakAt (s : State) (n t : Nat) : (s.sourceAt n t).leakAt = s.leakAt := rfl
@[simp] theorem State.sourceAt_banks (s : State) (n t : Nat) : (s.sourceAt n t).banks = s.banks := rfl
@[simp] theorem State.sourceAt_mem (s : State) (n t : Nat) : (s.sourceAt n t).mem = s.mem := rfl
@[simp] theorem State.sourceAt_host (s : State) (n t : Nat) : (s.sourceAt n t).host = s.host := rfl
@[simp] theorem State.sourceAt_poolClr (s : State) (n t : Nat) : (s.sourceAt n t).poolClr = s.poolClr := rfl
@[simp] theorem State.sourceAt_rasters (s : State) (n t : Nat) : (s.sourceAt n t).rasters = s.rasters := rfl
@[simp] theorem State.sourceAt_gfx (s : State) (n t : Nat) : (s.sourceAt n t).gfx = s.gfx := rfl
@[simp] theorem State.sourceAt_cvus (s : State) (n t : Nat) : (s.sourceAt n t).cvus = s.cvus := rfl
@[simp] theorem State.sourceAt_heads (s : State) (n t : Nat) : (s.sourceAt n t).heads = s.heads := rfl
@[simp] theorem State.sourceAt_layers (s : State) (n t : Nat) : (s.sourceAt n t).layers = s.layers := rfl
@[simp] theorem State.sourceAt_wbs (s : State) (n t : Nat) : (s.sourceAt n t).wbs = s.wbs := rfl
@[simp] theorem State.sourceAt_links (s : State) (n t : Nat) : (s.sourceAt n t).links = s.links := rfl
@[simp] theorem State.sourceAt_dphyAt (s : State) (n t : Nat) : (s.sourceAt n t).dphyAt = s.dphyAt := rfl
@[simp] theorem State.sourceAt_poolWr (s : State) (n t : Nat) : (s.sourceAt n t).poolWr = s.poolWr := rfl
@[simp] theorem State.sourceAt_poolFree (s : State) (n t : Nat) : (s.sourceAt n t).poolFree = s.poolFree := rfl
@[simp] theorem State.sourceAt_coefs (s : State) (n t : Nat) : (s.sourceAt n t).coefs = s.coefs := rfl
@[simp] theorem State.sourceAt_luts (s : State) (n t : Nat) : (s.sourceAt n t).luts = s.luts := rfl
@[simp] theorem State.sourceAt_panels (s : State) (n t : Nat) : (s.sourceAt n t).panels = s.panels := rfl
@[simp] theorem State.sourceAt_effects (s : State) (n t : Nat) : (s.sourceAt n t).effects = s.effects := rfl
@[simp] theorem State.sourceAt_effLoad (s : State) (n t : Nat) : (s.sourceAt n t).effLoad = s.effLoad := rfl
@[simp] theorem State.sourceAt_hchans (s : State) (n t : Nat) : (s.sourceAt n t).hchans = s.hchans := rfl
@[simp] theorem State.sourceAt_hports (s : State) (n t : Nat) : (s.sourceAt n t).hports = s.hports := rfl
@[simp] theorem State.sourceAt_reflex (s : State) (n t : Nat) : (s.sourceAt n t).reflex = s.reflex := rfl
@[simp] theorem State.sourceAt_reflexArm (s : State) (n t : Nat) : (s.sourceAt n t).reflexArm = s.reflexArm := rfl
@[simp] theorem State.sourceAt_reflexQ (s : State) (n t : Nat) : (s.sourceAt n t).reflexQ = s.reflexQ := rfl
@[simp] theorem State.sourceAt_lineStarts (s : State) (n t : Nat) : (s.sourceAt n t).lineStarts = s.lineStarts := rfl
@[simp] theorem State.sourceAt_audio (s : State) (n t : Nat) : (s.sourceAt n t).audio = s.audio := rfl
@[simp] theorem State.sourceAt_tmb (s : State) (n t : Nat) : (s.sourceAt n t).tmb = s.tmb := rfl
@[simp] theorem State.sourceAt_pad (s : State) (n t : Nat) : (s.sourceAt n t).pad = s.pad := rfl
@[simp] theorem State.sourceAt_discards (s : State) (n t : Nat) : (s.sourceAt n t).discards = s.discards := rfl
@[simp] theorem State.sourceAt_pending (s : State) (n t : Nat) : (s.sourceAt n t).pending = s.pending := rfl

@[simp] theorem State.setAggr_die (s : State) (d : Nat) (q : List Ev) : (s.setAggr d q).die = s.die := rfl
@[simp] theorem State.setAggr_freeCtr (s : State) (d : Nat) (q : List Ev) : (s.setAggr d q).freeCtr = s.freeCtr := rfl
@[simp] theorem State.setAggr_power (s : State) (d : Nat) (q : List Ev) : (s.setAggr d q).power = s.power := rfl
@[simp] theorem State.setAggr_mode (s : State) (d : Nat) (q : List Ev) : (s.setAggr d q).mode = s.mode := rfl
@[simp] theorem State.setAggr_prev (s : State) (d : Nat) (q : List Ev) : (s.setAggr d q).prev = s.prev := rfl
@[simp] theorem State.setAggr_stby (s : State) (d : Nat) (q : List Ev) : (s.setAggr d q).stby = s.stby := rfl
@[simp] theorem State.setAggr_safeRun (s : State) (d : Nat) (q : List Ev) : (s.setAggr d q).safeRun = s.safeRun := rfl
@[simp] theorem State.setAggr_modeReqs (s : State) (d : Nat) (q : List Ev) : (s.setAggr d q).modeReqs = s.modeReqs := rfl
@[simp] theorem State.setAggr_modeTrig (s : State) (d : Nat) (q : List Ev) : (s.setAggr d q).modeTrig = s.modeTrig := rfl
@[simp] theorem State.setAggr_epoch (s : State) (d : Nat) (q : List Ev) : (s.setAggr d q).epoch = s.epoch := rfl
@[simp] theorem State.setAggr_thyme (s : State) (d : Nat) (q : List Ev) : (s.setAggr d q).thyme = s.thyme := rfl
@[simp] theorem State.setAggr_thymeRun (s : State) (d : Nat) (q : List Ev) : (s.setAggr d q).thymeRun = s.thymeRun := rfl
@[simp] theorem State.setAggr_slewAt (s : State) (d : Nat) (q : List Ev) : (s.setAggr d q).slewAt = s.slewAt := rfl
@[simp] theorem State.setAggr_regs (s : State) (d : Nat) (q : List Ev) : (s.setAggr d q).regs = s.regs := rfl
@[simp] theorem State.setAggr_pages (s : State) (d : Nat) (q : List Ev) : (s.setAggr d q).pages = s.pages := rfl
@[simp] theorem State.setAggr_live (s : State) (d : Nat) (q : List Ev) : (s.setAggr d q).live = s.live := rfl
@[simp] theorem State.setAggr_held (s : State) (d : Nat) (q : List Ev) : (s.setAggr d q).held = s.held := rfl
@[simp] theorem State.setAggr_srcTick (s : State) (d : Nat) (q : List Ev) : (s.setAggr d q).srcTick = s.srcTick := rfl
@[simp] theorem State.setAggr_snaps (s : State) (d : Nat) (q : List Ev) : (s.setAggr d q).snaps = s.snaps := rfl
@[simp] theorem State.setAggr_resp (s : State) (d : Nat) (q : List Ev) : (s.setAggr d q).resp = s.resp := rfl
@[simp] theorem State.setAggr_ringAt (s : State) (d : Nat) (q : List Ev) : (s.setAggr d q).ringAt = s.ringAt := rfl
@[simp] theorem State.setAggr_journals (s : State) (d : Nat) (q : List Ev) : (s.setAggr d q).journals = s.journals := rfl
@[simp] theorem State.setAggr_rings (s : State) (d : Nat) (q : List Ev) : (s.setAggr d q).rings = s.rings := rfl
@[simp] theorem State.setAggr_fences (s : State) (d : Nat) (q : List Ev) : (s.setAggr d q).fences = s.fences := rfl
@[simp] theorem State.setAggr_copies (s : State) (d : Nat) (q : List Ev) : (s.setAggr d q).copies = s.copies := rfl
@[simp] theorem State.setAggr_copied (s : State) (d : Nat) (q : List Ev) : (s.setAggr d q).copied = s.copied := rfl
@[simp] theorem State.setAggr_quiesces (s : State) (d : Nat) (q : List Ev) : (s.setAggr d q).quiesces = s.quiesces := rfl
@[simp] theorem State.setAggr_bootRec (s : State) (d : Nat) (q : List Ev) : (s.setAggr d q).bootRec = s.bootRec := rfl
@[simp] theorem State.setAggr_potRun (s : State) (d : Nat) (q : List Ev) : (s.setAggr d q).potRun = s.potRun := rfl
@[simp] theorem State.setAggr_potWait (s : State) (d : Nat) (q : List Ev) : (s.setAggr d q).potWait = s.potWait := rfl
@[simp] theorem State.setAggr_coves (s : State) (d : Nat) (q : List Ev) : (s.setAggr d q).coves = s.coves := rfl
@[simp] theorem State.setAggr_potCache (s : State) (d : Nat) (q : List Ev) : (s.setAggr d q).potCache = s.potCache := rfl
@[simp] theorem State.setAggr_meas (s : State) (d : Nat) (q : List Ev) : (s.setAggr d q).meas = s.meas := rfl
@[simp] theorem State.setAggr_restart (s : State) (d : Nat) (q : List Ev) : (s.setAggr d q).restart = s.restart := rfl
@[simp] theorem State.setAggr_cores (s : State) (d : Nat) (q : List Ev) : (s.setAggr d q).cores = s.cores := rfl
@[simp] theorem State.setAggr_routes (s : State) (d : Nat) (q : List Ev) : (s.setAggr d q).routes = s.routes := rfl
@[simp] theorem State.setAggr_edges (s : State) (d : Nat) (q : List Ev) : (s.setAggr d q).edges = s.edges := rfl
@[simp] theorem State.setAggr_routeRuns (s : State) (d : Nat) (q : List Ev) : (s.setAggr d q).routeRuns = s.routeRuns := rfl
@[simp] theorem State.setAggr_vecs (s : State) (d : Nat) (q : List Ev) : (s.setAggr d q).vecs = s.vecs := rfl
@[simp] theorem State.setAggr_ports (s : State) (d : Nat) (q : List Ev) : (s.setAggr d q).ports = s.ports := rfl
@[simp] theorem State.setAggr_bar4 (s : State) (d : Nat) (q : List Ev) : (s.setAggr d q).bar4 = s.bar4 := rfl
@[simp] theorem State.setAggr_gateRun (s : State) (d : Nat) (q : List Ev) : (s.setAggr d q).gateRun = s.gateRun := rfl
@[simp] theorem State.setAggr_gateWait (s : State) (d : Nat) (q : List Ev) : (s.setAggr d q).gateWait = s.gateWait := rfl
@[simp] theorem State.setAggr_rst (s : State) (d : Nat) (q : List Ev) : (s.setAggr d q).rst = s.rst := rfl
@[simp] theorem State.setAggr_otp (s : State) (d : Nat) (q : List Ev) : (s.setAggr d q).otp = s.otp := rfl
@[simp] theorem State.setAggr_otpRun (s : State) (d : Nat) (q : List Ev) : (s.setAggr d q).otpRun = s.otpRun := rfl
@[simp] theorem State.setAggr_winners (s : State) (d : Nat) (q : List Ev) : (s.setAggr d q).winners = s.winners := rfl
@[simp] theorem State.setAggr_pinMap (s : State) (d : Nat) (q : List Ev) : (s.setAggr d q).pinMap = s.pinMap := rfl
@[simp] theorem State.setAggr_backup (s : State) (d : Nat) (q : List Ev) : (s.setAggr d q).backup = s.backup := rfl
@[simp] theorem State.setAggr_dram (s : State) (d : Nat) (q : List Ev) : (s.setAggr d q).dram = s.dram := rfl
@[simp] theorem State.setAggr_pool (s : State) (d : Nat) (q : List Ev) : (s.setAggr d q).pool = s.pool := rfl
@[simp] theorem State.setAggr_dc (s : State) (d : Nat) (q : List Ev) : (s.setAggr d q).dc = s.dc := rfl
@[simp] theorem State.setAggr_poolChk (s : State) (d : Nat) (q : List Ev) : (s.setAggr d q).poolChk = s.poolChk := rfl
@[simp] theorem State.setAggr_elog (s : State) (d : Nat) (q : List Ev) : (s.setAggr d q).elog = s.elog := rfl
@[simp] theorem State.setAggr_leakAt (s : State) (d : Nat) (q : List Ev) : (s.setAggr d q).leakAt = s.leakAt := rfl
@[simp] theorem State.setAggr_banks (s : State) (d : Nat) (q : List Ev) : (s.setAggr d q).banks = s.banks := rfl
@[simp] theorem State.setAggr_mem (s : State) (d : Nat) (q : List Ev) : (s.setAggr d q).mem = s.mem := rfl
@[simp] theorem State.setAggr_host (s : State) (d : Nat) (q : List Ev) : (s.setAggr d q).host = s.host := rfl
@[simp] theorem State.setAggr_poolClr (s : State) (d : Nat) (q : List Ev) : (s.setAggr d q).poolClr = s.poolClr := rfl
@[simp] theorem State.setAggr_rasters (s : State) (d : Nat) (q : List Ev) : (s.setAggr d q).rasters = s.rasters := rfl
@[simp] theorem State.setAggr_gfx (s : State) (d : Nat) (q : List Ev) : (s.setAggr d q).gfx = s.gfx := rfl
@[simp] theorem State.setAggr_cvus (s : State) (d : Nat) (q : List Ev) : (s.setAggr d q).cvus = s.cvus := rfl
@[simp] theorem State.setAggr_heads (s : State) (d : Nat) (q : List Ev) : (s.setAggr d q).heads = s.heads := rfl
@[simp] theorem State.setAggr_layers (s : State) (d : Nat) (q : List Ev) : (s.setAggr d q).layers = s.layers := rfl
@[simp] theorem State.setAggr_wbs (s : State) (d : Nat) (q : List Ev) : (s.setAggr d q).wbs = s.wbs := rfl
@[simp] theorem State.setAggr_links (s : State) (d : Nat) (q : List Ev) : (s.setAggr d q).links = s.links := rfl
@[simp] theorem State.setAggr_dphyAt (s : State) (d : Nat) (q : List Ev) : (s.setAggr d q).dphyAt = s.dphyAt := rfl
@[simp] theorem State.setAggr_poolWr (s : State) (d : Nat) (q : List Ev) : (s.setAggr d q).poolWr = s.poolWr := rfl
@[simp] theorem State.setAggr_poolFree (s : State) (d : Nat) (q : List Ev) : (s.setAggr d q).poolFree = s.poolFree := rfl
@[simp] theorem State.setAggr_coefs (s : State) (d : Nat) (q : List Ev) : (s.setAggr d q).coefs = s.coefs := rfl
@[simp] theorem State.setAggr_luts (s : State) (d : Nat) (q : List Ev) : (s.setAggr d q).luts = s.luts := rfl
@[simp] theorem State.setAggr_panels (s : State) (d : Nat) (q : List Ev) : (s.setAggr d q).panels = s.panels := rfl
@[simp] theorem State.setAggr_effects (s : State) (d : Nat) (q : List Ev) : (s.setAggr d q).effects = s.effects := rfl
@[simp] theorem State.setAggr_effLoad (s : State) (d : Nat) (q : List Ev) : (s.setAggr d q).effLoad = s.effLoad := rfl
@[simp] theorem State.setAggr_hchans (s : State) (d : Nat) (q : List Ev) : (s.setAggr d q).hchans = s.hchans := rfl
@[simp] theorem State.setAggr_hports (s : State) (d : Nat) (q : List Ev) : (s.setAggr d q).hports = s.hports := rfl
@[simp] theorem State.setAggr_reflex (s : State) (d : Nat) (q : List Ev) : (s.setAggr d q).reflex = s.reflex := rfl
@[simp] theorem State.setAggr_reflexArm (s : State) (d : Nat) (q : List Ev) : (s.setAggr d q).reflexArm = s.reflexArm := rfl
@[simp] theorem State.setAggr_reflexQ (s : State) (d : Nat) (q : List Ev) : (s.setAggr d q).reflexQ = s.reflexQ := rfl
@[simp] theorem State.setAggr_lineStarts (s : State) (d : Nat) (q : List Ev) : (s.setAggr d q).lineStarts = s.lineStarts := rfl
@[simp] theorem State.setAggr_audio (s : State) (d : Nat) (q : List Ev) : (s.setAggr d q).audio = s.audio := rfl
@[simp] theorem State.setAggr_tmb (s : State) (d : Nat) (q : List Ev) : (s.setAggr d q).tmb = s.tmb := rfl
@[simp] theorem State.setAggr_pad (s : State) (d : Nat) (q : List Ev) : (s.setAggr d q).pad = s.pad := rfl
@[simp] theorem State.setAggr_discards (s : State) (d : Nat) (q : List Ev) : (s.setAggr d q).discards = s.discards := rfl
@[simp] theorem State.setAggr_pending (s : State) (d : Nat) (q : List Ev) : (s.setAggr d q).pending = s.pending := rfl

@[simp] theorem State.setJournal_die (s : State) (k : Nat) (j : Journal) : (s.setJournal k j).die = s.die := rfl
@[simp] theorem State.setJournal_freeCtr (s : State) (k : Nat) (j : Journal) : (s.setJournal k j).freeCtr = s.freeCtr := rfl
@[simp] theorem State.setJournal_power (s : State) (k : Nat) (j : Journal) : (s.setJournal k j).power = s.power := rfl
@[simp] theorem State.setJournal_mode (s : State) (k : Nat) (j : Journal) : (s.setJournal k j).mode = s.mode := rfl
@[simp] theorem State.setJournal_prev (s : State) (k : Nat) (j : Journal) : (s.setJournal k j).prev = s.prev := rfl
@[simp] theorem State.setJournal_stby (s : State) (k : Nat) (j : Journal) : (s.setJournal k j).stby = s.stby := rfl
@[simp] theorem State.setJournal_safeRun (s : State) (k : Nat) (j : Journal) : (s.setJournal k j).safeRun = s.safeRun := rfl
@[simp] theorem State.setJournal_modeReqs (s : State) (k : Nat) (j : Journal) : (s.setJournal k j).modeReqs = s.modeReqs := rfl
@[simp] theorem State.setJournal_modeTrig (s : State) (k : Nat) (j : Journal) : (s.setJournal k j).modeTrig = s.modeTrig := rfl
@[simp] theorem State.setJournal_epoch (s : State) (k : Nat) (j : Journal) : (s.setJournal k j).epoch = s.epoch := rfl
@[simp] theorem State.setJournal_thyme (s : State) (k : Nat) (j : Journal) : (s.setJournal k j).thyme = s.thyme := rfl
@[simp] theorem State.setJournal_thymeRun (s : State) (k : Nat) (j : Journal) : (s.setJournal k j).thymeRun = s.thymeRun := rfl
@[simp] theorem State.setJournal_slewAt (s : State) (k : Nat) (j : Journal) : (s.setJournal k j).slewAt = s.slewAt := rfl
@[simp] theorem State.setJournal_regs (s : State) (k : Nat) (j : Journal) : (s.setJournal k j).regs = s.regs := rfl
@[simp] theorem State.setJournal_pages (s : State) (k : Nat) (j : Journal) : (s.setJournal k j).pages = s.pages := rfl
@[simp] theorem State.setJournal_live (s : State) (k : Nat) (j : Journal) : (s.setJournal k j).live = s.live := rfl
@[simp] theorem State.setJournal_held (s : State) (k : Nat) (j : Journal) : (s.setJournal k j).held = s.held := rfl
@[simp] theorem State.setJournal_srcTick (s : State) (k : Nat) (j : Journal) : (s.setJournal k j).srcTick = s.srcTick := rfl
@[simp] theorem State.setJournal_snaps (s : State) (k : Nat) (j : Journal) : (s.setJournal k j).snaps = s.snaps := rfl
@[simp] theorem State.setJournal_resp (s : State) (k : Nat) (j : Journal) : (s.setJournal k j).resp = s.resp := rfl
@[simp] theorem State.setJournal_flt (s : State) (k : Nat) (j : Journal) : (s.setJournal k j).flt = s.flt := rfl
@[simp] theorem State.setJournal_ringAt (s : State) (k : Nat) (j : Journal) : (s.setJournal k j).ringAt = s.ringAt := rfl
@[simp] theorem State.setJournal_rings (s : State) (k : Nat) (j : Journal) : (s.setJournal k j).rings = s.rings := rfl
@[simp] theorem State.setJournal_fences (s : State) (k : Nat) (j : Journal) : (s.setJournal k j).fences = s.fences := rfl
@[simp] theorem State.setJournal_copies (s : State) (k : Nat) (j : Journal) : (s.setJournal k j).copies = s.copies := rfl
@[simp] theorem State.setJournal_copied (s : State) (k : Nat) (j : Journal) : (s.setJournal k j).copied = s.copied := rfl
@[simp] theorem State.setJournal_quiesces (s : State) (k : Nat) (j : Journal) : (s.setJournal k j).quiesces = s.quiesces := rfl
@[simp] theorem State.setJournal_bootRec (s : State) (k : Nat) (j : Journal) : (s.setJournal k j).bootRec = s.bootRec := rfl
@[simp] theorem State.setJournal_potRun (s : State) (k : Nat) (j : Journal) : (s.setJournal k j).potRun = s.potRun := rfl
@[simp] theorem State.setJournal_potWait (s : State) (k : Nat) (j : Journal) : (s.setJournal k j).potWait = s.potWait := rfl
@[simp] theorem State.setJournal_coves (s : State) (k : Nat) (j : Journal) : (s.setJournal k j).coves = s.coves := rfl
@[simp] theorem State.setJournal_potCache (s : State) (k : Nat) (j : Journal) : (s.setJournal k j).potCache = s.potCache := rfl
@[simp] theorem State.setJournal_meas (s : State) (k : Nat) (j : Journal) : (s.setJournal k j).meas = s.meas := rfl
@[simp] theorem State.setJournal_restart (s : State) (k : Nat) (j : Journal) : (s.setJournal k j).restart = s.restart := rfl
@[simp] theorem State.setJournal_cores (s : State) (k : Nat) (j : Journal) : (s.setJournal k j).cores = s.cores := rfl
@[simp] theorem State.setJournal_routes (s : State) (k : Nat) (j : Journal) : (s.setJournal k j).routes = s.routes := rfl
@[simp] theorem State.setJournal_edges (s : State) (k : Nat) (j : Journal) : (s.setJournal k j).edges = s.edges := rfl
@[simp] theorem State.setJournal_routeRuns (s : State) (k : Nat) (j : Journal) : (s.setJournal k j).routeRuns = s.routeRuns := rfl
@[simp] theorem State.setJournal_vecs (s : State) (k : Nat) (j : Journal) : (s.setJournal k j).vecs = s.vecs := rfl
@[simp] theorem State.setJournal_ports (s : State) (k : Nat) (j : Journal) : (s.setJournal k j).ports = s.ports := rfl
@[simp] theorem State.setJournal_bar4 (s : State) (k : Nat) (j : Journal) : (s.setJournal k j).bar4 = s.bar4 := rfl
@[simp] theorem State.setJournal_gateRun (s : State) (k : Nat) (j : Journal) : (s.setJournal k j).gateRun = s.gateRun := rfl
@[simp] theorem State.setJournal_gateWait (s : State) (k : Nat) (j : Journal) : (s.setJournal k j).gateWait = s.gateWait := rfl
@[simp] theorem State.setJournal_rst (s : State) (k : Nat) (j : Journal) : (s.setJournal k j).rst = s.rst := rfl
@[simp] theorem State.setJournal_otp (s : State) (k : Nat) (j : Journal) : (s.setJournal k j).otp = s.otp := rfl
@[simp] theorem State.setJournal_otpRun (s : State) (k : Nat) (j : Journal) : (s.setJournal k j).otpRun = s.otpRun := rfl
@[simp] theorem State.setJournal_winners (s : State) (k : Nat) (j : Journal) : (s.setJournal k j).winners = s.winners := rfl
@[simp] theorem State.setJournal_pinMap (s : State) (k : Nat) (j : Journal) : (s.setJournal k j).pinMap = s.pinMap := rfl
@[simp] theorem State.setJournal_backup (s : State) (k : Nat) (j : Journal) : (s.setJournal k j).backup = s.backup := rfl
@[simp] theorem State.setJournal_dram (s : State) (k : Nat) (j : Journal) : (s.setJournal k j).dram = s.dram := rfl
@[simp] theorem State.setJournal_pool (s : State) (k : Nat) (j : Journal) : (s.setJournal k j).pool = s.pool := rfl
@[simp] theorem State.setJournal_dc (s : State) (k : Nat) (j : Journal) : (s.setJournal k j).dc = s.dc := rfl
@[simp] theorem State.setJournal_poolChk (s : State) (k : Nat) (j : Journal) : (s.setJournal k j).poolChk = s.poolChk := rfl
@[simp] theorem State.setJournal_elog (s : State) (k : Nat) (j : Journal) : (s.setJournal k j).elog = s.elog := rfl
@[simp] theorem State.setJournal_leakAt (s : State) (k : Nat) (j : Journal) : (s.setJournal k j).leakAt = s.leakAt := rfl
@[simp] theorem State.setJournal_banks (s : State) (k : Nat) (j : Journal) : (s.setJournal k j).banks = s.banks := rfl
@[simp] theorem State.setJournal_mem (s : State) (k : Nat) (j : Journal) : (s.setJournal k j).mem = s.mem := rfl
@[simp] theorem State.setJournal_host (s : State) (k : Nat) (j : Journal) : (s.setJournal k j).host = s.host := rfl
@[simp] theorem State.setJournal_poolClr (s : State) (k : Nat) (j : Journal) : (s.setJournal k j).poolClr = s.poolClr := rfl
@[simp] theorem State.setJournal_rasters (s : State) (k : Nat) (j : Journal) : (s.setJournal k j).rasters = s.rasters := rfl
@[simp] theorem State.setJournal_gfx (s : State) (k : Nat) (j : Journal) : (s.setJournal k j).gfx = s.gfx := rfl
@[simp] theorem State.setJournal_cvus (s : State) (k : Nat) (j : Journal) : (s.setJournal k j).cvus = s.cvus := rfl
@[simp] theorem State.setJournal_heads (s : State) (k : Nat) (j : Journal) : (s.setJournal k j).heads = s.heads := rfl
@[simp] theorem State.setJournal_layers (s : State) (k : Nat) (j : Journal) : (s.setJournal k j).layers = s.layers := rfl
@[simp] theorem State.setJournal_wbs (s : State) (k : Nat) (j : Journal) : (s.setJournal k j).wbs = s.wbs := rfl
@[simp] theorem State.setJournal_links (s : State) (k : Nat) (j : Journal) : (s.setJournal k j).links = s.links := rfl
@[simp] theorem State.setJournal_dphyAt (s : State) (k : Nat) (j : Journal) : (s.setJournal k j).dphyAt = s.dphyAt := rfl
@[simp] theorem State.setJournal_poolWr (s : State) (k : Nat) (j : Journal) : (s.setJournal k j).poolWr = s.poolWr := rfl
@[simp] theorem State.setJournal_poolFree (s : State) (k : Nat) (j : Journal) : (s.setJournal k j).poolFree = s.poolFree := rfl
@[simp] theorem State.setJournal_coefs (s : State) (k : Nat) (j : Journal) : (s.setJournal k j).coefs = s.coefs := rfl
@[simp] theorem State.setJournal_luts (s : State) (k : Nat) (j : Journal) : (s.setJournal k j).luts = s.luts := rfl
@[simp] theorem State.setJournal_panels (s : State) (k : Nat) (j : Journal) : (s.setJournal k j).panels = s.panels := rfl
@[simp] theorem State.setJournal_effects (s : State) (k : Nat) (j : Journal) : (s.setJournal k j).effects = s.effects := rfl
@[simp] theorem State.setJournal_effLoad (s : State) (k : Nat) (j : Journal) : (s.setJournal k j).effLoad = s.effLoad := rfl
@[simp] theorem State.setJournal_hchans (s : State) (k : Nat) (j : Journal) : (s.setJournal k j).hchans = s.hchans := rfl
@[simp] theorem State.setJournal_hports (s : State) (k : Nat) (j : Journal) : (s.setJournal k j).hports = s.hports := rfl
@[simp] theorem State.setJournal_reflex (s : State) (k : Nat) (j : Journal) : (s.setJournal k j).reflex = s.reflex := rfl
@[simp] theorem State.setJournal_reflexArm (s : State) (k : Nat) (j : Journal) : (s.setJournal k j).reflexArm = s.reflexArm := rfl
@[simp] theorem State.setJournal_reflexQ (s : State) (k : Nat) (j : Journal) : (s.setJournal k j).reflexQ = s.reflexQ := rfl
@[simp] theorem State.setJournal_lineStarts (s : State) (k : Nat) (j : Journal) : (s.setJournal k j).lineStarts = s.lineStarts := rfl
@[simp] theorem State.setJournal_audio (s : State) (k : Nat) (j : Journal) : (s.setJournal k j).audio = s.audio := rfl
@[simp] theorem State.setJournal_tmb (s : State) (k : Nat) (j : Journal) : (s.setJournal k j).tmb = s.tmb := rfl
@[simp] theorem State.setJournal_pad (s : State) (k : Nat) (j : Journal) : (s.setJournal k j).pad = s.pad := rfl
@[simp] theorem State.setJournal_discards (s : State) (k : Nat) (j : Journal) : (s.setJournal k j).discards = s.discards := rfl
@[simp] theorem State.setJournal_pending (s : State) (k : Nat) (j : Journal) : (s.setJournal k j).pending = s.pending := rfl

@[simp] theorem State.waitTo_die (s : State) (t : Nat) : (s.waitTo t).die = s.die := by unfold State.waitTo; split <;> rfl
@[simp] theorem State.waitTo_freeCtr (s : State) (t : Nat) : (s.waitTo t).freeCtr = s.freeCtr := by unfold State.waitTo; split <;> rfl
@[simp] theorem State.waitTo_power (s : State) (t : Nat) : (s.waitTo t).power = s.power := by unfold State.waitTo; split <;> rfl
@[simp] theorem State.waitTo_mode (s : State) (t : Nat) : (s.waitTo t).mode = s.mode := by unfold State.waitTo; split <;> rfl
@[simp] theorem State.waitTo_prev (s : State) (t : Nat) : (s.waitTo t).prev = s.prev := by unfold State.waitTo; split <;> rfl
@[simp] theorem State.waitTo_stby (s : State) (t : Nat) : (s.waitTo t).stby = s.stby := by unfold State.waitTo; split <;> rfl
@[simp] theorem State.waitTo_safeRun (s : State) (t : Nat) : (s.waitTo t).safeRun = s.safeRun := by unfold State.waitTo; split <;> rfl
@[simp] theorem State.waitTo_modeReqs (s : State) (t : Nat) : (s.waitTo t).modeReqs = s.modeReqs := by unfold State.waitTo; split <;> rfl
@[simp] theorem State.waitTo_modeTrig (s : State) (t : Nat) : (s.waitTo t).modeTrig = s.modeTrig := by unfold State.waitTo; split <;> rfl
@[simp] theorem State.waitTo_epoch (s : State) (t : Nat) : (s.waitTo t).epoch = s.epoch := by unfold State.waitTo; split <;> rfl
@[simp] theorem State.waitTo_thymeRun (s : State) (t : Nat) : (s.waitTo t).thymeRun = s.thymeRun := by unfold State.waitTo; split <;> rfl
@[simp] theorem State.waitTo_slewAt (s : State) (t : Nat) : (s.waitTo t).slewAt = s.slewAt := by unfold State.waitTo; split <;> rfl
@[simp] theorem State.waitTo_regs (s : State) (t : Nat) : (s.waitTo t).regs = s.regs := by unfold State.waitTo; split <;> rfl
@[simp] theorem State.waitTo_pages (s : State) (t : Nat) : (s.waitTo t).pages = s.pages := by unfold State.waitTo; split <;> rfl
@[simp] theorem State.waitTo_live (s : State) (t : Nat) : (s.waitTo t).live = s.live := by unfold State.waitTo; split <;> rfl
@[simp] theorem State.waitTo_held (s : State) (t : Nat) : (s.waitTo t).held = s.held := by unfold State.waitTo; split <;> rfl
@[simp] theorem State.waitTo_srcTick (s : State) (t : Nat) : (s.waitTo t).srcTick = s.srcTick := by unfold State.waitTo; split <;> rfl
@[simp] theorem State.waitTo_snaps (s : State) (t : Nat) : (s.waitTo t).snaps = s.snaps := by unfold State.waitTo; split <;> rfl
@[simp] theorem State.waitTo_resp (s : State) (t : Nat) : (s.waitTo t).resp = s.resp := by unfold State.waitTo; split <;> rfl
@[simp] theorem State.waitTo_flt (s : State) (t : Nat) : (s.waitTo t).flt = s.flt := by unfold State.waitTo; split <;> rfl
@[simp] theorem State.waitTo_ringAt (s : State) (t : Nat) : (s.waitTo t).ringAt = s.ringAt := by unfold State.waitTo; split <;> rfl
@[simp] theorem State.waitTo_journals (s : State) (t : Nat) : (s.waitTo t).journals = s.journals := by unfold State.waitTo; split <;> rfl
@[simp] theorem State.waitTo_rings (s : State) (t : Nat) : (s.waitTo t).rings = s.rings := by unfold State.waitTo; split <;> rfl
@[simp] theorem State.waitTo_fences (s : State) (t : Nat) : (s.waitTo t).fences = s.fences := by unfold State.waitTo; split <;> rfl
@[simp] theorem State.waitTo_copies (s : State) (t : Nat) : (s.waitTo t).copies = s.copies := by unfold State.waitTo; split <;> rfl
@[simp] theorem State.waitTo_copied (s : State) (t : Nat) : (s.waitTo t).copied = s.copied := by unfold State.waitTo; split <;> rfl
@[simp] theorem State.waitTo_quiesces (s : State) (t : Nat) : (s.waitTo t).quiesces = s.quiesces := by unfold State.waitTo; split <;> rfl
@[simp] theorem State.waitTo_bootRec (s : State) (t : Nat) : (s.waitTo t).bootRec = s.bootRec := by unfold State.waitTo; split <;> rfl
@[simp] theorem State.waitTo_potRun (s : State) (t : Nat) : (s.waitTo t).potRun = s.potRun := by unfold State.waitTo; split <;> rfl
@[simp] theorem State.waitTo_potWait (s : State) (t : Nat) : (s.waitTo t).potWait = s.potWait := by unfold State.waitTo; split <;> rfl
@[simp] theorem State.waitTo_coves (s : State) (t : Nat) : (s.waitTo t).coves = s.coves := by unfold State.waitTo; split <;> rfl
@[simp] theorem State.waitTo_potCache (s : State) (t : Nat) : (s.waitTo t).potCache = s.potCache := by unfold State.waitTo; split <;> rfl
@[simp] theorem State.waitTo_meas (s : State) (t : Nat) : (s.waitTo t).meas = s.meas := by unfold State.waitTo; split <;> rfl
@[simp] theorem State.waitTo_restart (s : State) (t : Nat) : (s.waitTo t).restart = s.restart := by unfold State.waitTo; split <;> rfl
@[simp] theorem State.waitTo_cores (s : State) (t : Nat) : (s.waitTo t).cores = s.cores := by unfold State.waitTo; split <;> rfl
@[simp] theorem State.waitTo_routes (s : State) (t : Nat) : (s.waitTo t).routes = s.routes := by unfold State.waitTo; split <;> rfl
@[simp] theorem State.waitTo_edges (s : State) (t : Nat) : (s.waitTo t).edges = s.edges := by unfold State.waitTo; split <;> rfl
@[simp] theorem State.waitTo_routeRuns (s : State) (t : Nat) : (s.waitTo t).routeRuns = s.routeRuns := by unfold State.waitTo; split <;> rfl
@[simp] theorem State.waitTo_vecs (s : State) (t : Nat) : (s.waitTo t).vecs = s.vecs := by unfold State.waitTo; split <;> rfl
@[simp] theorem State.waitTo_ports (s : State) (t : Nat) : (s.waitTo t).ports = s.ports := by unfold State.waitTo; split <;> rfl
@[simp] theorem State.waitTo_bar4 (s : State) (t : Nat) : (s.waitTo t).bar4 = s.bar4 := by unfold State.waitTo; split <;> rfl
@[simp] theorem State.waitTo_gateRun (s : State) (t : Nat) : (s.waitTo t).gateRun = s.gateRun := by unfold State.waitTo; split <;> rfl
@[simp] theorem State.waitTo_gateWait (s : State) (t : Nat) : (s.waitTo t).gateWait = s.gateWait := by unfold State.waitTo; split <;> rfl
@[simp] theorem State.waitTo_rst (s : State) (t : Nat) : (s.waitTo t).rst = s.rst := by unfold State.waitTo; split <;> rfl
@[simp] theorem State.waitTo_otp (s : State) (t : Nat) : (s.waitTo t).otp = s.otp := by unfold State.waitTo; split <;> rfl
@[simp] theorem State.waitTo_otpRun (s : State) (t : Nat) : (s.waitTo t).otpRun = s.otpRun := by unfold State.waitTo; split <;> rfl
@[simp] theorem State.waitTo_winners (s : State) (t : Nat) : (s.waitTo t).winners = s.winners := by unfold State.waitTo; split <;> rfl
@[simp] theorem State.waitTo_pinMap (s : State) (t : Nat) : (s.waitTo t).pinMap = s.pinMap := by unfold State.waitTo; split <;> rfl
@[simp] theorem State.waitTo_backup (s : State) (t : Nat) : (s.waitTo t).backup = s.backup := by unfold State.waitTo; split <;> rfl
@[simp] theorem State.waitTo_dram (s : State) (t : Nat) : (s.waitTo t).dram = s.dram := by unfold State.waitTo; split <;> rfl
@[simp] theorem State.waitTo_pool (s : State) (t : Nat) : (s.waitTo t).pool = s.pool := by unfold State.waitTo; split <;> rfl
@[simp] theorem State.waitTo_dc (s : State) (t : Nat) : (s.waitTo t).dc = s.dc := by unfold State.waitTo; split <;> rfl
@[simp] theorem State.waitTo_poolChk (s : State) (t : Nat) : (s.waitTo t).poolChk = s.poolChk := by unfold State.waitTo; split <;> rfl
@[simp] theorem State.waitTo_elog (s : State) (t : Nat) : (s.waitTo t).elog = s.elog := by unfold State.waitTo; split <;> rfl
@[simp] theorem State.waitTo_leakAt (s : State) (t : Nat) : (s.waitTo t).leakAt = s.leakAt := by unfold State.waitTo; split <;> rfl
@[simp] theorem State.waitTo_banks (s : State) (t : Nat) : (s.waitTo t).banks = s.banks := by unfold State.waitTo; split <;> rfl
@[simp] theorem State.waitTo_mem (s : State) (t : Nat) : (s.waitTo t).mem = s.mem := by unfold State.waitTo; split <;> rfl
@[simp] theorem State.waitTo_host (s : State) (t : Nat) : (s.waitTo t).host = s.host := by unfold State.waitTo; split <;> rfl
@[simp] theorem State.waitTo_poolClr (s : State) (t : Nat) : (s.waitTo t).poolClr = s.poolClr := by unfold State.waitTo; split <;> rfl
@[simp] theorem State.waitTo_rasters (s : State) (t : Nat) : (s.waitTo t).rasters = s.rasters := by unfold State.waitTo; split <;> rfl
@[simp] theorem State.waitTo_gfx (s : State) (t : Nat) : (s.waitTo t).gfx = s.gfx := by unfold State.waitTo; split <;> rfl
@[simp] theorem State.waitTo_cvus (s : State) (t : Nat) : (s.waitTo t).cvus = s.cvus := by unfold State.waitTo; split <;> rfl
@[simp] theorem State.waitTo_heads (s : State) (t : Nat) : (s.waitTo t).heads = s.heads := by unfold State.waitTo; split <;> rfl
@[simp] theorem State.waitTo_layers (s : State) (t : Nat) : (s.waitTo t).layers = s.layers := by unfold State.waitTo; split <;> rfl
@[simp] theorem State.waitTo_wbs (s : State) (t : Nat) : (s.waitTo t).wbs = s.wbs := by unfold State.waitTo; split <;> rfl
@[simp] theorem State.waitTo_links (s : State) (t : Nat) : (s.waitTo t).links = s.links := by unfold State.waitTo; split <;> rfl
@[simp] theorem State.waitTo_dphyAt (s : State) (t : Nat) : (s.waitTo t).dphyAt = s.dphyAt := by unfold State.waitTo; split <;> rfl
@[simp] theorem State.waitTo_poolWr (s : State) (t : Nat) : (s.waitTo t).poolWr = s.poolWr := by unfold State.waitTo; split <;> rfl
@[simp] theorem State.waitTo_poolFree (s : State) (t : Nat) : (s.waitTo t).poolFree = s.poolFree := by unfold State.waitTo; split <;> rfl
@[simp] theorem State.waitTo_coefs (s : State) (t : Nat) : (s.waitTo t).coefs = s.coefs := by unfold State.waitTo; split <;> rfl
@[simp] theorem State.waitTo_luts (s : State) (t : Nat) : (s.waitTo t).luts = s.luts := by unfold State.waitTo; split <;> rfl
@[simp] theorem State.waitTo_panels (s : State) (t : Nat) : (s.waitTo t).panels = s.panels := by unfold State.waitTo; split <;> rfl
@[simp] theorem State.waitTo_effects (s : State) (t : Nat) : (s.waitTo t).effects = s.effects := by unfold State.waitTo; split <;> rfl
@[simp] theorem State.waitTo_effLoad (s : State) (t : Nat) : (s.waitTo t).effLoad = s.effLoad := by unfold State.waitTo; split <;> rfl
@[simp] theorem State.waitTo_hchans (s : State) (t : Nat) : (s.waitTo t).hchans = s.hchans := by unfold State.waitTo; split <;> rfl
@[simp] theorem State.waitTo_hports (s : State) (t : Nat) : (s.waitTo t).hports = s.hports := by unfold State.waitTo; split <;> rfl
@[simp] theorem State.waitTo_reflex (s : State) (t : Nat) : (s.waitTo t).reflex = s.reflex := by unfold State.waitTo; split <;> rfl
@[simp] theorem State.waitTo_reflexArm (s : State) (t : Nat) : (s.waitTo t).reflexArm = s.reflexArm := by unfold State.waitTo; split <;> rfl
@[simp] theorem State.waitTo_reflexQ (s : State) (t : Nat) : (s.waitTo t).reflexQ = s.reflexQ := by unfold State.waitTo; split <;> rfl
@[simp] theorem State.waitTo_lineStarts (s : State) (t : Nat) : (s.waitTo t).lineStarts = s.lineStarts := by unfold State.waitTo; split <;> rfl
@[simp] theorem State.waitTo_audio (s : State) (t : Nat) : (s.waitTo t).audio = s.audio := by unfold State.waitTo; split <;> rfl
@[simp] theorem State.waitTo_tmb (s : State) (t : Nat) : (s.waitTo t).tmb = s.tmb := by unfold State.waitTo; split <;> rfl
@[simp] theorem State.waitTo_pad (s : State) (t : Nat) : (s.waitTo t).pad = s.pad := by unfold State.waitTo; split <;> rfl
@[simp] theorem State.waitTo_discards (s : State) (t : Nat) : (s.waitTo t).discards = s.discards := by unfold State.waitTo; split <;> rfl
@[simp] theorem State.waitTo_pending (s : State) (t : Nat) : (s.waitTo t).pending = s.pending := by unfold State.waitTo; split <;> rfl

end Sys2Proof.Machine
end

