-- ==== Sys2Proof/Laws/Access.lean ====
section
/-! SUPPORT. Register writes that the access rules let through. -/

namespace Sys2Proof.Machine

theorem State.Reaches.fabric {s : State} {r : Req} {a : Nat} (h : s.Reaches r a) :
    ¬(s.fabricOff = true ∨ s.reqReal r = false) := by
  have hu := h.up
  have hr := h.real
  simp only [State.powered, Bool.and_eq_true, bne_iff_ne, ne_eq, Option.isNone_iff_eq_none] at hu
  simp [State.fabricOff, hr, hu]

/-- A write that reaches its page meets the rules that grant some registers on their own, and then the owner's. -/
theorem State.Reaches.write {s : State} {r : Req} {a : Nat} (h : s.Reaches r a) {i : PInfo} (v : Word)
    (hp : pinfoAt a = some i) (hd : offDefined i (offOf a) = true) (ho : offOf a ≠ 0x018) :
    s.cmdWrite r a v = (match s.ownRule r a v with
      | some x => x
      | none => if r.tag.toNat = s.owner (pageOf a) ∧ r.tag ≠ 0 then (s.writeEffect r i a v, false)
        else ((s.deniedEnable (pageOf a) (offOf a) v).violation r a true, true)).1 := by
  unfold State.cmdWrite State.regWrite
  simp [h.fabric, hp, hd, ho, h.here, h.safe, h.run, h.free]
  all_goals (cases s.ownRule r a v <;> simp [State.deniedEnable])

/-- The owner's write of a register that no rule grants on its own has the register's effect. -/
theorem State.MayWrite.plain {s : State} {r : Req} {a : Nat} (h : s.MayWrite r a) {i : PInfo} (v : Word)
    (hp : pinfoAt a = some i) (hd : offDefined i (offOf a) = true) (ho : offOf a ≠ 0x018)
    (hn : s.ownRule r a v = none) : s.cmdWrite r a v = s.writeEffect r i a v := by
  rw [h.toReaches.write v hp hd ho, hn]
  simp only
  rw [if_pos ⟨h.owner, h.tag⟩]

/-- A write by anyone else of a register that no rule grants on its own is dropped with a violation. -/
theorem State.Reaches.denied {s : State} {r : Req} {a : Nat} (h : s.Reaches r a) {i : PInfo} (v : Word)
    (hp : pinfoAt a = some i) (hd : offDefined i (offOf a) = true) (ho : offOf a ≠ 0x018)
    (hn : s.ownRule r a v = none) (hw : r.tag.toNat ≠ s.owner (pageOf a) ∨ r.tag = 0)
    (he : s.owner (pageOf a) ≠ 0 ∨ offOf a ≠ 0x008 ∨ bit v.toNat 0 = false) :
    s.cmdWrite r a v = s.violation r a true := by
  rw [h.write v hp hd ho, hn]
  simp only
  rw [if_neg (by rintro ⟨a, b⟩; rcases hw with hw | hw <;> contradiction), State.deniedEnable,
    if_neg (by rintro ⟨a, b, c⟩; rcases he with he | he | he; exact he a; exact he b; simp [he] at c)]

/-- The write of a register that a rule grants on its own has that rule's effect. -/
theorem State.Reaches.own {s : State} {r : Req} {a : Nat} (h : s.Reaches r a) {i : PInfo} (v : Word) {x : State × Bool}
    (hp : pinfoAt a = some i) (hd : offDefined i (offOf a) = true) (ho : offOf a ≠ 0x018)
    (hn : s.ownRule r a v = some x) : s.cmdWrite r a v = x.1 := by
  rw [h.write v hp hd ho, hn]

end Sys2Proof.Machine
end

