-- ==== Sys2Proof/Laws/Keep.lean ====
section
/-! SUPPORT. The relation `Keep`: what every operation of the model preserves, whatever it does.  One lemma per
operation, in the files KeepA, KeepB, …; this one holds the relation and the rules for conditionals and loops. -/

namespace Sys2Proof.Machine

/-- Nothing was taken from the queue or put into it, canonical tables stayed canonical, and, with `m` false, no byte
of memory changed. -/
structure Keep (m : Bool) (s t : State) : Prop where
  queue : t.pending = s.pending
  wf : s.Wf → t.Wf
  mem : m = false → s.SameMem t

theorem State.SameMem.refl (s : State) : s.SameMem s := ⟨rfl, rfl, rfl, rfl⟩

theorem State.SameMem.trans {s t u : State} (a : s.SameMem t) (b : t.SameMem u) : s.SameMem u :=
  ⟨b.1.trans a.1, b.2.1.trans a.2.1, b.2.2.1.trans a.2.2.1, b.2.2.2.trans a.2.2.2⟩

theorem Keep.refl {m : Bool} (s : State) : Keep m s s := ⟨rfl, id, fun _ => State.SameMem.refl s⟩

theorem Keep.trans {m : Bool} {s t u : State} (a : Keep m s t) (b : Keep m t u) : Keep m s u :=
  ⟨b.1.trans a.1, fun h => b.2 (a.2 h), fun h => (a.3 h).trans (b.3 h)⟩

theorem Keep.upd {m : Bool} {s u : State} (h : Keep m s u) {x_freeCtr x_power x_mode x_prev x_stby x_safeRun x_modeReqs x_modeTrig x_epoch x_thyme x_thymeRun x_slewAt x_pages x_live x_held x_srcTick x_snaps x_resp x_flt x_ringAt x_journals x_rings x_fences x_copies x_copied x_quiesces x_bootRec x_potRun x_potWait x_coves x_potCache x_meas x_restart x_cores x_routes x_edges x_routeRuns x_vecs x_ports x_bar4 x_gateRun x_gateWait x_rst x_otp x_otpRun x_winners x_pinMap x_backup x_dc x_elog x_leakAt x_banks x_mem x_poolClr x_rasters x_gfx x_cvus x_heads x_layers x_wbs x_links x_dphyAt x_poolWr x_poolFree x_coefs x_luts x_panels x_effects x_effLoad x_hchans x_hports x_reflex x_reflexArm x_reflexQ x_lineStarts x_audio x_tmb x_pad x_discards} :
    Keep m s (State.mk u.die x_freeCtr x_power x_mode x_prev x_stby x_safeRun x_modeReqs x_modeTrig x_epoch x_thyme x_thymeRun x_slewAt u.regs x_pages x_live x_held x_srcTick x_snaps x_resp x_flt x_ringAt x_journals x_rings x_fences x_copies x_copied x_quiesces x_bootRec x_potRun x_potWait x_coves x_potCache x_meas x_restart x_cores x_routes x_edges x_routeRuns x_vecs x_ports x_bar4 x_gateRun x_gateWait x_rst x_otp x_otpRun x_winners x_pinMap x_backup u.dram u.pool x_dc u.poolChk x_elog x_leakAt x_banks x_mem u.host x_poolClr x_rasters x_gfx x_cvus x_heads x_layers x_wbs x_links x_dphyAt x_poolWr x_poolFree x_coefs x_luts x_panels x_effects x_effLoad x_hchans x_hports x_reflex x_reflexArm x_reflexQ x_lineStarts x_audio x_tmb x_pad x_discards u.pending) := ⟨h.1, h.2, h.3⟩

theorem Keep.ite {m : Bool} {s a b : State} {c : Prop} [Decidable c] (h1 : c → Keep m s a) (h2 : ¬c → Keep m s b) :
    Keep m s (if c then a else b) := by split <;> rename_i h; exact h1 h; exact h2 h

theorem Keep.ite1 {m : Bool} {α : Type} {s : State} {a b : State × α} {c : Prop} [Decidable c] (h1 : c → Keep m s a.1)
    (h2 : ¬c → Keep m s b.1) : Keep m s (if c then a else b).1 := by split <;> rename_i h; exact h1 h; exact h2 h

theorem Keep.ofPair {m : Bool} {α : Type} {s t : State} {x : α} {p : State × α} (e : p = (t, x)) (h : Keep m s p.1) : Keep m s t := by
  subst e; exact h

theorem Keep.ofSome {m : Bool} {s t : State} {p : Option State} (e : p = some t) (h : ∀ u, p = some u → Keep m s u) : Keep m s t :=
  h t e

theorem Keep.iteO {m : Bool} {s : State} {a b : Option State} {c : Prop} [Decidable c] (h1 : c → ∀ u, a = some u → Keep m s u)
    (h2 : ¬c → ∀ u, b = some u → Keep m s u) : ∀ u, (if c then a else b) = some u → Keep m s u := by
  split <;> rename_i h; exact h1 h; exact h2 h

theorem Keep.some' {m : Bool} {s t : State} (h : Keep m s t) : ∀ u, Option.some t = Option.some u → Keep m s u := by
  intro u e; cases e; exact h

theorem Keep.none' {m : Bool} {s : State} : ∀ u, (Option.none : Option State) = Option.some u → Keep m s u := by
  intro u e; cases e

theorem Keep.iteOP {m : Bool} {α : Type} {s : State} {a b : Option (State × α)} {c : Prop} [Decidable c] (h1 : c → ∀ u, a = some u → Keep m s u.1)
    (h2 : ¬c → ∀ u, b = some u → Keep m s u.1) : ∀ u, (if c then a else b) = some u → Keep m s u.1 := by
  split <;> rename_i h; exact h1 h; exact h2 h

theorem Keep.someP {m : Bool} {α : Type} {s : State} {t : State × α} (h : Keep m s t.1) : ∀ u, Option.some t = Option.some u → Keep m s u.1 := by
  intro u e; cases e; exact h

theorem Keep.noneP {m : Bool} {α : Type} {s : State} : ∀ u, (Option.none : Option (State × α)) = Option.some u → Keep m s u.1 := by
  intro u e; cases e

theorem Keep.forN {m : Bool} {s t : State} {f : Nat → State → State} (hf : ∀ k u, Keep m s u → Keep m s (f k u)) (h : Keep m s t)
    (n : Nat) : Keep m s (forN f n t) := by
  induction n with
  | zero => exact h
  | succ n ih => exact hf n _ ih

theorem Keep.forL {m : Bool} {β : Type} {s : State} {f : β → State → State} (hf : ∀ k u, Keep m s u → Keep m s (f k u)) (l : List β) :
    ∀ {t : State}, Keep m s t → Keep m s (forL f l t) := by
  induction l with
  | nil => intro t h; exact h
  | cons b l ih => intro t h; exact ih (hf b _ h)

theorem Keep.forN1 {m : Bool} {α : Type} {s : State} {t : State × α} {f : Nat → State × α → State × α}
    (hf : ∀ k u, Keep m s u.1 → Keep m s (f k u).1) (h : Keep m s t.1) (n : Nat) : Keep m s (Sys2Proof.Machine.forN f n t).1 := by
  induction n with
  | zero => exact h
  | succ n ih => exact hf n _ ih

theorem Keep.forL1 {m : Bool} {α β : Type} {s : State} {f : β → State × α → State × α}
    (hf : ∀ k u, Keep m s u.1 → Keep m s (f k u).1) (l : List β) :
    ∀ {t : State × α}, Keep m s t.1 → Keep m s (Sys2Proof.Machine.forL f l t).1 := by
  induction l with
  | nil => intro t h; exact h
  | cons b l ih => intro t h; exact ih (hf b _ h)

theorem Keep.foldl {m : Bool} {β : Type} {s : State} {f : State → β → State}
    (hf : ∀ u k, Keep m s u → Keep m s (f u k)) (l : List β) : ∀ {t : State}, Keep m s t → Keep m s (l.foldl f t) := by
  induction l with
  | nil => intro t h; exact h
  | cons b l ih => intro t h; exact ih (hf _ b h)

theorem Keep.foldl1 {m : Bool} {α β : Type} {s : State} {f : State × α → β → State × α}
    (hf : ∀ u k, Keep m s u.1 → Keep m s (f u k).1) (l : List β) :
    ∀ {t : State × α}, Keep m s t.1 → Keep m s (l.foldl f t).1 := by
  induction l with
  | nil => intro t h; exact h
  | cons b l ih => intro t h; exact ih (hf _ b h)

theorem Keep.ofSomeP {m : Bool} {α : Type} {s : State} {t : State × α} {p : Option (State × α)} (e : p = Option.some t)
    (h : ∀ u, p = Option.some u → Keep m s u.1) : Keep m s t.1 := h t e

theorem Keep.no {m : Bool} (hm : m = true) {p : Prop} (h : m = false) : p := by
  rw [hm] at h; cases h

end Sys2Proof.Machine
end

