-- ==== Sys2Proof/Laws/KeepA.lean ====
section
/-! SUPPORT. `Keep` for the operations of the model, callees first. -/

set_option maxRecDepth 4000

namespace Sys2Proof.Machine

theorem State.statTo_keep {m : Bool} {s0 t : State} (h : Keep m s0 t) {x1 x2 x3 x4} : Keep m s0 (State.statTo t x1 x2 x3 x4) := by
  unfold State.statTo
  with_reducible repeat' first
    | assumption
    | apply Keep.ite
    | intro _
    | (apply Keep.upd; first | assumption | apply Keep.ite)

theorem State.stat_keep {m : Bool} {s0 t : State} (h : Keep m s0 t) {x1 x2 x3} : Keep m s0 (State.stat t x1 x2 x3) := by
  unfold State.stat
  with_reducible repeat' first
    | assumption
    | apply State.statTo_keep
    | apply Keep.ite
    | intro _

theorem State.withLine_keep {m : Bool} {s0 t : State} (h : Keep m s0 t) {x1 x2} (h2 : ∀ u, Keep m s0 u → Keep m s0 (x2 u)) : Keep m s0 (State.withLine t x1 x2) := by
  unfold State.withLine
  with_reducible repeat' first
    | assumption
    | apply h2
    | apply Keep.ite
    | intro _
    | (apply Keep.upd; first | assumption | apply h2 | apply Keep.ite)

theorem State.wr_keep {m : Bool} {s0 t : State} (h : Keep m s0 t) {x1 x2} : Keep m s0 (State.wr t x1 x2) :=
  h.trans ⟨rfl, (fun ⟨a, b⟩ => ⟨amWf_set _ _ _ _ a, b⟩), fun _ => ⟨rfl, rfl, rfl, rfl⟩⟩

theorem State.intSet_keep {m : Bool} {s0 t : State} (h : Keep m s0 t) {x1 x2} : Keep m s0 (State.intSet t x1 x2) := by
  unfold State.intSet
  with_reducible repeat' first
    | assumption
    | apply State.withLine_keep
    | apply State.wr_keep
    | intro _

theorem State.logKeep_keep {m : Bool} {s0 t : State} (h : Keep m s0 t) {x1 x2} : Keep m s0 (State.logKeep t x1 x2) := by
  unfold State.logKeep
  with_reducible repeat' first
    | assumption
    | apply State.stat_keep
    | apply State.intSet_keep
    | (apply Keep.upd; first | assumption | apply State.stat_keep | apply State.intSet_keep)

theorem State.intBit_keep {m : Bool} {s0 t : State} (h : Keep m s0 t) {x1 x2} : Keep m s0 (State.intBit t x1 x2) := by
  unfold State.intBit
  with_reducible repeat' first
    | assumption
    | apply State.intSet_keep

theorem State.put_keep {m : Bool} {s0 t : State} (h : Keep m s0 t) {x1 x2 x3} : Keep m s0 (State.put t x1 x2 x3) := by
  unfold State.put
  with_reducible repeat' first
    | assumption
    | apply State.wr_keep

theorem State.incSat_keep {m : Bool} {s0 t : State} (h : Keep m s0 t) {x1 x2 x3} : Keep m s0 (State.incSat t x1 x2 x3) := by
  unfold State.incSat
  with_reducible repeat' first
    | assumption
    | apply State.put_keep

theorem State.logLost_keep {m : Bool} {s0 t : State} (h : Keep m s0 t) : Keep m s0 (State.logLost t) := by
  unfold State.logLost
  with_reducible repeat' first
    | assumption
    | apply State.intBit_keep
    | apply State.stat_keep
    | apply State.incSat_keep

theorem State.logAdd_keep {m : Bool} {s0 t : State} (h : Keep m s0 t) {x1} : Keep m s0 (State.logAdd t x1) := by
  unfold State.logAdd
  with_reducible repeat' first
    | assumption
    | apply State.logKeep_keep
    | apply State.logLost_keep
    | apply Keep.ite
    | intro _

theorem State.setRaised_keep {m : Bool} {s0 t : State} (h : Keep m s0 t) {x1} : Keep m s0 (State.setRaised t x1) := by
  unfold State.setRaised
  with_reducible repeat' first
    | assumption
    | apply State.wr_keep

theorem State.setAggr_keep {m : Bool} {s0 t : State} (h : Keep m s0 t) {x1 x2} : Keep m s0 (State.setAggr t x1 x2) := by
  unfold State.setAggr
  with_reducible repeat' first
    | assumption
    | (apply Keep.upd; first | assumption)

theorem State.hitEv_keep {m : Bool} {s0 t : State} (h : Keep m s0 t) {x1} : Keep m s0 (State.hitEv t x1) := by
  unfold State.hitEv
  with_reducible repeat' first
    | assumption
    | apply State.setRaised_keep
    | apply State.incSat_keep
    | apply State.put_keep
    | apply State.setAggr_keep
    | apply Keep.ite
    | intro _
    | split

theorem State.hit_keep {m : Bool} {s0 t : State} (h : Keep m s0 t) {x1 x2} : Keep m s0 (State.hit t x1 x2) := by
  unfold State.hit
  with_reducible repeat' first
    | assumption
    | apply State.hitEv_keep

theorem State.inc_keep {m : Bool} {s0 t : State} (h : Keep m s0 t) {x1 x2 x3} : Keep m s0 (State.inc t x1 x2 x3) := by
  unfold State.inc
  with_reducible repeat' first
    | assumption
    | apply State.put_keep

theorem State.bucketAdd_keep {m : Bool} {s0 t : State} (h : Keep m s0 t) {x1 x2} : Keep m s0 (State.bucketAdd t x1 x2) := by
  unfold State.bucketAdd
  with_reducible repeat' first
    | assumption
    | apply State.stat_keep
    | apply State.hit_keep
    | apply State.intBit_keep
    | apply State.inc_keep
    | apply State.put_keep
    | apply Keep.ite
    | intro _

theorem State.dramCe_keep {m : Bool} {s0 t : State} (h : Keep m s0 t) {x1 x2 x3 x4 x5} : Keep m s0 (State.dramCe t x1 x2 x3 x4 x5) := by
  unfold State.dramCe
  with_reducible repeat' first
    | assumption
    | apply State.stat_keep
    | apply State.logAdd_keep
    | apply State.bucketAdd_keep

theorem State.dramFixLater_keep {m : Bool} {s0 t : State} (h : Keep m s0 t) {x1} : Keep m s0 (State.dramFixLater t x1) := by
  unfold State.dramFixLater
  with_reducible repeat' first
    | assumption
    | apply Keep.ite
    | apply Keep.forL
    | intro _
    | (apply Keep.upd; first | assumption | apply Keep.ite | apply Keep.forL | split)
    | split
    | refine Keep.ofPair (by assumption) ?_

theorem State.hitAcc_keep {m : Bool} {s0 t : State} (h : Keep m s0 t) {x1 x2 x3 x4 x5 x6} : Keep m s0 (State.hitAcc t x1 x2 x3 x4 x5 x6) := by
  unfold State.hitAcc
  with_reducible repeat' first
    | assumption
    | apply State.hitEv_keep

theorem State.dramUe_keep {m : Bool} {s0 t : State} (h : Keep m s0 t) {x1 x2 x3 x4 x5 x6} : Keep m s0 (State.dramUe t x1 x2 x3 x4 x5 x6) := by
  unfold State.dramUe
  with_reducible repeat' first
    | assumption
    | apply State.hitAcc_keep
    | apply State.intBit_keep
    | apply State.stat_keep
    | apply State.logAdd_keep

theorem State.dramUnused_keep {m : Bool} {s0 t : State} (h : Keep m s0 t) {x1 x2 x3 x4 x5} : Keep m s0 (State.dramUnused t x1 x2 x3 x4 x5) := by
  unfold State.dramUnused
  with_reducible repeat' first
    | assumption
    | apply State.stat_keep
    | apply State.logAdd_keep

theorem State.scanWord_keep {m : Bool} {s0 t : State} (h : Keep m s0 t) {x1 x2 x3 x4 x5} : Keep m s0 (State.scanWord t x1 x2 x3 x4 x5).1 := by
  unfold State.scanWord
  with_reducible repeat' first
    | assumption
    | apply State.dramCe_keep
    | apply State.dramFixLater_keep
    | apply State.dramUe_keep
    | apply State.dramUnused_keep
    | apply Keep.ite
    | apply Keep.ite1
    | apply Keep.forL
    | intro _
    | (apply Keep.upd; first | assumption | apply State.dramCe_keep | apply State.dramFixLater_keep
                             | apply State.dramUe_keep | apply State.dramUnused_keep | apply Keep.ite
                             | apply Keep.ite1 | apply Keep.forL | split)
    | split
    | refine Keep.ofPair (by assumption) ?_

theorem State.dramScan_keep {m : Bool} {s0 t : State} (h : Keep m s0 t) {x1 x2 x3 x4 x5 x6} : Keep m s0 (State.dramScan t x1 x2 x3 x4 x5 x6).1 := by
  induction x5 generalizing t x1 x2 x3 x4 x6 with
  | zero =>
    unfold State.dramScan
    with_reducible repeat' first
      | assumption
      | apply ih
      | apply State.scanWord_keep
      | apply Keep.ite
      | apply Keep.ite1
      | apply Keep.forL
      | intro _
      | (apply Keep.upd; first | assumption | apply ih | apply State.scanWord_keep | apply Keep.ite | apply Keep.ite1
                               | apply Keep.forL | split)
      | split
      | refine Keep.ofPair (by assumption) ?_
  | succ n ih =>
    unfold State.dramScan
    with_reducible repeat' first
      | assumption
      | apply ih
      | apply State.scanWord_keep
      | apply Keep.ite
      | apply Keep.ite1
      | apply Keep.forL
      | intro _
      | (apply Keep.upd; first | assumption | apply ih | apply State.scanWord_keep | apply Keep.ite | apply Keep.ite1
                               | apply Keep.forL | split)
      | split
      | refine Keep.ofPair (by assumption) ?_

theorem State.potKeep_keep {m : Bool} {s0 t : State} (h : Keep m s0 t) {x1 x2 x3 x4} : Keep m s0 (State.potKeep t x1 x2 x3 x4).1 := by
  unfold State.potKeep
  with_reducible repeat' first
    | assumption
    | (apply Keep.upd; first | assumption | split)
    | split

theorem State.potEntry_keep {m : Bool} {s0 t : State} (h : Keep m s0 t) {x1 x2} :
    Keep m s0 (State.potEntry t x1 x2).1 := by
  unfold State.potEntry
  apply Keep.ite1 <;> intro _
  · exact h
  · split
    · exact Keep.upd h
    · refine State.potKeep_keep ?_
      exact State.dramScan_keep h

theorem State.judgePage_keep {m : Bool} {s0 t : State} (h : Keep m s0 t) {x1 x2} : Keep m s0 (State.judgePage t x1 x2).1 := by
  unfold State.judgePage
  with_reducible repeat' first
    | assumption
    | apply State.potEntry_keep
    | split

theorem State.judgePages_keep {m : Bool} {s0 t : State} (h : Keep m s0 t) {x1 x2 x3} : Keep m s0 (State.judgePages t x1 x2 x3).1 := by
  induction x2 generalizing t x1 x3 with
  | nil =>
    unfold State.judgePages
    with_reducible repeat' first
      | assumption
      | apply ih
      | apply State.judgePage_keep
      | split
      | refine Keep.ofPair (by assumption) ?_
  | cons e l ih =>
    unfold State.judgePages
    with_reducible repeat' first
      | assumption
      | apply ih
      | apply State.judgePage_keep
      | split
      | refine Keep.ofPair (by assumption) ?_

theorem State.decideRq_keep {m : Bool} {s0 t : State} (h : Keep m s0 t) {x1} : Keep m s0 (State.decideRq t x1).1 := by
  unfold State.decideRq
  with_reducible repeat' first
    | assumption
    | apply State.judgePages_keep
    | split

theorem State.potSnoop_keep {m : Bool} {s0 t : State} (h : Keep m s0 t) {x1} : Keep m s0 (State.potSnoop t x1) := by
  unfold State.potSnoop
  with_reducible repeat' first
    | assumption
    | apply Keep.ite
    | intro _
    | (apply Keep.upd; first | assumption | apply Keep.ite)

theorem State.judge_keep {m : Bool} {s0 t : State} (h : Keep m s0 t) {x1} : Keep m s0 (State.judge t x1).1 := by
  unfold State.judge
  with_reducible repeat' first
    | assumption
    | apply State.decideRq_keep
    | apply State.potSnoop_keep
    | apply State.hitAcc_keep
    | split
    | refine Keep.ofPair (by assumption) ?_

theorem State.poolCe_keep {m : Bool} {s0 t : State} (h : Keep m s0 t) {x1 x2 x3 x4 x5} : Keep m s0 (State.poolCe t x1 x2 x3 x4 x5) := by
  unfold State.poolCe
  with_reducible repeat' first
    | assumption
    | apply State.logAdd_keep
    | apply State.bucketAdd_keep

theorem State.poolUe_keep {m : Bool} {s0 t : State} (h : Keep m s0 t) {x1 x2 x3 x4 x5 x6} : Keep m s0 (State.poolUe t x1 x2 x3 x4 x5 x6) := by
  unfold State.poolUe
  with_reducible repeat' first
    | assumption
    | apply State.hitAcc_keep
    | apply State.logAdd_keep

theorem State.poolScan_keep {m : Bool} {s0 t : State} (h : Keep m s0 t) {x1 x2 x3 x4} : Keep m s0 (State.poolScan t x1 x2 x3 x4).1 := by
  induction x3 generalizing t x1 x2 x4 with
  | zero =>
    unfold State.poolScan
    with_reducible repeat' first
      | assumption
      | apply ih
      | apply State.poolCe_keep
      | apply State.poolUe_keep
      | split
  | succ n ih =>
    unfold State.poolScan
    with_reducible repeat' first
      | assumption
      | apply ih
      | apply State.poolCe_keep
      | apply State.poolUe_keep
      | split

theorem State.stat64_keep {m : Bool} {s0 t : State} (h : Keep m s0 t) {x1 x2 x3} : Keep m s0 (State.stat64 t x1 x2 x3) := by
  unfold State.stat64
  with_reducible repeat' first
    | assumption
    | apply State.statTo_keep
    | apply Keep.ite
    | intro _

theorem State.poolQueue_keep {m : Bool} {s0 t : State} (h : Keep m s0 t) {x1 x2} : Keep m s0 (State.poolQueue t x1 x2) := by
  unfold State.poolQueue
  with_reducible repeat' first
    | assumption
    | apply State.stat_keep
    | apply Keep.ite
    | apply Keep.forL
    | intro _
    | (apply Keep.upd; first | assumption | apply State.stat_keep | apply Keep.ite | apply Keep.forL | split)
    | split
    | refine Keep.ofPair (by assumption) ?_

theorem State.globalOff_keep {m : Bool} {s0 t : State} (h : Keep m s0 t) : Keep m s0 (State.globalOff t) := by
  unfold State.globalOff
  with_reducible repeat' first
    | assumption
    | apply State.statTo_keep

theorem State.modDc_keep {m : Bool} {s0 t : State} (h : Keep m s0 t) {x1} : Keep m s0 (State.modDc t x1) := by
  unfold State.modDc
  with_reducible repeat' first
    | assumption
    | (apply Keep.upd; first | assumption)

theorem State.setDchan_keep {m : Bool} {s0 t : State} (h : Keep m s0 t) {x1 x2} : Keep m s0 (State.setDchan t x1 x2) := by
  unfold State.setDchan
  with_reducible repeat' first
    | assumption
    | apply State.modDc_keep

theorem State.modDchan_keep {m : Bool} {s0 t : State} (h : Keep m s0 t) {x1 x2} : Keep m s0 (State.modDchan t x1 x2) := by
  unfold State.modDchan
  with_reducible repeat' first
    | assumption
    | apply State.setDchan_keep

theorem State.accrueTo_keep {m : Bool} {s0 t : State} (h : Keep m s0 t) {x1 x2 x3 x4} : Keep m s0 (State.accrueTo t x1 x2 x3 x4) := by
  unfold State.accrueTo
  with_reducible repeat' first
    | assumption
    | apply Keep.ite
    | apply Keep.forL
    | intro _
    | (apply Keep.upd; first | assumption | apply Keep.ite | apply Keep.forL | split)
    | split
    | refine Keep.ofPair (by assumption) ?_

theorem State.accrue_keep {m : Bool} {s0 t : State} (h : Keep m s0 t) {x1 x2 x3} : Keep m s0 (State.accrue t x1 x2 x3) := by
  unfold State.accrue
  with_reducible repeat' first
    | assumption
    | apply State.accrueTo_keep
    | apply Keep.ite
    | apply Keep.forL
    | intro _
    | (apply Keep.upd; first | assumption | apply State.accrueTo_keep | apply Keep.ite | apply Keep.forL | split)
    | split
    | refine Keep.ofPair (by assumption) ?_

theorem State.chanSettle_keep {m : Bool} {s0 t : State} (h : Keep m s0 t) {x1} : Keep m s0 (State.chanSettle t x1) := by
  unfold State.chanSettle
  with_reducible repeat' first
    | assumption
    | apply State.accrue_keep
    | apply State.modDchan_keep
    | intro _
    | split

theorem State.srExit_keep {m : Bool} {s0 t : State} (h : Keep m s0 t) {x1 x2} : Keep m s0 (State.srExit t x1 x2) := by
  unfold State.srExit
  with_reducible repeat' first
    | assumption
    | apply State.modDchan_keep
    | apply State.chanSettle_keep

theorem State.rankCmd_keep {m : Bool} {s0 t : State} (h : Keep m s0 t) {x1 x2} : Keep m s0 (State.rankCmd t x1 x2) := by
  unfold State.rankCmd
  with_reducible repeat' first
    | assumption
    | apply State.chanSettle_keep
    | apply State.modDchan_keep

theorem State.blockCmd_keep {m : Bool} {s0 t : State} (h : Keep m s0 t) {x1} : Keep m s0 (State.blockCmd t x1) := by
  unfold State.blockCmd
  with_reducible repeat' first
    | assumption
    | apply State.stat_keep
    | apply State.rankCmd_keep
    | apply State.modDchan_keep

theorem State.tenBytes_keep {m : Bool} {s0 t : State} (h : Keep m s0 t) {x1 x2 x3} : Keep m s0 (State.tenBytes t x1 x2 x3) := by
  unfold State.tenBytes
  with_reducible repeat' first
    | assumption
    | apply State.stat64_keep
    | apply State.modDc_keep
    | intro _
    | split

theorem State.dramServed_keep {m : Bool} {s0 t : State} (h : Keep m s0 t) {x1 x2} : Keep m s0 (State.dramServed t x1 x2) := by
  unfold State.dramServed
  with_reducible repeat' first
    | assumption
    | apply State.srExit_keep
    | apply State.blockCmd_keep
    | apply State.tenBytes_keep
    | apply State.stat64_keep
    | apply Keep.ite
    | apply Keep.forL
    | intro _

theorem State.dramRead_keep {m : Bool} {s0 t : State} (h : Keep m s0 t) {x1 x2} : Keep m s0 (State.dramRead t x1 x2).1 := by
  unfold State.dramRead
  with_reducible repeat' first
    | assumption
    | apply State.dramScan_keep
    | apply State.dramServed_keep

theorem State.setSwept_keep {m : Bool} {s0 t : State} (h : Keep m s0 t) {x1} : Keep m s0 (State.setSwept t x1) := by
  unfold State.setSwept
  with_reducible repeat' first
    | assumption
    | apply State.put_keep

theorem State.sweepFor_keep {m : Bool} {s0 t : State} (h : Keep m s0 t) {x1} : Keep m s0 (State.sweepFor t x1) := by
  unfold State.sweepFor
  with_reducible repeat' first
    | assumption
    | apply State.inc_keep
    | apply State.setSwept_keep
    | apply Keep.ite
    | intro _

theorem State.mreadC_keep {m : Bool} {s0 t : State} (h : Keep m s0 t) {x1 x2} : Keep m s0 (State.mreadC t x1 x2).1 := by
  unfold State.mreadC
  with_reducible repeat' first
    | assumption
    | apply State.judge_keep
    | apply State.poolScan_keep
    | apply State.stat64_keep
    | apply State.poolQueue_keep
    | apply State.globalOff_keep
    | apply State.dramRead_keep
    | apply State.sweepFor_keep
    | apply Keep.ite
    | apply Keep.ite1
    | apply Keep.forL
    | intro _
    | (apply Keep.upd; first | assumption | apply State.judge_keep | apply State.poolScan_keep
                             | apply State.stat64_keep | apply State.poolQueue_keep | apply State.globalOff_keep
                             | apply State.dramRead_keep | apply State.sweepFor_keep | apply Keep.ite
                             | apply Keep.ite1 | apply Keep.forL | split)
    | split
    | refine Keep.ofPair (by assumption) ?_

theorem State.mread_keep {m : Bool} {s0 t : State} (h : Keep m s0 t) {x1} : Keep m s0 (State.mread t x1).1 := by
  unfold State.mread
  with_reducible repeat' first
    | assumption
    | apply State.mreadC_keep

theorem State.poolPut_keep {m : Bool} {s0 t : State} (hm : m = true) (h : Keep m s0 t) {x1 x2 x3} : Keep m s0 (State.poolPut t x1 x2 x3) :=
  h.trans ⟨rfl, (fun ⟨a, b, d, e, f⟩ => ⟨a, b, memPutNat_wf _ _ _ _ d, amWf_set _ _ _ _ e, f⟩), Keep.no hm⟩

theorem State.poolClean_keep {m : Bool} {s0 t : State} (hm : m = true) (h : Keep m s0 t) {x1 x2} : Keep m s0 (State.poolClean t x1 x2) := by
  unfold State.poolClean
  with_reducible repeat' first
    | assumption
    | apply State.poolPut_keep hm

theorem State.poolPoison_keep {m : Bool} {s0 t : State} (hm : m = true) (h : Keep m s0 t) {x1 x2} : Keep m s0 (State.poolPoison t x1 x2) := by
  unfold State.poolPoison
  with_reducible repeat' first
    | assumption
    | apply State.poolPut_keep hm

theorem State.poolPart_keep {m : Bool} {s0 t : State} (hm : m = true) (h : Keep m s0 t) {x1 x2 x3 x4 x5} : Keep m s0 (State.poolPart t x1 x2 x3 x4 x5).1 := by
  unfold State.poolPart
  with_reducible repeat' first
    | assumption
    | apply State.poolClean_keep hm
    | apply State.poolCe_keep
    | apply State.poolUe_keep
    | apply State.poolPoison_keep hm
    | apply State.poolPut_keep hm
    | split

theorem State.poolWrite_keep {m : Bool} {s0 t : State} (hm : m = true) (h : Keep m s0 t) {x1 x2 x3 x4 x5} : Keep m s0 (State.poolWrite t x1 x2 x3 x4 x5).1 := by
  induction x3 generalizing t x1 x2 x4 x5 with
  | zero =>
    unfold State.poolWrite
    with_reducible repeat' first
      | assumption
      | apply ih
      | apply State.poolClean_keep hm
      | apply State.poolPart_keep hm
      | split
  | succ n ih =>
    unfold State.poolWrite
    with_reducible repeat' first
      | assumption
      | apply ih
      | apply State.poolClean_keep hm
      | apply State.poolPart_keep hm
      | split

theorem State.modTmb_keep {m : Bool} {s0 t : State} (h : Keep m s0 t) {x1} : Keep m s0 (State.modTmb t x1) := by
  unfold State.modTmb
  with_reducible repeat' first
    | assumption
    | (apply Keep.upd; first | assumption)

theorem State.setTport_keep {m : Bool} {s0 t : State} (h : Keep m s0 t) {x1 x2} : Keep m s0 (State.setTport t x1 x2) := by
  unfold State.setTport
  with_reducible repeat' first
    | assumption
    | apply State.modTmb_keep

theorem State.modTport_keep {m : Bool} {s0 t : State} (h : Keep m s0 t) {x1 x2} : Keep m s0 (State.modTport t x1 x2) := by
  unfold State.modTport
  with_reducible repeat' first
    | assumption
    | apply State.setTport_keep

theorem State.tSend_keep {m : Bool} {s0 t : State} (h : Keep m s0 t) {x1 x2 x3 x4} : Keep m s0 (State.tSend t x1 x2 x3 x4) := by
  unfold State.tSend
  with_reducible repeat' first
    | assumption
    | apply State.modTport_keep
    | split

theorem State.mirSend_keep {m : Bool} {s0 t : State} (h : Keep m s0 t) {x1 x2 x3 x4 x5} : Keep m s0 (State.mirSend t x1 x2 x3 x4 x5) := by
  induction x3 generalizing t x1 x2 x4 x5 with
  | zero =>
    unfold State.mirSend
    with_reducible repeat' first
      | assumption
      | apply ih
      | apply State.tSend_keep
      | apply Keep.forL
      | intro _
      | split
  | succ n ih =>
    unfold State.mirSend
    with_reducible repeat' first
      | assumption
      | apply ih
      | apply State.tSend_keep
      | apply Keep.forL
      | intro _
      | split

theorem State.mirror_keep {m : Bool} {s0 t : State} (h : Keep m s0 t) {x1 x2 x3} : Keep m s0 (State.mirror t x1 x2 x3) := by
  unfold State.mirror
  with_reducible repeat' first
    | assumption
    | apply State.mirSend_keep
    | apply Keep.ite
    | apply Keep.forN
    | intro _

theorem State.poolNote_keep {m : Bool} {s0 t : State} (h : Keep m s0 t) {x1 x2} : Keep m s0 (State.poolNote t x1 x2) := by
  unfold State.poolNote
  with_reducible repeat' first
    | assumption
    | apply Keep.ite
    | intro _
    | (apply Keep.upd; first | assumption | apply Keep.ite)

theorem State.dramPut_keep {m : Bool} {s0 t : State} (hm : m = true) (h : Keep m s0 t) {x1 x2 x3 x4} : Keep m s0 (State.dramPut t x1 x2 x3 x4) :=
  h.trans ⟨rfl, (fun ⟨a, b, c⟩ => ⟨a, memPut_wf _ _ _ (memPut_wf _ _ _ (memPutNat_wf _ _ _ _ b)), c⟩), Keep.no hm⟩

theorem State.dramPoison_keep {m : Bool} {s0 t : State} (hm : m = true) (h : Keep m s0 t) {x1 x2} : Keep m s0 (State.dramPoison t x1 x2) := by
  unfold State.dramPoison
  with_reducible repeat' first
    | assumption
    | apply State.dramPut_keep hm
    | apply Keep.ite
    | apply Keep.forL
    | intro _
    | (apply Keep.upd; first | assumption | apply State.dramPut_keep hm | apply Keep.ite | apply Keep.forL | split)
    | split
    | refine Keep.ofPair (by assumption) ?_

theorem State.dramInject_keep {m : Bool} {s0 t : State} (hm : m = true) (h : Keep m s0 t) {x1} : Keep m s0 (State.dramInject t x1) := by
  unfold State.dramInject
  with_reducible repeat' first
    | assumption
    | apply State.put_keep
    | apply State.dramPut_keep hm
    | apply State.dramPoison_keep hm
    | apply Keep.ite
    | apply Keep.forL
    | intro _
    | (apply Keep.upd; first | assumption | apply State.put_keep | apply State.dramPut_keep hm
                             | apply State.dramPoison_keep hm | apply Keep.ite | apply Keep.forL | split)
    | split
    | refine Keep.ofPair (by assumption) ?_

theorem State.dramClean_keep {m : Bool} {s0 t : State} (hm : m = true) (h : Keep m s0 t) {x1 x2} : Keep m s0 (State.dramClean t x1 x2) := by
  unfold State.dramClean
  with_reducible repeat' first
    | assumption
    | apply State.dramPut_keep hm
    | apply Keep.ite
    | apply Keep.forL
    | intro _
    | (apply Keep.upd; first | assumption | apply State.dramPut_keep hm | apply Keep.ite | apply Keep.forL | split)
    | split
    | refine Keep.ofPair (by assumption) ?_

theorem State.rmwWord_keep {m : Bool} {s0 t : State} (hm : m = true) (h : Keep m s0 t) {x1 x2 x3 x4 x5} : Keep m s0 (State.rmwWord t x1 x2 x3 x4 x5).1 := by
  unfold State.rmwWord
  with_reducible repeat' first
    | assumption
    | apply State.dramInject_keep hm
    | apply State.dramClean_keep hm
    | apply State.dramCe_keep
    | apply State.dramUe_keep
    | apply State.dramPoison_keep hm
    | apply Keep.ite
    | apply Keep.ite1
    | apply Keep.forL
    | intro _
    | (apply Keep.upd; first | assumption | apply State.dramInject_keep hm | apply State.dramClean_keep hm
                             | apply State.dramCe_keep | apply State.dramUe_keep | apply State.dramPoison_keep hm
                             | apply Keep.ite | apply Keep.ite1 | apply Keep.forL | split)
    | split
    | refine Keep.ofPair (by assumption) ?_

theorem State.dramRmw_keep {m : Bool} {s0 t : State} (hm : m = true) (h : Keep m s0 t) {x1 x2 x3 x4 x5} : Keep m s0 (State.dramRmw t x1 x2 x3 x4 x5).1 := by
  unfold State.dramRmw
  with_reducible repeat' first
    | assumption
    | apply State.rmwWord_keep hm
    | apply State.stat_keep
    | apply Keep.ite
    | apply Keep.ite1
    | apply Keep.forL
    | intro _
    | (apply Keep.upd; first | assumption | apply State.rmwWord_keep hm | apply State.stat_keep | apply Keep.ite
                             | apply Keep.ite1 | apply Keep.forL | split)
    | split
    | refine Keep.ofPair (by assumption) ?_

theorem State.dramWrite_keep {m : Bool} {s0 t : State} (hm : m = true) (h : Keep m s0 t) {x1 x2 x3 x4 x5} : Keep m s0 (State.dramWrite t x1 x2 x3 x4 x5).1 := by
  induction x3 generalizing t x1 x2 x4 x5 with
  | zero =>
    unfold State.dramWrite
    with_reducible repeat' first
      | assumption
      | apply ih
      | apply State.dramInject_keep hm
      | apply State.dramClean_keep hm
      | apply State.dramRmw_keep hm
      | apply Keep.ite
      | apply Keep.ite1
      | apply Keep.forL
      | intro _
      | (apply Keep.upd; first | assumption | apply ih | apply State.dramInject_keep hm
                               | apply State.dramClean_keep hm | apply State.dramRmw_keep hm | apply Keep.ite
                               | apply Keep.ite1 | apply Keep.forL | split)
      | split
      | refine Keep.ofPair (by assumption) ?_
  | succ n ih =>
    unfold State.dramWrite
    with_reducible repeat' first
      | assumption
      | apply ih
      | apply State.dramInject_keep hm
      | apply State.dramClean_keep hm
      | apply State.dramRmw_keep hm
      | apply Keep.ite
      | apply Keep.ite1
      | apply Keep.forL
      | intro _
      | (apply Keep.upd; first | assumption | apply ih | apply State.dramInject_keep hm
                               | apply State.dramClean_keep hm | apply State.dramRmw_keep hm | apply Keep.ite
                               | apply Keep.ite1 | apply Keep.forL | split)
      | split
      | refine Keep.ofPair (by assumption) ?_

theorem State.dramStore_keep {m : Bool} {s0 t : State} (hm : m = true) (h : Keep m s0 t) {x1 x2 x3} : Keep m s0 (State.dramStore t x1 x2 x3).1 := by
  unfold State.dramStore
  with_reducible repeat' first
    | assumption
    | apply State.dramWrite_keep hm
    | apply State.dramServed_keep
    | apply Keep.ite
    | apply Keep.ite1
    | apply Keep.forL
    | intro _
    | (apply Keep.upd; first | assumption | apply State.dramWrite_keep hm | apply State.dramServed_keep
                             | apply Keep.ite | apply Keep.ite1 | apply Keep.forL | split)
    | split
    | refine Keep.ofPair (by assumption) ?_

theorem State.mwriteC_keep {m : Bool} {s0 t : State} (hm : m = true) (h : Keep m s0 t) {x1 x2 x3} : Keep m s0 (State.mwriteC t x1 x2 x3).1 := by
  unfold State.mwriteC
  with_reducible repeat' first
    | assumption
    | apply State.judge_keep
    | apply State.poolWrite_keep hm
    | apply State.mirror_keep
    | apply State.poolNote_keep
    | apply State.stat64_keep
    | apply State.poolQueue_keep
    | apply State.globalOff_keep
    | apply State.dramStore_keep hm
    | apply State.sweepFor_keep
    | apply Keep.ite
    | apply Keep.ite1
    | apply Keep.forL
    | intro _
    | (apply Keep.upd; first | assumption | apply State.judge_keep | apply State.poolWrite_keep hm
                             | apply State.mirror_keep | apply State.poolNote_keep | apply State.stat64_keep
                             | apply State.poolQueue_keep | apply State.globalOff_keep | apply State.dramStore_keep hm
                             | apply State.sweepFor_keep | apply Keep.ite | apply Keep.ite1 | apply Keep.forL | split)
    | split
    | refine Keep.ofPair (by assumption) ?_

theorem State.l2Store_keep {m : Bool} {s0 t : State} (hm : m = true) (h : Keep m s0 t) {x1 x2} : Keep m s0 (State.l2Store t x1 x2).1 := by
  unfold State.l2Store
  with_reducible repeat' first
    | assumption
    | apply State.mwriteC_keep hm
    | apply Keep.ite
    | apply Keep.ite1
    | apply Keep.forL
    | intro _
    | (apply Keep.upd; first | assumption | apply State.mwriteC_keep hm | apply Keep.ite | apply Keep.ite1
                             | apply Keep.forL | split)
    | split
    | refine Keep.ofPair (by assumption) ?_

theorem State.setL2_keep {m : Bool} {s0 t : State} (h : Keep m s0 t) {x1} : Keep m s0 (State.setL2 t x1) := by
  unfold State.setL2
  with_reducible repeat' first
    | assumption
    | (apply Keep.upd; first | assumption)

theorem State.l2Clean_keep {m : Bool} {s0 t : State} (hm : m = true) (h : Keep m s0 t) {x1 x2 x3} : Keep m s0 (State.l2Clean t x1 x2 x3).1 := by
  unfold State.l2Clean
  with_reducible repeat' first
    | assumption
    | apply State.l2Store_keep hm
    | apply State.setL2_keep
    | apply Keep.ite
    | apply Keep.ite1
    | apply Keep.forL
    | apply Keep.foldl1
    | intro _
    | (apply Keep.upd; first | assumption | apply State.l2Store_keep hm | apply State.setL2_keep | apply Keep.ite
                             | apply Keep.ite1 | apply Keep.forL | apply Keep.foldl1 | split)
    | split
    | refine Keep.ofPair (by assumption) ?_

theorem State.l2Bypass_keep {m : Bool} {s0 t : State} (hm : m = true) (h : Keep m s0 t) {x1 x2 x3} : Keep m s0 (State.l2Bypass t x1 x2 x3) := by
  unfold State.l2Bypass
  with_reducible repeat' first
    | assumption
    | apply State.l2Clean_keep hm
    | apply Keep.ite
    | apply Keep.ite1
    | apply Keep.forL
    | intro _
    | (apply Keep.upd; first | assumption | apply State.l2Clean_keep hm | apply Keep.ite | apply Keep.ite1
                             | apply Keep.forL | split)
    | split
    | refine Keep.ofPair (by assumption) ?_

theorem State.modJob_keep {m : Bool} {s0 t : State} (h : Keep m s0 t) {x1 x2} : Keep m s0 (State.modJob t x1 x2) := by
  unfold State.modJob
  with_reducible repeat' first
    | assumption
    | (apply Keep.upd; first | assumption)

theorem State.put64_keep {m : Bool} {s0 t : State} (h : Keep m s0 t) {x1 x2 x3} : Keep m s0 (State.put64 t x1 x2 x3) := by
  unfold State.put64
  with_reducible repeat' first
    | assumption
    | apply State.wr_keep

theorem State.jobStatus_keep {m : Bool} {s0 t : State} (h : Keep m s0 t) {x1 x2} : Keep m s0 (State.jobStatus t x1 x2) := by
  unfold State.jobStatus
  with_reducible repeat' first
    | assumption
    | apply State.modJob_keep
    | apply State.stat_keep
    | intro _
    | split

theorem State.jobBusError_keep {m : Bool} {s0 t : State} (h : Keep m s0 t) {x1 x2} : Keep m s0 (State.jobBusError t x1 x2) := by
  unfold State.jobBusError
  with_reducible repeat' first
    | assumption
    | apply State.modJob_keep
    | apply State.put64_keep
    | apply State.jobStatus_keep
    | apply Keep.ite
    | apply Keep.forL
    | intro _
    | (apply Keep.upd; first | assumption | apply State.modJob_keep | apply State.put64_keep
                             | apply State.jobStatus_keep | apply Keep.ite | apply Keep.forL | split)
    | split
    | refine Keep.ofPair (by assumption) ?_

theorem State.l2Alloc_keep {m : Bool} {s0 t : State} (hm : m = true) (h : Keep m s0 t) {x1 x2 x3 x4 x5 x6} : Keep m s0 (State.l2Alloc t x1 x2 x3 x4 x5 x6) := by
  unfold State.l2Alloc
  with_reducible repeat' first
    | assumption
    | apply State.l2Clean_keep hm
    | apply State.jobBusError_keep
    | apply Keep.ite
    | apply Keep.ite1
    | apply Keep.forL
    | intro _
    | (apply Keep.upd; first | assumption | apply State.l2Clean_keep hm | apply State.jobBusError_keep
                             | apply Keep.ite | apply Keep.ite1 | apply Keep.forL | split)
    | split
    | refine Keep.ofPair (by assumption) ?_

theorem State.l2Line_keep {m : Bool} {s0 t : State} (hm : m = true) (h : Keep m s0 t) {x1 x2 x3 x4 x5} : Keep m s0 (State.l2Line t x1 x2 x3 x4 x5).1 := by
  unfold State.l2Line
  try dsimp only
  with_reducible repeat' first
    | assumption
    | apply State.mreadC_keep
    | apply State.l2Bypass_keep hm
    | apply State.stat_keep
    | apply State.l2Alloc_keep hm
    | apply Keep.ite
    | apply Keep.ite1
    | apply Keep.forL
    | intro _
    | (apply Keep.upd; first | assumption | apply State.mreadC_keep | apply State.l2Bypass_keep hm
                             | apply State.stat_keep | apply State.l2Alloc_keep hm | apply Keep.ite | apply Keep.ite1
                             | apply Keep.forL | split)
    | split
    | refine Keep.ofPair (by assumption) ?_

theorem State.gread_keep {m : Bool} {s0 t : State} (hm : m = true) (h : Keep m s0 t) {x1 x2 x3 x4 x5 x6 x7 x8} : Keep m s0 (State.gread t x1 x2 x3 x4 x5 x6 x7 x8).1 := by
  induction x6 generalizing t x1 x2 x3 x4 x5 x7 x8 with
  | zero =>
    unfold State.gread
    with_reducible repeat' first
      | assumption
      | apply ih
      | apply State.mread_keep
      | apply State.l2Line_keep hm
      | apply State.jobBusError_keep
      | apply Keep.ite
      | apply Keep.ite1
      | apply Keep.forL
      | intro _
      | (apply Keep.upd; first | assumption | apply ih | apply State.mread_keep | apply State.l2Line_keep hm
                               | apply State.jobBusError_keep | apply Keep.ite | apply Keep.ite1 | apply Keep.forL
                               | split)
      | split
      | refine Keep.ofPair (by assumption) ?_
  | succ n ih =>
    unfold State.gread
    with_reducible repeat' first
      | assumption
      | apply ih
      | apply State.mread_keep
      | apply State.l2Line_keep hm
      | apply State.jobBusError_keep
      | apply Keep.ite
      | apply Keep.ite1
      | apply Keep.forL
      | intro _
      | (apply Keep.upd; first | assumption | apply ih | apply State.mread_keep | apply State.l2Line_keep hm
                               | apply State.jobBusError_keep | apply Keep.ite | apply Keep.ite1 | apply Keep.forL
                               | split)
      | split
      | refine Keep.ofPair (by assumption) ?_

theorem State.greadN_keep {m : Bool} {s0 t : State} (hm : m = true) (h : Keep m s0 t) {x1 x2 x3 x4 x5 x6 x7} : Keep m s0 (State.greadN t x1 x2 x3 x4 x5 x6 x7).1 := by
  unfold State.greadN
  with_reducible repeat' first
    | assumption
    | apply State.gread_keep hm
    | apply Keep.ite
    | apply Keep.ite1
    | apply Keep.forL
    | intro _
    | (apply Keep.upd; first | assumption | apply State.gread_keep hm | apply Keep.ite | apply Keep.ite1
                             | apply Keep.forL | split)
    | split
    | refine Keep.ofPair (by assumption) ?_

theorem GReader.rd_keep {m : Bool} {s0 t : State} (hm : m = true) (h : Keep m s0 t) {x0 x2 x3} : Keep m s0 (GReader.rd x0 t x2 x3).1 := by
  unfold GReader.rd
  with_reducible repeat' first
    | assumption
    | apply State.greadN_keep hm
    | apply Keep.ite
    | apply Keep.ite1
    | apply Keep.forL
    | intro _
    | (apply Keep.upd; first | assumption | apply State.greadN_keep hm | apply Keep.ite | apply Keep.ite1
                             | apply Keep.forL | split)
    | split
    | refine Keep.ofPair (by assumption) ?_

theorem ShCtx.read_keep {m : Bool} {s0 t : State} (hm : m = true) (h : Keep m s0 t) {x0 x2 x3 x4} : Keep m s0 (ShCtx.read x0 t x2 x3 x4).1 := by
  unfold ShCtx.read
  with_reducible repeat' first
    | assumption
    | apply State.gread_keep hm
    | apply Keep.ite
    | apply Keep.ite1
    | apply Keep.forL
    | intro _
    | (apply Keep.upd; first | assumption | apply State.gread_keep hm | apply Keep.ite | apply Keep.ite1
                             | apply Keep.forL | split)
    | split
    | refine Keep.ofPair (by assumption) ?_

theorem ShCtx.desc_keep {m : Bool} {s0 t : State} (hm : m = true) (h : Keep m s0 t) {x0 x2} : Keep m s0 (ShCtx.desc x0 t x2).1 := by
  unfold ShCtx.desc
  with_reducible repeat' first
    | assumption
    | apply ShCtx.read_keep hm
    | apply Keep.ite
    | apply Keep.ite1
    | apply Keep.forL
    | intro _
    | (apply Keep.upd; first | assumption | apply ShCtx.read_keep hm | apply Keep.ite | apply Keep.ite1
                             | apply Keep.forL | split)
    | split
    | refine Keep.ofPair (by assumption) ?_

theorem State.tookFree_keep {m : Bool} {s0 t : State} (h : Keep m s0 t) : Keep m s0 (State.tookFree t) := by
  unfold State.tookFree
  with_reducible repeat' first
    | assumption
    | (apply Keep.upd; first | assumption)

theorem State.freeWords_keep {m : Bool} {s0 t : State} (h : Keep m s0 t) : Keep m s0 (State.freeWords t).1 := by
  unfold State.freeWords
  with_reducible repeat' first
    | assumption
    | apply State.tookFree_keep
    | apply Keep.ite
    | apply Keep.ite1
    | apply Keep.forL
    | intro _
    | (apply Keep.upd; first | assumption | apply State.tookFree_keep | apply Keep.ite | apply Keep.ite1
                             | apply Keep.forL | split)
    | split
    | refine Keep.ofPair (by assumption) ?_

theorem ShCtx.texel_keep {m : Bool} {s0 t : State} (hm : m = true) (h : Keep m s0 t) {x0 x2 x3 x4 x5 x6} : Keep m s0 (ShCtx.texel x0 t x2 x3 x4 x5 x6).1 := by
  unfold ShCtx.texel
  with_reducible repeat' first
    | assumption
    | apply ShCtx.read_keep hm
    | apply Keep.ite
    | apply Keep.ite1
    | apply Keep.forL
    | intro _
    | (apply Keep.upd; first | assumption | apply ShCtx.read_keep hm | apply Keep.ite | apply Keep.ite1
                             | apply Keep.forL | split)
    | split
    | refine Keep.ofPair (by assumption) ?_

theorem ShCtx.level_keep {m : Bool} {s0 t : State} (hm : m = true) (h : Keep m s0 t) {x0 x2 x3 x4 x5 x6 x7 x8 x9 x10} : Keep m s0 (ShCtx.level x0 t x2 x3 x4 x5 x6 x7 x8 x9 x10).1 := by
  unfold ShCtx.level
  with_reducible repeat' first
    | assumption
    | apply ShCtx.texel_keep hm
    | apply Keep.ite
    | apply Keep.ite1
    | apply Keep.forL
    | apply Keep.forL1
    | intro _
    | (apply Keep.upd; first | assumption | apply ShCtx.texel_keep hm | apply Keep.ite | apply Keep.ite1
                             | apply Keep.forL | apply Keep.forL1 | split)
    | split
    | refine Keep.ofPair (by assumption) ?_

theorem ShCtx.mipped_keep {m : Bool} {s0 t : State} (hm : m = true) (h : Keep m s0 t) {x0 x2 x3 x4 x5 x6 x7 x8 x9} : Keep m s0 (ShCtx.mipped x0 t x2 x3 x4 x5 x6 x7 x8 x9).1 := by
  unfold ShCtx.mipped
  with_reducible repeat' first
    | assumption
    | apply ShCtx.level_keep hm
    | apply Keep.ite
    | apply Keep.ite1
    | apply Keep.forL
    | intro _
    | (apply Keep.upd; first | assumption | apply ShCtx.level_keep hm | apply Keep.ite | apply Keep.ite1
                             | apply Keep.forL | split)
    | split
    | refine Keep.ofPair (by assumption) ?_

theorem ShCtx.filtered_keep {m : Bool} {s0 t : State} (hm : m = true) (h : Keep m s0 t) {x0 x2 x3 x4 x5 x6 x7 x8 x9 x10 x11 x12} : Keep m s0 (ShCtx.filtered x0 t x2 x3 x4 x5 x6 x7 x8 x9 x10 x11 x12).1 := by
  unfold ShCtx.filtered
  with_reducible repeat' first
    | assumption
    | apply ShCtx.mipped_keep hm
    | apply Keep.ite
    | apply Keep.ite1
    | apply Keep.forL
    | apply Keep.forN1
    | intro _
    | (apply Keep.upd; first | assumption | apply ShCtx.mipped_keep hm | apply Keep.ite | apply Keep.ite1
                             | apply Keep.forL | apply Keep.forN1 | split)
    | split
    | refine Keep.ofPair (by assumption) ?_

theorem State.mwrite_keep {m : Bool} {s0 t : State} (hm : m = true) (h : Keep m s0 t) {x1 x2} : Keep m s0 (State.mwrite t x1 x2).1 := by
  unfold State.mwrite
  with_reducible repeat' first
    | assumption
    | apply State.mwriteC_keep hm
    | apply Keep.ite
    | apply Keep.ite1
    | apply Keep.forL
    | intro _
    | (apply Keep.upd; first | assumption | apply State.mwriteC_keep hm | apply Keep.ite | apply Keep.ite1
                             | apply Keep.forL | split)
    | split
    | refine Keep.ofPair (by assumption) ?_

theorem State.l2Write_keep {m : Bool} {s0 t : State} (hm : m = true) (h : Keep m s0 t) {x1 x2 x3 x4 x5 x6 x7} : Keep m s0 (State.l2Write t x1 x2 x3 x4 x5 x6 x7) := by
  unfold State.l2Write
  with_reducible repeat' first
    | assumption
    | apply State.setL2_keep
    | apply State.l2Bypass_keep hm
    | apply State.stat_keep
    | apply State.mwriteC_keep hm
    | apply State.jobBusError_keep
    | apply State.l2Alloc_keep hm
    | apply State.mreadC_keep
    | apply Keep.ite
    | apply Keep.ite1
    | apply Keep.forL
    | intro _
    | (apply Keep.upd; first | assumption | apply State.setL2_keep | apply State.l2Bypass_keep hm
                             | apply State.stat_keep | apply State.mwriteC_keep hm | apply State.jobBusError_keep
                             | apply State.l2Alloc_keep hm | apply State.mreadC_keep | apply Keep.ite
                             | apply Keep.ite1 | apply Keep.forL | split)
    | split
    | refine Keep.ofPair (by assumption) ?_

theorem State.gwrite_keep {m : Bool} {s0 t : State} (hm : m = true) (h : Keep m s0 t) {x1 x2 x3 x4 x5 x6 x7 x8} : Keep m s0 (State.gwrite t x1 x2 x3 x4 x5 x6 x7 x8) := by
  induction x6 generalizing t x1 x2 x3 x4 x5 x7 x8 with
  | zero =>
    unfold State.gwrite
    with_reducible repeat' first
      | assumption
      | apply ih
      | apply State.mwrite_keep hm
      | apply State.jobBusError_keep
      | apply State.l2Write_keep hm
      | apply Keep.ite
      | apply Keep.ite1
      | apply Keep.forL
      | intro _
      | (apply Keep.upd; first | assumption | apply ih | apply State.mwrite_keep hm | apply State.jobBusError_keep
                               | apply State.l2Write_keep hm | apply Keep.ite | apply Keep.ite1 | apply Keep.forL
                               | split)
      | split
      | refine Keep.ofPair (by assumption) ?_
  | succ n ih =>
    unfold State.gwrite
    with_reducible repeat' first
      | assumption
      | apply ih
      | apply State.mwrite_keep hm
      | apply State.jobBusError_keep
      | apply State.l2Write_keep hm
      | apply Keep.ite
      | apply Keep.ite1
      | apply Keep.forL
      | intro _
      | (apply Keep.upd; first | assumption | apply ih | apply State.mwrite_keep hm | apply State.jobBusError_keep
                               | apply State.l2Write_keep hm | apply Keep.ite | apply Keep.ite1 | apply Keep.forL
                               | split)
      | split
      | refine Keep.ofPair (by assumption) ?_

theorem ShCtx.act_keep {m : Bool} {s0 t : State} (hm : m = true) (h : Keep m s0 t) {x0 x2} : Keep m s0 (ShCtx.act x0 t x2).1 := by
  unfold ShCtx.act
  with_reducible repeat' first
    | assumption
    | apply ShCtx.desc_keep hm
    | apply State.freeWords_keep
    | apply ShCtx.filtered_keep hm
    | apply ShCtx.read_keep hm
    | apply State.gwrite_keep hm
    | apply Keep.ite
    | apply Keep.ite1
    | apply Keep.forL
    | intro _
    | (apply Keep.upd; first | assumption | apply ShCtx.desc_keep hm | apply State.freeWords_keep
                             | apply ShCtx.filtered_keep hm | apply ShCtx.read_keep hm | apply State.gwrite_keep hm
                             | apply Keep.ite | apply Keep.ite1 | apply Keep.forL | split)
    | split
    | refine Keep.ofPair (by assumption) ?_

theorem State.setJournal_keep {m : Bool} {s0 t : State} (h : Keep m s0 t) {x1 x2} : Keep m s0 (State.setJournal t x1 x2) := by
  unfold State.setJournal
  with_reducible repeat' first
    | assumption
    | (apply Keep.upd; first | assumption)

theorem State.jLose_keep {m : Bool} {s0 t : State} (h : Keep m s0 t) {x1 x2} : Keep m s0 (State.jLose t x1 x2) := by
  unfold State.jLose
  with_reducible repeat' first
    | assumption
    | apply State.stat_keep
    | apply State.incSat_keep
    | apply State.setJournal_keep

theorem State.jrec_keep {m : Bool} {s0 t : State} (h : Keep m s0 t) {x1 x2 x3 x4 x5} : Keep m s0 (State.jrec t x1 x2 x3 x4 x5) := by
  unfold State.jrec
  with_reducible repeat' first
    | assumption
    | apply State.inc_keep
    | apply State.setJournal_keep
    | apply State.jLose_keep
    | apply Keep.ite
    | intro _

theorem State.jrecTo_keep {m : Bool} {s0 t : State} (h : Keep m s0 t) {x1 x2 x3 x4 x5} : Keep m s0 (State.jrecTo t x1 x2 x3 x4 x5) := by
  unfold State.jrecTo
  with_reducible repeat' first
    | assumption
    | apply State.jrec_keep
    | split

theorem State.resetRecord_keep {m : Bool} {s0 t : State} (h : Keep m s0 t) {x1 x2 x3 x4 x5 x6 x7 x8} : Keep m s0 (State.resetRecord t x1 x2 x3 x4 x5 x6 x7 x8) := by
  unfold State.resetRecord
  with_reducible repeat' first
    | assumption
    | apply State.jrec_keep
    | apply State.jrecTo_keep
    | apply Keep.ite
    | intro _

theorem State.setActive_keep {m : Bool} {s0 t : State} (h : Keep m s0 t) {x1 x2} : Keep m s0 (State.setActive t x1 x2) := by
  unfold State.setActive
  with_reducible repeat' first
    | assumption
    | apply State.put_keep

theorem State.endReact_keep {m : Bool} {s0 t : State} (h : Keep m s0 t) {x1 x2} : Keep m s0 (State.endReact t x1 x2) := by
  unfold State.endReact
  with_reducible repeat' first
    | assumption
    | apply State.setActive_keep

theorem State.releaseB_keep {m : Bool} {s0 t : State} (h : Keep m s0 t) {x1 x2} : Keep m s0 (State.releaseB t x1 x2) := by
  unfold State.releaseB
  with_reducible repeat' first
    | assumption
    | apply State.endReact_keep
    | apply Keep.ite
    | apply Keep.forL
    | intro _
    | (apply Keep.upd; first | assumption | apply State.endReact_keep | apply Keep.ite | apply Keep.forL)

theorem State.setDom_keep {m : Bool} {s0 t : State} (h : Keep m s0 t) {x1 x2} : Keep m s0 (State.setDom t x1 x2) := by
  unfold State.setDom
  with_reducible repeat' first
    | assumption
    | (apply Keep.upd; first | assumption)

theorem State.setCtl_keep {m : Bool} {s0 t : State} (h : Keep m s0 t) {x1 x2} : Keep m s0 (State.setCtl t x1 x2) := by
  unfold State.setCtl
  with_reducible repeat' first
    | assumption
    | (apply Keep.upd; first | assumption)

theorem State.modCtl_keep {m : Bool} {s0 t : State} (h : Keep m s0 t) {x1 x2} : Keep m s0 (State.modCtl t x1 x2) := by
  unfold State.modCtl
  with_reducible repeat' first
    | assumption
    | apply State.setCtl_keep

theorem State.domEnd_keep {m : Bool} {s0 t : State} (h : Keep m s0 t) {x1 x2} : Keep m s0 (State.domEnd t x1 x2) := by
  unfold State.domEnd
  with_reducible repeat' first
    | assumption
    | apply State.resetRecord_keep
    | apply State.put_keep
    | apply State.releaseB_keep
    | apply State.setDom_keep
    | apply State.hit_keep
    | apply State.modCtl_keep
    | apply Keep.forL
    | intro _
    | split

theorem State.setClockOk_keep {m : Bool} {s0 t : State} (h : Keep m s0 t) {x1 x2} : Keep m s0 (State.setClockOk t x1 x2) := by
  unfold State.setClockOk
  with_reducible repeat' first
    | assumption
    | apply State.wr_keep

theorem State.waitTo_keep {m : Bool} {s0 t : State} (h : Keep m s0 t) {x1} : Keep m s0 (State.waitTo t x1) := by
  unfold State.waitTo
  with_reducible repeat' first
    | assumption
    | apply Keep.ite
    | intro _
    | (apply Keep.upd; first | assumption | apply Keep.ite)

theorem State.abandonDom_keep {m : Bool} {s0 t : State} (h : Keep m s0 t) {x1} : Keep m s0 (State.abandonDom t x1) := by
  unfold State.abandonDom
  with_reducible repeat' first
    | assumption
    | apply State.domEnd_keep
    | apply State.setClockOk_keep
    | apply State.waitTo_keep
    | split

theorem State.regsDrop_keep {m : Bool} {s0 t : State} (h : Keep m s0 t) (p : Nat → Bool) : Keep m s0 { t with regs := amDrop p t.regs } :=
  h.trans ⟨rfl, (fun w => ⟨amWf_drop (rstWord t.die) p t.regs w.1, w.2⟩), fun _ => ⟨rfl, rfl, rfl, rfl⟩⟩

theorem State.poolDrop_keep {m : Bool} {s0 t : State} (hm : m = true) (h : Keep m s0 t) (p q : Nat → Bool) :
    Keep m s0 { t with pool := amDrop p t.pool, poolChk := amDrop q t.poolChk } :=
  h.trans ⟨rfl, (fun ⟨a, b, d, e, f⟩ => ⟨a, b, amWf_drop _ p t.pool d, amWf_drop _ q t.poolChk e, f⟩), Keep.no hm⟩

theorem State.resetPageRegs_keep {m : Bool} {s0 t : State} (h : Keep m s0 t) {x1} : Keep m s0 (State.resetPageRegs t x1) :=
  State.put_keep (State.regsDrop_keep h _)

theorem State.linkState_keep {m : Bool} {s0 t : State} (h : Keep m s0 t) {x1 x2} : Keep m s0 (State.linkState t x1 x2) := by
  unfold State.linkState
  with_reducible repeat' first
    | assumption
    | apply State.put_keep

theorem State.setRaster_keep {m : Bool} {s0 t : State} (h : Keep m s0 t) {x1 x2} : Keep m s0 (State.setRaster t x1 x2) := by
  unfold State.setRaster
  with_reducible repeat' first
    | assumption
    | (apply Keep.upd; first | assumption)

theorem State.setLay_keep {m : Bool} {s0 t : State} (h : Keep m s0 t) {x1 x2 x3} : Keep m s0 (State.setLay t x1 x2 x3) := by
  unfold State.setLay
  with_reducible repeat' first
    | assumption
    | (apply Keep.upd; first | assumption)

theorem State.replaceBufs_keep {m : Bool} {s0 t : State} (h : Keep m s0 t) {x1 x2 x3 x4 x5} : Keep m s0 (State.replaceBufs t x1 x2 x3 x4 x5) := by
  unfold State.replaceBufs
  with_reducible repeat' first
    | assumption
    | apply State.setLay_keep
    | apply Keep.ite
    | intro _

theorem State.modLay_keep {m : Bool} {s0 t : State} (h : Keep m s0 t) {x1 x2 x3} : Keep m s0 (State.modLay t x1 x2 x3) := by
  unfold State.modLay
  with_reducible repeat' first
    | assumption
    | apply State.setLay_keep

theorem State.headReplaces_keep {m : Bool} {s0 t : State} (h : Keep m s0 t) {x1 x2} : Keep m s0 (State.headReplaces t x1 x2) := by
  unfold State.headReplaces
  with_reducible repeat' first
    | assumption
    | apply State.put_keep
    | apply State.replaceBufs_keep
    | apply State.modLay_keep
    | apply Keep.forL
    | intro _

theorem State.jrecOwn_keep {m : Bool} {s0 t : State} (h : Keep m s0 t) {x1 x2 x3 x4} : Keep m s0 (State.jrecOwn t x1 x2 x3 x4) := by
  unfold State.jrecOwn
  with_reducible repeat' first
    | assumption
    | apply State.jrecTo_keep

theorem State.releaseBuf_keep {m : Bool} {s0 t : State} (h : Keep m s0 t) {x1 x2 x3 x4 x5} : Keep m s0 (State.releaseBuf t x1 x2 x3 x4 x5) := by
  unfold State.releaseBuf
  with_reducible repeat' first
    | assumption
    | apply State.jrecOwn_keep
    | apply State.intBit_keep

theorem State.releaseDue_keep {m : Bool} {s0 t : State} (h : Keep m s0 t) {x1 x2 x3 x4} : Keep m s0 (State.releaseDue t x1 x2 x3 x4) := by
  unfold State.releaseDue
  with_reducible repeat' first
    | assumption
    | apply State.setLay_keep
    | apply State.releaseBuf_keep
    | apply Keep.forL
    | intro _

theorem State.setGcore_keep {m : Bool} {s0 t : State} (h : Keep m s0 t) {x1 x2} : Keep m s0 (State.setGcore t x1 x2) := by
  unfold State.setGcore
  with_reducible repeat' first
    | assumption
    | (apply Keep.upd; first | assumption)

theorem State.accrue64_keep {m : Bool} {s0 t : State} (h : Keep m s0 t) {x1 x2 x3} : Keep m s0 (State.accrue64 t x1 x2 x3) := by
  unfold State.accrue64
  with_reducible repeat' first
    | assumption
    | apply State.accrueTo_keep
    | apply Keep.ite
    | apply Keep.forL
    | intro _
    | (apply Keep.upd; first | assumption | apply State.accrueTo_keep | apply Keep.ite | apply Keep.forL | split)
    | split
    | refine Keep.ofPair (by assumption) ?_

theorem State.gcredit_keep {m : Bool} {s0 t : State} (h : Keep m s0 t) {x1} : Keep m s0 (State.gcredit t x1) := by
  unfold State.gcredit
  with_reducible repeat' first
    | assumption
    | apply State.modJob_keep
    | apply State.setGcore_keep
    | apply State.accrue_keep
    | apply State.accrue64_keep
    | apply Keep.ite
    | apply Keep.forL
    | intro _
    | (apply Keep.upd; first | assumption | apply State.modJob_keep | apply State.setGcore_keep
                             | apply State.accrue_keep | apply State.accrue64_keep | apply Keep.ite | apply Keep.forL
                             | split)
    | split
    | refine Keep.ofPair (by assumption) ?_

theorem State.gsettle_keep {m : Bool} {s0 t : State} (h : Keep m s0 t) : Keep m s0 (State.gsettle t) := by
  unfold State.gsettle
  with_reducible repeat' first
    | assumption
    | apply State.gcredit_keep
    | apply Keep.forN
    | intro _

theorem State.gfxHeadOff_keep {m : Bool} {s0 t : State} (h : Keep m s0 t) {x1} : Keep m s0 (State.gfxHeadOff t x1) := by
  unfold State.gfxHeadOff
  with_reducible repeat' first
    | assumption
    | apply State.gsettle_keep
    | apply Keep.ite
    | apply Keep.forL
    | intro _
    | (apply Keep.upd; first | assumption | apply State.gsettle_keep | apply Keep.ite | apply Keep.forL | split)
    | split
    | refine Keep.ofPair (by assumption) ?_

theorem State.reportLat_keep {m : Bool} {s0 t : State} (h : Keep m s0 t) {x1 x2} : Keep m s0 (State.reportLat t x1 x2) := by
  unfold State.reportLat
  with_reducible repeat' first
    | assumption
    | apply State.modDc_keep

theorem State.headReset_keep {m : Bool} {s0 t : State} (h : Keep m s0 t) {x1 x2} : Keep m s0 (State.headReset t x1 x2) := by
  unfold State.headReset
  with_reducible repeat' first
    | assumption
    | apply State.put_keep
    | apply State.linkState_keep
    | apply State.setRaster_keep
    | apply State.headReplaces_keep
    | apply State.releaseDue_keep
    | apply State.gfxHeadOff_keep
    | apply State.reportLat_keep
    | apply Keep.ite
    | apply Keep.forL
    | intro _
    | (apply Keep.upd; first | assumption | apply State.put_keep | apply State.linkState_keep
                             | apply State.setRaster_keep | apply State.headReplaces_keep
                             | apply State.releaseDue_keep | apply State.gfxHeadOff_keep | apply State.reportLat_keep
                             | apply Keep.ite | apply Keep.forL | split)
    | split
    | refine Keep.ofPair (by assumption) ?_

theorem State.layReset_keep {m : Bool} {s0 t : State} (h : Keep m s0 t) {x1 x2 x3} : Keep m s0 (State.layReset t x1 x2 x3) := by
  unfold State.layReset
  with_reducible repeat' first
    | assumption
    | apply State.replaceBufs_keep
    | apply State.setLay_keep
    | apply State.releaseDue_keep

theorem State.setCvu_keep {m : Bool} {s0 t : State} (h : Keep m s0 t) {x1 x2} : Keep m s0 (State.setCvu t x1 x2) := by
  unfold State.setCvu
  with_reducible repeat' first
    | assumption
    | (apply Keep.upd; first | assumption)

theorem State.cvuAbort_keep {m : Bool} {s0 t : State} (h : Keep m s0 t) {x1} : Keep m s0 (State.cvuAbort t x1) := by
  unfold State.cvuAbort
  with_reducible repeat' first
    | assumption
    | apply State.put_keep
    | apply State.setCvu_keep
    | apply State.intBit_keep
    | apply State.stat_keep
    | apply Keep.ite
    | intro _

theorem State.setWb_keep {m : Bool} {s0 t : State} (h : Keep m s0 t) {x1 x2} : Keep m s0 (State.setWb t x1 x2) := by
  unfold State.setWb
  with_reducible repeat' first
    | assumption
    | (apply Keep.upd; first | assumption)

theorem State.modAudio_keep {m : Bool} {s0 t : State} (h : Keep m s0 t) {x1} : Keep m s0 (State.modAudio t x1) := by
  unfold State.modAudio
  with_reducible repeat' first
    | assumption
    | (apply Keep.upd; first | assumption)

theorem State.setAport_keep {m : Bool} {s0 t : State} (h : Keep m s0 t) {x1 x2} : Keep m s0 (State.setAport t x1 x2) := by
  unfold State.setAport
  with_reducible repeat' first
    | assumption
    | apply State.modAudio_keep

theorem State.setConvState_keep {m : Bool} {s0 t : State} (h : Keep m s0 t) {x1 x2} : Keep m s0 (State.setConvState t x1 x2) := by
  unfold State.setConvState
  with_reducible repeat' first
    | assumption
    | apply State.put_keep

theorem State.setConv_keep {m : Bool} {s0 t : State} (h : Keep m s0 t) {x1 x2} : Keep m s0 (State.setConv t x1 x2) := by
  unfold State.setConv
  with_reducible repeat' first
    | assumption
    | apply State.modAudio_keep

theorem State.aportStop_keep {m : Bool} {s0 t : State} (h : Keep m s0 t) {x1} : Keep m s0 (State.aportStop t x1) := by
  unfold State.aportStop
  with_reducible repeat' first
    | assumption
    | apply State.setAport_keep
    | apply State.put_keep
    | apply State.setConvState_keep
    | apply State.setConv_keep
    | apply Keep.forL
    | intro _

theorem State.setHead_keep {m : Bool} {s0 t : State} (h : Keep m s0 t) {x1 x2} : Keep m s0 (State.setHead t x1 x2) := by
  unfold State.setHead
  with_reducible repeat' first
    | assumption
    | (apply Keep.upd; first | assumption)

theorem State.modHead_keep {m : Bool} {s0 t : State} (h : Keep m s0 t) {x1 x2} : Keep m s0 (State.modHead t x1 x2) := by
  unfold State.modHead
  with_reducible repeat' first
    | assumption
    | apply State.setHead_keep

theorem State.granArrives_keep {m : Bool} {s0 t : State} (h : Keep m s0 t) {x1 x2 x3 x4 x5 x6 x7} : Keep m s0 (State.granArrives t x1 x2 x3 x4 x5 x6 x7) := by
  unfold State.granArrives
  with_reducible repeat' first
    | assumption
    | apply State.modLay_keep
    | apply State.modHead_keep
    | apply State.stat64_keep
    | apply Keep.ite
    | intro _

theorem State.fallback_keep {m : Bool} {s0 t : State} (h : Keep m s0 t) {x1 x2 x3 x4 x5 x6 x7} : Keep m s0 (State.fallback t x1 x2 x3 x4 x5 x6 x7) := by
  unfold State.fallback
  with_reducible repeat' first
    | assumption
    | apply State.put_keep
    | apply State.modLay_keep
    | apply State.intBit_keep
    | apply State.intSet_keep
    | apply State.stat_keep
    | apply State.hit_keep
    | apply State.hitAcc_keep
    | apply State.modHead_keep
    | apply State.jrecOwn_keep
    | apply State.jrecTo_keep
    | apply Keep.ite
    | intro _

theorem State.granFails_keep {m : Bool} {s0 t : State} (h : Keep m s0 t) {x1 x2 x3 x4 x5 x6} : Keep m s0 (State.granFails t x1 x2 x3 x4 x5 x6) := by
  unfold State.granFails
  with_reducible repeat' first
    | assumption
    | apply State.fallback_keep
    | split

theorem State.granResult_keep {m : Bool} {s0 t : State} (h : Keep m s0 t) {x1 x2 x3 x4 x5 x6 x7} : Keep m s0 (State.granResult t x1 x2 x3 x4 x5 x6 x7) := by
  unfold State.granResult
  with_reducible repeat' first
    | assumption
    | apply State.modLay_keep
    | apply State.granArrives_keep
    | apply State.granFails_keep
    | intro _
    | split

theorem State.readEnds_keep {m : Bool} {s0 t : State} (h : Keep m s0 t) {x1 x2 x3} : Keep m s0 (State.readEnds t x1 x2 x3) := by
  unfold State.readEnds
  with_reducible repeat' first
    | assumption
    | apply State.modTmb_keep
    | apply State.granResult_keep
    | apply Keep.forL
    | intro _

theorem State.setRole_keep {m : Bool} {s0 t : State} (h : Keep m s0 t) {x1} : Keep m s0 (State.setRole t x1) := by
  unfold State.setRole
  with_reducible repeat' first
    | assumption
    | apply State.put_keep

theorem State.roleCheck_keep {m : Bool} {s0 t : State} (h : Keep m s0 t) {x1} : Keep m s0 (State.roleCheck t x1) := by
  unfold State.roleCheck
  with_reducible repeat' first
    | assumption
    | apply State.hit_keep
    | apply State.setRole_keep
    | apply State.put_keep
    | intro _
    | split

theorem State.mirUpdate_keep {m : Bool} {s0 t : State} (h : Keep m s0 t) : Keep m s0 (State.mirUpdate t) := by
  unfold State.mirUpdate
  with_reducible repeat' first
    | assumption
    | apply State.put_keep
    | apply State.jrec_keep
    | apply Keep.ite
    | apply Keep.forL
    | intro _

theorem State.linkGone_keep {m : Bool} {s0 t : State} (h : Keep m s0 t) {x1} : Keep m s0 (State.linkGone t x1) := by
  unfold State.linkGone
  with_reducible repeat' first
    | assumption
    | apply State.readEnds_keep
    | apply State.modTport_keep
    | apply State.put_keep
    | apply State.roleCheck_keep
    | apply State.mirUpdate_keep
    | apply State.modTmb_keep
    | apply State.reportLat_keep
    | apply Keep.forL
    | intro _
    | split

theorem State.tportStop_keep {m : Bool} {s0 t : State} (h : Keep m s0 t) {x1} : Keep m s0 (State.tportStop t x1) := by
  unfold State.tportStop
  with_reducible repeat' first
    | assumption
    | apply State.put_keep
    | apply State.setTport_keep
    | apply State.linkGone_keep

theorem State.modPad_keep {m : Bool} {s0 t : State} (h : Keep m s0 t) {x1} : Keep m s0 (State.modPad t x1) := by
  unfold State.modPad
  with_reducible repeat' first
    | assumption
    | (apply Keep.upd; first | assumption)

theorem State.modSync_keep {m : Bool} {s0 t : State} (h : Keep m s0 t) {x1} : Keep m s0 (State.modSync t x1) := by
  unfold State.modSync
  with_reducible repeat' first
    | assumption
    | apply State.modPad_keep

theorem State.syncStop_keep {m : Bool} {s0 t : State} (h : Keep m s0 t) : Keep m s0 (State.syncStop t) := by
  unfold State.syncStop
  with_reducible repeat' first
    | assumption
    | apply State.modSync_keep

theorem State.setBc_keep {m : Bool} {s0 t : State} (h : Keep m s0 t) {x1 x2} : Keep m s0 (State.setBc t x1 x2) := by
  unfold State.setBc
  with_reducible repeat' first
    | assumption
    | apply State.modPad_keep

theorem State.bcDrop_keep {m : Bool} {s0 t : State} (h : Keep m s0 t) {x1} : Keep m s0 (State.bcDrop t x1) := by
  unfold State.bcDrop
  with_reducible repeat' first
    | assumption
    | apply State.setBc_keep

theorem State.modXspi_keep {m : Bool} {s0 t : State} (h : Keep m s0 t) {x1} : Keep m s0 (State.modXspi t x1) := by
  unfold State.modXspi
  with_reducible repeat' first
    | assumption
    | apply State.modPad_keep

theorem State.xspiDrop_keep {m : Bool} {s0 t : State} (h : Keep m s0 t) : Keep m s0 (State.xspiDrop t) := by
  unfold State.xspiDrop
  with_reducible repeat' first
    | assumption
    | apply State.modXspi_keep

theorem State.fnReset_keep {m : Bool} {s0 t : State} (h : Keep m s0 t) {x1 x2} : Keep m s0 (State.fnReset t x1 x2) := by
  unfold State.fnReset
  with_reducible repeat' first
    | assumption
    | apply State.wr_keep
    | apply State.put_keep
    | apply Keep.ite
    | intro _
    | (apply Keep.upd; first | assumption | apply State.wr_keep | apply State.put_keep | apply Keep.ite)

theorem resetHook_keep {m : Bool} {s0 t : State} (h : Keep m s0 t) {x0 x1 x2} : Keep m s0 (resetHook x0 x1 x2 t) := by
  unfold resetHook
  with_reducible repeat' first
    | assumption
    | apply State.headReset_keep
    | apply State.layReset_keep
    | apply State.cvuAbort_keep
    | apply State.setWb_keep
    | apply State.put_keep
    | apply State.modAudio_keep
    | apply State.aportStop_keep
    | apply State.modTmb_keep
    | apply State.tportStop_keep
    | apply State.wr_keep
    | apply State.syncStop_keep
    | apply State.bcDrop_keep
    | apply State.xspiDrop_keep
    | apply State.fnReset_keep
    | apply Keep.forL
    | apply Keep.forN
    | intro _
    | (apply Keep.upd; first | assumption | apply State.headReset_keep | apply State.layReset_keep
                             | apply State.cvuAbort_keep | apply State.setWb_keep | apply State.put_keep
                             | apply State.modAudio_keep | apply State.aportStop_keep | apply State.modTmb_keep
                             | apply State.tportStop_keep | apply State.wr_keep | apply State.syncStop_keep
                             | apply State.bcDrop_keep | apply State.xspiDrop_keep | apply State.fnReset_keep
                             | apply Keep.forL | apply Keep.forN | split)
    | split

theorem State.pageReset_keep {m : Bool} {s0 t : State} (h : Keep m s0 t) {x1} : Keep m s0 (State.pageReset t x1) := by
  unfold State.pageReset
  with_reducible repeat' first
    | assumption
    | apply State.setCtl_keep
    | apply State.resetPageRegs_keep
    | apply resetHook_keep
    | (apply Keep.upd; first | assumption | apply State.setCtl_keep | apply State.resetPageRegs_keep
                             | apply resetHook_keep | split)
    | split

theorem State.blockDone_keep {m : Bool} {s0 t : State} (h : Keep m s0 t) {x1 x2} : Keep m s0 (State.blockDone t x1 x2) := by
  unfold State.blockDone
  with_reducible repeat' first
    | assumption
    | apply State.pageReset_keep
    | apply State.put_keep
    | apply State.modCtl_keep
    | apply State.resetRecord_keep
    | apply State.hit_keep
    | intro _
    | split

theorem State.abandonPage_keep {m : Bool} {s0 t : State} (h : Keep m s0 t) {x1} : Keep m s0 (State.abandonPage t x1) := by
  unfold State.abandonPage
  with_reducible repeat' first
    | assumption
    | apply State.blockDone_keep
    | apply State.waitTo_keep
    | split

theorem State.setSlot_keep {m : Bool} {s0 t : State} (h : Keep m s0 t) {x1 x2 x3} : Keep m s0 (State.setSlot t x1 x2 x3) := by
  unfold State.setSlot
  with_reducible repeat' first
    | assumption
    | apply State.wr_keep

theorem State.lastEvent_keep {m : Bool} {s0 t : State} (h : Keep m s0 t) {x1 x2} : Keep m s0 (State.lastEvent t x1 x2) := by
  unfold State.lastEvent
  with_reducible repeat' first
    | assumption
    | apply State.setSlot_keep

theorem State.mergeInto_keep {m : Bool} {s0 t : State} (h : Keep m s0 t) {x1 x2} : Keep m s0 (State.mergeInto t x1 x2) := by
  unfold State.mergeInto
  with_reducible repeat' first
    | assumption
    | apply State.lastEvent_keep
    | apply State.setSlot_keep

theorem State.uncaptured_keep {m : Bool} {s0 t : State} (h : Keep m s0 t) {x1 x2} : Keep m s0 (State.uncaptured t x1 x2) := by
  unfold State.uncaptured
  with_reducible repeat' first
    | assumption
    | apply State.lastEvent_keep
    | apply State.setSlot_keep

theorem State.setValid_keep {m : Bool} {s0 t : State} (h : Keep m s0 t) {x1 x2} : Keep m s0 (State.setValid t x1 x2) := by
  unfold State.setValid
  with_reducible repeat' first
    | assumption
    | apply State.put_keep

theorem State.writeRecord_keep {m : Bool} {s0 t : State} (h : Keep m s0 t) {x1 x2 x3 x4} : Keep m s0 (State.writeRecord t x1 x2 x3 x4) := by
  unfold State.writeRecord
  with_reducible repeat' first
    | assumption
    | apply State.setSlot_keep
    | apply Keep.forN
    | intro _

theorem State.capture475_keep {m : Bool} {s0 t : State} (h : Keep m s0 t) {x1 x2 x3 x4} : Keep m s0 (State.capture475 t x1 x2 x3 x4).1 := by
  unfold State.capture475
  with_reducible repeat' first
    | assumption
    | apply State.stat_keep
    | apply State.mergeInto_keep
    | apply State.uncaptured_keep
    | apply State.setValid_keep
    | apply State.writeRecord_keep
    | apply Keep.ite1
    | intro _

theorem State.writeFF_keep {m : Bool} {s0 t : State} (h : Keep m s0 t) {x1} : Keep m s0 (State.writeFF t x1) := by
  unfold State.writeFF
  with_reducible repeat' first
    | assumption
    | (apply Keep.upd; first | assumption)

theorem State.faultRecord_keep {m : Bool} {s0 t : State} (h : Keep m s0 t) {x1 x2 x3 x4 x5 x6} : Keep m s0 (State.faultRecord t x1 x2 x3 x4 x5 x6) := by
  unfold State.faultRecord
  with_reducible repeat' first
    | assumption
    | apply State.jrec_keep
    | apply Keep.ite
    | intro _

theorem State.setCore_keep {m : Bool} {s0 t : State} (h : Keep m s0 t) {x1 x2} : Keep m s0 (State.setCore t x1 x2) := by
  unfold State.setCore
  with_reducible repeat' first
    | assumption
    | (apply Keep.upd; first | assumption)

theorem State.nmiTrap_keep {m : Bool} {s0 t : State} (h : Keep m s0 t) {x1} : Keep m s0 (State.nmiTrap t x1) := by
  unfold State.nmiTrap
  with_reducible repeat' first
    | assumption
    | apply State.setCore_keep
    | apply State.put_keep
    | apply Keep.ite
    | intro _

theorem State.domAssert_keep {m : Bool} {s0 t : State} (h : Keep m s0 t) {x1 x2 x3 x4} : Keep m s0 (State.domAssert t x1 x2 x3 x4) := by
  unfold State.domAssert
  with_reducible repeat' first
    | assumption
    | apply State.setDom_keep
    | apply State.pageReset_keep
    | apply Keep.forL
    | intro _
    | split

theorem State.coreHalt_keep {m : Bool} {s0 t : State} (h : Keep m s0 t) {x1} : Keep m s0 (State.coreHalt t x1) := by
  unfold State.coreHalt
  with_reducible repeat' first
    | assumption
    | apply State.put_keep

theorem State.endB_keep {m : Bool} {s0 t : State} (h : Keep m s0 t) {x1} : Keep m s0 (State.endB t x1) := by
  unfold State.endB
  with_reducible repeat' first
    | assumption
    | apply State.endReact_keep
    | apply Keep.ite
    | apply Keep.forL
    | intro _
    | (apply Keep.upd; first | assumption | apply State.endReact_keep | apply Keep.ite | apply Keep.forL)

end Sys2Proof.Machine
end

