-- ==== Sys2Proof/Laws/KeepB.lean ====
section
/-! SUPPORT. `Keep` for the operations of the model, callees first (continued). -/

set_option maxRecDepth 4000

namespace Sys2Proof.Machine

theorem State.clearStarts_keep {m : Bool} {s0 t : State} (h : Keep m s0 t) {x1} : Keep m s0 (State.clearStarts t x1) := by
  unfold State.clearStarts
  try dsimp only
  with_reducible repeat' first
    | assumption
    | apply Keep.ite
    | apply Keep.forL
    | apply Keep.forN
    | apply Keep.forL1
    | apply Keep.forN1
    | apply Keep.foldl
    | apply Keep.foldl1
    | intro _
    | (apply Keep.upd; first | assumption | apply Keep.ite | apply Keep.forL | apply Keep.forN | apply Keep.forL1
                             | apply Keep.forN1 | apply Keep.foldl | apply Keep.foldl1 | split)
    | split
    | refine Keep.ofPair (by assumption) ?_

theorem State.setMeas_keep {m : Bool} {s0 t : State} (h : Keep m s0 t) {x1 x2} : Keep m s0 (State.setMeas t x1 x2) := by
  unfold State.setMeas
  with_reducible repeat' first
    | assumption
    | (apply Keep.upd; first | assumption)

theorem State.secureTrigger_keep {m : Bool} {s0 t : State} (h : Keep m s0 t) {x1} : Keep m s0 (State.secureTrigger t x1) := by
  unfold State.secureTrigger
  try dsimp only
  with_reducible repeat' first
    | assumption
    | apply State.coreHalt_keep
    | apply State.hit_keep
    | apply State.endB_keep
    | apply State.put_keep
    | apply State.clearStarts_keep
    | apply State.setMeas_keep
    | apply Keep.ite
    | apply Keep.forL
    | apply Keep.forN
    | apply Keep.forL1
    | apply Keep.forN1
    | apply Keep.foldl
    | apply Keep.foldl1
    | intro _
    | (apply Keep.upd; first | assumption | apply State.coreHalt_keep | apply State.hit_keep | apply State.endB_keep
                             | apply State.put_keep | apply State.clearStarts_keep | apply State.setMeas_keep
                             | apply Keep.ite | apply Keep.forL | apply Keep.forN | apply Keep.forL1
                             | apply Keep.forN1 | apply Keep.foldl | apply Keep.foldl1 | split)
    | split
    | refine Keep.ofPair (by assumption) ?_

theorem State.startB_keep {m : Bool} {s0 t : State} (h : Keep m s0 t) {x1 x2 x3} : Keep m s0 (State.startB t x1 x2 x3) := by
  unfold State.startB
  try dsimp only
  with_reducible repeat' first
    | assumption
    | apply State.endReact_keep
    | apply State.domAssert_keep
    | apply State.coreHalt_keep
    | apply State.secureTrigger_keep
    | apply Keep.ite
    | apply Keep.forL
    | apply Keep.forN
    | apply Keep.forL1
    | apply Keep.forN1
    | apply Keep.foldl
    | apply Keep.foldl1
    | intro _
    | (apply Keep.upd; first | assumption | apply State.endReact_keep | apply State.domAssert_keep
                             | apply State.coreHalt_keep | apply State.secureTrigger_keep | apply Keep.ite
                             | apply Keep.forL | apply Keep.forN | apply Keep.forL1 | apply Keep.forN1
                             | apply Keep.foldl | apply Keep.foldl1 | split)
    | split
    | refine Keep.ofPair (by assumption) ?_

theorem State.otpPut_keep {m : Bool} {s0 t : State} (h : Keep m s0 t) {x1 x2} : Keep m s0 (State.otpPut t x1 x2) := by
  unfold State.otpPut
  with_reducible repeat' first
    | assumption
    | (apply Keep.upd; first | assumption)

theorem State.otpPulse_keep {m : Bool} {s0 t : State} (h : Keep m s0 t) : Keep m s0 (State.otpPulse t) := by
  unfold State.otpPulse
  with_reducible repeat' first
    | assumption
    | apply State.waitTo_keep
    | apply State.otpPut_keep
    | (apply Keep.upd; first | assumption | apply State.waitTo_keep | apply State.otpPut_keep | split)
    | split

theorem State.noteReset_keep {m : Bool} {s0 t : State} (h : Keep m s0 t) {x1 x2} : Keep m s0 (State.noteReset t x1 x2) := by
  unfold State.noteReset
  with_reducible repeat' first
    | assumption
    | (apply Keep.upd; first | assumption)

theorem State.setPort_keep {m : Bool} {s0 t : State} (h : Keep m s0 t) {x1 x2} : Keep m s0 (State.setPort t x1 x2) := by
  unfold State.setPort
  with_reducible repeat' first
    | assumption
    | (apply Keep.upd; first | assumption)

theorem State.inputsOf_keep {m : Bool} {s0 t : State} (h : Keep m s0 t) {x1} : Keep m s0 (State.inputsOf t x1) := by
  unfold State.inputsOf
  with_reducible repeat' first
    | assumption
    | apply State.modPad_keep
    | apply State.setPort_keep
    | apply State.put_keep
    | apply Keep.forN
    | intro _

theorem State.coldBase_keep {m : Bool} {s0 t : State} (hm : m = true) (h : Keep m s0 t) : Keep m s0 (State.coldBase t) :=
  h.trans ⟨rfl, (fun w => ⟨rfl, rfl, rfl, rfl, w.2.2.2.2⟩), Keep.no hm⟩

theorem State.coldState_keep {m : Bool} {s0 t : State} (hm : m = true) (h : Keep m s0 t) : Keep m s0 (State.coldState t) := by
  unfold State.coldState
  with_reducible repeat' first
    | assumption
    | apply State.inputsOf_keep
    | apply State.coldBase_keep hm
    | apply Keep.ite
    | apply Keep.forL
    | intro _
    | (apply Keep.upd; first | assumption | apply State.inputsOf_keep | apply State.coldBase_keep hm | apply Keep.ite
                             | apply Keep.forL | split)
    | split
    | refine Keep.ofPair (by assumption) ?_

theorem State.warmBase_keep {m : Bool} {s0 t : State} (hm : m = true) (h : Keep m s0 t) : Keep m s0 (State.warmBase t) :=
  h.trans ⟨rfl, (fun w => ⟨amWfFrom_filter _ _ _ _ w.1, w.2⟩), Keep.no hm⟩

theorem State.sweptAll_keep {m : Bool} {s0 t : State} (h : Keep m s0 t) : Keep m s0 (State.sweptAll t) := by
  unfold State.sweptAll
  with_reducible repeat' first
    | assumption
    | apply State.wr_keep
    | apply State.put_keep
    | apply Keep.forN
    | intro _

theorem State.warmState_keep {m : Bool} {s0 t : State} (hm : m = true) (h : Keep m s0 t) : Keep m s0 (State.warmState t) := by
  unfold State.warmState
  with_reducible repeat' first
    | assumption
    | apply State.put_keep
    | apply State.warmBase_keep hm
    | apply State.setClockOk_keep
    | apply State.setRole_keep
    | apply State.inputsOf_keep
    | apply State.sweptAll_keep
    | apply Keep.ite
    | apply Keep.forL
    | intro _
    | (apply Keep.upd; first | assumption | apply State.put_keep | apply State.warmBase_keep hm
                             | apply State.setClockOk_keep | apply State.setRole_keep | apply State.inputsOf_keep
                             | apply State.sweptAll_keep | apply Keep.ite | apply Keep.forL | split)
    | split
    | refine Keep.ofPair (by assumption) ?_

theorem State.chipAssert_keep {m : Bool} {s0 t : State} (hm : m = true) (h : Keep m s0 t) {x1 x2} : Keep m s0 (State.chipAssert t x1 x2) := by
  unfold State.chipAssert
  with_reducible repeat' first
    | assumption
    | apply State.otpPulse_keep
    | apply State.noteReset_keep
    | apply State.coldState_keep hm
    | apply State.warmState_keep hm
    | apply State.put_keep
    | apply Keep.ite
    | apply Keep.forL
    | intro _
    | (apply Keep.upd; first | assumption | apply State.otpPulse_keep | apply State.noteReset_keep
                             | apply State.coldState_keep hm | apply State.warmState_keep hm | apply State.put_keep
                             | apply Keep.ite | apply Keep.forL | split)
    | split
    | refine Keep.ofPair (by assumption) ?_

theorem State.sourceActs_keep {m : Bool} {s0 t : State} (hm : m = true) (h : Keep m s0 t) {x1 x2 x3} : Keep m s0 (State.sourceActs t x1 x2 x3) := by
  unfold State.sourceActs
  with_reducible repeat' first
    | assumption
    | apply State.put_keep
    | apply State.domAssert_keep
    | apply State.chipAssert_keep hm
    | apply Keep.ite
    | apply Keep.forL
    | intro _
    | (apply Keep.upd; first | assumption | apply State.put_keep | apply State.domAssert_keep
                             | apply State.chipAssert_keep hm | apply Keep.ite | apply Keep.forL | split)
    | split
    | refine Keep.ofPair (by assumption) ?_

theorem State.startReactions_keep {m : Bool} {s0 t : State} (hm : m = true) (h : Keep m s0 t) {x1 x2 x3 x4} : Keep m s0 (State.startReactions t x1 x2 x3 x4) := by
  unfold State.startReactions
  with_reducible repeat' first
    | assumption
    | apply State.put_keep
    | apply State.intBit_keep
    | apply State.nmiTrap_keep
    | apply State.endReact_keep
    | apply State.startB_keep
    | apply State.sourceActs_keep hm
    | apply Keep.ite
    | apply Keep.forL
    | intro _
    | (apply Keep.upd; first | assumption | apply State.put_keep | apply State.intBit_keep | apply State.nmiTrap_keep
                             | apply State.endReact_keep | apply State.startB_keep | apply State.sourceActs_keep hm
                             | apply Keep.ite | apply Keep.forL | split)
    | split
    | refine Keep.ofPair (by assumption) ?_

theorem State.acceptEvent_keep {m : Bool} {s0 t : State} (hm : m = true) (h : Keep m s0 t) : Keep m s0 (State.acceptEvent t) := by
  unfold State.acceptEvent
  with_reducible repeat' first
    | assumption
    | apply State.setAggr_keep
    | apply State.put_keep
    | apply State.stat_keep
    | apply State.mergeInto_keep
    | apply State.capture475_keep
    | apply State.setActive_keep
    | apply State.setSlot_keep
    | apply State.writeFF_keep
    | apply State.faultRecord_keep
    | apply State.startReactions_keep hm
    | apply State.waitTo_keep
    | apply Keep.ite
    | apply Keep.ite1
    | apply Keep.forL
    | intro _
    | (apply Keep.upd; first | assumption | apply State.setAggr_keep | apply State.put_keep | apply State.stat_keep
                             | apply State.mergeInto_keep | apply State.capture475_keep | apply State.setActive_keep
                             | apply State.setSlot_keep | apply State.writeFF_keep | apply State.faultRecord_keep
                             | apply State.startReactions_keep hm | apply State.waitTo_keep | apply Keep.ite
                             | apply Keep.ite1 | apply Keep.forL | split)
    | split
    | refine Keep.ofPair (by assumption) ?_

theorem State.sourceAt_keep {m : Bool} {s0 t : State} (h : Keep m s0 t) {x1 x2} : Keep m s0 (State.sourceAt t x1 x2) := by
  unfold State.sourceAt
  with_reducible repeat' first
    | assumption
    | (apply Keep.upd; first | assumption)

theorem State.ringSettle_keep {m : Bool} {s0 t : State} (h : Keep m s0 t) {x1} : Keep m s0 (State.ringSettle t x1) := by
  unfold State.ringSettle
  with_reducible repeat' first
    | assumption
    | apply State.accrue_keep
    | apply Keep.ite
    | apply Keep.forL
    | intro _
    | (apply Keep.upd; first | assumption | apply State.accrue_keep | apply Keep.ite | apply Keep.forL | split)
    | split
    | refine Keep.ofPair (by assumption) ?_

theorem State.periodSettle_keep {m : Bool} {s0 t : State} (h : Keep m s0 t) : Keep m s0 (State.periodSettle t) := by
  unfold State.periodSettle
  with_reducible repeat' first
    | assumption
    | apply State.chanSettle_keep
    | apply State.gsettle_keep
    | apply State.ringSettle_keep
    | apply Keep.forN
    | intro _

theorem State.gfxPeriod_keep {m : Bool} {s0 t : State} (h : Keep m s0 t) : Keep m s0 (State.gfxPeriod t) := by
  unfold State.gfxPeriod
  with_reducible repeat' first
    | assumption
    | apply State.gsettle_keep
    | (apply Keep.upd; first | assumption | apply State.gsettle_keep)

theorem State.ringPut_keep {m : Bool} {s0 t : State} (h : Keep m s0 t) {x1 x2 x3} : Keep m s0 (State.ringPut t x1 x2 x3) := by
  unfold State.ringPut
  with_reducible repeat' first
    | assumption
    | apply State.put_keep

theorem State.setRing_keep {m : Bool} {s0 t : State} (h : Keep m s0 t) {x1 x2} : Keep m s0 (State.setRing t x1 x2) := by
  unfold State.setRing
  with_reducible repeat' first
    | assumption
    | (apply Keep.upd; first | assumption)

theorem State.ringStart_keep {m : Bool} {s0 t : State} (h : Keep m s0 t) {x1} : Keep m s0 (State.ringStart t x1) := by
  unfold State.ringStart
  with_reducible repeat' first
    | assumption
    | apply State.ringPut_keep
    | apply State.setRing_keep
    | apply Keep.ite
    | intro _

theorem State.ringStop_keep {m : Bool} {s0 t : State} (h : Keep m s0 t) {x1} : Keep m s0 (State.ringStop t x1) := by
  unfold State.ringStop
  with_reducible repeat' first
    | assumption
    | apply State.setRing_keep
    | apply Keep.ite
    | intro _

theorem State.ringApply_keep {m : Bool} {s0 t : State} (h : Keep m s0 t) {x1} : Keep m s0 (State.ringApply t x1) := by
  unfold State.ringApply
  with_reducible repeat' first
    | assumption
    | apply State.ringStart_keep
    | apply State.ringStop_keep
    | apply Keep.ite
    | apply Keep.forL
    | intro _

theorem State.rasterOff_keep {m : Bool} {s0 t : State} (h : Keep m s0 t) {x1} : Keep m s0 (State.rasterOff t x1) := by
  unfold State.rasterOff
  with_reducible repeat' first
    | assumption
    | apply State.setRaster_keep
    | apply State.linkState_keep
    | apply State.put_keep
    | apply State.reportLat_keep
    | apply State.modHead_keep
    | apply Keep.forL
    | intro _

theorem State.headStop_keep {m : Bool} {s0 t : State} (h : Keep m s0 t) {x1} : Keep m s0 (State.headStop t x1) := by
  unfold State.headStop
  with_reducible repeat' first
    | assumption
    | apply State.gfxHeadOff_keep
    | apply State.put_keep
    | apply State.headReplaces_keep
    | apply State.rasterOff_keep

theorem State.layStop_keep {m : Bool} {s0 t : State} (h : Keep m s0 t) {x1 x2} : Keep m s0 (State.layStop t x1 x2) := by
  unfold State.layStop
  with_reducible repeat' first
    | assumption
    | apply State.put_keep
    | apply State.replaceBufs_keep
    | apply State.modLay_keep

theorem State.setPanel_keep {m : Bool} {s0 t : State} (h : Keep m s0 t) {x1 x2} : Keep m s0 (State.setPanel t x1 x2) := by
  unfold State.setPanel
  with_reducible repeat' first
    | assumption
    | (apply Keep.upd; first | assumption)

theorem State.modPanel_keep {m : Bool} {s0 t : State} (h : Keep m s0 t) {x1 x2} : Keep m s0 (State.modPanel t x1 x2) := by
  unfold State.modPanel
  with_reducible repeat' first
    | assumption
    | apply State.setPanel_keep

theorem State.panelStop_keep {m : Bool} {s0 t : State} (h : Keep m s0 t) {x1} : Keep m s0 (State.panelStop t x1) := by
  unfold State.panelStop
  with_reducible repeat' first
    | assumption
    | apply State.modPanel_keep
    | apply State.wr_keep

theorem State.swapOff_keep {m : Bool} {s0 t : State} (h : Keep m s0 t) : Keep m s0 (State.swapOff t) := by
  unfold State.swapOff
  with_reducible repeat' first
    | assumption
    | apply State.modAudio_keep
    | apply State.put_keep

theorem State.withdraw_keep {m : Bool} {s0 t : State} (h : Keep m s0 t) {x1} : Keep m s0 (State.withdraw t x1) := by
  unfold State.withdraw
  with_reducible repeat' first
    | assumption
    | apply State.modCtl_keep

theorem State.aengStop_keep {m : Bool} {s0 t : State} (h : Keep m s0 t) : Keep m s0 (State.aengStop t) := by
  unfold State.aengStop
  with_reducible repeat' first
    | assumption
    | apply State.reportLat_keep
    | apply State.put_keep
    | apply State.swapOff_keep
    | apply State.withdraw_keep
    | apply Keep.ite
    | intro _

theorem State.globalStop_keep {m : Bool} {s0 t : State} (h : Keep m s0 t) : Keep m s0 (State.globalStop t) := by
  unfold State.globalStop
  with_reducible repeat' first
    | assumption
    | apply State.put_keep
    | apply State.modDc_keep

theorem State.modBc_keep {m : Bool} {s0 t : State} (h : Keep m s0 t) {x1 x2} : Keep m s0 (State.modBc t x1 x2) := by
  unfold State.modBc
  with_reducible repeat' first
    | assumption
    | apply State.setBc_keep

theorem State.bcApply_keep {m : Bool} {s0 t : State} (h : Keep m s0 t) {x1} : Keep m s0 (State.bcApply t x1) := by
  unfold State.bcApply
  with_reducible repeat' first
    | assumption
    | apply State.bcDrop_keep
    | apply State.modBc_keep
    | apply Keep.ite
    | apply Keep.forL
    | intro _

theorem State.chanStop_keep {m : Bool} {s0 t : State} (h : Keep m s0 t) {x1} : Keep m s0 (State.chanStop t x1) := by
  unfold State.chanStop
  with_reducible repeat' first
    | assumption
    | apply State.setDchan_keep
    | apply State.put_keep

theorem State.setHch_keep {m : Bool} {s0 t : State} (h : Keep m s0 t) {x1 x2} : Keep m s0 (State.setHch t x1 x2) := by
  unfold State.setHch
  with_reducible repeat' first
    | assumption
    | (apply Keep.upd; first | assumption)

theorem State.modHch_keep {m : Bool} {s0 t : State} (h : Keep m s0 t) {x1 x2} : Keep m s0 (State.modHch t x1 x2) := by
  unfold State.modHch
  with_reducible repeat' first
    | assumption
    | apply State.setHch_keep

theorem State.hchClear_keep {m : Bool} {s0 t : State} (h : Keep m s0 t) {x1} : Keep m s0 (State.hchClear t x1) := by
  unfold State.hchClear
  with_reducible repeat' first
    | assumption
    | apply State.put_keep
    | apply State.modHch_keep
    | apply Keep.ite
    | apply Keep.forL
    | intro _
    | (apply Keep.upd; first | assumption | apply State.put_keep | apply State.modHch_keep | apply Keep.ite
                             | apply Keep.forL | split)
    | split
    | refine Keep.ofPair (by assumption) ?_

theorem State.trigDrop_keep {m : Bool} {s0 t : State} (h : Keep m s0 t) {x1} : Keep m s0 (State.trigDrop t x1) := by
  unfold State.trigDrop
  with_reducible repeat' first
    | assumption
    | apply State.intBit_keep
    | apply State.statTo_keep
    | apply Keep.ite
    | apply Keep.forL
    | intro _
    | (apply Keep.upd; first | assumption | apply State.intBit_keep | apply State.statTo_keep | apply Keep.ite
                             | apply Keep.forL | split)
    | split
    | refine Keep.ofPair (by assumption) ?_

theorem State.trigsLost_keep {m : Bool} {s0 t : State} (h : Keep m s0 t) {x1} : Keep m s0 (State.trigsLost t x1) := by
  unfold State.trigsLost
  with_reducible repeat' first
    | assumption
    | apply State.trigDrop_keep
    | apply State.modHch_keep
    | apply Keep.ite
    | apply Keep.forL
    | intro _

theorem State.effectEnd_keep {m : Bool} {s0 t : State} (h : Keep m s0 t) {x1 x2} : Keep m s0 (State.effectEnd t x1 x2) := by
  unfold State.effectEnd
  with_reducible repeat' first
    | assumption
    | apply State.modHch_keep
    | apply State.intBit_keep
    | apply State.wr_keep
    | apply State.jrecOwn_keep
    | split

theorem State.hchStop_keep {m : Bool} {s0 t : State} (h : Keep m s0 t) {x1} : Keep m s0 (State.hchStop t x1) := by
  unfold State.hchStop
  with_reducible repeat' first
    | assumption
    | apply State.wr_keep
    | apply State.hchClear_keep
    | apply State.trigsLost_keep
    | apply State.effectEnd_keep
    | apply Keep.ite
    | apply Keep.forL
    | intro _
    | (apply Keep.upd; first | assumption | apply State.wr_keep | apply State.hchClear_keep
                             | apply State.trigsLost_keep | apply State.effectEnd_keep | apply Keep.ite
                             | apply Keep.forL | split)
    | split
    | refine Keep.ofPair (by assumption) ?_

theorem State.setHpt_keep {m : Bool} {s0 t : State} (h : Keep m s0 t) {x1 x2} : Keep m s0 (State.setHpt t x1 x2) := by
  unfold State.setHpt
  with_reducible repeat' first
    | assumption
    | (apply Keep.upd; first | assumption)

theorem State.dequeue_keep {m : Bool} {s0 t : State} (h : Keep m s0 t) {x1} : Keep m s0 (State.dequeue t x1) := by
  unfold State.dequeue
  with_reducible repeat' first
    | assumption
    | apply State.put_keep
    | apply State.modHch_keep

theorem State.portEnds_keep {m : Bool} {s0 t : State} (h : Keep m s0 t) {x1} : Keep m s0 (State.portEnds t x1) := by
  unfold State.portEnds
  with_reducible repeat' first
    | assumption
    | apply State.dequeue_keep
    | apply State.effectEnd_keep
    | apply Keep.forL
    | intro _

theorem State.hptStop_keep {m : Bool} {s0 t : State} (h : Keep m s0 t) {x1} : Keep m s0 (State.hptStop t x1) := by
  unfold State.hptStop
  with_reducible repeat' first
    | assumption
    | apply State.put_keep
    | apply State.setHpt_keep
    | apply State.portEnds_keep

theorem stopHook_keep {m : Bool} {s0 t : State} (h : Keep m s0 t) {x0 x1 x2} : Keep m s0 (stopHook x0 x1 x2 t) := by
  unfold stopHook
  with_reducible repeat' first
    | assumption
    | apply State.ringApply_keep
    | apply State.cvuAbort_keep
    | apply State.headStop_keep
    | apply State.layStop_keep
    | apply State.setWb_keep
    | apply State.linkState_keep
    | apply State.panelStop_keep
    | apply State.aengStop_keep
    | apply State.globalStop_keep
    | apply State.syncStop_keep
    | apply State.bcApply_keep
    | apply State.xspiDrop_keep
    | apply State.tportStop_keep
    | apply State.mirUpdate_keep
    | apply State.chanStop_keep
    | apply State.swapOff_keep
    | apply State.aportStop_keep
    | apply State.hchStop_keep
    | apply State.hptStop_keep
    | split

theorem State.stopBlock_keep {m : Bool} {s0 t : State} (h : Keep m s0 t) {x1 x2} : Keep m s0 (State.stopBlock t x1 x2) := by
  unfold State.stopBlock
  with_reducible repeat' first
    | assumption
    | apply State.modCtl_keep
    | apply stopHook_keep
    | apply State.put_keep
    | split

theorem State.stamp_keep {m : Bool} {s0 t : State} (h : Keep m s0 t) {x1 x2 x3} : Keep m s0 (State.stamp t x1 x2 x3) := by
  unfold State.stamp
  with_reducible repeat' first
    | assumption
    | apply State.put64_keep

theorem State.openPeriod_keep {m : Bool} {s0 t : State} (h : Keep m s0 t) {x1 x2} : Keep m s0 (State.openPeriod t x1 x2) := by
  unfold State.openPeriod
  with_reducible repeat' first
    | assumption
    | apply State.wr_keep
    | apply State.modCtl_keep
    | apply State.put_keep
    | apply Keep.forN
    | intro _
    | (apply Keep.upd; first | assumption | apply State.wr_keep | apply State.modCtl_keep | apply State.put_keep
                             | apply Keep.forN)

theorem State.spWrite_keep {m : Bool} {s0 t : State} (hm : m = true) (h : Keep m s0 t) {x1 x2 x3 x4 x5} : Keep m s0 (State.spWrite t x1 x2 x3 x4 x5).1 := by
  unfold State.spWrite
  split
  · exact State.mwrite_keep hm h
  · split
    · exact h.trans ⟨rfl, (fun ⟨a, b, c, d, e⟩ => ⟨a, b, c, d, memPutList_wf _ _ _ e⟩), Keep.no hm⟩
    · exact h

theorem State.jWrite_keep {m : Bool} {s0 t : State} (hm : m = true) (h : Keep m s0 t) {x1 x2 x3} : Keep m s0 (State.jWrite t x1 x2 x3).1 := by
  unfold State.jWrite
  with_reducible repeat' first
    | assumption
    | apply State.spWrite_keep hm
    | apply Keep.ite
    | apply Keep.ite1
    | apply Keep.forL
    | intro _
    | (apply Keep.upd; first | assumption | apply State.spWrite_keep hm | apply Keep.ite | apply Keep.ite1
                             | apply Keep.forL | split)
    | split
    | refine Keep.ofPair (by assumption) ?_

theorem State.jHeader_keep {m : Bool} {s0 t : State} (hm : m = true) (h : Keep m s0 t) {x1} : Keep m s0 (State.jHeader t x1) := by
  unfold State.jHeader
  with_reducible repeat' first
    | assumption
    | apply State.put_keep
    | apply State.jWrite_keep hm
    | apply Keep.ite
    | apply Keep.ite1
    | apply Keep.forL
    | intro _
    | (apply Keep.upd; first | assumption | apply State.put_keep | apply State.jWrite_keep hm | apply Keep.ite
                             | apply Keep.ite1 | apply Keep.forL | split)
    | split
    | refine Keep.ofPair (by assumption) ?_

theorem State.jBoot_keep {m : Bool} {s0 t : State} (h : Keep m s0 t) {x1 x2 x3 x4} : Keep m s0 (State.jBoot t x1 x2 x3 x4) := by
  unfold State.jBoot
  with_reducible repeat' first
    | assumption
    | apply State.jrec_keep
    | apply Keep.ite
    | intro _
    | (apply Keep.upd; first | assumption | apply State.jrec_keep | apply Keep.ite)

theorem State.tenJournal_keep {m : Bool} {s0 t : State} (hm : m = true) (h : Keep m s0 t) {x1} : Keep m s0 (State.tenJournal t x1) := by
  unfold State.tenJournal
  with_reducible repeat' first
    | assumption
    | apply State.jHeader_keep hm
    | apply State.jBoot_keep
    | apply Keep.ite
    | apply Keep.forL
    | intro _
    | (apply Keep.upd; first | assumption | apply State.jHeader_keep hm | apply State.jBoot_keep | apply Keep.ite
                             | apply Keep.forL | split)
    | split
    | refine Keep.ofPair (by assumption) ?_

theorem State.bucketRestart_keep {m : Bool} {s0 t : State} (h : Keep m s0 t) {x1} : Keep m s0 (State.bucketRestart t x1) := by
  unfold State.bucketRestart
  with_reducible repeat' first
    | assumption
    | apply State.put_keep
    | apply Keep.forN
    | intro _
    | (apply Keep.upd; first | assumption | apply State.put_keep | apply Keep.forN)

theorem State.gfxRetime_keep {m : Bool} {s0 t : State} (h : Keep m s0 t) {x1} : Keep m s0 (State.gfxRetime t x1) := by
  unfold State.gfxRetime
  with_reducible repeat' first
    | assumption
    | (apply Keep.upd; first | assumption)

theorem State.headStart_keep {m : Bool} {s0 t : State} (h : Keep m s0 t) {x1 x2} : Keep m s0 (State.headStart t x1 x2) := by
  unfold State.headStart
  with_reducible repeat' first
    | assumption
    | apply State.setRaster_keep
    | apply State.put_keep
    | apply State.gfxRetime_keep
    | apply State.modHead_keep
    | apply Keep.ite
    | apply Keep.forL
    | intro _
    | (apply Keep.upd; first | assumption | apply State.setRaster_keep | apply State.put_keep
                             | apply State.gfxRetime_keep | apply State.modHead_keep | apply Keep.ite
                             | apply Keep.forL | split)
    | split
    | refine Keep.ofPair (by assumption) ?_

theorem State.laySteps_keep {m : Bool} {s0 t : State} (h : Keep m s0 t) {x1 x2} : Keep m s0 (State.laySteps t x1 x2) := by
  unfold State.laySteps
  with_reducible repeat' first
    | assumption
    | apply State.put_keep
    | apply Keep.ite
    | intro _

theorem State.layStart_keep {m : Bool} {s0 t : State} (h : Keep m s0 t) {x1 x2} : Keep m s0 (State.layStart t x1 x2) := by
  unfold State.layStart
  with_reducible repeat' first
    | assumption
    | apply State.intBit_keep
    | apply State.put_keep
    | apply State.laySteps_keep
    | apply State.modLay_keep
    | apply Keep.ite
    | intro _

theorem State.panelStart_keep {m : Bool} {s0 t : State} (h : Keep m s0 t) {x1 x2} : Keep m s0 (State.panelStart t x1 x2) := by
  unfold State.panelStart
  with_reducible repeat' first
    | assumption
    | apply State.wr_keep
    | apply State.put_keep
    | apply State.modPanel_keep

theorem State.setPlayer_keep {m : Bool} {s0 t : State} (h : Keep m s0 t) {x1 x2} : Keep m s0 (State.setPlayer t x1 x2) := by
  unfold State.setPlayer
  with_reducible repeat' first
    | assumption
    | apply State.modAudio_keep

theorem State.preload_keep {m : Bool} {s0 t : State} (h : Keep m s0 t) {x1} : Keep m s0 (State.preload t x1) := by
  unfold State.preload
  with_reducible repeat' first
    | assumption
    | apply State.put_keep
    | apply State.setPlayer_keep

theorem State.aengStart_keep {m : Bool} {s0 t : State} (h : Keep m s0 t) {x1} : Keep m s0 (State.aengStart t x1) := by
  unfold State.aengStart
  with_reducible repeat' first
    | assumption
    | apply State.put_keep
    | apply State.modAudio_keep
    | apply State.preload_keep
    | apply Keep.forL
    | intro _
    | (apply Keep.upd; first | assumption | apply State.put_keep | apply State.modAudio_keep
                             | apply State.preload_keep | apply Keep.forL)

theorem State.sweepTake_keep {m : Bool} {s0 t : State} (h : Keep m s0 t) {x1} : Keep m s0 (State.sweepTake t x1) := by
  unfold State.sweepTake
  with_reducible repeat' first
    | assumption
    | apply State.inc_keep
    | apply State.modDc_keep
    | apply State.put_keep
    | apply Keep.ite
    | intro _

theorem State.sweepFill_keep {m : Bool} {s0 t : State} (h : Keep m s0 t) : Keep m s0 (State.sweepFill t) := by
  unfold State.sweepFill
  with_reducible repeat' first
    | assumption
    | apply State.sweepTake_keep
    | apply Keep.forN
    | intro _
    | split

theorem State.globalStart_keep {m : Bool} {s0 t : State} (h : Keep m s0 t) {x1} : Keep m s0 (State.globalStart t x1) := by
  unfold State.globalStart
  with_reducible repeat' first
    | assumption
    | apply State.modDc_keep
    | apply State.sweepFill_keep
    | apply State.put_keep
    | apply Keep.ite
    | intro _

theorem State.syncStart_keep {m : Bool} {s0 t : State} (h : Keep m s0 t) {x1} : Keep m s0 (State.syncStart t x1) := by
  unfold State.syncStart
  with_reducible repeat' first
    | assumption
    | apply State.modSync_keep
    | apply Keep.ite
    | intro _

theorem State.tportStart_keep {m : Bool} {s0 t : State} (h : Keep m s0 t) {x1} : Keep m s0 (State.tportStart t x1) := by
  unfold State.tportStart
  with_reducible repeat' first
    | assumption
    | apply State.modTport_keep

theorem State.chanStart_keep {m : Bool} {s0 t : State} (h : Keep m s0 t) {x1} : Keep m s0 (State.chanStart t x1) := by
  unfold State.chanStart
  with_reducible repeat' first
    | assumption
    | apply State.put_keep
    | apply State.modDc_keep
    | apply State.setDchan_keep

theorem State.convStart_keep {m : Bool} {s0 t : State} (h : Keep m s0 t) {x1} : Keep m s0 (State.convStart t x1) := by
  unfold State.convStart
  with_reducible repeat' first
    | assumption
    | apply State.setConvState_keep
    | apply State.setConv_keep
    | apply State.put_keep
    | apply Keep.ite
    | apply Keep.forL
    | intro _

theorem State.aportStart_keep {m : Bool} {s0 t : State} (h : Keep m s0 t) {x1 x2} : Keep m s0 (State.aportStart t x1 x2) := by
  unfold State.aportStart
  with_reducible repeat' first
    | assumption
    | apply State.setAport_keep
    | apply State.put_keep
    | apply State.convStart_keep

theorem State.hchStart_keep {m : Bool} {s0 t : State} (h : Keep m s0 t) {x1} : Keep m s0 (State.hchStart t x1) := by
  unfold State.hchStart
  with_reducible repeat' first
    | assumption
    | apply State.hchClear_keep
    | apply State.wr_keep
    | apply Keep.ite
    | apply Keep.forL
    | intro _
    | (apply Keep.upd; first | assumption | apply State.hchClear_keep | apply State.wr_keep | apply Keep.ite
                             | apply Keep.forL | split)
    | split
    | refine Keep.ofPair (by assumption) ?_

theorem State.modHpt_keep {m : Bool} {s0 t : State} (h : Keep m s0 t) {x1 x2} : Keep m s0 (State.modHpt t x1 x2) := by
  unfold State.modHpt
  with_reducible repeat' first
    | assumption
    | apply State.setHpt_keep

theorem State.hptRestart_keep {m : Bool} {s0 t : State} (h : Keep m s0 t) {x1} : Keep m s0 (State.hptRestart t x1) := by
  unfold State.hptRestart
  with_reducible repeat' first
    | assumption
    | apply State.portEnds_keep
    | apply State.stat_keep
    | apply State.put_keep
    | apply State.modHpt_keep
    | apply Keep.ite
    | intro _

theorem State.hptStart_keep {m : Bool} {s0 t : State} (h : Keep m s0 t) {x1 x2} : Keep m s0 (State.hptStart t x1 x2) := by
  unfold State.hptStart
  with_reducible repeat' first
    | assumption
    | apply State.setHpt_keep
    | apply State.put_keep
    | apply State.hptRestart_keep

theorem startHook_keep {m : Bool} {s0 t : State} (hm : m = true) (h : Keep m s0 t) {x0 x1 x2} : Keep m s0 (startHook x0 x1 x2 t) := by
  unfold startHook
  with_reducible repeat' first
    | assumption
    | apply State.ringApply_keep
    | apply State.tenJournal_keep hm
    | apply State.put_keep
    | apply State.bucketRestart_keep
    | apply State.headStart_keep
    | apply State.layStart_keep
    | apply State.panelStart_keep
    | apply State.aengStart_keep
    | apply State.globalStart_keep
    | apply State.syncStart_keep
    | apply State.bcApply_keep
    | apply State.modTmb_keep
    | apply State.tportStart_keep
    | apply State.mirUpdate_keep
    | apply State.chanStart_keep
    | apply State.aportStart_keep
    | apply State.hchStart_keep
    | apply State.hptStart_keep
    | apply Keep.ite
    | apply Keep.forL
    | apply Keep.forN
    | intro _
    | (apply Keep.upd; first | assumption | apply State.ringApply_keep | apply State.tenJournal_keep hm
                             | apply State.put_keep | apply State.bucketRestart_keep | apply State.headStart_keep
                             | apply State.layStart_keep | apply State.panelStart_keep | apply State.aengStart_keep
                             | apply State.globalStart_keep | apply State.syncStart_keep | apply State.bcApply_keep
                             | apply State.modTmb_keep | apply State.tportStart_keep | apply State.mirUpdate_keep
                             | apply State.chanStart_keep | apply State.aportStart_keep | apply State.hchStart_keep
                             | apply State.hptStart_keep | apply Keep.ite | apply Keep.forL | apply Keep.forN | split)
    | split
    | refine Keep.ofPair (by assumption) ?_

theorem State.startBlock_keep {m : Bool} {s0 t : State} (hm : m = true) (h : Keep m s0 t) {x1 x2} : Keep m s0 (State.startBlock t x1 x2) := by
  unfold State.startBlock
  with_reducible repeat' first
    | assumption
    | apply State.put_keep
    | apply State.stamp_keep
    | apply State.openPeriod_keep
    | apply State.modCtl_keep
    | apply startHook_keep hm
    | apply State.intBit_keep
    | apply Keep.ite
    | apply Keep.forL
    | intro _
    | (apply Keep.upd; first | assumption | apply State.put_keep | apply State.stamp_keep
                             | apply State.openPeriod_keep | apply State.modCtl_keep | apply startHook_keep hm
                             | apply State.intBit_keep | apply Keep.ite | apply Keep.forL | split)
    | split
    | refine Keep.ofPair (by assumption) ?_

theorem State.applyDue_keep {m : Bool} {s0 t : State} (hm : m = true) (h : Keep m s0 t) {x1 x2} : Keep m s0 (State.applyDue t x1 x2) := by
  unfold State.applyDue
  with_reducible repeat' first
    | assumption
    | apply State.stopBlock_keep
    | apply State.startBlock_keep hm
    | apply Keep.ite
    | apply Keep.forL
    | intro _
    | (apply Keep.upd; first | assumption | apply State.stopBlock_keep | apply State.startBlock_keep hm
                             | apply Keep.ite | apply Keep.forL | split)
    | split
    | refine Keep.ofPair (by assumption) ?_

theorem State.copySc_keep {m : Bool} {s0 t : State} (h : Keep m s0 t) {x1 x2} : Keep m s0 (State.copySc t x1 x2) := by
  unfold State.copySc
  with_reducible repeat' first
    | assumption
    | apply State.wr_keep
    | apply Keep.forL
    | intro _
    | split

theorem State.periodSrcNew_keep {m : Bool} {s0 t : State} (h : Keep m s0 t) {x1 x2 x3} : Keep m s0 (State.periodSrcNew t x1 x2 x3) := by
  unfold State.periodSrcNew
  with_reducible repeat' first
    | assumption
    | apply State.modCtl_keep
    | apply Keep.ite
    | intro _

theorem State.commitRecord_keep {m : Bool} {s0 t : State} (h : Keep m s0 t) {x1 x2 x3 x4 x5 x6} : Keep m s0 (State.commitRecord t x1 x2 x3 x4 x5 x6) := by
  unfold State.commitRecord
  with_reducible repeat' first
    | assumption
    | apply State.jrecOwn_keep

theorem State.shareRecord_keep {m : Bool} {s0 t : State} (h : Keep m s0 t) {x1 x2} : Keep m s0 (State.shareRecord t x1 x2) := by
  unfold State.shareRecord
  with_reducible repeat' first
    | assumption
    | apply State.jrec_keep

theorem State.tenApply_keep {m : Bool} {s0 t : State} (hm : m = true) (h : Keep m s0 t) {x1 x2 x3} : Keep m s0 (State.tenApply t x1 x2 x3) := by
  unfold State.tenApply
  with_reducible repeat' first
    | assumption
    | apply State.shareRecord_keep
    | apply State.tenJournal_keep hm
    | apply Keep.ite
    | apply Keep.forL
    | intro _
    | (apply Keep.upd; first | assumption | apply State.shareRecord_keep | apply State.tenJournal_keep hm
                             | apply Keep.ite | apply Keep.forL | split)
    | split
    | refine Keep.ofPair (by assumption) ?_

theorem State.setFence_keep {m : Bool} {s0 t : State} (h : Keep m s0 t) {x1 x2} : Keep m s0 (State.setFence t x1 x2) := by
  unfold State.setFence
  with_reducible repeat' first
    | assumption
    | (apply Keep.upd; first | assumption)

theorem State.fenceMirror_keep {m : Bool} {s0 t : State} (hm : m = true) (h : Keep m s0 t) {x1} : Keep m s0 (State.fenceMirror t x1) := by
  unfold State.fenceMirror
  with_reducible repeat' first
    | assumption
    | apply State.spWrite_keep hm
    | apply State.stat_keep
    | apply Keep.ite
    | apply Keep.ite1
    | apply Keep.forL
    | intro _
    | (apply Keep.upd; first | assumption | apply State.spWrite_keep hm | apply State.stat_keep | apply Keep.ite
                             | apply Keep.ite1 | apply Keep.forL | split)
    | split
    | refine Keep.ofPair (by assumption) ?_

theorem State.fenceApply_keep {m : Bool} {s0 t : State} (hm : m = true) (h : Keep m s0 t) : Keep m s0 (State.fenceApply t) := by
  unfold State.fenceApply
  with_reducible repeat' first
    | assumption
    | apply State.setFence_keep
    | apply State.fenceMirror_keep hm
    | apply Keep.ite
    | apply Keep.forL
    | intro _
    | (apply Keep.upd; first | assumption | apply State.setFence_keep | apply State.fenceMirror_keep hm
                             | apply Keep.ite | apply Keep.forL | split)
    | split
    | refine Keep.ofPair (by assumption) ?_

theorem State.allocApply_keep {m : Bool} {s0 t : State} (h : Keep m s0 t) {x1} : Keep m s0 (State.allocApply t x1) := by
  unfold State.allocApply
  with_reducible repeat' first
    | assumption
    | apply State.put_keep
    | apply Keep.forN
    | intro _
    | (apply Keep.upd; first | assumption | apply State.put_keep | apply Keep.forN | split)
    | split

theorem State.maskEnd_keep {m : Bool} {s0 t : State} (hm : m = true) (h : Keep m s0 t) {x1} : Keep m s0 (State.maskEnd t x1) := by
  unfold State.maskEnd
  with_reducible repeat' first
    | assumption
    | apply State.l2Clean_keep hm
    | apply Keep.ite
    | apply Keep.ite1
    | apply Keep.forL
    | intro _
    | (apply Keep.upd; first | assumption | apply State.l2Clean_keep hm | apply Keep.ite | apply Keep.ite1
                             | apply Keep.forL | split)
    | split
    | refine Keep.ofPair (by assumption) ?_

theorem State.maskApply_keep {m : Bool} {s0 t : State} (hm : m = true) (h : Keep m s0 t) {x1} : Keep m s0 (State.maskApply t x1) := by
  unfold State.maskApply
  with_reducible repeat' first
    | assumption
    | apply State.maskEnd_keep hm
    | apply Keep.ite
    | apply Keep.forL
    | apply Keep.forN
    | intro _
    | (apply Keep.upd; first | assumption | apply State.maskEnd_keep hm | apply Keep.ite | apply Keep.forL
                             | apply Keep.forN | split)
    | split
    | refine Keep.ofPair (by assumption) ?_

theorem State.followersFree_keep {m : Bool} {s0 t : State} (h : Keep m s0 t) {x1} : Keep m s0 (State.followersFree t x1) := by
  unfold State.followersFree
  with_reducible repeat' first
    | assumption
    | apply State.intBit_keep
    | apply State.put_keep
    | apply Keep.ite
    | apply Keep.forL
    | intro _

theorem State.headApply_keep {m : Bool} {s0 t : State} (h : Keep m s0 t) {x1 x2} : Keep m s0 (State.headApply t x1 x2) := by
  unfold State.headApply
  with_reducible repeat' first
    | assumption
    | apply State.setRaster_keep
    | apply State.followersFree_keep
    | apply State.gfxRetime_keep
    | apply Keep.ite
    | intro _

theorem State.layApply_keep {m : Bool} {s0 t : State} (h : Keep m s0 t) {x1 x2 x3} : Keep m s0 (State.layApply t x1 x2 x3) := by
  unfold State.layApply
  with_reducible repeat' first
    | assumption
    | apply State.replaceBufs_keep
    | apply State.laySteps_keep
    | apply State.modLay_keep
    | apply Keep.ite
    | intro _

theorem State.setPanelState_keep {m : Bool} {s0 t : State} (h : Keep m s0 t) {x1 x2} : Keep m s0 (State.setPanelState t x1 x2) := by
  unfold State.setPanelState
  with_reducible repeat' first
    | assumption
    | apply State.put_keep

theorem State.panelRestart_keep {m : Bool} {s0 t : State} (h : Keep m s0 t) {x1 x2 x3} : Keep m s0 (State.panelRestart t x1 x2 x3) := by
  unfold State.panelRestart
  with_reducible repeat' first
    | assumption
    | apply State.put_keep
    | apply State.setPanelState_keep
    | apply State.stat_keep
    | apply State.modPanel_keep

theorem State.panelApply_keep {m : Bool} {s0 t : State} (h : Keep m s0 t) {x1 x2 x3} : Keep m s0 (State.panelApply t x1 x2 x3) := by
  unfold State.panelApply
  with_reducible repeat' first
    | assumption
    | apply State.put_keep
    | apply State.panelRestart_keep
    | apply Keep.ite
    | intro _

theorem State.hptApply_keep {m : Bool} {s0 t : State} (h : Keep m s0 t) {x1 x2} : Keep m s0 (State.hptApply t x1 x2) := by
  unfold State.hptApply
  with_reducible repeat' first
    | assumption
    | apply State.hptRestart_keep
    | apply Keep.ite
    | intro _

theorem State.reflexApply_keep {m : Bool} {s0 t : State} (h : Keep m s0 t) : Keep m s0 (State.reflexApply t) := by
  unfold State.reflexApply
  with_reducible repeat' first
    | assumption
    | (apply Keep.upd; first | assumption)

theorem State.aengApply_keep {m : Bool} {s0 t : State} (h : Keep m s0 t) {x1} : Keep m s0 (State.aengApply t x1) := by
  unfold State.aengApply
  with_reducible repeat' first
    | assumption
    | apply State.preload_keep
    | apply Keep.ite
    | apply Keep.forL
    | intro _

theorem State.aportApply_keep {m : Bool} {s0 t : State} (h : Keep m s0 t) {x1 x2 x3} : Keep m s0 (State.aportApply t x1 x2 x3) := by
  unfold State.aportApply
  with_reducible repeat' first
    | assumption
    | apply State.convStart_keep
    | apply State.setAport_keep
    | apply State.put_keep
    | apply Keep.ite
    | intro _

theorem applyHook_keep {m : Bool} {s0 t : State} (hm : m = true) (h : Keep m s0 t) {x0 x1 x2 x3} : Keep m s0 (applyHook x0 x1 x2 x3 t) := by
  unfold applyHook
  with_reducible repeat' first
    | assumption
    | apply State.ringApply_keep
    | apply State.tenApply_keep hm
    | apply State.fenceApply_keep hm
    | apply State.allocApply_keep
    | apply State.maskApply_keep hm
    | apply State.headApply_keep
    | apply State.layApply_keep
    | apply State.panelApply_keep
    | apply State.hptApply_keep
    | apply State.reflexApply_keep
    | apply State.mirUpdate_keep
    | apply State.bcApply_keep
    | apply State.aengApply_keep
    | apply State.aportApply_keep
    | apply State.bucketRestart_keep
    | apply Keep.ite
    | apply Keep.forL
    | intro _
    | (apply Keep.upd; first | assumption | apply State.ringApply_keep | apply State.tenApply_keep hm
                             | apply State.fenceApply_keep hm | apply State.allocApply_keep
                             | apply State.maskApply_keep hm | apply State.headApply_keep | apply State.layApply_keep
                             | apply State.panelApply_keep | apply State.hptApply_keep | apply State.reflexApply_keep
                             | apply State.mirUpdate_keep | apply State.bcApply_keep | apply State.aengApply_keep
                             | apply State.aportApply_keep | apply State.bucketRestart_keep | apply Keep.ite
                             | apply Keep.forL | split)
    | split
    | refine Keep.ofPair (by assumption) ?_

theorem State.applyImage_keep {m : Bool} {s0 t : State} (hm : m = true) (h : Keep m s0 t) {x1 x2 x3 x4} : Keep m s0 (State.applyImage t x1 x2 x3 x4) := by
  unfold State.applyImage
  with_reducible repeat' first
    | assumption
    | apply State.copySc_keep
    | apply State.modCtl_keep
    | apply State.intBit_keep
    | apply State.periodSrcNew_keep
    | apply State.stamp_keep
    | apply State.commitRecord_keep
    | apply applyHook_keep hm
    | apply Keep.ite
    | apply Keep.forL
    | intro _
    | (apply Keep.upd; first | assumption | apply State.copySc_keep | apply State.modCtl_keep
                             | apply State.intBit_keep | apply State.periodSrcNew_keep | apply State.stamp_keep
                             | apply State.commitRecord_keep | apply applyHook_keep hm | apply Keep.ite
                             | apply Keep.forL | split)
    | split
    | refine Keep.ofPair (by assumption) ?_

theorem State.applyArmed_keep {m : Bool} {s0 t : State} (hm : m = true) (h : Keep m s0 t) {x1 x2 x3} : Keep m s0 (State.applyArmed t x1 x2 x3) := by
  unfold State.applyArmed
  with_reducible repeat' first
    | assumption
    | apply State.applyImage_keep hm
    | apply Keep.ite
    | apply Keep.forL
    | intro _
    | (apply Keep.upd; first | assumption | apply State.applyImage_keep hm | apply Keep.ite | apply Keep.forL | split)
    | split
    | refine Keep.ofPair (by assumption) ?_

theorem State.applyPoint_keep {m : Bool} {s0 t : State} (hm : m = true) (h : Keep m s0 t) {x1 x2 x3} : Keep m s0 (State.applyPoint t x1 x2 x3) := by
  unfold State.applyPoint
  with_reducible repeat' first
    | assumption
    | apply State.applyDue_keep hm
    | apply State.applyArmed_keep hm
    | apply Keep.ite
    | apply Keep.forL
    | intro _
    | (apply Keep.upd; first | assumption | apply State.applyDue_keep hm | apply State.applyArmed_keep hm
                             | apply Keep.ite | apply Keep.forL | split)
    | split
    | refine Keep.ofPair (by assumption) ?_

theorem State.acctAt_keep {m : Bool} {s0 t : State} (hm : m = true) (h : Keep m s0 t) {x1 x2} : Keep m s0 (State.acctAt t x1 x2) := by
  unfold State.acctAt
  with_reducible repeat' first
    | assumption
    | apply State.inc_keep
    | apply State.sourceAt_keep
    | apply State.periodSettle_keep
    | apply State.put64_keep
    | apply State.gfxPeriod_keep
    | apply State.applyPoint_keep hm
    | apply State.modDc_keep
    | apply Keep.ite
    | apply Keep.forL
    | intro _
    | (apply Keep.upd; first | assumption | apply State.inc_keep | apply State.sourceAt_keep
                             | apply State.periodSettle_keep | apply State.put64_keep | apply State.gfxPeriod_keep
                             | apply State.applyPoint_keep hm | apply State.modDc_keep | apply Keep.ite
                             | apply Keep.forL | split)
    | split
    | refine Keep.ofPair (by assumption) ?_

theorem State.acctBoundary_keep {m : Bool} {s0 t : State} (hm : m = true) (h : Keep m s0 t) : Keep m s0 (State.acctBoundary t) := by
  unfold State.acctBoundary
  with_reducible repeat' first
    | assumption
    | apply State.waitTo_keep
    | apply State.acctAt_keep hm
    | apply Keep.ite
    | apply Keep.forL
    | intro _
    | (apply Keep.upd; first | assumption | apply State.waitTo_keep | apply State.acctAt_keep hm | apply Keep.ite
                             | apply Keep.forL | split)
    | split
    | refine Keep.ofPair (by assumption) ?_

theorem State.setContacts_keep {m : Bool} {s0 t : State} (h : Keep m s0 t) {x1 x2} : Keep m s0 (State.setContacts t x1 x2) := by
  unfold State.setContacts
  with_reducible repeat' first
    | assumption
    | apply State.put_keep
    | apply State.modPanel_keep

theorem State.acquire_keep {m : Bool} {s0 t : State} (h : Keep m s0 t) {x1} : Keep m s0 (State.acquire t x1) := by
  unfold State.acquire
  with_reducible repeat' first
    | assumption
    | apply State.setContacts_keep
    | apply State.put_keep
    | apply State.setPanelState_keep
    | apply State.modPanel_keep

theorem State.freeBytes_keep {m : Bool} {s0 t : State} (h : Keep m s0 t) {x1 x2} : Keep m s0 (State.freeBytes t x1 x2).1 := by
  induction x1 generalizing t x2 with
  | zero =>
    unfold State.freeBytes
    with_reducible repeat' first
      | assumption
      | apply ih
      | apply State.tookFree_keep
  | succ n ih =>
    unfold State.freeBytes
    with_reducible repeat' first
      | assumption
      | apply ih
      | apply State.tookFree_keep

theorem State.reference_keep {m : Bool} {s0 t : State} (h : Keep m s0 t) {x1 x2} : Keep m s0 (State.reference t x1 x2).1 := by
  unfold State.reference
  try dsimp only
  with_reducible repeat' first
    | assumption
    | apply State.mread_keep
    | apply State.freeBytes_keep
    | apply Keep.ite
    | apply Keep.ite1
    | apply Keep.forL
    | intro _
    | (apply Keep.upd; first | assumption | apply State.mread_keep | apply State.freeBytes_keep | apply Keep.ite
                             | apply Keep.ite1 | apply Keep.forL | split)
    | split
    | refine Keep.ofPair (by assumption) ?_

theorem State.suspects_keep {m : Bool} {s0 t : State} (h : Keep m s0 t) {x1} : Keep m s0 (State.suspects t x1) := by
  unfold State.suspects
  with_reducible repeat' first
    | assumption
    | apply State.put_keep

theorem State.acquireFrame_keep {m : Bool} {s0 t : State} (h : Keep m s0 t) {x1 x2} : Keep m s0 (State.acquireFrame t x1 x2) := by
  unfold State.acquireFrame
  with_reducible repeat' first
    | assumption
    | apply State.modPanel_keep
    | apply State.reference_keep
    | apply State.intBit_keep
    | apply State.setPanelState_keep
    | apply State.suspects_keep
    | apply Keep.ite
    | apply Keep.ite1
    | apply Keep.forL
    | intro _
    | (apply Keep.upd; first | assumption | apply State.modPanel_keep | apply State.reference_keep
                             | apply State.intBit_keep | apply State.setPanelState_keep | apply State.suspects_keep
                             | apply Keep.ite | apply Keep.ite1 | apply Keep.forL | split)
    | split
    | refine Keep.ofPair (by assumption) ?_

theorem State.showPlay_keep {m : Bool} {s0 t : State} (h : Keep m s0 t) {x1} : Keep m s0 (State.showPlay t x1) := by
  unfold State.showPlay
  with_reducible repeat' first
    | assumption
    | apply State.put_keep
    | split

theorem State.brakeStat_keep {m : Bool} {s0 t : State} (h : Keep m s0 t) {x1 x2 x3} : Keep m s0 (State.brakeStat t x1 x2 x3) := by
  unfold State.brakeStat
  with_reducible repeat' first
    | assumption
    | apply State.stat_keep
    | apply Keep.ite
    | intro _

theorem State.advance_keep {m : Bool} {s0 t : State} (h : Keep m s0 t) {x1 x2} : Keep m s0 (State.advance t x1 x2) := by
  unfold State.advance
  with_reducible repeat' first
    | assumption
    | apply State.modHch_keep
    | apply State.showPlay_keep
    | apply State.brakeStat_keep
    | apply State.effectEnd_keep
    | (apply Keep.upd; first | assumption | apply State.modHch_keep | apply State.showPlay_keep
                             | apply State.brakeStat_keep | apply State.effectEnd_keep | split)
    | split

theorem State.aer_keep {m : Bool} {s0 t : State} (h : Keep m s0 t) {x1 x2 x3 x4} : Keep m s0 (State.aer t x1 x2 x3 x4) := by
  unfold State.aer
  with_reducible repeat' first
    | assumption
    | apply State.wr_keep
    | apply State.hit_keep
    | apply State.intBit_keep
    | apply State.stat_keep
    | apply Keep.forN
    | intro _
    | split

theorem State.aerEvent_keep {m : Bool} {s0 t : State} (h : Keep m s0 t) {x1 x2 x3} : Keep m s0 (State.aerEvent t x1 x2 x3) := by
  unfold State.aerEvent
  with_reducible repeat' first
    | assumption
    | apply State.aer_keep
    | apply State.stat_keep
    | apply Keep.ite
    | intro _

theorem State.agePromote_keep {m : Bool} {s0 t : State} (h : Keep m s0 t) {x1} : Keep m s0 (State.agePromote t x1) := by
  unfold State.agePromote
  with_reducible repeat' first
    | assumption
    | apply State.waitTo_keep
    | apply State.stat_keep
    | apply State.modDc_keep
    | (apply Keep.upd; first | assumption | apply State.waitTo_keep | apply State.stat_keep | apply State.modDc_keep
                             | split)
    | split

theorem State.syncStep_keep {m : Bool} {s0 t : State} (h : Keep m s0 t) : Keep m s0 (State.syncStep t) := by
  unfold State.syncStep
  with_reducible repeat' first
    | assumption
    | apply State.modSync_keep
    | apply Keep.ite
    | apply Keep.forL
    | intro _
    | (apply Keep.upd; first | assumption | apply State.modSync_keep | apply Keep.ite | apply Keep.forL | split)
    | split
    | refine Keep.ofPair (by assumption) ?_

theorem State.syncCarry_keep {m : Bool} {s0 t : State} (h : Keep m s0 t) {x1} : Keep m s0 (State.syncCarry t x1) := by
  unfold State.syncCarry
  with_reducible repeat' first
    | assumption
    | apply State.modSync_keep
    | apply Keep.ite
    | apply Keep.forL
    | intro _
    | (apply Keep.upd; first | assumption | apply State.modSync_keep | apply Keep.ite | apply Keep.forL | split)
    | split
    | refine Keep.ofPair (by assumption) ?_

theorem State.rasterShift_keep {m : Bool} {s0 t : State} (h : Keep m s0 t) {x1 x2} : Keep m s0 (State.rasterShift t x1 x2) := by
  unfold State.rasterShift
  with_reducible repeat' first
    | assumption
    | apply State.setRaster_keep

theorem State.rasterCarry_keep {m : Bool} {s0 t : State} (h : Keep m s0 t) {x1} : Keep m s0 (State.rasterCarry t x1) := by
  unfold State.rasterCarry
  with_reducible repeat' first
    | assumption
    | apply State.rasterShift_keep
    | apply Keep.ite
    | apply Keep.forL
    | intro _

theorem State.stepBack_keep {m : Bool} {s0 t : State} (h : Keep m s0 t) : Keep m s0 (State.stepBack t) := by
  unfold State.stepBack
  with_reducible repeat' first
    | assumption
    | apply Keep.ite
    | apply Keep.forL
    | intro _
    | (apply Keep.upd; first | assumption | apply Keep.ite | apply Keep.forL | split)
    | split
    | refine Keep.ofPair (by assumption) ?_

theorem State.thymeStep_keep {m : Bool} {s0 t : State} (hm : m = true) (h : Keep m s0 t) {x1} : Keep m s0 (State.thymeStep t x1) := by
  unfold State.thymeStep
  with_reducible repeat' first
    | assumption
    | apply State.put64_keep
    | apply State.inc_keep
    | apply State.jrec_keep
    | apply State.syncStep_keep
    | apply State.syncCarry_keep
    | apply State.rasterCarry_keep
    | apply State.stepBack_keep
    | apply State.acctAt_keep hm
    | apply Keep.ite
    | apply Keep.forL
    | intro _
    | (apply Keep.upd; first | assumption | apply State.put64_keep | apply State.inc_keep | apply State.jrec_keep
                             | apply State.syncStep_keep | apply State.syncCarry_keep | apply State.rasterCarry_keep
                             | apply State.stepBack_keep | apply State.acctAt_keep hm | apply Keep.ite
                             | apply Keep.forL | split)
    | split
    | refine Keep.ofPair (by assumption) ?_

theorem State.align_keep {m : Bool} {s0 t : State} (hm : m = true) (h : Keep m s0 t) {x1 x2 x3 x4 x5} : Keep m s0 (State.align t x1 x2 x3 x4 x5) := by
  unfold State.align
  with_reducible repeat' first
    | assumption
    | apply State.wr_keep
    | apply State.modTport_keep
    | apply State.put_keep
    | apply State.hit_keep
    | apply State.thymeStep_keep hm
    | apply State.setRole_keep
    | apply Keep.ite
    | apply Keep.forL
    | intro _
    | (apply Keep.upd; first | assumption | apply State.wr_keep | apply State.modTport_keep | apply State.put_keep
                             | apply State.hit_keep | apply State.thymeStep_keep hm | apply State.setRole_keep
                             | apply Keep.ite | apply Keep.forL | split)
    | split
    | refine Keep.ofPair (by assumption) ?_

theorem State.aliveToggle_keep {m : Bool} {s0 t : State} (h : Keep m s0 t) : Keep m s0 (State.aliveToggle t) := by
  unfold State.aliveToggle
  with_reducible repeat' first
    | assumption
    | apply State.waitTo_keep
    | apply Keep.ite
    | intro _

theorem State.aportCount_keep {m : Bool} {s0 t : State} (h : Keep m s0 t) {x1} : Keep m s0 (State.aportCount t x1) := by
  unfold State.aportCount
  with_reducible repeat' first
    | assumption
    | apply State.stat_keep
    | apply State.inc_keep

theorem State.aportRec_keep {m : Bool} {s0 t : State} (h : Keep m s0 t) {x1 x2 x3} : Keep m s0 (State.aportRec t x1 x2 x3) := by
  unfold State.aportRec
  with_reducible repeat' first
    | assumption
    | apply State.jrecOwn_keep

theorem State.aportSend_keep {m : Bool} {s0 t : State} (h : Keep m s0 t) {x1 x2} : Keep m s0 (State.aportSend t x1 x2) := by
  unfold State.aportSend
  with_reducible repeat' first
    | assumption
    | apply State.setAport_keep
    | apply State.put_keep
    | apply Keep.ite
    | intro _

theorem State.aportWake_keep {m : Bool} {s0 t : State} (h : Keep m s0 t) {x1} : Keep m s0 (State.aportWake t x1) := by
  unfold State.aportWake
  with_reducible repeat' first
    | assumption
    | apply State.setAport_keep
    | apply State.put_keep
    | apply State.setConv_keep
    | apply Keep.ite
    | apply Keep.forL
    | intro _

theorem State.applyBase_keep {m : Bool} {s0 t : State} (h : Keep m s0 t) : Keep m s0 (State.applyBase t) := by
  unfold State.applyBase
  with_reducible repeat' first
    | assumption
    | apply State.put_keep
    | apply State.setRole_keep
    | apply Keep.ite
    | apply Keep.forN
    | intro _

theorem State.tchRec_keep {m : Bool} {s0 t : State} (h : Keep m s0 t) {x1 x2 x3 x4} : Keep m s0 (State.tchRec t x1 x2 x3 x4) := by
  unfold State.tchRec
  with_reducible repeat' first
    | assumption
    | apply State.jrecOwn_keep

theorem State.triggered_keep {m : Bool} {s0 t : State} (h : Keep m s0 t) : Keep m s0 (State.triggered t) := by
  unfold State.triggered
  with_reducible repeat' first
    | assumption
    | (apply Keep.upd; first | assumption)

theorem State.standbyExit_keep {m : Bool} {s0 t : State} (h : Keep m s0 t) : Keep m s0 (State.standbyExit t) := by
  unfold State.standbyExit
  with_reducible repeat' first
    | assumption
    | apply State.put_keep
    | (apply Keep.upd; first | assumption | apply State.put_keep)

theorem State.wake_keep {m : Bool} {s0 t : State} (h : Keep m s0 t) : Keep m s0 (State.wake t) := by
  unfold State.wake
  with_reducible repeat' first
    | assumption
    | apply State.triggered_keep
    | apply State.standbyExit_keep
    | intro _
    | (apply Keep.upd; first | assumption | apply State.triggered_keep | apply State.standbyExit_keep | split)
    | split

theorem State.approach_keep {m : Bool} {s0 t : State} (h : Keep m s0 t) {x1 x2 x3 x4} : Keep m s0 (State.approach t x1 x2 x3 x4) := by
  unfold State.approach
  with_reducible repeat' first
    | assumption
    | apply State.tchRec_keep
    | apply State.intBit_keep
    | apply State.modPanel_keep
    | apply State.setPanelState_keep
    | apply State.wake_keep
    | apply Keep.ite
    | intro _

theorem State.checkStart_keep {m : Bool} {s0 t : State} (h : Keep m s0 t) {x1} : Keep m s0 (State.checkStart t x1) := by
  unfold State.checkStart
  with_reducible repeat' first
    | assumption
    | apply State.inc_keep

theorem State.writeCheck_keep {m : Bool} {s0 t : State} (h : Keep m s0 t) {x1 x2} : Keep m s0 (State.writeCheck t x1 x2) := by
  unfold State.writeCheck
  with_reducible repeat' first
    | assumption
    | apply State.put_keep

theorem State.autoPage_keep {m : Bool} {s0 t : State} (hm : m = true) (h : Keep m s0 t) {x1 x2 x3 x4} : Keep m s0 (State.autoPage t x1 x2 x3 x4) := by
  unfold State.autoPage
  with_reducible repeat' first
    | assumption
    | apply State.checkStart_keep
    | apply State.modHead_keep
    | apply State.stat_keep
    | apply State.applyImage_keep hm
    | apply State.modCtl_keep
    | apply State.intSet_keep
    | apply State.writeCheck_keep
    | apply State.commitRecord_keep
    | apply Keep.ite
    | apply Keep.forL
    | intro _
    | (apply Keep.upd; first | assumption | apply State.checkStart_keep | apply State.modHead_keep
                             | apply State.stat_keep | apply State.applyImage_keep hm | apply State.modCtl_keep
                             | apply State.intSet_keep | apply State.writeCheck_keep | apply State.commitRecord_keep
                             | apply Keep.ite | apply Keep.forL | split)
    | split
    | refine Keep.ofPair (by assumption) ?_

theorem State.arbitrate_keep {m : Bool} {s0 t : State} (hm : m = true) (h : Keep m s0 t) {x1 x2 x3} : Keep m s0 (State.arbitrate t x1 x2 x3) := by
  unfold State.arbitrate
  with_reducible repeat' first
    | assumption
    | apply State.applyArmed_keep hm
    | apply State.modHead_keep
    | apply State.stat_keep
    | apply State.applyDue_keep hm
    | apply State.autoPage_keep hm
    | apply Keep.ite
    | apply Keep.forL
    | intro _
    | (apply Keep.upd; first | assumption | apply State.applyArmed_keep hm | apply State.modHead_keep
                             | apply State.stat_keep | apply State.applyDue_keep hm | apply State.autoPage_keep hm
                             | apply Keep.ite | apply Keep.forL | split)
    | split
    | refine Keep.ofPair (by assumption) ?_

theorem State.rowInit_keep {m : Bool} {s0 t : State} (hm : m = true) (h : Keep m s0 t) {x1 x2 x3 x4 x5 x6 x7 x8} : Keep m s0 (State.rowInit t x1 x2 x3 x4 x5 x6 x7 x8).1 := by
  unfold State.rowInit
  with_reducible repeat' first
    | assumption
    | apply State.gread_keep hm
    | apply State.freeBytes_keep
    | apply Keep.ite
    | apply Keep.ite1
    | apply Keep.forL
    | intro _
    | (apply Keep.upd; first | assumption | apply State.gread_keep hm | apply State.freeBytes_keep | apply Keep.ite
                             | apply Keep.ite1 | apply Keep.forL | split)
    | split
    | refine Keep.ofPair (by assumption) ?_

theorem State.areaInit_keep {m : Bool} {s0 t : State} (hm : m = true) (h : Keep m s0 t) {x1 x2 x3 x4 x5} : Keep m s0 (State.areaInit t x1 x2 x3 x4 x5).1 := by
  unfold State.areaInit
  with_reducible repeat' first
    | assumption
    | apply State.rowInit_keep hm
    | apply Keep.ite
    | apply Keep.ite1
    | apply Keep.forL
    | apply Keep.forL1
    | intro _
    | (apply Keep.upd; first | assumption | apply State.rowInit_keep hm | apply Keep.ite | apply Keep.ite1
                             | apply Keep.forL | apply Keep.forL1 | split)
    | split
    | refine Keep.ofPair (by assumption) ?_

theorem State.holdTrigger_keep {m : Bool} {s0 t : State} (h : Keep m s0 t) {x1 x2 x3} : Keep m s0 (State.holdTrigger t x1 x2 x3) := by
  unfold State.holdTrigger
  with_reducible repeat' first
    | assumption
    | apply State.modHead_keep

theorem State.arm_keep {m : Bool} {s0 t : State} (h : Keep m s0 t) {x1 x2 x3} : Keep m s0 (State.arm t x1 x2 x3) := by
  unfold State.arm
  with_reducible repeat' first
    | assumption
    | apply State.commitRecord_keep
    | apply State.holdTrigger_keep
    | apply State.put_keep
    | apply State.modCtl_keep
    | intro _
    | split

theorem State.askGrans_keep {m : Bool} {s0 t : State} (h : Keep m s0 t) {x1 x2 x3 x4 x5 x6} : Keep m s0 (State.askGrans t x1 x2 x3 x4 x5 x6) := by
  unfold State.askGrans
  with_reducible repeat' first
    | assumption
    | apply State.granResult_keep
    | apply State.judge_keep
    | apply State.tSend_keep
    | apply State.modTmb_keep
    | apply Keep.forL
    | intro _
    | (apply Keep.upd; first | assumption | apply State.granResult_keep | apply State.judge_keep
                             | apply State.tSend_keep | apply State.modTmb_keep | apply Keep.forL | split)
    | split
    | refine Keep.ofPair (by assumption) ?_

theorem State.asrcRead_keep {m : Bool} {s0 t : State} (h : Keep m s0 t) : Keep m s0 (State.asrcRead t).1 := by
  unfold State.asrcRead
  with_reducible repeat' first
    | assumption
    | apply State.put_keep

theorem State.setBank_keep {m : Bool} {s0 t : State} (h : Keep m s0 t) {x1 x2} : Keep m s0 (State.setBank t x1 x2) := by
  unfold State.setBank
  with_reducible repeat' first
    | assumption
    | (apply Keep.upd; first | assumption)

theorem State.auditAbandon_keep {m : Bool} {s0 t : State} (h : Keep m s0 t) : Keep m s0 (State.auditAbandon t) := by
  unfold State.auditAbandon
  try dsimp only
  with_reducible repeat' first
    | assumption
    | apply State.setBank_keep
    | apply State.put_keep
    | apply State.inc_keep
    | apply Keep.ite
    | apply Keep.forL
    | apply Keep.forN
    | apply Keep.forL1
    | apply Keep.forN1
    | apply Keep.foldl
    | apply Keep.foldl1
    | intro _
    | (apply Keep.upd; first | assumption | apply State.setBank_keep | apply State.put_keep | apply State.inc_keep
                             | apply Keep.ite | apply Keep.forL | apply Keep.forN | apply Keep.forL1
                             | apply Keep.forN1 | apply Keep.foldl | apply Keep.foldl1 | split)
    | split
    | refine Keep.ofPair (by assumption) ?_

theorem State.auditBank_keep {m : Bool} {s0 t : State} (h : Keep m s0 t) {x1} : Keep m s0 (State.auditBank t x1) := by
  unfold State.auditBank
  with_reducible repeat' first
    | assumption
    | apply State.put_keep
    | apply State.setBank_keep
    | apply Keep.ite
    | intro _

theorem State.auditStart_keep {m : Bool} {s0 t : State} (h : Keep m s0 t) : Keep m s0 (State.auditStart t) := by
  unfold State.auditStart
  with_reducible repeat' first
    | assumption
    | apply State.auditBank_keep
    | (apply Keep.upd; first | assumption | apply State.auditBank_keep)

theorem State.auditDue_keep {m : Bool} {s0 t : State} (h : Keep m s0 t) : Keep m s0 (State.auditDue t) := by
  unfold State.auditDue
  with_reducible repeat' first
    | assumption
    | apply State.waitTo_keep
    | apply State.auditStart_keep
    | apply Keep.ite
    | intro _
    | (apply Keep.upd; first | assumption | apply State.waitTo_keep | apply State.auditStart_keep | apply Keep.ite)

theorem State.auditWord_keep {m : Bool} {s0 t : State} (hm : m = true) (h : Keep m s0 t) {x1} : Keep m s0 (State.auditWord t x1) := by
  unfold State.auditWord
  with_reducible repeat' first
    | assumption
    | apply State.stat_keep
    | apply State.poolPut_keep hm
    | apply State.poolUe_keep
    | apply State.poolCe_keep
    | apply Keep.ite
    | apply Keep.forL
    | intro _
    | (apply Keep.upd; first | assumption | apply State.stat_keep | apply State.poolPut_keep hm
                             | apply State.poolUe_keep | apply State.poolCe_keep | apply Keep.ite | apply Keep.forL
                             | split)
    | split
    | refine Keep.ofPair (by assumption) ?_

theorem State.auditPass_keep {m : Bool} {s0 t : State} (hm : m = true) (h : Keep m s0 t) : Keep m s0 (State.auditPass t) := by
  unfold State.auditPass
  try dsimp only
  with_reducible repeat' first
    | assumption
    | apply State.auditAbandon_keep
    | apply State.setBank_keep
    | apply State.auditWord_keep hm
    | apply State.auditBank_keep
    | apply State.put_keep
    | apply State.inc_keep
    | apply State.auditStart_keep
    | apply Keep.ite
    | apply Keep.forL
    | apply Keep.forN
    | apply Keep.forL1
    | apply Keep.forN1
    | apply Keep.foldl
    | apply Keep.foldl1
    | intro _
    | (apply Keep.upd; first | assumption | apply State.auditAbandon_keep | apply State.setBank_keep
                             | apply State.auditWord_keep hm | apply State.auditBank_keep | apply State.put_keep
                             | apply State.inc_keep | apply State.auditStart_keep | apply Keep.ite | apply Keep.forL
                             | apply Keep.forN | apply Keep.forL1 | apply Keep.forN1 | apply Keep.foldl
                             | apply Keep.foldl1 | split)
    | split
    | refine Keep.ofPair (by assumption) ?_

theorem State.checkDone_keep {m : Bool} {s0 t : State} (h : Keep m s0 t) {x1 x2} : Keep m s0 (State.checkDone t x1 x2) := by
  unfold State.checkDone
  with_reducible repeat' first
    | assumption
    | apply State.intSet_keep
    | apply State.writeCheck_keep

theorem State.autoWrite_keep {m : Bool} {s0 t : State} (h : Keep m s0 t) {x1 x2} : Keep m s0 (State.autoWrite t x1 x2) := by
  unfold State.autoWrite
  with_reducible repeat' first
    | assumption
    | apply State.checkStart_keep
    | apply State.checkDone_keep
    | apply State.put_keep
    | apply Keep.ite
    | intro _
    | split

theorem State.setGated_keep {m : Bool} {s0 t : State} (h : Keep m s0 t) {x1 x2} : Keep m s0 (State.setGated t x1 x2) := by
  unfold State.setGated
  with_reducible repeat' first
    | assumption
    | apply State.wr_keep

theorem State.domHoldEnd_keep {m : Bool} {s0 t : State} (h : Keep m s0 t) {x1} : Keep m s0 (State.domHoldEnd t x1) := by
  unfold State.domHoldEnd
  with_reducible repeat' first
    | assumption
    | apply State.setGated_keep
    | apply State.waitTo_keep
    | apply State.domEnd_keep
    | apply Keep.ite
    | intro _
    | split

theorem State.coreStart_keep {m : Bool} {s0 t : State} (h : Keep m s0 t) {x1} : Keep m s0 (State.coreStart t x1) := by
  unfold State.coreStart
  with_reducible repeat' first
    | assumption
    | apply State.put_keep
    | apply State.put64_keep
    | apply State.setCore_keep

end Sys2Proof.Machine
end

