-- ==== Sys2Proof/Laws/KeepC.lean ====
section
/-! SUPPORT. `Keep` for the operations of the model, callees first (continued). -/

set_option maxRecDepth 4000

namespace Sys2Proof.Machine

theorem State.bHoldEnd_keep {m : Bool} {s0 t : State} (h : Keep m s0 t) : Keep m s0 (State.bHoldEnd t) := by
  unfold State.bHoldEnd
  with_reducible repeat' first
    | assumption
    | apply State.domHoldEnd_keep
    | apply State.waitTo_keep
    | apply State.coreStart_keep
    | (apply Keep.upd; first | assumption | apply State.domHoldEnd_keep | apply State.waitTo_keep
                             | apply State.coreStart_keep | split)
    | split

theorem State.loadResult_keep {m : Bool} {s0 t : State} (h : Keep m s0 t) {x1 x2} : Keep m s0 (State.loadResult t x1 x2) := by
  unfold State.loadResult
  with_reducible repeat' first
    | assumption
    | apply State.put_keep

theorem State.setBankAt_keep {m : Bool} {s0 t : State} (h : Keep m s0 t) {x1 x2} : Keep m s0 (State.setBankAt t x1 x2) := by
  unfold State.setBankAt
  with_reducible repeat' first
    | assumption
    | apply State.modAudio_keep

theorem State.bankDrop_keep {m : Bool} {s0 t : State} (h : Keep m s0 t) : Keep m s0 (State.bankDrop t) := by
  unfold State.bankDrop
  with_reducible repeat' first
    | assumption
    | apply State.put_keep
    | apply State.setBankAt_keep

theorem State.bankLoad_keep {m : Bool} {s0 t : State} (h : Keep m s0 t) : Keep m s0 (State.bankLoad t) := by
  unfold State.bankLoad
  with_reducible repeat' first
    | assumption
    | apply State.loadResult_keep
    | apply State.bankDrop_keep
    | apply State.modAudio_keep
    | apply State.put_keep
    | apply Keep.ite
    | intro _

theorem State.bankInvalidate_keep {m : Bool} {s0 t : State} (h : Keep m s0 t) : Keep m s0 (State.bankInvalidate t) := by
  unfold State.bankInvalidate
  with_reducible repeat' first
    | assumption
    | apply State.loadResult_keep
    | apply State.bankDrop_keep
    | apply Keep.ite
    | intro _

theorem State.bankCmd_keep {m : Bool} {s0 t : State} (h : Keep m s0 t) {x1} : Keep m s0 (State.bankCmd t x1) := by
  unfold State.bankCmd
  with_reducible repeat' first
    | assumption
    | apply State.bankLoad_keep
    | apply State.bankInvalidate_keep
    | apply Keep.ite
    | intro _

theorem State.bankLoaded_keep {m : Bool} {s0 t : State} (h : Keep m s0 t) : Keep m s0 (State.bankLoaded t) := by
  unfold State.bankLoaded
  with_reducible repeat' first
    | assumption
    | apply State.modAudio_keep
    | apply State.mread_keep
    | apply State.loadResult_keep
    | apply State.bankDrop_keep
    | apply State.put_keep
    | apply State.setBankAt_keep
    | apply Keep.ite
    | apply Keep.ite1
    | apply Keep.forL
    | intro _
    | (apply Keep.upd; first | assumption | apply State.modAudio_keep | apply State.mread_keep
                             | apply State.loadResult_keep | apply State.bankDrop_keep | apply State.put_keep
                             | apply State.setBankAt_keep | apply Keep.ite | apply Keep.ite1 | apply Keep.forL
                             | split)
    | split
    | refine Keep.ofPair (by assumption) ?_

theorem State.barEnd_keep {m : Bool} {s0 t : State} (h : Keep m s0 t) {x1 x2} : Keep m s0 (State.barEnd t x1 x2) := by
  unfold State.barEnd
  with_reducible repeat' first
    | assumption
    | (apply Keep.upd; first | assumption)

theorem State.bar4Access_keep {m : Bool} {s0 t : State} (hm : m = true) (h : Keep m s0 t) {x1 x2 x3 x4} : Keep m s0 (State.bar4Access t x1 x2 x3 x4) := by
  unfold State.bar4Access
  with_reducible repeat' first
    | assumption
    | apply State.barEnd_keep
    | apply State.stat_keep
    | apply State.mwrite_keep hm
    | apply State.mread_keep
    | apply Keep.ite
    | apply Keep.ite1
    | apply Keep.forL
    | intro _
    | (apply Keep.upd; first | assumption | apply State.barEnd_keep | apply State.stat_keep
                             | apply State.mwrite_keep hm | apply State.mread_keep | apply Keep.ite | apply Keep.ite1
                             | apply Keep.forL | split)
    | split
    | refine Keep.ofPair (by assumption) ?_

theorem State.bcEnd_keep {m : Bool} {s0 t : State} (h : Keep m s0 t) {x1 x2} : Keep m s0 (State.bcEnd t x1 x2) := by
  unfold State.bcEnd
  with_reducible repeat' first
    | assumption
    | apply State.put_keep
    | apply State.stat_keep
    | apply State.intBit_keep
    | apply State.modBc_keep
    | apply Keep.ite
    | intro _

theorem State.bcAssign_keep {m : Bool} {s0 t : State} (h : Keep m s0 t) {x1 x2} : Keep m s0 (State.bcAssign t x1 x2) := by
  induction x2 generalizing t x1 with
  | nil =>
    unfold State.bcAssign
    with_reducible repeat' first
      | assumption
      | apply ih
      | apply State.bcEnd_keep
      | apply State.setBc_keep
      | apply State.put_keep
      | apply Keep.ite
      | intro _
  | cons e l ih =>
    unfold State.bcAssign
    with_reducible repeat' first
      | assumption
      | apply ih
      | apply State.bcEnd_keep
      | apply State.setBc_keep
      | apply State.put_keep
      | apply Keep.ite
      | intro _

theorem State.bcDone_keep {m : Bool} {s0 t : State} (h : Keep m s0 t) {x1 x2 x3} : Keep m s0 (State.bcDone t x1 x2 x3) := by
  unfold State.bcDone
  with_reducible repeat' first
    | assumption
    | apply State.bcEnd_keep
    | apply State.setBc_keep
    | (apply Keep.upd; first | assumption | apply State.bcEnd_keep | apply State.setBc_keep | split)
    | split

theorem State.bcIbi_keep {m : Bool} {s0 t : State} (h : Keep m s0 t) {x1 x2 x3} : Keep m s0 (State.bcIbi t x1 x2 x3) := by
  unfold State.bcIbi
  with_reducible repeat' first
    | assumption
    | apply State.stat_keep
    | apply State.intBit_keep
    | apply State.setBc_keep
    | apply Keep.ite
    | intro _
    | split

theorem State.bcPop_keep {m : Bool} {s0 t : State} (h : Keep m s0 t) {x1} : Keep m s0 (State.bcPop t x1).1 := by
  unfold State.bcPop
  try dsimp only
  with_reducible repeat' first
    | assumption
    | apply State.setBc_keep
    | split

theorem State.stray_keep {m : Bool} {s0 t : State} (h : Keep m s0 t) {x1 x2 x3} : Keep m s0 (State.stray t x1 x2 x3) := by
  unfold State.stray
  with_reducible repeat' first
    | assumption
    | apply State.hitAcc_keep

theorem State.bcPush_keep {m : Bool} {s0 t : State} (h : Keep m s0 t) {x1 x2 x3} : Keep m s0 (State.bcPush t x1 x2 x3) := by
  unfold State.bcPush
  with_reducible repeat' first
    | assumption
    | apply State.stray_keep
    | apply State.setBc_keep
    | apply Keep.ite
    | intro _

theorem State.bcStretch_keep {m : Bool} {s0 t : State} (h : Keep m s0 t) {x1} : Keep m s0 (State.bcStretch t x1) := by
  unfold State.bcStretch
  with_reducible repeat' first
    | assumption
    | apply State.bcDone_keep
    | apply State.waitTo_keep
    | apply Keep.ite
    | apply Keep.forL
    | intro _
    | (apply Keep.upd; first | assumption | apply State.bcDone_keep | apply State.waitTo_keep | apply Keep.ite
                             | apply Keep.forL | split)
    | split
    | refine Keep.ofPair (by assumption) ?_

theorem State.bcXfer_keep {m : Bool} {s0 t : State} (h : Keep m s0 t) {x1 x2 x3} : Keep m s0 (State.bcXfer t x1 x2 x3) := by
  unfold State.bcXfer
  with_reducible repeat' first
    | assumption
    | apply State.stray_keep
    | apply State.setBc_keep
    | apply Keep.ite
    | intro _

theorem State.beatSend_keep {m : Bool} {s0 t : State} (h : Keep m s0 t) : Keep m s0 (State.beatSend t) := by
  unfold State.beatSend
  with_reducible repeat' first
    | assumption
    | apply State.waitTo_keep
    | apply State.modTmb_keep
    | apply State.tSend_keep
    | apply Keep.ite
    | apply Keep.forL
    | intro _

theorem State.failover_keep {m : Bool} {s0 t : State} (h : Keep m s0 t) {x1 x2} : Keep m s0 (State.failover t x1 x2) := by
  unfold State.failover
  with_reducible repeat' first
    | assumption
    | apply State.holdTrigger_keep
    | apply State.modLay_keep
    | apply State.jrecOwn_keep
    | apply Keep.ite
    | apply Keep.forL
    | intro _

theorem State.peerRec_keep {m : Bool} {s0 t : State} (h : Keep m s0 t) {x1 x2} : Keep m s0 (State.peerRec t x1 x2) := by
  unfold State.peerRec
  with_reducible repeat' first
    | assumption
    | apply State.jrec_keep

theorem State.deviceLost_keep {m : Bool} {s0 t : State} (h : Keep m s0 t) {x1} : Keep m s0 (State.deviceLost t x1) := by
  unfold State.deviceLost
  with_reducible repeat' first
    | assumption
    | apply State.put_keep
    | apply State.mirUpdate_keep
    | apply State.failover_keep
    | apply State.peerRec_keep

theorem State.beatTimeout_keep {m : Bool} {s0 t : State} (h : Keep m s0 t) {x1} : Keep m s0 (State.beatTimeout t x1) := by
  unfold State.beatTimeout
  with_reducible repeat' first
    | assumption
    | apply State.waitTo_keep
    | apply State.deviceLost_keep
    | apply State.hit_keep
    | apply Keep.ite
    | intro _

theorem State.binFull_keep {m : Bool} {s0 t : State} (hm : m = true) (h : Keep m s0 t) {x1 x2} : Keep m s0 (State.binFull t x1 x2) := by
  unfold State.binFull
  with_reducible repeat' first
    | assumption
    | apply State.areaInit_keep hm
    | apply State.gwrite_keep hm
    | apply State.stat_keep
    | apply State.modJob_keep
    | apply State.jobStatus_keep
    | apply Keep.ite
    | apply Keep.ite1
    | apply Keep.forL
    | intro _
    | (apply Keep.upd; first | assumption | apply State.areaInit_keep hm | apply State.gwrite_keep hm
                             | apply State.stat_keep | apply State.modJob_keep | apply State.jobStatus_keep
                             | apply Keep.ite | apply Keep.ite1 | apply Keep.forL | split)
    | split
    | refine Keep.ofPair (by assumption) ?_

theorem State.bindLinks_keep {m : Bool} {s0 t : State} (h : Keep m s0 t) {x1} : Keep m s0 (State.bindLinks t x1) := by
  unfold State.bindLinks
  with_reducible repeat' first
    | assumption
    | apply State.put_keep
    | apply State.linkState_keep
    | apply Keep.ite
    | apply Keep.forL
    | intro _

theorem State.enter_keep {m : Bool} {s0 t : State} (h : Keep m s0 t) {x1} : Keep m s0 (State.enter t x1) := by
  unfold State.enter
  with_reducible repeat' first
    | assumption
    | apply State.put64_keep
    | (apply Keep.upd; first | assumption | apply State.put64_keep)

theorem State.enterBoot_keep {m : Bool} {s0 t : State} (h : Keep m s0 t) : Keep m s0 (State.enterBoot t) := by
  unfold State.enterBoot
  with_reducible repeat' first
    | assumption
    | apply State.enter_keep
    | apply State.coreStart_keep
    | (apply Keep.upd; first | assumption | apply State.enter_keep | apply State.coreStart_keep)

theorem State.bulkClear_keep {m : Bool} {s0 t : State} (hm : m = true) (h : Keep m s0 t) {x1} : Keep m s0 (State.bulkClear t x1) := by
  unfold State.bulkClear
  dsimp only
  have hb : Keep m s0 (if x1 < 16 then
      { t with
        pool := amDrop (fun a => a / 6 % 16 == x1) t.pool
        poolChk := amDrop (fun w => w % 16 == x1) t.poolChk }
    else t) := by
    split
    · exact State.poolDrop_keep hm h _ _
    · exact h
  apply State.clearStarts_keep
  apply Keep.ite <;> intro _
  · exact State.inc_keep hb
  · exact hb

theorem State.bistDone_keep {m : Bool} {s0 t : State} (hm : m = true) (h : Keep m s0 t) : Keep m s0 (State.bistDone t) := by
  unfold State.bistDone
  with_reducible repeat' first
    | assumption
    | apply State.enterBoot_keep
    | apply State.bulkClear_keep hm
    | apply Keep.ite
    | apply Keep.forL
    | intro _
    | (apply Keep.upd; first | assumption | apply State.enterBoot_keep | apply State.bulkClear_keep hm
                             | apply Keep.ite | apply Keep.forL | split)
    | split
    | refine Keep.ofPair (by assumption) ?_

theorem State.linkRec_keep {m : Bool} {s0 t : State} (h : Keep m s0 t) {x1 x2 x3} : Keep m s0 (State.linkRec t x1 x2 x3) := by
  unfold State.linkRec
  with_reducible repeat' first
    | assumption
    | apply State.jrec_keep

theorem State.portDown_keep {m : Bool} {s0 t : State} (h : Keep m s0 t) {x1 x2} : Keep m s0 (State.portDown t x1 x2) := by
  unfold State.portDown
  with_reducible repeat' first
    | assumption
    | apply State.put_keep
    | apply State.intBit_keep
    | apply State.modTport_keep
    | apply State.linkRec_keep
    | apply State.linkGone_keep

theorem State.silence_keep {m : Bool} {s0 t : State} (h : Keep m s0 t) {x1} : Keep m s0 (State.silence t x1) := by
  unfold State.silence
  with_reducible repeat' first
    | assumption
    | apply State.waitTo_keep
    | apply State.hit_keep
    | apply State.portDown_keep
    | apply State.deviceLost_keep
    | apply Keep.ite
    | intro _

theorem State.tmbFails_keep {m : Bool} {s0 t : State} (h : Keep m s0 t) {x1 x2} : Keep m s0 (State.tmbFails t x1 x2) := by
  unfold State.tmbFails
  with_reducible repeat' first
    | assumption
    | apply State.hit_keep
    | apply State.portDown_keep

theorem State.restartLate_keep {m : Bool} {s0 t : State} (h : Keep m s0 t) {x1} : Keep m s0 (State.restartLate t x1) := by
  unfold State.restartLate
  with_reducible repeat' first
    | assumption
    | apply State.tmbFails_keep
    | apply State.waitTo_keep
    | apply Keep.ite
    | intro _

theorem State.tLate_keep {m : Bool} {s0 t : State} (h : Keep m s0 t) {x1} : Keep m s0 (State.tLate t x1) := by
  unfold State.tLate
  try dsimp only
  with_reducible repeat' first
    | assumption
    | apply State.silence_keep
    | apply State.restartLate_keep
    | apply Keep.ite
    | apply Keep.forL
    | apply Keep.forN
    | apply Keep.forL1
    | apply Keep.forN1
    | apply Keep.foldl
    | apply Keep.foldl1
    | intro _
    | (apply Keep.upd; first | assumption | apply State.silence_keep | apply State.restartLate_keep | apply Keep.ite
                             | apply Keep.forL | apply Keep.forN | apply Keep.forL1 | apply Keep.forN1
                             | apply Keep.foldl | apply Keep.foldl1 | split)
    | split
    | refine Keep.ofPair (by assumption) ?_

theorem State.blockLock_keep {m : Bool} {s0 t : State} (h : Keep m s0 t) {x1} : Keep m s0 (State.blockLock t x1) := by
  unfold State.blockLock
  try dsimp only
  with_reducible repeat' first
    | assumption
    | apply State.tLate_keep
    | apply State.put_keep
    | apply Keep.ite
    | apply Keep.forL
    | apply Keep.forN
    | apply Keep.forL1
    | apply Keep.forN1
    | apply Keep.foldl
    | apply Keep.foldl1
    | intro _
    | (apply Keep.upd; first | assumption | apply State.tLate_keep | apply State.put_keep | apply Keep.ite
                             | apply Keep.forL | apply Keep.forN | apply Keep.forL1 | apply Keep.forN1
                             | apply Keep.foldl | apply Keep.foldl1 | split)
    | split
    | refine Keep.ofPair (by assumption) ?_

theorem State.duckRules_keep {m : Bool} {s0 t : State} (h : Keep m s0 t) : Keep m s0 (State.duckRules t) := by
  unfold State.duckRules
  with_reducible repeat' first
    | assumption
    | apply State.modAudio_keep
    | apply State.put_keep
    | apply Keep.ite
    | intro _

theorem State.markerAt_keep {m : Bool} {s0 t : State} (hm : m = true) (h : Keep m s0 t) {x1} : Keep m s0 (State.markerAt t x1) := by
  unfold State.markerAt
  with_reducible repeat' first
    | assumption
    | apply State.modAudio_keep
    | apply State.sourceAt_keep
    | apply State.applyDue_keep hm
    | apply State.applyPoint_keep hm
    | apply State.duckRules_keep
    | apply State.put_keep
    | apply Keep.ite
    | apply Keep.forL
    | intro _
    | (apply Keep.upd; first | assumption | apply State.modAudio_keep | apply State.sourceAt_keep
                             | apply State.applyDue_keep hm | apply State.applyPoint_keep hm
                             | apply State.duckRules_keep | apply State.put_keep | apply Keep.ite | apply Keep.forL
                             | split)
    | split
    | refine Keep.ofPair (by assumption) ?_

theorem State.blockMarker_keep {m : Bool} {s0 t : State} (hm : m = true) (h : Keep m s0 t) : Keep m s0 (State.blockMarker t) := by
  unfold State.blockMarker
  with_reducible repeat' first
    | assumption
    | apply State.markerAt_keep hm
    | apply State.waitTo_keep
    | apply Keep.ite
    | apply Keep.forL
    | intro _
    | (apply Keep.upd; first | assumption | apply State.markerAt_keep hm | apply State.waitTo_keep | apply Keep.ite
                             | apply Keep.forL | split)
    | split
    | refine Keep.ofPair (by assumption) ?_

theorem State.blockPoison_keep {m : Bool} {s0 t : State} (hm : m = true) (h : Keep m s0 t) {x1} : Keep m s0 (State.blockPoison t x1) := by
  unfold State.blockPoison
  with_reducible repeat' first
    | assumption
    | apply State.dramPoison_keep hm
    | apply Keep.ite
    | apply Keep.forL
    | apply Keep.forN
    | intro _
    | (apply Keep.upd; first | assumption | apply State.dramPoison_keep hm | apply Keep.ite | apply Keep.forL
                             | apply Keep.forN | split)
    | split
    | refine Keep.ofPair (by assumption) ?_

theorem State.blockRelease_keep {m : Bool} {s0 t : State} (h : Keep m s0 t) {x1} : Keep m s0 (State.blockRelease t x1) := by
  unfold State.blockRelease
  with_reducible repeat' first
    | assumption
    | apply State.setGated_keep
    | apply State.blockDone_keep
    | apply Keep.ite
    | intro _
    | split

theorem State.refuse_keep {m : Bool} {s0 t : State} (h : Keep m s0 t) {x1 x2} : Keep m s0 (State.refuse t x1 x2) := by
  unfold State.refuse
  with_reducible repeat' first
    | assumption
    | apply State.intSet_keep
    | apply State.writeCheck_keep

theorem State.holdRecord_keep {m : Bool} {s0 t : State} (h : Keep m s0 t) {x1 x2 x3} : Keep m s0 (State.holdRecord t x1 x2 x3) := by
  unfold State.holdRecord
  with_reducible repeat' first
    | assumption
    | apply State.stat_keep
    | apply State.jrec_keep

theorem State.blockReset_keep {m : Bool} {s0 t : State} (h : Keep m s0 t) {x1 x2} : Keep m s0 (State.blockReset t x1 x2) := by
  unfold State.blockReset
  with_reducible repeat' first
    | assumption
    | apply State.refuse_keep
    | apply State.holdRecord_keep
    | apply State.modCtl_keep
    | apply Keep.ite
    | intro _
    | split

theorem State.bootLate_keep {m : Bool} {s0 t : State} (hm : m = true) (h : Keep m s0 t) : Keep m s0 (State.bootLate t) := by
  unfold State.bootLate
  with_reducible repeat' first
    | assumption
    | apply State.sourceActs_keep hm
    | apply State.waitTo_keep
    | apply Keep.ite
    | apply Keep.forL
    | intro _
    | (apply Keep.upd; first | assumption | apply State.sourceActs_keep hm | apply State.waitTo_keep | apply Keep.ite
                             | apply Keep.forL | split)
    | split
    | refine Keep.ofPair (by assumption) ?_

theorem State.bucketLeak_keep {m : Bool} {s0 t : State} (h : Keep m s0 t) {x1} : Keep m s0 (State.bucketLeak t x1) := by
  unfold State.bucketLeak
  with_reducible repeat' first
    | assumption
    | apply State.waitTo_keep
    | apply State.put_keep
    | apply Keep.ite
    | intro _
    | (apply Keep.upd; first | assumption | apply State.waitTo_keep | apply State.put_keep | apply Keep.ite)

theorem State.bulkDone_keep {m : Bool} {s0 t : State} (h : Keep m s0 t) {x1} : Keep m s0 (State.bulkDone t x1) := by
  unfold State.bulkDone
  with_reducible repeat' first
    | assumption
    | (apply Keep.upd; first | assumption)

theorem State.linkError_keep {m : Bool} {s0 t : State} (h : Keep m s0 t) {x1 x2} : Keep m s0 (State.linkError t x1 x2) := by
  unfold State.linkError
  with_reducible repeat' first
    | assumption
    | apply State.hit_keep
    | apply State.intBit_keep

theorem State.setLinkBurst_keep {m : Bool} {s0 t : State} (h : Keep m s0 t) {x1 x2} : Keep m s0 (State.setLinkBurst t x1 x2) := by
  unfold State.setLinkBurst
  with_reducible repeat' first
    | assumption
    | apply Keep.ite
    | apply Keep.forL
    | intro _
    | (apply Keep.upd; first | assumption | apply Keep.ite | apply Keep.forL | split)
    | split
    | refine Keep.ofPair (by assumption) ?_

theorem State.bursts_keep {m : Bool} {s0 t : State} (h : Keep m s0 t) {x1 x2 x3} : Keep m s0 (State.bursts t x1 x2 x3) := by
  unfold State.bursts
  with_reducible repeat' first
    | assumption
    | apply State.stat_keep
    | apply State.linkError_keep
    | apply State.tookFree_keep
    | apply State.setLinkBurst_keep
    | apply Keep.ite
    | apply Keep.forL
    | intro _
    | (apply Keep.upd; first | assumption | apply State.stat_keep | apply State.linkError_keep
                             | apply State.tookFree_keep | apply State.setLinkBurst_keep | apply Keep.ite
                             | apply Keep.forL | split)
    | split
    | refine Keep.ofPair (by assumption) ?_

theorem State.busTimeout_keep {m : Bool} {s0 t : State} (h : Keep m s0 t) {x1 x2 x3 x4} : Keep m s0 (State.busTimeout t x1 x2 x3 x4) := by
  unfold State.busTimeout
  with_reducible repeat' first
    | assumption
    | apply State.hitAcc_keep
    | apply Keep.ite
    | intro _

theorem State.holdTo_keep {m : Bool} {s0 t : State} (h : Keep m s0 t) {x1 x2 x3 x4} : Keep m s0 (State.holdTo t x1 x2 x3 x4) := by
  unfold State.holdTo
  with_reducible repeat' first
    | assumption
    | apply State.put_keep
    | apply State.intBit_keep
    | split

theorem State.captureStart_keep {m : Bool} {s0 t : State} (h : Keep m s0 t) {x1 x2} : Keep m s0 (State.captureStart t x1 x2).1 := by
  unfold State.captureStart
  with_reducible repeat' first
    | assumption
    | apply State.holdTo_keep
    | apply State.modHead_keep
    | split

theorem State.captureAgain_keep {m : Bool} {s0 t : State} (h : Keep m s0 t) {x1 x2 x3} : Keep m s0 (State.captureAgain t x1 x2 x3).1 := by
  unfold State.captureAgain
  with_reducible repeat' first
    | assumption
    | apply State.captureStart_keep
    | apply Keep.ite
    | apply Keep.ite1
    | apply Keep.forL
    | intro _
    | (apply Keep.upd; first | assumption | apply State.captureStart_keep | apply Keep.ite | apply Keep.ite1
                             | apply Keep.forL | split)
    | split
    | refine Keep.ofPair (by assumption) ?_

theorem State.captureLine_keep {m : Bool} {s0 t : State} (hm : m = true) (h : Keep m s0 t) {x1 x2 x3} : Keep m s0 (State.captureLine t x1 x2 x3) := by
  unfold State.captureLine
  with_reducible repeat' first
    | assumption
    | apply State.mwrite_keep hm
    | apply State.modHead_keep
    | apply Keep.ite
    | apply Keep.ite1
    | apply Keep.forL
    | intro _
    | (apply Keep.upd; first | assumption | apply State.mwrite_keep hm | apply State.modHead_keep | apply Keep.ite
                             | apply Keep.ite1 | apply Keep.forL | split)
    | split
    | refine Keep.ofPair (by assumption) ?_

theorem State.chanClear_keep {m : Bool} {s0 t : State} (h : Keep m s0 t) {x1} : Keep m s0 (State.chanClear t x1) := by
  unfold State.chanClear
  with_reducible repeat' first
    | assumption
    | apply State.modHch_keep
    | apply State.put_keep
    | apply Keep.ite
    | intro _

theorem State.cmdErr_keep {m : Bool} {s0 t : State} (h : Keep m s0 t) {x1 x2 x3} : Keep m s0 (State.cmdErr t x1 x2 x3) := by
  unfold State.cmdErr
  with_reducible repeat' first
    | assumption
    | apply State.intBit_keep
    | apply State.stat_keep
    | apply State.hitAcc_keep
    | apply State.logAdd_keep
    | apply State.hit_keep
    | split

theorem State.chanFail_keep {m : Bool} {s0 t : State} (h : Keep m s0 t) {x1 x2} : Keep m s0 (State.chanFail t x1 x2) := by
  unfold State.chanFail
  with_reducible repeat' first
    | assumption
    | apply State.put_keep
    | apply State.cmdErr_keep

theorem State.chanFault_keep {m : Bool} {s0 t : State} (h : Keep m s0 t) {x1 x2} : Keep m s0 (State.chanFault t x1 x2) := by
  unfold State.chanFault
  with_reducible repeat' first
    | assumption
    | apply State.stat_keep
    | apply State.intBit_keep
    | apply State.hit_keep
    | apply State.put_keep
    | apply State.dequeue_keep
    | apply State.effectEnd_keep
    | apply Keep.ite
    | intro _

theorem State.effectStart_keep {m : Bool} {s0 t : State} (h : Keep m s0 t) {x1 x2 x3 x4} : Keep m s0 (State.effectStart t x1 x2 x3 x4) := by
  unfold State.effectStart
  with_reducible repeat' first
    | assumption
    | apply State.intBit_keep
    | apply State.stat_keep
    | apply State.put64_keep
    | apply State.showPlay_keep
    | apply State.modHch_keep
    | apply State.effectEnd_keep
    | intro _
    | (apply Keep.upd; first | apply State.intBit_keep | apply State.stat_keep | apply State.put64_keep
                             | apply State.showPlay_keep | apply State.modHch_keep | apply State.effectEnd_keep
                             | split)
    | split

theorem State.queuedStarts_keep {m : Bool} {s0 t : State} (h : Keep m s0 t) {x1 x2} : Keep m s0 (State.queuedStarts t x1 x2) := by
  unfold State.queuedStarts
  with_reducible repeat' first
    | assumption
    | apply State.effectStart_keep
    | apply State.dequeue_keep
    | apply Keep.ite
    | apply Keep.forL
    | intro _
    | (apply Keep.upd; first | assumption | apply State.effectStart_keep | apply State.dequeue_keep | apply Keep.ite
                             | apply Keep.forL | split)
    | split
    | refine Keep.ofPair (by assumption) ?_

theorem State.trigAct_keep {m : Bool} {s0 t : State} (h : Keep m s0 t) {x1 x2 x3} : Keep m s0 (State.trigAct t x1 x2 x3) := by
  unfold State.trigAct
  with_reducible repeat' first
    | assumption
    | apply State.trigDrop_keep
    | apply State.dequeue_keep
    | apply State.effectStart_keep
    | apply State.effectEnd_keep
    | apply State.put_keep
    | apply State.modHch_keep
    | apply Keep.ite
    | intro _
    | split

theorem State.onset_keep {m : Bool} {s0 t : State} (h : Keep m s0 t) {x1 x2 x3} : Keep m s0 (State.onset t x1 x2 x3) := by
  unfold State.onset
  with_reducible repeat' first
    | assumption
    | apply State.setHch_keep
    | apply State.queuedStarts_keep
    | apply State.trigDrop_keep
    | apply State.trigAct_keep
    | apply Keep.ite
    | apply Keep.forL
    | intro _
    | (apply Keep.upd; first | assumption | apply State.setHch_keep | apply State.queuedStarts_keep
                             | apply State.trigDrop_keep | apply State.trigAct_keep | apply Keep.ite | apply Keep.forL
                             | split)
    | split
    | refine Keep.ofPair (by assumption) ?_

theorem State.hapHits_keep {m : Bool} {s0 t : State} (h : Keep m s0 t) {x1 x2} : Keep m s0 (State.hapHits t x1 x2) := by
  unfold State.hapHits
  with_reducible repeat' first
    | assumption
    | apply State.stat_keep
    | apply State.intBit_keep
    | apply State.hit_keep
    | apply State.modHch_keep
    | apply Keep.forL
    | intro _
    | split

theorem State.limited_keep {m : Bool} {s0 t : State} (h : Keep m s0 t) {x1} : Keep m s0 (State.limited t x1).1 := by
  unfold State.limited
  try dsimp only
  with_reducible repeat' first
    | assumption
    | apply State.modHch_keep
    | apply State.effectEnd_keep
    | apply State.hapHits_keep
    | split

theorem State.energy_keep {m : Bool} {s0 t : State} (h : Keep m s0 t) {x1 x2} : Keep m s0 (State.energy t x1 x2).1 := by
  unfold State.energy
  with_reducible repeat' first
    | assumption
    | apply State.put_keep
    | apply State.setHch_keep

theorem State.chanFrame_keep {m : Bool} {s0 t : State} (h : Keep m s0 t) {x1 x2 x3} : Keep m s0 (State.chanFrame t x1 x2 x3).1 := by
  unfold State.chanFrame
  with_reducible repeat' first
    | assumption
    | apply State.onset_keep
    | apply State.trigsLost_keep
    | apply State.limited_keep
    | apply State.energy_keep
    | apply State.hapHits_keep
    | apply State.advance_keep
    | apply Keep.ite
    | intro _
    | split

theorem State.chanLost_keep {m : Bool} {s0 t : State} (h : Keep m s0 t) {x1} : Keep m s0 (State.chanLost t x1) := by
  unfold State.chanLost
  with_reducible repeat' first
    | assumption
    | apply State.hit_keep
    | apply State.chanFault_keep
    | apply Keep.ite
    | apply Keep.forL
    | intro _
    | (apply Keep.upd; first | assumption | apply State.hit_keep | apply State.chanFault_keep | apply Keep.ite
                             | apply Keep.forL | split)
    | split
    | refine Keep.ofPair (by assumption) ?_

theorem State.nakDue_keep {m : Bool} {s0 t : State} (h : Keep m s0 t) {x1} : Keep m s0 (State.nakDue t x1) := by
  unfold State.nakDue
  with_reducible repeat' first
    | assumption
    | apply State.setTport_keep
    | apply Keep.ite
    | intro _

theorem State.checkFail_keep {m : Bool} {s0 t : State} (h : Keep m s0 t) {x1} : Keep m s0 (State.checkFail t x1) := by
  unfold State.checkFail
  try dsimp only
  with_reducible repeat' first
    | assumption
    | apply State.tLate_keep
    | apply State.hit_keep
    | apply State.intBit_keep
    | apply State.stat_keep
    | apply State.nakDue_keep
    | apply Keep.ite
    | apply Keep.forL
    | apply Keep.forN
    | apply Keep.forL1
    | apply Keep.forN1
    | apply Keep.foldl
    | apply Keep.foldl1
    | intro _
    | (apply Keep.upd; first | assumption | apply State.tLate_keep | apply State.hit_keep | apply State.intBit_keep
                             | apply State.stat_keep | apply State.nakDue_keep | apply Keep.ite | apply Keep.forL
                             | apply Keep.forN | apply Keep.forL1 | apply Keep.forN1 | apply Keep.foldl
                             | apply Keep.foldl1 | split)
    | split
    | refine Keep.ofPair (by assumption) ?_

theorem State.convBegin_keep {m : Bool} {s0 t : State} (h : Keep m s0 t) {x1} : Keep m s0 (State.convBegin t x1) := by
  unfold State.convBegin
  with_reducible repeat' first
    | assumption
    | apply State.setBank_keep
    | apply State.put_keep
    | apply Keep.ite
    | apply Keep.forL
    | intro _

theorem State.chipRelease_keep {m : Bool} {s0 t : State} (h : Keep m s0 t) : Keep m s0 (State.chipRelease t) := by
  unfold State.chipRelease
  with_reducible repeat' first
    | assumption
    | apply State.waitTo_keep
    | apply State.convBegin_keep
    | apply State.enterBoot_keep
    | apply State.put_keep
    | intro _
    | (apply Keep.upd; first | apply State.waitTo_keep | apply State.convBegin_keep | apply State.enterBoot_keep
                             | apply State.put_keep | split)
    | split

theorem State.setRoute_keep {m : Bool} {s0 t : State} (h : Keep m s0 t) {x1 x2} : Keep m s0 (State.setRoute t x1 x2) := by
  unfold State.setRoute
  with_reducible repeat' first
    | assumption
    | (apply Keep.upd; first | assumption)

theorem State.classWrite_keep {m : Bool} {s0 t : State} (h : Keep m s0 t) {x1 x2} : Keep m s0 (State.classWrite t x1 x2) := by
  unfold State.classWrite
  with_reducible repeat' first
    | assumption
    | apply State.wr_keep
    | apply State.setRoute_keep
    | apply Keep.ite
    | apply Keep.forN
    | intro _

theorem State.clockLate_keep {m : Bool} {s0 t : State} (h : Keep m s0 t) {x1} : Keep m s0 (State.clockLate t x1) := by
  unfold State.clockLate
  with_reducible repeat' first
    | assumption
    | apply State.abandonPage_keep
    | apply State.abandonDom_keep
    | split

theorem State.clockLoss_keep {m : Bool} {s0 t : State} (h : Keep m s0 t) {x1} : Keep m s0 (State.clockLoss t x1) := by
  unfold State.clockLoss
  with_reducible repeat' first
    | assumption
    | apply State.put_keep
    | apply State.waitTo_keep
    | apply State.setConvState_keep
    | apply State.setAport_keep
    | apply State.aportRec_keep
    | apply State.stat_keep
    | apply State.intBit_keep
    | apply State.hit_keep
    | apply Keep.ite
    | apply Keep.forL
    | intro _

theorem State.restartRelease_keep {m : Bool} {s0 t : State} (h : Keep m s0 t) : Keep m s0 (State.restartRelease t) := by
  unfold State.restartRelease
  with_reducible repeat' first
    | assumption
    | apply State.coreStart_keep
    | apply Keep.ite
    | intro _

theorem State.clockSeenPage_keep {m : Bool} {s0 t : State} (h : Keep m s0 t) {x1} : Keep m s0 (State.clockSeenPage t x1) := by
  unfold State.clockSeenPage
  with_reducible repeat' first
    | assumption
    | apply State.restartRelease_keep
    | apply State.setClockOk_keep
    | apply State.abandonPage_keep
    | apply State.blockDone_keep
    | apply Keep.ite
    | apply Keep.forL
    | intro _
    | (apply Keep.upd; first | assumption | apply State.restartRelease_keep | apply State.setClockOk_keep
                             | apply State.abandonPage_keep | apply State.blockDone_keep | apply Keep.ite
                             | apply Keep.forL | split)
    | split
    | refine Keep.ofPair (by assumption) ?_

theorem State.clockSeenDom_keep {m : Bool} {s0 t : State} (h : Keep m s0 t) {x1} : Keep m s0 (State.clockSeenDom t x1) := by
  unfold State.clockSeenDom
  with_reducible repeat' first
    | assumption
    | apply State.abandonDom_keep
    | apply State.domEnd_keep
    | apply State.setClockOk_keep
    | apply State.waitTo_keep
    | apply Keep.ite
    | apply Keep.forL
    | intro _
    | (apply Keep.upd; first | assumption | apply State.abandonDom_keep | apply State.domEnd_keep
                             | apply State.setClockOk_keep | apply State.waitTo_keep | apply Keep.ite
                             | apply Keep.forL | split)
    | split
    | refine Keep.ofPair (by assumption) ?_

theorem State.clockSeen_keep {m : Bool} {s0 t : State} (h : Keep m s0 t) {x1} : Keep m s0 (State.clockSeen t x1) := by
  unfold State.clockSeen
  with_reducible repeat' first
    | assumption
    | apply State.clockSeenPage_keep
    | apply State.clockSeenDom_keep
    | split

theorem State.swReset_keep {m : Bool} {s0 t : State} (hm : m = true) (h : Keep m s0 t) {x1 x2} : Keep m s0 (State.swReset t x1 x2) := by
  unfold State.swReset
  with_reducible repeat' first
    | assumption
    | apply State.stray_keep
    | apply State.sourceActs_keep hm
    | apply Keep.ite
    | apply Keep.forL
    | intro _
    | (apply Keep.upd; first | assumption | apply State.stray_keep | apply State.sourceActs_keep hm | apply Keep.ite
                             | apply Keep.forL | split)
    | split
    | refine Keep.ofPair (by assumption) ?_

theorem State.violation_keep {m : Bool} {s0 t : State} (h : Keep m s0 t) {x1 x2 x3} : Keep m s0 (State.violation t x1 x2 x3) := by
  unfold State.violation
  with_reducible repeat' first
    | assumption
    | apply State.hitAcc_keep

theorem State.dropLine_keep {m : Bool} {s0 t : State} (h : Keep m s0 t) {x1} : Keep m s0 (State.dropLine t x1) := by
  unfold State.dropLine
  with_reducible repeat' first
    | assumption
    | apply State.setCore_keep
    | apply Keep.ite
    | apply Keep.forN
    | intro _

theorem State.ownerJudge_keep {m : Bool} {s0 t : State} (h : Keep m s0 t) {x1 x2 x3} : Keep m s0 (State.ownerJudge t x1 x2 x3) := by
  unfold State.ownerJudge
  with_reducible repeat' first
    | assumption
    | apply State.checkStart_keep
    | apply State.checkDone_keep
    | apply State.holdRecord_keep
    | apply State.wr_keep
    | apply State.dropLine_keep
    | apply State.put_keep
    | apply Keep.ite
    | apply Keep.forL
    | intro _
    | (apply Keep.upd; first | assumption | apply State.checkStart_keep | apply State.checkDone_keep
                             | apply State.holdRecord_keep | apply State.wr_keep | apply State.dropLine_keep
                             | apply State.put_keep | apply Keep.ite | apply Keep.forL | split)
    | split
    | refine Keep.ofPair (by assumption) ?_

theorem State.gateWrite_keep {m : Bool} {s0 t : State} (h : Keep m s0 t) {x1 x2 x3} : Keep m s0 (State.gateWrite t x1 x2 x3) := by
  unfold State.gateWrite
  with_reducible repeat' first
    | assumption
    | apply State.put_keep
    | apply Keep.ite
    | apply Keep.forL
    | intro _
    | (apply Keep.upd; first | assumption | apply State.put_keep | apply Keep.ite | apply Keep.forL | split)
    | split
    | refine Keep.ofPair (by assumption) ?_

theorem State.domRequest_keep {m : Bool} {s0 t : State} (hm : m = true) (h : Keep m s0 t) {x1 x2} : Keep m s0 (State.domRequest t x1 x2) := by
  unfold State.domRequest
  try dsimp only
  with_reducible repeat' first
    | assumption
    | apply State.put_keep
    | apply State.holdRecord_keep
    | apply State.domAssert_keep
    | apply State.chipAssert_keep hm
    | apply Keep.ite
    | apply Keep.forL
    | apply Keep.forN
    | apply Keep.forL1
    | apply Keep.forN1
    | apply Keep.foldl
    | apply Keep.foldl1
    | intro _
    | (apply Keep.upd; first | assumption | apply State.put_keep | apply State.holdRecord_keep
                             | apply State.domAssert_keep | apply State.chipAssert_keep hm | apply Keep.ite
                             | apply Keep.forL | apply Keep.forN | apply Keep.forL1 | apply Keep.forN1
                             | apply Keep.foldl | apply Keep.foldl1 | split)
    | split
    | refine Keep.ofPair (by assumption) ?_

theorem State.mboxPost_keep {m : Bool} {s0 t : State} (h : Keep m s0 t) {x1} : Keep m s0 (State.mboxPost t x1) := by
  unfold State.mboxPost
  with_reducible repeat' first
    | assumption
    | apply State.put_keep
    | apply State.intBit_keep
    | apply State.put64_keep
    | apply Keep.ite
    | intro _

theorem mboxOwnerReg_keep {m : Bool} {s0 t : State} (h : Keep m s0 t) {x0 x1 x2} : ∀ w, (mboxOwnerReg x0 x1 x2 t) = some w → Keep m s0 w := by
  unfold mboxOwnerReg
  with_reducible repeat' first
    | assumption
    | apply State.mboxPost_keep
    | apply State.wr_keep
    | apply Keep.ite
    | refine Keep.iteO ?_ ?_
    | refine Keep.some' ?_
    | exact Keep.none'
    | intro _

theorem State.mbCmd_keep {m : Bool} {s0 t : State} (h : Keep m s0 t) {x1 x2} : Keep m s0 (State.mbCmd t x1 x2) := by
  unfold State.mbCmd
  with_reducible repeat' first
    | assumption
    | apply State.tSend_keep
    | apply State.put_keep
    | apply Keep.ite
    | intro _

theorem State.remoteReset_keep {m : Bool} {s0 t : State} (h : Keep m s0 t) {x1} : Keep m s0 (State.remoteReset t x1) := by
  unfold State.remoteReset
  with_reducible repeat' first
    | assumption
    | apply State.tSend_keep
    | apply Keep.ite
    | intro _

theorem State.wdExpiry_keep {m : Bool} {s0 t : State} (h : Keep m s0 t) {x1} : Keep m s0 (State.wdExpiry t x1) := by
  unfold State.wdExpiry
  try dsimp only
  with_reducible repeat' first
    | assumption
    | apply State.waitTo_keep
    | apply State.intBit_keep
    | apply State.hit_keep
    | apply State.setCore_keep
    | apply State.secureTrigger_keep
    | apply Keep.ite
    | apply Keep.forL
    | apply Keep.forN
    | apply Keep.forL1
    | apply Keep.forN1
    | apply Keep.foldl
    | apply Keep.foldl1
    | intro _
    | (apply Keep.upd; first | assumption | apply State.waitTo_keep | apply State.intBit_keep | apply State.hit_keep
                             | apply State.setCore_keep | apply State.secureTrigger_keep | apply Keep.ite
                             | apply Keep.forL | apply Keep.forN | apply Keep.forL1 | apply Keep.forN1
                             | apply Keep.foldl | apply Keep.foldl1 | split)
    | split
    | refine Keep.ofPair (by assumption) ?_

theorem State.wdKick_keep {m : Bool} {s0 t : State} (h : Keep m s0 t) {x1 x2 x3} : Keep m s0 (State.wdKick t x1 x2 x3) := by
  unfold State.wdKick
  try dsimp only
  with_reducible repeat' first
    | assumption
    | apply State.wdExpiry_keep
    | apply State.setCore_keep
    | apply State.stray_keep
    | apply Keep.ite
    | apply Keep.forL
    | apply Keep.forN
    | apply Keep.forL1
    | apply Keep.forN1
    | apply Keep.foldl
    | apply Keep.foldl1
    | intro _
    | (apply Keep.upd; first | assumption | apply State.wdExpiry_keep | apply State.setCore_keep
                             | apply State.stray_keep | apply Keep.ite | apply Keep.forL | apply Keep.forN
                             | apply Keep.forL1 | apply Keep.forN1 | apply Keep.foldl | apply Keep.foldl1 | split)
    | split
    | refine Keep.ofPair (by assumption) ?_

theorem State.extendCmd_keep {m : Bool} {s0 t : State} (h : Keep m s0 t) {x1 x2} : Keep m s0 (State.extendCmd t x1 x2) := by
  unfold State.extendCmd
  with_reducible repeat' first
    | assumption
    | apply State.refuse_keep
    | apply State.setMeas_keep
    | apply Keep.ite
    | intro _

theorem State.rcvGo_keep {m : Bool} {s0 t : State} (h : Keep m s0 t) {x1} : Keep m s0 (State.rcvGo t x1) := by
  unfold State.rcvGo
  with_reducible repeat' first
    | assumption
    | apply State.put_keep
    | apply Keep.ite
    | intro _

theorem State.ownRule_keep {m : Bool} {s0 t : State} (hm : m = true) (h : Keep m s0 t) {x1 x2 x3} :
    ∀ w, (State.ownRule t x1 x2 x3) = some w → Keep m s0 w.1 := by
  unfold State.ownRule
  dsimp only
  repeat' refine Keep.iteOP (fun _ => ?_) (fun _ => ?_)
  all_goals first
    | exact Keep.noneP
    | refine Keep.someP ?_
    | skip
  all_goals with_reducible repeat' first
    | assumption
    | apply State.violation_keep
    | apply State.gateWrite_keep
    | apply State.domRequest_keep
    | apply State.swReset_keep hm
    | apply State.mbCmd_keep
    | apply State.wr_keep
    | apply State.remoteReset_keep
    | apply State.wdKick_keep
    | apply State.extendCmd_keep
    | apply State.rcvGo_keep
    | apply Keep.ite
    | intro _
  rename_i u e
  split at e <;> cases e
  rename_i e
  exact mboxOwnerReg_keep h _ e

theorem State.onFenceWrite_keep {m : Bool} {s0 t : State} (h : Keep m s0 t) {x1 x2} : Keep m s0 (State.onFenceWrite t x1 x2) := by
  unfold State.onFenceWrite
  with_reducible repeat' first
    | assumption
    | apply State.put_keep
    | apply State.modCtl_keep
    | intro _
    | split

theorem State.setCopyEng_keep {m : Bool} {s0 t : State} (h : Keep m s0 t) {x1 x2} : Keep m s0 (State.setCopyEng t x1 x2) := by
  unfold State.setCopyEng
  with_reducible repeat' first
    | assumption
    | apply Keep.ite
    | apply Keep.forL
    | intro _
    | (apply Keep.upd; first | assumption | apply Keep.ite | apply Keep.forL | split)
    | split
    | refine Keep.ofPair (by assumption) ?_

theorem State.descRecord_keep {m : Bool} {s0 t : State} (h : Keep m s0 t) {x1 x2 x3 x4} : Keep m s0 (State.descRecord t x1 x2 x3 x4) := by
  unfold State.descRecord
  with_reducible repeat' first
    | assumption
    | apply State.jrecTo_keep
    | apply Keep.ite
    | intro _

theorem State.descNow_keep {m : Bool} {s0 t : State} (h : Keep m s0 t) {x1 x2} : Keep m s0 (State.descNow t x1 x2) := by
  unfold State.descNow
  with_reducible repeat' first
    | assumption
    | apply State.setRing_keep
    | apply State.descRecord_keep
    | (apply Keep.upd; first | apply State.setRing_keep | apply State.descRecord_keep | split)
    | split

theorem State.descEnd_keep {m : Bool} {s0 t : State} (h : Keep m s0 t) {x1 x2 x3} : Keep m s0 (State.descEnd t x1 x2 x3) := by
  unfold State.descEnd
  with_reducible repeat' first
    | assumption
    | apply State.setRing_keep

theorem State.copyPurged_keep {m : Bool} {s0 t : State} (h : Keep m s0 t) {x1 x2} : Keep m s0 (State.copyPurged t x1 x2) := by
  unfold State.copyPurged
  with_reducible repeat' first
    | assumption
    | apply State.descNow_keep
    | apply State.descEnd_keep
    | apply State.stat_keep

theorem State.copyIdle_keep {m : Bool} {s0 t : State} (h : Keep m s0 t) {x1} : Keep m s0 (State.copyIdle t x1) := by
  unfold State.copyIdle
  with_reducible repeat' first
    | assumption
    | apply State.put_keep

theorem State.copyPurgeQueue_keep {m : Bool} {s0 t : State} (h : Keep m s0 t) {x1} : Keep m s0 (State.copyPurgeQueue t x1).1 := by
  unfold State.copyPurgeQueue
  with_reducible repeat' first
    | assumption
    | apply State.setCopyEng_keep
    | apply State.copyPurged_keep
    | apply State.copyIdle_keep
    | apply Keep.forL
    | intro _

theorem State.setQuiesce_keep {m : Bool} {s0 t : State} (h : Keep m s0 t) {x1 x2} : Keep m s0 (State.setQuiesce t x1 x2) := by
  unfold State.setQuiesce
  with_reducible repeat' first
    | assumption
    | apply Keep.ite
    | apply Keep.forL
    | intro _
    | (apply Keep.upd; first | assumption | apply Keep.ite | apply Keep.forL | split)
    | split
    | refine Keep.ofPair (by assumption) ?_

theorem State.quiesceStart_keep {m : Bool} {s0 t : State} (h : Keep m s0 t) {x1 x2 x3} : Keep m s0 (State.quiesceStart t x1 x2 x3) := by
  unfold State.quiesceStart
  with_reducible repeat' first
    | assumption
    | apply State.setRing_keep
    | apply State.copyPurgeQueue_keep
    | apply State.setQuiesce_keep
    | apply State.put_keep
    | apply Keep.forL
    | intro _

theorem State.quiesceWrite_keep {m : Bool} {s0 t : State} (h : Keep m s0 t) {x1} : Keep m s0 (State.quiesceWrite t x1) := by
  unfold State.quiesceWrite
  with_reducible repeat' first
    | assumption
    | apply State.put_keep
    | apply State.quiesceStart_keep
    | apply Keep.ite
    | intro _

theorem State.resumeWrite_keep {m : Bool} {s0 t : State} (h : Keep m s0 t) {x1} : Keep m s0 (State.resumeWrite t x1) := by
  unfold State.resumeWrite
  with_reducible repeat' first
    | assumption
    | apply State.put_keep
    | apply State.fnReset_keep
    | apply State.setQuiesce_keep
    | apply Keep.forL
    | intro _

theorem State.quiesceBit_keep {m : Bool} {s0 t : State} (h : Keep m s0 t) {x1 x2 x3} : Keep m s0 (State.quiesceBit t x1 x2 x3) := by
  unfold State.quiesceBit
  with_reducible repeat' first
    | assumption
    | apply State.holdRecord_keep
    | apply State.refuse_keep
    | apply State.quiesceWrite_keep
    | apply State.resumeWrite_keep
    | apply State.put_keep
    | intro _
    | split

theorem State.startEnable_keep {m : Bool} {s0 t : State} (h : Keep m s0 t) {x1 x2 x3} : Keep m s0 (State.startEnable t x1 x2 x3) := by
  unfold State.startEnable
  with_reducible repeat' first
    | assumption
    | apply State.checkStart_keep
    | apply State.modCtl_keep

theorem State.enableWrite_keep {m : Bool} {s0 t : State} (h : Keep m s0 t) {x1 x2} : Keep m s0 (State.enableWrite t x1 x2) := by
  unfold State.enableWrite
  with_reducible repeat' first
    | assumption
    | apply State.refuse_keep
    | apply State.put_keep
    | apply State.setCtl_keep
    | apply State.startEnable_keep
    | apply Keep.ite
    | intro _

theorem State.leaveGroup_keep {m : Bool} {s0 t : State} (h : Keep m s0 t) {x1} : Keep m s0 (State.leaveGroup t x1) := by
  unfold State.leaveGroup
  with_reducible repeat' first
    | assumption
    | apply State.modCtl_keep

theorem State.disableWrite_keep {m : Bool} {s0 t : State} (h : Keep m s0 t) {x1 x2} : Keep m s0 (State.disableWrite t x1 x2) := by
  unfold State.disableWrite
  with_reducible repeat' first
    | assumption
    | apply State.holdRecord_keep
    | apply State.refuse_keep
    | apply State.withdraw_keep
    | apply State.put_keep
    | apply State.leaveGroup_keep
    | apply State.setCtl_keep
    | apply State.stopBlock_keep
    | apply Keep.ite
    | intro _
    | split

theorem State.startCommit_keep {m : Bool} {s0 t : State} (h : Keep m s0 t) {x1 x2 x3} : Keep m s0 (State.startCommit t x1 x2 x3) := by
  unfold State.startCommit
  with_reducible repeat' first
    | assumption
    | apply State.checkStart_keep
    | apply State.modCtl_keep

theorem State.takeCommit_keep {m : Bool} {s0 t : State} (h : Keep m s0 t) {x1 x2 x3} : Keep m s0 (State.takeCommit t x1 x2 x3) := by
  unfold State.takeCommit
  with_reducible repeat' first
    | assumption
    | apply State.modCtl_keep
    | apply State.startCommit_keep
    | apply Keep.ite
    | apply Keep.forL
    | intro _
    | (apply Keep.upd; first | assumption | apply State.modCtl_keep | apply State.startCommit_keep | apply Keep.ite
                             | apply Keep.forL | split)
    | split
    | refine Keep.ofPair (by assumption) ?_

theorem State.commitWrite_keep {m : Bool} {s0 t : State} (h : Keep m s0 t) {x1 x2} : Keep m s0 (State.commitWrite t x1 x2) := by
  unfold State.commitWrite
  with_reducible repeat' first
    | assumption
    | apply State.refuse_keep
    | apply State.modCtl_keep
    | apply State.takeCommit_keep
    | apply Keep.ite
    | apply Keep.forL
    | intro _
    | (apply Keep.upd; first | assumption | apply State.refuse_keep | apply State.modCtl_keep
                             | apply State.takeCommit_keep | apply Keep.ite | apply Keep.forL | split)
    | split
    | refine Keep.ofPair (by assumption) ?_

theorem State.setRingState_keep {m : Bool} {s0 t : State} (h : Keep m s0 t) {x1 x2} : Keep m s0 (State.setRingState t x1 x2) := by
  unfold State.setRingState
  with_reducible repeat' first
    | assumption
    | apply State.ringPut_keep
    | apply State.ringSettle_keep

theorem State.ringClear_keep {m : Bool} {s0 t : State} (h : Keep m s0 t) {x1} : Keep m s0 (State.ringClear t x1) := by
  unfold State.ringClear
  with_reducible repeat' first
    | assumption
    | apply State.setRingState_keep
    | apply State.ringPut_keep
    | apply State.setRing_keep

theorem State.costFlush_keep {m : Bool} {s0 t : State} (h : Keep m s0 t) {x1} : Keep m s0 (State.costFlush t x1) := by
  unfold State.costFlush
  with_reducible repeat' first
    | assumption
    | apply Keep.ite
    | apply Keep.forL
    | intro _
    | (apply Keep.upd; first | assumption | apply Keep.ite | apply Keep.forL | split)
    | split
    | refine Keep.ofPair (by assumption) ?_

theorem State.instReset_keep {m : Bool} {s0 t : State} (hm : m = true) (h : Keep m s0 t) {x1} : Keep m s0 (State.instReset t x1) := by
  unfold State.instReset
  with_reducible repeat' first
    | assumption
    | apply State.ringClear_keep
    | apply State.fenceMirror_keep hm
    | apply State.setFence_keep
    | apply State.l2Clean_keep hm
    | apply State.costFlush_keep
    | apply State.put_keep
    | apply State.jHeader_keep hm
    | apply State.setJournal_keep
    | apply Keep.ite
    | apply Keep.ite1
    | apply Keep.forL
    | intro _
    | (apply Keep.upd; first | assumption | apply State.ringClear_keep | apply State.fenceMirror_keep hm
                             | apply State.setFence_keep | apply State.l2Clean_keep hm | apply State.costFlush_keep
                             | apply State.put_keep | apply State.jHeader_keep hm | apply State.setJournal_keep
                             | apply Keep.ite | apply Keep.ite1 | apply Keep.forL | split)
    | split
    | refine Keep.ofPair (by assumption) ?_

theorem State.instWrite_keep {m : Bool} {s0 t : State} (hm : m = true) (h : Keep m s0 t) {x1 x2} : Keep m s0 (State.instWrite t x1 x2) := by
  unfold State.instWrite
  with_reducible repeat' first
    | assumption
    | apply State.holdRecord_keep
    | apply State.refuse_keep
    | apply State.modCtl_keep
    | apply State.instReset_keep hm
    | apply Keep.ite
    | apply Keep.forL
    | intro _
    | (apply Keep.upd; first | assumption | apply State.holdRecord_keep | apply State.refuse_keep
                             | apply State.modCtl_keep | apply State.instReset_keep hm | apply Keep.ite
                             | apply Keep.forL | split)
    | split
    | refine Keep.ofPair (by assumption) ?_

theorem State.resetBit_keep {m : Bool} {s0 t : State} (hm : m = true) (h : Keep m s0 t) {x1 x2} : Keep m s0 (State.resetBit t x1 x2) := by
  unfold State.resetBit
  with_reducible repeat' first
    | assumption
    | apply State.instWrite_keep hm
    | apply State.blockReset_keep
    | apply Keep.ite
    | apply Keep.forL
    | intro _
    | (apply Keep.upd; first | assumption | apply State.instWrite_keep hm | apply State.blockReset_keep
                             | apply Keep.ite | apply Keep.forL | split)
    | split
    | refine Keep.ofPair (by assumption) ?_

theorem State.ctrlWrite_keep {m : Bool} {s0 t : State} (hm : m = true) (h : Keep m s0 t) {x1 x2 x3} : Keep m s0 (State.ctrlWrite t x1 x2 x3) := by
  unfold State.ctrlWrite
  with_reducible repeat' first
    | assumption
    | apply State.autoWrite_keep
    | apply State.onFenceWrite_keep
    | apply State.quiesceBit_keep
    | apply State.enableWrite_keep
    | apply State.disableWrite_keep
    | apply State.commitWrite_keep
    | apply State.resetBit_keep hm
    | apply Keep.ite
    | apply Keep.forL
    | intro _
    | (apply Keep.upd; first | assumption | apply State.autoWrite_keep | apply State.onFenceWrite_keep
                             | apply State.quiesceBit_keep | apply State.enableWrite_keep
                             | apply State.disableWrite_keep | apply State.commitWrite_keep
                             | apply State.resetBit_keep hm | apply Keep.ite | apply Keep.forL | split)
    | split
    | refine Keep.ofPair (by assumption) ?_

theorem State.intClear_keep {m : Bool} {s0 t : State} (h : Keep m s0 t) {x1 x2} : Keep m s0 (State.intClear t x1 x2) := by
  unfold State.intClear
  with_reducible repeat' first
    | assumption
    | apply State.wr_keep
    | apply State.endReact_keep
    | apply State.dropLine_keep
    | apply Keep.ite
    | apply Keep.forN
    | intro _
    | (apply Keep.upd; first | apply State.wr_keep | apply State.endReact_keep | apply State.dropLine_keep
                             | apply Keep.ite | apply Keep.forN)

theorem State.intEnable_keep {m : Bool} {s0 t : State} (h : Keep m s0 t) {x1 x2} : Keep m s0 (State.intEnable t x1 x2) := by
  unfold State.intEnable
  with_reducible repeat' first
    | assumption
    | apply State.dropLine_keep
    | apply State.withLine_keep
    | apply State.wr_keep
    | intro _

theorem State.intForce_keep {m : Bool} {s0 t : State} (h : Keep m s0 t) {x1 x2} : Keep m s0 (State.intForce t x1 x2) := by
  unfold State.intForce
  with_reducible repeat' first
    | assumption
    | apply State.intSet_keep

theorem State.modeWrite_keep {m : Bool} {s0 t : State} (h : Keep m s0 t) {x1} : Keep m s0 (State.modeWrite t x1) := by
  unfold State.modeWrite
  with_reducible repeat' first
    | assumption
    | apply State.checkStart_keep
    | apply State.put_keep
    | (apply Keep.upd; first | apply State.checkStart_keep | apply State.put_keep)

theorem State.routeWrite_keep {m : Bool} {s0 t : State} (h : Keep m s0 t) {x1} : Keep m s0 (State.routeWrite t x1) := by
  unfold State.routeWrite
  with_reducible repeat' first
    | assumption
    | apply State.checkStart_keep
    | (apply Keep.upd; first | apply State.checkStart_keep)

theorem State.coefWrite_keep {m : Bool} {s0 t : State} (h : Keep m s0 t) {x1 x2} : Keep m s0 (State.coefWrite t x1 x2) := by
  unfold State.coefWrite
  with_reducible repeat' first
    | assumption
    | apply State.intBit_keep
    | apply State.wr_keep
    | apply Keep.ite
    | apply Keep.forL
    | intro _
    | (apply Keep.upd; first | assumption | apply State.intBit_keep | apply State.wr_keep | apply Keep.ite
                             | apply Keep.forL | split)
    | split
    | refine Keep.ofPair (by assumption) ?_

theorem State.lutWrite_keep {m : Bool} {s0 t : State} (h : Keep m s0 t) {x1 x2} : Keep m s0 (State.lutWrite t x1 x2) := by
  unfold State.lutWrite
  try dsimp only
  with_reducible repeat' first
    | assumption
    | apply State.intBit_keep
    | apply State.wr_keep
    | apply Keep.ite
    | apply Keep.forL
    | intro _
    | (apply Keep.upd; first | assumption | apply State.intBit_keep | apply State.wr_keep | apply Keep.ite
                             | apply Keep.forL | split)
    | split
    | refine Keep.ofPair (by assumption) ?_

theorem State.panelCmd_keep {m : Bool} {s0 t : State} (h : Keep m s0 t) {x1 x2} : Keep m s0 (State.panelCmd t x1 x2) := by
  unfold State.panelCmd
  with_reducible repeat' first
    | assumption
    | apply State.wr_keep
    | apply State.panelRestart_keep
    | apply Keep.ite
    | intro _

theorem State.storeResult_keep {m : Bool} {s0 t : State} (h : Keep m s0 t) {x1 x2} : Keep m s0 (State.storeResult t x1 x2) := by
  unfold State.storeResult
  with_reducible repeat' first
    | assumption
    | apply State.put_keep

theorem State.storeLoad_keep {m : Bool} {s0 t : State} (h : Keep m s0 t) : Keep m s0 (State.storeLoad t) := by
  unfold State.storeLoad
  with_reducible repeat' first
    | assumption
    | apply State.storeResult_keep
    | apply State.put_keep
    | apply Keep.ite
    | intro _
    | (apply Keep.upd; first | apply State.storeResult_keep | apply State.put_keep | apply Keep.ite)

theorem State.storeFree_keep {m : Bool} {s0 t : State} (h : Keep m s0 t) : Keep m s0 (State.storeFree t) := by
  unfold State.storeFree
  with_reducible repeat' first
    | assumption
    | apply State.storeResult_keep
    | apply State.put_keep
    | apply Keep.ite
    | intro _

theorem State.storeCmd_keep {m : Bool} {s0 t : State} (h : Keep m s0 t) {x1} : Keep m s0 (State.storeCmd t x1) := by
  unfold State.storeCmd
  with_reducible repeat' first
    | assumption
    | apply State.storeLoad_keep
    | apply State.storeFree_keep
    | apply Keep.ite
    | intro _

theorem State.trigStop_keep {m : Bool} {s0 t : State} (h : Keep m s0 t) {x1} : Keep m s0 (State.trigStop t x1) := by
  unfold State.trigStop
  with_reducible repeat' first
    | assumption
    | apply State.dequeue_keep
    | apply State.showPlay_keep
    | apply State.modHch_keep
    | apply State.effectEnd_keep
    | intro _
    | (apply Keep.upd; first | apply State.dequeue_keep | apply State.showPlay_keep | apply State.modHch_keep
                             | apply State.effectEnd_keep | split)
    | split

theorem State.trigger_keep {m : Bool} {s0 t : State} (h : Keep m s0 t) {x1 x2} : Keep m s0 (State.trigger t x1 x2) := by
  unfold State.trigger
  with_reducible repeat' first
    | assumption
    | apply State.modHch_keep
    | apply State.trigDrop_keep
    | apply Keep.ite
    | intro _

theorem State.trigWrite_keep {m : Bool} {s0 t : State} (h : Keep m s0 t) {x1 x2} : Keep m s0 (State.trigWrite t x1 x2) := by
  unfold State.trigWrite
  with_reducible repeat' first
    | assumption
    | apply State.trigStop_keep
    | apply State.trigger_keep
    | apply Keep.ite
    | intro _

theorem State.lineStart_keep {m : Bool} {s0 t : State} (h : Keep m s0 t) {x1 x2} : Keep m s0 (State.lineStart t x1 x2) := by
  unfold State.lineStart
  with_reducible repeat' first
    | assumption
    | apply Keep.ite
    | apply Keep.forL
    | intro _
    | (apply Keep.upd; first | assumption | apply Keep.ite | apply Keep.forL | split)
    | split
    | refine Keep.ofPair (by assumption) ?_

theorem State.trigFire_keep {m : Bool} {s0 t : State} (h : Keep m s0 t) {x1} : Keep m s0 (State.trigFire t x1) := by
  unfold State.trigFire
  with_reducible repeat' first
    | assumption
    | apply State.lineStart_keep
    | apply Keep.ite
    | intro _

theorem State.portRestart_keep {m : Bool} {s0 t : State} (h : Keep m s0 t) {x1} : Keep m s0 (State.portRestart t x1) := by
  unfold State.portRestart
  with_reducible repeat' first
    | assumption
    | apply State.linkGone_keep
    | apply State.put_keep
    | apply State.modTport_keep
    | apply Keep.ite
    | intro _

theorem State.cvuBytes_keep {m : Bool} {s0 t : State} (h : Keep m s0 t) {x1 x2} : Keep m s0 (State.cvuBytes t x1 x2) := by
  unfold State.cvuBytes
  with_reducible repeat' first
    | assumption
    | apply State.setCvu_keep

theorem State.feedData_keep {m : Bool} {s0 t : State} (h : Keep m s0 t) {x1 x2 x3} : Keep m s0 (State.feedData t x1 x2 x3) := by
  unfold State.feedData
  with_reducible repeat' first
    | assumption
    | apply State.stat64_keep
    | apply State.cvuBytes_keep
    | apply State.stray_keep
    | apply Keep.ite
    | intro _

theorem State.cvuOpen_keep {m : Bool} {s0 t : State} (h : Keep m s0 t) {x1} : Keep m s0 (State.cvuOpen t x1) := by
  unfold State.cvuOpen
  with_reducible repeat' first
    | assumption
    | apply State.put_keep
    | apply State.setCvu_keep

theorem State.feedStart_keep {m : Bool} {s0 t : State} (h : Keep m s0 t) {x1} : Keep m s0 (State.feedStart t x1) := by
  unfold State.feedStart
  with_reducible repeat' first
    | assumption
    | apply State.cvuOpen_keep
    | apply State.cvuAbort_keep
    | apply State.cvuBytes_keep
    | apply Keep.ite
    | intro _

theorem State.cvuFinish_keep {m : Bool} {s0 t : State} (h : Keep m s0 t) {x1} : Keep m s0 (State.cvuFinish t x1) := by
  unfold State.cvuFinish
  with_reducible repeat' first
    | assumption
    | apply State.put_keep
    | apply State.setCvu_keep
    | apply State.put64_keep
    | apply State.intSet_keep
    | apply State.stat_keep
    | apply State.jrecOwn_keep
    | apply State.hit_keep
    | apply Keep.ite
    | intro _

theorem State.feedEnd_keep {m : Bool} {s0 t : State} (h : Keep m s0 t) {x1 x2} : Keep m s0 (State.feedEnd t x1 x2) := by
  unfold State.feedEnd
  with_reducible repeat' first
    | assumption
    | apply State.inc_keep
    | apply State.cvuFinish_keep
    | apply State.stray_keep
    | apply Keep.ite
    | intro _

theorem cvuReg_keep {m : Bool} {s0 t : State} (h : Keep m s0 t) {x0 x1 x2 x3} : ∀ w, (cvuReg x0 x1 x2 x3 t) = some w → Keep m s0 w := by
  unfold cvuReg
  with_reducible repeat' first
    | assumption
    | apply State.feedData_keep
    | apply State.put_keep
    | apply State.feedStart_keep
    | apply State.feedEnd_keep
    | refine Keep.some' ?_
    | exact Keep.none'
    | split
    | intro _
    | split

theorem deccReg_keep {m : Bool} {s0 t : State} (h : Keep m s0 t) {x0 x1 x2} : ∀ w, (deccReg x0 x1 x2 t) = some w → Keep m s0 w := by
  unfold deccReg
  with_reducible repeat' first
    | assumption
    | apply State.put_keep
    | apply State.violation_keep
    | refine Keep.some' ?_
    | exact Keep.none'
    | split
    | intro _
    | split

theorem State.endReactAll_keep {m : Bool} {s0 t : State} (h : Keep m s0 t) {x1} : Keep m s0 (State.endReactAll t x1) := by
  unfold State.endReactAll
  with_reducible repeat' first
    | assumption
    | apply State.endReact_keep
    | apply Keep.forN
    | intro _

theorem State.nmiAck_keep {m : Bool} {s0 t : State} (h : Keep m s0 t) {x1 x2} : Keep m s0 (State.nmiAck t x1 x2) := by
  unfold State.nmiAck
  with_reducible repeat' first
    | assumption
    | apply State.put_keep
    | apply State.endReactAll_keep
    | apply Keep.ite
    | intro _

theorem State.pinRelease_keep {m : Bool} {s0 t : State} (h : Keep m s0 t) : Keep m s0 (State.pinRelease t) := by
  unfold State.pinRelease
  with_reducible repeat' first
    | assumption
    | apply State.endReactAll_keep
    | apply State.put_keep

theorem State.inject_keep {m : Bool} {s0 t : State} (h : Keep m s0 t) {x1 x2} : Keep m s0 (State.inject t x1 x2) := by
  unfold State.inject
  with_reducible repeat' first
    | assumption
    | apply State.stray_keep
    | apply State.hit_keep
    | apply Keep.ite
    | intro _

theorem State.safeBegin_keep {m : Bool} {s0 t : State} (h : Keep m s0 t) {x1 x2} : Keep m s0 (State.safeBegin t x1 x2) := by
  unfold State.safeBegin
  with_reducible repeat' first
    | assumption
    | apply State.put_keep
    | apply State.put64_keep
    | apply State.triggered_keep
    | (apply Keep.upd; first | apply State.put_keep | apply State.put64_keep | apply State.triggered_keep)

theorem State.selfFault_keep {m : Bool} {s0 t : State} (h : Keep m s0 t) {x1 x2} : Keep m s0 (State.selfFault t x1 x2) := by
  unfold State.selfFault
  with_reducible repeat' first
    | assumption
    | apply State.safeBegin_keep
    | apply State.writeFF_keep
    | apply Keep.ite
    | apply Keep.forL
    | intro _
    | (apply Keep.upd; first | assumption | apply State.safeBegin_keep | apply State.writeFF_keep | apply Keep.ite
                             | apply Keep.forL | split)
    | split
    | refine Keep.ofPair (by assumption) ?_

theorem fcollReg_keep {m : Bool} {s0 t : State} (h : Keep m s0 t) {x0 x1 x2} : ∀ w, (fcollReg x0 x1 x2 t) = some w → Keep m s0 w := by
  unfold fcollReg
  with_reducible repeat' first
    | assumption
    | apply State.nmiAck_keep
    | apply State.pinRelease_keep
    | apply State.inject_keep
    | apply State.selfFault_keep
    | refine Keep.some' ?_
    | exact Keep.none'
    | split
    | intro _
    | split

theorem State.slotClear_keep {m : Bool} {s0 t : State} (h : Keep m s0 t) {x1} : Keep m s0 (State.slotClear t x1) := by
  unfold State.slotClear
  with_reducible repeat' first
    | assumption
    | apply State.setSlot_keep
    | apply State.setValid_keep
    | apply Keep.ite
    | apply Keep.forN
    | intro _

theorem fcapReg_keep {m : Bool} {s0 t : State} (h : Keep m s0 t) {x0 x1 x2} : ∀ w, (fcapReg x0 x1 x2 t) = some w → Keep m s0 w := by
  unfold fcapReg
  with_reducible repeat' first
    | assumption
    | apply State.slotClear_keep
    | refine Keep.some' ?_
    | exact Keep.none'
    | split
    | split

theorem State.logPop_keep {m : Bool} {s0 t : State} (h : Keep m s0 t) : Keep m s0 (State.logPop t) := by
  unfold State.logPop
  with_reducible repeat' first
    | assumption
    | apply Keep.ite
    | apply Keep.forL
    | intro _
    | (apply Keep.upd; first | assumption | apply Keep.ite | apply Keep.forL | split)
    | split
    | refine Keep.ofPair (by assumption) ?_

theorem mlogReg_keep {m : Bool} {s0 t : State} (h : Keep m s0 t) {x0 x1 x2} : ∀ w, (mlogReg x0 x1 x2 t) = some w → Keep m s0 w := by
  unfold mlogReg
  with_reducible repeat' first
    | assumption
    | apply State.logPop_keep
    | refine Keep.some' ?_
    | exact Keep.none'
    | split
    | intro _
    | split

theorem State.otpProgram_keep {m : Bool} {s0 t : State} (h : Keep m s0 t) : Keep m s0 (State.otpProgram t) := by
  unfold State.otpProgram
  with_reducible repeat' first
    | assumption
    | apply State.put_keep
    | apply Keep.ite
    | intro _
    | (apply Keep.upd; first | apply State.put_keep | apply Keep.ite)

theorem State.otpRead_keep {m : Bool} {s0 t : State} (h : Keep m s0 t) : Keep m s0 (State.otpRead t) := by
  unfold State.otpRead
  with_reducible repeat' first
    | assumption
    | apply State.put_keep
    | apply State.wr_keep
    | apply Keep.ite
    | intro _

theorem otpReg_keep {m : Bool} {s0 t : State} (h : Keep m s0 t) {x0 x1 x2} : ∀ w, (otpReg x0 x1 x2 t) = some w → Keep m s0 w := by
  unfold otpReg
  with_reducible repeat' first
    | assumption
    | apply State.otpProgram_keep
    | apply State.otpRead_keep
    | apply State.violation_keep
    | refine Keep.some' ?_
    | exact Keep.none'
    | split
    | intro _
    | split

theorem backupReg_keep {m : Bool} {s0 t : State} (h : Keep m s0 t) {x0 x1 x2} : ∀ w, (backupReg x0 x1 x2 t) = some w → Keep m s0 w := by
  unfold backupReg
  with_reducible repeat' first
    | assumption
    | apply Keep.ite
    | apply Keep.forL
    | refine Keep.iteO ?_ ?_
    | refine Keep.some' ?_
    | exact Keep.none'
    | split
    | intro _
    | (apply Keep.upd; first | assumption | apply Keep.ite | apply Keep.forL | split)
    | split
    | refine Keep.ofPair (by assumption) ?_
    | refine Keep.ofSome (by assumption) ?_
    | refine Keep.ofSomeP (by assumption) ?_

theorem gpioReg_keep {m : Bool} {s0 t : State} (h : Keep m s0 t) {x0 x1 x2} : ∀ w, (gpioReg x0 x1 x2 t) = some w → Keep m s0 w := by
  unfold gpioReg
  with_reducible repeat' first
    | assumption
    | apply State.put_keep
    | refine Keep.some' ?_
    | exact Keep.none'
    | split
    | split

theorem bcReg_keep {m : Bool} {s0 t : State} (h : Keep m s0 t) {x0 x1 x2} : ∀ w, (bcReg x0 x1 x2 t) = some w → Keep m s0 w := by
  unfold bcReg
  with_reducible repeat' first
    | assumption
    | apply State.bcXfer_keep
    | apply State.bcPush_keep
    | refine Keep.iteO ?_ ?_
    | refine Keep.some' ?_
    | exact Keep.none'
    | intro _

theorem State.xspiDropGo_keep {m : Bool} {s0 t : State} (h : Keep m s0 t) {x1 x2} : Keep m s0 (State.xspiDropGo t x1 x2) := by
  unfold State.xspiDropGo
  with_reducible repeat' first
    | assumption
    | apply State.stray_keep
    | apply State.put_keep

theorem State.xspiCmd_keep {m : Bool} {s0 t : State} (h : Keep m s0 t) {x1 x2} : Keep m s0 (State.xspiCmd t x1 x2) := by
  unfold State.xspiCmd
  with_reducible repeat' first
    | assumption
    | apply State.xspiDropGo_keep
    | apply State.modXspi_keep
    | apply Keep.ite
    | intro _

theorem State.xspiPush_keep {m : Bool} {s0 t : State} (h : Keep m s0 t) {x1 x2} : Keep m s0 (State.xspiPush t x1 x2) := by
  unfold State.xspiPush
  with_reducible repeat' first
    | assumption
    | apply State.stray_keep
    | apply State.modXspi_keep
    | apply Keep.ite
    | intro _

end Sys2Proof.Machine
end

