-- ==== Sys2Proof/Laws/KeepD.lean ====
section
/-! SUPPORT. `Keep` for the operations of the model, callees first (continued). -/

set_option maxRecDepth 4000

namespace Sys2Proof.Machine

theorem State.dmaCmd_keep {m : Bool} {s0 t : State} (h : Keep m s0 t) {x1 x2} : Keep m s0 (State.dmaCmd t x1 x2) := by
  unfold State.dmaCmd
  with_reducible repeat' first
    | assumption
    | apply State.xspiDropGo_keep
    | apply State.modXspi_keep
    | apply Keep.ite
    | intro _

theorem xspiReg_keep {m : Bool} {s0 t : State} (h : Keep m s0 t) {x0 x1 x2} : ∀ w, (xspiReg x0 x1 x2 t) = some w → Keep m s0 w := by
  unfold xspiReg
  with_reducible repeat' first
    | assumption
    | apply State.xspiCmd_keep
    | apply State.xspiPush_keep
    | apply State.dmaCmd_keep
    | refine Keep.some' ?_
    | exact Keep.none'
    | split
    | split

theorem State.l2FlushAll_keep {m : Bool} {s0 t : State} (h : Keep m s0 t) : Keep m s0 (State.l2FlushAll t) := by
  unfold State.l2FlushAll
  with_reducible repeat' first
    | assumption
    | apply State.put_keep
    | (apply Keep.upd; first | apply State.put_keep)

theorem gl2Reg_keep {m : Bool} {s0 t : State} (h : Keep m s0 t) {x0 x1 x2} : ∀ w, (gl2Reg x0 x1 x2 t) = some w → Keep m s0 w := by
  unfold gl2Reg
  with_reducible repeat' first
    | assumption
    | apply State.l2FlushAll_keep
    | refine Keep.some' ?_
    | exact Keep.none'
    | split
    | intro _
    | split

theorem State.costFlushMask_keep {m : Bool} {s0 t : State} (h : Keep m s0 t) {x1} : Keep m s0 (State.costFlushMask t x1) := by
  unfold State.costFlushMask
  with_reducible repeat' first
    | assumption
    | apply State.costFlush_keep
    | apply Keep.ite
    | apply Keep.forN
    | intro _

theorem gschedReg_keep {m : Bool} {s0 t : State} (h : Keep m s0 t) {x0 x1 x2} : ∀ w, (gschedReg x0 x1 x2 t) = some w → Keep m s0 w := by
  unfold gschedReg
  with_reducible repeat' first
    | assumption
    | apply State.costFlushMask_keep
    | refine Keep.some' ?_
    | exact Keep.none'
    | split
    | split

theorem State.ctxWrite_keep {m : Bool} {s0 t : State} (h : Keep m s0 t) {x1 x2 x3} : Keep m s0 (State.ctxWrite t x1 x2 x3) := by
  unfold State.ctxWrite
  with_reducible repeat' first
    | assumption
    | apply State.stray_keep
    | apply State.wr_keep
    | apply Keep.ite
    | intro _

theorem worldsReg_keep {m : Bool} {s0 t : State} (h : Keep m s0 t) {x0 x1 x2} : ∀ w, (worldsReg x0 x1 x2 t) = some w → Keep m s0 w := by
  unfold worldsReg
  try dsimp only
  with_reducible repeat' first
    | assumption
    | apply State.ctxWrite_keep
    | apply State.refuse_keep
    | apply State.wr_keep
    | apply State.secureTrigger_keep
    | apply Keep.ite
    | apply Keep.forL
    | apply Keep.forN
    | apply Keep.forL1
    | apply Keep.forN1
    | apply Keep.foldl
    | apply Keep.foldl1
    | refine Keep.iteO ?_ ?_
    | refine Keep.some' ?_
    | exact Keep.none'
    | split
    | intro _
    | (apply Keep.upd; first | assumption | apply State.ctxWrite_keep | apply State.refuse_keep | apply State.wr_keep
                             | apply State.secureTrigger_keep | apply Keep.ite | apply Keep.forL | apply Keep.forN
                             | apply Keep.forL1 | apply Keep.forN1 | apply Keep.foldl | apply Keep.foldl1 | split)
    | split
    | refine Keep.ofPair (by assumption) ?_
    | refine Keep.ofSome (by assumption) ?_
    | refine Keep.ofSomeP (by assumption) ?_

theorem State.potWriteCmd_keep {m : Bool} {s0 t : State} (h : Keep m s0 t) : Keep m s0 (State.potWriteCmd t) := by
  unfold State.potWriteCmd
  with_reducible repeat' first
    | assumption
    | apply State.put_keep
    | apply Keep.ite
    | intro _
    | (apply Keep.upd; first | apply State.put_keep | apply Keep.ite)

theorem State.potAnswer_keep {m : Bool} {s0 t : State} (h : Keep m s0 t) {x1 x2} : Keep m s0 (State.potAnswer t x1 x2) := by
  unfold State.potAnswer
  with_reducible repeat' first
    | assumption
    | apply State.put_keep
    | apply Keep.ite
    | apply Keep.forL
    | intro _
    | (apply Keep.upd; first | assumption | apply State.put_keep | apply Keep.ite | apply Keep.forL | split)
    | split
    | refine Keep.ofPair (by assumption) ?_

theorem State.potReadCmd_keep {m : Bool} {s0 t : State} (h : Keep m s0 t) : Keep m s0 (State.potReadCmd t) := by
  unfold State.potReadCmd
  with_reducible repeat' first
    | assumption
    | apply State.put_keep
    | apply State.potAnswer_keep
    | apply State.dramScan_keep
    | apply Keep.ite
    | apply Keep.ite1
    | apply Keep.forL
    | intro _
    | (apply Keep.upd; first | assumption | apply State.put_keep | apply State.potAnswer_keep
                             | apply State.dramScan_keep | apply Keep.ite | apply Keep.ite1 | apply Keep.forL | split)
    | split
    | refine Keep.ofPair (by assumption) ?_

theorem potReg_keep {m : Bool} {s0 t : State} (h : Keep m s0 t) {x0 x1 x2} : ∀ w, (potReg x0 x1 x2 t) = some w → Keep m s0 w := by
  unfold potReg
  with_reducible repeat' first
    | assumption
    | apply State.potWriteCmd_keep
    | apply State.potReadCmd_keep
    | refine Keep.some' ?_
    | exact Keep.none'
    | split
    | intro _
    | split

theorem State.coveResult_keep {m : Bool} {s0 t : State} (h : Keep m s0 t) {x1} : Keep m s0 (State.coveResult t x1) := by
  unfold State.coveResult
  with_reducible repeat' first
    | assumption
    | apply State.put_keep

theorem State.setCove_keep {m : Bool} {s0 t : State} (h : Keep m s0 t) {x1 x2} : Keep m s0 (State.setCove t x1 x2) := by
  unfold State.setCove
  with_reducible repeat' first
    | assumption
    | apply State.jrec_keep
    | apply Keep.ite
    | apply Keep.forL
    | intro _
    | (apply Keep.upd; first | assumption | apply State.jrec_keep | apply Keep.ite | apply Keep.forL | split)
    | split
    | refine Keep.ofPair (by assumption) ?_

theorem State.coveBuild_keep {m : Bool} {s0 t : State} (h : Keep m s0 t) {x1} : Keep m s0 (State.coveBuild t x1) := by
  unfold State.coveBuild
  with_reducible repeat' first
    | assumption
    | apply State.coveResult_keep
    | apply State.setMeas_keep
    | apply State.setCove_keep
    | apply Keep.ite
    | intro _

theorem State.coveSeal_keep {m : Bool} {s0 t : State} (h : Keep m s0 t) {x1} : Keep m s0 (State.coveSeal t x1) := by
  unfold State.coveSeal
  with_reducible repeat' first
    | assumption
    | apply State.coveResult_keep
    | apply State.setCove_keep
    | apply Keep.ite
    | intro _

theorem State.trapM_keep {m : Bool} {s0 t : State} (h : Keep m s0 t) {x1 x2} : Keep m s0 (State.trapM t x1 x2) := by
  unfold State.trapM
  with_reducible repeat' first
    | assumption
    | apply State.put_keep
    | apply State.setCore_keep

theorem State.coveLeft_keep {m : Bool} {s0 t : State} (h : Keep m s0 t) {x1} : Keep m s0 (State.coveLeft t x1) := by
  unfold State.coveLeft
  with_reducible repeat' first
    | assumption
    | apply State.trapM_keep
    | apply Keep.ite
    | apply Keep.forN
    | intro _

theorem State.coveDestroy_keep {m : Bool} {s0 t : State} (h : Keep m s0 t) {x1} : Keep m s0 (State.coveDestroy t x1) := by
  unfold State.coveDestroy
  with_reducible repeat' first
    | assumption
    | apply State.coveResult_keep
    | apply State.coveLeft_keep
    | apply State.setCove_keep
    | apply Keep.ite
    | intro _

theorem coveReg_keep {m : Bool} {s0 t : State} (h : Keep m s0 t) {x0 x1 x2} : ∀ w, (coveReg x0 x1 x2 t) = some w → Keep m s0 w := by
  unfold coveReg
  with_reducible repeat' first
    | assumption
    | apply State.coveBuild_keep
    | apply State.coveSeal_keep
    | apply State.coveDestroy_keep
    | apply State.coveResult_keep
    | refine Keep.some' ?_
    | exact Keep.none'
    | split
    | split

theorem irqcReg_keep {m : Bool} {s0 t : State} (h : Keep m s0 t) {x0 x1 x2} : ∀ w, (irqcReg x0 x1 x2 t) = some w → Keep m s0 w := by
  unfold irqcReg
  with_reducible repeat' first
    | assumption
    | apply State.classWrite_keep
    | refine Keep.some' ?_
    | exact Keep.none'
    | split
    | split

theorem measReg_keep {m : Bool} {s0 t : State} (h : Keep m s0 t) {x0 x1 x2} : ∀ w, (measReg x0 x1 x2 t) = some w → Keep m s0 w := by
  unfold measReg
  with_reducible repeat' first
    | assumption
    | apply State.wr_keep
    | apply State.extendCmd_keep
    | refine Keep.some' ?_
    | exact Keep.none'
    | split
    | intro _
    | split

theorem State.mboxDone_keep {m : Bool} {s0 t : State} (h : Keep m s0 t) {x1} : Keep m s0 (State.mboxDone t x1) := by
  unfold State.mboxDone
  with_reducible repeat' first
    | assumption
    | apply State.put_keep
    | apply State.jrecTo_keep
    | apply Keep.ite
    | intro _

theorem mboxReg_keep {m : Bool} {s0 t : State} (h : Keep m s0 t) {x0 x1 x2} : ∀ w, (mboxReg x0 x1 x2 t) = some w → Keep m s0 w := by
  unfold mboxReg
  with_reducible repeat' first
    | assumption
    | apply State.wr_keep
    | apply State.refuse_keep
    | apply State.mboxDone_keep
    | apply Keep.ite
    | refine Keep.iteO ?_ ?_
    | refine Keep.some' ?_
    | exact Keep.none'
    | intro _

theorem State.wdCfg_keep {m : Bool} {s0 t : State} (h : Keep m s0 t) {x1 x2} : Keep m s0 (State.wdCfg t x1 x2) := by
  unfold State.wdCfg
  with_reducible repeat' first
    | assumption
    | apply State.refuse_keep
    | apply State.wr_keep
    | apply State.setCore_keep
    | apply Keep.ite
    | intro _

theorem wdogReg_keep {m : Bool} {s0 t : State} (h : Keep m s0 t) {x0 x1 x2} : ∀ w, (wdogReg x0 x1 x2 t) = some w → Keep m s0 w := by
  unfold wdogReg
  with_reducible repeat' first
    | assumption
    | apply State.wdCfg_keep
    | refine Keep.some' ?_
    | exact Keep.none'
    | split
    | split

theorem State.runWrite_keep {m : Bool} {s0 t : State} (h : Keep m s0 t) {x1 x2} : Keep m s0 (State.runWrite t x1 x2) := by
  unfold State.runWrite
  with_reducible repeat' first
    | assumption
    | apply State.coreStart_keep
    | apply State.coreHalt_keep
    | apply Keep.ite
    | intro _

theorem coreReg_keep {m : Bool} {s0 t : State} (h : Keep m s0 t) {x0 x1 x2 x3} : ∀ w, (coreReg x0 x1 x2 x3 t) = some w → Keep m s0 w := by
  unfold coreReg
  with_reducible repeat' first
    | assumption
    | apply State.runWrite_keep
    | refine Keep.some' ?_
    | exact Keep.none'
    | split
    | split

theorem State.kindWrite_keep {m : Bool} {s0 t : State} (h : Keep m s0 t) {x1 x2 x3 x4 x5} : ∀ w, (State.kindWrite t x1 x2 x3 x4 x5) = some w → Keep m s0 w := by
  unfold State.kindWrite
  try dsimp only
  with_reducible repeat' first
    | assumption
    | apply State.modeWrite_keep
    | apply State.routeWrite_keep
    | apply State.coefWrite_keep
    | apply State.lutWrite_keep
    | apply State.panelCmd_keep
    | apply State.storeCmd_keep
    | apply State.trigWrite_keep
    | apply State.chanClear_keep
    | apply State.trigFire_keep
    | apply State.bankCmd_keep
    | apply State.portRestart_keep
    | refine cvuReg_keep ?_
    | refine deccReg_keep ?_
    | refine fcollReg_keep ?_
    | refine fcapReg_keep ?_
    | refine mlogReg_keep ?_
    | refine otpReg_keep ?_
    | refine backupReg_keep ?_
    | refine gpioReg_keep ?_
    | refine bcReg_keep ?_
    | refine xspiReg_keep ?_
    | refine gl2Reg_keep ?_
    | refine gschedReg_keep ?_
    | refine worldsReg_keep ?_
    | refine potReg_keep ?_
    | refine coveReg_keep ?_
    | refine irqcReg_keep ?_
    | refine measReg_keep ?_
    | refine mboxReg_keep ?_
    | refine wdogReg_keep ?_
    | refine coreReg_keep ?_
    | apply Keep.ite
    | apply Keep.forL
    | apply Keep.forN
    | apply Keep.forL1
    | apply Keep.forN1
    | apply Keep.foldl
    | apply Keep.foldl1
    | refine Keep.iteO ?_ ?_
    | refine Keep.some' ?_
    | exact Keep.none'
    | split
    | intro _
    | (apply Keep.upd; first | assumption | apply State.modeWrite_keep | apply State.routeWrite_keep
                             | apply State.coefWrite_keep | apply State.lutWrite_keep | apply State.panelCmd_keep
                             | apply State.storeCmd_keep | apply State.trigWrite_keep | apply State.chanClear_keep
                             | apply State.trigFire_keep | apply State.bankCmd_keep | apply State.portRestart_keep
                             | refine cvuReg_keep ?_ | refine deccReg_keep ?_ | refine fcollReg_keep ?_
                             | refine fcapReg_keep ?_ | refine mlogReg_keep ?_ | refine otpReg_keep ?_
                             | refine backupReg_keep ?_ | refine gpioReg_keep ?_ | refine bcReg_keep ?_
                             | refine xspiReg_keep ?_ | refine gl2Reg_keep ?_ | refine gschedReg_keep ?_
                             | refine worldsReg_keep ?_ | refine potReg_keep ?_ | refine coveReg_keep ?_
                             | refine irqcReg_keep ?_ | refine measReg_keep ?_ | refine mboxReg_keep ?_
                             | refine wdogReg_keep ?_ | refine coreReg_keep ?_ | apply Keep.ite | apply Keep.forL
                             | apply Keep.forN | apply Keep.forL1 | apply Keep.forN1 | apply Keep.foldl
                             | apply Keep.foldl1 | split)
    | split
    | refine Keep.ofPair (by assumption) ?_
    | refine Keep.ofSome (by assumption) ?_
    | refine Keep.ofSomeP (by assumption) ?_

theorem State.plainWrite_keep {m : Bool} {s0 t : State} (h : Keep m s0 t) {x1 x2 x3} : Keep m s0 (State.plainWrite t x1 x2 x3) := by
  unfold State.plainWrite
  with_reducible repeat' first
    | assumption
    | apply State.wr_keep

theorem State.fenceRelease1_keep {m : Bool} {s0 t : State} (h : Keep m s0 t) {x1} : Keep m s0 (State.fenceRelease1 t x1) := by
  unfold State.fenceRelease1
  with_reducible repeat' first
    | assumption
    | apply State.startCommit_keep
    | apply State.modCtl_keep
    | intro _
    | split

theorem State.writeEffect_keep {m : Bool} {s0 t : State} (hm : m = true) (h : Keep m s0 t) {x1 x2 x3 x4} : Keep m s0 (State.writeEffect t x1 x2 x3 x4) := by
  unfold State.writeEffect
  try dsimp only
  with_reducible repeat' first
    | assumption
    | apply State.ctrlWrite_keep hm
    | apply State.intClear_keep
    | apply State.intEnable_keep
    | apply State.intForce_keep
    | refine State.kindWrite_keep ?_
    | apply State.plainWrite_keep
    | apply State.fenceRelease1_keep
    | apply Keep.ite
    | apply Keep.forL
    | apply Keep.forN
    | apply Keep.forL1
    | apply Keep.forN1
    | apply Keep.foldl
    | apply Keep.foldl1
    | split
    | intro _
    | (apply Keep.upd; first | assumption | apply State.ctrlWrite_keep hm | apply State.intClear_keep
                             | apply State.intEnable_keep | apply State.intForce_keep | refine State.kindWrite_keep ?_
                             | apply State.plainWrite_keep | apply State.fenceRelease1_keep | apply Keep.ite
                             | apply Keep.forL | apply Keep.forN | apply Keep.forL1 | apply Keep.forN1
                             | apply Keep.foldl | apply Keep.foldl1 | split)
    | split
    | refine Keep.ofPair (by assumption) ?_
    | refine Keep.ofSome (by assumption) ?_
    | refine Keep.ofSomeP (by assumption) ?_

theorem State.deniedEnable_keep {m : Bool} {s0 t : State} (h : Keep m s0 t) {x1 x2 x3} : Keep m s0 (State.deniedEnable t x1 x2 x3) := by
  unfold State.deniedEnable
  with_reducible repeat' first
    | assumption
    | apply State.refuse_keep
    | apply Keep.ite
    | intro _

theorem State.regWrite_keep {m : Bool} {s0 t : State} (hm : m = true) (h : Keep m s0 t) {x1 x2 x3 x4} : Keep m s0 (State.regWrite t x1 x2 x3 x4).1 := by
  unfold State.regWrite
  with_reducible repeat' first
    | assumption
    | apply State.stray_keep
    | apply State.refuse_keep
    | apply State.swReset_keep hm
    | apply State.violation_keep
    | apply State.ownerJudge_keep
    | refine State.ownRule_keep hm ?_
    | apply State.writeEffect_keep hm
    | apply State.deniedEnable_keep
    | apply Keep.ite1
    | split
    | intro _
    | split
    | refine Keep.ofSomeP (by assumption) ?_

theorem State.cmdWrite_keep {m : Bool} {s0 t : State} (hm : m = true) (h : Keep m s0 t) {x1 x2 x3} : Keep m s0 (State.cmdWrite t x1 x2 x3) := by
  unfold State.cmdWrite
  with_reducible repeat' first
    | assumption
    | apply State.regWrite_keep hm
    | apply Keep.ite
    | apply Keep.ite1
    | apply Keep.forL
    | intro _
    | (apply Keep.upd; first | assumption | apply State.regWrite_keep hm | apply Keep.ite | apply Keep.ite1
                             | apply Keep.forL | split)
    | split
    | refine Keep.ofPair (by assumption) ?_

theorem State.cmdCtrl_keep {m : Bool} {s0 t : State} (hm : m = true) (h : Keep m s0 t) {x1 x2 x3 x4} : Keep m s0 (State.cmdCtrl t x1 x2 x3 x4) := by
  unfold State.cmdCtrl
  with_reducible repeat' first
    | assumption
    | apply State.cmdWrite_keep hm
    | apply Keep.ite
    | apply Keep.forL
    | intro _
    | (apply Keep.upd; first | assumption | apply State.cmdWrite_keep hm | apply Keep.ite | apply Keep.forL | split)
    | split
    | refine Keep.ofPair (by assumption) ?_

theorem State.grantRead_keep {m : Bool} {s0 t : State} (h : Keep m s0 t) {x1 x2 x3} : Keep m s0 (State.grantRead t x1 x2 x3).1 := by
  unfold State.grantRead
  with_reducible repeat' first
    | assumption
    | apply Keep.ite
    | apply Keep.ite1
    | apply Keep.forL
    | intro _
    | (apply Keep.upd; first | assumption | apply Keep.ite | apply Keep.ite1 | apply Keep.forL | split)
    | split
    | refine Keep.ofPair (by assumption) ?_

theorem State.readWith_keep {m : Bool} {s0 t : State} (h : Keep m s0 t) {x1 x2 x3} (h3 : ∀ u, Keep m s0 u → ∀ w, (x3 u) = some w → Keep m s0 w.1) : Keep m s0 (State.readWith t x1 x2 x3).1 := by
  unfold State.readWith
  with_reducible repeat' first
    | assumption
    | apply State.stray_keep
    | apply State.violation_keep
    | apply State.grantRead_keep
    | apply Keep.ite1
    | intro _
    | exact h3 _ h _ (by assumption)
    | split

theorem State.coefRead_keep {m : Bool} {s0 t : State} (h : Keep m s0 t) {x1} : Keep m s0 (State.coefRead t x1).1 := by
  unfold State.coefRead
  with_reducible repeat' first
    | assumption
    | apply State.wr_keep

theorem State.lutRead_keep {m : Bool} {s0 t : State} (h : Keep m s0 t) {x1} : Keep m s0 (State.lutRead t x1).1 := by
  unfold State.lutRead
  with_reducible repeat' first
    | assumption
    | apply State.wr_keep

theorem State.ibiPop_keep {m : Bool} {s0 t : State} (h : Keep m s0 t) {x1} : Keep m s0 (State.ibiPop t x1).1 := by
  unfold State.ibiPop
  try dsimp only
  with_reducible repeat' first
    | assumption
    | apply State.setBc_keep
    | split

theorem State.xspiPop_keep {m : Bool} {s0 t : State} (h : Keep m s0 t) : Keep m s0 (State.xspiPop t).1 := by
  unfold State.xspiPop
  with_reducible repeat' first
    | assumption
    | apply State.modXspi_keep

theorem State.wordRead_keep {m : Bool} {s0 t : State} (h : Keep m s0 t) {x1 x2} : Keep m s0 (State.wordRead t x1 x2).1 := by
  unfold State.wordRead
  apply Keep.ite1 <;> intro _
  · exact h
  · refine State.readWith_keep h ?_
    intro u hu w hw
    dsimp only at hw
    repeat' split at hw
    all_goals first
      | (cases hw; done)
      | (cases hw; first
          | exact State.coefRead_keep hu
          | exact State.lutRead_keep hu
          | exact State.asrcRead_keep hu
          | exact State.bcPop_keep hu
          | exact State.ibiPop_keep hu
          | exact State.xspiPop_keep hu)

theorem State.regRead_keep {m : Bool} {s0 t : State} (h : Keep m s0 t) {x1 x2 x3} : Keep m s0 (State.regRead t x1 x2 x3).1 := by
  unfold State.regRead
  exact Keep.ite1 (fun _ => State.wordRead_keep h) (fun _ => State.wordRead_keep h)

theorem State.cmdRead_keep {m : Bool} {s0 t : State} (h : Keep m s0 t) {x1 x2 x3} : Keep m s0 (State.cmdRead t x1 x2 x3) := by
  unfold State.cmdRead State.answer
  split
  · exact h
  · exact Keep.upd (State.regRead_keep h)

theorem State.holdNote_keep {m : Bool} {s0 t : State} (h : Keep m s0 t) {x1 x2 x3} : Keep m s0 (State.holdNote t x1 x2 x3) := by
  unfold State.holdNote
  with_reducible repeat' first
    | assumption
    | apply State.holdRecord_keep
    | apply Keep.ite
    | intro _

theorem State.startQueued_keep {m : Bool} {s0 t : State} (h : Keep m s0 t) {x1} : Keep m s0 (State.startQueued t x1) := by
  unfold State.startQueued
  with_reducible repeat' first
    | assumption
    | apply State.takeCommit_keep
    | apply State.modCtl_keep
    | apply Keep.ite
    | apply Keep.forL
    | intro _
    | (apply Keep.upd; first | assumption | apply State.takeCommit_keep | apply State.modCtl_keep | apply Keep.ite
                             | apply Keep.forL | split)
    | split
    | refine Keep.ofPair (by assumption) ?_

theorem State.commitDone_keep {m : Bool} {s0 t : State} (hm : m = true) (h : Keep m s0 t) {x1} : Keep m s0 (State.commitDone t x1) := by
  unfold State.commitDone
  with_reducible repeat' first
    | assumption
    | apply State.checkDone_keep
    | apply State.modCtl_keep
    | apply State.holdNote_keep
    | apply State.applyImage_keep hm
    | apply State.arm_keep
    | apply State.fenceRelease1_keep
    | apply State.startQueued_keep
    | apply Keep.ite
    | apply Keep.forL
    | intro _
    | (apply Keep.upd; first | assumption | apply State.checkDone_keep | apply State.modCtl_keep
                             | apply State.holdNote_keep | apply State.applyImage_keep hm | apply State.arm_keep
                             | apply State.fenceRelease1_keep | apply State.startQueued_keep | apply Keep.ite
                             | apply Keep.forL | split)
    | split
    | refine Keep.ofPair (by assumption) ?_

theorem State.holdRead_keep {m : Bool} {s0 t : State} (h : Keep m s0 t) {x1 x2} : Keep m s0 (State.holdRead t x1 x2).1 := by
  unfold State.holdRead
  with_reducible repeat' first
    | assumption
    | apply State.mread_keep
    | apply Keep.ite
    | apply Keep.ite1
    | apply Keep.forL
    | intro _
    | (apply Keep.upd; first | assumption | apply State.mread_keep | apply Keep.ite | apply Keep.ite1
                             | apply Keep.forL | split)
    | split
    | refine Keep.ofPair (by assumption) ?_

theorem State.underruns_keep {m : Bool} {s0 t : State} (h : Keep m s0 t) {x1 x2} : Keep m s0 (State.underruns t x1 x2) := by
  unfold State.underruns
  with_reducible repeat' first
    | assumption
    | apply State.fallback_keep
    | apply State.modLay_keep
    | apply Keep.ite
    | apply Keep.forL
    | intro _
    | split

theorem State.lineMade_keep {m : Bool} {s0 t : State} (h : Keep m s0 t) {x1 x2} : Keep m s0 (State.lineMade t x1 x2).1 := by
  unfold State.lineMade
  with_reducible repeat' first
    | assumption
    | apply State.holdRead_keep
    | apply State.holdTrigger_keep
    | apply State.modHead_keep
    | apply State.underruns_keep
    | apply Keep.ite
    | apply Keep.ite1
    | apply Keep.forL
    | intro _
    | (apply Keep.upd; first | assumption | apply State.holdRead_keep | apply State.holdTrigger_keep
                             | apply State.modHead_keep | apply State.underruns_keep | apply Keep.ite
                             | apply Keep.ite1 | apply Keep.forL | split)
    | split
    | refine Keep.ofPair (by assumption) ?_

theorem State.wbStop_keep {m : Bool} {s0 t : State} (h : Keep m s0 t) {x1 x2 x3} : Keep m s0 (State.wbStop t x1 x2 x3) := by
  unfold State.wbStop
  with_reducible repeat' first
    | assumption
    | apply State.setWb_keep
    | apply State.intBit_keep
    | apply State.cvuAbort_keep
    | apply Keep.ite
    | apply Keep.forL
    | intro _

theorem State.cvuAt_keep {m : Bool} {s0 t : State} (h : Keep m s0 t) {x1 x2 x3 x4} : Keep m s0 (State.cvuAt t x1 x2 x3 x4) := by
  induction x4 generalizing t x1 x2 x3 with
  | nil =>
    unfold State.cvuAt
    with_reducible repeat' first
      | assumption
      | apply ih
      | apply State.setCvu_keep
  | cons e l ih =>
    unfold State.cvuAt
    with_reducible repeat' first
      | assumption
      | apply ih
      | apply State.setCvu_keep

theorem State.cvuStream_keep {m : Bool} {s0 t : State} (h : Keep m s0 t) {x1 x2 x3 x4} : Keep m s0 (State.cvuStream t x1 x2 x3 x4) := by
  unfold State.cvuStream
  with_reducible repeat' first
    | assumption
    | apply State.stat64_keep
    | apply State.cvuAt_keep
    | apply Keep.ite
    | intro _

theorem State.wbLine_keep {m : Bool} {s0 t : State} (hm : m = true) (h : Keep m s0 t) {x1 x2 x3 x4 x5 x6 x7 x8} : Keep m s0 (State.wbLine t x1 x2 x3 x4 x5 x6 x7 x8) := by
  unfold State.wbLine
  with_reducible repeat' first
    | assumption
    | apply State.cvuOpen_keep
    | apply State.wbStop_keep
    | apply State.freeBytes_keep
    | apply State.mwrite_keep hm
    | apply State.cvuStream_keep
    | apply Keep.ite
    | apply Keep.ite1
    | apply Keep.forL
    | intro _
    | (apply Keep.upd; first | assumption | apply State.cvuOpen_keep | apply State.wbStop_keep
                             | apply State.freeBytes_keep | apply State.mwrite_keep hm | apply State.cvuStream_keep
                             | apply Keep.ite | apply Keep.ite1 | apply Keep.forL | split)
    | split
    | refine Keep.ofPair (by assumption) ?_

theorem State.rgnFeed_keep {m : Bool} {s0 t : State} (h : Keep m s0 t) {x1 x2 x3 x4} : Keep m s0 (State.rgnFeed t x1 x2 x3 x4) := by
  unfold State.rgnFeed
  with_reducible repeat' first
    | assumption
    | apply State.modHead_keep
    | apply Keep.ite
    | intro _

theorem State.composeLine_keep {m : Bool} {s0 t : State} (hm : m = true) (h : Keep m s0 t) {x1 x2 x3} : Keep m s0 (State.composeLine t x1 x2 x3) := by
  unfold State.composeLine
  with_reducible repeat' first
    | assumption
    | apply State.lineMade_keep
    | apply State.modHead_keep
    | apply State.captureLine_keep hm
    | apply State.wbLine_keep hm
    | apply State.rgnFeed_keep
    | apply Keep.ite
    | apply Keep.ite1
    | apply Keep.forL
    | intro _
    | (apply Keep.upd; first | assumption | apply State.lineMade_keep | apply State.modHead_keep
                             | apply State.captureLine_keep hm | apply State.wbLine_keep hm | apply State.rgnFeed_keep
                             | apply Keep.ite | apply Keep.ite1 | apply Keep.forL | split)
    | split
    | refine Keep.ofPair (by assumption) ?_

theorem State.setVec_keep {m : Bool} {s0 t : State} (h : Keep m s0 t) {x1 x2} : Keep m s0 (State.setVec t x1 x2) := by
  unfold State.setVec
  with_reducible repeat' first
    | assumption
    | apply Keep.ite
    | apply Keep.forL
    | intro _
    | (apply Keep.upd; first | assumption | apply Keep.ite | apply Keep.forL | split)
    | split
    | refine Keep.ofPair (by assumption) ?_

theorem State.setPend_keep {m : Bool} {s0 t : State} (h : Keep m s0 t) {x1 x2 x3 x4} : Keep m s0 (State.setPend t x1 x2 x3 x4) := by
  unfold State.setPend
  with_reducible repeat' first
    | assumption
    | apply State.put_keep

theorem State.msix_keep {m : Bool} {s0 t : State} (h : Keep m s0 t) {x1 x2 x3} : Keep m s0 (State.msix t x1 x2 x3) := by
  unfold State.msix
  with_reducible repeat' first
    | assumption
    | apply State.setVec_keep
    | apply State.setPend_keep
    | apply Keep.ite
    | intro _

theorem State.msixRetry_keep {m : Bool} {s0 t : State} (h : Keep m s0 t) {x1 x2 x3} : Keep m s0 (State.msixRetry t x1 x2 x3) := by
  unfold State.msixRetry
  with_reducible repeat' first
    | assumption
    | apply State.msix_keep
    | apply State.setPend_keep
    | apply Keep.ite
    | intro _

theorem State.fnRetry_keep {m : Bool} {s0 t : State} (h : Keep m s0 t) {x1 x2} : Keep m s0 (State.fnRetry t x1 x2) := by
  unfold State.fnRetry
  with_reducible repeat' first
    | assumption
    | apply State.msixRetry_keep
    | apply Keep.forN
    | intro _

theorem State.configRequest_keep {m : Bool} {s0 t : State} (h : Keep m s0 t) {x1 x2 x3} : Keep m s0 (State.configRequest t x1 x2 x3) := by
  unfold State.configRequest
  with_reducible repeat' first
    | assumption
    | apply State.setPort_keep
    | apply State.stat_keep
    | apply State.put_keep
    | apply State.fnRetry_keep
    | apply Keep.ite
    | intro _
    | split

theorem State.reencode_keep {m : Bool} {s0 t : State} (hm : m = true) (h : Keep m s0 t) {x1 x2} : Keep m s0 (State.reencode t x1 x2) := by
  unfold State.reencode
  with_reducible repeat' first
    | assumption
    | apply State.poolPut_keep hm
    | apply State.poolCe_keep
    | apply State.poolUe_keep
    | apply Keep.ite
    | apply Keep.forL
    | intro _
    | (apply Keep.upd; first | assumption | apply State.poolPut_keep hm | apply State.poolCe_keep
                             | apply State.poolUe_keep | apply Keep.ite | apply Keep.forL | split)
    | split
    | refine Keep.ofPair (by assumption) ?_

theorem State.convEnd_keep {m : Bool} {s0 t : State} (hm : m = true) (h : Keep m s0 t) : Keep m s0 (State.convEnd t) := by
  unfold State.convEnd
  with_reducible repeat' first
    | assumption
    | apply State.reencode_keep hm
    | apply State.setBank_keep
    | apply State.put_keep
    | apply Keep.ite
    | apply Keep.forL
    | intro _
    | (apply Keep.upd; first | assumption | apply State.reencode_keep hm | apply State.setBank_keep
                             | apply State.put_keep | apply Keep.ite | apply Keep.forL | split)
    | split
    | refine Keep.ofPair (by assumption) ?_

theorem State.convLock_keep {m : Bool} {s0 t : State} (h : Keep m s0 t) {x1 x2} : Keep m s0 (State.convLock t x1 x2) := by
  unfold State.convLock
  with_reducible repeat' first
    | assumption
    | apply State.setConv_keep
    | apply State.setConvState_keep
    | apply State.hit_keep
    | apply State.stat_keep
    | apply Keep.ite
    | intro _

theorem State.convOut_keep {m : Bool} {s0 t : State} (h : Keep m s0 t) {x1 x2 x3} : Keep m s0 (State.convOut t x1 x2 x3).1 := by
  unfold State.convOut
  with_reducible repeat' first
    | assumption
    | apply State.setConv_keep
    | split

theorem State.convPush_keep {m : Bool} {s0 t : State} (h : Keep m s0 t) {x1 x2 x3} : Keep m s0 (State.convPush t x1 x2 x3) := by
  unfold State.convPush
  with_reducible repeat' first
    | assumption
    | apply State.setConv_keep

theorem State.copyCount_keep {m : Bool} {s0 t : State} (h : Keep m s0 t) {x1 x2 x3} : Keep m s0 (State.copyCount t x1 x2 x3) := by
  unfold State.copyCount
  with_reducible repeat' first
    | assumption
    | apply State.stat64_keep
    | (apply Keep.upd; first | apply State.stat64_keep | split)
    | split

theorem State.spRead_keep {m : Bool} {s0 t : State} (h : Keep m s0 t) {x1 x2 x3 x4 x5} : Keep m s0 (State.spRead t x1 x2 x3 x4 x5).1 := by
  unfold State.spRead
  with_reducible repeat' first
    | assumption
    | apply State.mread_keep
    | apply Keep.ite
    | apply Keep.ite1
    | apply Keep.forL
    | intro _
    | (apply Keep.upd; first | assumption | apply State.mread_keep | apply Keep.ite | apply Keep.ite1
                             | apply Keep.forL | split)
    | split
    | refine Keep.ofPair (by assumption) ?_

theorem State.copyRead_keep {m : Bool} {s0 t : State} (h : Keep m s0 t) {x1 x2 x3 x4} : Keep m s0 (State.copyRead t x1 x2 x3 x4).1 := by
  unfold State.copyRead
  with_reducible repeat' first
    | assumption
    | apply State.spRead_keep
    | apply State.tookFree_keep
    | apply Keep.ite
    | apply Keep.ite1
    | apply Keep.forL
    | intro _
    | (apply Keep.upd; first | assumption | apply State.spRead_keep | apply State.tookFree_keep | apply Keep.ite
                             | apply Keep.ite1 | apply Keep.forL | split)
    | split
    | refine Keep.ofPair (by assumption) ?_

theorem State.copyRow_keep {m : Bool} {s0 t : State} (hm : m = true) (h : Keep m s0 t) {x1 x2 x3 x4 x5 x6} : Keep m s0 (State.copyRow t x1 x2 x3 x4 x5 x6).1 := by
  induction x2 generalizing t x1 x3 x4 x5 x6 with
  | zero =>
    unfold State.copyRow
    try dsimp only
    with_reducible repeat' first
      | assumption
      | apply ih
      | apply State.copyRead_keep
      | apply State.spWrite_keep hm
      | apply State.cvuStream_keep
      | apply Keep.ite
      | apply Keep.ite1
      | apply Keep.forL
      | intro _
      | (apply Keep.upd; first | assumption | apply ih | apply State.copyRead_keep | apply State.spWrite_keep hm
                               | apply State.cvuStream_keep | apply Keep.ite | apply Keep.ite1 | apply Keep.forL
                               | split)
      | split
      | refine Keep.ofPair (by assumption) ?_
  | succ n ih =>
    unfold State.copyRow
    try dsimp only
    with_reducible repeat' first
      | assumption
      | apply ih
      | apply State.copyRead_keep
      | apply State.spWrite_keep hm
      | apply State.cvuStream_keep
      | apply Keep.ite
      | apply Keep.ite1
      | apply Keep.forL
      | intro _
      | (apply Keep.upd; first | assumption | apply ih | apply State.copyRead_keep | apply State.spWrite_keep hm
                               | apply State.cvuStream_keep | apply Keep.ite | apply Keep.ite1 | apply Keep.forL
                               | split)
      | split
      | refine Keep.ofPair (by assumption) ?_

theorem State.copyRows_keep {m : Bool} {s0 t : State} (hm : m = true) (h : Keep m s0 t) {x1 x2 x3 x4 x5 x6 x7 x8} : Keep m s0 (State.copyRows t x1 x2 x3 x4 x5 x6 x7 x8).1 := by
  induction x5 generalizing t x1 x2 x3 x4 x6 x7 x8 with
  | zero =>
    unfold State.copyRows
    with_reducible repeat' first
      | assumption
      | apply ih
      | apply State.copyRow_keep hm
      | apply Keep.ite
      | apply Keep.ite1
      | apply Keep.forL
      | intro _
      | (apply Keep.upd; first | assumption | apply ih | apply State.copyRow_keep hm | apply Keep.ite
                               | apply Keep.ite1 | apply Keep.forL | split)
      | split
      | refine Keep.ofPair (by assumption) ?_
  | succ n ih =>
    unfold State.copyRows
    with_reducible repeat' first
      | assumption
      | apply ih
      | apply State.copyRow_keep hm
      | apply Keep.ite
      | apply Keep.ite1
      | apply Keep.forL
      | intro _
      | (apply Keep.upd; first | assumption | apply ih | apply State.copyRow_keep hm | apply Keep.ite
                               | apply Keep.ite1 | apply Keep.forL | split)
      | split
      | refine Keep.ofPair (by assumption) ?_

theorem State.copyMove_keep {m : Bool} {s0 t : State} (hm : m = true) (h : Keep m s0 t) {x1 x2 x3 x4} : Keep m s0 (State.copyMove t x1 x2 x3 x4).1 := by
  unfold State.copyMove
  with_reducible repeat' first
    | assumption
    | apply State.copyRows_keep hm
    | apply Keep.ite
    | apply Keep.ite1
    | apply Keep.forL
    | intro _
    | (apply Keep.upd; first | assumption | apply State.copyRows_keep hm | apply Keep.ite | apply Keep.ite1
                             | apply Keep.forL | split)
    | split
    | refine Keep.ofPair (by assumption) ?_

theorem State.copyEnd_keep {m : Bool} {s0 t : State} (h : Keep m s0 t) {x1 x2 x3 x4} : Keep m s0 (State.copyEnd t x1 x2 x3 x4) := by
  unfold State.copyEnd
  with_reducible repeat' first
    | assumption
    | apply State.copyCount_keep
    | apply State.cvuFinish_keep
    | apply State.cvuAbort_keep
    | apply State.setCopyEng_keep
    | apply State.copyIdle_keep
    | apply State.descEnd_keep
    | intro _
    | split

theorem State.copyDone_keep {m : Bool} {s0 t : State} (hm : m = true) (h : Keep m s0 t) {x1 x2} : Keep m s0 (State.copyDone t x1 x2) := by
  unfold State.copyDone
  with_reducible repeat' first
    | assumption
    | apply State.copyMove_keep hm
    | apply State.copyEnd_keep
    | apply State.stat_keep
    | apply State.intBit_keep
    | apply State.put64_keep
    | apply Keep.ite
    | apply Keep.ite1
    | apply Keep.forL
    | intro _
    | (apply Keep.upd; first | assumption | apply State.copyMove_keep hm | apply State.copyEnd_keep
                             | apply State.stat_keep | apply State.intBit_keep | apply State.put64_keep
                             | apply Keep.ite | apply Keep.ite1 | apply Keep.forL | split)
    | split
    | refine Keep.ofPair (by assumption) ?_

theorem State.copyStart_keep {m : Bool} {s0 t : State} (h : Keep m s0 t) {x1} : Keep m s0 (State.copyStart t x1) := by
  unfold State.copyStart
  with_reducible repeat' first
    | assumption
    | apply State.tookFree_keep
    | apply State.setCopyEng_keep
    | apply State.cvuOpen_keep
    | apply State.copyIdle_keep
    | intro _
    | (apply Keep.upd; first | apply State.tookFree_keep | apply State.setCopyEng_keep | apply State.cvuOpen_keep
                             | apply State.copyIdle_keep | split)
    | split

theorem State.copyStop_keep {m : Bool} {s0 t : State} (hm : m = true) (h : Keep m s0 t) {x1 x2 x3} : Keep m s0 (State.copyStop t x1 x2 x3) := by
  unfold State.copyStop
  with_reducible repeat' first
    | assumption
    | apply State.copyMove_keep hm
    | apply State.stat_keep
    | apply State.copyEnd_keep
    | apply State.descNow_keep
    | apply Keep.ite
    | apply Keep.ite1
    | apply Keep.forL
    | intro _
    | (apply Keep.upd; first | assumption | apply State.copyMove_keep hm | apply State.stat_keep
                             | apply State.copyEnd_keep | apply State.descNow_keep | apply Keep.ite | apply Keep.ite1
                             | apply Keep.forL | split)
    | split
    | refine Keep.ofPair (by assumption) ?_

theorem State.coreStops_keep {m : Bool} {s0 t : State} (hm : m = true) (h : Keep m s0 t) {x1} : Keep m s0 (State.coreStops t x1) := by
  unfold State.coreStops
  with_reducible repeat' first
    | assumption
    | apply State.applyDue_keep hm
    | apply Keep.ite
    | apply Keep.forL
    | intro _
    | (apply Keep.upd; first | assumption | apply State.applyDue_keep hm | apply Keep.ite | apply Keep.forL | split)
    | split
    | refine Keep.ofPair (by assumption) ?_

theorem State.gcoreFree_keep {m : Bool} {s0 t : State} (h : Keep m s0 t) {x1} : Keep m s0 (State.gcoreFree t x1) := by
  unfold State.gcoreFree
  with_reducible repeat' first
    | assumption
    | apply State.gcredit_keep
    | apply State.put_keep
    | apply State.setGcore_keep
    | apply Keep.ite
    | intro _
    | split

theorem State.jobDrop_keep {m : Bool} {s0 t : State} (h : Keep m s0 t) {x1} : Keep m s0 (State.jobDrop t x1) := by
  unfold State.jobDrop
  with_reducible repeat' first
    | assumption
    | apply State.gcoreFree_keep
    | apply Keep.forN
    | intro _
    | (apply Keep.upd; first | apply State.gcoreFree_keep | apply Keep.forN | split)
    | split

theorem State.coreHang_keep {m : Bool} {s0 t : State} (hm : m = true) (h : Keep m s0 t) {x1} : Keep m s0 (State.coreHang t x1) := by
  unfold State.coreHang
  with_reducible repeat' first
    | assumption
    | apply State.waitTo_keep
    | apply State.hit_keep
    | apply State.coreStops_keep hm
    | apply State.modJob_keep
    | apply State.jobDrop_keep
    | apply State.jobStatus_keep
    | apply Keep.ite
    | apply Keep.forL
    | intro _
    | (apply Keep.upd; first | assumption | apply State.waitTo_keep | apply State.hit_keep
                             | apply State.coreStops_keep hm | apply State.modJob_keep | apply State.jobDrop_keep
                             | apply State.jobStatus_keep | apply Keep.ite | apply Keep.forL | split)
    | split
    | refine Keep.ofPair (by assumption) ?_

theorem State.costTouch_keep {m : Bool} {s0 t : State} (h : Keep m s0 t) {x1} : Keep m s0 (State.costTouch t x1) := by
  unfold State.costTouch
  with_reducible repeat' first
    | assumption
    | apply Keep.ite
    | apply Keep.forL
    | intro _
    | (apply Keep.upd; first | assumption | apply Keep.ite | apply Keep.forL | split)
    | split
    | refine Keep.ofPair (by assumption) ?_

theorem State.costUpdate_keep {m : Bool} {s0 t : State} (h : Keep m s0 t) {x1} : Keep m s0 (State.costUpdate t x1) := by
  unfold State.costUpdate
  with_reducible repeat' first
    | assumption
    | apply Keep.ite
    | apply Keep.forL
    | intro _
    | (apply Keep.upd; first | assumption | apply Keep.ite | apply Keep.forL | split)
    | split
    | refine Keep.ofPair (by assumption) ?_

theorem State.dramDrop_keep {m : Bool} {s0 t : State} (hm : m = true) (h : Keep m s0 t) {x1} :
    Keep m s0 (State.dramDrop t x1) :=
  h.trans ⟨rfl, (fun w => ⟨w.1, amWf_drop _ (fun l => match t.dramHome l with
    | some a => x1 a
    | none => false) t.dram w.2.1, w.2.2⟩), Keep.no hm⟩

theorem State.dramZero_keep {m : Bool} {s0 t : State} (hm : m = true) (h : Keep m s0 t) {x1 x2} : Keep m s0 (State.dramZero t x1 x2) :=
  State.dramDrop_keep hm h

theorem State.poolEdge_keep {m : Bool} {s0 t : State} (hm : m = true) (h : Keep m s0 t) {x1 x2 x3} : Keep m s0 (State.poolEdge t x1 x2 x3) := by
  unfold State.poolEdge
  with_reducible repeat' first
    | assumption
    | apply State.poolPart_keep hm
    | apply Keep.ite
    | apply Keep.ite1
    | apply Keep.forL
    | intro _
    | (apply Keep.upd; first | assumption | apply State.poolPart_keep hm | apply Keep.ite | apply Keep.ite1
                             | apply Keep.forL | split)
    | split
    | refine Keep.ofPair (by assumption) ?_

theorem State.poolClear_keep {m : Bool} {s0 t : State} (hm : m = true) (h : Keep m s0 t) {x1 x2} : Keep m s0 (State.poolClear t x1 x2) := by
  unfold State.poolClear
  refine State.poolDrop_keep hm (State.poolNote_keep ?_) _ _
  apply Keep.ite <;> intro _
  · exact State.poolEdge_keep hm h
  · exact State.poolEdge_keep hm (State.poolEdge_keep hm h)

theorem State.rangeClear_keep {m : Bool} {s0 t : State} (hm : m = true) (h : Keep m s0 t) {x1} : Keep m s0 (State.rangeClear t x1) := by
  unfold State.rangeClear
  try dsimp only
  with_reducible repeat' first
    | assumption
    | apply State.dramZero_keep hm
    | apply State.poolClear_keep hm
    | apply State.put_keep
    | apply Keep.ite
    | apply Keep.forL
    | apply Keep.forN
    | apply Keep.forL1
    | apply Keep.forN1
    | apply Keep.foldl
    | apply Keep.foldl1
    | intro _
    | (apply Keep.upd; first | assumption | apply State.dramZero_keep hm | apply State.poolClear_keep hm
                             | apply State.put_keep | apply Keep.ite | apply Keep.forL | apply Keep.forN
                             | apply Keep.forL1 | apply Keep.forN1 | apply Keep.foldl | apply Keep.foldl1 | split)
    | split
    | refine Keep.ofPair (by assumption) ?_

theorem State.coveCleared_keep {m : Bool} {s0 t : State} (hm : m = true) (h : Keep m s0 t) {x1} : Keep m s0 (State.coveCleared t x1) := by
  unfold State.coveCleared
  with_reducible repeat' first
    | assumption
    | apply State.setCove_keep
    | apply State.rangeClear_keep hm
    | apply Keep.ite
    | apply Keep.forN
    | intro _

theorem State.coveCmd_keep {m : Bool} {s0 t : State} (hm : m = true) (h : Keep m s0 t) {x1 x2 x3} : Keep m s0 (State.coveCmd t x1 x2 x3) := by
  unfold State.coveCmd
  with_reducible repeat' first
    | assumption
    | apply State.cmdWrite_keep hm
    | apply Keep.ite
    | apply Keep.forL
    | intro _
    | (apply Keep.upd; first | assumption | apply State.cmdWrite_keep hm | apply Keep.ite | apply Keep.forL | split)
    | split
    | refine Keep.ofPair (by assumption) ?_

theorem State.coverage_keep {m : Bool} {s0 t : State} (h : Keep m s0 t) {x1} : Keep m s0 (State.coverage t x1) := by
  unfold State.coverage
  with_reducible repeat' first
    | assumption
    | apply State.modLay_keep
    | apply State.put_keep
    | apply State.stat_keep
    | apply Keep.ite
    | apply Keep.forL
    | intro _

theorem State.ringRead_keep {m : Bool} {s0 t : State} (h : Keep m s0 t) {x1 x2 x3} : Keep m s0 (State.ringRead t x1 x2 x3).1 := by
  unfold State.ringRead
  with_reducible repeat' first
    | assumption
    | apply State.spRead_keep
    | apply Keep.ite
    | apply Keep.ite1
    | apply Keep.forL
    | intro _
    | (apply Keep.upd; first | assumption | apply State.spRead_keep | apply Keep.ite | apply Keep.ite1
                             | apply Keep.forL | split)
    | split
    | refine Keep.ofPair (by assumption) ?_

theorem State.ringError_keep {m : Bool} {s0 t : State} (h : Keep m s0 t) {x1 x2 x3} : Keep m s0 (State.ringError t x1 x2 x3) := by
  unfold State.ringError
  with_reducible repeat' first
    | assumption
    | apply State.ringPut_keep
    | apply State.setRingState_keep
    | apply State.setRing_keep
    | apply State.hit_keep
    | apply State.intBit_keep
    | apply State.stat_keep
    | apply State.jrecTo_keep

theorem State.ringHeader_keep {m : Bool} {s0 t : State} (h : Keep m s0 t) {x1 x2} : Keep m s0 (State.ringHeader t x1 x2) := by
  unfold State.ringHeader
  with_reducible repeat' first
    | assumption
    | apply State.ringRead_keep
    | apply State.ringError_keep
    | apply State.stat_keep
    | apply State.setRing_keep
    | apply State.setRingState_keep
    | apply Keep.ite
    | apply Keep.ite1
    | apply Keep.forL
    | intro _
    | (apply Keep.upd; first | assumption | apply State.ringRead_keep | apply State.ringError_keep
                             | apply State.stat_keep | apply State.setRing_keep | apply State.setRingState_keep
                             | apply Keep.ite | apply Keep.ite1 | apply Keep.forL | split)
    | split
    | refine Keep.ofPair (by assumption) ?_

theorem State.cplTimeout_keep {m : Bool} {s0 t : State} (h : Keep m s0 t) {x1} : Keep m s0 (State.cplTimeout t x1) := by
  unfold State.cplTimeout
  with_reducible repeat' first
    | assumption
    | apply State.stat_keep
    | apply State.aer_keep

theorem State.ringFetched_keep {m : Bool} {s0 t : State} (h : Keep m s0 t) {x1 x2} : Keep m s0 (State.ringFetched t x1 x2) := by
  unfold State.ringFetched
  with_reducible repeat' first
    | assumption
    | apply State.ringRead_keep
    | apply State.ringError_keep
    | apply State.stat_keep
    | apply State.setRing_keep
    | apply Keep.ite
    | apply Keep.ite1
    | apply Keep.forL
    | intro _
    | (apply Keep.upd; first | assumption | apply State.ringRead_keep | apply State.ringError_keep
                             | apply State.stat_keep | apply State.setRing_keep | apply Keep.ite | apply Keep.ite1
                             | apply Keep.forL | split)
    | split
    | refine Keep.ofPair (by assumption) ?_

theorem State.cplLost_keep {m : Bool} {s0 t : State} (hm : m = true) (h : Keep m s0 t) {x1 x2} : Keep m s0 (State.cplLost t x1 x2) := by
  unfold State.cplLost
  with_reducible repeat' first
    | assumption
    | apply State.ringHeader_keep
    | apply State.cplTimeout_keep
    | apply State.ringFetched_keep
    | apply State.copyDone_keep hm
    | apply Keep.ite
    | apply Keep.forL
    | intro _
    | (apply Keep.upd; first | assumption | apply State.ringHeader_keep | apply State.cplTimeout_keep
                             | apply State.ringFetched_keep | apply State.copyDone_keep hm | apply Keep.ite
                             | apply Keep.forL | split)
    | split
    | refine Keep.ofPair (by assumption) ?_

theorem State.cvuFeed_keep {m : Bool} {s0 t : State} (hm : m = true) (h : Keep m s0 t) {x1 x2 x3} : Keep m s0 (State.cvuFeed t x1 x2 x3) := by
  unfold State.cvuFeed
  with_reducible repeat' first
    | assumption
    | apply State.cmdWrite_keep hm
    | apply Keep.ite
    | apply Keep.forL
    | intro _
    | (apply Keep.upd; first | assumption | apply State.cmdWrite_keep hm | apply Keep.ite | apply Keep.forL | split)
    | split
    | refine Keep.ofPair (by assumption) ?_

theorem State.damageMap_keep {m : Bool} {s0 t : State} (hm : m = true) (h : Keep m s0 t) {x1 x2 x3} : Keep m s0 (State.damageMap t x1 x2 x3) := by
  unfold State.damageMap
  with_reducible repeat' first
    | assumption
    | apply State.gwrite_keep hm
    | apply Keep.ite
    | apply Keep.forL
    | intro _
    | (apply Keep.upd; first | assumption | apply State.gwrite_keep hm | apply Keep.ite | apply Keep.forL | split)
    | split
    | refine Keep.ofPair (by assumption) ?_

theorem State.damageRecord_keep {m : Bool} {s0 t : State} (h : Keep m s0 t) {x1 x2 x3 x4 x5} : Keep m s0 (State.damageRecord t x1 x2 x3 x4 x5) := by
  unfold State.damageRecord
  with_reducible repeat' first
    | assumption
    | apply State.jrecTo_keep

theorem State.preemptAsk_keep {m : Bool} {s0 t : State} (h : Keep m s0 t) {x1} : Keep m s0 (State.preemptAsk t x1) := by
  unfold State.preemptAsk
  with_reducible repeat' first
    | assumption
    | apply State.setGcore_keep
    | intro _
    | (apply Keep.upd; first | apply State.setGcore_keep | split)
    | split

theorem State.deadlineEval_keep {m : Bool} {s0 t : State} (h : Keep m s0 t) {x1} : Keep m s0 (State.deadlineEval t x1) := by
  unfold State.deadlineEval
  with_reducible repeat' first
    | assumption
    | apply State.gsettle_keep
    | apply State.costTouch_keep
    | apply State.stat_keep
    | apply State.intBit_keep
    | apply State.modJob_keep
    | apply State.preemptAsk_keep
    | apply Keep.ite
    | apply Keep.forL
    | apply Keep.forN
    | intro _
    | (apply Keep.upd; first | assumption | apply State.gsettle_keep | apply State.costTouch_keep
                             | apply State.stat_keep | apply State.intBit_keep | apply State.modJob_keep
                             | apply State.preemptAsk_keep | apply Keep.ite | apply Keep.forL | apply Keep.forN
                             | split)
    | split
    | refine Keep.ofPair (by assumption) ?_

theorem State.deadlineDue_keep {m : Bool} {s0 t : State} (h : Keep m s0 t) {x1} : Keep m s0 (State.deadlineDue t x1) := by
  unfold State.deadlineDue
  with_reducible repeat' first
    | assumption
    | apply State.modJob_keep
    | apply State.waitTo_keep
    | apply State.deadlineEval_keep
    | apply Keep.ite
    | apply Keep.forL
    | intro _
    | (apply Keep.upd; first | assumption | apply State.modJob_keep | apply State.waitTo_keep
                             | apply State.deadlineEval_keep | apply Keep.ite | apply Keep.forL | split)
    | split
    | refine Keep.ofPair (by assumption) ?_

theorem State.deadlineMiss_keep {m : Bool} {s0 t : State} (h : Keep m s0 t) {x1} : Keep m s0 (State.deadlineMiss t x1) := by
  unfold State.deadlineMiss
  with_reducible repeat' first
    | assumption
    | apply State.costTouch_keep
    | apply State.gsettle_keep
    | apply State.waitTo_keep
    | apply State.intBit_keep
    | apply State.hit_keep
    | apply State.stat_keep
    | apply State.jrecTo_keep
    | apply State.modJob_keep
    | apply Keep.ite
    | apply Keep.forL
    | intro _
    | (apply Keep.upd; first | assumption | apply State.costTouch_keep | apply State.gsettle_keep
                             | apply State.waitTo_keep | apply State.intBit_keep | apply State.hit_keep
                             | apply State.stat_keep | apply State.jrecTo_keep | apply State.modJob_keep
                             | apply Keep.ite | apply Keep.forL | split)
    | split
    | refine Keep.ofPair (by assumption) ?_

theorem State.debugReset_keep {m : Bool} {s0 t : State} (hm : m = true) (h : Keep m s0 t) : Keep m s0 (State.debugReset t) := by
  unfold State.debugReset
  with_reducible repeat' first
    | assumption
    | apply State.sourceActs_keep hm
    | apply Keep.ite
    | apply Keep.forL
    | intro _
    | (apply Keep.upd; first | assumption | apply State.sourceActs_keep hm | apply Keep.ite | apply Keep.forL | split)
    | split
    | refine Keep.ofPair (by assumption) ?_

theorem State.descReport_keep {m : Bool} {s0 t : State} (h : Keep m s0 t) {x1} : Keep m s0 (State.descReport t x1) := by
  unfold State.descReport
  with_reducible repeat' first
    | assumption
    | apply State.setRing_keep
    | apply State.descRecord_keep
    | (apply Keep.upd; first | apply State.setRing_keep | apply State.descRecord_keep | split)
    | split

theorem State.deviceBack_keep {m : Bool} {s0 t : State} (h : Keep m s0 t) {x1} : Keep m s0 (State.deviceBack t x1) := by
  unfold State.deviceBack
  with_reducible repeat' first
    | assumption
    | apply State.put_keep
    | apply State.mirUpdate_keep
    | apply State.failover_keep
    | apply State.peerRec_keep

theorem State.discard_keep {m : Bool} {s0 t : State} (h : Keep m s0 t) {x1} : Keep m s0 (State.discard t x1) := by
  unfold State.discard
  with_reducible repeat' first
    | assumption
    | apply Keep.ite
    | apply Keep.forL
    | intro _
    | (apply Keep.upd; first | assumption | apply Keep.ite | apply Keep.forL | split)
    | split
    | refine Keep.ofPair (by assumption) ?_

theorem State.tileLoad_keep {m : Bool} {s0 t : State} (hm : m = true) (h : Keep m s0 t) {x1 x2 x3 x4} : Keep m s0 (State.tileLoad t x1 x2 x3 x4) := by
  unfold State.tileLoad
  with_reducible repeat' first
    | assumption
    | apply State.areaInit_keep hm
    | apply State.setGcore_keep
    | apply Keep.ite
    | apply Keep.ite1
    | apply Keep.forL
    | intro _
    | (apply Keep.upd; first | assumption | apply State.areaInit_keep hm | apply State.setGcore_keep | apply Keep.ite
                             | apply Keep.ite1 | apply Keep.forL | split)
    | split
    | refine Keep.ofPair (by assumption) ?_

theorem State.giveUnit_keep {m : Bool} {s0 t : State} (hm : m = true) (h : Keep m s0 t) {x1 x2} : Keep m s0 (State.giveUnit t x1 x2) := by
  unfold State.giveUnit
  with_reducible repeat' first
    | assumption
    | apply State.modJob_keep
    | apply State.put_keep
    | apply State.setGcore_keep
    | apply State.gread_keep hm
    | apply State.stat64_keep
    | apply State.stat_keep
    | apply State.tileLoad_keep hm
    | apply Keep.ite
    | apply Keep.ite1
    | apply Keep.forL
    | intro _
    | (apply Keep.upd; first | assumption | apply State.modJob_keep | apply State.put_keep | apply State.setGcore_keep
                             | apply State.gread_keep hm | apply State.stat64_keep | apply State.stat_keep
                             | apply State.tileLoad_keep hm | apply Keep.ite | apply Keep.ite1 | apply Keep.forL
                             | split)
    | split
    | refine Keep.ofPair (by assumption) ?_

theorem State.dispatch_keep {m : Bool} {s0 t : State} (hm : m = true) (h : Keep m s0 t) : Keep m s0 (State.dispatch t) := by
  unfold State.dispatch
  with_reducible repeat' first
    | assumption
    | apply State.gsettle_keep
    | apply State.applyPoint_keep hm
    | apply State.giveUnit_keep hm
    | apply Keep.ite
    | apply Keep.forL
    | intro _
    | (apply Keep.upd; first | assumption | apply State.gsettle_keep | apply State.applyPoint_keep hm
                             | apply State.giveUnit_keep hm | apply Keep.ite | apply Keep.forL | split)
    | split
    | refine Keep.ofPair (by assumption) ?_

theorem State.dmaBlocks_keep {m : Bool} {s0 t : State} (hm : m = true) (h : Keep m s0 t) {x1 x2 x3 x4 x5} : Keep m s0 (State.dmaBlocks t x1 x2 x3 x4 x5).1 := by
  induction x3 generalizing t x1 x2 x4 x5 with
  | zero =>
    unfold State.dmaBlocks
    with_reducible repeat' first
      | assumption
      | apply ih
      | apply State.mwrite_keep hm
      | apply Keep.ite
      | apply Keep.ite1
      | apply Keep.forL
      | intro _
      | (apply Keep.upd; first | assumption | apply ih | apply State.mwrite_keep hm | apply Keep.ite | apply Keep.ite1
                               | apply Keep.forL | split)
      | split
      | refine Keep.ofPair (by assumption) ?_
  | succ n ih =>
    unfold State.dmaBlocks
    with_reducible repeat' first
      | assumption
      | apply ih
      | apply State.mwrite_keep hm
      | apply Keep.ite
      | apply Keep.ite1
      | apply Keep.forL
      | intro _
      | (apply Keep.upd; first | assumption | apply ih | apply State.mwrite_keep hm | apply Keep.ite | apply Keep.ite1
                               | apply Keep.forL | split)
      | split
      | refine Keep.ofPair (by assumption) ?_

theorem State.dmaDone_keep {m : Bool} {s0 t : State} (hm : m = true) (h : Keep m s0 t) {x1} : Keep m s0 (State.dmaDone t x1) := by
  unfold State.dmaDone
  with_reducible repeat' first
    | assumption
    | apply State.dmaBlocks_keep hm
    | apply State.modXspi_keep
    | apply State.put_keep
    | apply State.intBit_keep
    | apply State.stat64_keep
    | apply State.stat_keep
    | apply Keep.ite
    | apply Keep.ite1
    | apply Keep.forL
    | intro _
    | (apply Keep.upd; first | assumption | apply State.dmaBlocks_keep hm | apply State.modXspi_keep
                             | apply State.put_keep | apply State.intBit_keep | apply State.stat64_keep
                             | apply State.stat_keep | apply Keep.ite | apply Keep.ite1 | apply Keep.forL | split)
    | split
    | refine Keep.ofPair (by assumption) ?_

theorem State.doorbell_keep {m : Bool} {s0 t : State} (h : Keep m s0 t) {x1 x2 x3 x4} : Keep m s0 (State.doorbell t x1 x2 x3 x4) := by
  unfold State.doorbell
  with_reducible repeat' first
    | assumption
    | apply State.stat_keep
    | apply State.hitAcc_keep
    | apply State.ringError_keep
    | apply State.wake_keep
    | apply State.ringPut_keep
    | intro _
    | split

theorem State.dozeFrame_keep {m : Bool} {s0 t : State} (h : Keep m s0 t) {x1 x2 x3} : Keep m s0 (State.dozeFrame t x1 x2 x3) := by
  unfold State.dozeFrame
  with_reducible repeat' first
    | assumption
    | apply State.modPanel_keep
    | apply State.approach_keep
    | apply Keep.ite
    | intro _
    | split

theorem State.dphyLoss_keep {m : Bool} {s0 t : State} (h : Keep m s0 t) {x1} : Keep m s0 (State.dphyLoss t x1) := by
  unfold State.dphyLoss
  with_reducible repeat' first
    | assumption
    | apply State.linkError_keep
    | apply State.linkState_keep
    | apply Keep.ite
    | apply Keep.forL
    | intro _
    | (apply Keep.upd; first | assumption | apply State.linkError_keep | apply State.linkState_keep | apply Keep.ite
                             | apply Keep.forL | split)
    | split
    | refine Keep.ofPair (by assumption) ?_

theorem State.drainDone_keep {m : Bool} {s0 t : State} (h : Keep m s0 t) {x1} : Keep m s0 (State.drainDone t x1) := by
  unfold State.drainDone
  with_reducible repeat' first
    | assumption
    | apply State.put_keep
    | intro _
    | split

theorem State.dramEnq_keep {m : Bool} {s0 t : State} (h : Keep m s0 t) {x1} : Keep m s0 (State.dramEnq t x1) := by
  unfold State.dramEnq
  with_reducible repeat' first
    | assumption
    | apply State.stat_keep
    | apply State.modDc_keep
    | apply Keep.ite
    | intro _

theorem State.dramAdmit_keep {m : Bool} {s0 t : State} (h : Keep m s0 t) : Keep m s0 (State.dramAdmit t) := by
  unfold State.dramAdmit
  with_reducible repeat' first
    | assumption
    | apply State.dramEnq_keep
    | apply State.modDc_keep
    | apply Keep.forL
    | intro _

theorem State.dramAnswer_keep {m : Bool} {s0 t : State} (h : Keep m s0 t) {x1 x2 x3} : Keep m s0 (State.dramAnswer t x1 x2 x3) := by
  unfold State.dramAnswer
  with_reducible repeat' first
    | assumption
    | apply State.discard_keep
    | apply State.modDc_keep
    | apply Keep.ite
    | apply Keep.forL
    | intro _
    | (apply Keep.upd; first | assumption | apply State.discard_keep | apply State.modDc_keep | apply Keep.ite
                             | apply Keep.forL | split)
    | split
    | refine Keep.ofPair (by assumption) ?_

theorem State.dramReturn_keep {m : Bool} {s0 t : State} (h : Keep m s0 t) {x1 x2 x3 x4} : Keep m s0 (State.dramReturn t x1 x2 x3 x4) := by
  unfold State.dramReturn
  try dsimp only
  with_reducible repeat' first
    | assumption
    | apply State.dramAnswer_keep
    | apply State.modDc_keep
    | apply Keep.ite
    | apply Keep.forL
    | apply Keep.forN
    | apply Keep.forL1
    | apply Keep.forN1
    | apply Keep.foldl
    | apply Keep.foldl1
    | intro _
    | (apply Keep.upd; first | assumption | apply State.dramAnswer_keep | apply State.modDc_keep | apply Keep.ite
                             | apply Keep.forL | apply Keep.forN | apply Keep.forL1 | apply Keep.forN1
                             | apply Keep.foldl | apply Keep.foldl1 | split)
    | split
    | refine Keep.ofPair (by assumption) ?_

theorem State.dramRelease_keep {m : Bool} {s0 t : State} (h : Keep m s0 t) {x1 x2} : Keep m s0 (State.dramRelease t x1 x2) := by
  unfold State.dramRelease
  try dsimp only
  with_reducible repeat' first
    | assumption
    | apply State.dramReturn_keep
    | apply State.modDc_keep
    | apply Keep.ite
    | apply Keep.forL
    | apply Keep.forN
    | apply Keep.forL1
    | apply Keep.forN1
    | apply Keep.foldl
    | apply Keep.foldl1
    | intro _
    | (apply Keep.upd; first | assumption | apply State.dramReturn_keep | apply State.modDc_keep | apply Keep.ite
                             | apply Keep.forL | apply Keep.forN | apply Keep.forL1 | apply Keep.forN1
                             | apply Keep.foldl | apply Keep.foldl1 | split)
    | split
    | refine Keep.ofPair (by assumption) ?_

theorem State.dramReply_keep {m : Bool} {s0 t : State} (h : Keep m s0 t) {x1 x2 x3 x4} : Keep m s0 (State.dramReply t x1 x2 x3 x4) := by
  unfold State.dramReply
  try dsimp only
  with_reducible repeat' first
    | assumption
    | apply State.dramAnswer_keep
    | apply State.dramRelease_keep
    | apply State.dramReturn_keep
    | apply State.modDc_keep
    | apply Keep.ite
    | apply Keep.forL
    | apply Keep.forN
    | apply Keep.forL1
    | apply Keep.forN1
    | apply Keep.foldl
    | apply Keep.foldl1
    | intro _
    | (apply Keep.upd; first | assumption | apply State.dramAnswer_keep | apply State.dramRelease_keep
                             | apply State.dramReturn_keep | apply State.modDc_keep | apply Keep.ite | apply Keep.forL
                             | apply Keep.forN | apply Keep.forL1 | apply Keep.forN1 | apply Keep.foldl
                             | apply Keep.foldl1 | split)
    | split
    | refine Keep.ofPair (by assumption) ?_

theorem State.sweepWait_keep {m : Bool} {s0 t : State} (h : Keep m s0 t) {x1} : Keep m s0 (State.sweepWait t x1) := by
  unfold State.sweepWait
  with_reducible repeat' first
    | assumption
    | apply State.modDc_keep
    | apply State.sweepFill_keep
    | apply Keep.ite
    | intro _

theorem State.fixWord_keep {m : Bool} {s0 t : State} (hm : m = true) (h : Keep m s0 t) {x1 x2} : Keep m s0 (State.fixWord t x1 x2) := by
  unfold State.fixWord
  with_reducible repeat' first
    | assumption
    | apply State.dramInject_keep hm
    | apply State.dramClean_keep hm
    | apply Keep.ite
    | apply Keep.forL
    | intro _
    | (apply Keep.upd; first | assumption | apply State.dramInject_keep hm | apply State.dramClean_keep hm
                             | apply Keep.ite | apply Keep.forL | split)
    | split
    | refine Keep.ofPair (by assumption) ?_

theorem State.dramFix_keep {m : Bool} {s0 t : State} (hm : m = true) (h : Keep m s0 t) {x1} : Keep m s0 (State.dramFix t x1) := by
  unfold State.dramFix
  with_reducible repeat' first
    | assumption
    | apply State.dramServed_keep
    | apply State.fixWord_keep hm
    | apply Keep.ite
    | apply Keep.forL
    | intro _
    | (apply Keep.upd; first | assumption | apply State.dramServed_keep | apply State.fixWord_keep hm | apply Keep.ite
                             | apply Keep.forL | split)
    | split
    | refine Keep.ofPair (by assumption) ?_

theorem State.dramServe_keep {m : Bool} {s0 t : State} (hm : m = true) (h : Keep m s0 t) {x1} : Keep m s0 (State.dramServe t x1) := by
  unfold State.dramServe
  try dsimp only
  with_reducible repeat' first
    | assumption
    | apply State.modDc_keep
    | apply State.dramReply_keep
    | apply State.globalOff_keep
    | apply State.waitTo_keep
    | apply State.dramFix_keep hm
    | apply State.dramStore_keep hm
    | apply State.dramRead_keep
    | apply Keep.ite
    | apply Keep.ite1
    | apply Keep.forL
    | apply Keep.forN
    | apply Keep.forL1
    | apply Keep.forN1
    | apply Keep.foldl
    | apply Keep.foldl1
    | intro _
    | (apply Keep.upd; first | assumption | apply State.modDc_keep | apply State.dramReply_keep
                             | apply State.globalOff_keep | apply State.waitTo_keep | apply State.dramFix_keep hm
                             | apply State.dramStore_keep hm | apply State.dramRead_keep | apply Keep.ite
                             | apply Keep.ite1 | apply Keep.forL | apply Keep.forN | apply Keep.forL1
                             | apply Keep.forN1 | apply Keep.foldl | apply Keep.foldl1 | split)
    | split
    | refine Keep.ofPair (by assumption) ?_

theorem State.dramDrain_keep {m : Bool} {s0 t : State} (hm : m = true) (h : Keep m s0 t) {x1} : Keep m s0 (State.dramDrain t x1) := by
  unfold State.dramDrain
  with_reducible repeat' first
    | assumption
    | apply State.dramAdmit_keep
    | apply State.dramServe_keep hm
    | apply Keep.ite
    | apply Keep.forL
    | apply Keep.forN
    | intro _
    | (apply Keep.upd; first | assumption | apply State.dramAdmit_keep | apply State.dramServe_keep hm
                             | apply Keep.ite | apply Keep.forL | apply Keep.forN | split)
    | split
    | refine Keep.ofPair (by assumption) ?_

theorem State.dramArrive_keep {m : Bool} {s0 t : State} (hm : m = true) (h : Keep m s0 t) {x1 x2 x3} : Keep m s0 (State.dramArrive t x1 x2 x3) := by
  unfold State.dramArrive
  try dsimp only
  with_reducible repeat' first
    | assumption
    | apply State.dramReply_keep
    | apply State.globalOff_keep
    | apply State.sweepWait_keep
    | apply State.dramDrain_keep hm
    | apply State.dramEnq_keep
    | apply Keep.ite
    | apply Keep.forL
    | apply Keep.forN
    | apply Keep.forL1
    | apply Keep.forN1
    | apply Keep.foldl
    | apply Keep.foldl1
    | intro _
    | (apply Keep.upd; first | assumption | apply State.dramReply_keep | apply State.globalOff_keep
                             | apply State.sweepWait_keep | apply State.dramDrain_keep hm | apply State.dramEnq_keep
                             | apply Keep.ite | apply Keep.forL | apply Keep.forN | apply Keep.forL1
                             | apply Keep.forN1 | apply Keep.foldl | apply Keep.foldl1 | split)
    | split
    | refine Keep.ofPair (by assumption) ?_

theorem State.dramCmdError_keep {m : Bool} {s0 t : State} (hm : m = true) (h : Keep m s0 t) {x1 x2 x3} : Keep m s0 (State.dramCmdError t x1 x2 x3) := by
  unfold State.dramCmdError
  try dsimp only
  with_reducible repeat' first
    | assumption
    | apply State.cmdErr_keep
    | apply State.modDc_keep
    | apply State.blockPoison_keep hm
    | apply State.chanFail_keep
    | apply State.dramAdmit_keep
    | apply State.dramReply_keep
    | apply Keep.ite
    | apply Keep.forL
    | apply Keep.forN
    | apply Keep.forL1
    | apply Keep.forN1
    | apply Keep.foldl
    | apply Keep.foldl1
    | intro _
    | (apply Keep.upd; first | assumption | apply State.cmdErr_keep | apply State.modDc_keep
                             | apply State.blockPoison_keep hm | apply State.chanFail_keep
                             | apply State.dramAdmit_keep | apply State.dramReply_keep | apply Keep.ite
                             | apply Keep.forL | apply Keep.forN | apply Keep.forL1 | apply Keep.forN1
                             | apply Keep.foldl | apply Keep.foldl1 | split)
    | split
    | refine Keep.ofPair (by assumption) ?_

theorem State.dramNote_keep {m : Bool} {s0 t : State} (h : Keep m s0 t) {x1 x2} : Keep m s0 (State.dramNote t x1 x2) := by
  unfold State.dramNote
  try dsimp only
  with_reducible repeat' first
    | assumption
    | apply State.modDc_keep
    | apply Keep.ite
    | apply Keep.forL
    | apply Keep.forN
    | apply Keep.forL1
    | apply Keep.forN1
    | apply Keep.foldl
    | apply Keep.foldl1
    | intro _
    | (apply Keep.upd; first | assumption | apply State.modDc_keep | apply Keep.ite | apply Keep.forL
                             | apply Keep.forN | apply Keep.forL1 | apply Keep.forN1 | apply Keep.foldl
                             | apply Keep.foldl1 | split)
    | split
    | refine Keep.ofPair (by assumption) ?_

theorem State.dramJudge_keep {m : Bool} {s0 t : State} (hm : m = true) (h : Keep m s0 t) {x1 x2 x3} : Keep m s0 (State.dramJudge t x1 x2 x3) := by
  unfold State.dramJudge
  try dsimp only
  with_reducible repeat' first
    | assumption
    | apply State.judge_keep
    | apply State.dramReply_keep
    | apply State.dramArrive_keep hm
    | apply Keep.ite
    | apply Keep.ite1
    | apply Keep.forL
    | apply Keep.forN
    | apply Keep.forL1
    | apply Keep.forN1
    | apply Keep.foldl
    | apply Keep.foldl1
    | intro _
    | (apply Keep.upd; first | assumption | apply State.judge_keep | apply State.dramReply_keep
                             | apply State.dramArrive_keep hm | apply Keep.ite | apply Keep.ite1 | apply Keep.forL
                             | apply Keep.forN | apply Keep.forL1 | apply Keep.forN1 | apply Keep.foldl
                             | apply Keep.foldl1 | split)
    | split
    | refine Keep.ofPair (by assumption) ?_

end Sys2Proof.Machine
end

