-- ==== Sys2Proof/Laws/KeepE.lean ====
section
/-! SUPPORT. `Keep` for the operations of the model, callees first (continued). -/

set_option maxRecDepth 4000

namespace Sys2Proof.Machine

theorem State.dramRequest_keep {m : Bool} {s0 t : State} (hm : m = true) (h : Keep m s0 t) {x1 x2 x3} : Keep m s0 (State.dramRequest t x1 x2 x3) := by
  unfold State.dramRequest
  try dsimp only
  with_reducible repeat' first
    | assumption
    | apply State.dramNote_keep
    | apply State.dramJudge_keep hm
    | apply Keep.ite
    | apply Keep.forL
    | apply Keep.forN
    | apply Keep.forL1
    | apply Keep.forN1
    | apply Keep.foldl
    | apply Keep.foldl1
    | intro _
    | (apply Keep.upd; first | assumption | apply State.dramNote_keep | apply State.dramJudge_keep hm | apply Keep.ite
                             | apply Keep.forL | apply Keep.forN | apply Keep.forL1 | apply Keep.forN1
                             | apply Keep.foldl | apply Keep.foldl1 | split)
    | split
    | refine Keep.ofPair (by assumption) ?_

theorem State.dramIssue_keep {m : Bool} {s0 t : State} (hm : m = true) (h : Keep m s0 t) {x1 x2 x3} : Keep m s0 (State.dramIssue t x1 x2 x3) := by
  unfold State.dramIssue
  with_reducible repeat' first
    | assumption
    | apply State.dramRequest_keep hm
    | apply Keep.ite
    | apply Keep.forL
    | intro _
    | (apply Keep.upd; first | assumption | apply State.dramRequest_keep hm | apply Keep.ite | apply Keep.forL
                             | split)
    | split
    | refine Keep.ofPair (by assumption) ?_

theorem State.dramNext_keep {m : Bool} {s0 t : State} (hm : m = true) (h : Keep m s0 t) {x1 x2} : Keep m s0 (State.dramNext t x1 x2) := by
  unfold State.dramNext
  with_reducible repeat' first
    | assumption
    | apply State.dramDrain_keep hm
    | apply State.dramAdmit_keep
    | apply State.dramServe_keep hm
    | apply Keep.ite
    | apply Keep.forL
    | intro _
    | (apply Keep.upd; first | assumption | apply State.dramDrain_keep hm | apply State.dramAdmit_keep
                             | apply State.dramServe_keep hm | apply Keep.ite | apply Keep.forL | split)
    | split
    | refine Keep.ofPair (by assumption) ?_

theorem State.scrubWake_keep {m : Bool} {s0 t : State} (h : Keep m s0 t) {x1} : Keep m s0 (State.scrubWake t x1) := by
  unfold State.scrubWake
  try dsimp only
  with_reducible repeat' first
    | assumption
    | apply State.waitTo_keep
    | apply State.srExit_keep
    | apply Keep.ite
    | apply Keep.forL
    | apply Keep.forN
    | apply Keep.forL1
    | apply Keep.forN1
    | apply Keep.foldl
    | apply Keep.foldl1
    | intro _
    | (apply Keep.upd; first | assumption | apply State.waitTo_keep | apply State.srExit_keep | apply Keep.ite
                             | apply Keep.forL | apply Keep.forN | apply Keep.forL1 | apply Keep.forN1
                             | apply Keep.foldl | apply Keep.foldl1 | split)
    | split
    | refine Keep.ofPair (by assumption) ?_

theorem State.scrubWord_keep {m : Bool} {s0 t : State} (hm : m = true) (h : Keep m s0 t) {x1 x2} : Keep m s0 (State.scrubWord t x1 x2) := by
  unfold State.scrubWord
  with_reducible repeat' first
    | assumption
    | apply State.dramClean_keep hm
    | apply State.dramCe_keep
    | apply State.dramUe_keep
    | apply State.stat_keep
    | apply State.dramPoison_keep hm
    | apply Keep.ite
    | apply Keep.forL
    | intro _
    | (apply Keep.upd; first | assumption | apply State.dramClean_keep hm | apply State.dramCe_keep
                             | apply State.dramUe_keep | apply State.stat_keep | apply State.dramPoison_keep hm
                             | apply Keep.ite | apply Keep.forL | split)
    | split
    | refine Keep.ofPair (by assumption) ?_

theorem State.dramScrub_keep {m : Bool} {s0 t : State} (hm : m = true) (h : Keep m s0 t) : Keep m s0 (State.dramScrub t) := by
  unfold State.dramScrub
  try dsimp only
  with_reducible repeat' first
    | assumption
    | apply State.waitTo_keep
    | apply State.dramServed_keep
    | apply State.scrubWake_keep
    | apply State.scrubWord_keep hm
    | apply State.stat_keep
    | apply State.inc_keep
    | apply State.put64_keep
    | apply Keep.ite
    | apply Keep.forL
    | apply Keep.forN
    | apply Keep.forL1
    | apply Keep.forN1
    | apply Keep.foldl
    | apply Keep.foldl1
    | intro _
    | (apply Keep.upd; first | assumption | apply State.waitTo_keep | apply State.dramServed_keep
                             | apply State.scrubWake_keep | apply State.scrubWord_keep hm | apply State.stat_keep
                             | apply State.inc_keep | apply State.put64_keep | apply Keep.ite | apply Keep.forL
                             | apply Keep.forN | apply Keep.forL1 | apply Keep.forN1 | apply Keep.foldl
                             | apply Keep.foldl1 | split)
    | split
    | refine Keep.ofPair (by assumption) ?_

theorem heapOk_keep {m : Bool} {s0 t : State} (hm : m = true) (h : Keep m s0 t) {x0 x1 x2 x4 x5} : Keep m s0 (heapOk x0 x1 x2 t x4 x5).1 := by
  induction x5 generalizing t x0 x1 x2 x4 with
  | nil =>
    unfold heapOk
    with_reducible repeat' first
      | assumption
      | apply ih
      | apply GReader.rd_keep hm
      | apply Keep.ite
      | apply Keep.ite1
      | apply Keep.forL
      | intro _
      | (apply Keep.upd; first | assumption | apply ih | apply GReader.rd_keep hm | apply Keep.ite | apply Keep.ite1
                               | apply Keep.forL | split)
      | split
      | refine Keep.ofPair (by assumption) ?_
  | cons e l ih =>
    unfold heapOk
    with_reducible repeat' first
      | assumption
      | apply ih
      | apply GReader.rd_keep hm
      | apply Keep.ite
      | apply Keep.ite1
      | apply Keep.forL
      | intro _
      | (apply Keep.upd; first | assumption | apply ih | apply GReader.rd_keep hm | apply Keep.ite | apply Keep.ite1
                               | apply Keep.forL | split)
      | split
      | refine Keep.ofPair (by assumption) ?_

theorem bindsOk_keep {m : Bool} {s0 t : State} (hm : m = true) (h : Keep m s0 t) {x0 x1 x2 x3 x4 x5 x7 x8} : Keep m s0 (bindsOk x0 x1 x2 x3 x4 x5 t x7 x8).1 := by
  induction x8 generalizing t x0 x1 x2 x3 x4 x5 x7 with
  | zero =>
    unfold bindsOk
    with_reducible repeat' first
      | assumption
      | apply ih
      | apply GReader.rd_keep hm
      | apply heapOk_keep hm
      | apply Keep.ite
      | apply Keep.ite1
      | apply Keep.forL
      | intro _
      | (apply Keep.upd; first | assumption | apply ih | apply GReader.rd_keep hm | apply heapOk_keep hm
                               | apply Keep.ite | apply Keep.ite1 | apply Keep.forL | split)
      | split
      | refine Keep.ofPair (by assumption) ?_
  | succ n ih =>
    unfold bindsOk
    with_reducible repeat' first
      | assumption
      | apply ih
      | apply GReader.rd_keep hm
      | apply heapOk_keep hm
      | apply Keep.ite
      | apply Keep.ite1
      | apply Keep.forL
      | intro _
      | (apply Keep.upd; first | assumption | apply ih | apply GReader.rd_keep hm | apply heapOk_keep hm
                               | apply Keep.ite | apply Keep.ite1 | apply Keep.forL | split)
      | split
      | refine Keep.ofPair (by assumption) ?_

theorem objStatus_keep {m : Bool} {s0 t : State} (hm : m = true) (h : Keep m s0 t) {x0 x1 x2 x3 x4 x5 x6} : Keep m s0 (objStatus x0 x1 x2 x3 x4 x5 x6 t).1 := by
  unfold objStatus
  with_reducible repeat' first
    | assumption
    | apply GReader.rd_keep hm
    | apply bindsOk_keep hm
    | apply Keep.ite
    | apply Keep.ite1
    | apply Keep.forL
    | intro _
    | (apply Keep.upd; first | assumption | apply GReader.rd_keep hm | apply bindsOk_keep hm | apply Keep.ite
                             | apply Keep.ite1 | apply Keep.forL | split)
    | split
    | refine Keep.ofPair (by assumption) ?_

theorem drawStatus_keep {m : Bool} {s0 t : State} (hm : m = true) (h : Keep m s0 t) {x0 x1 x2} : Keep m s0 (drawStatus x0 x1 x2 t).1 := by
  unfold drawStatus
  with_reducible repeat' first
    | assumption
    | apply objStatus_keep hm
    | apply GReader.rd_keep hm
    | apply Keep.ite
    | apply Keep.ite1
    | apply Keep.forL
    | intro _
    | (apply Keep.upd; first | assumption | apply objStatus_keep hm | apply GReader.rd_keep hm | apply Keep.ite
                             | apply Keep.ite1 | apply Keep.forL | split)
    | split
    | refine Keep.ofPair (by assumption) ?_

theorem State.drawNext_keep {m : Bool} {s0 t : State} (hm : m = true) (h : Keep m s0 t) {x1 x2} : Keep m s0 (State.drawNext t x1 x2) := by
  unfold State.drawNext
  with_reducible repeat' first
    | assumption
    | apply GReader.rd_keep hm
    | apply drawStatus_keep hm
    | apply State.modJob_keep
    | apply State.stat_keep
    | apply State.jobStatus_keep
    | apply Keep.ite
    | apply Keep.ite1
    | apply Keep.forL
    | intro _
    | (apply Keep.upd; first | assumption | apply GReader.rd_keep hm | apply drawStatus_keep hm
                             | apply State.modJob_keep | apply State.stat_keep | apply State.jobStatus_keep
                             | apply Keep.ite | apply Keep.ite1 | apply Keep.forL | split)
    | split
    | refine Keep.ofPair (by assumption) ?_

theorem State.earcon_keep {m : Bool} {s0 t : State} (h : Keep m s0 t) {x1 x2 x3} : Keep m s0 (State.earcon t x1 x2 x3).1 := by
  unfold State.earcon
  with_reducible repeat' first
    | assumption
    | apply State.mreadC_keep
    | apply Keep.ite
    | apply Keep.ite1
    | apply Keep.forL
    | intro _
    | (apply Keep.upd; first | assumption | apply State.mreadC_keep | apply Keep.ite | apply Keep.ite1
                             | apply Keep.forL | split)
    | split
    | refine Keep.ofPair (by assumption) ?_

theorem State.edgeLate_keep {m : Bool} {s0 t : State} (h : Keep m s0 t) {x1} : Keep m s0 (State.edgeLate t x1) := by
  unfold State.edgeLate
  with_reducible repeat' first
    | assumption
    | apply State.clockLoss_keep
    | apply Keep.ite
    | apply Keep.forL
    | intro _
    | (apply Keep.upd; first | assumption | apply State.clockLoss_keep | apply Keep.ite | apply Keep.forL | split)
    | split
    | refine Keep.ofPair (by assumption) ?_

theorem State.enableDone_keep {m : Bool} {s0 t : State} (hm : m = true) (h : Keep m s0 t) {x1} : Keep m s0 (State.enableDone t x1) := by
  unfold State.enableDone
  with_reducible repeat' first
    | assumption
    | apply State.checkDone_keep
    | apply State.modCtl_keep
    | apply State.holdNote_keep
    | apply State.put_keep
    | apply State.copySc_keep
    | apply State.allocApply_keep
    | apply State.maskApply_keep hm
    | apply State.startBlock_keep hm
    | apply State.startEnable_keep
    | apply State.fenceRelease1_keep
    | apply State.startQueued_keep
    | apply Keep.ite
    | apply Keep.forL
    | intro _
    | (apply Keep.upd; first | assumption | apply State.checkDone_keep | apply State.modCtl_keep
                             | apply State.holdNote_keep | apply State.put_keep | apply State.copySc_keep
                             | apply State.allocApply_keep | apply State.maskApply_keep hm
                             | apply State.startBlock_keep hm | apply State.startEnable_keep
                             | apply State.fenceRelease1_keep | apply State.startQueued_keep | apply Keep.ite
                             | apply Keep.forL | split)
    | split
    | refine Keep.ofPair (by assumption) ?_

theorem State.endAtIssue_keep {m : Bool} {s0 t : State} (h : Keep m s0 t) {x1 x2} : Keep m s0 (State.endAtIssue t x1 x2) := by
  unfold State.endAtIssue
  with_reducible repeat' first
    | assumption
    | apply State.descEnd_keep

theorem State.entdaa_keep {m : Bool} {s0 t : State} (h : Keep m s0 t) {x1 x2} : Keep m s0 (State.entdaa t x1 x2) := by
  unfold State.entdaa
  with_reducible repeat' first
    | assumption
    | apply State.bcAssign_keep
    | intro _
    | split

theorem State.estimate_keep {m : Bool} {s0 t : State} (h : Keep m s0 t) {x1 x2 x3} : Keep m s0 (State.estimate t x1 x2 x3) := by
  unfold State.estimate
  with_reducible repeat' first
    | assumption
    | apply State.setConv_keep
    | apply State.setConvState_keep
    | apply State.put_keep
    | apply State.convLock_keep
    | apply Keep.ite
    | apply Keep.forL
    | intro _

theorem State.swapDone_keep {m : Bool} {s0 t : State} (hm : m = true) (h : Keep m s0 t) {x1} : Keep m s0 (State.swapDone t x1) := by
  unfold State.swapDone
  with_reducible repeat' first
    | assumption
    | apply State.applyArmed_keep hm
    | apply State.swapOff_keep
    | apply State.jrecOwn_keep
    | apply Keep.ite
    | apply Keep.forL
    | intro _
    | (apply Keep.upd; first | assumption | apply State.applyArmed_keep hm | apply State.swapOff_keep
                             | apply State.jrecOwn_keep | apply Keep.ite | apply Keep.forL | split)
    | split
    | refine Keep.ofPair (by assumption) ?_

theorem State.setGain_keep {m : Bool} {s0 t : State} (h : Keep m s0 t) {x1 x2} : Keep m s0 (State.setGain t x1 x2) := by
  unfold State.setGain
  with_reducible repeat' first
    | assumption
    | apply State.modAudio_keep

theorem State.forceGains_keep {m : Bool} {s0 t : State} (h : Keep m s0 t) {x1 x2} : Keep m s0 (State.forceGains t x1 x2) := by
  unfold State.forceGains
  with_reducible repeat' first
    | assumption
    | apply State.setGain_keep
    | apply Keep.forL
    | intro _

theorem State.fadeIn_keep {m : Bool} {s0 t : State} (hm : m = true) (h : Keep m s0 t) {x1} : Keep m s0 (State.fadeIn t x1) := by
  unfold State.fadeIn
  with_reducible repeat' first
    | assumption
    | apply State.swapDone_keep hm
    | apply State.forceGains_keep
    | apply State.modAudio_keep
    | apply Keep.ite
    | apply Keep.forL
    | intro _
    | (apply Keep.upd; first | assumption | apply State.swapDone_keep hm | apply State.forceGains_keep
                             | apply State.modAudio_keep | apply Keep.ite | apply Keep.forL | split)
    | split
    | refine Keep.ofPair (by assumption) ?_

theorem State.fadeOut_keep {m : Bool} {s0 t : State} (h : Keep m s0 t) {x1} : Keep m s0 (State.fadeOut t x1) := by
  unfold State.fadeOut
  with_reducible repeat' first
    | assumption
    | apply State.modAudio_keep
    | apply State.forceGains_keep
    | apply Keep.ite
    | intro _

theorem State.gainStep_keep {m : Bool} {s0 t : State} (h : Keep m s0 t) {x1} : Keep m s0 (State.gainStep t x1) := by
  unfold State.gainStep
  with_reducible repeat' first
    | assumption
    | apply State.setGain_keep
    | apply Keep.ite
    | intro _

theorem State.swapBanks_keep {m : Bool} {s0 t : State} (hm : m = true) (h : Keep m s0 t) {x1 x2} : Keep m s0 (State.swapBanks t x1 x2) := by
  unfold State.swapBanks
  with_reducible repeat' first
    | assumption
    | apply State.modAudio_keep
    | apply State.put_keep
    | apply State.forceGains_keep
    | apply State.fadeIn_keep hm
    | apply Keep.ite
    | apply Keep.forL
    | intro _
    | (apply Keep.upd; first | assumption | apply State.modAudio_keep | apply State.put_keep
                             | apply State.forceGains_keep | apply State.fadeIn_keep hm | apply Keep.ite
                             | apply Keep.forL | split)
    | split
    | refine Keep.ofPair (by assumption) ?_

theorem State.swapStep_keep {m : Bool} {s0 t : State} (hm : m = true) (h : Keep m s0 t) {x1} : Keep m s0 (State.swapStep t x1) := by
  unfold State.swapStep
  with_reducible repeat' first
    | assumption
    | apply State.fadeOut_keep
    | apply State.swapBanks_keep hm
    | apply State.fadeIn_keep hm
    | apply State.swapOff_keep
    | apply Keep.ite
    | apply Keep.forL
    | intro _
    | (apply Keep.upd; first | assumption | apply State.fadeOut_keep | apply State.swapBanks_keep hm
                             | apply State.fadeIn_keep hm | apply State.swapOff_keep | apply Keep.ite
                             | apply Keep.forL | split)
    | split
    | refine Keep.ofPair (by assumption) ?_

theorem State.lineFire_keep {m : Bool} {s0 t : State} (h : Keep m s0 t) {x1} : Keep m s0 (State.lineFire t x1) := by
  unfold State.lineFire
  with_reducible repeat' first
    | assumption
    | apply State.put_keep
    | apply State.stat_keep
    | apply State.setPlayer_keep
    | apply Keep.ite
    | intro _

theorem State.lineStartsAt_keep {m : Bool} {s0 t : State} (h : Keep m s0 t) {x1} : Keep m s0 (State.lineStartsAt t x1) := by
  unfold State.lineStartsAt
  with_reducible repeat' first
    | assumption
    | apply State.lineFire_keep
    | apply Keep.ite
    | apply Keep.forL
    | intro _
    | (apply Keep.upd; first | assumption | apply State.lineFire_keep | apply Keep.ite | apply Keep.forL | split)
    | split
    | refine Keep.ofPair (by assumption) ?_

theorem State.streamStep_keep {m : Bool} {s0 t : State} (h : Keep m s0 t) {x1} : Keep m s0 (State.streamStep t x1) := by
  unfold State.streamStep
  with_reducible repeat' first
    | assumption
    | apply State.setPlayer_keep
    | apply State.earcon_keep
    | apply State.tookFree_keep
    | apply Keep.ite
    | apply Keep.ite1
    | apply Keep.forL
    | apply Keep.forN
    | intro _
    | (apply Keep.upd; first | assumption | apply State.setPlayer_keep | apply State.earcon_keep
                             | apply State.tookFree_keep | apply Keep.ite | apply Keep.ite1 | apply Keep.forL
                             | apply Keep.forN | split)
    | split
    | refine Keep.ofPair (by assumption) ?_

theorem State.playFrame_keep {m : Bool} {s0 t : State} (h : Keep m s0 t) {x1 x2} : Keep m s0 (State.playFrame t x1 x2).1 := by
  unfold State.playFrame
  with_reducible repeat' first
    | assumption
    | apply State.tookFree_keep
    | apply State.earcon_keep hm
    | split

theorem State.playSample_keep {m : Bool} {s0 t : State} (h : Keep m s0 t) {x1 x2} : Keep m s0 (State.playSample t x1 x2).1 := by
  unfold State.playSample
  with_reducible repeat' first
    | assumption
    | apply State.playFrame_keep
    | apply Keep.ite
    | apply Keep.ite1
    | apply Keep.forL
    | intro _
    | (apply Keep.upd; first | assumption | apply State.playFrame_keep | apply Keep.ite | apply Keep.ite1
                             | apply Keep.forL | split)
    | split
    | refine Keep.ofPair (by assumption) ?_

theorem State.playStep_keep {m : Bool} {s0 t : State} (h : Keep m s0 t) {x1 x2} : Keep m s0 (State.playStep t x1 x2) := by
  unfold State.playStep
  with_reducible repeat' first
    | assumption
    | apply State.setPlayer_keep
    | apply State.intBit_keep
    | apply State.put_keep
    | apply State.streamStep_keep
    | apply State.modAudio_keep
    | apply State.playSample_keep
    | apply State.jrecTo_keep
    | apply State.stat_keep
    | apply Keep.ite
    | apply Keep.ite1
    | apply Keep.forL
    | intro _
    | (apply Keep.upd; first | assumption | apply State.setPlayer_keep | apply State.intBit_keep
                             | apply State.put_keep | apply State.streamStep_keep | apply State.modAudio_keep
                             | apply State.playSample_keep | apply State.jrecTo_keep | apply State.stat_keep
                             | apply Keep.ite | apply Keep.ite1 | apply Keep.forL | split)
    | split
    | refine Keep.ofPair (by assumption) ?_

theorem State.sinksOut_keep {m : Bool} {s0 t : State} (h : Keep m s0 t) {x1} : Keep m s0 (State.sinksOut t x1) := by
  unfold State.sinksOut
  with_reducible repeat' first
    | assumption
    | apply State.convPush_keep
    | apply Keep.ite
    | apply Keep.forL
    | intro _

theorem State.sources_keep {m : Bool} {s0 t : State} (h : Keep m s0 t) {x1} : Keep m s0 (State.sources t x1).1 := by
  unfold State.sources
  with_reducible repeat' first
    | assumption
    | apply State.convOut_keep
    | apply Keep.foldl1
    | intro _

theorem State.setAmem_keep {m : Bool} {s0 t : State} (h : Keep m s0 t) {x1 x2} : Keep m s0 (State.setAmem t x1 x2) := by
  unfold State.setAmem
  with_reducible repeat' first
    | assumption
    | apply State.modAudio_keep

theorem State.statMax_keep {m : Bool} {s0 t : State} (h : Keep m s0 t) {x1 x2 x3} : Keep m s0 (State.statMax t x1 x2 x3) := by
  unfold State.statMax
  with_reducible repeat' first
    | assumption
    | apply Keep.ite
    | apply Keep.forL
    | intro _
    | (apply Keep.upd; first | assumption | apply Keep.ite | apply Keep.forL | split)
    | split
    | refine Keep.ofPair (by assumption) ?_

theorem State.setMeter_keep {m : Bool} {s0 t : State} (h : Keep m s0 t) {x1 x2} : Keep m s0 (State.setMeter t x1 x2) := by
  unfold State.setMeter
  with_reducible repeat' first
    | assumption
    | apply State.modAudio_keep

theorem State.meterTake_keep {m : Bool} {s0 t : State} (h : Keep m s0 t) {x1 x2} : Keep m s0 (State.meterTake t x1 x2) := by
  unfold State.meterTake
  with_reducible repeat' first
    | assumption
    | apply State.statMax_keep
    | apply State.setMeter_keep

theorem Run.finds_keep {m : Bool} {s0 : State} {x : Run} (h : Keep m s0 x.s) (k b a : Nat) :
    Keep m s0 (x.finds k b a).1.s := by
  unfold Run.finds
  dsimp only
  split
  · exact h
  · split
    · exact State.logAdd_keep (State.bucketAdd_keep h)
    · dsimp only
      exact State.hitAcc_keep (State.logAdd_keep h)

theorem Run.read_keep {m : Bool} {s0 : State} {x : Run} (h : Keep m s0 x.s) (a : Nat) : Keep m s0 (x.read a).1.s := by
  unfold Run.read
  dsimp only
  split
  · exact Run.finds_keep h _ _ _
  · exact State.stat_keep (Run.finds_keep h _ _ _)
  · exact Run.finds_keep h _ _ _

theorem Run.readB_keep {m : Bool} {s0 : State} {x : Run} (h : Keep m s0 x.s) (w l : Nat) : Keep m s0 (x.readB w l).1.s := by
  unfold Run.readB
  dsimp only
  split
  · exact Run.read_keep h _
  · split
    · exact Run.finds_keep h _ _ _
    · exact State.stat_keep (Run.finds_keep h _ _ _)
    · exact Run.finds_keep h _ _ _

theorem Run.store_keep {m : Bool} {s0 : State} {x : Run} (h : Keep m s0 x.s) (op imm w l : Nat) (acc a b : Int) :
    Keep m s0 (x.store op imm w l acc a b).s := by
  unfold Run.store
  split
  · exact State.setAmem_keep h
  · exact State.setAmem_keep h
  · dsimp only
    exact State.modAudio_keep h
  · exact State.meterTake_keep h
  · exact h

theorem Run.foldl_keep {m : Bool} {α β : Type} {s0 : State} {g : α → Run} {f : α → β → α}
    (hf : ∀ a b, Keep m s0 (g a).s → Keep m s0 (g (f a b)).s) (l : List β) :
    ∀ {a : α}, Keep m s0 (g a).s → Keep m s0 (g (l.foldl f a)).s := by
  induction l with
  | nil => intro a h; exact h
  | cons b l ih => intro a h; exact ih (hf a b h)

theorem Run.step_keep {m : Bool} {s0 : State} {x : Run} (h : Keep m s0 x.s) (i : BitVec 64) : Keep m s0 (Run.step x i).s := by
  unfold Run.step
  split
  · exact h
  · refine Run.foldl_keep (g := fun x => x) ?_ _ ?_
    · intro a b ha
      exact Run.store_keep ha _ _ _ _ _ _ _
    · refine Run.foldl_keep (g := fun p : Run × List (Nat × Int × Int × Int) => p.1) ?_ _ h
      intro p l hp
      have ha : Keep m s0 (if readsA (bits i.toNat 63 58) then p.1.read (p.1.addrA i.toNat l) else (p.1, 0)).1.s := by
        split
        · exact Run.read_keep hp _
        · exact hp
      dsimp only
      split
      · exact Run.readB_keep ha _ _
      · exact ha

theorem State.runProgram_keep {m : Bool} {s0 t : State} (h : Keep m s0 t) {x1 x2} : Keep m s0 (State.runProgram t x1 x2) := by
  unfold State.runProgram
  dsimp only
  have hs : Keep m s0 ((t.inc aengPage F.AENG.SAMPLE_SEQ).stat aengPage 0) := State.stat_keep (State.inc_keep h)
  have hr := fun e n l k => Run.foldl_keep (s0 := s0) (g := fun x => x) (f := Run.step) (fun a b ha => Run.step_keep ha b)
    ((t.inc aengPage F.AENG.SAMPLE_SEQ).stat aengPage 0).bankOn.prog (a := ⟨_, [0, 0, 0, 0], 0, e, n, l, k⟩)
    (State.sources_keep hs (x1 := x1))
  refine Keep.ite (fun _ => ?_) (fun _ => ?_)
  · exact State.hit_keep (State.intBit_keep (State.stat_keep (State.put_keep (hr _ _ _ _))))
  · exact State.put_keep (hr _ _ _ _)

theorem State.sampleBoundary_keep {m : Bool} {s0 t : State} (hm : m = true) (h : Keep m s0 t) {x1} : Keep m s0 (State.sampleBoundary t x1) := by
  unfold State.sampleBoundary
  with_reducible repeat' first
    | assumption
    | apply State.waitTo_keep
    | apply State.markerAt_keep hm
    | apply State.modAudio_keep
    | apply State.gainStep_keep
    | apply State.swapStep_keep hm
    | apply State.lineStartsAt_keep
    | apply State.playStep_keep
    | apply State.sinksOut_keep
    | apply State.runProgram_keep
    | apply State.reportLat_keep
    | apply State.put_keep
    | apply Keep.ite
    | apply Keep.forL
    | intro _
    | (apply Keep.upd; first | assumption | apply State.waitTo_keep | apply State.markerAt_keep hm
                             | apply State.modAudio_keep | apply State.gainStep_keep | apply State.swapStep_keep hm
                             | apply State.lineStartsAt_keep | apply State.playStep_keep | apply State.sinksOut_keep
                             | apply State.runProgram_keep | apply State.reportLat_keep | apply State.put_keep
                             | apply Keep.ite | apply Keep.forL | split)
    | split
    | refine Keep.ofPair (by assumption) ?_

theorem State.fadeTimeout_keep {m : Bool} {s0 t : State} (hm : m = true) (h : Keep m s0 t) : Keep m s0 (State.fadeTimeout t) := by
  unfold State.fadeTimeout
  with_reducible repeat' first
    | assumption
    | apply State.sampleBoundary_keep hm
    | apply Keep.ite
    | apply Keep.forL
    | apply Keep.forN
    | intro _
    | (apply Keep.upd; first | assumption | apply State.sampleBoundary_keep hm | apply Keep.ite | apply Keep.forL
                             | apply Keep.forN | split)
    | split
    | refine Keep.ofPair (by assumption) ?_

theorem State.faultPin_keep {m : Bool} {s0 t : State} (h : Keep m s0 t) {x1 x2} : Keep m s0 (State.faultPin t x1 x2) := by
  unfold State.faultPin
  with_reducible repeat' first
    | assumption
    | apply State.put_keep
    | apply State.chanFault_keep
    | apply State.intBit_keep
    | apply Keep.ite
    | apply Keep.forL
    | intro _

theorem State.fenceRelease_keep {m : Bool} {s0 t : State} (h : Keep m s0 t) {x1} : Keep m s0 (State.fenceRelease t x1) := by
  unfold State.fenceRelease
  with_reducible repeat' first
    | assumption
    | apply State.fenceRelease1_keep
    | apply Keep.ite
    | apply Keep.forL
    | intro _

theorem State.tOut_keep {m : Bool} {s0 t : State} (h : Keep m s0 t) {x1 x2} : Keep m s0 (State.tOut t x1 x2) := by
  unfold State.tOut
  with_reducible repeat' first
    | assumption
    | apply State.stat_keep
    | apply State.modTport_keep
    | apply Keep.ite
    | intro _

theorem State.tLink_keep {m : Bool} {s0 t : State} (h : Keep m s0 t) {x1 x2 x3 x4} : Keep m s0 (State.tLink t x1 x2 x3 x4) := by
  unfold State.tLink
  with_reducible repeat' first
    | assumption
    | apply State.tOut_keep

theorem State.timeSent_keep {m : Bool} {s0 t : State} (h : Keep m s0 t) {x1 x2} : Keep m s0 (State.timeSent t x1 x2) := by
  unfold State.timeSent
  with_reducible repeat' first
    | assumption
    | apply State.modTport_keep

theorem State.flitSlot_keep {m : Bool} {s0 t : State} (h : Keep m s0 t) {x1} : Keep m s0 (State.flitSlot t x1) := by
  unfold State.flitSlot
  with_reducible repeat' first
    | assumption
    | apply State.waitTo_keep
    | apply State.modTport_keep
    | apply State.stat_keep
    | apply State.tLink_keep
    | apply State.tOut_keep
    | apply State.timeSent_keep
    | apply Keep.ite
    | intro _
    | split

theorem State.flr_keep {m : Bool} {s0 t : State} (hm : m = true) (h : Keep m s0 t) {x1 x2} : Keep m s0 (State.flr t x1 x2) := by
  unfold State.flr
  with_reducible repeat' first
    | assumption
    | apply State.fnReset_keep
    | apply State.setQuiesce_keep
    | apply State.instReset_keep hm
    | apply State.quiesceStart_keep
    | apply Keep.ite
    | apply Keep.forL
    | intro _
    | (apply Keep.upd; first | assumption | apply State.fnReset_keep | apply State.setQuiesce_keep
                             | apply State.instReset_keep hm | apply State.quiesceStart_keep | apply Keep.ite
                             | apply Keep.forL | split)
    | split
    | refine Keep.ofPair (by assumption) ?_

theorem State.flrRequest_keep {m : Bool} {s0 t : State} (hm : m = true) (h : Keep m s0 t) {x1 x2} : Keep m s0 (State.flrRequest t x1 x2) := by
  unfold State.flrRequest
  with_reducible repeat' first
    | assumption
    | apply State.flr_keep hm
    | apply Keep.ite
    | apply Keep.forL
    | intro _
    | (apply Keep.upd; first | assumption | apply State.flr_keep hm | apply Keep.ite | apply Keep.forL | split)
    | split
    | refine Keep.ofPair (by assumption) ?_

theorem State.fnStray_keep {m : Bool} {s0 t : State} (h : Keep m s0 t) {x1 x2 x3 x4} : Keep m s0 (State.fnStray t x1 x2 x3 x4) := by
  unfold State.fnStray
  with_reducible repeat' first
    | assumption
    | apply State.hitAcc_keep
    | apply Keep.ite
    | apply Keep.forL
    | intro _
    | (apply Keep.upd; first | assumption | apply State.hitAcc_keep | apply Keep.ite | apply Keep.forL | split)
    | split
    | refine Keep.ofPair (by assumption) ?_

theorem State.fnWord_keep {m : Bool} {s0 t : State} (h : Keep m s0 t) {x1 x2 x3 x4} : Keep m s0 (State.fnWord t x1 x2 x3 x4).1 := by
  unfold State.fnWord
  with_reducible repeat' first
    | assumption
    | apply State.fnStray_keep
    | apply Keep.ite
    | apply Keep.ite1
    | apply Keep.forL
    | intro _
    | (apply Keep.upd; first | assumption | apply State.fnStray_keep | apply Keep.ite | apply Keep.ite1
                             | apply Keep.forL | split)
    | split
    | refine Keep.ofPair (by assumption) ?_

theorem State.fnRead_keep {m : Bool} {s0 t : State} (h : Keep m s0 t) {x1 x2 x3 x4} :
    Keep m s0 (State.fnRead t x1 x2 x3 x4) := by
  unfold State.fnRead State.answer
  split
  · exact h
  · split
    · exact State.stat_keep h
    · refine Keep.upd (Keep.ite1 (fun _ => ?_) (fun _ => ?_)) <;> exact State.fnWord_keep h

theorem State.journalRd_keep {m : Bool} {s0 t : State} (h : Keep m s0 t) {x1 x2 x3} : Keep m s0 (State.journalRd t x1 x2 x3) := by
  unfold State.journalRd
  with_reducible repeat' first
    | assumption
    | apply State.stat_keep
    | apply State.fnStray_keep
    | apply State.put_keep
    | apply Keep.ite
    | apply Keep.forL
    | intro _
    | (apply Keep.upd; first | assumption | apply State.stat_keep | apply State.fnStray_keep | apply State.put_keep
                             | apply Keep.ite | apply Keep.forL | split)
    | split
    | refine Keep.ofPair (by assumption) ?_

theorem State.fnWrite_keep {m : Bool} {s0 t : State} (h : Keep m s0 t) {x1 x2 x3 x4 x5} : Keep m s0 (State.fnWrite t x1 x2 x3 x4 x5) := by
  unfold State.fnWrite
  with_reducible repeat' first
    | assumption
    | apply State.doorbell_keep
    | apply State.journalRd_keep
    | apply State.stat_keep
    | apply State.fnStray_keep
    | apply Keep.ite
    | apply Keep.forL
    | intro _
    | (apply Keep.upd; first | assumption | apply State.doorbell_keep | apply State.journalRd_keep
                             | apply State.stat_keep | apply State.fnStray_keep | apply Keep.ite | apply Keep.forL
                             | split)
    | split
    | refine Keep.ofPair (by assumption) ?_

theorem State.frameBegin_keep {m : Bool} {s0 t : State} (h : Keep m s0 t) {x1 x2} : Keep m s0 (State.frameBegin t x1 x2) := by
  unfold State.frameBegin
  with_reducible repeat' first
    | assumption
    | apply State.acquire_keep
    | apply State.modPanel_keep
    | apply State.put_keep
    | apply State.setPanelState_keep
    | apply Keep.ite
    | intro _

theorem State.toReflex_keep {m : Bool} {s0 t : State} (h : Keep m s0 t) {x1} : Keep m s0 (State.toReflex t x1) := by
  unfold State.toReflex
  with_reducible repeat' first
    | assumption
    | apply Keep.ite
    | apply Keep.forL
    | intro _
    | (apply Keep.upd; first | assumption | apply Keep.ite | apply Keep.forL | split)
    | split
    | refine Keep.ofPair (by assumption) ?_

theorem State.report_keep {m : Bool} {s0 t : State} (hm : m = true) (h : Keep m s0 t) {x1 x2 x3 x4 x5} : Keep m s0 (State.report t x1 x2 x3 x4 x5) := by
  unfold State.report
  with_reducible repeat' first
    | assumption
    | apply State.modPanel_keep
    | apply State.intBit_keep
    | apply State.stat_keep
    | apply State.mwrite_keep hm
    | apply State.put_keep
    | apply Keep.ite
    | apply Keep.ite1
    | apply Keep.forL
    | intro _
    | (apply Keep.upd; first | assumption | apply State.modPanel_keep | apply State.intBit_keep
                             | apply State.stat_keep | apply State.mwrite_keep hm | apply State.put_keep
                             | apply Keep.ite | apply Keep.ite1 | apply Keep.forL | split)
    | split
    | refine Keep.ofPair (by assumption) ?_

theorem State.panelDown_keep {m : Bool} {s0 t : State} (hm : m = true) (h : Keep m s0 t) {x1 x2 x3} : Keep m s0 (State.panelDown t x1 x2 x3) := by
  unfold State.panelDown
  with_reducible repeat' first
    | assumption
    | apply State.put_keep
    | apply State.setPanelState_keep
    | apply State.modPanel_keep
    | apply State.tchRec_keep
    | apply State.applyPoint_keep hm
    | apply Keep.ite
    | apply Keep.forL
    | intro _
    | (apply Keep.upd; first | assumption | apply State.put_keep | apply State.setPanelState_keep
                             | apply State.modPanel_keep | apply State.tchRec_keep | apply State.applyPoint_keep hm
                             | apply Keep.ite | apply Keep.forL | split)
    | split
    | refine Keep.ofPair (by assumption) ?_

theorem State.linkLoss_keep {m : Bool} {s0 t : State} (hm : m = true) (h : Keep m s0 t) {x1 x2 x3} : Keep m s0 (State.linkLoss t x1 x2 x3) := by
  unfold State.linkLoss
  with_reducible repeat' first
    | assumption
    | apply State.intBit_keep
    | apply State.hit_keep
    | apply State.toReflex_keep
    | apply State.setContacts_keep
    | apply State.report_keep hm
    | apply State.panelDown_keep hm
    | apply Keep.ite
    | apply Keep.forL
    | intro _
    | (apply Keep.upd; first | assumption | apply State.intBit_keep | apply State.hit_keep | apply State.toReflex_keep
                             | apply State.setContacts_keep | apply State.report_keep hm
                             | apply State.panelDown_keep hm | apply Keep.ite | apply Keep.forL | split)
    | split
    | refine Keep.ofPair (by assumption) ?_

theorem State.noiseLevels_keep {m : Bool} {s0 t : State} (h : Keep m s0 t) {x1 x2} : Keep m s0 (State.noiseLevels t x1 x2) := by
  unfold State.noiseLevels
  with_reducible repeat' first
    | assumption
    | apply State.put_keep
    | apply Keep.forN
    | intro _

theorem State.track_keep {m : Bool} {s0 t : State} (h : Keep m s0 t) {x1 x2 x3 x4} : Keep m s0 (State.track t x1 x2 x3 x4).1 := by
  unfold State.track
  with_reducible repeat' first
    | assumption
    | apply State.stat_keep
    | apply State.tookFree_keep
    | apply Keep.forL1
    | intro _
    | split

theorem State.restNotice_keep {m : Bool} {s0 t : State} (h : Keep m s0 t) {x1 x2 x3} : Keep m s0 (State.restNotice t x1 x2 x3).1 := by
  induction x3 generalizing t x1 x2 with
  | nil =>
    unfold State.restNotice
    with_reducible repeat' first
      | assumption
      | apply ih
      | apply State.tchRec_keep
      | apply State.intBit_keep
      | apply State.hit_keep
      | apply Keep.ite1
      | intro _
  | cons e l ih =>
    unfold State.restNotice
    with_reducible repeat' first
      | assumption
      | apply ih
      | apply State.tchRec_keep
      | apply State.intBit_keep
      | apply State.hit_keep
      | apply Keep.ite1
      | intro _

theorem State.scanFrame_keep {m : Bool} {s0 t : State} (hm : m = true) (h : Keep m s0 t) {x1 x2 x3 x4} : Keep m s0 (State.scanFrame t x1 x2 x3 x4) := by
  unfold State.scanFrame
  with_reducible repeat' first
    | assumption
    | apply State.suspects_keep
    | apply State.modPanel_keep
    | apply State.track_keep
    | apply State.restNotice_keep
    | apply State.setContacts_keep
    | apply State.toReflex_keep
    | apply State.report_keep hm
    | apply Keep.ite
    | apply Keep.ite1
    | apply Keep.forL
    | intro _
    | (apply Keep.upd; first | assumption | apply State.suspects_keep | apply State.modPanel_keep
                             | apply State.track_keep | apply State.restNotice_keep | apply State.setContacts_keep
                             | apply State.toReflex_keep | apply State.report_keep hm | apply Keep.ite
                             | apply Keep.ite1 | apply Keep.forL | split)
    | split
    | refine Keep.ofPair (by assumption) ?_

theorem State.setNoisy_keep {m : Bool} {s0 t : State} (h : Keep m s0 t) {x1 x2 x3 x4} : Keep m s0 (State.setNoisy t x1 x2 x3 x4) := by
  unfold State.setNoisy
  with_reducible repeat' first
    | assumption
    | apply State.put_keep
    | apply State.hit_keep
    | apply State.intBit_keep
    | apply State.tchRec_keep
    | apply Keep.ite
    | intro _

theorem State.noiseTest_keep {m : Bool} {s0 t : State} (h : Keep m s0 t) {x1 x2 x3} : Keep m s0 (State.noiseTest t x1 x2 x3) := by
  unfold State.noiseTest
  with_reducible repeat' first
    | assumption
    | apply State.setNoisy_keep
    | apply State.modPanel_keep
    | apply State.stat_keep
    | apply Keep.ite
    | intro _

theorem State.goodFrame_keep {m : Bool} {s0 t : State} (hm : m = true) (h : Keep m s0 t) {x1 x2 x3} : Keep m s0 (State.goodFrame t x1 x2 x3) := by
  unfold State.goodFrame
  with_reducible repeat' first
    | assumption
    | apply State.dozeFrame_keep
    | apply State.noiseLevels_keep
    | apply State.acquireFrame_keep
    | apply State.scanFrame_keep hm
    | apply State.noiseTest_keep
    | apply State.approach_keep
    | apply Keep.ite
    | apply Keep.forL
    | intro _
    | (apply Keep.upd; first | assumption | apply State.dozeFrame_keep | apply State.noiseLevels_keep
                             | apply State.acquireFrame_keep | apply State.scanFrame_keep hm
                             | apply State.noiseTest_keep | apply State.approach_keep | apply Keep.ite
                             | apply Keep.forL | split)
    | split
    | refine Keep.ofPair (by assumption) ?_

theorem State.frameProcessed_keep {m : Bool} {s0 t : State} (hm : m = true) (h : Keep m s0 t) {x1} : Keep m s0 (State.frameProcessed t x1) := by
  unfold State.frameProcessed
  with_reducible repeat' first
    | assumption
    | apply State.modPanel_keep
    | apply State.put64_keep
    | apply State.stat_keep
    | apply State.linkLoss_keep hm
    | apply State.goodFrame_keep hm
    | apply Keep.ite
    | apply Keep.forL
    | intro _
    | (apply Keep.upd; first | assumption | apply State.modPanel_keep | apply State.put64_keep | apply State.stat_keep
                             | apply State.linkLoss_keep hm | apply State.goodFrame_keep hm | apply Keep.ite
                             | apply Keep.forL | split)
    | split
    | refine Keep.ofPair (by assumption) ?_

theorem State.tchRead_keep {m : Bool} {s0 t : State} (h : Keep m s0 t) {x1 x2} : Keep m s0 (State.tchRead t x1 x2).1 := by
  unfold State.tchRead
  with_reducible repeat' first
    | assumption
    | apply State.stat_keep
    | split

theorem State.tchSend_keep {m : Bool} {s0 t : State} (h : Keep m s0 t) {x1 x2 x3} : Keep m s0 (State.tchSend t x1 x2 x3) := by
  unfold State.tchSend
  with_reducible repeat' first
    | assumption
    | apply State.modPanel_keep

theorem State.transact_keep {m : Bool} {s0 t : State} (h : Keep m s0 t) {x1 x2 x3} : Keep m s0 (State.transact t x1 x2 x3).1 := by
  unfold State.transact
  with_reducible repeat' first
    | assumption
    | apply State.tchRead_keep
    | apply State.tchSend_keep

theorem State.frameSlot_keep {m : Bool} {s0 t : State} (h : Keep m s0 t) {x1 x2} : Keep m s0 (State.frameSlot t x1 x2) := by
  unfold State.frameSlot
  with_reducible repeat' first
    | assumption
    | apply State.waitTo_keep
    | apply State.stat_keep
    | apply State.put_keep
    | apply State.sourceAt_keep
    | apply State.transact_keep
    | apply State.modPanel_keep
    | intro _
    | split

theorem State.frameStart_keep {m : Bool} {s0 t : State} (hm : m = true) (h : Keep m s0 t) {x1} : Keep m s0 (State.frameStart t x1) := by
  unfold State.frameStart
  with_reducible repeat' first
    | assumption
    | apply State.frameProcessed_keep hm
    | apply State.applyPoint_keep hm
    | apply State.waitTo_keep
    | apply State.panelRestart_keep
    | apply State.frameBegin_keep
    | apply Keep.ite
    | apply Keep.forL
    | intro _
    | (apply Keep.upd; first | assumption | apply State.frameProcessed_keep hm | apply State.applyPoint_keep hm
                             | apply State.waitTo_keep | apply State.panelRestart_keep | apply State.frameBegin_keep
                             | apply Keep.ite | apply Keep.forL | split)
    | split
    | refine Keep.ofPair (by assumption) ?_

theorem State.freeBits_keep {m : Bool} {s0 t : State} (h : Keep m s0 t) {x1 x2} : Keep m s0 (State.freeBits t x1 x2).1 := by
  induction x1 generalizing t x2 with
  | zero =>
    unfold State.freeBits
    with_reducible repeat' first
      | assumption
      | apply ih
      | apply State.tookFree_keep
  | succ n ih =>
    unfold State.freeBits
    with_reducible repeat' first
      | assumption
      | apply ih
      | apply State.tookFree_keep

theorem State.fsEdge_keep {m : Bool} {s0 t : State} (h : Keep m s0 t) {x1 x2 x3} : Keep m s0 (State.fsEdge t x1 x2 x3) := by
  unfold State.fsEdge
  with_reducible repeat' first
    | assumption
    | apply State.edgeLate_keep
    | apply State.aportRec_keep
    | apply State.intBit_keep
    | apply State.put_keep
    | apply State.tookFree_keep
    | apply State.setAport_keep
    | apply State.stat_keep
    | apply State.convPush_keep
    | apply State.aportCount_keep
    | apply State.estimate_keep
    | apply State.convOut_keep
    | apply State.aportSend_keep
    | apply Keep.ite
    | apply Keep.ite1
    | apply Keep.forL
    | intro _
    | (apply Keep.upd; first | assumption | apply State.edgeLate_keep | apply State.aportRec_keep
                             | apply State.intBit_keep | apply State.put_keep | apply State.tookFree_keep
                             | apply State.setAport_keep | apply State.stat_keep | apply State.convPush_keep
                             | apply State.aportCount_keep | apply State.estimate_keep | apply State.convOut_keep
                             | apply State.aportSend_keep | apply Keep.ite | apply Keep.ite1 | apply Keep.forL
                             | split)
    | split
    | refine Keep.ofPair (by assumption) ?_

theorem State.gateNext_keep {m : Bool} {s0 t : State} (h : Keep m s0 t) : Keep m s0 (State.gateNext t) := by
  unfold State.gateNext
  try dsimp only
  with_reducible repeat' first
    | assumption
    | apply State.put_keep
    | apply Keep.ite
    | apply Keep.forL
    | apply Keep.forN
    | apply Keep.forL1
    | apply Keep.forN1
    | apply Keep.foldl
    | apply Keep.foldl1
    | intro _
    | (apply Keep.upd; first | assumption | apply State.put_keep | apply Keep.ite | apply Keep.forL | apply Keep.forN
                             | apply Keep.forL1 | apply Keep.forN1 | apply Keep.foldl | apply Keep.foldl1 | split)
    | split
    | refine Keep.ofPair (by assumption) ?_

theorem State.gateResult_keep {m : Bool} {s0 t : State} (h : Keep m s0 t) {x1 x2} : Keep m s0 (State.gateResult t x1 x2) := by
  unfold State.gateResult
  try dsimp only
  with_reducible repeat' first
    | assumption
    | apply State.put_keep
    | apply State.holdRecord_keep
    | apply State.setClockOk_keep
    | apply State.setGated_keep
    | apply Keep.ite
    | apply Keep.forL
    | apply Keep.forN
    | apply Keep.forL1
    | apply Keep.forN1
    | apply Keep.foldl
    | apply Keep.foldl1
    | intro _
    | (apply Keep.upd; first | assumption | apply State.put_keep | apply State.holdRecord_keep
                             | apply State.setClockOk_keep | apply State.setGated_keep | apply Keep.ite
                             | apply Keep.forL | apply Keep.forN | apply Keep.forL1 | apply Keep.forN1
                             | apply Keep.foldl | apply Keep.foldl1 | split)
    | split
    | refine Keep.ofPair (by assumption) ?_

theorem State.gateDone_keep {m : Bool} {s0 t : State} (h : Keep m s0 t) : Keep m s0 (State.gateDone t) := by
  unfold State.gateDone
  try dsimp only
  with_reducible repeat' first
    | assumption
    | apply State.gateNext_keep
    | apply State.gateResult_keep
    | apply Keep.ite
    | apply Keep.forL
    | apply Keep.forN
    | apply Keep.forL1
    | apply Keep.forN1
    | apply Keep.foldl
    | apply Keep.foldl1
    | intro _
    | (apply Keep.upd; first | assumption | apply State.gateNext_keep | apply State.gateResult_keep | apply Keep.ite
                             | apply Keep.forL | apply Keep.forN | apply Keep.forL1 | apply Keep.forN1
                             | apply Keep.foldl | apply Keep.foldl1 | split)
    | split
    | refine Keep.ofPair (by assumption) ?_

theorem State.genlockLine_keep {m : Bool} {s0 t : State} (h : Keep m s0 t) {x1 x2} : Keep m s0 (State.genlockLine t x1 x2) := by
  unfold State.genlockLine
  with_reducible repeat' first
    | assumption
    | apply State.modHead_keep
    | apply State.stat_keep
    | apply State.rasterShift_keep
    | apply Keep.ite
    | intro _
    | split

theorem State.genlockSlack_keep {m : Bool} {s0 t : State} (h : Keep m s0 t) {x1 x2} : Keep m s0 (State.genlockSlack t x1 x2) := by
  unfold State.genlockSlack
  with_reducible repeat' first
    | assumption
    | apply State.put_keep
    | apply State.modHead_keep
    | apply State.stat_keep
    | apply State.rasterShift_keep
    | intro _
    | (apply Keep.upd; first | apply State.put_keep | apply State.modHead_keep | apply State.stat_keep
                             | apply State.rasterShift_keep | split)
    | split

theorem State.gfxIdle_keep {m : Bool} {s0 t : State} (h : Keep m s0 t) : Keep m s0 (State.gfxIdle t) := by
  unfold State.gfxIdle
  with_reducible repeat' first
    | assumption
    | apply State.put_keep

theorem State.l2Tag_keep {m : Bool} {s0 t : State} (hm : m = true) (h : Keep m s0 t) {x1 x2 x3} : Keep m s0 (State.l2Tag t x1 x2 x3) := by
  unfold State.l2Tag
  with_reducible repeat' first
    | assumption
    | apply State.l2Clean_keep hm
    | apply State.jobBusError_keep
    | apply Keep.ite
    | apply Keep.ite1
    | apply Keep.forL
    | intro _
    | (apply Keep.upd; first | assumption | apply State.l2Clean_keep hm | apply State.jobBusError_keep
                             | apply Keep.ite | apply Keep.ite1 | apply Keep.forL | split)
    | split
    | refine Keep.ofPair (by assumption) ?_

theorem State.ringWake_keep {m : Bool} {s0 t : State} (h : Keep m s0 t) {x1} : Keep m s0 (State.ringWake t x1) := by
  unfold State.ringWake
  with_reducible repeat' first
    | assumption
    | apply State.setRingState_keep
    | apply Keep.forL
    | intro _
    | split

theorem State.signal_keep {m : Bool} {s0 t : State} (hm : m = true) (h : Keep m s0 t) {x1 x2} : Keep m s0 (State.signal t x1 x2) := by
  unfold State.signal
  with_reducible repeat' first
    | assumption
    | apply State.setFence_keep
    | apply State.stat_keep
    | apply State.wr_keep
    | apply State.fenceMirror_keep hm
    | apply State.jrecTo_keep
    | apply State.ringWake_keep
    | apply State.fenceRelease_keep
    | apply Keep.ite
    | apply Keep.forL
    | intro _
    | (apply Keep.upd; first | assumption | apply State.setFence_keep | apply State.stat_keep | apply State.wr_keep
                             | apply State.fenceMirror_keep hm | apply State.jrecTo_keep | apply State.ringWake_keep
                             | apply State.fenceRelease_keep | apply Keep.ite | apply Keep.forL | split)
    | split
    | refine Keep.ofPair (by assumption) ?_

theorem State.jobEnd_keep {m : Bool} {s0 t : State} (hm : m = true) (h : Keep m s0 t) {x1} : Keep m s0 (State.jobEnd t x1) := by
  unfold State.jobEnd
  with_reducible repeat' first
    | assumption
    | apply State.l2Tag_keep hm
    | apply State.gsettle_keep
    | apply State.jrecTo_keep
    | apply State.signal_keep hm
    | apply State.costUpdate_keep
    | apply State.descEnd_keep
    | apply State.stat_keep
    | apply State.gfxIdle_keep
    | apply State.maskEnd_keep hm
    | apply Keep.ite
    | apply Keep.forL
    | intro _
    | (apply Keep.upd; first | assumption | apply State.l2Tag_keep hm | apply State.gsettle_keep
                             | apply State.jrecTo_keep | apply State.signal_keep hm | apply State.costUpdate_keep
                             | apply State.descEnd_keep | apply State.stat_keep | apply State.gfxIdle_keep
                             | apply State.maskEnd_keep hm | apply Keep.ite | apply Keep.forL | split)
    | split
    | refine Keep.ofPair (by assumption) ?_

theorem State.gfxPurge_keep {m : Bool} {s0 t : State} (hm : m = true) (h : Keep m s0 t) {x1} : Keep m s0 (State.gfxPurge t x1).1 := by
  unfold State.gfxPurge
  with_reducible repeat' first
    | assumption
    | apply State.jobEnd_keep hm
    | apply State.modJob_keep
    | apply State.jobDrop_keep
    | apply Keep.ite
    | apply Keep.ite1
    | apply Keep.forL
    | intro _
    | (apply Keep.upd; first | assumption | apply State.jobEnd_keep hm | apply State.modJob_keep
                             | apply State.jobDrop_keep | apply Keep.ite | apply Keep.ite1 | apply Keep.forL | split)
    | split
    | refine Keep.ofPair (by assumption) ?_

theorem State.shActs_keep {m : Bool} {s0 t : State} (hm : m = true) (h : Keep m s0 t) {x1 x2 x3} : Keep m s0 (State.shActs t x1 x2 x3) := by
  unfold State.shActs
  with_reducible repeat' first
    | assumption
    | apply ShCtx.act_keep hm
    | apply Keep.ite
    | apply Keep.ite1
    | apply Keep.forL
    | apply Keep.forL1
    | intro _
    | (apply Keep.upd; first | assumption | apply ShCtx.act_keep hm | apply Keep.ite | apply Keep.ite1
                             | apply Keep.forL | apply Keep.forL1 | split)
    | split
    | refine Keep.ofPair (by assumption) ?_

theorem State.groupRetired_keep {m : Bool} {s0 t : State} (hm : m = true) (h : Keep m s0 t) {x1 x2} : Keep m s0 (State.groupRetired t x1 x2) := by
  unfold State.groupRetired
  with_reducible repeat' first
    | assumption
    | apply State.stat64_keep
    | apply State.shActs_keep hm
    | apply State.modJob_keep
    | apply State.gcoreFree_keep
    | apply State.deadlineEval_keep
    | apply State.coreStops_keep hm
    | apply Keep.ite
    | apply Keep.forL
    | intro _
    | (apply Keep.upd; first | assumption | apply State.stat64_keep | apply State.shActs_keep hm
                             | apply State.modJob_keep | apply State.gcoreFree_keep | apply State.deadlineEval_keep
                             | apply State.coreStops_keep hm | apply Keep.ite | apply Keep.forL | split)
    | split
    | refine Keep.ofPair (by assumption) ?_

theorem State.haltBlock_keep {m : Bool} {s0 t : State} (h : Keep m s0 t) {x1 x2} : Keep m s0 (State.haltBlock t x1 x2) := by
  unfold State.haltBlock
  with_reducible repeat' first
    | assumption
    | apply State.stopBlock_keep
    | apply State.withdraw_keep
    | apply State.put_keep

theorem State.hptStandby_keep {m : Bool} {s0 t : State} (h : Keep m s0 t) {x1} : Keep m s0 (State.hptStandby t x1) := by
  unfold State.hptStandby
  with_reducible repeat' first
    | assumption
    | apply State.modHpt_keep
    | apply State.put_keep
    | split

theorem State.hptVer_keep {m : Bool} {s0 t : State} (h : Keep m s0 t) {x1 x2} : Keep m s0 (State.hptVer t x1 x2) := by
  unfold State.hptVer
  with_reducible repeat' first
    | assumption
    | apply State.put_keep
    | apply State.put64_keep

theorem State.hptNegotiate_keep {m : Bool} {s0 t : State} (h : Keep m s0 t) {x1 x2 x3 x4} : Keep m s0 (State.hptNegotiate t x1 x2 x3 x4).1 := by
  unfold State.hptNegotiate
  with_reducible repeat' first
    | assumption
    | apply State.hptVer_keep

theorem State.hptDown_keep {m : Bool} {s0 t : State} (h : Keep m s0 t) {x1 x2 x3} : Keep m s0 (State.hptDown t x1 x2 x3) := by
  unfold State.hptDown
  with_reducible repeat' first
    | assumption
    | apply State.modHpt_keep
    | apply State.intBit_keep
    | apply State.put_keep

theorem State.setEnv_keep {m : Bool} {s0 t : State} (h : Keep m s0 t) {x1 x2 x3} : Keep m s0 (State.setEnv t x1 x2 x3) := by
  unfold State.setEnv
  with_reducible repeat' first
    | assumption
    | apply State.put_keep
    | apply State.modHch_keep
    | apply Keep.ite
    | apply Keep.forL
    | intro _
    | (apply Keep.upd; first | assumption | apply State.put_keep | apply State.modHch_keep | apply Keep.ite
                             | apply Keep.forL | split)
    | split
    | refine Keep.ofPair (by assumption) ?_

theorem State.hptUp_keep {m : Bool} {s0 t : State} (h : Keep m s0 t) {x1} : Keep m s0 (State.hptUp t x1) := by
  unfold State.hptUp
  with_reducible repeat' first
    | assumption
    | apply State.modHpt_keep
    | apply State.intBit_keep
    | apply State.put_keep
    | apply State.setEnv_keep
    | apply Keep.ite
    | apply Keep.forL
    | intro _
    | (apply Keep.upd; first | assumption | apply State.modHpt_keep | apply State.intBit_keep | apply State.put_keep
                             | apply State.setEnv_keep | apply Keep.ite | apply Keep.forL | split)
    | split
    | refine Keep.ofPair (by assumption) ?_

theorem State.hptBefore_keep {m : Bool} {s0 t : State} (h : Keep m s0 t) {x1} : Keep m s0 (State.hptBefore t x1) := by
  unfold State.hptBefore
  with_reducible repeat' first
    | assumption
    | apply State.hptNegotiate_keep
    | apply State.modHpt_keep
    | apply State.hptDown_keep
    | apply State.hptUp_keep
    | intro _
    | (apply Keep.upd; first | apply State.hptNegotiate_keep | apply State.modHpt_keep | apply State.hptDown_keep
                             | apply State.hptUp_keep | split)
    | split

theorem State.sense_keep {m : Bool} {s0 t : State} (h : Keep m s0 t) {x1 x2} : Keep m s0 (State.sense t x1 x2) := by
  unfold State.sense
  with_reducible repeat' first
    | assumption
    | apply State.setEnv_keep
    | apply Keep.ite
    | apply Keep.forL
    | intro _
    | (apply Keep.upd; first | assumption | apply State.setEnv_keep | apply Keep.ite | apply Keep.forL | split)
    | split
    | refine Keep.ofPair (by assumption) ?_

theorem State.hptStatus_keep {m : Bool} {s0 t : State} (h : Keep m s0 t) {x1 x2} : Keep m s0 (State.hptStatus t x1 x2) := by
  unfold State.hptStatus
  with_reducible repeat' first
    | assumption
    | apply State.put_keep
    | apply State.chanFault_keep
    | apply State.modHpt_keep
    | apply State.chanLost_keep
    | apply State.hptDown_keep
    | apply Keep.ite
    | apply Keep.forL
    | intro _
    | (apply Keep.upd; first | assumption | apply State.put_keep | apply State.chanFault_keep
                             | apply State.modHpt_keep | apply State.chanLost_keep | apply State.hptDown_keep
                             | apply Keep.ite | apply Keep.forL | split)
    | split
    | refine Keep.ofPair (by assumption) ?_

theorem State.hptGreet_keep {m : Bool} {s0 t : State} (h : Keep m s0 t) {x1 x2} : Keep m s0 (State.hptGreet t x1 x2) := by
  unfold State.hptGreet
  with_reducible repeat' first
    | assumption
    | apply State.modHpt_keep
    | apply State.hptUp_keep
    | apply State.hptDown_keep
    | apply Keep.ite
    | intro _
    | split

theorem State.hapFrame_keep {m : Bool} {s0 t : State} (h : Keep m s0 t) {x1 x2} : Keep m s0 (State.hapFrame t x1 x2) := by
  unfold State.hapFrame
  with_reducible repeat' first
    | assumption
    | apply State.waitTo_keep
    | apply State.modHpt_keep
    | apply State.portEnds_keep
    | apply State.hptStandby_keep
    | apply State.hptRestart_keep
    | apply State.stat_keep
    | apply State.inc_keep
    | apply State.hptBefore_keep
    | apply State.chanFrame_keep
    | apply State.sense_keep
    | apply State.hptStatus_keep
    | apply State.hptGreet_keep
    | apply Keep.ite
    | apply Keep.forL
    | apply Keep.forL1
    | intro _
    | split

theorem State.wbEnd_keep {m : Bool} {s0 t : State} (h : Keep m s0 t) {x1 x2 x3} : Keep m s0 (State.wbEnd t x1 x2 x3).1 := by
  unfold State.wbEnd
  with_reducible repeat' first
    | assumption
    | apply State.put_keep
    | apply State.inc_keep
    | apply State.cvuFinish_keep
    | apply State.intBit_keep
    | apply State.jrecOwn_keep
    | apply State.setWb_keep
    | apply Keep.ite1
    | apply Keep.forL
    | intro _

theorem State.outerApply_keep {m : Bool} {s0 t : State} (hm : m = true) (h : Keep m s0 t) {x1 x2 x3} : Keep m s0 (State.outerApply t x1 x2 x3) := by
  unfold State.outerApply
  with_reducible repeat' first
    | assumption
    | apply State.applyPoint_keep hm
    | apply State.setWb_keep
    | apply Keep.ite
    | apply Keep.forL
    | intro _
    | (apply Keep.upd; first | assumption | apply State.applyPoint_keep hm | apply State.setWb_keep | apply Keep.ite
                             | apply Keep.forL | split)
    | split
    | refine Keep.ofPair (by assumption) ?_

theorem State.reflexUpdate_keep {m : Bool} {s0 t : State} (h : Keep m s0 t) {x1 x2 x3} : Keep m s0 (State.reflexUpdate t x1 x2 x3) := by
  unfold State.reflexUpdate
  with_reducible repeat' first
    | assumption
    | apply State.setLay_keep
    | apply State.put_keep
    | apply State.modHead_keep
    | apply State.intBit_keep
    | apply Keep.ite
    | intro _

theorem State.holdDecide_keep {m : Bool} {s0 t : State} (h : Keep m s0 t) {x1 x2 x3 x4 x5} : Keep m s0 (State.holdDecide t x1 x2 x3 x4 x5).1 := by
  unfold State.holdDecide
  try dsimp only
  with_reducible repeat' first
    | assumption
    | apply State.put_keep
    | apply State.modHead_keep
    | apply State.captureStart_keep
    | apply State.captureAgain_keep
    | apply State.holdTo_keep
    | apply Keep.ite
    | apply Keep.ite1
    | apply Keep.forL
    | intro _
    | (apply Keep.upd; first | assumption | apply State.put_keep | apply State.modHead_keep
                             | apply State.captureStart_keep | apply State.captureAgain_keep | apply State.holdTo_keep
                             | apply Keep.ite | apply Keep.ite1 | apply Keep.forL | split)
    | split
    | refine Keep.ofPair (by assumption) ?_

theorem State.holdRec_keep {m : Bool} {s0 t : State} (h : Keep m s0 t) {x1 x2 x3 x4 x5} : Keep m s0 (State.holdRec t x1 x2 x3 x4 x5) := by
  unfold State.holdRec
  with_reducible repeat' first
    | assumption
    | apply State.jrecOwn_keep

theorem State.latReport_keep {m : Bool} {s0 t : State} (h : Keep m s0 t) {x1 x2} : Keep m s0 (State.latReport t x1 x2) := by
  unfold State.latReport
  with_reducible repeat' first
    | assumption
    | apply State.reportLat_keep
    | apply State.modHead_keep
    | apply State.put_keep

theorem State.poolWrPrune_keep {m : Bool} {s0 t : State} (h : Keep m s0 t) : Keep m s0 (State.poolWrPrune t) := by
  unfold State.poolWrPrune
  with_reducible repeat' first
    | assumption
    | apply Keep.ite
    | apply Keep.forL
    | intro _
    | (apply Keep.upd; first | assumption | apply Keep.ite | apply Keep.forL | split)
    | split
    | refine Keep.ofPair (by assumption) ?_

theorem State.headSleeps_keep {m : Bool} {s0 t : State} (h : Keep m s0 t) {x1} : Keep m s0 (State.headSleeps t x1) := by
  unfold State.headSleeps
  with_reducible repeat' first
    | assumption
    | apply State.modHead_keep
    | apply State.rasterOff_keep
    | apply State.setWb_keep
    | apply State.intBit_keep
    | apply State.stat_keep
    | apply State.linkState_keep
    | apply Keep.ite
    | apply Keep.forL
    | intro _
    | (apply Keep.upd; first | assumption | apply State.modHead_keep | apply State.rasterOff_keep
                             | apply State.setWb_keep | apply State.intBit_keep | apply State.stat_keep
                             | apply State.linkState_keep | apply Keep.ite | apply Keep.forL | split)
    | split
    | refine Keep.ofPair (by assumption) ?_

theorem State.slackAt_keep {m : Bool} {s0 t : State} (hm : m = true) (h : Keep m s0 t) {x1 x2 x3 x4} : Keep m s0 (State.slackAt t x1 x2 x3 x4) := by
  unfold State.slackAt
  with_reducible repeat' first
    | assumption
    | apply State.sourceAt_keep
    | apply State.stat_keep
    | apply State.put_keep
    | apply State.wbEnd_keep
    | apply State.put64_keep
    | apply State.modHead_keep
    | apply State.holdTrigger_keep
    | apply State.arbitrate_keep hm
    | apply State.haltBlock_keep
    | apply State.outerApply_keep hm
    | apply State.bindLinks_keep
    | apply State.reflexUpdate_keep
    | apply State.holdDecide_keep
    | apply State.coverage_keep
    | apply State.releaseDue_keep
    | apply State.holdRec_keep
    | apply State.intBit_keep
    | apply State.latReport_keep
    | apply State.genlockLine_keep
    | apply State.genlockSlack_keep
    | apply State.bursts_keep
    | apply State.poolWrPrune_keep
    | apply State.headSleeps_keep
    | apply Keep.ite
    | apply Keep.ite1
    | apply Keep.forL
    | intro _
    | (apply Keep.upd; first | assumption | apply State.sourceAt_keep | apply State.stat_keep | apply State.put_keep
                             | apply State.wbEnd_keep | apply State.put64_keep | apply State.modHead_keep
                             | apply State.holdTrigger_keep | apply State.arbitrate_keep hm
                             | apply State.haltBlock_keep | apply State.outerApply_keep hm
                             | apply State.bindLinks_keep | apply State.reflexUpdate_keep
                             | apply State.holdDecide_keep | apply State.coverage_keep | apply State.releaseDue_keep
                             | apply State.holdRec_keep | apply State.intBit_keep | apply State.latReport_keep
                             | apply State.genlockLine_keep | apply State.genlockSlack_keep | apply State.bursts_keep
                             | apply State.poolWrPrune_keep | apply State.headSleeps_keep | apply Keep.ite
                             | apply Keep.ite1 | apply Keep.forL | split)
    | split
    | refine Keep.ofPair (by assumption) ?_

theorem State.headBegins_keep {m : Bool} {s0 t : State} (hm : m = true) (h : Keep m s0 t) {x1} : Keep m s0 (State.headBegins t x1) := by
  unfold State.headBegins
  with_reducible repeat' first
    | assumption
    | apply State.waitTo_keep
    | apply State.slackAt_keep hm
    | apply Keep.ite
    | apply Keep.forL
    | intro _
    | (apply Keep.upd; first | assumption | apply State.waitTo_keep | apply State.slackAt_keep hm | apply Keep.ite
                             | apply Keep.forL | split)
    | split
    | refine Keep.ofPair (by assumption) ?_

theorem State.headWakes_keep {m : Bool} {s0 t : State} (hm : m = true) (h : Keep m s0 t) {x1} : Keep m s0 (State.headWakes t x1) := by
  unfold State.headWakes
  with_reducible repeat' first
    | assumption
    | apply State.waitTo_keep
    | apply State.modHead_keep
    | apply State.setRaster_keep
    | apply State.slackAt_keep hm
    | apply Keep.ite
    | apply Keep.forL
    | intro _
    | (apply Keep.upd; first | assumption | apply State.waitTo_keep | apply State.modHead_keep
                             | apply State.setRaster_keep | apply State.slackAt_keep hm | apply Keep.ite
                             | apply Keep.forL | split)
    | split
    | refine Keep.ofPair (by assumption) ?_

theorem State.hitCmd_keep {m : Bool} {s0 t : State} (h : Keep m s0 t) {x1 x2 x3 x4 x5} : Keep m s0 (State.hitCmd t x1 x2 x3 x4 x5) := by
  unfold State.hitCmd
  with_reducible repeat' first
    | assumption
    | apply State.hitAcc_keep
    | apply State.hit_keep
    | apply Keep.ite
    | intro _

theorem State.linkDown_keep {m : Bool} {s0 t : State} (hm : m = true) (h : Keep m s0 t) {x1} : Keep m s0 (State.linkDown t x1) := by
  unfold State.linkDown
  with_reducible repeat' first
    | assumption
    | apply State.hit_keep
    | apply State.put_keep
    | apply State.flr_keep hm
    | apply Keep.ite
    | apply Keep.forL
    | intro _
    | (apply Keep.upd; first | assumption | apply State.hit_keep | apply State.put_keep | apply State.flr_keep hm
                             | apply Keep.ite | apply Keep.forL | split)
    | split
    | refine Keep.ofPair (by assumption) ?_

theorem State.hostReset_keep {m : Bool} {s0 t : State} (hm : m = true) (h : Keep m s0 t) {x1 x2 x3} : Keep m s0 (State.hostReset t x1 x2 x3) := by
  unfold State.hostReset
  with_reducible repeat' first
    | assumption
    | apply State.sourceActs_keep hm
    | apply State.linkDown_keep hm
    | apply Keep.ite
    | apply Keep.forL
    | intro _
    | (apply Keep.upd; first | assumption | apply State.sourceActs_keep hm | apply State.linkDown_keep hm
                             | apply Keep.ite | apply Keep.forL | split)
    | split
    | refine Keep.ofPair (by assumption) ?_

theorem State.hotReset_keep {m : Bool} {s0 t : State} (hm : m = true) (h : Keep m s0 t) {x1} : Keep m s0 (State.hotReset t x1) := by
  unfold State.hotReset
  with_reducible repeat' first
    | assumption
    | apply State.hostReset_keep hm
    | apply Keep.ite
    | apply Keep.forL
    | intro _
    | (apply Keep.upd; first | assumption | apply State.hostReset_keep hm | apply Keep.ite | apply Keep.forL | split)
    | split
    | refine Keep.ofPair (by assumption) ?_

theorem State.hptRetry_keep {m : Bool} {s0 t : State} (h : Keep m s0 t) {x1} : Keep m s0 (State.hptRetry t x1) := by
  unfold State.hptRetry
  with_reducible repeat' first
    | assumption
    | apply State.hptRestart_keep
    | apply State.waitTo_keep
    | split

theorem State.hptRun_keep {m : Bool} {s0 t : State} (h : Keep m s0 t) {x1 x2} : Keep m s0 (State.hptRun t x1 x2) := by
  unfold State.hptRun
  with_reducible repeat' first
    | assumption
    | apply State.hapFrame_keep
    | apply Keep.ite
    | apply Keep.forL
    | intro _

theorem State.hptWake_keep {m : Bool} {s0 t : State} (h : Keep m s0 t) {x1} : Keep m s0 (State.hptWake t x1) := by
  unfold State.hptWake
  with_reducible repeat' first
    | assumption
    | apply State.hptRestart_keep
    | apply Keep.ite
    | intro _

theorem State.instDone_keep {m : Bool} {s0 t : State} (h : Keep m s0 t) {x1} : Keep m s0 (State.instDone t x1) := by
  unfold State.instDone
  with_reducible repeat' first
    | assumption
    | apply State.modCtl_keep

theorem State.lineToCore_keep {m : Bool} {s0 t : State} (h : Keep m s0 t) {x1 x2} : Keep m s0 (State.lineToCore t x1 x2) := by
  unfold State.lineToCore
  with_reducible repeat' first
    | assumption
    | apply State.setCore_keep
    | apply State.put_keep
    | apply Keep.ite
    | intro _

theorem State.irqDeliver_keep {m : Bool} {s0 t : State} (h : Keep m s0 t) {x1} : Keep m s0 (State.irqDeliver t x1) := by
  unfold State.irqDeliver
  with_reducible repeat' first
    | assumption
    | apply State.lineToCore_keep
    | apply State.msix_keep
    | apply Keep.forN
    | intro _
    | (apply Keep.upd; first | assumption | apply State.lineToCore_keep | apply State.msix_keep | apply Keep.forN
                             | split)
    | split

theorem State.ringIssue_keep {m : Bool} {s0 t : State} (h : Keep m s0 t) {x1 x2} : Keep m s0 (State.ringIssue t x1 x2).1 := by
  unfold State.ringIssue
  with_reducible repeat' first
    | assumption
    | apply State.setRing_keep
    | apply State.ringPut_keep
    | apply State.stat_keep
    | apply State.setRingState_keep
    | split

theorem State.ringBlock_keep {m : Bool} {s0 t : State} (h : Keep m s0 t) {x1} : Keep m s0 (State.ringBlock t x1) := by
  unfold State.ringBlock
  with_reducible repeat' first
    | assumption
    | apply State.setRingState_keep

theorem State.issueHead_keep {m : Bool} {s0 t : State} (h : Keep m s0 t) {x1 x2 x3 x4} (h4 : ∀ y1 u, Keep m s0 u → Keep m s0 (x4 u y1)) : Keep m s0 (State.issueHead t x1 x2 x3 x4) := by
  unfold State.issueHead
  with_reducible repeat' first
    | assumption
    | apply h4
    | apply State.ringError_keep
    | apply State.ringIssue_keep
    | apply State.ringBlock_keep
    | apply Keep.ite
    | split
    | intro _
    | split

end Sys2Proof.Machine
end

