-- ==== Sys2Proof/Laws/KeepF.lean ====
section
/-! SUPPORT. `Keep` for the operations of the model, callees first (continued). -/

set_option maxRecDepth 4000

namespace Sys2Proof.Machine

theorem State.issueCopy_keep {m : Bool} {s0 t : State} (h : Keep m s0 t) {x1} : Keep m s0 (State.issueCopy t x1) := by
  unfold State.issueCopy
  with_reducible repeat' first
    | assumption
    | apply State.issueHead_keep
    | apply State.copyIdle_keep
    | apply State.setCopyEng_keep
    | intro _
    | split

theorem State.issueEarcon_keep {m : Bool} {s0 t : State} (h : Keep m s0 t) {x1} : Keep m s0 (State.issueEarcon t x1) := by
  unfold State.issueEarcon
  with_reducible repeat' first
    | assumption
    | apply State.issueHead_keep
    | apply State.endAtIssue_keep
    | apply State.lineStart_keep
    | intro _

theorem State.issueGain_keep {m : Bool} {s0 t : State} (h : Keep m s0 t) {x1} : Keep m s0 (State.issueGain t x1) := by
  unfold State.issueGain
  with_reducible repeat' first
    | assumption
    | apply State.issueHead_keep
    | apply State.endAtIssue_keep
    | apply State.modAudio_keep
    | intro _

theorem State.issueHaptic_keep {m : Bool} {s0 t : State} (h : Keep m s0 t) {x1} : Keep m s0 (State.issueHaptic t x1) := by
  unfold State.issueHaptic
  with_reducible repeat' first
    | assumption
    | apply State.issueHead_keep
    | apply State.trigStop_keep
    | apply State.trigger_keep
    | apply State.endAtIssue_keep
    | apply Keep.ite
    | intro _

theorem State.issueNop_keep {m : Bool} {s0 t : State} (h : Keep m s0 t) {x1} : Keep m s0 (State.issueNop t x1) := by
  unfold State.issueNop
  with_reducible repeat' first
    | assumption
    | apply State.issueHead_keep
    | apply State.endAtIssue_keep
    | intro _

theorem State.regsEntry_keep {m : Bool} {s0 t : State} (hm : m = true) (h : Keep m s0 t) {x1 x2 x3 x4} : Keep m s0 (State.regsEntry t x1 x2 x3 x4).1 := by
  unfold State.regsEntry
  with_reducible repeat' first
    | assumption
    | apply State.regRead_keep
    | apply State.spWrite_keep hm
    | apply State.regWrite_keep hm
    | apply Keep.ite
    | apply Keep.ite1
    | apply Keep.forL
    | intro _
    | (apply Keep.upd; first | assumption | apply State.regRead_keep | apply State.spWrite_keep hm
                             | apply State.regWrite_keep hm | apply Keep.ite | apply Keep.ite1 | apply Keep.forL
                             | split)
    | split
    | refine Keep.ofPair (by assumption) ?_

theorem State.issueRegs_keep {m : Bool} {s0 t : State} (hm : m = true) (h : Keep m s0 t) {x1} : Keep m s0 (State.issueRegs t x1) := by
  unfold State.issueRegs
  with_reducible repeat' first
    | assumption
    | apply State.issueHead_keep
    | apply State.regsEntry_keep hm
    | apply State.descEnd_keep
    | apply Keep.ite
    | apply Keep.ite1
    | apply Keep.forL
    | apply Keep.forN1
    | intro _
    | (apply Keep.upd; first | assumption | apply State.issueHead_keep | apply State.regsEntry_keep hm
                             | apply State.descEnd_keep | apply Keep.ite | apply Keep.ite1 | apply Keep.forL
                             | apply Keep.forN1 | split)
    | split
    | refine Keep.ofPair (by assumption) ?_

theorem State.issueRender_keep {m : Bool} {s0 t : State} (h : Keep m s0 t) {x1} : Keep m s0 (State.issueRender t x1) := by
  unfold State.issueRender
  with_reducible repeat' first
    | assumption
    | apply State.issueHead_keep
    | apply State.gfxIdle_keep
    | apply Keep.ite
    | apply Keep.forL
    | intro _
    | (apply Keep.upd; first | assumption | apply State.issueHead_keep | apply State.gfxIdle_keep | apply Keep.ite
                             | apply Keep.forL | split)
    | split
    | refine Keep.ofPair (by assumption) ?_

theorem State.issueSignal_keep {m : Bool} {s0 t : State} (hm : m = true) (h : Keep m s0 t) {x1} : Keep m s0 (State.issueSignal t x1) := by
  unfold State.issueSignal
  with_reducible repeat' first
    | assumption
    | apply State.issueHead_keep
    | apply State.endAtIssue_keep
    | apply State.signal_keep hm
    | apply Keep.ite
    | apply Keep.forL
    | intro _
    | (apply Keep.upd; first | assumption | apply State.issueHead_keep | apply State.endAtIssue_keep
                             | apply State.signal_keep hm | apply Keep.ite | apply Keep.forL | split)
    | split
    | refine Keep.ofPair (by assumption) ?_

theorem State.issueWait_keep {m : Bool} {s0 t : State} (h : Keep m s0 t) {x1} : Keep m s0 (State.issueWait t x1) := by
  unfold State.issueWait
  with_reducible repeat' first
    | assumption
    | apply State.issueHead_keep
    | apply State.endAtIssue_keep
    | intro _

theorem State.jMessage_keep {m : Bool} {s0 t : State} (h : Keep m s0 t) {x1} : Keep m s0 (State.jMessage t x1) := by
  unfold State.jMessage
  with_reducible repeat' first
    | assumption
    | apply State.setJournal_keep
    | apply State.msix_keep

theorem State.jHoldoffEnd_keep {m : Bool} {s0 t : State} (h : Keep m s0 t) {x1} : Keep m s0 (State.jHoldoffEnd t x1) := by
  unfold State.jHoldoffEnd
  with_reducible repeat' first
    | assumption
    | apply State.setJournal_keep
    | apply State.waitTo_keep
    | apply State.jMessage_keep
    | intro _
    | (apply Keep.upd; first | apply State.setJournal_keep | apply State.waitTo_keep | apply State.jMessage_keep
                             | split)
    | split

theorem State.jNotify_keep {m : Bool} {s0 t : State} (h : Keep m s0 t) {x1} : Keep m s0 (State.jNotify t x1) := by
  unfold State.jNotify
  with_reducible repeat' first
    | assumption
    | apply State.jMessage_keep
    | apply State.setJournal_keep
    | apply Keep.ite
    | intro _

theorem State.jStore_keep {m : Bool} {s0 t : State} (hm : m = true) (h : Keep m s0 t) {x1 x2} : Keep m s0 (State.jStore t x1 x2).1 := by
  unfold State.jStore
  try dsimp only
  with_reducible repeat' first
    | assumption
    | apply State.jWrite_keep hm
    | apply State.stat_keep
    | apply State.put_keep
    | apply State.jNotify_keep
    | apply Keep.ite
    | apply Keep.ite1
    | apply Keep.forL
    | intro _
    | (apply Keep.upd; first | assumption | apply State.jWrite_keep hm | apply State.stat_keep | apply State.put_keep
                             | apply State.jNotify_keep | apply Keep.ite | apply Keep.ite1 | apply Keep.forL | split)
    | split
    | refine Keep.ofPair (by assumption) ?_

theorem State.jWriteNext_keep {m : Bool} {s0 t : State} (hm : m = true) (h : Keep m s0 t) {x1} : Keep m s0 (State.jWriteNext t x1) := by
  unfold State.jWriteNext
  with_reducible repeat' first
    | assumption
    | apply State.inc_keep
    | apply State.jStore_keep hm
    | apply State.setJournal_keep
    | apply State.jLose_keep
    | apply Keep.ite
    | apply Keep.ite1
    | apply Keep.forL
    | intro _
    | (apply Keep.upd; first | assumption | apply State.inc_keep | apply State.jStore_keep hm
                             | apply State.setJournal_keep | apply State.jLose_keep | apply Keep.ite | apply Keep.ite1
                             | apply Keep.forL | split)
    | split
    | refine Keep.ofPair (by assumption) ?_

theorem State.readPasses_keep {m : Bool} {s0 t : State} (hm : m = true) (h : Keep m s0 t) {x1 x2 x3} : Keep m s0 (State.readPasses t x1 x2 x3).1 := by
  induction x3 generalizing t x1 x2 with
  | zero =>
    unfold State.readPasses
    with_reducible repeat' first
      | assumption
      | apply ih
      | apply GReader.rd_keep hm
      | apply Keep.ite
      | apply Keep.ite1
      | apply Keep.forL
      | intro _
      | (apply Keep.upd; first | assumption | apply ih | apply GReader.rd_keep hm | apply Keep.ite | apply Keep.ite1
                               | apply Keep.forL | split)
      | split
      | refine Keep.ofPair (by assumption) ?_
  | succ n ih =>
    unfold State.readPasses
    with_reducible repeat' first
      | assumption
      | apply ih
      | apply GReader.rd_keep hm
      | apply Keep.ite
      | apply Keep.ite1
      | apply Keep.forL
      | intro _
      | (apply Keep.upd; first | assumption | apply ih | apply GReader.rd_keep hm | apply Keep.ite | apply Keep.ite1
                               | apply Keep.forL | split)
      | split
      | refine Keep.ofPair (by assumption) ?_

theorem State.jobFetched_keep {m : Bool} {s0 t : State} (hm : m = true) (h : Keep m s0 t) {x1} : Keep m s0 (State.jobFetched t x1) := by
  unfold State.jobFetched
  with_reducible repeat' first
    | assumption
    | apply GReader.rd_keep hm
    | apply State.modJob_keep
    | apply State.jobStatus_keep
    | apply State.readPasses_keep hm
    | apply Keep.ite
    | apply Keep.ite1
    | apply Keep.forL
    | intro _
    | (apply Keep.upd; first | assumption | apply GReader.rd_keep hm | apply State.modJob_keep
                             | apply State.jobStatus_keep | apply State.readPasses_keep hm | apply Keep.ite
                             | apply Keep.ite1 | apply Keep.forL | split)
    | split
    | refine Keep.ofPair (by assumption) ?_

theorem State.jobStartApply_keep {m : Bool} {s0 t : State} (hm : m = true) (h : Keep m s0 t) : Keep m s0 (State.jobStartApply t) := by
  unfold State.jobStartApply
  with_reducible repeat' first
    | assumption
    | apply State.applyPoint_keep hm
    | apply Keep.ite
    | apply Keep.forL
    | intro _
    | (apply Keep.upd; first | assumption | apply State.applyPoint_keep hm | apply Keep.ite | apply Keep.forL | split)
    | split
    | refine Keep.ofPair (by assumption) ?_

theorem State.jobReady_keep {m : Bool} {s0 t : State} (hm : m = true) (h : Keep m s0 t) {x1} : Keep m s0 (State.jobReady t x1) := by
  unfold State.jobReady
  with_reducible repeat' first
    | assumption
    | apply State.modJob_keep
    | apply State.jobStatus_keep
    | apply objStatus_keep hm
    | apply State.jobStartApply_keep hm
    | apply State.setL2_keep
    | apply State.deadlineEval_keep
    | apply Keep.ite
    | apply Keep.ite1
    | apply Keep.forL
    | intro _
    | (apply Keep.upd; first | assumption | apply State.modJob_keep | apply State.jobStatus_keep
                             | apply objStatus_keep hm | apply State.jobStartApply_keep hm | apply State.setL2_keep
                             | apply State.deadlineEval_keep | apply Keep.ite | apply Keep.ite1 | apply Keep.forL
                             | split)
    | split
    | refine Keep.ofPair (by assumption) ?_

theorem State.jtag_keep {m : Bool} {s0 t : State} (h : Keep m s0 t) {x1 x2 x3} : Keep m s0 (State.jtag t x1 x2 x3) := by
  unfold State.jtag
  with_reducible repeat' first
    | assumption
    | apply State.modPad_keep

theorem State.scanCapture_keep {m : Bool} {s0 t : State} (h : Keep m s0 t) : Keep m s0 (State.scanCapture t).1 := by
  unfold State.scanCapture
  with_reducible repeat' first
    | assumption
    | apply State.freeBits_keep

theorem State.jtagExtest_keep {m : Bool} {s0 t : State} (h : Keep m s0 t) {x1} : Keep m s0 (State.jtagExtest t x1) := by
  unfold State.jtagExtest
  with_reducible repeat' first
    | assumption
    | apply State.jtag_keep
    | apply State.scanCapture_keep
    | apply State.modPad_keep
    | apply Keep.ite
    | intro _

theorem State.jtagSample_keep {m : Bool} {s0 t : State} (h : Keep m s0 t) {x1} : Keep m s0 (State.jtagSample t x1) := by
  unfold State.jtagSample
  with_reducible repeat' first
    | assumption
    | apply State.scanCapture_keep
    | apply State.jtag_keep
    | apply State.modPad_keep

theorem State.kScrub_keep {m : Bool} {s0 t : State} (h : Keep m s0 t) {x1} : Keep m s0 (State.kScrub t x1) := by
  unfold State.kScrub
  with_reducible repeat' first
    | assumption
    | apply State.waitTo_keep
    | apply State.logAdd_keep
    | apply State.bucketAdd_keep
    | apply State.hitAcc_keep
    | apply State.stat_keep
    | intro _
    | (apply Keep.upd; first | apply State.waitTo_keep | apply State.logAdd_keep | apply State.bucketAdd_keep
                             | apply State.hitAcc_keep | apply State.stat_keep | split)
    | split

theorem State.keepalive_keep {m : Bool} {s0 t : State} (h : Keep m s0 t) {x1 x2} : Keep m s0 (State.keepalive t x1 x2) := by
  unfold State.keepalive
  with_reducible repeat' first
    | assumption
    | apply State.modPanel_keep
    | apply State.transact_keep
    | apply State.waitTo_keep
    | intro _
    | (apply Keep.upd; first | apply State.modPanel_keep | apply State.transact_keep | apply State.waitTo_keep
                             | split)
    | split

theorem State.l2FlushDone_keep {m : Bool} {s0 t : State} (hm : m = true) (h : Keep m s0 t) : Keep m s0 (State.l2FlushDone t) := by
  unfold State.l2FlushDone
  with_reducible repeat' first
    | assumption
    | apply State.l2Clean_keep hm
    | apply State.put_keep
    | apply Keep.ite
    | apply Keep.ite1
    | apply Keep.forL
    | intro _
    | (apply Keep.upd; first | assumption | apply State.l2Clean_keep hm | apply State.put_keep | apply Keep.ite
                             | apply Keep.ite1 | apply Keep.forL | split)
    | split
    | refine Keep.ofPair (by assumption) ?_

theorem State.latSend_keep {m : Bool} {s0 t : State} (h : Keep m s0 t) : Keep m s0 (State.latSend t) := by
  unfold State.latSend
  with_reducible repeat' first
    | assumption
    | apply State.modTmb_keep
    | apply State.tSend_keep
    | apply Keep.ite
    | apply Keep.forL
    | intro _

theorem State.latchStats_keep {m : Bool} {s0 t : State} (h : Keep m s0 t) {x1 x2} : Keep m s0 (State.latchStats t x1 x2) := by
  unfold State.latchStats
  with_reducible repeat' first
    | assumption
    | apply State.wr_keep
    | apply Keep.ite
    | apply Keep.forL
    | apply Keep.forN
    | intro _
    | (apply Keep.upd; first | assumption | apply State.wr_keep | apply Keep.ite | apply Keep.forL | apply Keep.forN
                             | split)
    | split
    | refine Keep.ofPair (by assumption) ?_

theorem State.layerFetch_keep {m : Bool} {s0 t : State} (h : Keep m s0 t) {x1 x2 x3 x4 x5} : Keep m s0 (State.layerFetch t x1 x2 x3 x4 x5) := by
  unfold State.layerFetch
  with_reducible repeat' first
    | assumption
    | apply State.discard_keep
    | apply State.modLay_keep
    | apply State.mread_keep
    | apply State.granArrives_keep
    | apply State.granFails_keep
    | apply Keep.ite
    | apply Keep.ite1
    | apply Keep.forL
    | intro _
    | (apply Keep.upd; first | assumption | apply State.discard_keep | apply State.modLay_keep
                             | apply State.mread_keep | apply State.granArrives_keep | apply State.granFails_keep
                             | apply Keep.ite | apply Keep.ite1 | apply Keep.forL | split)
    | split
    | refine Keep.ofPair (by assumption) ?_

theorem State.rgnDone_keep {m : Bool} {s0 t : State} (h : Keep m s0 t) {x1 x2} : Keep m s0 (State.rgnDone t x1 x2) := by
  unfold State.rgnDone
  with_reducible repeat' first
    | assumption
    | apply State.put_keep
    | apply State.put64_keep
    | apply State.wr_keep
    | apply State.stat_keep
    | apply State.hit_keep
    | apply State.intBit_keep
    | apply State.jrecTo_keep
    | apply Keep.ite
    | intro _

theorem State.rgnsDone_keep {m : Bool} {s0 t : State} (h : Keep m s0 t) {x1 x2} : Keep m s0 (State.rgnsDone t x1 x2) := by
  unfold State.rgnsDone
  with_reducible repeat' first
    | assumption
    | apply State.rgnDone_keep
    | apply Keep.ite
    | apply Keep.forN
    | intro _

theorem State.lineSlot_keep {m : Bool} {s0 t : State} (hm : m = true) (h : Keep m s0 t) {x1 x2 x3} : Keep m s0 (State.lineSlot t x1 x2 x3) := by
  unfold State.lineSlot
  with_reducible repeat' first
    | assumption
    | apply State.waitTo_keep
    | apply State.setRaster_keep
    | apply State.put_keep
    | apply State.genlockLine_keep
    | apply State.rgnsDone_keep
    | apply State.bursts_keep
    | apply State.latReport_keep
    | apply State.composeLine_keep hm
    | apply Keep.ite
    | apply Keep.forL
    | intro _
    | (apply Keep.upd; first | assumption | apply State.waitTo_keep | apply State.setRaster_keep
                             | apply State.put_keep | apply State.genlockLine_keep | apply State.rgnsDone_keep
                             | apply State.bursts_keep | apply State.latReport_keep | apply State.composeLine_keep hm
                             | apply Keep.ite | apply Keep.forL | split)
    | split
    | refine Keep.ofPair (by assumption) ?_

theorem State.linkUp_keep {m : Bool} {s0 t : State} (h : Keep m s0 t) {x1 x2 x3} : Keep m s0 (State.linkUp t x1 x2 x3) := by
  unfold State.linkUp
  with_reducible repeat' first
    | assumption
    | apply State.put_keep
    | apply Keep.ite
    | intro _

theorem State.loadOptions_keep {m : Bool} {s0 t : State} (h : Keep m s0 t) : Keep m s0 (State.loadOptions t) := by
  unfold State.loadOptions
  with_reducible repeat' first
    | assumption
    | apply State.put_keep
    | apply State.wr_keep
    | apply Keep.ite
    | apply Keep.forL
    | apply Keep.forN
    | intro _
    | (apply Keep.upd; first | assumption | apply State.put_keep | apply State.wr_keep | apply Keep.ite
                             | apply Keep.forL | apply Keep.forN | split)
    | split
    | refine Keep.ofPair (by assumption) ?_

theorem State.setDie_keep {m : Bool} {s0 t : State} (h : Keep m s0 t) {x1} : Keep m s0 (State.setDie t x1) :=
  h.trans ⟨rfl, (fun w => ⟨forL_amSet_wf (rstWord x1) (fun e : Nat × Word => e.1) (fun e => e.2) t.regs [] rfl, w.2⟩), fun _ => ⟨rfl, rfl, rfl, rfl⟩⟩

theorem State.loadPins_keep {m : Bool} {s0 t : State} (h : Keep m s0 t) : Keep m s0 (State.loadPins t) := by
  unfold State.loadPins
  with_reducible repeat' first
    | assumption
    | apply State.put_keep
    | (apply Keep.upd; first | apply State.put_keep)

theorem State.loadDone_keep {m : Bool} {s0 t : State} (h : Keep m s0 t) {x1} : Keep m s0 (State.loadDone t x1) := by
  unfold State.loadDone
  try dsimp only
  with_reducible repeat' first
    | assumption
    | apply State.loadOptions_keep
    | apply State.put_keep
    | apply State.hit_keep
    | apply State.setDie_keep
    | apply State.enter_keep
    | apply State.domAssert_keep
    | apply State.coreStart_keep
    | apply State.loadPins_keep
    | apply State.applyBase_keep
    | apply State.enterBoot_keep
    | apply Keep.ite
    | apply Keep.forL
    | intro _
    | (apply Keep.upd; first | assumption | apply State.loadOptions_keep | apply State.put_keep | apply State.hit_keep
                             | apply State.setDie_keep | apply State.enter_keep | apply State.domAssert_keep
                             | apply State.coreStart_keep | apply State.loadPins_keep | apply State.applyBase_keep
                             | apply State.enterBoot_keep | apply Keep.ite | apply Keep.forL | split)
    | split
    | refine Keep.ofPair (by assumption) ?_

theorem State.loadRetry_keep {m : Bool} {s0 t : State} (h : Keep m s0 t) : Keep m s0 (State.loadRetry t) := by
  unfold State.loadRetry
  with_reducible repeat' first
    | assumption
    | apply State.waitTo_keep
    | intro _
    | (apply Keep.upd; first | apply State.waitTo_keep | split)
    | split

theorem State.machineTimer_keep {m : Bool} {s0 t : State} (h : Keep m s0 t) {x1} : Keep m s0 (State.machineTimer t x1) := by
  unfold State.machineTimer
  with_reducible repeat' first
    | assumption
    | apply State.waitTo_keep
    | apply State.put_keep
    | apply Keep.ite
    | apply Keep.forL
    | intro _
    | (apply Keep.upd; first | assumption | apply State.waitTo_keep | apply State.put_keep | apply Keep.ite
                             | apply Keep.forL | split)
    | split
    | refine Keep.ofPair (by assumption) ?_

theorem State.masterFrame_keep {m : Bool} {s0 t : State} (h : Keep m s0 t) {x1 x2} : Keep m s0 (State.masterFrame t x1 x2) := by
  unfold State.masterFrame
  with_reducible repeat' first
    | assumption
    | apply State.waitTo_keep
    | apply State.aportCount_keep
    | apply State.setAport_keep
    | apply State.convPush_keep
    | apply State.convOut_keep
    | apply State.aportSend_keep
    | apply Keep.ite
    | intro _

theorem State.mboxLost_keep {m : Bool} {s0 t : State} (h : Keep m s0 t) {x1} : Keep m s0 (State.mboxLost t x1) := by
  unfold State.mboxLost
  with_reducible repeat' first
    | assumption
    | apply State.mboxDone_keep
    | apply State.wr_keep
    | apply Keep.ite
    | apply Keep.forL
    | intro _
    | (apply Keep.upd; first | assumption | apply State.mboxDone_keep | apply State.wr_keep | apply Keep.ite
                             | apply Keep.forL | split)
    | split
    | refine Keep.ofPair (by assumption) ?_

theorem State.mirResync_keep {m : Bool} {s0 t : State} (h : Keep m s0 t) {x1} : Keep m s0 (State.mirResync t x1) := by
  unfold State.mirResync
  with_reducible repeat' first
    | assumption
    | apply State.mirSend_keep
    | apply State.put_keep
    | apply State.jrec_keep
    | apply Keep.ite
    | apply Keep.forL
    | intro _
    | (apply Keep.upd; first | assumption | apply State.mirSend_keep | apply State.put_keep | apply State.jrec_keep
                             | apply Keep.ite | apply Keep.forL | split)
    | split
    | refine Keep.ofPair (by assumption) ?_

theorem State.modeAct_keep {m : Bool} {s0 t : State} (h : Keep m s0 t) {x1} : Keep m s0 (State.modeAct t x1) := by
  unfold State.modeAct
  with_reducible repeat' first
    | assumption
    | apply State.convBegin_keep
    | apply State.enter_keep
    | apply State.standbyExit_keep
    | apply State.put_keep
    | apply State.safeBegin_keep
    | intro _
    | (apply Keep.upd; first | apply State.convBegin_keep | apply State.enter_keep | apply State.standbyExit_keep
                             | apply State.put_keep | apply State.safeBegin_keep | split)
    | split

theorem State.modeDone_keep {m : Bool} {s0 t : State} (h : Keep m s0 t) : Keep m s0 (State.modeDone t) := by
  unfold State.modeDone
  try dsimp only
  with_reducible repeat' first
    | assumption
    | apply State.put_keep
    | apply State.checkDone_keep
    | apply State.modeAct_keep
    | apply Keep.ite
    | apply Keep.forL
    | intro _
    | (apply Keep.upd; first | assumption | apply State.put_keep | apply State.checkDone_keep
                             | apply State.modeAct_keep | apply Keep.ite | apply Keep.forL | split)
    | split
    | refine Keep.ofPair (by assumption) ?_

theorem State.monLoss_keep {m : Bool} {s0 t : State} (h : Keep m s0 t) : Keep m s0 (State.monLoss t) := by
  unfold State.monLoss
  with_reducible repeat' first
    | assumption
    | apply State.hit_keep
    | apply State.put_keep
    | apply Keep.ite
    | intro _

theorem State.mr4_keep {m : Bool} {s0 t : State} (h : Keep m s0 t) {x1 x2} : Keep m s0 (State.mr4 t x1 x2) := by
  unfold State.mr4
  with_reducible repeat' first
    | assumption
    | apply State.waitTo_keep
    | apply State.modDchan_keep
    | apply State.put_keep
    | apply Keep.ite
    | apply Keep.forL
    | intro _
    | (apply Keep.upd; first | assumption | apply State.waitTo_keep | apply State.modDchan_keep | apply State.put_keep
                             | apply Keep.ite | apply Keep.forL | split)
    | split
    | refine Keep.ofPair (by assumption) ?_

theorem State.oscTrack_keep {m : Bool} {s0 t : State} (h : Keep m s0 t) {x1} : Keep m s0 (State.oscTrack t x1) := by
  unfold State.oscTrack
  with_reducible repeat' first
    | assumption
    | apply State.waitTo_keep
    | apply State.modDchan_keep
    | apply State.tookFree_keep
    | apply Keep.ite
    | apply Keep.forL
    | intro _
    | (apply Keep.upd; first | assumption | apply State.waitTo_keep | apply State.modDchan_keep
                             | apply State.tookFree_keep | apply Keep.ite | apply Keep.forL | split)
    | split
    | refine Keep.ofPair (by assumption) ?_

theorem State.otpCut_keep {m : Bool} {s0 t : State} (h : Keep m s0 t) : Keep m s0 (State.otpCut t) := by
  unfold State.otpCut
  with_reducible repeat' first
    | assumption
    | apply State.otpPut_keep
    | apply State.tookFree_keep
    | (apply Keep.upd; first | apply State.otpPut_keep | apply State.tookFree_keep | split)
    | split

theorem State.otpDone_keep {m : Bool} {s0 t : State} (h : Keep m s0 t) {x1} : Keep m s0 (State.otpDone t x1) := by
  unfold State.otpDone
  with_reducible repeat' first
    | assumption
    | apply State.waitTo_keep
    | apply State.otpPut_keep
    | apply State.put_keep
    | apply State.hit_keep
    | intro _
    | (apply Keep.upd; first | apply State.waitTo_keep | apply State.otpPut_keep | apply State.put_keep
                             | apply State.hit_keep | split)
    | split

theorem State.ownRecord_keep {m : Bool} {s0 t : State} (h : Keep m s0 t) {x1 x2 x3 x4} : Keep m s0 (State.ownRecord t x1 x2 x3 x4) := by
  unfold State.ownRecord
  with_reducible repeat' first
    | assumption
    | apply State.jrec_keep
    | apply Keep.ite
    | apply Keep.forL
    | intro _
    | (apply Keep.upd; first | assumption | apply State.jrec_keep | apply Keep.ite | apply Keep.forL | split)
    | split
    | refine Keep.ofPair (by assumption) ?_

theorem State.padExt_keep {m : Bool} {s0 t : State} (h : Keep m s0 t) {x1 x2} : Keep m s0 (State.padExt t x1 x2) := by
  unfold State.padExt
  with_reducible repeat' first
    | assumption
    | apply State.modPad_keep

theorem State.quiesceDone_keep {m : Bool} {s0 t : State} (hm : m = true) (h : Keep m s0 t) {x1} : Keep m s0 (State.quiesceDone t x1) := by
  unfold State.quiesceDone
  with_reducible repeat' first
    | assumption
    | apply State.put_keep
    | apply State.setQuiesce_keep
    | apply State.put64_keep
    | apply State.jrec_keep
    | apply State.fnReset_keep
    | apply State.instReset_keep hm
    | apply Keep.ite
    | apply Keep.forL
    | intro _
    | (apply Keep.upd; first | assumption | apply State.put_keep | apply State.setQuiesce_keep
                             | apply State.put64_keep | apply State.jrec_keep | apply State.fnReset_keep
                             | apply State.instReset_keep hm | apply Keep.ite | apply Keep.forL | split)
    | split
    | refine Keep.ofPair (by assumption) ?_

theorem State.pageDrained_keep {m : Bool} {s0 t : State} (hm : m = true) (h : Keep m s0 t) {x1} : Keep m s0 (State.pageDrained t x1) := by
  unfold State.pageDrained
  with_reducible repeat' first
    | assumption
    | apply State.quiesceDone_keep hm
    | apply State.put_keep
    | apply Keep.ite
    | apply Keep.forL
    | intro _
    | (apply Keep.upd; first | assumption | apply State.quiesceDone_keep hm | apply State.put_keep | apply Keep.ite
                             | apply Keep.forL | split)
    | split
    | refine Keep.ofPair (by assumption) ?_

theorem State.panelVer_keep {m : Bool} {s0 t : State} (h : Keep m s0 t) {x1 x2} : Keep m s0 (State.panelVer t x1 x2) := by
  unfold State.panelVer
  with_reducible repeat' first
    | assumption
    | apply State.put_keep
    | apply State.put64_keep

theorem State.passBinned_keep {m : Bool} {s0 t : State} (h : Keep m s0 t) {x1} : Keep m s0 (State.passBinned t x1) := by
  unfold State.passBinned
  with_reducible repeat' first
    | assumption
    | apply State.modJob_keep
    | split

theorem State.passEnd_keep {m : Bool} {s0 t : State} (hm : m = true) (h : Keep m s0 t) {x1 x2} : Keep m s0 (State.passEnd t x1 x2) := by
  unfold State.passEnd
  with_reducible repeat' first
    | assumption
    | apply State.damageMap_keep hm
    | apply State.damageRecord_keep
    | apply State.modJob_keep
    | apply Keep.ite
    | apply Keep.forL
    | intro _
    | (apply Keep.upd; first | assumption | apply State.damageMap_keep hm | apply State.damageRecord_keep
                             | apply State.modJob_keep | apply Keep.ite | apply Keep.forL | split)
    | split
    | refine Keep.ofPair (by assumption) ?_

theorem State.periodBoundary_keep {m : Bool} {s0 t : State} (h : Keep m s0 t) {x1} : Keep m s0 (State.periodBoundary t x1) := by
  unfold State.periodBoundary
  with_reducible repeat' first
    | assumption
    | apply State.modCtl_keep
    | apply State.periodSettle_keep
    | split

theorem State.periodLatch_keep {m : Bool} {s0 t : State} (h : Keep m s0 t) {x1} : Keep m s0 (State.periodLatch t x1) := by
  unfold State.periodLatch
  with_reducible repeat' first
    | assumption
    | apply State.periodSettle_keep
    | apply State.waitTo_keep
    | apply State.latchStats_keep
    | apply State.inc_keep
    | apply State.put_keep
    | apply State.put64_keep
    | apply State.intBit_keep
    | apply State.modCtl_keep
    | split

theorem State.perstAssert_keep {m : Bool} {s0 t : State} (hm : m = true) (h : Keep m s0 t) {x1} : Keep m s0 (State.perstAssert t x1) := by
  unfold State.perstAssert
  with_reducible repeat' first
    | assumption
    | apply State.hostReset_keep hm
    | apply State.setPort_keep
    | apply Keep.ite
    | apply Keep.forL
    | intro _
    | (apply Keep.upd; first | assumption | apply State.hostReset_keep hm | apply State.setPort_keep | apply Keep.ite
                             | apply Keep.forL | split)
    | split
    | refine Keep.ofPair (by assumption) ?_

theorem State.perstRelease_keep {m : Bool} {s0 t : State} (h : Keep m s0 t) {x1} : Keep m s0 (State.perstRelease t x1) := by
  unfold State.perstRelease
  with_reducible repeat' first
    | assumption
    | apply State.setPort_keep
    | apply Keep.ite
    | intro _

theorem State.pllLock_keep {m : Bool} {s0 t : State} (h : Keep m s0 t) : Keep m s0 (State.pllLock t) := by
  unfold State.pllLock
  with_reducible repeat' first
    | assumption
    | apply State.put_keep
    | apply State.put64_keep
    | apply Keep.ite
    | apply Keep.forL
    | intro _
    | (apply Keep.upd; first | assumption | apply State.put_keep | apply State.put64_keep | apply Keep.ite
                             | apply Keep.forL | split)
    | split
    | refine Keep.ofPair (by assumption) ?_

theorem State.pllUnlock_keep {m : Bool} {s0 t : State} (h : Keep m s0 t) : Keep m s0 (State.pllUnlock t) := by
  unfold State.pllUnlock
  with_reducible repeat' first
    | assumption
    | apply State.hit_keep
    | apply State.put_keep
    | apply State.incSat_keep
    | apply Keep.ite
    | intro _

theorem State.poolInvalid_keep {m : Bool} {s0 t : State} (hm : m = true) (h : Keep m s0 t) {x1} : Keep m s0 (State.poolInvalid t x1) :=
  h.trans ⟨rfl, (fun ⟨a, b, d, e, f⟩ => ⟨a, b, memPutNat_wf _ _ _ _ d, amWf_set _ _ _ _ e, f⟩), Keep.no hm⟩

theorem State.portReadyTimeout_keep {m : Bool} {s0 t : State} (hm : m = true) (h : Keep m s0 t) {x1} : Keep m s0 (State.portReadyTimeout t x1) := by
  unfold State.portReadyTimeout
  with_reducible repeat' first
    | assumption
    | apply State.waitTo_keep
    | apply State.setPort_keep
    | apply State.startBlock_keep hm
    | apply State.put_keep
    | apply Keep.ite
    | apply Keep.forL
    | intro _
    | (apply Keep.upd; first | assumption | apply State.waitTo_keep | apply State.setPort_keep
                             | apply State.startBlock_keep hm | apply State.put_keep | apply Keep.ite
                             | apply Keep.forL | split)
    | split
    | refine Keep.ofPair (by assumption) ?_

theorem State.portUp_keep {m : Bool} {s0 t : State} (h : Keep m s0 t) {x1} : Keep m s0 (State.portUp t x1) := by
  unfold State.portUp
  with_reducible repeat' first
    | assumption
    | apply State.put_keep
    | apply State.intBit_keep
    | apply State.modTport_keep
    | apply State.put64_keep
    | apply State.roleCheck_keep
    | apply State.mirUpdate_keep
    | apply State.linkRec_keep
    | apply Keep.ite
    | apply Keep.forL
    | intro _
    | (apply Keep.upd; first | assumption | apply State.put_keep | apply State.intBit_keep | apply State.modTport_keep
                             | apply State.put64_keep | apply State.roleCheck_keep | apply State.mirUpdate_keep
                             | apply State.linkRec_keep | apply Keep.ite | apply Keep.forL | split)
    | split
    | refine Keep.ofPair (by assumption) ?_

theorem State.potPutDec_keep {m : Bool} {s0 t : State} (hm : m = true) (h : Keep m s0 t) {x1 x2 x3 x4 x5} : Keep m s0 (State.potPutDec t x1 x2 x3 x4 x5).1 := by
  unfold State.potPutDec
  with_reducible repeat' first
    | assumption
    | apply State.dramClean_keep hm
    | apply State.dramUe_keep
    | apply State.dramPoison_keep hm
    | apply State.dramCe_keep
    | apply Keep.ite
    | apply Keep.ite1
    | apply Keep.forL
    | intro _
    | (apply Keep.upd; first | assumption | apply State.dramClean_keep hm | apply State.dramUe_keep
                             | apply State.dramPoison_keep hm | apply State.dramCe_keep | apply Keep.ite
                             | apply Keep.ite1 | apply Keep.forL | split)
    | split
    | refine Keep.ofPair (by assumption) ?_

theorem State.potPutWord_keep {m : Bool} {s0 t : State} (hm : m = true) (h : Keep m s0 t) {x1 x2 x3 x4} : Keep m s0 (State.potPutWord t x1 x2 x3 x4).1 := by
  unfold State.potPutWord
  with_reducible repeat' first
    | assumption
    | apply State.potPutDec_keep hm
    | apply Keep.ite
    | apply Keep.ite1
    | apply Keep.forL
    | intro _
    | (apply Keep.upd; first | assumption | apply State.potPutDec_keep hm | apply Keep.ite | apply Keep.ite1
                             | apply Keep.forL | split)
    | split
    | refine Keep.ofPair (by assumption) ?_

theorem State.potPutEntries_keep {m : Bool} {s0 t : State} (hm : m = true) (h : Keep m s0 t) {x1 x2 x3 x4} : Keep m s0 (State.potPutEntries t x1 x2 x3 x4).1 := by
  induction x4 generalizing t x1 x2 x3 with
  | nil =>
    unfold State.potPutEntries
    with_reducible repeat' first
      | assumption
      | apply ih
      | apply State.potPutWord_keep hm
  | cons e l ih =>
    unfold State.potPutEntries
    with_reducible repeat' first
      | assumption
      | apply ih
      | apply State.potPutWord_keep hm

theorem State.potDone_keep {m : Bool} {s0 t : State} (hm : m = true) (h : Keep m s0 t) : Keep m s0 (State.potDone t) := by
  unfold State.potDone
  try dsimp only
  with_reducible repeat' first
    | assumption
    | apply State.potPutEntries_keep hm
    | apply State.put_keep
    | apply State.ownRecord_keep
    | apply State.dramJudge_keep hm
    | apply Keep.ite
    | apply Keep.ite1
    | apply Keep.forL
    | apply Keep.forN
    | apply Keep.forL1
    | apply Keep.forN1
    | apply Keep.foldl
    | apply Keep.foldl1
    | intro _
    | (apply Keep.upd; first | assumption | apply State.potPutEntries_keep hm | apply State.put_keep
                             | apply State.ownRecord_keep | apply State.dramJudge_keep hm | apply Keep.ite
                             | apply Keep.ite1 | apply Keep.forL | apply Keep.forN | apply Keep.forL1
                             | apply Keep.forN1 | apply Keep.foldl | apply Keep.foldl1 | split)
    | split
    | refine Keep.ofPair (by assumption) ?_

theorem State.powerDown_keep {m : Bool} {s0 t : State} (h : Keep m s0 t) {x1 x2} : Keep m s0 (State.powerDown t x1 x2) := by
  unfold State.powerDown
  with_reducible repeat' first
    | assumption
    | apply State.waitTo_keep
    | apply State.modDchan_keep
    | apply State.chanSettle_keep
    | apply Keep.ite
    | intro _

theorem State.preemptLate_keep {m : Bool} {s0 t : State} (h : Keep m s0 t) {x1} : Keep m s0 (State.preemptLate t x1) := by
  unfold State.preemptLate
  with_reducible repeat' first
    | assumption
    | apply State.waitTo_keep
    | apply State.stat_keep
    | apply State.intBit_keep
    | apply State.hit_keep
    | apply State.setGcore_keep
    | intro _
    | (apply Keep.upd; first | assumption | apply State.waitTo_keep | apply State.stat_keep | apply State.intBit_keep
                             | apply State.hit_keep | apply State.setGcore_keep | split)
    | split

theorem State.preloaded_keep {m : Bool} {s0 t : State} (h : Keep m s0 t) {x1} : Keep m s0 (State.preloaded t x1) := by
  unfold State.preloaded
  with_reducible repeat' first
    | assumption
    | apply State.earcon_keep
    | apply State.setPlayer_keep
    | apply State.put_keep
    | intro _
    | (apply Keep.upd; first | assumption | apply State.earcon_keep | apply State.setPlayer_keep
                             | apply State.put_keep | split)
    | split

theorem State.putTver_keep {m : Bool} {s0 t : State} (h : Keep m s0 t) {x1 x2} : Keep m s0 (State.putTver t x1 x2) := by
  unfold State.putTver
  with_reducible repeat' first
    | assumption
    | apply State.put_keep
    | apply State.put64_keep

theorem State.quiesceTimeout_keep {m : Bool} {s0 t : State} (hm : m = true) (h : Keep m s0 t) {x1 x2} : Keep m s0 (State.quiesceTimeout t x1 x2) := by
  unfold State.quiesceTimeout
  with_reducible repeat' first
    | assumption
    | apply State.waitTo_keep
    | apply State.copyStop_keep hm
    | apply State.gfxPurge_keep hm
    | apply State.gsettle_keep
    | apply State.setQuiesce_keep
    | apply State.put_keep
    | apply Keep.ite
    | apply Keep.ite1
    | apply Keep.forL
    | intro _
    | (apply Keep.upd; first | assumption | apply State.waitTo_keep | apply State.copyStop_keep hm
                             | apply State.gfxPurge_keep hm | apply State.gsettle_keep | apply State.setQuiesce_keep
                             | apply State.put_keep | apply Keep.ite | apply Keep.ite1 | apply Keep.forL | split)
    | split
    | refine Keep.ofPair (by assumption) ?_

theorem State.rcvDone_keep {m : Bool} {s0 t : State} (h : Keep m s0 t) {x1} : Keep m s0 (State.rcvDone t x1) := by
  unfold State.rcvDone
  with_reducible repeat' first
    | assumption
    | apply State.put_keep
    | apply Keep.ite
    | intro _

theorem State.readOn_keep {m : Bool} {s0 t : State} (h : Keep m s0 t) {x0 x2 x3 x4} : Keep m s0 (State.readOn x0 t x2 x3 x4) := by
  unfold State.readOn
  with_reducible repeat' first
    | assumption
    | apply State.cmdRead_keep
    | apply Keep.ite
    | intro _

theorem State.readTimeout_keep {m : Bool} {s0 t : State} (h : Keep m s0 t) : Keep m s0 (State.readTimeout t) := by
  unfold State.readTimeout
  with_reducible repeat' first
    | assumption
    | apply State.readEnds_keep
    | apply State.waitTo_keep
    | split

theorem State.reflexRevoke_keep {m : Bool} {s0 t : State} (h : Keep m s0 t) {x1 x2 x3 x4 x5 x6} : Keep m s0 (State.reflexRevoke t x1 x2 x3 x4 x5 x6) := by
  unfold State.reflexRevoke
  with_reducible repeat' first
    | assumption
    | apply State.jrecTo_keep
    | apply State.stat_keep
    | apply State.intBit_keep
    | (apply Keep.upd; first | assumption | apply State.jrecTo_keep | apply State.stat_keep | apply State.intBit_keep)

theorem State.reflexAct_keep {m : Bool} {s0 t : State} (h : Keep m s0 t) {x1 x2 x3 x4 x5 x6 x7 x8 x9} (h9 : ∀ u, Keep m s0 u → Keep m s0 (x9 u)) : Keep m s0 (State.reflexAct t x1 x2 x3 x4 x5 x6 x7 x8 x9) := by
  unfold State.reflexAct
  with_reducible repeat' first
    | assumption
    | apply h9
    | apply State.reflexRevoke_keep
    | apply State.stat_keep
    | apply Keep.ite
    | apply Keep.forL
    | split
    | intro _
    | (apply Keep.upd; first | assumption | apply h9 | apply State.reflexRevoke_keep | apply State.stat_keep
                             | apply Keep.ite | apply Keep.forL | split)
    | split
    | refine Keep.ofPair (by assumption) ?_
    | refine Keep.ofSome (by assumption) ?_
    | refine Keep.ofSomeP (by assumption) ?_

theorem State.reflexToggle_keep {m : Bool} {s0 t : State} (h : Keep m s0 t) {x1 x2} : Keep m s0 (State.reflexToggle t x1 x2) := by
  unfold State.reflexToggle
  with_reducible repeat' first
    | assumption
    | apply State.holdTrigger_keep
    | apply State.modLay_keep

theorem State.reflexRun_keep {m : Bool} {s0 t : State} (h : Keep m s0 t) {x1 x2 x3 x4} : Keep m s0 (State.reflexRun t x1 x2 x3 x4) := by
  unfold State.reflexRun
  with_reducible repeat' first
    | assumption
    | apply State.stat_keep
    | apply State.intBit_keep
    | apply State.reflexAct_keep
    | apply State.trigger_keep
    | apply State.lineStart_keep
    | apply State.reflexToggle_keep
    | apply State.jrecTo_keep
    | apply Keep.ite
    | intro _

theorem State.reflexEvent_keep {m : Bool} {s0 t : State} (h : Keep m s0 t) {x1 x2 x3 x4 x5} : Keep m s0 (State.reflexEvent t x1 x2 x3 x4 x5) := by
  unfold State.reflexEvent
  with_reducible repeat' first
    | assumption
    | apply State.reflexRun_keep
    | intro _
    | (apply Keep.upd; first | assumption | apply State.reflexRun_keep | split)
    | split

theorem State.reflexEvaluate_keep {m : Bool} {s0 t : State} (h : Keep m s0 t) : Keep m s0 (State.reflexEvaluate t) := by
  unfold State.reflexEvaluate
  with_reducible repeat' first
    | assumption
    | apply State.reflexEvent_keep
    | apply Keep.forL
    | intro _
    | (apply Keep.upd; first | assumption | apply State.reflexEvent_keep | apply Keep.forL | split)
    | split

theorem State.reflexReq_keep {m : Bool} {s0 t : State} (hm : m = true) (h : Keep m s0 t) {x1 x2 x3} : Keep m s0 (State.reflexReq t x1 x2 x3) := by
  unfold State.reflexReq
  with_reducible repeat' first
    | assumption
    | apply State.cmdWrite_keep hm
    | apply Keep.ite
    | apply Keep.forL
    | intro _
    | (apply Keep.upd; first | assumption | apply State.cmdWrite_keep hm | apply Keep.ite | apply Keep.forL | split)
    | split
    | refine Keep.ofPair (by assumption) ?_

theorem State.refresh_keep {m : Bool} {s0 t : State} (h : Keep m s0 t) {x1 x2 x3 x4} : Keep m s0 (State.refresh t x1 x2 x3 x4) := by
  unfold State.refresh
  try dsimp only
  with_reducible repeat' first
    | assumption
    | apply State.setDchan_keep
    | apply State.waitTo_keep
    | apply State.modDchan_keep
    | apply State.rankCmd_keep
    | apply Keep.ite
    | apply Keep.forL
    | apply Keep.forN
    | apply Keep.forL1
    | apply Keep.forN1
    | apply Keep.foldl
    | apply Keep.foldl1
    | intro _
    | (apply Keep.upd; first | assumption | apply State.setDchan_keep | apply State.waitTo_keep
                             | apply State.modDchan_keep | apply State.rankCmd_keep | apply Keep.ite | apply Keep.forL
                             | apply Keep.forN | apply Keep.forL1 | apply Keep.forN1 | apply Keep.foldl
                             | apply Keep.foldl1 | split)
    | split
    | refine Keep.ofPair (by assumption) ?_

theorem State.regionCleared_keep {m : Bool} {s0 t : State} (hm : m = true) (h : Keep m s0 t) {x1} : Keep m s0 (State.regionCleared t x1) := by
  unfold State.regionCleared
  with_reducible repeat' first
    | assumption
    | apply State.poolClear_keep hm
    | apply State.put_keep
    | apply Keep.ite
    | apply Keep.forL
    | intro _
    | (apply Keep.upd; first | assumption | apply State.poolClear_keep hm | apply State.put_keep | apply Keep.ite
                             | apply Keep.forL | split)
    | split
    | refine Keep.ofPair (by assumption) ?_

theorem State.remoteGran_keep {m : Bool} {s0 t : State} (h : Keep m s0 t) {x1 x2 x3 x4} : Keep m s0 (State.remoteGran t x1 x2 x3 x4).1 := by
  unfold State.remoteGran
  try dsimp only
  with_reducible repeat' first
    | assumption
    | apply State.mread_keep
    | apply Keep.ite
    | apply Keep.ite1
    | apply Keep.forL
    | intro _
    | (apply Keep.upd; first | assumption | apply State.mread_keep | apply Keep.ite | apply Keep.ite1
                             | apply Keep.forL | split)
    | split
    | refine Keep.ofPair (by assumption) ?_

theorem State.resetBy_keep {m : Bool} {s0 t : State} (hm : m = true) (h : Keep m s0 t) {x1 x2} : Keep m s0 (State.resetBy t x1 x2) := by
  unfold State.resetBy
  with_reducible repeat' first
    | assumption
    | apply State.chipAssert_keep hm
    | apply Keep.ite
    | apply Keep.forL
    | intro _
    | (apply Keep.upd; first | assumption | apply State.chipAssert_keep hm | apply Keep.ite | apply Keep.forL | split)
    | split
    | refine Keep.ofPair (by assumption) ?_

theorem State.resetPin_keep {m : Bool} {s0 t : State} (hm : m = true) (h : Keep m s0 t) {x1} : Keep m s0 (State.resetPin t x1) := by
  unfold State.resetPin
  with_reducible repeat' first
    | assumption
    | apply State.sourceActs_keep hm
    | apply Keep.ite
    | apply Keep.forL
    | intro _
    | (apply Keep.upd; first | assumption | apply State.sourceActs_keep hm | apply Keep.ite | apply Keep.forL | split)
    | split
    | refine Keep.ofPair (by assumption) ?_

theorem State.restartCause_keep {m : Bool} {s0 t : State} (h : Keep m s0 t) {x1} : Keep m s0 (State.restartCause t x1) := by
  unfold State.restartCause
  try dsimp only
  with_reducible repeat' first
    | assumption
    | apply State.hit_keep
    | apply State.secureTrigger_keep
    | apply Keep.ite
    | apply Keep.forL
    | apply Keep.forN
    | apply Keep.forL1
    | apply Keep.forN1
    | apply Keep.foldl
    | apply Keep.foldl1
    | intro _
    | (apply Keep.upd; first | assumption | apply State.hit_keep | apply State.secureTrigger_keep | apply Keep.ite
                             | apply Keep.forL | apply Keep.forN | apply Keep.forL1 | apply Keep.forN1
                             | apply Keep.foldl | apply Keep.foldl1 | split)
    | split
    | refine Keep.ofPair (by assumption) ?_

theorem State.restartDone_keep {m : Bool} {s0 t : State} (h : Keep m s0 t) {x1 x2} : Keep m s0 (State.restartDone t x1 x2) := by
  unfold State.restartDone
  with_reducible repeat' first
    | assumption
    | apply State.put_keep
    | apply State.stat_keep
    | apply State.modPanel_keep
    | apply State.setNoisy_keep
    | apply State.tchRec_keep
    | apply State.acquire_keep
    | apply State.intBit_keep
    | apply Keep.ite
    | apply Keep.forL
    | intro _
    | (apply Keep.upd; first | assumption | apply State.put_keep | apply State.stat_keep | apply State.modPanel_keep
                             | apply State.setNoisy_keep | apply State.tchRec_keep | apply State.acquire_keep
                             | apply State.intBit_keep | apply Keep.ite | apply Keep.forL | split)
    | split
    | refine Keep.ofPair (by assumption) ?_

theorem State.restartDue_keep {m : Bool} {s0 t : State} (h : Keep m s0 t) {x1} : Keep m s0 (State.restartDue t x1) := by
  unfold State.restartDue
  with_reducible repeat' first
    | assumption
    | apply State.portRestart_keep
    | apply Keep.ite
    | intro _

theorem State.restartFails_keep {m : Bool} {s0 t : State} (hm : m = true) (h : Keep m s0 t) {x1 x2 x3 x4} : Keep m s0 (State.restartFails t x1 x2 x3 x4) := by
  unfold State.restartFails
  with_reducible repeat' first
    | assumption
    | apply State.modPanel_keep
    | apply State.hit_keep
    | apply State.panelDown_keep hm
    | apply Keep.ite
    | apply Keep.forL
    | intro _
    | (apply Keep.upd; first | assumption | apply State.modPanel_keep | apply State.hit_keep
                             | apply State.panelDown_keep hm | apply Keep.ite | apply Keep.forL | split)
    | split
    | refine Keep.ofPair (by assumption) ?_

theorem State.restartResume_keep {m : Bool} {s0 t : State} (h : Keep m s0 t) {x1} : Keep m s0 (State.restartResume t x1) := by
  unfold State.restartResume
  with_reducible repeat' first
    | assumption
    | apply State.restartRelease_keep
    | apply State.setMeas_keep
    | apply State.inc_keep
    | apply State.trapM_keep
    | apply State.put_keep
    | apply State.mboxLost_keep
    | apply State.endB_keep
    | apply State.jrec_keep
    | apply Keep.forN
    | intro _
    | (apply Keep.upd; first | assumption | apply State.restartRelease_keep | apply State.setMeas_keep
                             | apply State.inc_keep | apply State.trapM_keep | apply State.put_keep
                             | apply State.mboxLost_keep | apply State.endB_keep | apply State.jrec_keep
                             | apply Keep.forN | split)
    | split

theorem State.restartRetry_keep {m : Bool} {s0 t : State} (h : Keep m s0 t) {x1} : Keep m s0 (State.restartRetry t x1) := by
  unfold State.restartRetry
  with_reducible repeat' first
    | assumption
    | apply State.panelRestart_keep
    | apply State.waitTo_keep
    | split

theorem State.restartSlot_keep {m : Bool} {s0 t : State} (hm : m = true) (h : Keep m s0 t) {x1 x2} : Keep m s0 (State.restartSlot t x1 x2) := by
  unfold State.restartSlot
  with_reducible repeat' first
    | assumption
    | apply State.waitTo_keep
    | apply State.tchRead_keep
    | apply State.modPanel_keep
    | apply State.tchSend_keep
    | apply State.put_keep
    | apply State.panelVer_keep
    | apply State.restartFails_keep hm
    | apply State.restartDone_keep
    | apply Keep.ite
    | apply Keep.ite1
    | apply Keep.forL
    | intro _
    | (apply Keep.upd; first | assumption | apply State.waitTo_keep | apply State.tchRead_keep
                             | apply State.modPanel_keep | apply State.tchSend_keep | apply State.put_keep
                             | apply State.panelVer_keep | apply State.restartFails_keep hm
                             | apply State.restartDone_keep | apply Keep.ite | apply Keep.ite1 | apply Keep.forL
                             | split)
    | split
    | refine Keep.ofPair (by assumption) ?_

theorem State.restartRun_keep {m : Bool} {s0 t : State} (hm : m = true) (h : Keep m s0 t) {x1 x2} : Keep m s0 (State.restartRun t x1 x2) := by
  unfold State.restartRun
  with_reducible repeat' first
    | assumption
    | apply State.panelRestart_keep
    | apply State.waitTo_keep
    | apply State.restartSlot_keep hm
    | apply Keep.ite
    | apply Keep.forL
    | intro _
    | (apply Keep.upd; first | assumption | apply State.panelRestart_keep | apply State.waitTo_keep
                             | apply State.restartSlot_keep hm | apply Keep.ite | apply Keep.forL | split)
    | split
    | refine Keep.ofPair (by assumption) ?_

theorem State.ringStopped_keep {m : Bool} {s0 t : State} (h : Keep m s0 t) {x1} : Keep m s0 (State.ringStopped t x1) := by
  unfold State.ringStopped
  with_reducible repeat' first
    | assumption
    | apply State.setRing_keep
    | apply State.setRingState_keep
    | apply Keep.ite
    | intro _

theorem State.rootLoss_keep {m : Bool} {s0 t : State} (hm : m = true) (h : Keep m s0 t) : Keep m s0 (State.rootLoss t) := by
  unfold State.rootLoss
  with_reducible repeat' first
    | assumption
    | apply State.writeFF_keep
    | apply State.chipAssert_keep hm
    | apply State.put_keep
    | apply Keep.ite
    | apply Keep.forL
    | intro _
    | (apply Keep.upd; first | assumption | apply State.writeFF_keep | apply State.chipAssert_keep hm
                             | apply State.put_keep | apply Keep.ite | apply Keep.forL | split)
    | split
    | refine Keep.ofPair (by assumption) ?_

theorem State.routeDone_keep {m : Bool} {s0 t : State} (h : Keep m s0 t) : Keep m s0 (State.routeDone t) := by
  unfold State.routeDone
  with_reducible repeat' first
    | assumption
    | apply State.checkDone_keep
    | apply State.setRoute_keep
    | intro _
    | (apply Keep.upd; first | assumption | apply State.checkDone_keep | apply State.setRoute_keep | split)
    | split

theorem State.tGood_keep {m : Bool} {s0 t : State} (h : Keep m s0 t) {x1} : Keep m s0 (State.tGood t x1) := by
  unfold State.tGood
  with_reducible repeat' first
    | assumption
    | apply State.stat_keep
    | apply State.modTport_keep

theorem State.tSeq_keep {m : Bool} {s0 t : State} (h : Keep m s0 t) {x1 x2 x3 x4} (h4 : ∀ u, Keep m s0 u → Keep m s0 (x4 u)) : Keep m s0 (State.tSeq t x1 x2 x3 x4) := by
  unfold State.tSeq
  try dsimp only
  with_reducible repeat' first
    | assumption
    | apply h4
    | apply State.tLate_keep
    | apply State.nakDue_keep
    | apply State.modTport_keep
    | apply State.inc_keep
    | apply State.tGood_keep
    | apply Keep.ite
    | apply Keep.forL
    | apply Keep.forN
    | apply Keep.forL1
    | apply Keep.forN1
    | apply Keep.foldl
    | apply Keep.foldl1
    | split
    | intro _
    | (apply Keep.upd; first | assumption | apply h4 | apply State.tLate_keep | apply State.nakDue_keep
                             | apply State.modTport_keep | apply State.inc_keep | apply State.tGood_keep
                             | apply Keep.ite | apply Keep.forL | apply Keep.forN | apply Keep.forL1
                             | apply Keep.forN1 | apply Keep.foldl | apply Keep.foldl1 | split)
    | split
    | refine Keep.ofPair (by assumption) ?_
    | refine Keep.ofSome (by assumption) ?_
    | refine Keep.ofSomeP (by assumption) ?_

theorem State.rxBeat_keep {m : Bool} {s0 t : State} (h : Keep m s0 t) {x1 x2 x3 x4} : Keep m s0 (State.rxBeat t x1 x2 x3 x4) := by
  unfold State.rxBeat
  try dsimp only
  with_reducible repeat' first
    | assumption
    | apply State.tSeq_keep
    | apply State.beatTimeout_keep
    | apply State.modTmb_keep
    | apply State.deviceBack_keep
    | apply Keep.ite
    | apply Keep.forL
    | apply Keep.forN
    | apply Keep.forL1
    | apply Keep.forN1
    | apply Keep.foldl
    | apply Keep.foldl1
    | intro _
    | (apply Keep.upd; first | assumption | apply State.tSeq_keep | apply State.beatTimeout_keep
                             | apply State.modTmb_keep | apply State.deviceBack_keep | apply Keep.ite
                             | apply Keep.forL | apply Keep.forN | apply Keep.forL1 | apply Keep.forN1
                             | apply Keep.foldl | apply Keep.foldl1 | split)
    | split
    | refine Keep.ofPair (by assumption) ?_

theorem State.rxCredit_keep {m : Bool} {s0 t : State} (h : Keep m s0 t) {x1 x2} : Keep m s0 (State.rxCredit t x1 x2) := by
  unfold State.rxCredit
  with_reducible repeat' first
    | assumption
    | apply State.tSeq_keep
    | apply State.put_keep
    | apply Keep.ite
    | intro _

theorem State.tLoose_keep {m : Bool} {s0 t : State} (h : Keep m s0 t) {x1 x2} (h2 : ∀ u, Keep m s0 u → Keep m s0 (x2 u)) : Keep m s0 (State.tLoose t x1 x2) := by
  unfold State.tLoose
  try dsimp only
  with_reducible repeat' first
    | assumption
    | apply h2
    | apply State.tLate_keep
    | apply State.tGood_keep
    | apply Keep.ite
    | apply Keep.forL
    | apply Keep.forN
    | apply Keep.forL1
    | apply Keep.forN1
    | apply Keep.foldl
    | apply Keep.foldl1
    | split
    | intro _
    | (apply Keep.upd; first | assumption | apply h2 | apply State.tLate_keep | apply State.tGood_keep
                             | apply Keep.ite | apply Keep.forL | apply Keep.forN | apply Keep.forL1
                             | apply Keep.forN1 | apply Keep.foldl | apply Keep.foldl1 | split)
    | split
    | refine Keep.ofPair (by assumption) ?_
    | refine Keep.ofSome (by assumption) ?_
    | refine Keep.ofSomeP (by assumption) ?_

theorem State.rxEcho_keep {m : Bool} {s0 t : State} (h : Keep m s0 t) {x1 x2 x3} : Keep m s0 (State.rxEcho t x1 x2 x3) := by
  unfold State.rxEcho
  with_reducible repeat' first
    | assumption
    | apply State.tLoose_keep
    | apply State.modTport_keep
    | intro _

theorem State.rxHello_keep {m : Bool} {s0 t : State} (h : Keep m s0 t) {x1 x2 x3 x4 x5 x6 x7 x8} : Keep m s0 (State.rxHello t x1 x2 x3 x4 x5 x6 x7 x8) := by
  unfold State.rxHello
  try dsimp only
  with_reducible repeat' first
    | assumption
    | apply State.tLate_keep
    | apply State.hit_keep
    | apply State.put_keep
    | apply State.stat_keep
    | apply State.modTport_keep
    | apply State.modTmb_keep
    | apply State.tmbFails_keep
    | apply State.putTver_keep
    | apply State.portUp_keep
    | apply Keep.ite
    | apply Keep.forL
    | apply Keep.forN
    | apply Keep.forL1
    | apply Keep.forN1
    | apply Keep.foldl
    | apply Keep.foldl1
    | intro _
    | (apply Keep.upd; first | assumption | apply State.tLate_keep | apply State.hit_keep | apply State.put_keep
                             | apply State.stat_keep | apply State.modTport_keep | apply State.modTmb_keep
                             | apply State.tmbFails_keep | apply State.putTver_keep | apply State.portUp_keep
                             | apply Keep.ite | apply Keep.forL | apply Keep.forN | apply Keep.forL1
                             | apply Keep.forN1 | apply Keep.foldl | apply Keep.foldl1 | split)
    | split
    | refine Keep.ofPair (by assumption) ?_

theorem State.rxIdle_keep {m : Bool} {s0 t : State} (h : Keep m s0 t) {x1} : Keep m s0 (State.rxIdle t x1) :=
  State.tLoose_keep h (fun _ h => h)

theorem State.rxLat_keep {m : Bool} {s0 t : State} (h : Keep m s0 t) {x1 x2} : Keep m s0 (State.rxLat t x1 x2) := by
  unfold State.rxLat
  with_reducible repeat' first
    | assumption
    | apply State.tSeq_keep
    | apply State.modTmb_keep
    | apply State.reportLat_keep
    | intro _

theorem State.rxMail_keep {m : Bool} {s0 t : State} (h : Keep m s0 t) {x1 x2 x3} : Keep m s0 (State.rxMail t x1 x2 x3) := by
  unfold State.rxMail
  with_reducible repeat' first
    | assumption
    | apply State.tSeq_keep
    | apply State.wr_keep
    | apply State.intBit_keep
    | apply State.put_keep
    | apply Keep.ite
    | apply Keep.forL
    | intro _

theorem State.rxNak_keep {m : Bool} {s0 t : State} (h : Keep m s0 t) {x1 x2} : Keep m s0 (State.rxNak t x1 x2) := by
  unfold State.rxNak
  with_reducible repeat' first
    | assumption
    | apply State.tLoose_keep
    | apply State.portDown_keep
    | apply State.modTport_keep
    | apply Keep.ite
    | intro _

theorem State.rxReadData_keep {m : Bool} {s0 t : State} (h : Keep m s0 t) {x1 x2 x3 x4 x5} : Keep m s0 (State.rxReadData t x1 x2 x3 x4 x5) := by
  unfold State.rxReadData
  with_reducible repeat' first
    | assumption
    | apply State.tSeq_keep
    | apply State.readEnds_keep
    | intro _
    | split

theorem State.rxReadReq_keep {m : Bool} {s0 t : State} (h : Keep m s0 t) {x1 x2 x3} : Keep m s0 (State.rxReadReq t x1 x2 x3) := by
  unfold State.rxReadReq
  with_reducible repeat' first
    | assumption
    | apply State.tSeq_keep
    | apply State.remoteGran_keep
    | apply State.tSend_keep
    | apply Keep.ite
    | apply Keep.ite1
    | apply Keep.forL
    | apply Keep.forN1
    | intro _
    | (apply Keep.upd; first | assumption | apply State.tSeq_keep | apply State.remoteGran_keep
                             | apply State.tSend_keep | apply Keep.ite | apply Keep.ite1 | apply Keep.forL
                             | apply Keep.forN1 | split)
    | split
    | refine Keep.ofPair (by assumption) ?_

theorem State.rxReset_keep {m : Bool} {s0 t : State} (hm : m = true) (h : Keep m s0 t) {x1 x2} : Keep m s0 (State.rxReset t x1 x2) := by
  unfold State.rxReset
  with_reducible repeat' first
    | assumption
    | apply State.tSeq_keep
    | apply State.sourceActs_keep hm
    | apply State.stat_keep
    | apply Keep.ite
    | apply Keep.forL
    | intro _
    | (apply Keep.upd; first | assumption | apply State.tSeq_keep | apply State.sourceActs_keep hm
                             | apply State.stat_keep | apply Keep.ite | apply Keep.forL | split)
    | split
    | refine Keep.ofPair (by assumption) ?_

theorem State.rxTime_keep {m : Bool} {s0 t : State} (hm : m = true) (h : Keep m s0 t) {x1 x2 x3 x4} : Keep m s0 (State.rxTime t x1 x2 x3 x4) := by
  unfold State.rxTime
  with_reducible repeat' first
    | assumption
    | apply State.tLoose_keep
    | apply State.align_keep hm
    | apply State.modTport_keep
    | apply Keep.ite
    | apply Keep.forL
    | intro _
    | (apply Keep.upd; first | assumption | apply State.tLoose_keep | apply State.align_keep hm
                             | apply State.modTport_keep | apply Keep.ite | apply Keep.forL | split)
    | split
    | refine Keep.ofPair (by assumption) ?_

theorem State.rxWrite_keep {m : Bool} {s0 t : State} (hm : m = true) (h : Keep m s0 t) {x1 x2 x3 x4} : Keep m s0 (State.rxWrite t x1 x2 x3 x4) := by
  unfold State.rxWrite
  with_reducible repeat' first
    | assumption
    | apply State.tSeq_keep
    | apply State.mwrite_keep hm
    | apply State.stat_keep
    | apply Keep.ite
    | apply Keep.ite1
    | apply Keep.forL
    | intro _
    | (apply Keep.upd; first | assumption | apply State.tSeq_keep | apply State.mwrite_keep hm | apply State.stat_keep
                             | apply Keep.ite | apply Keep.ite1 | apply Keep.forL | split)
    | split
    | refine Keep.ofPair (by assumption) ?_

theorem State.safeDone_keep {m : Bool} {s0 t : State} (h : Keep m s0 t) : Keep m s0 (State.safeDone t) := by
  unfold State.safeDone
  with_reducible repeat' first
    | assumption
    | apply State.put_keep
    | apply State.put64_keep
    | apply State.modAudio_keep
    | apply Keep.ite
    | intro _
    | (apply Keep.upd; first | assumption | apply State.put_keep | apply State.put64_keep | apply State.modAudio_keep
                             | apply Keep.ite)

theorem State.safeEntry_keep {m : Bool} {s0 t : State} (h : Keep m s0 t) : Keep m s0 (State.safeEntry t) := by
  unfold State.safeEntry
  with_reducible repeat' first
    | assumption
    | apply State.waitTo_keep
    | apply State.put_keep
    | apply State.modHead_keep
    | apply State.rasterOff_keep
    | apply State.hptStop_keep
    | apply State.modPanel_keep
    | apply State.setAport_keep
    | apply State.tportStop_keep
    | apply Keep.ite
    | apply Keep.forN
    | intro _
    | (apply Keep.upd; first | assumption | apply State.waitTo_keep | apply State.put_keep | apply State.modHead_keep
                             | apply State.rasterOff_keep | apply State.hptStop_keep | apply State.modPanel_keep
                             | apply State.setAport_keep | apply State.tportStop_keep | apply Keep.ite
                             | apply Keep.forN)

theorem State.saveDone_keep {m : Bool} {s0 t : State} (hm : m = true) (h : Keep m s0 t) {x1 x2} : Keep m s0 (State.saveDone t x1 x2) := by
  unfold State.saveDone
  with_reducible repeat' first
    | assumption
    | apply State.waitTo_keep
    | apply State.gwrite_keep hm
    | apply State.gcoreFree_keep
    | apply State.stat64_keep
    | apply State.stat_keep
    | apply Keep.ite
    | apply Keep.forL
    | intro _
    | (apply Keep.upd; first | assumption | apply State.waitTo_keep | apply State.gwrite_keep hm
                             | apply State.gcoreFree_keep | apply State.stat64_keep | apply State.stat_keep
                             | apply Keep.ite | apply Keep.forL | split)
    | split
    | refine Keep.ofPair (by assumption) ?_

theorem State.secRestart_keep {m : Bool} {s0 t : State} (hm : m = true) (h : Keep m s0 t) {x1} : Keep m s0 (State.secRestart t x1) := by
  unfold State.secRestart
  with_reducible repeat' first
    | assumption
    | apply State.wdExpiry_keep
    | apply State.restartCause_keep
    | apply State.cmdWrite_keep hm
    | apply Keep.ite
    | apply Keep.forL
    | intro _
    | (apply Keep.upd; first | assumption | apply State.wdExpiry_keep | apply State.restartCause_keep
                             | apply State.cmdWrite_keep hm | apply Keep.ite | apply Keep.forL | split)
    | split
    | refine Keep.ofPair (by assumption) ?_

theorem State.slackPoint_keep {m : Bool} {s0 t : State} (hm : m = true) (h : Keep m s0 t) {x1} : Keep m s0 (State.slackPoint t x1) := by
  unfold State.slackPoint
  with_reducible repeat' first
    | assumption
    | apply State.lineSlot_keep hm
    | apply State.waitTo_keep
    | apply State.slackAt_keep hm
    | apply State.setRaster_keep
    | apply Keep.ite
    | apply Keep.forL
    | apply Keep.forN
    | intro _
    | (apply Keep.upd; first | assumption | apply State.lineSlot_keep hm | apply State.waitTo_keep
                             | apply State.slackAt_keep hm | apply State.setRaster_keep | apply Keep.ite
                             | apply Keep.forL | apply Keep.forN | split)
    | split
    | refine Keep.ofPair (by assumption) ?_

theorem State.slewTick_keep {m : Bool} {s0 t : State} (h : Keep m s0 t) : Keep m s0 (State.slewTick t) := by
  unfold State.slewTick
  with_reducible repeat' first
    | assumption
    | apply State.waitTo_keep
    | apply State.put_keep
    | apply State.syncCarry_keep
    | apply State.rasterCarry_keep
    | apply Keep.ite
    | apply Keep.forL
    | intro _
    | (apply Keep.upd; first | assumption | apply State.waitTo_keep | apply State.put_keep
                             | apply State.syncCarry_keep | apply State.rasterCarry_keep | apply Keep.ite
                             | apply Keep.forL | split)
    | split
    | refine Keep.ofPair (by assumption) ?_

theorem State.srIn_keep {m : Bool} {s0 t : State} (h : Keep m s0 t) {x1} : Keep m s0 (State.srIn t x1) := by
  unfold State.srIn
  with_reducible repeat' first
    | assumption
    | apply State.modDchan_keep
    | apply State.stat_keep
    | apply State.chanSettle_keep

theorem State.srEntry_keep {m : Bool} {s0 t : State} (h : Keep m s0 t) {x1} : Keep m s0 (State.srEntry t x1) := by
  unfold State.srEntry
  with_reducible repeat' first
    | assumption
    | apply State.srIn_keep
    | apply State.waitTo_keep
    | apply Keep.ite
    | intro _
    | split

theorem State.srWake_keep {m : Bool} {s0 t : State} (h : Keep m s0 t) {x1} : Keep m s0 (State.srWake t x1) := by
  unfold State.srWake
  with_reducible repeat' first
    | assumption
    | apply State.waitTo_keep
    | apply State.put_keep
    | apply State.srExit_keep
    | intro _
    | (apply Keep.upd; first | assumption | apply State.waitTo_keep | apply State.put_keep | apply State.srExit_keep
                             | split)
    | split

theorem State.standbyEnds_keep {m : Bool} {s0 t : State} (h : Keep m s0 t) {x1} : Keep m s0 (State.standbyEnds t x1) := by
  unfold State.standbyEnds
  with_reducible repeat' first
    | assumption
    | apply State.modAudio_keep
    | apply State.put_keep
    | split

theorem State.ulpsExit_keep {m : Bool} {s0 t : State} (hm : m = true) (h : Keep m s0 t) : Keep m s0 (State.ulpsExit t) := by
  unfold State.ulpsExit
  with_reducible repeat' first
    | assumption
    | apply State.intBit_keep
    | apply State.linkState_keep
    | apply State.headWakes_keep hm
    | apply Keep.ite
    | apply Keep.forL
    | intro _
    | (apply Keep.upd; first | assumption | apply State.intBit_keep | apply State.linkState_keep
                             | apply State.headWakes_keep hm | apply Keep.ite | apply Keep.forL | split)
    | split
    | refine Keep.ofPair (by assumption) ?_

theorem State.standbyOut_keep {m : Bool} {s0 t : State} (hm : m = true) (h : Keep m s0 t) {x1} : Keep m s0 (State.standbyOut t x1) := by
  unfold State.standbyOut
  with_reducible repeat' first
    | assumption
    | apply State.put_keep
    | apply State.enter_keep
    | apply State.ulpsExit_keep hm
    | apply Keep.ite
    | apply Keep.forL
    | intro _
    | (apply Keep.upd; first | assumption | apply State.put_keep | apply State.enter_keep
                             | apply State.ulpsExit_keep hm | apply Keep.ite | apply Keep.forL | split)
    | split
    | refine Keep.ofPair (by assumption) ?_

theorem State.undoFrom_keep {m : Bool} {s0 t : State} (hm : m = true) (h : Keep m s0 t) {x1 x2} : Keep m s0 (State.undoFrom t x1 x2) := by
  unfold State.undoFrom
  with_reducible repeat' first
    | assumption
    | apply State.aportWake_keep
    | apply State.hptWake_keep
    | apply State.standbyOut_keep hm
    | apply Keep.ite
    | apply Keep.forL
    | apply Keep.forN
    | intro _
    | (apply Keep.upd; first | assumption | apply State.aportWake_keep | apply State.hptWake_keep
                             | apply State.standbyOut_keep hm | apply Keep.ite | apply Keep.forL | apply Keep.forN
                             | split)
    | split
    | refine Keep.ofPair (by assumption) ?_

theorem State.standbyStep_keep {m : Bool} {s0 t : State} (hm : m = true) (h : Keep m s0 t) : Keep m s0 (State.standbyStep t) := by
  unfold State.standbyStep
  with_reducible repeat' first
    | assumption
    | apply State.standbyEnds_keep
    | apply State.undoFrom_keep hm
    | apply State.enter_keep
    | apply State.put_keep
    | apply Keep.ite
    | apply Keep.forL
    | intro _
    | (apply Keep.upd; first | assumption | apply State.standbyEnds_keep | apply State.undoFrom_keep hm
                             | apply State.enter_keep | apply State.put_keep | apply Keep.ite | apply Keep.forL
                             | split)
    | split
    | refine Keep.ofPair (by assumption) ?_

end Sys2Proof.Machine
end

