-- ==== Sys2Proof/Laws/KeepG.lean ====
section
/-! SUPPORT. `Keep` for the operations of the model, callees first (continued). -/

set_option maxRecDepth 4000

namespace Sys2Proof.Machine

theorem State.storeLoaded_keep {m : Bool} {s0 t : State} (h : Keep m s0 t) : Keep m s0 (State.storeLoaded t) := by
  unfold State.storeLoaded
  dsimp only
  split
  · exact h
  · split <;> rename_i e
    · exact State.storeResult_keep (Keep.ofPair e (State.mread_keep (Keep.upd h)))
    · have hk := Keep.ofPair e (State.mread_keep (Keep.upd h))
      split
      · exact State.storeResult_keep hk
      · exact State.storeResult_keep (State.put_keep (Keep.upd hk))

theorem State.supplyGood_keep {m : Bool} {s0 t : State} (hm : m = true) (h : Keep m s0 t) : Keep m s0 (State.supplyGood t) := by
  unfold State.supplyGood
  try dsimp only
  with_reducible repeat' first
    | assumption
    | apply State.coldState_keep hm
    | apply State.noteReset_keep
    | apply State.put_keep
    | apply Keep.ite
    | apply Keep.forL
    | intro _
    | (apply Keep.upd; first | assumption | apply State.coldState_keep hm | apply State.noteReset_keep
                             | apply State.put_keep | apply Keep.ite | apply Keep.forL | split)
    | split
    | refine Keep.ofPair (by assumption) ?_

theorem State.supplyLost_keep {m : Bool} {s0 t : State} (hm : m = true) (h : Keep m s0 t) : Keep m s0 (State.supplyLost t) := by
  unfold State.supplyLost
  with_reducible repeat' first
    | assumption
    | apply State.otpCut_keep
    | apply State.coldState_keep hm
    | apply Keep.ite
    | apply Keep.forL
    | intro _
    | (apply Keep.upd; first | assumption | apply State.otpCut_keep | apply State.coldState_keep hm | apply Keep.ite
                             | apply Keep.forL | split)
    | split
    | refine Keep.ofPair (by assumption) ?_

theorem State.supplyUv_keep {m : Bool} {s0 t : State} (h : Keep m s0 t) {x1} : Keep m s0 (State.supplyUv t x1) := by
  unfold State.supplyUv
  with_reducible repeat' first
    | assumption
    | apply State.hit_keep
    | apply Keep.ite
    | intro _

theorem State.sweepFinish_keep {m : Bool} {s0 t : State} (h : Keep m s0 t) : Keep m s0 (State.sweepFinish t) := by
  unfold State.sweepFinish
  with_reducible repeat' first
    | assumption
    | apply State.put_keep
    | apply State.jrec_keep

theorem State.sweepDone_keep {m : Bool} {s0 t : State} (hm : m = true) (h : Keep m s0 t) {x1} : Keep m s0 (State.sweepDone t x1) := by
  unfold State.sweepDone
  dsimp only
  have hb : Keep m s0 (if t.swept x1 then t else
(t.dramDrop (fun a => a / 0x10000000 == x1)).setSwept x1) := by
    split
    · exact h
    · exact State.setSwept_keep (State.dramDrop_keep hm h)
  apply Keep.ite <;> intro _
  · exact h
  · refine Keep.ite (fun _ => State.sweepFinish_keep ?_) (fun _ => ?_) <;>
      exact State.sweepFill_keep (Keep.forL (fun _ _ hu => State.dramDrain_keep hm (State.dramEnq_keep hu)) _
        (State.modDc_keep hb))

theorem State.syncEdge_keep {m : Bool} {s0 t : State} (h : Keep m s0 t) {x1} : Keep m s0 (State.syncEdge t x1) := by
  unfold State.syncEdge
  with_reducible repeat' first
    | assumption
    | apply State.padExt_keep
    | apply State.modSync_keep
    | apply State.inc_keep
    | apply State.put64_keep
    | apply State.intBit_keep
    | apply Keep.ite
    | intro _
    | split

theorem State.syncFall_keep {m : Bool} {s0 t : State} (h : Keep m s0 t) : Keep m s0 (State.syncFall t) := by
  unfold State.syncFall
  with_reducible repeat' first
    | assumption
    | apply State.modSync_keep
    | apply State.waitTo_keep
    | split

theorem State.syncRise_keep {m : Bool} {s0 t : State} (h : Keep m s0 t) : Keep m s0 (State.syncRise t) := by
  unfold State.syncRise
  with_reducible repeat' first
    | assumption
    | apply State.waitTo_keep
    | apply State.modSync_keep
    | split

theorem State.thermal_keep {m : Bool} {s0 t : State} (h : Keep m s0 t) {x1} : Keep m s0 (State.thermal t x1) := by
  unfold State.thermal
  with_reducible repeat' first
    | assumption
    | apply State.waitTo_keep
    | apply State.put_keep
    | apply State.hit_keep
    | apply State.modPad_keep
    | apply Keep.forL
    | intro _
    | split

theorem State.tick_keep {m : Bool} {s0 t : State} (h : Keep m s0 t) : Keep m s0 (State.tick t) := by
  unfold State.tick
  with_reducible repeat' first
    | assumption
    | apply Keep.ite
    | intro _
    | (apply Keep.upd; first | assumption | apply Keep.ite)

theorem State.tileStore_keep {m : Bool} {s0 t : State} (hm : m = true) (h : Keep m s0 t) {x1 x2 x3 x4 x5 x6} : Keep m s0 (State.tileStore t x1 x2 x3 x4 x5 x6) := by
  unfold State.tileStore
  with_reducible repeat' first
    | assumption
    | apply State.gwrite_keep hm
    | apply Keep.ite
    | apply Keep.forL
    | intro _
    | (apply Keep.upd; first | assumption | apply State.gwrite_keep hm | apply Keep.ite | apply Keep.forL | split)
    | split
    | refine Keep.ofPair (by assumption) ?_

theorem State.tileAtt_keep {m : Bool} {s0 t : State} (hm : m = true) (h : Keep m s0 t) {x1 x2 x3 x4 x5 x6 x7} : Keep m s0 (State.tileAtt t x1 x2 x3 x4 x5 x6 x7).1 := by
  unfold State.tileAtt
  with_reducible repeat' first
    | assumption
    | apply State.greadN_keep hm
    | apply State.stat_keep
    | apply State.stat64_keep
    | apply State.tileStore_keep hm
    | apply State.gwrite_keep hm
    | apply Keep.ite
    | apply Keep.ite1
    | apply Keep.forL
    | intro _
    | (apply Keep.upd; first | assumption | apply State.greadN_keep hm | apply State.stat_keep
                             | apply State.stat64_keep | apply State.tileStore_keep hm | apply State.gwrite_keep hm
                             | apply Keep.ite | apply Keep.ite1 | apply Keep.forL | split)
    | split
    | refine Keep.ofPair (by assumption) ?_

theorem State.tileAtts_keep {m : Bool} {s0 t : State} (hm : m = true) (h : Keep m s0 t) {x1 x2 x3 x4 x5 x6 x7 x8} : Keep m s0 (State.tileAtts t x1 x2 x3 x4 x5 x6 x7 x8).1 := by
  induction x7 generalizing t x1 x2 x3 x4 x5 x6 x8 with
  | nil =>
    unfold State.tileAtts
    with_reducible repeat' first
      | assumption
      | apply ih
      | apply State.tileAtt_keep hm
      | apply Keep.ite
      | apply Keep.ite1
      | apply Keep.forL
      | intro _
      | (apply Keep.upd; first | assumption | apply ih | apply State.tileAtt_keep hm | apply Keep.ite
                               | apply Keep.ite1 | apply Keep.forL | split)
      | split
      | refine Keep.ofPair (by assumption) ?_
  | cons e l ih =>
    unfold State.tileAtts
    with_reducible repeat' first
      | assumption
      | apply ih
      | apply State.tileAtt_keep hm
      | apply Keep.ite
      | apply Keep.ite1
      | apply Keep.forL
      | intro _
      | (apply Keep.upd; first | assumption | apply ih | apply State.tileAtt_keep hm | apply Keep.ite
                               | apply Keep.ite1 | apply Keep.forL | split)
      | split
      | refine Keep.ofPair (by assumption) ?_

theorem State.tileResolve_keep {m : Bool} {s0 t : State} (hm : m = true) (h : Keep m s0 t) {x1 x2 x3 x4} : Keep m s0 (State.tileResolve t x1 x2 x3 x4) := by
  unfold State.tileResolve
  with_reducible repeat' first
    | assumption
    | apply State.shActs_keep hm
    | apply State.stat_keep
    | apply State.gcoreFree_keep
    | apply State.tileAtts_keep hm
    | apply State.stat64_keep
    | apply State.modJob_keep
    | apply State.passEnd_keep hm
    | apply State.deadlineEval_keep
    | apply State.coreStops_keep hm
    | apply Keep.ite
    | apply Keep.ite1
    | apply Keep.forL
    | intro _
    | (apply Keep.upd; first | assumption | apply State.shActs_keep hm | apply State.stat_keep
                             | apply State.gcoreFree_keep | apply State.tileAtts_keep hm | apply State.stat64_keep
                             | apply State.modJob_keep | apply State.passEnd_keep hm | apply State.deadlineEval_keep
                             | apply State.coreStops_keep hm | apply Keep.ite | apply Keep.ite1 | apply Keep.forL
                             | split)
    | split
    | refine Keep.ofPair (by assumption) ?_

theorem State.timeSend_keep {m : Bool} {s0 t : State} (h : Keep m s0 t) {x1} : Keep m s0 (State.timeSend t x1) := by
  unfold State.timeSend
  with_reducible repeat' first
    | assumption
    | apply State.waitTo_keep
    | apply State.modTport_keep
    | apply Keep.ite
    | intro _

theorem State.tmbIssue_keep {m : Bool} {s0 t : State} (h : Keep m s0 t) {x1} : Keep m s0 (State.tmbIssue t x1) := by
  unfold State.tmbIssue
  with_reducible repeat' first
    | assumption
    | apply State.askGrans_keep
    | apply Keep.forL
    | intro _

theorem State.tmbRetry_keep {m : Bool} {s0 t : State} (h : Keep m s0 t) {x1} : Keep m s0 (State.tmbRetry t x1) := by
  unfold State.tmbRetry
  with_reducible repeat' first
    | assumption
    | apply State.portRestart_keep
    | apply State.waitTo_keep
    | apply Keep.ite
    | intro _
    | split

theorem State.touchSlot_keep {m : Bool} {s0 t : State} (hm : m = true) (h : Keep m s0 t) {x1 x2} : Keep m s0 (State.touchSlot t x1 x2) := by
  unfold State.touchSlot
  with_reducible repeat' first
    | assumption
    | apply State.restartSlot_keep hm
    | apply State.frameSlot_keep
    | apply Keep.ite
    | apply Keep.forL
    | intro _
    | (apply Keep.upd; first | assumption | apply State.restartSlot_keep hm | apply State.frameSlot_keep
                             | apply Keep.ite | apply Keep.forL | split)
    | split
    | refine Keep.ofPair (by assumption) ?_

theorem State.trainDone_keep {m : Bool} {s0 t : State} (h : Keep m s0 t) {x1 x2} : Keep m s0 (State.trainDone t x1 x2) := by
  unfold State.trainDone
  with_reducible repeat' first
    | assumption
    | apply State.intBit_keep
    | apply State.put_keep
    | apply State.modDchan_keep
    | apply State.hit_keep
    | intro _
    | split

theorem State.undoStep_keep {m : Bool} {s0 t : State} (hm : m = true) (h : Keep m s0 t) : Keep m s0 (State.undoStep t) := by
  unfold State.undoStep
  with_reducible repeat' first
    | assumption
    | apply State.undoFrom_keep hm
    | apply State.put_keep
    | apply State.standbyOut_keep hm
    | apply Keep.ite
    | apply Keep.forL
    | intro _
    | (apply Keep.upd; first | assumption | apply State.undoFrom_keep hm | apply State.put_keep
                             | apply State.standbyOut_keep hm | apply Keep.ite | apply Keep.forL | split)
    | split
    | refine Keep.ofPair (by assumption) ?_

theorem State.unmask_keep {m : Bool} {s0 t : State} (h : Keep m s0 t) : Keep m s0 (State.unmask t) := by
  unfold State.unmask
  with_reducible repeat' first
    | assumption
    | apply State.put_keep
    | apply Keep.ite
    | apply Keep.forN
    | intro _
    | split

theorem State.unmaskVec_keep {m : Bool} {s0 t : State} (h : Keep m s0 t) {x1 x2 x3} : Keep m s0 (State.unmaskVec t x1 x2 x3) := by
  unfold State.unmaskVec
  with_reducible repeat' first
    | assumption
    | apply State.msixRetry_keep
    | apply State.setVec_keep
    | apply Keep.ite
    | intro _

theorem State.vbakOff_keep {m : Bool} {s0 t : State} (h : Keep m s0 t) : Keep m s0 (State.vbakOff t) := by
  unfold State.vbakOff
  try dsimp only
  with_reducible repeat' first
    | assumption
    | apply Keep.ite
    | intro _
    | (apply Keep.upd; first | assumption | apply Keep.ite)

theorem State.vbakOn_keep {m : Bool} {s0 t : State} (h : Keep m s0 t) : Keep m s0 (State.vbakOn t) := by
  unfold State.vbakOn
  try dsimp only
  with_reducible repeat' first
    | assumption
    | apply Keep.ite
    | intro _
    | (apply Keep.upd; first | assumption | apply Keep.ite)

theorem State.wakeBy_keep {m : Bool} {s0 t : State} (h : Keep m s0 t) {x1} : Keep m s0 (State.wakeBy t x1) := by
  unfold State.wakeBy
  with_reducible repeat' first
    | assumption
    | apply State.wake_keep
    | split

theorem State.wakeEdge_keep {m : Bool} {s0 t : State} (h : Keep m s0 t) {x1 x2} : Keep m s0 (State.wakeEdge t x1 x2) := by
  unfold State.wakeEdge
  with_reducible repeat' first
    | assumption
    | apply State.padExt_keep
    | apply State.wake_keep
    | apply Keep.ite
    | intro _

theorem State.wakeupEnd_keep {m : Bool} {s0 t : State} (hm : m = true) (h : Keep m s0 t) {x1} : Keep m s0 (State.wakeupEnd t x1) := by
  unfold State.wakeupEnd
  with_reducible repeat' first
    | assumption
    | apply State.waitTo_keep
    | apply State.headWakes_keep hm
    | apply Keep.ite
    | apply Keep.forL
    | intro _
    | (apply Keep.upd; first | assumption | apply State.waitTo_keep | apply State.headWakes_keep hm | apply Keep.ite
                             | apply Keep.forL | split)
    | split
    | refine Keep.ofPair (by assumption) ?_

theorem State.windowEnd_keep {m : Bool} {s0 t : State} (h : Keep m s0 t) : Keep m s0 (State.windowEnd t) := by
  unfold State.windowEnd
  with_reducible repeat' first
    | assumption
    | apply State.waitTo_keep
    | apply State.unmask_keep
    | apply State.endB_keep
    | split

theorem State.writeOn_keep {m : Bool} {s0 t : State} (hm : m = true) (h : Keep m s0 t) {x0 x2 x3 x4 x5} : Keep m s0 (State.writeOn x0 t x2 x3 x4 x5) := by
  unfold State.writeOn
  with_reducible repeat' first
    | assumption
    | apply State.cmdWrite_keep hm
    | apply Keep.ite
    | apply Keep.forL
    | intro _
    | (apply Keep.upd; first | assumption | apply State.cmdWrite_keep hm | apply Keep.ite | apply Keep.forL | split)
    | split
    | refine Keep.ofPair (by assumption) ?_

theorem State.xspiDone_keep {m : Bool} {s0 t : State} (h : Keep m s0 t) {x1} : Keep m s0 (State.xspiDone t x1) := by
  unfold State.xspiDone
  with_reducible repeat' first
    | assumption
    | apply State.modXspi_keep
    | apply State.intBit_keep
    | apply State.stat_keep
    | apply State.put_keep
    | split

end Sys2Proof.Machine
end

