-- ==== Sys2Proof/Laws/KeepExec.lean ====
section
/-! SUPPORT. `Keep` for the meaning of every command; a command with `hm` may write memory. -/

namespace Sys2Proof.Machine

/-- Every next state of an outcome is related to s by `Keep`. -/
def KeepOut (m : Bool) (s : State) (o : Host.Outcome State Fault Refusal) : Prop := ∀ t, o = .next t → Keep m s t

theorem KeepOut.next {m : Bool} {s t : State} (h : Keep m s t) : KeepOut m s (.next t) := by
  intro u e; cases e; exact h

theorem execMainSupplyGood_keep {m : Bool} (hm : m = true) {s : State} : KeepOut m s (execMainSupplyGood s) :=
  KeepOut.next (State.supplyGood_keep hm (Keep.refl s))

theorem execVbakPresent_keep {m : Bool} {s : State} : KeepOut m s (execVbakPresent s) :=
  KeepOut.next (State.vbakOn_keep (Keep.refl s))

theorem execMainSupplyLoss_keep {m : Bool} (hm : m = true) {s : State} : KeepOut m s (execMainSupplyLoss s) :=
  KeepOut.next (State.supplyLost_keep hm (Keep.refl s))

theorem execVbakLoss_keep {m : Bool} {s : State} : KeepOut m s (execVbakLoss s) :=
  KeepOut.next (State.vbakOff_keep (Keep.refl s))

theorem execSupplyUv_keep {m : Bool} {s : State} {x0} : KeepOut m s (execSupplyUv x0 s) :=
  KeepOut.next (State.supplyUv_keep (Keep.refl s))

theorem execModeRequest_keep {m : Bool} (hm : m = true) {s : State} {x0 x1} : KeepOut m s (execModeRequest x0 x1 s) :=
  KeepOut.next (State.cmdWrite_keep hm (Keep.refl s))

theorem execModeRequestCheckDone_keep {m : Bool} {s : State} : KeepOut m s (execModeRequestCheckDone s) :=
  KeepOut.next (State.modeDone_keep (Keep.refl s))

theorem execStandbyEntryStepComplete_keep {m : Bool} (hm : m = true) {s : State} : KeepOut m s (execStandbyEntryStepComplete s) :=
  KeepOut.next (State.standbyStep_keep hm (Keep.refl s))

theorem execWakeEvent_keep {m : Bool} {s : State} {x0} : KeepOut m s (execWakeEvent x0 s) :=
  KeepOut.next (State.wakeBy_keep (Keep.refl s))

theorem execStandbyUndoStepComplete_keep {m : Bool} (hm : m = true) {s : State} : KeepOut m s (execStandbyUndoStepComplete s) :=
  KeepOut.next (State.undoStep_keep hm (Keep.refl s))

theorem execResponseDiscard_keep {m : Bool} {s : State} {x0} : KeepOut m s (execResponseDiscard x0 s) :=
  KeepOut.next (State.discard_keep (Keep.refl s))

theorem execPllLock_keep {m : Bool} {s : State} : KeepOut m s (execPllLock s) :=
  KeepOut.next (State.pllLock_keep (Keep.refl s))

theorem execPllLockRetry_keep {m : Bool} {s : State} : KeepOut m s (execPllLockRetry s) := KeepOut.next (Keep.refl s)

theorem execRootLoss_keep {m : Bool} (hm : m = true) {s : State} : KeepOut m s (execRootLoss s) :=
  KeepOut.next (State.rootLoss_keep hm (Keep.refl s))

theorem execMonOscLoss_keep {m : Bool} {s : State} : KeepOut m s (execMonOscLoss s) :=
  KeepOut.next (State.monLoss_keep (Keep.refl s))

theorem execPllUnlock_keep {m : Bool} {s : State} : KeepOut m s (execPllUnlock s) :=
  KeepOut.next (State.pllUnlock_keep (Keep.refl s))

theorem execReleaseClockOk_keep {m : Bool} {s : State} {x0} : KeepOut m s (execReleaseClockOk x0 s) :=
  KeepOut.next (State.clockSeen_keep (Keep.refl s))

theorem execReleaseAbandoned_keep {m : Bool} {s : State} {x0} : KeepOut m s (execReleaseAbandoned x0 s) :=
  KeepOut.next (State.clockLate_keep (Keep.refl s))

theorem execDomainGate_keep {m : Bool} (hm : m = true) {s : State} {x0 x1} : KeepOut m s (execDomainGate x0 x1 s) :=
  KeepOut.next (State.cmdWrite_keep hm (Keep.refl s))

theorem execDomainUngate_keep {m : Bool} (hm : m = true) {s : State} {x0 x1} : KeepOut m s (execDomainUngate x0 x1 s) :=
  KeepOut.next (State.cmdWrite_keep hm (Keep.refl s))

theorem execGateCheckDone_keep {m : Bool} {s : State} : KeepOut m s (execGateCheckDone s) :=
  KeepOut.next (State.gateDone_keep (Keep.refl s))

theorem execThymeLoRead_keep {m : Bool} {s : State} {x0} : KeepOut m s (execThymeLoRead x0 s) :=
  KeepOut.next (State.cmdRead_keep (Keep.refl s))

theorem execLoSnapshotRead_keep {m : Bool} {s : State} {x0 x1} : KeepOut m s (execLoSnapshotRead x0 x1 s) := by
  cases x0 <;> apply KeepOut.next
  repeat' first | apply State.cmdRead_keep | apply State.fnRead_keep | exact Keep.refl s | split | intro _

theorem execSlewTick_keep {m : Bool} {s : State} : KeepOut m s (execSlewTick s) :=
  KeepOut.next (State.slewTick_keep (Keep.refl s))

theorem execPeriodBoundary_keep {m : Bool} {s : State} {x0} : KeepOut m s (execPeriodBoundary x0 s) :=
  KeepOut.next (State.periodBoundary_keep (Keep.refl s))

theorem execPeriodLatchUpdate_keep {m : Bool} {s : State} {x0} : KeepOut m s (execPeriodLatchUpdate x0 s) :=
  KeepOut.next (State.periodLatch_keep (Keep.refl s))

theorem execAccountingBoundary_keep {m : Bool} (hm : m = true) {s : State} : KeepOut m s (execAccountingBoundary s) :=
  KeepOut.next (State.acctBoundary_keep hm (Keep.refl s))

theorem execSyncInEdge_keep {m : Bool} {s : State} {x0} : KeepOut m s (execSyncInEdge x0 s) :=
  KeepOut.next (State.syncEdge_keep (Keep.refl s))

theorem execSyncOutRise_keep {m : Bool} {s : State} : KeepOut m s (execSyncOutRise s) :=
  KeepOut.next (State.syncRise_keep (Keep.refl s))

theorem execSyncOutFall_keep {m : Bool} {s : State} : KeepOut m s (execSyncOutFall s) :=
  KeepOut.next (State.syncFall_keep (Keep.refl s))

theorem execRegisterWrite_keep {m : Bool} (hm : m = true) {s : State} {x0 x1 x2 x3} : KeepOut m s (execRegisterWrite x0 x1 x2 x3 s) := by
  cases x0 <;> apply KeepOut.next
  repeat' first | apply State.regWrite_keep hm | apply State.fnWrite_keep | exact State.regWrite_keep hm (Keep.refl s) | exact Keep.refl s | split | intro _

theorem execOwnerWrite_keep {m : Bool} (hm : m = true) {s : State} {x0 x1 x2} : KeepOut m s (execOwnerWrite x0 x1 x2 s) :=
  KeepOut.next (State.cmdWrite_keep hm (Keep.refl s))

theorem execAutoCommitWrite_keep {m : Bool} (hm : m = true) {s : State} {x0 x1 x2} : KeepOut m s (execAutoCommitWrite x0 x1 x2 s) :=
  KeepOut.next (State.cmdCtrl_keep hm (Keep.refl s))

theorem execCommitOnFenceWrite_keep {m : Bool} (hm : m = true) {s : State} {x0 x1 x2} : KeepOut m s (execCommitOnFenceWrite x0 x1 x2 s) :=
  KeepOut.next (State.cmdCtrl_keep hm (Keep.refl s))

theorem execPageQuiesce_keep {m : Bool} (hm : m = true) {s : State} {x0 x1 x2} : KeepOut m s (execPageQuiesce x0 x1 x2 s) :=
  KeepOut.next (State.cmdCtrl_keep hm (Keep.refl s))

theorem execEnable_keep {m : Bool} (hm : m = true) {s : State} {x0 x1} : KeepOut m s (execEnable x0 x1 s) :=
  KeepOut.next (State.cmdCtrl_keep hm (Keep.refl s))

theorem execDisable_keep {m : Bool} (hm : m = true) {s : State} {x0 x1} : KeepOut m s (execDisable x0 x1 s) :=
  KeepOut.next (State.cmdCtrl_keep hm (Keep.refl s))

theorem execCommit_keep {m : Bool} (hm : m = true) {s : State} {x0 x1} : KeepOut m s (execCommit x0 x1 s) :=
  KeepOut.next (State.cmdCtrl_keep hm (Keep.refl s))

theorem execEnableCheckDone_keep {m : Bool} (hm : m = true) {s : State} {x0} : KeepOut m s (execEnableCheckDone x0 s) :=
  KeepOut.next (State.enableDone_keep hm (Keep.refl s))

theorem execCommitCheckDone_keep {m : Bool} (hm : m = true) {s : State} {x0} : KeepOut m s (execCommitCheckDone x0 s) :=
  KeepOut.next (State.commitDone_keep hm (Keep.refl s))

theorem execDisableDrainDone_keep {m : Bool} {s : State} {x0} : KeepOut m s (execDisableDrainDone x0 s) :=
  KeepOut.next (State.drainDone_keep (Keep.refl s))

theorem execIntStatusClear_keep {m : Bool} (hm : m = true) {s : State} {x0 x1 x2} : KeepOut m s (execIntStatusClear x0 x1 x2 s) :=
  KeepOut.next (State.cmdWrite_keep hm (Keep.refl s))

theorem execIntForce_keep {m : Bool} (hm : m = true) {s : State} {x0 x1 x2} : KeepOut m s (execIntForce x0 x1 x2 s) :=
  KeepOut.next (State.cmdWrite_keep hm (Keep.refl s))

theorem execIrqDelivery_keep {m : Bool} {s : State} {x0} : KeepOut m s (execIrqDelivery x0 s) :=
  KeepOut.next (State.irqDeliver_keep (Keep.refl s))

theorem execMsixUnmask_keep {m : Bool} {s : State} {x0 x1 x2} : KeepOut m s (execMsixUnmask x0 x1 x2 s) :=
  KeepOut.next (State.unmaskVec_keep (Keep.refl s))

theorem execIrqRouteWrite_keep {m : Bool} (hm : m = true) {s : State} {x0 x1} : KeepOut m s (execIrqRouteWrite x0 x1 s) :=
  KeepOut.next (State.cmdWrite_keep hm (Keep.refl s))

theorem execIrqRouteCheckDone_keep {m : Bool} {s : State} : KeepOut m s (execIrqRouteCheckDone s) :=
  KeepOut.next (State.routeDone_keep (Keep.refl s))

theorem execCoefDataWrite_keep {m : Bool} (hm : m = true) {s : State} {x0 x1 x2} : KeepOut m s (execCoefDataWrite x0 x1 x2 s) :=
  KeepOut.next (State.writeOn_keep hm (Keep.refl s))

theorem execCoefDataRead_keep {m : Bool} {s : State} {x0 x1} : KeepOut m s (execCoefDataRead x0 x1 s) :=
  KeepOut.next (State.readOn_keep (Keep.refl s))

theorem execLutDataWrite_keep {m : Bool} (hm : m = true) {s : State} {x0 x1 x2} : KeepOut m s (execLutDataWrite x0 x1 x2 s) :=
  KeepOut.next (State.writeOn_keep hm (Keep.refl s))

theorem execLutDataRead_keep {m : Bool} {s : State} {x0 x1} : KeepOut m s (execLutDataRead x0 x1 s) :=
  KeepOut.next (State.readOn_keep (Keep.refl s))

theorem execReflexSetReq_keep {m : Bool} (hm : m = true) {s : State} {x0 x1} : KeepOut m s (execReflexSetReq x0 x1 s) :=
  KeepOut.next (State.reflexReq_keep hm (Keep.refl s))

theorem execReflexClearReq_keep {m : Bool} (hm : m = true) {s : State} {x0 x1} : KeepOut m s (execReflexClearReq x0 x1 s) :=
  KeepOut.next (State.reflexReq_keep hm (Keep.refl s))

theorem execHeadStart_keep {m : Bool} (hm : m = true) {s : State} {x0} : KeepOut m s (execHeadStart x0 s) := by
  apply KeepOut.next
  repeat' first | apply State.latSend_keep | apply State.headBegins_keep hm | exact Keep.refl s | split | intro _

theorem execSlackPoint_keep {m : Bool} (hm : m = true) {s : State} {x0} : KeepOut m s (execSlackPoint x0 s) := by
  apply KeepOut.next
  repeat' first | apply State.latSend_keep | apply State.slackPoint_keep hm | exact Keep.refl s | split | intro _

theorem execHoldCmdCapture_keep {m : Bool} (hm : m = true) {s : State} {x0 x1} : KeepOut m s (execHoldCmdCapture x0 x1 s) :=
  KeepOut.next (State.cmdWrite_keep hm (Keep.refl s))

theorem execHoldCmdExit_keep {m : Bool} (hm : m = true) {s : State} {x0 x1} : KeepOut m s (execHoldCmdExit x0 x1 s) :=
  KeepOut.next (State.cmdWrite_keep hm (Keep.refl s))

theorem execLineSlotStart_keep {m : Bool} (hm : m = true) {s : State} {x0 x1 x2} : KeepOut m s (execLineSlotStart x0 x1 x2 s) := by
  apply KeepOut.next
  repeat' first | apply State.latSend_keep | apply State.tmbIssue_keep | apply State.lineSlot_keep hm | exact Keep.refl s | split | intro _

theorem execLayerFetchResponse_keep {m : Bool} {s : State} {x0 x1 x2 x3 x4} : KeepOut m s (execLayerFetchResponse x0 x1 x2 x3 x4 s) :=
  KeepOut.next (State.layerFetch_keep (Keep.refl s))

theorem execBufferRelease_keep {m : Bool} {s : State} {x0 x1} : KeepOut m s (execBufferRelease x0 x1 s) :=
  KeepOut.next (State.releaseDue_keep (Keep.refl s))

theorem execDphyClockLoss_keep {m : Bool} {s : State} {x0} : KeepOut m s (execDphyClockLoss x0 s) :=
  KeepOut.next (State.dphyLoss_keep (Keep.refl s))

theorem execTidepoolRegionClearDone_keep {m : Bool} (hm : m = true) {s : State} {x0} : KeepOut m s (execTidepoolRegionClearDone x0 s) :=
  KeepOut.next (State.regionCleared_keep hm (Keep.refl s))

theorem execCvuFeedStart_keep {m : Bool} (hm : m = true) {s : State} {x0 x1} : KeepOut m s (execCvuFeedStart x0 x1 s) :=
  KeepOut.next (State.cvuFeed_keep hm (Keep.refl s))

theorem execCvuFeedData_keep {m : Bool} (hm : m = true) {s : State} {x0 x1 x2} : KeepOut m s (execCvuFeedData x0 x1 x2 s) :=
  KeepOut.next (State.cmdWrite_keep hm (Keep.refl s))

theorem execCvuFeedEnd_keep {m : Bool} (hm : m = true) {s : State} {x0 x1} : KeepOut m s (execCvuFeedEnd x0 x1 s) :=
  KeepOut.next (State.cvuFeed_keep hm (Keep.refl s))

theorem execJobDescriptorFetched_keep {m : Bool} (hm : m = true) {s : State} {x0} : KeepOut m s (execJobDescriptorFetched x0 s) :=
  KeepOut.next (State.jobFetched_keep hm (Keep.refl s))

theorem execJobReady_keep {m : Bool} (hm : m = true) {s : State} {x0} : KeepOut m s (execJobReady x0 s) :=
  KeepOut.next (State.jobReady_keep hm (Keep.refl s))

theorem execCoreDispatch_keep {m : Bool} (hm : m = true) {s : State} : KeepOut m s (execCoreDispatch s) :=
  KeepOut.next (State.dispatch_keep hm (Keep.refl s))

theorem execDrawValidate_keep {m : Bool} (hm : m = true) {s : State} {x0 x1} : KeepOut m s (execDrawValidate x0 x1 s) :=
  KeepOut.next (State.drawNext_keep hm (Keep.refl s))

theorem execBinHeapExhausted_keep {m : Bool} (hm : m = true) {s : State} {x0 x1} : KeepOut m s (execBinHeapExhausted x0 x1 s) :=
  KeepOut.next (State.binFull_keep hm (Keep.refl s))

theorem execTileResolve_keep {m : Bool} (hm : m = true) {s : State} {x0 x1 x2 x3} : KeepOut m s (execTileResolve x0 x1 x2 x3 s) :=
  KeepOut.next (State.tileResolve_keep hm (Keep.refl s))

theorem execJobEnd_keep {m : Bool} (hm : m = true) {s : State} {x0} : KeepOut m s (execJobEnd x0 s) :=
  KeepOut.next (State.jobEnd_keep hm (Keep.refl s))

theorem execCoreHang_keep {m : Bool} (hm : m = true) {s : State} {x0} : KeepOut m s (execCoreHang x0 s) :=
  KeepOut.next (State.coreHang_keep hm (Keep.refl s))

theorem execL2FlushAll_keep {m : Bool} (hm : m = true) {s : State} {x0} : KeepOut m s (execL2FlushAll x0 s) :=
  KeepOut.next (State.cmdWrite_keep hm (Keep.refl s))

theorem execL2FlushDone_keep {m : Bool} (hm : m = true) {s : State} : KeepOut m s (execL2FlushDone s) :=
  KeepOut.next (State.l2FlushDone_keep hm (Keep.refl s))

theorem execDeadlineEval_keep {m : Bool} {s : State} {x0} : KeepOut m s (execDeadlineEval x0 s) :=
  KeepOut.next (State.deadlineDue_keep (Keep.refl s))

theorem execPreemptSaveDone_keep {m : Bool} (hm : m = true) {s : State} {x0 x1} : KeepOut m s (execPreemptSaveDone x0 x1 s) :=
  KeepOut.next (State.saveDone_keep hm (Keep.refl s))

theorem execPreemptTimeout_keep {m : Bool} {s : State} {x0} : KeepOut m s (execPreemptTimeout x0 s) :=
  KeepOut.next (State.preemptLate_keep (Keep.refl s))

theorem execDeadlineMiss_keep {m : Bool} {s : State} {x0} : KeepOut m s (execDeadlineMiss x0 s) :=
  KeepOut.next (State.deadlineMiss_keep (Keep.refl s))

theorem execCostFlush_keep {m : Bool} (hm : m = true) {s : State} {x0 x1} : KeepOut m s (execCostFlush x0 x1 s) :=
  KeepOut.next (State.cmdWrite_keep hm (Keep.refl s))

theorem execCostFlushAll_keep {m : Bool} (hm : m = true) {s : State} {x0} : KeepOut m s (execCostFlushAll x0 s) :=
  KeepOut.next (State.cmdWrite_keep hm (Keep.refl s))

theorem execTouchRestart_keep {m : Bool} (hm : m = true) {s : State} {x0 x1} : KeepOut m s (execTouchRestart x0 x1 s) :=
  KeepOut.next (State.restartRun_keep hm (Keep.refl s))

theorem execTouchRestartRetry_keep {m : Bool} {s : State} {x0} : KeepOut m s (execTouchRestartRetry x0 s) :=
  KeepOut.next (State.restartRetry_keep (Keep.refl s))

theorem execTouchPanelRestart_keep {m : Bool} (hm : m = true) {s : State} {x0 x1} : KeepOut m s (execTouchPanelRestart x0 x1 s) :=
  KeepOut.next (State.cmdWrite_keep hm (Keep.refl s))

theorem execTouchReacquire_keep {m : Bool} (hm : m = true) {s : State} {x0 x1} : KeepOut m s (execTouchReacquire x0 x1 s) :=
  KeepOut.next (State.cmdWrite_keep hm (Keep.refl s))

theorem execTouchDozeCmd_keep {m : Bool} (hm : m = true) {s : State} {x0 x1} : KeepOut m s (execTouchDozeCmd x0 x1 s) :=
  KeepOut.next (State.cmdWrite_keep hm (Keep.refl s))

theorem execTouchSlot_keep {m : Bool} (hm : m = true) {s : State} {x0 x1} : KeepOut m s (execTouchSlot x0 x1 s) :=
  KeepOut.next (State.touchSlot_keep hm (Keep.refl s))

theorem execTouchFrameStart_keep {m : Bool} (hm : m = true) {s : State} {x0} : KeepOut m s (execTouchFrameStart x0 s) :=
  KeepOut.next (State.frameStart_keep hm (Keep.refl s))

theorem execTouchFrameProcessed_keep {m : Bool} (hm : m = true) {s : State} {x0} : KeepOut m s (execTouchFrameProcessed x0 s) :=
  KeepOut.next (State.frameProcessed_keep hm (Keep.refl s))

theorem execTouchDozeKeepalive_keep {m : Bool} {s : State} {x0 x1} : KeepOut m s (execTouchDozeKeepalive x0 x1 s) :=
  KeepOut.next (State.keepalive_keep (Keep.refl s))

theorem execHapticFrame_keep {m : Bool} {s : State} {x0 x1} : KeepOut m s (execHapticFrame x0 x1 s) :=
  KeepOut.next (State.hapFrame_keep (Keep.refl s))

theorem execHapticPortRestart_keep {m : Bool} {s : State} {x0 x1} : KeepOut m s (execHapticPortRestart x0 x1 s) :=
  KeepOut.next (State.hptRun_keep (Keep.refl s))

theorem execHapticPortRestartCmd_keep {m : Bool} (hm : m = true) {s : State} {x0 x1} : KeepOut m s (execHapticPortRestartCmd x0 x1 s) :=
  KeepOut.next (State.cmdWrite_keep hm (Keep.refl s))

theorem execHapticRestartRetry_keep {m : Bool} {s : State} {x0} : KeepOut m s (execHapticRestartRetry x0 s) :=
  KeepOut.next (State.hptRetry_keep (Keep.refl s))

theorem execEffectLoad_keep {m : Bool} (hm : m = true) {s : State} {x0} : KeepOut m s (execEffectLoad x0 s) :=
  KeepOut.next (State.cmdWrite_keep hm (Keep.refl s))

theorem execEffectLoadDone_keep {m : Bool} {s : State} : KeepOut m s (execEffectLoadDone s) :=
  KeepOut.next (State.storeLoaded_keep (Keep.refl s))

theorem execEffectFree_keep {m : Bool} (hm : m = true) {s : State} {x0} : KeepOut m s (execEffectFree x0 s) :=
  KeepOut.next (State.cmdWrite_keep hm (Keep.refl s))

theorem execHapticTriggerGo_keep {m : Bool} (hm : m = true) {s : State} {x0 x1 x2} : KeepOut m s (execHapticTriggerGo x0 x1 x2 s) :=
  KeepOut.next (State.cmdWrite_keep hm (Keep.refl s))

theorem execHapticTriggerStop_keep {m : Bool} (hm : m = true) {s : State} {x0 x1} : KeepOut m s (execHapticTriggerStop x0 x1 s) :=
  KeepOut.next (State.cmdWrite_keep hm (Keep.refl s))

theorem execHapFaultPin_keep {m : Bool} {s : State} {x0 x1} : KeepOut m s (execHapFaultPin x0 x1 s) :=
  KeepOut.next (State.faultPin_keep (Keep.refl s))

theorem execHapticFaultClear_keep {m : Bool} (hm : m = true) {s : State} {x0 x1} : KeepOut m s (execHapticFaultClear x0 x1 s) :=
  KeepOut.next (State.cmdWrite_keep hm (Keep.refl s))

theorem execReflexEvaluate_keep {m : Bool} {s : State} : KeepOut m s (execReflexEvaluate s) :=
  KeepOut.next (State.reflexEvaluate_keep (Keep.refl s))

theorem execSampleBoundary_keep {m : Bool} (hm : m = true) {s : State} {x0} : KeepOut m s (execSampleBoundary x0 s) :=
  KeepOut.next (State.sampleBoundary_keep hm (Keep.refl s))

theorem execAudioBlockMarker_keep {m : Bool} (hm : m = true) {s : State} : KeepOut m s (execAudioBlockMarker s) :=
  KeepOut.next (State.blockMarker_keep hm (Keep.refl s))

theorem execAudPortFrame_keep {m : Bool} {s : State} {x0 x1} : KeepOut m s (execAudPortFrame x0 x1 s) :=
  KeepOut.next (State.masterFrame_keep (Keep.refl s))

theorem execAudFsEdge_keep {m : Bool} {s : State} {x0 x1 x2} : KeepOut m s (execAudFsEdge x0 x1 x2 s) :=
  KeepOut.next (State.fsEdge_keep (Keep.refl s))

theorem execAudClockLoss_keep {m : Bool} {s : State} {x0} : KeepOut m s (execAudClockLoss x0 s) :=
  KeepOut.next (State.clockLoss_keep (Keep.refl s))

theorem execBankLoad_keep {m : Bool} (hm : m = true) {s : State} {x0} : KeepOut m s (execBankLoad x0 s) :=
  KeepOut.next (State.cmdWrite_keep hm (Keep.refl s))

theorem execBankLoadDone_keep {m : Bool} {s : State} : KeepOut m s (execBankLoadDone s) :=
  KeepOut.next (State.bankLoaded_keep (Keep.refl s))

theorem execBankInvalidate_keep {m : Bool} (hm : m = true) {s : State} {x0} : KeepOut m s (execBankInvalidate x0 s) :=
  KeepOut.next (State.cmdWrite_keep hm (Keep.refl s))

theorem execFadeTimeout_keep {m : Bool} (hm : m = true) {s : State} : KeepOut m s (execFadeTimeout s) :=
  KeepOut.next (State.fadeTimeout_keep hm (Keep.refl s))

theorem execPlayerPreloadDone_keep {m : Bool} {s : State} {x0} : KeepOut m s (execPlayerPreloadDone x0 s) :=
  KeepOut.next (State.preloaded_keep (Keep.refl s))

theorem execTrigFire_keep {m : Bool} (hm : m = true) {s : State} {x0 x1} : KeepOut m s (execTrigFire x0 x1 s) :=
  KeepOut.next (State.cmdWrite_keep hm (Keep.refl s))

theorem execAsrcCoefRead_keep {m : Bool} {s : State} {x0} : KeepOut m s (execAsrcCoefRead x0 s) :=
  KeepOut.next (State.cmdRead_keep (Keep.refl s))

theorem execDramRequest_keep {m : Bool} (hm : m = true) {s : State} {x0 x1 x2 x3 x4 x5 x6 x7} : KeepOut m s (execDramRequest x0 x1 x2 x3 x4 x5 x6 x7 s) :=
  KeepOut.next (State.dramIssue_keep hm (Keep.refl s))

theorem execDramReadData_keep {m : Bool} (hm : m = true) {s : State} {x0 x1} : KeepOut m s (execDramReadData x0 x1 s) :=
  KeepOut.next (State.dramNext_keep hm (Keep.refl s))

theorem execAgePromotion_keep {m : Bool} {s : State} {x0} : KeepOut m s (execAgePromotion x0 s) :=
  KeepOut.next (State.agePromote_keep (Keep.refl s))

theorem execDramRefresh_keep {m : Bool} {s : State} {x0 x1 x2 x3} : KeepOut m s (execDramRefresh x0 x1 x2 x3 s) :=
  KeepOut.next (State.refresh_keep (Keep.refl s))

theorem execMr4Read_keep {m : Bool} {s : State} {x0 x1} : KeepOut m s (execMr4Read x0 x1 s) :=
  KeepOut.next (State.mr4_keep (Keep.refl s))

theorem execPowerDownEntry_keep {m : Bool} {s : State} {x0 x1} : KeepOut m s (execPowerDownEntry x0 x1 s) :=
  KeepOut.next (State.powerDown_keep (Keep.refl s))

theorem execSelfRefreshEntry_keep {m : Bool} {s : State} {x0} : KeepOut m s (execSelfRefreshEntry x0 s) :=
  KeepOut.next (State.srEntry_keep (Keep.refl s))

theorem execSelfRefreshExit_keep {m : Bool} {s : State} {x0} : KeepOut m s (execSelfRefreshExit x0 s) :=
  KeepOut.next (State.srWake_keep (Keep.refl s))

theorem execOscTracking_keep {m : Bool} {s : State} {x0} : KeepOut m s (execOscTracking x0 s) :=
  KeepOut.next (State.oscTrack_keep (Keep.refl s))

theorem execDramTrainingDone_keep {m : Bool} {s : State} {x0 x1} : KeepOut m s (execDramTrainingDone x0 x1 s) :=
  KeepOut.next (State.trainDone_keep (Keep.refl s))

theorem execSweepGranuleDone_keep {m : Bool} (hm : m = true) {s : State} {x0} : KeepOut m s (execSweepGranuleDone x0 s) :=
  KeepOut.next (State.sweepDone_keep hm (Keep.refl s))

theorem execDramCmdError_keep {m : Bool} (hm : m = true) {s : State} {x0 x1 x2} : KeepOut m s (execDramCmdError x0 x1 x2 s) :=
  KeepOut.next (State.dramCmdError_keep hm (Keep.refl s))

theorem execEccInject_keep {m : Bool} (hm : m = true) {s : State} {x0 x1} : KeepOut m s (execEccInject x0 x1 s) :=
  KeepOut.next (State.cmdWrite_keep hm (Keep.refl s))

theorem execConversionSweepDone_keep {m : Bool} (hm : m = true) {s : State} : KeepOut m s (execConversionSweepDone s) :=
  KeepOut.next (State.convEnd_keep hm (Keep.refl s))

theorem execAuditRoundStart_keep {m : Bool} {s : State} : KeepOut m s (execAuditRoundStart s) :=
  KeepOut.next (State.auditDue_keep (Keep.refl s))

theorem execAuditPassDone_keep {m : Bool} (hm : m = true) {s : State} : KeepOut m s (execAuditPassDone s) :=
  KeepOut.next (State.auditPass_keep hm (Keep.refl s))

theorem execKScrubStep_keep {m : Bool} {s : State} {x0} : KeepOut m s (execKScrubStep x0 s) :=
  KeepOut.next (State.kScrub_keep (Keep.refl s))

theorem execDramScrubStep_keep {m : Bool} (hm : m = true) {s : State} : KeepOut m s (execDramScrubStep s) :=
  KeepOut.next (State.dramScrub_keep hm (Keep.refl s))

theorem execBulkClearDone_keep {m : Bool} {s : State} {x0} : KeepOut m s (execBulkClearDone x0 s) :=
  KeepOut.next (State.bulkDone_keep (Keep.refl s))

theorem execBucketLeak_keep {m : Bool} {s : State} {x0} : KeepOut m s (execBucketLeak x0 s) :=
  KeepOut.next (State.bucketLeak_keep (Keep.refl s))

theorem execLogPop_keep {m : Bool} (hm : m = true) {s : State} {x0} : KeepOut m s (execLogPop x0 s) :=
  KeepOut.next (State.cmdWrite_keep hm (Keep.refl s))

theorem execPerstRelease_keep {m : Bool} {s : State} {x0} : KeepOut m s (execPerstRelease x0 s) :=
  KeepOut.next (State.perstRelease_keep (Keep.refl s))

theorem execPortReadyTimeout_keep {m : Bool} (hm : m = true) {s : State} {x0} : KeepOut m s (execPortReadyTimeout x0 s) :=
  KeepOut.next (State.portReadyTimeout_keep hm (Keep.refl s))

theorem execPcieConfigRequest_keep {m : Bool} {s : State} {x0 x1 x2} : KeepOut m s (execPcieConfigRequest x0 x1 x2 s) :=
  KeepOut.next (State.configRequest_keep (Keep.refl s))

theorem execPcieLinkDown_keep {m : Bool} (hm : m = true) {s : State} {x0} : KeepOut m s (execPcieLinkDown x0 s) :=
  KeepOut.next (State.linkDown_keep hm (Keep.refl s))

theorem execPcieAerEvent_keep {m : Bool} {s : State} {x0 x1 x2} : KeepOut m s (execPcieAerEvent x0 x1 x2 s) :=
  KeepOut.next (State.aerEvent_keep (Keep.refl s))

theorem execDoorbell_keep {m : Bool} {s : State} {x0 x1 x2 x3} : KeepOut m s (execDoorbell x0 x1 x2 x3 s) :=
  KeepOut.next (State.doorbell_keep (Keep.refl s))

theorem execJournalRdWrite_keep {m : Bool} {s : State} {x0 x1 x2} : KeepOut m s (execJournalRdWrite x0 x1 x2 s) :=
  KeepOut.next (State.journalRd_keep (Keep.refl s))

theorem execBar4Access_keep {m : Bool} (hm : m = true) {s : State} {x0 x1 x2 x3} : KeepOut m s (execBar4Access x0 x1 x2 x3 s) :=
  KeepOut.next (State.bar4Access_keep hm (Keep.refl s))

theorem execCplTimeout_keep {m : Bool} (hm : m = true) {s : State} {x0 x1} : KeepOut m s (execCplTimeout x0 x1 s) :=
  KeepOut.next (State.cplLost_keep hm (Keep.refl s))

theorem execFunctionLevelReset_keep {m : Bool} (hm : m = true) {s : State} {x0 x1} : KeepOut m s (execFunctionLevelReset x0 x1 s) :=
  KeepOut.next (State.flrRequest_keep hm (Keep.refl s))

theorem execRingHeaderFetched_keep {m : Bool} {s : State} {x0 x1} : KeepOut m s (execRingHeaderFetched x0 x1 s) :=
  KeepOut.next (State.ringHeader_keep (Keep.refl s))

theorem execRingDescriptorFetched_keep {m : Bool} {s : State} {x0 x1} : KeepOut m s (execRingDescriptorFetched x0 x1 s) :=
  KeepOut.next (State.ringFetched_keep (Keep.refl s))

theorem execRingStopped_keep {m : Bool} {s : State} {x0} : KeepOut m s (execRingStopped x0 s) :=
  KeepOut.next (State.ringStopped_keep (Keep.refl s))

theorem execNop_keep {m : Bool} {s : State} {x0} : KeepOut m s (execNop x0 s) :=
  KeepOut.next (State.issueNop_keep (Keep.refl s))

theorem execRender_keep {m : Bool} {s : State} {x0} : KeepOut m s (execRender x0 s) :=
  KeepOut.next (State.issueRender_keep (Keep.refl s))

theorem execCopy_keep {m : Bool} {s : State} {x0} : KeepOut m s (execCopy x0 s) :=
  KeepOut.next (State.issueCopy_keep (Keep.refl s))

theorem execFenceSignal_keep {m : Bool} (hm : m = true) {s : State} {x0} : KeepOut m s (execFenceSignal x0 s) :=
  KeepOut.next (State.issueSignal_keep hm (Keep.refl s))

theorem execFenceWait_keep {m : Bool} {s : State} {x0} : KeepOut m s (execFenceWait x0 s) :=
  KeepOut.next (State.issueWait_keep (Keep.refl s))

theorem execRegs_keep {m : Bool} (hm : m = true) {s : State} {x0} : KeepOut m s (execRegs x0 s) :=
  KeepOut.next (State.issueRegs_keep hm (Keep.refl s))

theorem execHaptic_keep {m : Bool} {s : State} {x0} : KeepOut m s (execHaptic x0 s) :=
  KeepOut.next (State.issueHaptic_keep (Keep.refl s))

theorem execAudioGain_keep {m : Bool} {s : State} {x0} : KeepOut m s (execAudioGain x0 s) :=
  KeepOut.next (State.issueGain_keep (Keep.refl s))

theorem execEarcon_keep {m : Bool} {s : State} {x0} : KeepOut m s (execEarcon x0 s) :=
  KeepOut.next (State.issueEarcon_keep (Keep.refl s))

theorem execDescriptorComplete_keep {m : Bool} {s : State} {x0} : KeepOut m s (execDescriptorComplete x0 s) :=
  KeepOut.next (State.descReport_keep (Keep.refl s))

theorem execCopyStart_keep {m : Bool} {s : State} {x0} : KeepOut m s (execCopyStart x0 s) :=
  KeepOut.next (State.copyStart_keep (Keep.refl s))

theorem execCopyComplete_keep {m : Bool} (hm : m = true) {s : State} {x0 x1} : KeepOut m s (execCopyComplete x0 x1 s) :=
  KeepOut.next (State.copyDone_keep hm (Keep.refl s))

theorem execJournalRecordWrite_keep {m : Bool} (hm : m = true) {s : State} {x0} : KeepOut m s (execJournalRecordWrite x0 s) :=
  KeepOut.next (State.jWriteNext_keep hm (Keep.refl s))

theorem execJournalHoldoffEnd_keep {m : Bool} {s : State} {x0} : KeepOut m s (execJournalHoldoffEnd x0 s) :=
  KeepOut.next (State.jHoldoffEnd_keep (Keep.refl s))

theorem execTenancyQuiesce_keep {m : Bool} (hm : m = true) {s : State} {x0 x1} : KeepOut m s (execTenancyQuiesce x0 x1 s) :=
  KeepOut.next (State.cmdCtrl_keep hm (Keep.refl s))

theorem execTenancyQuiesceTimeout_keep {m : Bool} (hm : m = true) {s : State} {x0 x1} : KeepOut m s (execTenancyQuiesceTimeout x0 x1 s) :=
  KeepOut.next (State.quiesceTimeout_keep hm (Keep.refl s))

theorem execTenancyQuiesced_keep {m : Bool} (hm : m = true) {s : State} {x0} : KeepOut m s (execTenancyQuiesced x0 s) :=
  KeepOut.next (State.quiesceDone_keep hm (Keep.refl s))

theorem execTenancyResume_keep {m : Bool} (hm : m = true) {s : State} {x0 x1} : KeepOut m s (execTenancyResume x0 x1 s) :=
  KeepOut.next (State.cmdCtrl_keep hm (Keep.refl s))

theorem execInstanceReset_keep {m : Bool} (hm : m = true) {s : State} {x0 x1} : KeepOut m s (execInstanceReset x0 x1 s) :=
  KeepOut.next (State.cmdCtrl_keep hm (Keep.refl s))

theorem execInstanceResetDone_keep {m : Bool} {s : State} {x0} : KeepOut m s (execInstanceResetDone x0 s) :=
  KeepOut.next (State.instDone_keep (Keep.refl s))

theorem execCtxWrite_keep {m : Bool} (hm : m = true) {s : State} {x0 x1 x2} : KeepOut m s (execCtxWrite x0 x1 x2 s) :=
  KeepOut.next (State.cmdWrite_keep hm (Keep.refl s))

theorem execPotWrite_keep {m : Bool} (hm : m = true) {s : State} {x0} : KeepOut m s (execPotWrite x0 s) :=
  KeepOut.next (State.cmdWrite_keep hm (Keep.refl s))

theorem execPotWriteDone_keep {m : Bool} (hm : m = true) {s : State} : KeepOut m s (execPotWriteDone s) :=
  KeepOut.next (State.potDone_keep hm (Keep.refl s))

theorem execPotRead_keep {m : Bool} (hm : m = true) {s : State} {x0} : KeepOut m s (execPotRead x0 s) :=
  KeepOut.next (State.cmdWrite_keep hm (Keep.refl s))

theorem execBuild_keep {m : Bool} (hm : m = true) {s : State} {x0 x1} : KeepOut m s (execBuild x0 x1 s) :=
  KeepOut.next (State.coveCmd_keep hm (Keep.refl s))

theorem execSeal_keep {m : Bool} (hm : m = true) {s : State} {x0 x1} : KeepOut m s (execSeal x0 x1 s) :=
  KeepOut.next (State.coveCmd_keep hm (Keep.refl s))

theorem execDestroy_keep {m : Bool} (hm : m = true) {s : State} {x0 x1} : KeepOut m s (execDestroy x0 x1 s) :=
  KeepOut.next (State.coveCmd_keep hm (Keep.refl s))

theorem execCoveClearDone_keep {m : Bool} (hm : m = true) {s : State} {x0} : KeepOut m s (execCoveClearDone x0 s) :=
  KeepOut.next (State.coveCleared_keep hm (Keep.refl s))

theorem execExtend_keep {m : Bool} (hm : m = true) {s : State} {x0 x1} : KeepOut m s (execExtend x0 x1 s) :=
  KeepOut.next (State.cmdWrite_keep hm (Keep.refl s))

theorem execMailboxPost_keep {m : Bool} (hm : m = true) {s : State} {x0 x1} : KeepOut m s (execMailboxPost x0 x1 s) :=
  KeepOut.next (State.cmdWrite_keep hm (Keep.refl s))

theorem execMailboxDone_keep {m : Bool} (hm : m = true) {s : State} {x0 x1} : KeepOut m s (execMailboxDone x0 x1 s) :=
  KeepOut.next (State.cmdWrite_keep hm (Keep.refl s))

theorem execSecureRestart_keep {m : Bool} (hm : m = true) {s : State} {x0} : KeepOut m s (execSecureRestart x0 s) :=
  KeepOut.next (State.secRestart_keep hm (Keep.refl s))

theorem execSecureRestartResume_keep {m : Bool} {s : State} {x0} : KeepOut m s (execSecureRestartResume x0 s) :=
  KeepOut.next (State.restartResume_keep (Keep.refl s))

theorem execWatchdogKick_keep {m : Bool} (hm : m = true) {s : State} {x0 x1 x2} : KeepOut m s (execWatchdogKick x0 x1 x2 s) :=
  KeepOut.next (State.cmdWrite_keep hm (Keep.refl s))

theorem execWatchdogExpiry_keep {m : Bool} {s : State} {x0} : KeepOut m s (execWatchdogExpiry x0 s) :=
  KeepOut.next (State.wdExpiry_keep (Keep.refl s))

theorem execCoreRun_keep {m : Bool} (hm : m = true) {s : State} {x0 x1} : KeepOut m s (execCoreRun x0 x1 s) :=
  KeepOut.next (State.cmdWrite_keep hm (Keep.refl s))

theorem execCoreHalt_keep {m : Bool} (hm : m = true) {s : State} {x0 x1} : KeepOut m s (execCoreHalt x0 x1 s) :=
  KeepOut.next (State.cmdWrite_keep hm (Keep.refl s))

theorem execMachineTimer_keep {m : Bool} {s : State} {x0} : KeepOut m s (execMachineTimer x0 s) :=
  KeepOut.next (State.machineTimer_keep (Keep.refl s))

theorem execFaultHit_keep {m : Bool} {s : State} {x0 x1 x2 x3 x4} : KeepOut m s (execFaultHit x0 x1 x2 x3 x4 s) :=
  KeepOut.next (State.hitCmd_keep (Keep.refl s))

theorem execFaultAccept_keep {m : Bool} (hm : m = true) {s : State} : KeepOut m s (execFaultAccept s) :=
  KeepOut.next (State.acceptEvent_keep hm (Keep.refl s))

theorem execFaultBlockResetRelease_keep {m : Bool} {s : State} : KeepOut m s (execFaultBlockResetRelease s) :=
  KeepOut.next (State.bHoldEnd_keep (Keep.refl s))

theorem execMaskingWindowEnd_keep {m : Bool} {s : State} : KeepOut m s (execMaskingWindowEnd s) :=
  KeepOut.next (State.windowEnd_keep (Keep.refl s))

theorem execBusTimeout_keep {m : Bool} {s : State} {x0 x1 x2 x3} : KeepOut m s (execBusTimeout x0 x1 x2 x3 s) :=
  KeepOut.next (State.busTimeout_keep (Keep.refl s))

theorem execNmiAck_keep {m : Bool} (hm : m = true) {s : State} {x0 x1} : KeepOut m s (execNmiAck x0 x1 s) :=
  KeepOut.next (State.cmdWrite_keep hm (Keep.refl s))

theorem execRelease_keep {m : Bool} (hm : m = true) {s : State} {x0} : KeepOut m s (execRelease x0 s) :=
  KeepOut.next (State.cmdWrite_keep hm (Keep.refl s))

theorem execInject_keep {m : Bool} (hm : m = true) {s : State} {x0 x1} : KeepOut m s (execInject x0 x1 s) :=
  KeepOut.next (State.cmdWrite_keep hm (Keep.refl s))

theorem execSelfInject_keep {m : Bool} (hm : m = true) {s : State} {x0 x1} : KeepOut m s (execSelfInject x0 x1 s) :=
  KeepOut.next (State.cmdWrite_keep hm (Keep.refl s))

theorem execCollectorSelfFault_keep {m : Bool} {s : State} {x0} : KeepOut m s (execCollectorSelfFault x0 s) :=
  KeepOut.next (State.selfFault_keep (Keep.refl s))

theorem execSafeEntry_keep {m : Bool} {s : State} : KeepOut m s (execSafeEntry s) :=
  KeepOut.next (State.safeEntry_keep (Keep.refl s))

theorem execSafeTransitionDone_keep {m : Bool} {s : State} : KeepOut m s (execSafeTransitionDone s) :=
  KeepOut.next (State.safeDone_keep (Keep.refl s))

theorem execSlotClear_keep {m : Bool} (hm : m = true) {s : State} {x0 x1} : KeepOut m s (execSlotClear x0 x1 s) :=
  KeepOut.next (State.cmdWrite_keep hm (Keep.refl s))

theorem execResetNPin_keep {m : Bool} (hm : m = true) {s : State} {x0} : KeepOut m s (execResetNPin x0 s) :=
  KeepOut.next (State.resetPin_keep hm (Keep.refl s))

theorem execSwResetWarm_keep {m : Bool} (hm : m = true) {s : State} {x0} : KeepOut m s (execSwResetWarm x0 s) :=
  KeepOut.next (State.cmdWrite_keep hm (Keep.refl s))

theorem execSwResetCold_keep {m : Bool} (hm : m = true) {s : State} {x0} : KeepOut m s (execSwResetCold x0 s) :=
  KeepOut.next (State.cmdWrite_keep hm (Keep.refl s))

theorem execDebugReset_keep {m : Bool} (hm : m = true) {s : State} : KeepOut m s (execDebugReset s) :=
  KeepOut.next (State.debugReset_keep hm (Keep.refl s))

theorem execBootTimeout_keep {m : Bool} (hm : m = true) {s : State} : KeepOut m s (execBootTimeout s) :=
  KeepOut.next (State.bootLate_keep hm (Keep.refl s))

theorem execPerstAssert_keep {m : Bool} (hm : m = true) {s : State} {x0} : KeepOut m s (execPerstAssert x0 s) :=
  KeepOut.next (State.perstAssert_keep hm (Keep.refl s))

theorem execHotReset_keep {m : Bool} (hm : m = true) {s : State} {x0} : KeepOut m s (execHotReset x0 s) :=
  KeepOut.next (State.hotReset_keep hm (Keep.refl s))

theorem execColdReset_keep {m : Bool} (hm : m = true) {s : State} {x0} : KeepOut m s (execColdReset x0 s) :=
  KeepOut.next (State.resetBy_keep hm (Keep.refl s))

theorem execWarmReset_keep {m : Bool} (hm : m = true) {s : State} {x0} : KeepOut m s (execWarmReset x0 s) :=
  KeepOut.next (State.resetBy_keep hm (Keep.refl s))

theorem execChipResetRelease_keep {m : Bool} {s : State} : KeepOut m s (execChipResetRelease s) :=
  KeepOut.next (State.chipRelease_keep (Keep.refl s))

theorem execDomainResetRequest_keep {m : Bool} (hm : m = true) {s : State} {x0 x1} : KeepOut m s (execDomainResetRequest x0 x1 s) :=
  KeepOut.next (State.cmdWrite_keep hm (Keep.refl s))

theorem execDomainResetRelease_keep {m : Bool} {s : State} {x0} : KeepOut m s (execDomainResetRelease x0 s) :=
  KeepOut.next (State.domHoldEnd_keep (Keep.refl s))

theorem execBlockReset_keep {m : Bool} (hm : m = true) {s : State} {x0 x1} : KeepOut m s (execBlockReset x0 x1 s) :=
  KeepOut.next (State.cmdCtrl_keep hm (Keep.refl s))

theorem execBlockResetDone_keep {m : Bool} {s : State} {x0} : KeepOut m s (execBlockResetDone x0 s) :=
  KeepOut.next (State.blockRelease_keep (Keep.refl s))

theorem execOptionLoadDone_keep {m : Bool} {s : State} {x0} : KeepOut m s (execOptionLoadDone x0 s) :=
  KeepOut.next (State.loadDone_keep (Keep.refl s))

theorem execOptionLoadRetry_keep {m : Bool} {s : State} : KeepOut m s (execOptionLoadRetry s) :=
  KeepOut.next (State.loadRetry_keep (Keep.refl s))

theorem execBistDone_keep {m : Bool} (hm : m = true) {s : State} : KeepOut m s (execBistDone s) :=
  KeepOut.next (State.bistDone_keep hm (Keep.refl s))

theorem execRcvGo_keep {m : Bool} (hm : m = true) {s : State} {x0 x1} : KeepOut m s (execRcvGo x0 x1 s) :=
  KeepOut.next (State.cmdWrite_keep hm (Keep.refl s))

theorem execRecoveryVerifyDone_keep {m : Bool} {s : State} {x0} : KeepOut m s (execRecoveryVerifyDone x0 s) :=
  KeepOut.next (State.rcvDone_keep (Keep.refl s))

theorem execProgram_keep {m : Bool} (hm : m = true) {s : State} {x0} : KeepOut m s (execProgram x0 s) :=
  KeepOut.next (State.cmdWrite_keep hm (Keep.refl s))

theorem execOtpProgramDone_keep {m : Bool} {s : State} {x0} : KeepOut m s (execOtpProgramDone x0 s) :=
  KeepOut.next (State.otpDone_keep (Keep.refl s))

theorem execRead_keep {m : Bool} (hm : m = true) {s : State} {x0} : KeepOut m s (execRead x0 s) :=
  KeepOut.next (State.cmdWrite_keep hm (Keep.refl s))

theorem execClearFf_keep {m : Bool} (hm : m = true) {s : State} {x0} : KeepOut m s (execClearFf x0 s) :=
  KeepOut.next (State.cmdWrite_keep hm (Keep.refl s))

theorem execAliveToggle_keep {m : Bool} {s : State} : KeepOut m s (execAliveToggle s) :=
  KeepOut.next (State.aliveToggle_keep (Keep.refl s))

theorem execTmbPortRestart_keep {m : Bool} {s : State} {x0} : KeepOut m s (execTmbPortRestart x0 s) :=
  KeepOut.next (State.restartDue_keep (Keep.refl s))

theorem execTmbRestartCmd_keep {m : Bool} (hm : m = true) {s : State} {x0 x1} : KeepOut m s (execTmbRestartCmd x0 x1 s) :=
  KeepOut.next (State.cmdWrite_keep hm (Keep.refl s))

theorem execTmbRestartTimeout_keep {m : Bool} {s : State} {x0} : KeepOut m s (execTmbRestartTimeout x0 s) :=
  KeepOut.next (State.restartLate_keep (Keep.refl s))

theorem execTmbRestartRetry_keep {m : Bool} {s : State} {x0} : KeepOut m s (execTmbRestartRetry x0 s) :=
  KeepOut.next (State.tmbRetry_keep (Keep.refl s))

theorem execTmbFlitSlot_keep {m : Bool} {s : State} {x0} : KeepOut m s (execTmbFlitSlot x0 s) :=
  KeepOut.next (State.flitSlot_keep (Keep.refl s))

theorem execTmbCheckFail_keep {m : Bool} {s : State} {x0} : KeepOut m s (execTmbCheckFail x0 s) :=
  KeepOut.next (State.checkFail_keep (Keep.refl s))

theorem execIdle_keep {m : Bool} {s : State} {x0} : KeepOut m s (execIdle x0 s) :=
  KeepOut.next (State.rxIdle_keep (Keep.refl s))

theorem execHello_keep {m : Bool} {s : State} {x0 x1 x2 x3 x4 x5 x6 x7} : KeepOut m s (execHello x0 x1 x2 x3 x4 x5 x6 x7 s) :=
  KeepOut.next (State.rxHello_keep (Keep.refl s))

theorem execTmbTime_keep {m : Bool} (hm : m = true) {s : State} {x0 x1 x2 x3} : KeepOut m s (execTmbTime x0 x1 x2 x3 s) :=
  KeepOut.next (State.rxTime_keep hm (Keep.refl s))

theorem execTimeEcho_keep {m : Bool} {s : State} {x0 x1 x2} : KeepOut m s (execTimeEcho x0 x1 x2 s) :=
  KeepOut.next (State.rxEcho_keep (Keep.refl s))

theorem execReadReq_keep {m : Bool} {s : State} {x0 x1 x2} : KeepOut m s (execReadReq x0 x1 x2 s) :=
  KeepOut.next (State.rxReadReq_keep (Keep.refl s))

theorem execReadData_keep {m : Bool} {s : State} {x0 x1 x2 x3 x4} : KeepOut m s (execReadData x0 x1 x2 x3 x4 s) :=
  KeepOut.next (State.rxReadData_keep (Keep.refl s))

theorem execWrite_keep {m : Bool} (hm : m = true) {s : State} {x0 x1 x2 x3} : KeepOut m s (execWrite x0 x1 x2 x3 s) :=
  KeepOut.next (State.rxWrite_keep hm (Keep.refl s))

theorem execMailbox_keep {m : Bool} {s : State} {x0 x1 x2} : KeepOut m s (execMailbox x0 x1 x2 s) :=
  KeepOut.next (State.rxMail_keep (Keep.refl s))

theorem execMbCredit_keep {m : Bool} {s : State} {x0 x1} : KeepOut m s (execMbCredit x0 x1 s) :=
  KeepOut.next (State.rxCredit_keep (Keep.refl s))

theorem execHeartbeat_keep {m : Bool} {s : State} {x0 x1 x2 x3} : KeepOut m s (execHeartbeat x0 x1 x2 x3 s) :=
  KeepOut.next (State.rxBeat_keep (Keep.refl s))

theorem execLat_keep {m : Bool} {s : State} {x0 x1} : KeepOut m s (execLat x0 x1 s) :=
  KeepOut.next (State.rxLat_keep (Keep.refl s))

theorem execReset_keep {m : Bool} (hm : m = true) {s : State} {x0 x1} : KeepOut m s (execReset x0 x1 s) :=
  KeepOut.next (State.rxReset_keep hm (Keep.refl s))

theorem execNak_keep {m : Bool} {s : State} {x0 x1 x2} : KeepOut m s (execNak x0 x1 x2 s) :=
  KeepOut.next (State.rxNak_keep (Keep.refl s))

theorem execTmbLinkSilence_keep {m : Bool} {s : State} {x0} : KeepOut m s (execTmbLinkSilence x0 s) :=
  KeepOut.next (State.silence_keep (Keep.refl s))

theorem execHeartbeatSend_keep {m : Bool} {s : State} : KeepOut m s (execHeartbeatSend s) :=
  KeepOut.next (State.beatSend_keep (Keep.refl s))

theorem execPeerLost_keep {m : Bool} {s : State} {x0} : KeepOut m s (execPeerLost x0 s) :=
  KeepOut.next (State.beatTimeout_keep (Keep.refl s))

theorem execRemoteReadTimeout_keep {m : Bool} {s : State} : KeepOut m s (execRemoteReadTimeout s) :=
  KeepOut.next (State.readTimeout_keep (Keep.refl s))

theorem execMirrorResyncDone_keep {m : Bool} {s : State} {x0} : KeepOut m s (execMirrorResyncDone x0 s) :=
  KeepOut.next (State.mirResync_keep (Keep.refl s))

theorem execTimeExchangeSend_keep {m : Bool} {s : State} {x0} : KeepOut m s (execTimeExchangeSend x0 s) :=
  KeepOut.next (State.timeSend_keep (Keep.refl s))

theorem execRemoteResetGo_keep {m : Bool} (hm : m = true) {s : State} {x0 x1} : KeepOut m s (execRemoteResetGo x0 x1 s) :=
  KeepOut.next (State.cmdWrite_keep hm (Keep.refl s))

theorem execTmbMbPost_keep {m : Bool} (hm : m = true) {s : State} {x0 x1} : KeepOut m s (execTmbMbPost x0 x1 s) :=
  KeepOut.next (State.cmdWrite_keep hm (Keep.refl s))

theorem execRxDone_keep {m : Bool} (hm : m = true) {s : State} {x0 x1} : KeepOut m s (execRxDone x0 x1 s) :=
  KeepOut.next (State.cmdWrite_keep hm (Keep.refl s))

theorem execWakePinEdge_keep {m : Bool} {s : State} {x0 x1} : KeepOut m s (execWakePinEdge x0 x1 s) :=
  KeepOut.next (State.wakeEdge_keep (Keep.refl s))

theorem execGpioSet_keep {m : Bool} (hm : m = true) {s : State} {x0 x1} : KeepOut m s (execGpioSet x0 x1 s) :=
  KeepOut.next (State.cmdWrite_keep hm (Keep.refl s))

theorem execGpioClr_keep {m : Bool} (hm : m = true) {s : State} {x0 x1} : KeepOut m s (execGpioClr x0 x1 s) :=
  KeepOut.next (State.cmdWrite_keep hm (Keep.refl s))

theorem execBcXfer_keep {m : Bool} (hm : m = true) {s : State} {x0 x1 x2} : KeepOut m s (execBcXfer x0 x1 x2 s) :=
  KeepOut.next (State.cmdWrite_keep hm (Keep.refl s))

theorem execEntdaa_keep {m : Bool} {s : State} {x0 x1} : KeepOut m s (execEntdaa x0 x1 s) :=
  KeepOut.next (State.entdaa_keep (Keep.refl s))

theorem execBcTransferDone_keep {m : Bool} {s : State} {x0 x1 x2} : KeepOut m s (execBcTransferDone x0 x1 x2 s) :=
  KeepOut.next (State.bcDone_keep (Keep.refl s))

theorem execBcStretchTimeout_keep {m : Bool} {s : State} {x0} : KeepOut m s (execBcStretchTimeout x0 s) :=
  KeepOut.next (State.bcStretch_keep (Keep.refl s))

theorem execBcIbi_keep {m : Bool} {s : State} {x0 x1 x2} : KeepOut m s (execBcIbi x0 x1 x2 s) :=
  KeepOut.next (State.bcIbi_keep (Keep.refl s))

theorem execBcTxdata_keep {m : Bool} (hm : m = true) {s : State} {x0 x1 x2} : KeepOut m s (execBcTxdata x0 x1 x2 s) :=
  KeepOut.next (State.cmdWrite_keep hm (Keep.refl s))

theorem execBcRxdata_keep {m : Bool} {s : State} {x0 x1} : KeepOut m s (execBcRxdata x0 x1 s) :=
  KeepOut.next (State.cmdRead_keep (Keep.refl s))

theorem execBcIbiPop_keep {m : Bool} {s : State} {x0 x1} : KeepOut m s (execBcIbiPop x0 x1 s) :=
  KeepOut.next (State.cmdRead_keep (Keep.refl s))

theorem execXspiCmd_keep {m : Bool} (hm : m = true) {s : State} {x0 x1} : KeepOut m s (execXspiCmd x0 x1 s) :=
  KeepOut.next (State.cmdWrite_keep hm (Keep.refl s))

theorem execXspiCmdDone_keep {m : Bool} {s : State} {x0} : KeepOut m s (execXspiCmdDone x0 s) :=
  KeepOut.next (State.xspiDone_keep (Keep.refl s))

theorem execDmaCmd_keep {m : Bool} (hm : m = true) {s : State} {x0 x1} : KeepOut m s (execDmaCmd x0 x1 s) :=
  KeepOut.next (State.cmdWrite_keep hm (Keep.refl s))

theorem execXspiDmaDone_keep {m : Bool} (hm : m = true) {s : State} {x0} : KeepOut m s (execXspiDmaDone x0 s) :=
  KeepOut.next (State.dmaDone_keep hm (Keep.refl s))

theorem execXspiTxdata_keep {m : Bool} (hm : m = true) {s : State} {x0 x1} : KeepOut m s (execXspiTxdata x0 x1 s) :=
  KeepOut.next (State.cmdWrite_keep hm (Keep.refl s))

theorem execXspiRxdata_keep {m : Bool} {s : State} {x0} : KeepOut m s (execXspiRxdata x0 s) :=
  KeepOut.next (State.cmdRead_keep (Keep.refl s))

theorem execExtest_keep {m : Bool} {s : State} {x0} : KeepOut m s (execExtest x0 s) :=
  KeepOut.next (State.jtagExtest_keep (Keep.refl s))

theorem execIdcode_keep {m : Bool} {s : State} : KeepOut m s (execIdcode s) :=
  KeepOut.next (State.jtag_keep (Keep.refl s))

theorem execSamplePreload_keep {m : Bool} {s : State} {x0} : KeepOut m s (execSamplePreload x0 s) :=
  KeepOut.next (State.jtagSample_keep (Keep.refl s))

theorem execDebug_keep {m : Bool} {s : State} : KeepOut m s (execDebug s) :=
  KeepOut.next (State.jtag_keep (Keep.refl s))

theorem execBypass_keep {m : Bool} {s : State} : KeepOut m s (execBypass s) :=
  KeepOut.next (State.jtag_keep (Keep.refl s))

theorem execThermalSample_keep {m : Bool} {s : State} {x0 x1 x2 x3} : KeepOut m s (execThermalSample x0 x1 x2 x3 s) :=
  KeepOut.next (State.thermal_keep (Keep.refl s))

theorem execTmbBlockLock_keep {m : Bool} {s : State} {x0} : KeepOut m s (execTmbBlockLock x0 s) :=
  KeepOut.next (State.blockLock_keep (Keep.refl s))

theorem execWorkgroupRetired_keep {m : Bool} (hm : m = true) {s : State} {x0} : KeepOut m s (execWorkgroupRetired x0 s) :=
  KeepOut.next (State.groupRetired_keep hm (Keep.refl s))

theorem execPassBinned_keep {m : Bool} {s : State} {x0} : KeepOut m s (execPassBinned x0 s) :=
  KeepOut.next (State.passBinned_keep (Keep.refl s))

theorem execPageQuiesceDone_keep {m : Bool} (hm : m = true) {s : State} {x0} : KeepOut m s (execPageQuiesceDone x0 s) :=
  KeepOut.next (State.pageDrained_keep hm (Keep.refl s))

theorem execUlpsWakeupEnd_keep {m : Bool} (hm : m = true) {s : State} {x0} : KeepOut m s (execUlpsWakeupEnd x0 s) :=
  KeepOut.next (State.wakeupEnd_keep hm (Keep.refl s))

theorem execPcieLinkUp_keep {m : Bool} {s : State} {x0 x1 x2} : KeepOut m s (execPcieLinkUp x0 x1 x2 s) :=
  KeepOut.next (State.linkUp_keep (Keep.refl s))

end Sys2Proof.Machine
end

