-- ==== Sys2Proof/WellFormed.lean ====
section
/-! DEFINITION. Well-formed commands: what the operands of a command must meet beyond their types, so that the command
names something of the device.  A command that is not well formed is still given a meaning: it names nothing, or it is
answered as the access rules say. -/

namespace Sys2Proof

open Machine

/-- A page of the domain map (R6). -/
def pageOk (p : PageNo) : Bool := (pinfoAt (p.toNat * 0x1000)).isSome

/-- A page of one kind. -/
def kindOk (k : PKind) (p : PageNo) : Bool :=
  match pinfoAt (p.toNat * 0x1000) with
  | some i => i.kind == k
  | none => false

/-- A layer page of a head (R100). -/
def layerOk (p : PageNo) : Bool := kindOk .layer p || kindOk .glayer p

/-- A domain of the domain map (R6). -/
def domainOk (d : BitVec 8) : Bool := isDomain d.toNat

/-- The target of a reset release exists. -/
def RelTarget.wf : RelTarget → Bool
  | .page p => pageOk p
  | .domain d => domainOk d

/-- The low word of a register pair: a defined register of a page, aligned to 4 bytes. -/
def lowWord (a : RegAddr) : Bool :=
  match pinfoAt a.toNat with
  | some i => offDefined i (offOf a.toNat) && decide (a.toNat % 4 = 0)
  | none => false

/-- The access names a register: of the register space, or any offset of a function's pages, whose undefined offsets
R73 answers. -/
def RegSrc.readable (bytes : Nat) : RegSrc → Bool
  | .space _ a => lowWord (a &&& ~~~3) && [1, 2, 4].contains bytes && decide (a.toNat % bytes = 0)
  | .function _ _ o => [1, 2, 4].contains bytes && decide (o.toNat % bytes = 0)

/-- A function's pages are two of 4 KiB (R396). -/
def RegVia.reaches (a : RegAddr) : RegVia → Bool
  | .space _ => true
  | .function _ _ => decide (a.toNat < 8192)

/-- A flit goes from one device to another (R528). -/
def FlitHdr.wf (x : FlitHdr) : Bool := x.src != x.dst

/-- The operands of a command are in order. -/
def Instr.wf : Instr → Bool
  | .supplyUv supply => decide (supply.val < 7)
  | .releaseClockOk t => t.wf
  | .releaseAbandoned t => t.wf
  | .domainGate _ d => domainOk d
  | .domainUngate _ d => domainOk d
  | .loSnapshotRead src bytes => src.readable bytes
  | .periodBoundary page => pageOk page
  | .periodLatchUpdate page => pageOk page
  | .registerWrite via a _ bytes => decide (0 < bytes) && decide (bytes ≤ 8) && via.reaches a
  | .ownerWrite _ page _ => pageOk page
  | .autoCommitWrite _ page _ => pageOk page
  | .commitOnFenceWrite _ page _ => pageOk page
  | .pageQuiesce _ page _ => pageOk page
  | .enable _ page => pageOk page
  | .disable _ page => pageOk page
  | .commit _ page => pageOk page
  | .enableCheckDone page => pageOk page
  | .commitCheckDone page => pageOk page
  | .disableDrainDone page => pageOk page
  | .intStatusClear _ page _ => pageOk page
  | .intForce _ page _ => pageOk page
  | .irqDelivery line => pageOk line
  | .coefDataWrite _ page _ => kindOk .layer page
  | .coefDataRead _ page => kindOk .layer page
  | .lutDataWrite _ page _ => kindOk .colour page
  | .lutDataRead _ page => kindOk .colour page
  | .reflexSetReq _ page => layerOk page
  | .reflexClearReq _ page => layerOk page
  | .touchRestart _ rsps => decide (rsps.length ≤ 5)
  | .hapticFrame _ rx => decide (rx.length = 8)
  | .hapticPortRestart _ rxs => rxs.all (fun l => decide (l.length = 8))
  | .dramRequest _ _ _ _ wr _ bytes data => decide (0 < bytes) && decide (data.length = if wr then bytes else 0)
  | .bar4Access _ wr n data => decide (0 < n) && decide (data.length = if wr then n else 0)
  | .faultHit src _ _ _ _ => (srcInfo src.val).isSome
  | .busTimeout d _ _ _ => domainOk d
  | .domainResetRequest _ d => domainOk d
  | .domainResetRelease d => domainOk d
  | .blockReset _ page => pageOk page
  | .blockResetDone page => pageOk page
  | .idle x => x.wf
  | .hello _ _ _ _ idx n _ _ => decide (idx.val < n.val)
  | .tmbTime x _ _ _ => x.wf
  | .timeEcho x _ _ => x.wf
  | .readReq x _ es => x.wf && es.all (fun e => decide (0 < e.n.val))
  | .readData x _ status n data => x.wf && decide (data.length = if status = 0 then n.val * 64 else 0)
  | .write x _ _ data => x.wf && decide (0 < data.length) && decide (data.length ≤ 240)
  | .mailbox x _ ws => x.wf && decide (ws.length ≤ 14)
  | .mbCredit x _ => x.wf
  | .heartbeat x _ _ _ => x.wf
  | .lat x _ => x.wf
  | .reset x _ => x.wf
  | .pageQuiesceDone page => pageOk page
  | .mainSupplyGood | .vbakPresent | .mainSupplyLoss | .vbakLoss | .modeRequest _ _ | .modeRequestCheckDone
  | .standbyEntryStepComplete | .wakeEvent _ | .standbyUndoStepComplete | .responseDiscard _ | .pllLock
  | .pllLockRetry | .rootLoss | .monOscLoss | .pllUnlock | .gateCheckDone | .thymeLoRead _ | .slewTick
  | .accountingBoundary | .syncInEdge _ | .syncOutRise | .syncOutFall | .msixUnmask _ _ _ | .irqRouteWrite _ _
  | .irqRouteCheckDone | .headStart _ | .slackPoint _ | .holdCmdCapture _ _ | .holdCmdExit _ _
  | .lineSlotStart _ _ _ | .layerFetchResponse _ _ _ _ _ | .bufferRelease _ _ | .dphyClockLoss _
  | .tidepoolRegionClearDone _ | .cvuFeedStart _ _ | .cvuFeedData _ _ _ | .cvuFeedEnd _ _
  | .jobDescriptorFetched _ | .jobReady _ | .coreDispatch | .drawValidate _ _ | .binHeapExhausted _ _
  | .tileResolve _ _ _ _ | .jobEnd _ | .coreHang _ | .l2FlushAll _ | .l2FlushDone | .deadlineEval _
  | .preemptSaveDone _ _ | .preemptTimeout _ | .deadlineMiss _ | .costFlush _ _ | .costFlushAll _
  | .touchRestartRetry _ | .touchPanelRestart _ _ | .touchReacquire _ _ | .touchDozeCmd _ _ | .touchSlot _ _
  | .touchFrameStart _ | .touchFrameProcessed _ | .touchDozeKeepalive _ _ | .hapticPortRestartCmd _ _
  | .hapticRestartRetry _ | .effectLoad _ | .effectLoadDone | .effectFree _ | .hapticTriggerGo _ _ _
  | .hapticTriggerStop _ _ | .hapFaultPin _ _ | .hapticFaultClear _ _ | .reflexEvaluate | .sampleBoundary _
  | .audioBlockMarker | .audPortFrame _ _ | .audFsEdge _ _ _ | .audClockLoss _ | .bankLoad _ | .bankLoadDone
  | .bankInvalidate _ | .fadeTimeout | .playerPreloadDone _ | .trigFire _ _ | .asrcCoefRead _
  | .dramReadData _ _ | .agePromotion _ | .dramRefresh _ _ _ _ | .mr4Read _ _ | .powerDownEntry _ _
  | .selfRefreshEntry _ | .selfRefreshExit _ | .oscTracking _ | .dramTrainingDone _ _ | .sweepGranuleDone _
  | .dramCmdError _ _ _ | .eccInject _ _ | .conversionSweepDone | .auditRoundStart | .auditPassDone
  | .kScrubStep _ | .dramScrubStep | .bulkClearDone _ | .bucketLeak _ | .logPop _ | .perstRelease _
  | .portReadyTimeout _ | .pcieConfigRequest _ _ _ | .pcieLinkDown _ | .pcieAerEvent _ _ _ | .doorbell _ _ _ _
  | .journalRdWrite _ _ _ | .cplTimeout _ _ | .functionLevelReset _ _ | .ringHeaderFetched _ _
  | .ringDescriptorFetched _ _ | .ringStopped _ | .nop _ | .render _ | .copy _ | .fenceSignal _ | .fenceWait _
  | .regs _ | .haptic _ | .audioGain _ | .earcon _ | .descriptorComplete _ | .copyStart _ | .copyComplete _ _
  | .journalRecordWrite _ | .journalHoldoffEnd _ | .tenancyQuiesce _ _ | .tenancyQuiesceTimeout _ _
  | .tenancyQuiesced _ | .tenancyResume _ _ | .instanceReset _ _ | .instanceResetDone _ | .ctxWrite _ _ _
  | .potWrite _ | .potWriteDone | .potRead _ | .build _ _ | .seal _ _ | .destroy _ _ | .coveClearDone _
  | .extend _ _ | .mailboxPost _ _ | .mailboxDone _ _ | .secureRestart _ | .secureRestartResume _
  | .watchdogKick _ _ _ | .watchdogExpiry _ | .coreRun _ _ | .coreHalt _ _ | .machineTimer _ | .faultAccept
  | .faultBlockResetRelease | .maskingWindowEnd | .nmiAck _ _ | .release _ | .inject _ _ | .selfInject _ _
  | .collectorSelfFault _ | .safeEntry | .safeTransitionDone | .slotClear _ _ | .resetNPin _ | .swResetWarm _
  | .swResetCold _ | .debugReset | .bootTimeout | .perstAssert _ | .hotReset _ | .coldReset _ | .warmReset _
  | .chipResetRelease | .optionLoadDone _ | .optionLoadRetry | .bistDone | .rcvGo _ _ | .recoveryVerifyDone _
  | .program _ | .otpProgramDone _ | .read _ | .clearFf _ | .aliveToggle | .tmbPortRestart _
  | .tmbRestartCmd _ _ | .tmbRestartTimeout _ | .tmbRestartRetry _ | .tmbFlitSlot _ | .tmbCheckFail _
  | .nak _ _ _ | .tmbLinkSilence _ | .heartbeatSend | .peerLost _ | .remoteReadTimeout | .mirrorResyncDone _
  | .timeExchangeSend _ | .remoteResetGo _ _ | .tmbMbPost _ _ | .rxDone _ _ | .wakePinEdge _ _ | .gpioSet _ _
  | .gpioClr _ _ | .bcXfer _ _ _ | .entdaa _ _ | .bcTransferDone _ _ _ | .bcStretchTimeout _ | .bcIbi _ _ _
  | .bcTxdata _ _ _ | .bcRxdata _ _ | .bcIbiPop _ _ | .xspiCmd _ _ | .xspiCmdDone _ | .dmaCmd _ _
  | .xspiDmaDone _ | .xspiTxdata _ _ | .xspiRxdata _ | .extest _ | .idcode | .samplePreload _ | .debug
  | .bypass | .thermalSample _ _ _ _ | .tmbBlockLock _ | .workgroupRetired _ | .passBinned _ | .ulpsWakeupEnd _
  | .pcieLinkUp _ _ _ => true

end Sys2Proof
end

