-- ==== Sys2Proof/Tests/Slice0.lean ====
section
/-! SUPPORT. For every statement with hypotheses, a state and operands that meet them; and the checks of well-formed
commands, each with an ill-formed term that it refuses. -/

set_option Elab.async false

namespace Sys2Proof.Machine

theorem test_reset_queue : State.reset.pending = [] := by decide

/-- A device in RUN with these fields written. -/
def tS (l : List (Nat × Fld × Nat)) : State :=
  l.foldl (fun s e => s.put e.1 e.2.1 e.2.2) { State.reset with mode := .run }

/-- The same with these pages enabled. -/
def tE (p : List Nat) (l : List (Nat × Fld × Nat)) : State :=
  p.foldl (fun s b => s.put b F.HDR.STATUS_ENABLED 1) (tS l)

/-- The request of the supervisor's own software. -/
def tR : Req := ⟨0, 1⟩

theorem test_reaches (s : State) (r : Req) (a : Nat) (h : (s.powered && s.mode != .safe && s.reqReal r && s.present (pageOf a)
    && (s.domReset (domOf a)).isNone && !(s.ctl (pageOf a)).stuck) = true) : s.Reaches r a := by
  simp only [Bool.and_eq_true, bne_iff_ne, ne_eq, Option.isNone_iff_eq_none, Bool.not_eq_true'] at h
  exact ⟨h.1.1.1.1.1, h.1.1.1.1.2, h.1.1.1.2, h.1.1.2, h.1.2, h.2⟩

theorem test_mayWrite (s : State) (r : Req) (a : Nat) (h : (s.powered && s.mode != .safe && s.reqReal r && s.present (pageOf a)
    && (s.domReset (domOf a)).isNone && !(s.ctl (pageOf a)).stuck) = true)
    (hw : (r.tag.toNat == s.owner (pageOf a) && r.tag != 0) = true) : s.MayWrite r a := by
  simp only [Bool.and_eq_true, bne_iff_ne, ne_eq, beq_iff_eq] at hw
  exact ⟨test_reaches s r a h, hw.1, hw.2⟩

theorem test_mayRead (s : State) (r : Req) (a : Nat) (i : PInfo) (hi : pinfoAt a = some i)
    (h : (s.powered && s.reqReal r && s.present (pageOf a) && s.mayRead r i (pageOf a)
      && (s.domReset (domOf a)).isNone) = true) : s.MayRead r a i := by
  simp only [Bool.and_eq_true, Option.isNone_iff_eq_none] at h
  exact ⟨h.1.1.1.1, h.1.1.1.2, hi, h.1.1.2, h.1.2, h.2⟩

/-- A device whose DRAM is in service. -/
def tD (p : List Nat) (l : List (Nat × Fld × Nat)) : State :=
  tE (dglobPage :: p) ((dsweepPage, F.DSWEEP.SWEEP_STATE_DONE, 1)
    :: (upto 0 8).map (fun c => (chanPage c, F.DCHAN.CHAN_STATE_STATE, 2)) ++ l)

/-- Job 7 of tenancy 1, with this descriptor, passes and phase. -/
def tJ (d : Nat) (ps : List PassSt) (ph : JobPhase) : Job :=
  ⟨7, 0x11, 3, 0, 0x1000, BitVec.ofNat 1024 d, ps, 0, ph, 1, 0, 0, 0, 0, 0, false, false, 0, 0, 0, 0, 0, 0, 0, 0, false⟩

theorem meets_SuppliesMoveTheMode :
    ({ tS [] with mode := .off } : State).mode = .off ∧ ({ tS [] with mode := .backup } : State).mode = .backup
    ∧ (tS []).mode ≠ .off ∧ (tS []).mode ≠ .backup := by decide +kernel

theorem meets_ModeRequestsAreJudged :
    (tS []).MayWrite tR (modePage + 0x104)
    ∧ (let s : State := { tS [] with modeReqs := [8] }
       s.modeReqs = [8] ∧ s.trigNow = false ∧ s.rst.chip = none ∧ (s.modeVerdict 8).reason ≠ 0)
    ∧ (let s : State := { tS [] with modeReqs := [5] }
       s.safeRun = false ∧ s.mode = .run ∧ s.stby = .none ∧ s.trigNow = false ∧ s.modeReqs = [5])
    ∧ (let s : State := { tS [] with modeReqs := [6] }
       (s.modeVerdict 6).reason = 0 ∧ s.modeQuiet 6 = false)
    ∧ (∃ h, (tE [headPage 2] []).liveHead = some h)
    ∧ ({ tS [] with modeTrig := some 0 } : State).trigNow = true
    ∧ ({ tS [] with mode := .standby } : State).mode = .standby :=
  ⟨test_mayWrite _ _ _ (by decide +kernel) (by decide +kernel), by decide +kernel, by decide +kernel, by decide +kernel,
    ⟨2, by decide +kernel⟩, by decide +kernel, rfl⟩

theorem meets_StandbyEntersAndLeaves :
    (∀ n, 1 ≤ n → n < 5 → ∃ s : State, s.stby = .entry n false ∧ s.standbyMet n = true)
    ∧ (∃ s : State, s.stby = .entry 1 true ∧ s.standbyMet 1 = true ∧ s.rst.chip = none)
    ∧ (∃ (s : State) (n : Nat), s.stby = .entry n false ∧ s.standbyMet n = false)
    ∧ (∃ s : State, s.stby = .none ∧ s.mode = .standby ∧ s.rst.chip = none)
    ∧ (∃ s : State, s.stby = .none ∧ s.mode ≠ .standby) ∧ (∃ s : State, s.stby = .undo 4 false)
    ∧ (∃ s : State, s.stby = .undo 3 false ∧ s.portsPending = false)
    ∧ (∃ s : State, s.stby = .undo 3 true ∧ s.portsPending = false) := by
  refine ⟨?_, ⟨{ tS [] with stby := .entry 1 true }, by decide +kernel⟩,
    ⟨{ tE [panelPage 0] [] with stby := .entry 2 false }, 2, by decide +kernel⟩,
    ⟨{ tS [] with mode := .standby }, by decide +kernel⟩, ⟨tS [], by decide +kernel⟩,
    ⟨{ tS [] with stby := .undo 4 false }, rfl⟩, ⟨{ tS [] with stby := .undo 3 false }, by decide +kernel⟩,
    ⟨{ tS [] with stby := .undo 3 true }, by decide +kernel⟩⟩
  intro n h1 h2
  have : n = 1 ∨ n = 2 ∨ n = 3 ∨ n = 4 := by omega
  rcases this with rfl | rfl | rfl | rfl
  · exact ⟨{ tS [] with stby := .entry 1 false }, by decide +kernel⟩
  · exact ⟨{ tS [] with stby := .entry 2 false }, by decide +kernel⟩
  · exact ⟨{ tS [] with stby := .entry 3 false }, by decide +kernel⟩
  · exact ⟨{ (upto 0 8).foldl (fun s c => s.modDchan c (fun x => { x with sr := some 0 })) (tS []) with stby := .entry 4 false },
      by decide +kernel⟩

theorem meets_RootClockEvents :
    (let s : State := { tS [] with rst := { (tS []).rst with chip := some (.cold, 0) } }
     s.rst.chip = some (.cold, 0) ∧ s.rst.resetN = false ∧ s.rst.testEn = false)
    ∧ (tS []).powered = true ∧ (tS []).flag rootPage F.ROOT.ROOT_STATUS_MON_RUN = true
    ∧ (tS [(rootPage, F.ROOT.ROOT_STATUS_PLL_LOCKED, 1)]).flag rootPage F.ROOT.ROOT_STATUS_PLL_LOCKED = true
    ∧ ({ (tS []).backup with ff := ⟨⟨true, 1, []⟩, ⟨false, 0, []⟩⟩ } : Backup).ff.cur = some ⟨true, 1, []⟩ := by
  decide +kernel

theorem meets_GatesAndReleases :
    (tS []).Reaches tR (divPage + 0x140) ∧ (tS []).Reaches ⟨0, 0x010⟩ (divPage + 0x140) ∧ gateWriter ⟨0, 0x010⟩ = true ∧ gateWriter tR = false ∧ (tS []).gateRun = none
    ∧ (∃ g, ({ tS [] with gateRun := some ⟨tR, 6, true⟩ } : State).gateRun = some g)
    ∧ (tS []).gated 6 = false ∧ ((tS []).setGated 6 true).gated 6 = true
    ∧ ({ tS [] with gateWait := [⟨tR, 6, true⟩] } : State).gateWait = ⟨tR, 6, true⟩ :: []
    ∧ isDomain 5 = true ∧ isDomain 0x10 = true ∧ domPresent (tS []).part 5 = true ∧ domPresent (tS []).part 0x10 = true
    ∧ (∃ p ∈ pagesOf 0x10, (tS [(pg 0x10 0, F.HDR.STATUS_IDLE, 0)]).idle p = false)
    ∧ (let s := (tS []).modCtl (pg 0x10 0) (fun c => { c with inReset := some (tR, 0) })
       pageBase 0x100 ≠ corePage 0 ∧ (s.ctl (pageBase 0x100)).inReset = some (tR, 0) ∧ s.now < 0 + 12288)
    ∧ (∃ x, ({ tS [] with rst := { (tS []).rst with doms := [(0x10, ⟨0, .software, 0, 0⟩)] } } : State).domReset 0x10 = some x
      ∧ (tS []).now < x.start + 15360 ∧ (tS []).recHolds 0x10 = false) := by
  refine ⟨test_reaches _ _ _ (by decide +kernel), test_reaches _ _ _ (by decide +kernel), by decide +kernel, by decide +kernel, by decide +kernel, ⟨_, rfl⟩, by decide +kernel,
    by decide +kernel, rfl, by decide +kernel, by decide +kernel, by decide +kernel, by decide +kernel, by decide +kernel,
    by decide +kernel, ?_⟩
  exact ⟨_, rfl, by decide +kernel⟩

theorem meets_SnapshotReads :
    (∃ i, (tS []).MayRead tR (thymePage + 0x100) i) ∧ (∃ i, (tS []).MayRead tR (thymePage + 0x104) i)
    ∧ (∃ i, (tS []).MayRead tR (thymePage + 0x100) i ∧ offDefined i 0x100 = true ∧ snapLo i.kind 0x100 = true)
    ∧ (let s := { tS [] with snaps := [(snapKey 0 (thymePage + 0x104), (1, 7))] }
       amGet (fun _ => (0, (0 : Word))) s.snaps (snapKey 0 (thymePage + 0x104)) = (1, 7))
    ∧ (let s := tS [(portPage 0, F.HOSTP.PORT_INFO_UP, 1), (funcPage 0, F.HFUNC.SRIOV_STATE, 3),
        (funcPage 0, F.HFUNC.FUNC_MAP_EN.at 1, 1), (funcPage 0, F.HFUNC.FUNC_MAP_TENANCY.at 1, 0x13)]
       s.flag (portPage 0) F.HOSTP.PORT_INFO_UP = true ∧ s.fnExists 0 1 = true ∧ s.fnTen 0 1 = some 3)
    ∧ (∃ i, pinfoAt (thymePage + 0x100) = some i ∧ (tS []).present thymePage = true
      ∧ (tS []).mayRead ⟨0, 0⟩ i thymePage = false) :=
  ⟨⟨_, test_mayRead _ _ _ _ rfl (by decide +kernel)⟩, ⟨_, test_mayRead _ _ _ _ rfl (by decide +kernel)⟩,
    ⟨_, test_mayRead _ _ _ _ rfl (by decide +kernel), by decide +kernel, by decide +kernel⟩, by decide +kernel,
    by decide +kernel, ⟨_, rfl, by decide +kernel, by decide +kernel⟩⟩

theorem meets_ThymeAndAccounting :
    (let s := tS [(thymePage, F.THYME.SLEW_PENDING, 5)]
     s.thymeRun = true ∧ sext 32 (s.get thymePage F.THYME.SLEW_PENDING) = 5 ∧ s.slewAt = none)
    ∧ (let s := { tS [(thymePage, F.THYME.SLEW_PENDING, 0xFFFFFFFF)] with slewAt := some 4 }
       sext 32 (s.get thymePage F.THYME.SLEW_PENDING) = -1 ∧ s.slewAt = some 4)
    ∧ sext 32 ((tS []).get thymePage F.THYME.SLEW_PENDING) = 0
    ∧ (tS []).now < (tS []).acctEnd ∧ (tS []).acctEnd < 2 ^ 64
    ∧ (let s := { tS [] with thyme := 0xFFFFFFFFFFFFFFFF }
       s.acctEnd ≤ s.now)
    ∧ (let s : State := { tS [] with srcTick := [(1, 6144000)], thyme := 6144000 }
       (pinfoAt (pageBase 0x100)).isSome = true ∧ s.boundary (pageBase 0x100) = some 6144000
       ∧ (s.ctl (pageBase 0x100)).stuck = false) := by decide +kernel

theorem meets_BoardSyncAndPins :
    (let s := (tS []).modSync (fun x => { x with train := some (100, 8), rise := some 50, fall := some 58 })
     s.pad.sync.train = some (100, 8) ∧ s.pad.sync.rise = some 50 ∧ s.pad.sync.fall = some 58)
    ∧ (tS []).powered = true ∧ ({ tS [] with rst := { (tS []).rst with doms := [(0x10, ⟨0, .software, 0, 0⟩)] } } : State).engineReset 0x20
      = true := by decide +kernel

theorem meets_QuietCommandsStoreNothing : storesNothing .vbakPresent = true ∧ ∃ t, exec .vbakPresent (tS []) = .next t :=
  ⟨rfl, _, rfl⟩

theorem meets_StepsKeepTheForm : State.reset.Wf ∧ ∃ t, step State.reset = .next t :=
  ⟨⟨by decide +kernel, rfl, rfl, rfl, rfl⟩, _, rfl⟩

theorem meets_StepRunsFront : ∃ s : State, s.pending = .idcode :: [] := ⟨{ tS [] with pending := [.idcode] }, rfl⟩

theorem meets_DisabledSources :
    (srcPresent (tS []).part 0 = true ∧ bit ((tS [(srcBank 0, F.FBANK.SRC_CFG_ENABLE.at 0, 0)]).srcCfg 0) 5 = false)
    ∧ ∃ n : Fin 383, srcInfo n.val = none := by
  refine ⟨by decide +kernel, ?_⟩
  decide +kernel

theorem meets_SyncInEdges :
    (let s := tE [pfuncPage, bsyncPage] [(pfuncPage, F.PFUNC.FUNC_FUNC.at 3, 1), (bsyncPage, F.BSYNC.SYNC_CTRL_IN_EN, 1)]
     s.syncPad = some 3 ∧ (s.padExt 3 true).enabled bsyncPage = true
     ∧ (s.padExt 3 true).flag bsyncPage F.BSYNC.SYNC_CTRL_IN_EN = true
     ∧ (s.padExt 3 true).flag bsyncPage F.BSYNC.SYNC_CTRL_IN_EDGE = !true ∧ s.pad.sync.lastIn = none)
    ∧ (let s := (tS []).modSync (fun x => { x with lastIn := some 0 })
       s.pad.sync.lastIn = some 0 ∧ s.now < 0 + 64) := by decide +kernel

theorem meets_CtrlCommands :
    (tS [(headPage 0, F.HDR.OWNER, 1)]).MayWrite tR (pageBase 0x100 + 8) ∧ (tS []).MayWrite tR (bsyncPage + 8)
    ∧ (pinfoAt (pageBase 0x100 + 8)).isSome = true
    ∧ (pinfoAt (bsyncPage + 8)).any (fun i => !i.hasAuto && !i.hasFence && !i.hasQuiesce && i.app == .onArm) = true
    ∧ (let s := tS []
       s.groupPage bsyncPage = bsyncPage ∧ s.checkBusy bsyncPage = false ∧ s.onFence bsyncPage = false
       ∧ s.flag bsyncPage F.HDR.CTRL_ENABLE = false ∧ (s.ctl bsyncPage).stopDue = false ∧ (s.ctl bsyncPage).enRun = none)
    ∧ (let s := tE [bsyncPage] [(bsyncPage, F.HDR.CTRL_ENABLE, 1)]
       let u := (s.put bsyncPage F.HDR.CTRL_ENABLE 0).withdraw bsyncPage
       s.flag bsyncPage F.HDR.CTRL_ENABLE = true ∧ (s.secureHold bsyncPage && tR.tag != 1) = false
       ∧ u.groupPage bsyncPage = bsyncPage ∧ (u.ctl bsyncPage).enRun = none ∧ (u.ctl bsyncPage).startDue = none
       ∧ u.enabled bsyncPage = true)
    ∧ (let s := (tS []).modCtl bsyncPage (fun c => { c with run := some ⟨tR, (tS []).capture [bsyncPage]⟩ })
       s.checkBusy bsyncPage = true ∧ s.groupPage bsyncPage = bsyncPage)
    ∧ (let p := headPage 0
       let s := tS [(p, F.HDR.CTRL_COMMIT_ON_FENCE, 1), (p, F.HDR.FENCE_VALUE_LO, 5)]
       s.groupPage p = p ∧ s.checkBusy p = false ∧ s.onFence p = true ∧ s.fenceMet p = false)
    ∧ (let s := tS []
       let p := asrcPage
       s.idle p = true ∧ (s.ctl p).inReset = none ∧ 5 < domOf p ∧ domOf p ≠ 0x30 ∧ domOf p ≠ 0x31
       ∧ (pinfoAt p).any (fun i => !i.hasQuiesce && i.kind != .ten) = true ∧ (s.secureHold p && tR.tag != 1) = false) :=
  ⟨test_mayWrite _ _ _ (by decide +kernel) (by decide +kernel), test_mayWrite _ _ _ (by decide +kernel) (by decide +kernel),
    by decide +kernel⟩

theorem meets_ChecksComplete :
    (let s := (tS []).modCtl bsyncPage (fun c => { c with enRun := some ⟨tR, (tS []).capture [bsyncPage]⟩ })
     let v := s.runCheck tR ((tS []).capture [bsyncPage]) [bsyncPage] true true
     (pinfoAt bsyncPage).any (fun i => i.kind != .alloc && i.kind != .gl2 && i.app == .onArm) = true
     ∧ (s.ctl bsyncPage).enNext = none ∧ v.reason = 0 ∧ (s.ctl bsyncPage).withdrawn = false)
    ∧ (let q := tS [(bsyncPage, F.BSYNC.OUT_WIDTH, 0)]
       (q.runCheck tR (q.capture [bsyncPage]) [bsyncPage] true false).reason ≠ 0)
    ∧ (pinfoAt (headPage 0)).any (fun i => i.app == .slack && i.kind.busy) = true ∧ (tS []).enabled (headPage 0) = false
    ∧ (let s := tS [(wbPage 0, F.HDR.CTRL_QUIESCE, 1), (tenPage 3, F.HDR.CTRL_QUIESCE, 1)]
       s.flag (wbPage 0) F.HDR.CTRL_QUIESCE = true ∧ s.flag (tenPage 3) F.HDR.CTRL_QUIESCE = true ∧ (s.wb 0).on = false
       ∧ (pinfoAt (wbPage 0)).any (fun i => i.hasQuiesce && i.kind == .wb) = true
       ∧ (pinfoAt (tenPage 3)).any (fun i => i.hasQuiesce && i.kind == .ten) = true
       ∧ ((s.setWb 0 ⟨true, false, 0⟩).wb 0).on = true) := by decide +kernel

theorem meets_InterruptsAndRoutes :
    (tS []).MayWrite tR (modePage + 0x30) ∧ (tS []).MayWrite tR (modePage + 0x38) ∧ (tS []).MayWrite tR (routerPage + 0x104)
    ∧ (tS []).lineOn modePage = false ∧ modePage ≠ fcollPage ∧ (tS []).edges.contains 1 = false
    ∧ (let s : State := { (tS [(msixPage 0, F.HMSIX.MSIX_STATE_ENABLE.at 0, 1)]).setRoute 1 0x80000000 with edges := [1] }
       s.edges.contains 1 = true ∧ bits (s.route 1).toNat 31 30 = 2 ∧ s.vecOpen 0 0 0 = false)
    ∧ (let s : State := { ((tS [(msixPage 0, F.HMSIX.MSIX_STATE_ENABLE.at 0, 1)]).setVec (vecKey 0 0 0) ⟨false, 0⟩).setRoute 1
         0x80000000 with edges := [1] }
       s.vecOpen 0 0 0 = true)
    ∧ (let s : State := { (tS [(modePage, F.HDR.INT_STATUS, 1), (modePage, F.HDR.INT_ENABLE, 1)]).setRoute 1 0x44000000 with
         edges := [1] }
       bits (s.route 1).toNat 31 30 = 1 ∧ s.lineOn (1 * 0x1000) = true)
    ∧ (let s : State := { (tS []).setRoute 1 0 with edges := [1] }
       bits (s.route 1).toNat 31 30 ≠ 1 ∧ bits (s.route 1).toNat 31 30 ≠ 2)
    ∧ (let s := tS [(funcPage 0, F.HFUNC.SRIOV_STATE, 1)]
       0 < s.part.hostPorts ∧ s.fnExists 0 0 = true ∧ s.vecPend 0 0 0 = false)
    ∧ (let s : State := { tS [] with routeRuns := [0xC0000001] }
       ({ s with routeRuns := [] } : State).routeReason 1 0xC0000001 ≠ 0)
    ∧ (let s : State := { tS [] with routeRuns := [0x80000100] }
       bits (0x80000100 : Word).toNat 31 30 ≠ 1 ∧ ({ s with routeRuns := [] } : State).routeReason 0x100 0x80000100 = 0) :=
  ⟨test_mayWrite _ _ _ (by decide +kernel) (by decide +kernel), test_mayWrite _ _ _ (by decide +kernel) (by decide +kernel),
    test_mayWrite _ _ _ (by decide +kernel) (by decide +kernel), by decide +kernel⟩

theorem meets_OwnersAndPlainRegisters :
    (tS []).Reaches tR (bsyncPage + 0x18) ∧ (tS []).MayWrite tR (modePage + 0x34) ∧ (tS []).mayOwn bsyncPage ⟨0, 2⟩ = false
    ∧ (tS []).mayOwn bsyncPage tR = true ∧ (pinfoAt (headPage 0)).any (fun i => !i.fixed) = true ∧ ownerId 0x11F = true
    ∧ (tS []).enabled (headPage 0) = false ∧ (tS []).checkBusy (headPage 0) = false ∧ (tS []).armedFor (headPage 0) = none
    ∧ ((tS []).ctl (headPage 0)).wait = none ∧ (0x10000000 : Word) &&& intMask modePage = 0x10000000
    ∧ (0x10000000 : Word) &&& (tS []).rd (modePage + 0x30) = 0
    ∧ (pinfoAt modePage).any (fun i => offDefined i 0x104) = true ∧ (tS []).ownRule tR (modePage + 0x104) 0 = none
    ∧ pinfoAt 0xFFF000 = none := by
  refine ⟨test_reaches _ _ _ (by decide +kernel), test_mayWrite _ _ _ (by decide +kernel) (by decide +kernel), ?_⟩
  decide +kernel

theorem meets_TableAccess :
    (let s := tS [(layerPage 0 0, F.HDR.OWNER, 1)]
     s.MayWrite tR (layerPage 0 0 + 0x194) ∧ (pinfoAt (layerPage 0 0)).any (fun i => i.kind == .layer) = true
     ∧ s.bankBusy 0 0 0 = true ∧ s.bankBusy 0 0 3 = false
     ∧ bit (s.wr (layerPage 0 0 + 0x190) 4 |>.rd (layerPage 0 0 + 0x190)).toNat 2 = true
     ∧ 4 ≤ bits (s.wr (layerPage 0 0 + 0x190) 0x804 |>.rd (layerPage 0 0 + 0x190)).toNat 11 9)
    ∧ (let s := tS [(colPage 0, F.HDR.OWNER, 1)]
       s.MayWrite tR (colPage 0 + 0x144) ∧ (pinfoAt (colPage 0)).any (fun i => i.kind == .colour) = true
       ∧ s.lutBusy 0 0 = false
       ∧ bits (s.wr (colPage 0 + 0x140) 0x3400 |>.rd (colPage 0 + 0x140)).toNat 13 12 = 3
       ∧ 1024 < bits (s.wr (colPage 0 + 0x140) 0x401 |>.rd (colPage 0 + 0x140)).toNat 10 0) :=
  ⟨⟨test_mayWrite _ _ _ (by decide +kernel) (by decide +kernel), by decide +kernel⟩,
    ⟨test_mayWrite _ _ _ (by decide +kernel) (by decide +kernel), by decide +kernel⟩⟩

theorem meets_RequestsStand :
    (tS [(layerPage 0 0, F.HDR.OWNER, 1)]).MayWrite tR (layerPage 0 0 + 0x180)
    ∧ (tS [(headPage 0, F.HDR.OWNER, 1)]).MayWrite tR (headPage 0 + 0x12C) :=
  ⟨test_mayWrite _ _ _ (by decide +kernel) (by decide +kernel), test_mayWrite _ _ _ (by decide +kernel) (by decide +kernel)⟩

theorem meets_RastersRun :
    (let s := (tS []).modCtl (headPage 0) (fun c => { c with startDue := some 3 })
     (s.ctl (headPage 0)).startDue = some 3 ∧ (s.raster 0).on = false ∧ s.mode ≠ .safe)
    ∧ ((tS []).ctl (headPage 0)).startDue = none
    ∧ (let s := (tS [(headPage 0, F.HEAD.V_TIMING_0_ACTIVE, 4), (headPage 0, F.HEAD.V_TIMING_0_FP, 2)]).setRaster 0 ⟨true, 0, 0, 0⟩
       (s.raster 0).on = true ∧ (s.raster 0).line < s.vTotal 0
       ∧ (s.raster 0).line + 1 < s.vTotal 0 - s.get (headPage 0) F.HEAD.V_TIMING_0_ACTIVE) := by decide +kernel

theorem meets_FetchesAndLinks :
    ({ tS [] with rst := { (tS []).rst with doms := [(0x10, ⟨0, .software, 0, 0⟩)] } } : State).engineReset 0x20 = true
    ∧ (tS []).engineReset 0x20 = false
    ∧ (let s := (tS []).modLay 0 0 (fun x => { x with late := [granKey 0 0 0] })
       (s.lay 0 0).late.contains (granKey 0 0 0) = true)
    ∧ (∀ k, k < 16 → (tS []).get (dsiPage k) F.DSI.LINK_STATUS_STATE ≠ 1)
    ∧ (let s : State := { tS [(dsiPage 3, F.DSI.LINK_STATUS_CLAIMED, 1)] with links := [(3, { LinkSt.idle with wake := some 9 })] }
       (amGet (fun _ => LinkSt.idle) s.links 3).wake = some 9 ∧ s.flag (dsiPage 3) F.DSI.LINK_STATUS_CLAIMED = true)
    ∧ (tS []).flag (dsiPage 3) F.DSI.LINK_STATUS_CLAIMED = false := by decide +kernel

theorem meets_FedStreams :
    (let s := (tE [cvuPage 2] [(cvuPage 2, F.HDR.OWNER, 1), (cvuPage 2, F.CVU.SRC_CFG_SOURCE, 2)]).setCvu 2 ⟨true, 0, none⟩
     s.MayWrite tR (cvuPage 2 + 0x134) ∧ s.MayWrite tR (cvuPage 2 + 0x138) ∧ s.cvuFed 2 = true ∧ (s.cvu 2).isOpen = true
     ∧ s.cvCompare (cvuPage 2 + 0x100) = false)
    ∧ (let s := tE [cvuPage 2] [(cvuPage 2, F.CVU.SRC_CFG_SOURCE, 2), (cvuPage 2, F.CVU.CV_CFG_FOLD_EN, 0)]
       s.cvuFed 2 = false ∧ s.enabled (cvuPage 2) = true ∧ s.get (cvuPage 2) F.CVU.SRC_CFG_SOURCE = 2
       ∧ (s.cvu 2).isOpen = false ∧ s.cvFold (cvuPage 2 + 0x100) = false) :=
  ⟨⟨test_mayWrite _ _ _ (by decide +kernel) (by decide +kernel), test_mayWrite _ _ _ (by decide +kernel) (by decide +kernel),
    by decide +kernel⟩, by decide +kernel⟩

/-- A render engine that has this one job. -/
def tG (j : Job) (p : List Nat) (l : List (Nat × Fld × Nat)) : State :=
  { tE p l with gfx := { GfxSt.idle with jobs := [j] } }

/-- A wait fence of 0xFFFF, and one workgroup of a compute job. -/
def tNoWait : Nat := 0xFFFF * 2 ^ (8 * 24)
def tOneGroup : Nat := 0x100 + 2 ^ (8 * 56) + 2 ^ (8 * 58) + 2 ^ (8 * 60)

theorem meets_JobsAreFetched :
    (let s := tG (tJ 0 [] .fetch) [] []
     s.job 7 = some (tJ 0 [] .fetch) ∧ (tJ 0 [] .fetch).phase = .fetch ∧ (tJ 0 [] .ready).phase ≠ .fetch
     ∧ (s.modJob 7 (fun j => { j with d := 0 })).jobOk 0x11 0xFF = false)
    ∧ (tG (tJ 0 [] .fetch) [] []).jobOk 0x11 (0x10001 + 2 ^ (8 * 14) + 2 ^ (8 * 22) + tNoWait + 0xFFFF * 2 ^ (8 * 26)) = true := by decide +kernel

theorem meets_JobsBecomeReady :
    (let j := tJ (2 ^ (8 * 28)) [] .waiting
     (tG j [] []).job 7 = some j ∧ j.f 24 2 ≠ 0xFFFF ∧ ((tG j [] []).fence (j.f 24 2)).value.toNat < j.f 28 8)
    ∧ (let j := tJ (tNoWait + 0x010000) [] .waiting
       let s := tG j [fePage] [(schedPage, F.GSCHED.SAVE_BASE_LO.at 1, 1)]
       s.job 7 = some j ∧ j.phase = .waiting ∧ j.f 24 2 = 0xFFFF ∧ s.gfx.flushing = false ∧ s.feRuns = true ∧ j.f 2 1 ≠ 0
       ∧ s.saveBase (j.tag - 0x10) ≠ 0 ∧ (tG j [fePage] []).saveBase (j.tag - 0x10) = 0)
    ∧ (let j := tJ (tNoWait + 0x1F000000) [] .waiting
       j.f 2 1 = 0 ∧ (tG j [fePage] []).part.heads ≤ j.f 3 1)
    ∧ (tJ 0 [] .ready).phase ≠ .waiting ∧ ({ tS [] with gfx := { GfxSt.idle with flushing := true } } : State).gfx.flushing = true :=
  by decide +kernel

theorem meets_CoresAreGivenUnits :
    ({ tS [] with mode := .safe } : State).mode = .safe
    ∧ (let s := tG { tJ tOneGroup [] .ready with cls := 1 } [fePage, gcorePage 0, tenPage 1] [(tenPage 1, F.TEN.SHADER_SHARE, 1), (fePage, F.GFE.CORE_MASK, 1)]
       s.mode ≠ .safe ∧ (upto 0 24).find? s.gsettle.coreFree = some 0 ∧ s.gsettle.nextJob.isSome = true
       ∧ (s.gsettle.applyPoint (gcorePage 0) s.gsettle.now 0).enabled (gcorePage 0) = true)
    ∧ (tS []).gsettle.nextJob = none
    ∧ (tS []).savedOf 7 = none ∧ (tJ tOneGroup [] .ready).nextUnit = some (.group 0)
    ∧ (tJ 0 [⟨BitVec.ofNat 2048 (2 ^ 32 + 2 ^ 48), true, 0, 0, [], false, []⟩] .ready).nextUnit = some (.tile 0 0) := by decide +kernel

theorem meets_Binning :
    (let q : PassSt := ⟨BitVec.ofNat 2048 (2 ^ (8 * 16)), false, 0, 0, [], false, []⟩
     let j := tJ 0 [q] .ready
     (tG j [] []).job 7 = some j ∧ j.phase = .ready ∧ j.binning = some (0, q) ∧ q.draw < byteF q.d.toNat 16 4)
    ∧ (let q : PassSt := ⟨0, false, 0, 0, [], false, []⟩
       (tJ 0 [q] .ready).binning = some (0, q) ∧ q.draw = byteF q.d.toNat 16 4 ∧ byteF q.d.toNat 32 5 = 0)
    ∧ (let p := 2 ^ (8 * 32)
       byteF p 32 5 ≠ 0 ∧ byteF p 4 2 * byteF p 6 2 * passSamples p * passSample p ≤ byteF p 40 4) := by decide +kernel

theorem meets_TilesAndWorkgroups :
    (let d := 2 ^ (8 * (attOff 0 + 9))
     (0 : Nat) ≠ 4 ∧ bit (attF d 0 9 1) 0 = true ∧ bit (attF d 0 9 1) 1 = false ∧ attF d 0 8 1 = 0
     ∧ (tS [(sigPage, F.GSIG.SIG_CFG, 1)]).flag sigPage F.GSIG.SIG_CFG = true)
    ∧ ((tS []).gcore 5).unit = none
    ∧ (let j := tJ 0 [⟨0, true, 0, 1, [], false, [[]]⟩] .ready
       let s := (tG j [] []).setGcore 5 ⟨some (7, .tile 0 0), 0, none, false, 0, []⟩
       (s.gcore 5).unit = some (7, .tile 0 0) ∧ s.job 7 = some j ∧ j.passes[0]?.isSome = true ∧ s.mayStore 5 = true)
    ∧ (let j := tJ tOneGroup [] .ready
       let s := (tG j [] []).setGcore 5 ⟨some (7, .group 0), 0, none, false, 0, []⟩
       (s.gcore 5).unit = some (7, .group 0) ∧ s.job 7 = some j) := by decide +kernel

theorem meets_JobsEnd :
    (tJ 0 [] .ready).phase ≠ .done ∧ (tG (tJ 0 [] .done) [] []).job 7 = some (tJ 0 [] .done)
    ∧ (((tG (tJ 0 [] .done) [] []).gsettle).l2Tag 7 0x11 false).job 7 = some (tJ 0 [] .done) := by decide +kernel

theorem meets_HangsPreemptionAndMisses :
    (let s := (tG (tJ 0 [] .ready) [] []).setGcore 5 ⟨some (7, .group 0), 0, some 4, false, 0, []⟩
     (s.gcore 5).unit = some (7, .group 0) ∧ (s.gcore 5).preempt = some 4 ∧ (s.gcore 5).late = false
     ∧ s.job 7 = some (tJ 0 [] .ready))
    ∧ ((tS []).gcore 5).preempt = none ∧ (tJ 0 [] .done).phase ≠ .ready ∧ (tJ 0 [] .done).cls ≠ 0
    ∧ (let j := { tJ 0 [] .ready with cls := 0 }
       (tG j [] []).job 7 = some j ∧ j.phase = .ready ∧ j.cls = 0
       ∧ ((((tG j [] []).waitTo j.tgt).gsettle).costTouch j).job 7 = some j) := by decide +kernel

theorem meets_FlushesOfTheEngine :
    (tS [(l2Page, F.HDR.OWNER, 1)]).MayWrite tR (l2Page + 0x140) ∧ (tS [(schedPage, F.HDR.OWNER, 1)]).MayWrite tR (schedPage + 0x1C0)
    ∧ ({ tS [] with gfx := { GfxSt.idle with flushing := true } } : State).gfx.flushing = true ∧ (tS []).gfx.flushing = false :=
  ⟨test_mayWrite _ _ _ (by decide +kernel) (by decide +kernel), test_mayWrite _ _ _ (by decide +kernel) (by decide +kernel),
    by decide +kernel⟩

theorem meets_TouchRestarts :
    (let s := (tS []).modPanel 1 (fun x => { x with startAt := some 4, retryAt := some 9 })
     (s.panel 1).startAt = some 4 ∧ (s.panel 1).retryAt = some 9)
    ∧ ((tS []).panel 1).startAt = none ∧ ((tS []).panel 1).retryAt = none
    ∧ (let s := (tS [(panelPage 1, F.PANEL.PANEL_STATE_STATE, 1)]).modPanel 1 (fun x => { x with rst := some (0, 0, false) })
       s.panelState 1 = 1 ∧ (s.panel 1).rst = some (0, 0, false))
    ∧ (let s := (tS [(panelPage 1, F.PANEL.PANEL_STATE_STATE, 1)]).modPanel 1 (fun x => { x with rst := some (0, 5, true) })
       (s.panel 1).rst = some (0, 5, true))
    ∧ (let f : TFrame := ⟨0, 6400, 3, 0, 1, false, 0, false, []⟩
       let s := (tS [(panelPage 1, F.PANEL.PANEL_STATE_STATE, 3)]).modPanel 1 (fun x => { x with frame := some f })
       s.panelState 1 ≠ 1 ∧ (s.panel 1).frame = some f ∧ f.next < f.n + 2) := by decide +kernel

theorem meets_PanelCommands :
    (let s := tS [(panelPage 1, F.HDR.OWNER, 1)]
     s.MayWrite tR (panelPage 1 + 0x1A0)
     ∧ (s.wr (panelPage 1 + 0x1A0) (s.rd (panelPage 1 + 0x1A0) ||| 1)).panelState 1 ≠ 5)
    ∧ (tS [(panelPage 1, F.PANEL.PANEL_STATE_STATE, 5)]).panelState 1 = 5 :=
  ⟨⟨test_mayWrite _ _ _ (by decide +kernel) (by decide +kernel), by decide +kernel⟩, by decide +kernel⟩

theorem meets_TouchFrames :
    (let f : TFrame := ⟨0, 6400, 3, 0, 1, false, 5, true, []⟩
     let s := (tS []).modPanel 1 (fun x => { x with frame := some f })
     let u := (s.put64 (panelPage 1) F.PANEL.LAST_B_LO 16000).modPanel 1 (fun x => { x with frame := none })
     let v := (u.stat (panelPage 1) 2).modPanel 1 (fun x => { x with bads := (u.panel 1).bads + 1 })
     (s.panel 1).frame = some f ∧ f.n + 2 ≤ f.next ∧ f.bad = true ∧ f.t0 + f.step + f.n * f.step / 2 = 16000
     ∧ (u.panel 1).bads + 1 < v.pf 1 F.PANEL.FOLLOW_CFG_LOSS_FRAMES)
    ∧ (let s := (tS []).modPanel 1 (fun x => { x with bads := 255 })
       s.pf 1 F.PANEL.FOLLOW_CFG_LOSS_FRAMES ≤ (s.panel 1).bads + 1)
    ∧ ((tS []).panel 1).frame = none
    ∧ (let s := (tE [panelPage 1] [(panelPage 1, F.PANEL.PANEL_STATE_STATE, 3)]).modPanel 1 (fun x => { x with nextAt := some 64 })
       let v := s.frameProcessed 1
       let u := (v.waitTo 64).applyPoint (panelPage 1) 64 (v.pf 1 F.PANEL.FRAME_SEQ + 1)
       (v.panel 1).frame = none ∧ (v.panel 1).nextAt = some 64 ∧ max 64 v.now = 64 ∧ u.enabled (panelPage 1) = true
       ∧ u.panelState 1 ≠ 1 ∧ u.pf 1 F.PANEL.PANEL_CMD_RESTART ≠ 1)
    ∧ (let s := (tS [(panelPage 1, F.PANEL.PANEL_STATE_STATE, 4), (panelPage 1, F.PANEL.DOZE_TICKS, 99000000)]).modPanel 1 (fun x =>
         { x with nextAt := some 99000000 })
       (s.panel 1).frame = none ∧ (s.panel 1).nextAt = some 99000000 ∧ s.panelState 1 = 4
       ∧ 99000000 - s.pf 1 F.PANEL.DOZE_TICKS + s.pf 1 F.PANEL.STEP_CFG_STEP_TICKS + ((s.panel 1).keep + 1) * 24576000 < 99000000) := by
  decide +kernel

theorem meets_HapticPorts :
    ((tS []).hpt 1).nextAt = none ∧ ((tS []).hpt 1).retryAt = none
    ∧ (let s := (tS []).modHpt 1 (fun x => { x with nextAt := some 7, retryAt := some 9 })
       (s.hpt 1).nextAt = some 7 ∧ (s.hpt 1).retryAt = some 9 ∧ (s.waitTo 7).hptMustStop 1 = false
       ∧ ((s.waitTo 7).hptStandby 1).stby = .none ∧ (((s.waitTo 7).hptStandby 1).hpt 1).stopped = false
       ∧ ((s.waitTo 7).hptStandby 1).get (hportPage 1) F.HPORT.PORT_CMD ≠ 1)
    ∧ (let s := (tS []).modHpt 1 (fun x => { x with nextAt := some 7, stopping := some 0 })
       (((s.waitTo 7).hptStandby 1).hpt 1).stopped = true)
    ∧ (∀ v, v < 4 → (tS [(hportPage 1, F.HPORT.PORT_STATE_STATE, v)]).hptState 1 = v)
    ∧ (tS [(hportPage 1, F.HPORT.VER_STATUS_CHOSEN, 2)]).get (hportPage 1) F.HPORT.VER_STATUS_CHOSEN = 2
    ∧ (tS [(hportPage 1, F.HDR.OWNER, 1)]).MayWrite tR (hportPage 1 + 0x1A0) :=
  ⟨by decide +kernel, by decide +kernel, by decide +kernel, by decide +kernel, by decide +kernel, by decide +kernel,
    test_mayWrite _ _ _ (by decide +kernel) (by decide +kernel)⟩

/-- A descriptor of one TONE segment of one sample, and one whose first byte is wrong. -/
def tEff (b : Byte) : List Byte :=
  [b, 1] ++ List.replicate 14 0 ++ [1] ++ List.replicate 7 0 ++ [1] ++ List.replicate 103 0
def tEffSt (b : Byte) : State :=
  { ((tD [] []).mwrite ⟨0x62, 1, 0, 128, true, false, false⟩ (tEff b)).1 with effLoad := some (3, 1, 0) }

theorem meets_EffectStore :
    (let s := tS [(hapPage, F.HDR.OWNER, 1), (hapPage, F.HAP.STORE_SEL, 3), (hapPage, F.HAP.STORE_OWNER, 1)]
     s.MayWrite tR (hapPage + 0x110) ∧ s.flag hapPage F.HAP.STORE_RESULT_BUSY = false
     ∧ s.get64 hapPage F.HAP.STORE_ADDR_LO % (1 <<< 40) % 64 = 0 ∧ s.get hapPage F.HAP.STORE_OWNER = 1
     ∧ s.bufOk 0x62 1 false 0 128 false = true ∧ s.effInUse 3 = false)
    ∧ (tS [(hapPage, F.HAP.STORE_RESULT_BUSY, 1)]).flag hapPage F.HAP.STORE_RESULT_BUSY = true
    ∧ ((tS []).modHch 2 (fun x => { x with queued := some ⟨0, 0, 3, 0⟩ })).effInUse 3 = true ∧ (tS []).effLoad = none
    ∧ (let s := tEffSt 1
       s.effLoad = some (3, 1, 0) ∧ ({ s with effLoad := none }.mread ⟨0x62, 1, 0, 128, false, false, false⟩).2 = some (tEff 1, 0)
       ∧ (⟨1, BitVec.ofNat 1024 (bytesNat (tEff 1))⟩ : Effect).fault = none)
    ∧ (let s := tEffSt 2
       ({ s with effLoad := none }.mread ⟨0x62, 1, 0, 128, false, false, false⟩).2 = some (tEff 2, 0)
       ∧ (⟨1, BitVec.ofNat 1024 (bytesNat (tEff 2))⟩ : Effect).fault = some 0) :=
  ⟨⟨test_mayWrite _ _ _ (by decide +kernel) (by decide +kernel), by decide +kernel⟩, by decide +kernel⟩

theorem meets_HapticTriggers :
    (let s := { tE [hchanPage 2] [(hchanPage 2, F.HDR.OWNER, 1), (hportPage 0, F.HPORT.PORT_STATE_STATE, 2),
       (hapPage, F.HAP.STORE_VALID, 8)] with effects := [(3, ⟨1, BitVec.ofNat 1024 (bytesNat (tEff 1))⟩)] }
     s.MayWrite tR (hchanPage 2 + 0x130) ∧ s.trigOk 2 3 = true ∧ s.trigOk 2 4 = false
     ∧ ((s.dequeue 2).hch 2).play = none ∧ ((s.dequeue 2).effect 3).kind 0 < 3
     ∧ (⟨1, BitVec.ofNat 1024 (3 * 2 ^ 128 + 2 ^ 8)⟩ : Effect).kind 0 = 3)
    ∧ (let s := (tS []).modHch 2 (fun x => { x with play := some ⟨⟨0, 0, 3, 0⟩, 0, 0, 0, 0, 0, 0, none, 0, 0⟩ })
       ((s.dequeue 2).hch 2).play = some ⟨⟨0, 0, 3, 0⟩, 0, 0, 0, 0, 0, 0, none, 0, 0⟩) :=
  ⟨⟨test_mayWrite _ _ _ (by decide +kernel) (by decide +kernel), by decide +kernel⟩, by decide +kernel⟩

theorem meets_HapticFaults :
    (let s := tE [hportPage 0, hchanPage 2] [(hchanPage 2, F.HDR.OWNER, 1), (hportPage 0, F.HPORT.PORT_STATE_STATE, 2),
       (hchanPage 2, F.HCHAN.CHAN_STATE_STATE, 3)]
     s.MayWrite tR (hchanPage 2 + 0x134) ∧ s.hchState 2 = 3 ∧ chanPort 2 = 0 ∧ s.hptState 0 = 2
     ∧ s.flag (hportPage 0) F.HPORT.PORT_STATE_FAULT_PIN = false ∧ bit (s.get (hportPage 0) F.HPORT.PORT_STATE_STATUS_FAULT) 2 = false
     ∧ (s.put (hportPage 0) F.HPORT.PORT_STATE_FAULT_PIN 1).enabled (hportPage 0) = true ∧ s.enabled (hchanPage 2) = true)
    ∧ (tS []).hchState 2 ≠ 3 ∧ ((tS []).put (hportPage 0) F.HPORT.PORT_STATE_FAULT_PIN 1).enabled (hportPage 0) = false
    ∧ (tS []).reflexQ = []
    ∧ (let c : Contact := ⟨1, 10, 10, 0, 0, 0, 0, false, false⟩
       let w : BitVec 192 := BitVec.ofNat 192 (2 ^ 31 + 100 * 2 ^ 64 + 100 * 2 ^ 80)
       let s : State := { tE [reflexPage] [] with reflexQ := [⟨0, 0, false, [(0, c)], 0⟩], reflex := [(5, w)] }
       s.enabled reflexPage = true ∧ s.reflexQ = ⟨0, 0, false, [(0, c)], 0⟩ :: [] ∧ s.reflex = [(5, w)] ∧ bit w.toNat 31 = true
       ∧ bits w.toNat 27 26 = 0 ∧ bits w.toNat 25 24 = 0 ∧ bits w.toNat 47 32 ≤ c.x ∧ c.x < bits w.toNat 79 64
       ∧ bits w.toNat 63 48 ≤ c.y ∧ c.y < bits w.toNat 95 80) :=
  ⟨⟨test_mayWrite _ _ _ (by decide +kernel) (by decide +kernel), by decide +kernel⟩, by decide +kernel⟩

theorem meets_AudioGrid :
    ((tS []).waitTo 6400).enabled aengPage = false ∧ ((tE [aengPage] []).waitTo 6400).enabled aengPage = true
    ∧ (tS []).get abankPage F.ABANK.BANK_STATE_PHASE = 0
    ∧ (let s := tS [(abankPage, F.ABANK.BANK_STATE_PHASE, 1), (abankPage, F.ABANK.FADE_CFG, 1)]
       s.get abankPage F.ABANK.BANK_STATE_PHASE = 1 ∧ s.audio.swap = none ∧ s.get abankPage F.ABANK.FADE_CFG = 1) := by decide +kernel

theorem meets_AudioPorts :
    (∀ v ∈ upto 0 4, ∀ w ∈ upto 0 2, (let s := tS [(aportPage 1, F.APORT.PORT_STATE, v), (aportPage 1, F.APORT.PORT_CFG_ROLE, w)]
      s.af 1 F.APORT.PORT_STATE = v ∧ s.af 1 F.APORT.PORT_CFG_ROLE = w
      ∧ (s.edgeLate 1).af 1 F.APORT.PORT_STATE = v ∧ (s.edgeLate 1).af 1 F.APORT.PORT_CFG_ROLE = w)) := by decide +kernel

theorem meets_ProgramBanks :
    (let s := tS [(abankPage, F.HDR.OWNER, 1), (abankPage, F.ABANK.LOAD_SIZE, 64)]
     s.MayWrite tR (abankPage + 0x10C) ∧ s.audio.load = none ∧ s.swapping = false
     ∧ s.get64 abankPage F.ABANK.LOAD_ADDR_LO % (1 <<< 40) % 64 = 0 ∧ s.get abankPage F.ABANK.LOAD_SIZE = 64
     ∧ s.bufOk 0x60 (s.owner abankPage) false 0 64 false = true)
    ∧ (tS [(abankPage, F.ABANK.LOAD_SIZE, 4)]).get abankPage F.ABANK.LOAD_SIZE % 8 ≠ 0
    ∧ (tS [(abankPage, F.ABANK.BANK_STATE_PHASE, 1)]).swapping = true
    ∧ ((tS []).modAudio (fun a => { a with load := some (0, 64) })).audio.load = some (0, 64)
    ∧ (let s := (tD [] [(abankPage, F.HDR.OWNER, 1)]).modAudio (fun a => { a with load := some (0, 64) })
       ((s.modAudio (fun x => { x with load := none })).mread ⟨0x60, 1, 0, 64, false, false, false⟩).2 = some (List.replicate 64 0, 0)
       ∧ (bankFaults 64 (List.replicate 64 0)).foldl (fun (m : Option Nat) i => some (min i (m.getD i))) none = some 0)
    ∧ bankFaults 328 (natBytes 4 0x4B4E4241 ++ [1, 0, 1, 0, 0, 0, 0, 0, 0, 0, 0, 0] ++ natBytes 4 64 ++ natBytes 4 192 ++ natBytes 4 64
        ++ natBytes 4 64 ++ natBytes 4 64 ++ natBytes 4 320 ++ natBytes 4 64 ++ List.replicate 284 0) = [] :=
  ⟨⟨test_mayWrite _ _ _ (by decide +kernel) (by decide +kernel), by decide +kernel⟩, by decide +kernel⟩

theorem meets_PlayersAndTriggers :
    (let s := tE [aengPage] [(aengPage, F.HDR.OWNER, 1)]
     s.MayWrite tR (aengPage + 0x110) ∧ s.enabled aengPage = true)
    ∧ (∃ i, (tS [(asrcPage, F.HDR.OWNER, 1)]).MayRead tR (asrcPage + 0xF40) i)
    ∧ (tS []).enabled aengPage = false ∧ (tS []).flag aengPage (F.AENG.TRIG_VALID.at 5) = false ∧ ((tS []).player 2).pre = false
    ∧ (let s := (tS [(aengPage, F.AENG.PLAY_FRAMES.at 2, 1)]).setPlayer 2 { PlayerSt.idle with pre := true }
       (s.player 2).pre = true ∧ (s.earcon 2 0 (min 2048 (s.plf 2 F.AENG.PLAY_FRAMES))).2.isNone = true)
    ∧ (let s := (tD [] [(aengPage, F.AENG.PLAY_FRAMES.at 2, 1), (aengPage, F.AENG.PLAY_CFG_OWNER.at 2, 1)]).setPlayer 2 { PlayerSt.idle with pre := true }
       (s.earcon 2 0 (min 2048 (s.plf 2 F.AENG.PLAY_FRAMES))).2.isSome = true) :=
  ⟨⟨test_mayWrite _ _ _ (by decide +kernel) (by decide +kernel), by decide +kernel⟩,
    ⟨_, test_mayRead _ _ _ _ rfl (by decide +kernel)⟩, by decide +kernel⟩

/-- DRAM in service, and a channel in this state with this queue. -/
def tQ (q : List DramRq) (f : DChan → DChan) (l : List (Nat × Fld × Nat)) : State :=
  ((tD [] l).modDc (fun d => { d with queue := q })).modDchan 0 f

/-- A read of 64 bytes at 0 by the panel's engine. -/
def tRq : DramRq := ⟨⟨0x62, 1, 0, 64, false, false, false⟩, 0, [], 1, 0, false, false⟩

theorem meets_DramRequests :
    (let s := tD [] [(hchanPage 0, F.HDR.OWNER, 1)]
     let rq : MemRq := ⟨0x62, 1, 0, 64, false, false, false⟩
     let v := s.dramNote rq 0
     s.engineRuns 0x62 = true ∧ s.engineTag 0x62 1 = true ∧ v.potBlocks rq = false ∧ (v.judge rq).2 = some 0
     ∧ remoteAddr rq.addr = false ∧ s.enabled dglobPage = true
     ∧ s.chanState (s.rqChan ⟨rq, 0, [], s.dramCls rq 0, s.now, false, false⟩) = 2 ∧ s.swept (granuleOf 0) = false
     ∧ (s.setSwept 0).swept (granuleOf 0) = true)
    ∧ (let s : State := { tD [] [] with potRun := some ⟨0, 1, 0⟩ }
       s.potBlocks ⟨0x62, 1, 0, 64, false, false, false⟩ = true)
    ∧ (let rq : MemRq := ⟨0x62, 1, 0, 64, false, false, false⟩
       let w : MemRq := ⟨0x62, 1, 64, 64, false, false, false⟩
       let s := ((tD [] []).dramNote rq 3).dramNote w 3
       s.dramOldest 0x62 3 = some (rq, 3) ∧ w ≠ rq ∧ s.dc.held = [])
    ∧ (tS []).engineTag 0x62 0x1F = false ∧ ((tD [] []).judge ⟨0x62, 0x11, 0, 64, false, false, false⟩).2 = none
    ∧ (tS []).enabled dglobPage = false := by decide +kernel

theorem meets_DramChannels :
    (let s := tQ [tRq] id [(dpowerPage, F.DPOWER.PD_CFG_PD_EN, 1), (dpowerPage, F.DPOWER.SR_CFG_SR_EN, 1)]
     s.chanState 0 = 2 ∧ (s.dchan 0).sr = none ∧ (s.dramCands 0)[0]? = some tRq ∧ s.rqChan tRq = 0 ∧ ctrGet (s.dchan 0).post 0 < 7
     ∧ s.flag dpowerPage F.DPOWER.PD_CFG_PD_EN = true ∧ bit (s.dchan 0).pd 0 = false
     ∧ s.flag dpowerPage F.DPOWER.SR_CFG_SR_EN = true
     ∧ (s.dc.queue.filter (fun q => s.rqChan q == 0 && q.cls != 0 && !q.prom)).foldl (fun (m : Option DramRq) q =>
      match m with
      | some x => if q.arr + s.ageOf q.cls < x.arr + s.ageOf x.cls then some q else m
      | none => some q) none = some tRq)
    ∧ (let s := tQ [] id []
       (s.dramCands 0)[0]? = none ∧ s.dc.queue.filter (fun q => s.rqChan q == 0 && q.cls != 0 && !q.prom) = []
       ∧ s.dc.queue.any (fun q => s.rqChan q == 0) = false ∧ s.stby = .none
       ∧ ({ s with stby := .entry 4 false } : State).stby = .entry 4 false
       ∧ (s.waitTo (s.dchan 0).oscAt).tMinFar (1024 + (s.waitTo (s.dchan 0).oscAt).get dpowerPage F.DPOWER.WAKE_GUARD) = true)
    ∧ (let s := tQ [] (fun x => { x with post := [(0, 7)] }) []
       7 ≤ ctrGet (s.dchan 0).post (0 * 16 + 0))
    ∧ (let s := tQ [tRq] (fun x => { x with sr := some 9 }) []
       (s.dchan 0).sr = some 9 ∧ (s.dc.queue.filter (fun q => s.rqChan q == 0)).any (fun q => q.cls == 1 || q.cls == 2) = true)
    ∧ (tS []).chanState 0 ≠ 2 := by decide +kernel

theorem meets_DramTrainingSweepErrors :
    (tS [(chanPage 3, F.DCHAN.CHAN_STATE_STATE, 1)]).chanState 3 = 1 ∧ (tS [(chanPage 3, F.DCHAN.CHAN_STATE_STATE, 1)]).chanState 3 ≠ 2
    ∧ (tS []).flag dsweepPage F.DSWEEP.SWEEP_STATE_ACTIVE = false
    ∧ (let s := (tS [(dsweepPage, F.DSWEEP.SWEEP_STATE_ACTIVE, 1)]).modDc (fun d => { d with sweep := { d.sweep with cur := [5] } })
       s.flag dsweepPage F.DSWEEP.SWEEP_STATE_ACTIVE = true ∧ s.dc.sweep.cur.contains 5 = true ∧ s.dc.sweep.cur.contains 6 = false)
    ∧ ((tQ [tRq] id []).dramCands 0).head? = some tRq ∧ (tQ [tRq] id []).chanState 0 = 2
    ∧ (tS []).MayWrite tR (deccPage + 0x10C) ∧ (tS []).Reaches ⟨0, 0x10⟩ (deccPage + 0x10C) :=
  ⟨by decide +kernel, by decide +kernel, by decide +kernel, by decide +kernel, by decide +kernel, by decide +kernel,
    test_mayWrite _ _ _ (by decide +kernel) (by decide +kernel), test_reaches _ _ _ (by decide +kernel)⟩

theorem meets_IntegrityEngine :
    (let s := tE [mscrubPage] [(mscrubPage, F.MSCRUB.AUDIT_CFG_AUDIT_EN, 1), (mscrubPage, F.MSCRUB.K_SCRUB_CFG_K_SCRUB_EN, 1),
       (mscrubPage, F.MSCRUB.SCRUB_CFG_SCRUB_EN, 1)]
     s.enabled mscrubPage = true ∧ s.flag mscrubPage F.MSCRUB.AUDIT_CFG_AUDIT_EN = true ∧ s.pMode = true ∧ s.mem.auditOn = false
     ∧ s.flag mscrubPage F.MSCRUB.K_SCRUB_CFG_K_SCRUB_EN = true ∧ s.flag mscrubPage F.MSCRUB.SCRUB_CFG_SCRUB_EN = true)
    ∧ (tS [(mscrubPage, F.HDR.STATUS_ENABLED, 0)]).enabled mscrubPage = false
    ∧ (let s : State := { tS [] with mem := { (tS []).mem with auditOn := true } }
       s.mem.auditOn = true ∧ s.pMode = true ∧ ({ s with mode := .safe } : State).pMode = false ∧ (s.classS.find? (fun x => decide (s.get mscrubPage F.MSCRUB.AUDIT_STATE_BANK < x))).isSome = true)
    ∧ (tS [(mscrubPage, F.MSCRUB.AUDIT_STATE_BANK, 255)]).classS.find? (fun x => decide (255 < x)) = none
    ∧ (let s := tD [mscrubPage] []
       s.flag (pg 0x30 5) F.DSWEEP.SWEEP_STATE_DONE = true ∧ s.enabled dglobPage = true ∧ s.vBytes ≠ 0)
    ∧ (tE [bucketPage] []).enabled bucketPage = true ∧ (tS [(bucketPage, F.HDR.STATUS_ENABLED, 0)]).enabled bucketPage = false
    ∧ (tS []).MayWrite tR (logPage + 0x104) :=
  ⟨by decide +kernel, by decide +kernel, by decide +kernel, by decide +kernel, by decide +kernel, by decide +kernel,
    by decide +kernel, test_mayWrite _ _ _ (by decide +kernel) (by decide +kernel)⟩

/-- An event of source 3 in its aggregator. -/
def tEv : Ev := ⟨3, 1, 0, 0, 1, 0⟩
def tAg (l : List (Nat × Fld × Nat)) : State := (tS l).setAggr 0 [tEv]

theorem meets_FaultsAreTaken :
    (let s := tS []
     let u := (s.incSat (srcBank 3) (F.FBANK.SRC_COUNT_HITS.at 3)).setRaised 3
     (srcInfo 3).any (fun i => i.home == 0) = true ∧ srcPresent s.part 3 = true ∧ s.mode ≠ .off ∧ s.mode ≠ .backup
     ∧ (u.maskedBy 0 3 1).isSome = false ∧ bit (u.srcCfg 3) 5 = true ∧ u.srcPending 3 = false ∧ s.nextAggr = none)
    ∧ bit ((tS [(srcBank 3, F.FBANK.SRC_CFG_ENABLE.at 3, 0)]).srcCfg 3) 5 = false
    ∧ (let s := tAg []
       let u := ({ s.setAggr 0 [] with flt := { (s.setAggr 0 []).flt with rr := 1 } }).put (srcBank 3) (F.FBANK.SRC_COUNT_PENDING.at 3) 0
       let v := bits (u.srcCfg 3) 7 6
       let w := (u.stat fcollPage v).stat (srcBank 3) 0
       s.flt.dead = false ∧ s.nextAggr = some 0 ∧ s.aggr 0 = [tEv] ∧ w.maskedBy 0 3 1 = none ∧ w.active v = 0
       ∧ w.slotValid v = false ∧ v < 2)
    ∧ ({ tS [] with flt := ⟨[], 0, [⟨1, .domain 0, 0, none⟩], false, false, none⟩ } : State).maskedBy 0 3 1 = some ⟨1, .domain 0, 0, none⟩
    ∧ ({ tS [] with flt := ⟨[], 0, [], true, false, none⟩ } : State).flt.dead = true
    ∧ ([⟨1, .core 2, 0, none⟩] : List BReact).find? (fun b => b.rel.isNone && b.tgt != .secure) = some ⟨1, .core 2, 0, none⟩
    ∧ ([⟨1, .domain 2, 0, some 5⟩] : List BReact).find? (fun b => b.rel.isSome) = some ⟨1, .domain 2, 0, some 5⟩
    ∧ isDomain 0x10 = true ∧ (srcInfo (bits (0x80000003 : Word).toNat 8 0)).isSome = true
    ∧ (tS [(fcollPage, F.FCOLL.COLL_STATE_NMI_OPEN, 1)]).get fcollPage F.FCOLL.COLL_STATE_NMI_OPEN ≠ 0
    ∧ ((tS [(fcollPage, F.FCOLL.COLL_STATE_NMI_OPEN, 1)]).put fcollPage F.FCOLL.COLL_STATE_NMI_OPEN (1 &&& (15 ^^^ (1 <<< 0)))).get
      fcollPage F.FCOLL.COLL_STATE_NMI_OPEN = 0
    ∧ (∀ p ∈ upto 0 4, ({ tS [] with mode := .safe, safeRun := true } : State).get (aportPage p) F.APORT.PORT_STATE ≠ 1)
    ∧ (tS []).rst.chip = none ∧ ({ tS [] with safeRun := true } : State).safeRun = true
    ∧ (tS []).MayWrite ⟨0x80, 1⟩ (fcollPage + 0x108) ∧ (tS []).MayWrite tR (fcollPage + 0x110) ∧ (tS []).MayWrite tR (fcapPage + 0x200) :=
  ⟨by decide +kernel, by decide +kernel, by decide +kernel, by decide +kernel, by decide +kernel, by decide +kernel, by decide +kernel,
    by decide +kernel, by decide +kernel, by decide +kernel, by decide +kernel, by decide +kernel, by decide +kernel, rfl,
    test_mayWrite _ _ _ (by decide +kernel) (by decide +kernel), test_mayWrite _ _ _ (by decide +kernel) (by decide +kernel),
    test_mayWrite _ _ _ (by decide +kernel) (by decide +kernel)⟩

theorem meets_ChipResets :
    (let s := tS []
     (s.mode ≠ .off ∧ s.mode ≠ .backup ∧ s.mode ≠ .load ∧ s.mode ≠ .recovery ∧ s.mode ≠ .safe ∧ s.mode ≠ .boot) ∧ s.rst.chip = none
     ∧ s.srcLevel 4 = 1 ∧ 2 ≤ s.srcLevel 3 ∧ s.srcLevel 12 = 0 ∧ s.rst.resetN = false ∧ s.mayReset tR = true
     ∧ s.mayReset ⟨0, 0x11⟩ = false ∧ s.get worldsPage F.WORLDS.DBG_CFG_TAG = 0)
    ∧ (tS [(worldsPage, F.WORLDS.DBG_CFG_TAG, 1)]).get worldsPage F.WORLDS.DBG_CFG_TAG ≠ 0
    ∧ (let s : State := { tS [(srcsPage, F.SOURCES.BOOT_LIMIT, 9)] with mode := .boot }
       s.mode = .boot ∧ s.get srcsPage F.SOURCES.BOOT_LIMIT ≠ 0)
    ∧ (let s := (tS [(portPage 1, F.HOSTP.PORT_INFO_UP, 1)]).setPort 1 { (tS []).port 1 with perst := false }
       (s.port 1).perst = false ∧ 1 < s.part.hostPorts ∧ s.flag (portPage 1) F.HOSTP.PORT_INFO_UP = true)
    ∧ (tS []).flag (portPage 1) F.HOSTP.PORT_INFO_UP = false
    ∧ (let s : State := { tS [] with rst := { (tS []).rst with chip := some (.warm, 3) } }
       s.rst.chip = some (.warm, 3) ∧ s.rst.resetN = false ∧ s.rst.rootAbsent = false ∧ s.safeRun = false ∧ s.rst.testEn = false)
    ∧ (tS []).Reaches tR (srcsPage + 0x108) :=
  ⟨by decide +kernel, by decide +kernel, by decide +kernel, by decide +kernel, by decide +kernel, by decide +kernel,
    test_reaches _ _ _ (by decide +kernel)⟩

theorem meets_DomainAndBlockResets :
    (tS []).Reaches ⟨0, 0x10⟩ (blockreqPage + 0x100) ∧ gateWriter ⟨0, 0x10⟩ = true ∧ gateWriter tR = false ∧ isDomain 0x10 = true
    ∧ domPresent (tS []).part 0x10 = true ∧ noDomReset.contains 0x10 = false ∧ isDomain 5 = true ∧ domPresent (tS []).part 5 = true
    ∧ noDomReset.contains 5 = true ∧ (tS []).domReset 0x10 = none ∧ (tS []).srcLevel 13 = 0
    ∧ ({ tS [] with mode := .recovery } : State).recHolds 0x10 = true
    ∧ (tS [(srcsPage, F.SOURCES.SRC_LEVEL, 0x04000000)]).srcLevel 13 = 1 ∧ (tS [(srcsPage, F.SOURCES.SRC_LEVEL, 0x08000000)]).srcLevel 13 = 2
    ∧ (let s : State := { tS [] with rst := { (tS []).rst with doms := [(0x10, ⟨0, .software, 0, 0⟩)] } }
       s.domReset 0x10 = some ⟨0, .software, 0, 0⟩ ∧ s.recHolds 0x10 = false ∧ ((s.waitTo (0 + 3072)).setGated 0x10 false).domClockOk 0x10 = true)
    ∧ (let s := (tS []).modCtl (pageBase 0x100) (fun c => { c with inReset := some (tR, 0) })
       (pinfoAt (pageBase 0x100)).any (fun i => i.kind != .ten) = true ∧ (s.ctl (pageBase 0x100)).inReset = some (tR, 0)
       ∧ (s.setGated (domOf (pageBase 0x100)) false).domClockOk (domOf (pageBase 0x100)) = true)
    ∧ ((tS []).ctl (pageBase 0x100)).inReset = none :=
  ⟨test_reaches _ _ _ (by decide +kernel), by decide +kernel⟩

theorem meets_OptionsAndOtp :
    (let s := State.reset
     s.mode = .load ∧ s.rst.loading = true ∧ s.rst.chip = none ∧ (true || s.loadOptions.loadBad) = true
     ∧ s.loadOptions.rst.fails < 2 ∧ s.loadOptions.loadBad = false)
    ∧ (tS []).mode ≠ .load ∧ (tS []).rst.retryAt = none
    ∧ ({ State.reset with rst := { State.reset.rst with retryAt := some 9, bist := true } } : State).rst.retryAt = some 9
    ∧ ({ State.reset with rst := { State.reset.rst with retryAt := some 9, bist := true } } : State).rst.bist = true
    ∧ (tS [(otpPage, F.OTP.RCV_STATE, 1)]).get otpPage F.OTP.RCV_STATE = 1
    ∧ (let s := tS [(otpPage, F.OTP.OTP_ADDR, 600)]
       s.mode = .run ∧ s.otpRun = none ∧ 16 ≤ s.get otpPage F.OTP.OTP_ADDR / 16
       ∧ s.otpWord (s.get otpPage F.OTP.OTP_ADDR) &&& ~~~(s.rd (otpPage + 0x104)) = 0)
    ∧ (tS [(otpPage, F.OTP.OTP_ADDR, 3)]).get otpPage F.OTP.OTP_ADDR / 16 < 12
    ∧ (let s : State := { tS [] with otp := [(600, 5)] }
       s.otpWord 600 &&& ~~~(4 : Word) ≠ 0)
    ∧ (let s : State := { tS [] with otpRun := some ⟨600, 5, 0⟩ }
       let u := (s.waitTo (0 + 7373)).otpPut 600 ((s.waitTo (0 + 7373)).otpWord 600 ||| ((5 : Word) &&& ~~~0))
       ({ u with otpRun := none }.put otpPage F.OTP.OTP_RESULT_BUSY 0).otpWord 600 = 5)
    ∧ ({ tS [] with mode := .recovery } : State).Reaches ⟨0, 0x10⟩ (otpPage + 0x114)
    ∧ (tS []).MayWrite tR (otpPage + 0x108) ∧ (tS []).MayWrite tR (backupPage + 0x100) :=
  ⟨by decide +kernel, by decide +kernel, by decide +kernel, by decide +kernel, by decide +kernel, by decide +kernel, by decide +kernel,
    by decide +kernel, by decide +kernel, by decide +kernel, test_reaches _ _ _ (by decide +kernel),
    test_mayWrite _ _ _ (by decide +kernel) (by decide +kernel), test_mayWrite _ _ _ (by decide +kernel) (by decide +kernel)⟩

theorem meets_SecureWorld :
    (tS []).MayWrite tR (worldsPage + 0x100) ∧ isTen 0x1F = true ∧ isTen 0x101 = false
    ∧ ((tS []).setCove 63 .sealed).cove 63 = .sealed ∧ (tS []).cove 63 ≠ .sealed
    ∧ (tS []).MayWrite tR (potPage + 0x114) ∧ (tS []).MayWrite tR (covePage + 0x300) ∧ (tS []).Reaches tR (measPage + 0x470)
    ∧ (let s := tD [] [(potPage, F.POT.POT_INDEX, 525055), (potPage, F.POT.POT_COUNT, 1)]
       s.potRun = none ∧ s.dramReady = true ∧ s.potWriteReason 525055 1 0x00010001 = 0 ∧ s.potWriteReason 525056 1 0 ≠ 0
       ∧ s.get potPage F.POT.POT_INDEX < 525056 ∧ s.potStored 525055 = true ∧ s.potCache.find? (fun e => e.1 == 525055 / 16) = none
       ∧ ({ s with potCache := [(32815, 0)] } : State).potCache.find? (fun e => e.1 == 525055 / 16) = some (32815, 0))
    ∧ ({ tS [] with potRun := some ⟨0, 1, 0⟩ } : State).potRun.isSome = true ∧ (tS []).dramReady = false
    ∧ (tS []).cove 5 = .free ∧ ((tS []).setCove 5 .building).cove 5 = .building ∧ ((tS []).setCove 5 .clearing).cove 5 = .clearing
    ∧ (let s := (tS [(covePage, F.COVE.CRANGE_VALID.at 0, 1), (covePage, F.COVE.CRANGE_COVE.at 0, 5)]).setCove 5 .building
       s.coveNamed 5 = true ∧ (((tS []).setCove 5 .building).coveNamed 5 = false)
       ∧ (∀ c ∈ upto 1 4, bit (s.ctxWord c) 31 = false))
    ∧ (tS []).mode = .run ∧ (tS []).restart.run = none :=
  ⟨test_mayWrite _ _ _ (by decide +kernel) (by decide +kernel), by decide +kernel, by decide +kernel, by decide +kernel,
    by decide +kernel, test_mayWrite _ _ _ (by decide +kernel) (by decide +kernel),
    test_mayWrite _ _ _ (by decide +kernel) (by decide +kernel), test_reaches _ _ _ (by decide +kernel), by decide +kernel⟩

theorem meets_MailboxesAndCores :
    (let s := tS [(mboxPage, F.MBOX.CHAN_OWNER.at 0, 0x10)]
     s.Reaches ⟨0, 0x10⟩ (mboxPage + 0x184) ∧ (0x10 : BitVec 12).toNat = s.get mboxPage (F.MBOX.CHAN_OWNER.at 0)
     ∧ s.MayWrite tR (mboxPage + 0x184) ∧ tR.tag.toNat ≠ s.get mboxPage (F.MBOX.CHAN_OWNER.at 0)
     ∧ s.flag mboxPage (F.MBOX.CHAN_STATE_BUSY.at 0) = false)
    ∧ (tS [(mboxPage, F.MBOX.CHAN_STATE_BUSY.at 3, 1)]).flag mboxPage (F.MBOX.CHAN_STATE_BUSY.at 3) = true
    ∧ (tS [(corePage 0, F.CORE.CORE_STATE_STATE, 1)]).coreState 0 ≠ 0 ∧ (tS []).restart.hist.length < 3
    ∧ (∃ a b h l, ({ tS [] with restart := ⟨none, [0, 0, 0], false⟩ } : State).restart.hist = a :: b :: h :: l
      ∧ (tS []).now - h < 6144000000)
    ∧ ({ tS [] with restart := ⟨some (5, .watchdog), [], false⟩ } : State).restart.run = some (5, .watchdog)
    ∧ (tS []).wdDue 1 = none
    ∧ (∃ k, ((tE [wdogPage] [(wdogPage, F.WDOG.WD_CFG_EN.at 1, 1), (wdogPage, F.WDOG.WD_CFG_TIMEOUT.at 1, 5)]).setCore 1
      { (tS []).core 1 with wdAt := some 0 }).wdDue 1 = some k)
    ∧ (tS []).Reaches ⟨0x81, 1⟩ (wdogPage + 0x104 + 8 * 1) ∧ (tS []).MayWrite tR (corePage 1 + 0x100)
    ∧ (tS []).flag (corePage 1) F.CORE.CORE_CTRL = false
    ∧ (tS [(corePage 1, F.CORE.CORE_CTRL, 1)]).flag (corePage 1) F.CORE.CORE_CTRL = true ∧ (tS []).coreState 1 = 0
    ∧ (let s := tS [(corePage 1, F.CORE.CORE_STATE_STATE, 2), (corePage 1, F.CORE.MTIMECMP_LO, 100), (corePage 1, F.CORE.MTIMECMP_HI, 0)]
       let u := s.waitTo (s.get64 (corePage 1) F.CORE.MTIMECMP_LO)
       s.coreState 1 ≠ 0 ∧ u.timerPending 1 = true ∧ u.coreState 1 = 2) :=
  ⟨⟨test_reaches _ _ _ (by decide +kernel), by decide +kernel, test_mayWrite _ _ _ (by decide +kernel) (by decide +kernel),
    by decide +kernel, by decide +kernel⟩, by decide +kernel, by decide +kernel, by decide +kernel, ⟨0, 0, 0, [], rfl, by decide +kernel⟩, rfl,
    by decide +kernel, ⟨0 + 1024 * 5, by decide +kernel⟩, test_reaches _ _ _ (by decide +kernel),
    test_mayWrite _ _ _ (by decide +kernel) (by decide +kernel), by decide +kernel⟩

/-- Function 0 of the manager's port, of tenancy 0, with its link up. -/
def tH (p : List Nat) (l : List (Nat × Fld × Nat)) : State :=
  (tE p ((portPage 0, F.HOSTP.PORT_INFO_UP, 1) :: (portPage 0, F.HOSTP.PORT_INFO_MGR, 1) :: l)).setPort 0 ⟨false, 0, false, 0⟩

/-- Ring 0 of tenancy 0 in that host's memory, in a state. -/
def tK (st : Nat) (f : RingSt → RingSt) (p : List Nat) (l : List (Nat × Fld × Nat)) : State :=
  (tH p ((ringPage 0, F.RING.RING_CFG_OWNER, 0x10) :: (ringPage 0, F.RING.RING_CFG_SPACE, 2)
    :: (ringPage 0, F.RING.RING_STATE_STATE, st) :: (ringPage 0, F.RING.RING_WR, 1) :: l)).setRing 0 (f RingSt.stopped)

/-- A RUNNING ring that holds one descriptor. -/
def tP (d : Nat) (p : List Nat) (l : List (Nat × Fld × Nat)) : State :=
  tK 1 (fun x => { x with pre := [BitVec.ofNat 512 d] }) p l

theorem meets_HostPorts :
    ((tS []).port 0).perst = true ∧ ((tH [] []).port 0).perst = false
    ∧ (let s := tH [portPage 0] []
       (s.port 0).late = false ∧ s.mode ≠ .off ∧ s.mode ≠ .backup ∧ s.rst.chip = none ∧ 0 < s.part.hostPorts
       ∧ ((s.waitTo ((s.port 0).rel + 55296000)).setPort 0 { s.port 0 with late := true }).enabled (portPage 0) = true
       ∧ s.portReady 0 = true ∧ s.fnExists 0 0 = true ∧ s.fnExists 0 15 = false
       ∧ s.flag (portPage 0) F.HOSTP.PORT_INFO_UP = true ∧ s.inReset (portPage 0) = false ∧ s.fnTen 0 0 = some 0 ∧ s.mgrPort = 0 ∧ (s.mode == .recovery) = false)
    ∧ (let s := tH [] []
       let u := (s.waitTo ((s.port 0).rel + 55296000)).setPort 0 { s.port 0 with late := true }
       s.portReady 0 = false ∧ u.enabled (portPage 0) = false ∧ u.inReset (portPage 0) = false)
    ∧ (tH [] []).ringOwner 127 ≠ 0x10 + 0
    ∧ (let s := tK 0 id [] []
       s.ringOwner 0 = 0x10 + 0 ∧ s.ringState 0 ≠ 1 ∧ s.ringState 0 ≠ 2)
    ∧ (let s := tK 1 id [] []
       s.ringState 0 = 1 ∧ s.ringSlots 0 ≤ 64 ∧ 63 < s.ringSlots 0 ∧ 255 < s.jSlots 0 ∧ s.jSlots 0 ≤ 256)
    ∧ (let s : State := { tH [potPage] [] with potCache := [(32768, 0x3010)] }
       s.poolBytesTotal < s.poolBytesTotal + 1 ∧ 0x7FFFFFFFF + 1 ≤ 0x800000000
       ∧ (s.mread ⟨0, 0x010, 0, 4, false, true, false⟩).2.isSome = true)
    ∧ (let s := tK 0 (fun x => { x with starting := true }) [] []
       s.ringF 0 F.RING.RING_CFG_SPACE = 2 + 0 ∧ (s.ring 0).starting = true)
    ∧ (let s := (tH [] []).setCopyEng 3 ⟨some (⟨0x10, 0, ⟨BitVec.ofNat 512 (2 * 2 ^ 80), 0, 0, none⟩⟩, 5), []⟩
       (s.copyEng 3).running = some (⟨0x10, 0, ⟨BitVec.ofNat 512 (2 * 2 ^ 80), 0, 0, none⟩⟩, 5)
       ∧ byteF (BitVec.ofNat 512 (2 * 2 ^ 80)).toNat 10 1 = 2 + 0) := by decide +kernel

theorem meets_RingsAndDescriptors :
    (let h : BitVec 512 := BitVec.ofNat 512 (0x474E4952 + 0x0101 * 2 ^ 32)
     let s := tK 0 (fun x => { x with starting := true, loc := 0x0101 }) [] []
     let v := negotiateW (s.ring 0).loc (bits h.toNat 39 32) (bits h.toNat 47 40) (bits h.toNat 63 48) ringFeatures s.now
     (s.ring 0).starting = true ∧ s.engineRuns 2 = true ∧ s.ringRead 0 0 (some h) = (s, some h) ∧ s.ringRead 0 0 (some 0) = (s, some 0)
     ∧ s.ringRead 0 0 none = (s, none) ∧ bits h.toNat 31 0 = 0x474E4952 ∧ v.reason = 0
     ∧ (negotiateW (s.ring 0).loc 2 1 0 ringFeatures s.now).reason ≠ 0)
    ∧ (let s := tK 1 id [] []
       let k := (s.ringF 0 F.RING.RING_STATE_RD + (s.ring 0).pre.length) % s.ringSlots 0
       let v := s.stat (ringPage 0) 2
       s.ringLive 0 = true ∧ (s.ring 0).pre.length < 8 ∧ k ≠ s.ringF 0 F.RING.RING_WR ∧ s.engineRuns 2 = true
       ∧ s.ringRead 0 (64 + 64 * k) (some 9) = (s, some 9) ∧ v.descBad 0 0 = 0 ∧ v.descBad 0 9 ≠ 0)
    ∧ ((tK 1 (fun x => { x with stopping := true }) [] []).ring 0).stopping = true
    ∧ ((tK 1 (fun x => { x with stopping := true }) [] []).ring 0).issued = []
    ∧ (∀ k ∈ upto 0 9, (tP (k + 1 * 2 ^ 24) [] []).ringHead 0 k = some (BitVec.ofNat 512 (k + 1 * 2 ^ 24))
      ∧ (tP (k + 1 * 2 ^ 24) [] []).descBad 0 (BitVec.ofNat 512 (k + 1 * 2 ^ 24)) ≠ 0)
    ∧ (∀ k ∈ [0, 1], (tP k [] []).descBad 0 (BitVec.ofNat 512 k) = 0 ∧ (tP k [] []).ringHead 0 k = some (BitVec.ofNat 512 k)
      ∧ (tP k [] []).gfx.jobs.length < 255)
    ∧ 255 ≤ ({ tP 1 [] [] with gfx := { GfxSt.idle with jobs := List.replicate 255 (tJ 0 [] .fetch) } } : State).gfx.jobs.length := by
  decide +kernel

theorem meets_RingsAndDescriptors_operations :
    (let d : BitVec 512 := BitVec.ofNat 512 (2 + 0xFF * 2 ^ 72 + 64 * 2 ^ 96 + 2 ^ 128)
     let s := tP d.toNat [copyPage 0] []
     let q := s.ringIssue 0 d
     s.descBad 0 d = 0 ∧ s.ringHead 0 2 = some d ∧ (s.copyPick (byteF d.toNat 8 1) (s.ringOwner 0)).isSome = true
     ∧ q.1.copyPick (byteF q.2.d.toNat 8 1) (s.ringOwner 0) = some 0
     ∧ (tP d.toNat [] []).descBad 0 d = 0 ∧ (tP d.toNat [] []).copyPick (byteF d.toNat 8 1) ((tP d.toNat [] []).ringOwner 0) = none)
    ∧ (let d : BitVec 512 := BitVec.ofNat 512 (3 + 7 * 2 ^ 128)
       let s := (tP d.toNat [] []).setFence 0 ⟨0x10, 0, 5⟩
       let i : Issued := ⟨d, 0, 0, none⟩
       s.descBad 0 d = 0 ∧ s.ringHead 0 3 = some d ∧ (s.ring 0).issued.all (fun i => i.fin.isSome) = true
       ∧ ((s.setRing 0 { s.ring 0 with issued := [i] }).ring 0).issued.all (fun i => i.fin.isSome) = false)
    ∧ (let d : BitVec 512 := BitVec.ofNat 512 (4 + 5 * 2 ^ 128)
       let e : BitVec 512 := BitVec.ofNat 512 (4 + 6 * 2 ^ 128)
       let s := (tP d.toNat [] []).setFence 0 ⟨0x10, 0, 5⟩
       let u := (tP e.toNat [] []).setFence 0 ⟨0x10, 0, 5⟩
       s.descBad 0 d = 0 ∧ s.ringHead 0 4 = some d ∧ byteF d.toNat 16 8 ≤ (s.fence (byteF d.toNat 8 2)).value.toNat
       ∧ u.descBad 0 e = 0 ∧ u.ringHead 0 4 = some e ∧ (u.fence (byteF e.toNat 8 2)).value.toNat < byteF e.toNat 16 8)
    ∧ (let d : BitVec 512 := BitVec.ofNat 512 (5 + 2 ^ 64)
       (tP d.toNat [] []).descBad 0 d = 0 ∧ (tP d.toNat [] []).ringHead 0 5 = some d)
    ∧ (∀ k ∈ [6, 7, 8], let d : BitVec 512 := BitVec.ofNat 512 k
       let s := tP k [] [(hchanPage 0, F.HDR.OWNER, 0x10), (againPage, F.AGAIN.GOWN_OWNER, 0x10), (aengPage, F.AENG.TRIG_OWNER, 0x10)]
       s.descBad 0 d = 0 ∧ s.ringHead 0 k = some d)
    ∧ (let i : Issued := ⟨0, 0, 0, some (0, 4)⟩
       let s := tK 1 (fun x => { x with issued := [i] }) [] []
       (s.ring 0).issued.find? (fun i => i.fin.isSome) = some i ∧ i.fin = some (0, 4)
       ∧ ((tK 1 id [] []).ring 0).issued.find? (fun i => i.fin.isSome) = none) := by decide +kernel

theorem meets_CopiesAndJournals :
    (let j : CopyJob := ⟨0x10, 0, ⟨BitVec.ofNat 512 (2 + 0xFF * 2 ^ 72 + 64 * 2 ^ 96 + 2 ^ 128), 0, 0, none⟩⟩
     let s := (tH [copyPage 0, tenPage 0] [(tenPage 0, F.TEN.COPY_SHARE, 4)]).setCopyEng 0 ⟨none, [j]⟩
     let may := fun (t : Nat) => s.share t F.TEN.COPY_SHARE != 0 && !s.stopped t
       && (s.copyEng 0).queue.any (fun j => j.tag == 0x10 + t)
     let ts := (upto 0 16).filter may
     (s.copyEng 0).running = none ∧ s.enabled (copyPage 0) = true ∧ s.mode ≠ .safe ∧ s.engineRuns (4 + 0) = true
     ∧ ts.filter (fun t => ts.all (fun k => keyLe (s.copyKey t) (s.copyKey k))) = [0]
     ∧ (s.copyEng 0).queue.find? (fun j => j.tag == 0x10 + 0) = some j ∧ s.enabled (copyPage 3) = false)
    ∧ (let j : CopyJob := ⟨0x10, 0, ⟨BitVec.ofNat 512 (2 + 0xFF * 2 ^ 72 + 0x202 * 2 ^ 80 + 64 * 2 ^ 96 + 2 ^ 128), 0, 0, none⟩⟩
       let k : CopyJob := ⟨0x10, 0, ⟨BitVec.ofNat 512 (2 + 0xFF * 2 ^ 72 + 64 * 2 ^ 96 + 2 ^ 128), 0, 0, none⟩⟩
       let s := (tH [] []).setCopyEng 0 ⟨some (j, 0), []⟩
       (s.copyEng 0).running = some (j, 0) ∧ (s.copyMove 0 j none (List.replicate 64 1)).2.err = none
       ∧ (s.copyMove 0 k none []).2.err.isSome = true)
    ∧ (let r : JRec := ⟨0x15, 1, 2, 3, 4⟩
       let s := (tH [tenPage 0] [(tenPage 0, F.TEN.J_CFG_J_EN, 1), (tenPage 0, F.TEN.J_CFG_J_SPACE, 2)]).setJournal 0
         { Journal.empty with queue := [r] }
       let t := tS [(tenPage 0, F.TEN.J_CFG_J_EN, 1)]
       let n := (tE [tenPage 0] [(tenPage 0, F.TEN.J_CFG_J_EN, 1)]).setJournal 0 { Journal.empty with queue := [r] }
       let live := s.flag (tenPage 0) F.TEN.J_CFG_J_EN && s.enabled (tenPage 0)
       (s.journal 0).queue = [r] ∧ (s.journal 0).lost = 0 ∧ live = true ∧ s.jFull 0 = false ∧ (s.jStore 0 r).2 = true
       ∧ t.enabled (tenPage 0) = false ∧ (n.jStore 0 r).2 = false)
    ∧ (let s := (tH [tenPage 0] [(tenPage 0, F.TEN.J_CFG_J_EN, 1), (tenPage 0, F.TEN.J_CFG_J_SPACE, 2)]).setJournal 0
         { Journal.empty with lost := 2, lost0 := 5, lost1 := 6 }
       0 < (s.journal 0).lost ∧ (s.journal 0).queue.head? = none
       ∧ ((s.inc (tenPage 0) F.TEN.J_SEQ).jStore 0 ⟨0x0016, lineOf (tenPage 0), s.now, jpay [(16, 4, 2), (20, 4, 5), (24, 4, 6)],
         s.get (tenPage 0) F.TEN.J_SEQ⟩).2 = true)
    ∧ ((tH [] []).setJournal 15 { Journal.empty with held := true, msgAt := some 9 }).journal 15
      = { Journal.empty with held := true, msgAt := some 9 } := by decide +kernel

theorem meets_JournalsAndTenancies :
    (tS []).MayWrite tR (tenPage 0 + 8) ∧ (tS []).secureHold (tenPage 0) = false
    ∧ (tS []).flag (tenPage 0) F.HDR.CTRL_QUIESCE = false
    ∧ (tS [(tenPage 0, F.HDR.CTRL_QUIESCE, 1)]).flag (tenPage 0) F.HDR.CTRL_QUIESCE = true
    ∧ (let s := tS [(tenPage 0, F.HDR.STATUS_QUIESCED, 1)]
       s.quiesced 0 = true ∧ (s.ctl (tenPage 0)).inReset = none)
    ∧ (let s := (tS []).setQuiesce 3 (some ⟨1, 2, false, 0, 0, []⟩)
       s.quiesce 3 = some ⟨1, 2, false, 0, 0, []⟩ ∧ s.workLeft 3 = false)
    ∧ ((tS []).setQuiesce 3 (some ⟨1, 2, false, 0, 0, [(0, 1)]⟩)).quiesce 3 = some ⟨1, 2, false, 0, 0, [(0, 1)]⟩
    ∧ (let j : CopyJob := ⟨0x13, 0, ⟨0, 0, 0, none⟩⟩
       ((tS []).setCopyEng 0 ⟨some (j, 0), []⟩).workLeft 3 = true) :=
  ⟨test_mayWrite _ _ _ (by decide +kernel) (by decide +kernel), by decide +kernel⟩

/-- A ring of devices, this one of index 0, with port p in a state. -/
def tT (n st p : Nat) (f : TPortSt → TPortSt) (e : List Nat) (l : List (Nat × Fld × Nat)) : State :=
  (tE (tmbPage :: tportPage p :: e) ((tmbPage, F.TMB.RING_CFG_DEVICES, n) :: (tportPage p, F.TPORT.PORT_STATE_STATE, st) :: l)).modTport p f

/-- A flit queued, sent or to be sent again. -/
def tF (q : Nat) : TFlit := ⟨9, 0, q, 0, 0, 1, []⟩

theorem meets_TomboloPorts :
    (let s := tT 1 4 1 (fun x => { x with due := true, downAt := some 7 }) [] []
     let u := tT 1 4 1 (fun x => { x with downAt := some 7 }) [] [(tportPage 1, F.TPORT.PORT_STATE_DOWN_CAUSE, 3),
       (tportPage 1, F.TPORT.PORT_CFG_AUTO_RESTART, 0)]
     s.enabled (tportPage 1) = true ∧ (s.tport 1).due = true ∧ (s.tport 1).downAt = some 7 ∧ s.tState 1 = 4
     ∧ s.get (tportPage 1) F.TPORT.PORT_STATE_DOWN_CAUSE ≠ 3 ∧ s.get (tportPage 1) F.TPORT.PORT_STATE_DOWN_CAUSE ≠ 4
     ∧ (u.tport 1).downAt = some 7 ∧ u.tState 1 = 4 ∧ u.get (tportPage 1) F.TPORT.PORT_STATE_DOWN_CAUSE = 3
     ∧ u.flag (tportPage 1) F.TPORT.PORT_CFG_AUTO_RESTART = false)
    ∧ (tT 1 3 1 id [] [(tportPage 1, F.HDR.OWNER, 1)]).MayWrite tR (tportPage 1 + 0x1A0)
    ∧ (tT 1 3 1 id [] [(tportPage 1, F.HDR.OWNER, 1)]).enabled (tportPage 1) = true
    ∧ (tT 1 1 1 id [] []).tState 1 = 1 ∧ (tT 1 2 1 id [] []).tState 1 = 2 ∧ (tS []).tState 1 = 0
    ∧ (tT 1 1 1 id [] []).now < ((tT 1 1 1 id [] []).tport 1).rstAt + 61440
    ∧ (tT 1 1 1 id [] []).enabled (tportPage 1) = true ∧ (tS []).enabled (tportPage 1) = false :=
  ⟨by decide +kernel, test_mayWrite _ _ _ (by decide +kernel) (by decide +kernel), by decide +kernel⟩

theorem meets_TomboloPorts_slots :
    (let after := fun (s : State) => ((s.waitTo ((s.tport 0).slotAt + 65)).modTport 0 (fun x => { x with slotAt := 65 })).tport 0
     let a := tT 1 3 0 (fun x => { x with nak := true }) [] []
     let b := tT 1 3 0 (fun x => { x with resend := [tF 4] }) [] []
     let c := tT 1 3 0 (fun x => { x with queue := [(3, tF 0)], replay := List.replicate 64 (tF 1) }) [] []
     let d := tT 1 3 0 (fun x => { x with queue := [(3, tF 0), (2, tF 0)] }) [] []
     let e := tT 1 3 0 (fun x => { x with queue := [(3, tF 0)], replay := List.replicate 63 (tF 1) }) [] []
     a.tState 0 = 3 ∧ a.enabled (tportPage 0) = true ∧ (after a).nak = true
     ∧ b.tState 0 = 3 ∧ (after b).nak = false ∧ (after b).resend = [tF 4]
     ∧ (after c).nak = false ∧ (after c).resend = [] ∧ tFirst (after c).queue = some (3, tF 0) ∧ 64 ≤ (after c).replay.length
     ∧ (after d).nak = false ∧ (after d).resend = [] ∧ tFirst (after d).queue = some (2, tF 0)
     ∧ tFirst (after e).queue = some (3, tF 0) ∧ (after e).replay.length < 64)
    ∧ (∀ k ∈ [2, 3], let s := tT 1 k 0 id [] []
       s.now < (s.tport 0).rstAt + 122880 ∧ s.now < (s.tport 0).rxAt + 2458 ∧ (((s.stat (tportPage 0) 2).intBit (tportPage 0) 2).hit 25 (s.get (tportPage 0) F.TPORT.PORT_STATE_EXPECTED)).tState 0 = k)
    ∧ (let s := tT 1 3 0 (fun x => { x with nakFor := (9, 15) }) [] []
       let x := (s.tGood ⟨0, 0, 0, 0, 0⟩).tport 0
       16 ≤ (if x.nakFor.1 = 9 then x.nakFor.2 + 1 else 1) ∧ (if x.nakFor.1 = 8 then x.nakFor.2 + 1 else 1) < 16)
    ∧ (let s := tT 1 3 0 id [] [(tmbPage, F.TMB.PEER_ALIVE, 2)]
       let v := s.waitTo ((s.tport 0).rxAt + 2458)
       ((v.portDown 0 3).hit 23 (v.tNeighbour 0)).tAlive (v.tNeighbour 0) = true)
    ∧ (let s := tT 1 3 0 id [] []
       let v := s.waitTo ((s.tport 0).rxAt + 2458)
       ((v.portDown 0 3).hit 23 (v.tNeighbour 0)).tAlive (v.tNeighbour 0) = false)
    ∧ (let u := (tT 1 2 0 (fun x => { x with ver := 2 }) [] []).stat (tportPage 0) 1
       2 = u.ringN ∧ 1 ≠ u.ringIndex ∧ 1 = u.tNeighbour 0 ∧ 0 ≠ u.tNeighbour 0 ∧ 3 ≠ u.ringN ∧ (u.tport 0).ver = 2)
    ∧ (let u := (tT 1 2 0 (fun x => { x with loc := 0x0201 }) [] []).stat (tportPage 0) 1
       let v := negotiateW (u.tport 0).loc 9 9 0 (fun v => if v = 2 then 3 else 0) u.now
       (u.tport 0).ver = 0 ∧ v.chosen = 0 ∧ (((u.putTver 0 v).modTport 0 (fun y => { y with ver := v.chosen })).tport 0).ver = 0) := by
  decide +kernel

theorem meets_TomboloTraffic :
    (let s := tT 1 3 0 id [tsyncPage] [(thymePage, F.THYME.SYNC_STATE, 2)]
     let u := s.modTmb (fun t => { t with master := some 1 })
     let g := u.tGood ⟨0, 0, 0, 0, 0⟩
     s.tState 0 = 3 ∧ 0xFFFF ≠ s.get (tportPage 0) F.TPORT.PORT_STATE_EXPECTED ∧ (tS []).enabled tsyncPage = false
     ∧ g.enabled tsyncPage = true ∧ g.role ≠ 1 ∧ g.tUpstream = some 0 ∧ g.flag tsyncPage F.TSYNC.SYNC_STATE_CONFLICT = false)
    ∧ (let y := (tT 1 3 0 id [potPage] []).modTmb (fun t => { t with master := some 1, reads := [⟨5, 0, 0, 0, 0, 0, 0, 0, 1⟩] })
       let s : State := { y with
         potCache := [(32768, 0x3201)] }
       let f : FlitRx := flitRx ⟨0, 0, 0, 1, 0⟩
       let u := ((s.tGood f).inc (tportPage f.p) F.TPORT.PORT_STATE_EXPECTED).modTport f.p (fun y => { y with nakOut := false, nak := false })
       0 = s.get (tportPage f.p) F.TPORT.PORT_STATE_EXPECTED ∧ 0 = u.ringIndex ∧ u.tmb.reads.find? (fun r => r.tag == 6) = none
       ∧ u.tmb.reads.find? (fun r => r.tag == 5) = some ⟨5, 0, 0, 0, 0, 0, 0, 0, 1⟩
       ∧ (u.mwrite ⟨0xC0, 0x201, 0, 1, true, true, false⟩ [1]).2 = true ∧ (u.mwrite ⟨0xC0, 0x202, 0, 1, true, true, false⟩ [1]).2 = false
       ∧ s.now < (s.tport 0).rxAt + 2458 ∧ u.now < 1 + 61440 ∧ u.beatLate 1 = false
       ∧ u.tmb.master = some f.src ∧ u.tmb.master ≠ some 2 ∧ u.tAlive 1 = false)
    ∧ (tT 1 3 0 id [] [(tmbPage, F.TMB.PEER_ALIVE, 2)]).tAlive 1 = true
    ∧ (tT 1 3 0 id [] []).enabled tmbPage = true ∧ 2 ≤ (tT 1 3 0 id [] []).ringN ∧ (tS []).enabled tmbPage = false
    ∧ ((tS []).modTmb (fun t => { t with reads := [⟨5, 0, 0, 0, 0, 0, 0, 0, 1⟩] })).tmb.reads = [⟨5, 0, 0, 0, 0, 0, 0, 0, 1⟩]
    ∧ (tS [(remotePage, F.TREMOTE.MIR_STATE_STATE.at 3, 3)]).mir F.TREMOTE.MIR_STATE_STATE 3 = 3
    ∧ (let s := tT 3 3 0 id [tsyncPage] [(thymePage, F.THYME.SYNC_STATE, 1)]
       let up := s.tNeighbour 0
       s.tState 0 = 3 ∧ s.enabled tsyncPage = true ∧ up ≠ 0 ∧ s.role = 1 ∧ 0 = s.ringIndex
       ∧ (up + s.ringN - 0) % s.ringN < (0 + s.ringN - up) % s.ringN)
    ∧ (let s := tT 1 3 1 id [tsyncPage] [(thymePage, F.THYME.SYNC_STATE, 1)]
       let up := s.tNeighbour 1
       up ≠ 0 ∧ s.role = 1 ∧ 0 = s.ringIndex ∧ (0 + s.ringN - up) % s.ringN ≤ (up + s.ringN - 0) % s.ringN)
    ∧ (tS []).Reaches tR (tmbPage + 0x108) ∧ bits 0x52540101 31 16 = 0x5254 ∧ bit 0x52540101 8 = true
    ∧ (let s := tT 1 3 0 id [] [(tmbPage, F.TMB.MB_CFG_MB_OWNER.at 1, 1), (tmbPage, F.TMB.MB_CFG_DEST.at 1, 1),
         (tmbPage, F.TMB.MB_STATE_CREDIT.at 1, 1)]
       s.Reaches tR (tmbPage + 0x114 + 0x80 * 1) ∧ tR.tag ≠ 0 ∧ tR.tag.toNat = s.get tmbPage (F.TMB.MB_CFG_MB_OWNER.at 1)
       ∧ (s.put tmbPage (F.TMB.MB_STATE_CREDIT.at 1) 0).flag tmbPage (F.TMB.MB_STATE_CREDIT.at 1) = false
       ∧ s.flag tmbPage (F.TMB.MB_STATE_CREDIT.at 1) = true ∧ (s.tmbRoute 1).isSome = true
       ∧ (s.put (tportPage 0) F.TPORT.PORT_STATE_STATE 4).tmbRoute 1 = none
       ∧ (s.put tmbPage (F.TMB.MB_STATE_RX_FULL.at 1) 1).flag tmbPage (F.TMB.MB_STATE_RX_FULL.at 1) = true
       ∧ s.flag tmbPage (F.TMB.MB_STATE_RX_FULL.at 1) = false) :=
  ⟨by decide +kernel, by decide +kernel, by decide +kernel, by decide +kernel, by decide +kernel, by decide +kernel,
    by decide +kernel, by decide +kernel, by decide +kernel, by decide +kernel, test_reaches _ _ _ (by decide +kernel),
    by decide +kernel, by decide +kernel, test_reaches _ _ _ (by decide +kernel), by decide +kernel⟩

/-- A board controller that runs in I3C mode, in a state. -/
def tB (f : BcSt → BcSt) : State :=
  (tE [bcPage] [(bcPage, F.PBC.BC_CFG_EN.at 1, 1), (bcPage, F.PBC.BC_CFG_PROTO.at 1, 1), (bcPage, F.PBC.BC_IBI_EN.at 1, 1)]).setBc 1
    (f BcSt.idle)

theorem meets_PadsAndBoard :
    (let s := tE [pfuncPage] [(pfuncPage, F.PFUNC.FUNC_FUNC.at 0, 3)]
     let u := s.padExt 0 true
     0 < s.part.pads ∧ u.padFunc 0 = 3 ∧ (u.get pfuncPage (F.PFUNC.FUNC_WAKE_POL.at 0) = 0 ↔ true = true)
     ∧ ¬ (u.get pfuncPage (F.PFUNC.FUNC_WAKE_POL.at 0) = 0 ↔ false = true))
    ∧ (∃ g : Fin 32, (tS []).part.pads ≤ g.val ∨ (tS []).part.pads = 32)
    ∧ (tS []).MayWrite tR (gpioPage + 0x108) ∧ (tS []).MayWrite tR (gpioPage + 0x10C)
    ∧ (tS []).MayWrite tR (bcPage + bcOff 1 4) ∧ (tS []).MayWrite tR (bcPage + bcOff 1 8)
    ∧ (tS []).MayWrite tR (xspiPage + 0x104) ∧ (tS []).MayWrite tR (xspiPage + 0x10C) ∧ (tS []).MayWrite tR (xspiPage + 0x11C)
    ∧ 1 < (tS []).part.bcs
    ∧ (let s := tB id
       let w := 0xA0400000
       xfGo w = true ∧ xfGo 0 = false ∧ s.bcOn 1 = true ∧ (s.bc 1).xfer = none ∧ xfRead w = true ∧ xfLen w = 64 ∧ xfCcc w = false
       ∧ 64 < xfLen 0xA0410000 ∧ (s.bc 1).tx.length < 64 ∧ (s.bc 1).rx = [] ∧ (s.bc 1).ibi = []
       ∧ s.flag bcPage (F.PBC.BC_CFG_PROTO.at 1) = true ∧ s.flag bcPage (F.PBC.BC_IBI_EN.at 1) = true
       ∧ (s.bc 1).known.find? (fun e => e.1 == 9) = none ∧ (tS []).bcOn 1 = false)
    ∧ (let s := tB (fun _ => ⟨List.replicate 64 0, List.replicate 57 0, List.replicate 8 (9, none), some 0x88000007, 0, false, false,
         [(9, true)]⟩)
       64 ≤ (s.bc 1).tx.length ∧ 56 < (s.bc 1).rx.length ∧ 8 ≤ (s.bc 1).ibi.length ∧ (s.bc 1).xfer = some 0x88000007
       ∧ xfDaa 0x88000007 = true ∧ xfDaa 0x80000000 = false
       ∧ (s.bc 1).known.find? (fun e => e.1 == 9) = some (9, true))
    ∧ (tB (fun x => { x with rx := List.replicate 56 0, ibi := List.replicate 7 (9, none) })).bcOn 1 = true
    ∧ (∃ i, (tS []).MayRead tR (bcPage + 0xF00 + 0x10 * 1) i) ∧ (∃ i, (tS []).MayRead tR (bcPage + 0xF08 + 0x10 * 1) i)
    ∧ (∃ i, (tS []).MayRead tR (xspiPage + 0xF00) i) :=
  ⟨by decide +kernel, ⟨31, by decide +kernel⟩, test_mayWrite _ _ _ (by decide +kernel) (by decide +kernel),
    test_mayWrite _ _ _ (by decide +kernel) (by decide +kernel), test_mayWrite _ _ _ (by decide +kernel) (by decide +kernel),
    test_mayWrite _ _ _ (by decide +kernel) (by decide +kernel), test_mayWrite _ _ _ (by decide +kernel) (by decide +kernel),
    test_mayWrite _ _ _ (by decide +kernel) (by decide +kernel), test_mayWrite _ _ _ (by decide +kernel) (by decide +kernel),
    by decide +kernel, by decide +kernel, by decide +kernel, by decide +kernel,
    ⟨_, test_mayRead _ _ _ _ rfl (by decide +kernel)⟩, ⟨_, test_mayRead _ _ _ _ rfl (by decide +kernel)⟩,
    ⟨_, test_mayRead _ _ _ _ rfl (by decide +kernel)⟩⟩

theorem meets_PadsAndBoard_flash :
    (let s := tE [xspiPage] [(xspiPage, F.XSPI.DMA_LEN, 64)]
     let n := s.get xspiPage F.XSPI.DMA_LEN
     let a := s.get xspiPage F.XSPI.DMA_DST_LO + s.get xspiPage F.XSPI.DMA_DST_HI_ADDR * 0x100000000
     s.enabled xspiPage = true ∧ s.pad.xspi.busy = false ∧ n ≠ 0 ∧ n % 64 = 0 ∧ a % 64 = 0 ∧ s.pad.xspi.tx.length ≤ 60
     ∧ s.pad.xspi.cmd = none ∧ s.pad.xspi.dma = none ∧ bit 0x80000040 31 = true ∧ bits 0x80000040 6 0 ≤ 64 ∧ 64 < bits 0x80000041 6 0)
    ∧ (let s := (tE [xspiPage] []).modXspi (fun y => { y with cmd := some 0x80000040, tx := List.replicate 61 0 })
       s.pad.xspi.busy = true ∧ s.get xspiPage F.XSPI.DMA_LEN = 0 ∧ s.pad.xspi.cmd = some 0x80000040 ∧ 60 < s.pad.xspi.tx.length)
    ∧ (let s := (tD [] []).modXspi (fun y => { y with dma := some (0, 0, 64, true) })
       s.pad.xspi.dma = some (0, 0, 64, true) ∧ (s.dmaBlocks 0 true (64 / 64) 0 []).2 = (64, true))
    ∧ (let s := (tD [potPage] [(covePage, F.COVE.CRANGE_VALID.at 0, 1), (covePage, F.COVE.CRANGE_FIRST.at 0, 524288),
         (covePage, F.COVE.CCOUNT.at 0, 1)]).modXspi (fun y => { y with dma := some (0, 0, 64, true) })
       (s.dmaBlocks 0 true (64 / 64) 0 []).2.2 = false)
    ∧ (tS [(worldsPage, F.WORLDS.DBG_CFG_DBG_LOCK, 1)]).flag worldsPage F.WORLDS.DBG_CFG_DBG_LOCK = true
    ∧ (tS []).flag worldsPage F.WORLDS.DBG_CFG_DBG_LOCK = false
    ∧ (let s := tS [(pg 0x00 1, F.MODE.THERM_CFG_WARN_C, 100), (pg 0x00 1, F.MODE.THERM_TRIP, 200)]
       let f := fun (t : BitVec 16) => forL (fun k (v : State) => v.put (pg 0x00 1) (F.MODE.TEMP.at k) ([t, 0, 0, 0].getD k 0).toNat)
         (upto 0 4) (s.waitTo (s.pad.therm.tick + 61440))
       s.mode ≠ .off ∧ s.mode ≠ .backup ∧ (upto 0 4).find? (fun k => reaches ([0, 0, 0, 0].getD k (0 : BitVec 16)) 100) = none
       ∧ (upto 0 4).find? (fun k => reaches ([(800 : BitVec 16), 0, 0, 0].getD k 0) 100) = some 0
       ∧ (f 800).pad.therm.armed = true ∧ ((f 800).hit 3 0).pad.therm = (f 800).pad.therm) := by decide +kernel

/-! Well-formedness refuses one ill-formed term of each check, and takes a well-formed one of the shape. -/

/-- A flit from one device to another. -/
def tX (a b : Fin 4) : FlitHdr := ⟨0, 0, 0, a, b⟩

theorem test_wf_pages : ([.releaseClockOk (.page 0xFFF), .releaseAbandoned (.page 0xFFF), .periodBoundary 0xFFF, .periodLatchUpdate 0xFFF,
    .ownerWrite tR 0xFFF 0, .autoCommitWrite tR 0xFFF true, .commitOnFenceWrite tR 0xFFF true, .pageQuiesce tR 0xFFF true,
    .enable tR 0xFFF, .disable tR 0xFFF, .commit tR 0xFFF, .enableCheckDone 0xFFF, .commitCheckDone 0xFFF, .disableDrainDone 0xFFF,
    .intStatusClear tR 0xFFF 0, .intForce tR 0xFFF 0, .irqDelivery 0xFFF, .blockReset tR 0xFFF, .blockResetDone 0xFFF,
    .pageQuiesceDone 0xFFF] : List Instr).all (fun i => !i.wf) = true
    ∧ ([.enable tR 0x100, .commit tR 0x100, .releaseClockOk (.page 0x100), .periodBoundary 0] : List Instr).all Instr.wf = true := by
  decide +kernel

theorem test_wf_kinds : ([.coefDataWrite tR 0x000 0, .coefDataRead tR 0x000, .lutDataWrite tR 0x000 0, .lutDataRead tR 0x000,
    .reflexSetReq tR 0x000, .reflexClearReq tR 0x000] : List Instr).all (fun i => !i.wf) = true := by decide +kernel

theorem test_wf_domains : ([.releaseClockOk (.domain 0xFF), .releaseAbandoned (.domain 0xFF), .domainGate tR 0xFF, .domainUngate tR 0xFF,
    .busTimeout 0xFF 0 tR 0, .domainResetRequest tR 0xFF, .domainResetRelease 0xFF] : List Instr).all (fun i => !i.wf) = true
    ∧ (Instr.domainGate tR 0x10).wf = true := by decide +kernel

theorem test_wf_accesses : ([.loSnapshotRead (.space tR 0x000FF0) 4, .loSnapshotRead (.space tR 0xFFF000) 4,
    .loSnapshotRead (.space tR 0x000001) 4, .loSnapshotRead (.space tR 0) 3, .loSnapshotRead (.function 0 0 2) 4,
    .registerWrite (.space tR) 0 0 0, .registerWrite (.space tR) 0 0 9, .registerWrite (.function 0 0) 0x2000 0 4] : List Instr).all (fun i => !i.wf) = true
    ∧ ([.loSnapshotRead (.space tR 0) 4, .loSnapshotRead (.space tR 1) 1, .loSnapshotRead (.function 0 0 0xFF8) 4,
    .registerWrite (.space tR) 0 0 2, .registerWrite (.function 0 0) 0x1FFC 0 4] : List Instr).all Instr.wf = true := by decide +kernel

theorem test_wf_lengths : ([.touchRestart 0 (List.replicate 6 []), .hapticFrame 0 [0], .hapticPortRestart 0 [[0]],
    .dramRequest 0 1 0 0 true false 2 [0], .dramRequest 0 1 0 0 false false 0 [], .bar4Access 0 true 2 [0], .bar4Access 0 false 0 [],
    .write (tX 0 1) 0 false [], .write (tX 0 1) 0 false (List.replicate 241 0), .mailbox (tX 0 1) 0 (List.replicate 15 0),
    .readReq (tX 0 1) 0 [⟨0, false, 0, 0, 0⟩], .readData (tX 0 1) 0 0 1 [0]] : List Instr).all (fun i => !i.wf) = true
    ∧ ([.dramRequest 0 1 0 0 true false 1 [0], .write (tX 0 1) 0 false [0], .readReq (tX 0 1) 0 [⟨0, false, 1, 0, 0⟩]] : List Instr).all
      Instr.wf = true := by decide +kernel

theorem test_wf_flits : ([.idle (tX 1 1), .tmbTime (tX 1 1) 0 0 0, .timeEcho (tX 1 1) 0 0, .readReq (tX 1 1) 0 [], .readData (tX 1 1) 0 1 0 [],
    .write (tX 1 1) 0 false [0], .mailbox (tX 1 1) 0 [], .mbCredit (tX 1 1) 0, .heartbeat (tX 1 1) 0 0 0, .lat (tX 1 1) 0,
    .reset (tX 1 1) 0, .hello 0 0 0 0 2 2 false 0] : List Instr).all (fun i => !i.wf) = true ∧ (Instr.idle (tX 0 1)).wf = true := by
  decide +kernel

theorem test_wf_sources : (Instr.supplyUv 7).wf = false ∧ (Instr.supplyUv 6).wf = true
    ∧ (∃ n : Fin 383, (Instr.faultHit n 0 0 tR 0).wf = false) ∧ (Instr.faultHit 3 0 0 tR 0).wf = true :=
  ⟨by decide, by decide, ⟨382, by decide +kernel⟩, by decide +kernel⟩

end Sys2Proof.Machine
end

section
/-! SUPPORT. What a channel of the DRAM controller does: one lemma per operation and case of its definition. -/

namespace Sys2Proof.Machine

/-! Each command runs one operation on its channel -/

theorem exec_dramReadData (c : Fin 8) (k : Nat) (s : State) :
    exec (.dramReadData c k) s = .next (s.dramNext c.val k) := rfl

theorem exec_agePromotion (c : Fin 8) (s : State) : exec (.agePromotion c) s = .next (s.agePromote c.val) := rfl

theorem exec_dramRefresh (c : Fin 8) (r : Fin 2) (b : Fin 16) (postpone : Bool) (s : State) :
    exec (.dramRefresh c r b postpone) s = .next (s.refresh c.val r.val b.val postpone) := rfl

theorem exec_mr4Read (c k : Fin 8) (s : State) : exec (.mr4Read c k) s = .next (s.mr4 c.val k.val) := rfl

theorem exec_powerDownEntry (c : Fin 8) (r : Fin 2) (s : State) :
    exec (.powerDownEntry c r) s = .next (s.powerDown c.val r.val) := rfl

theorem exec_selfRefreshEntry (c : Fin 8) (s : State) :
    exec (.selfRefreshEntry c) s = .next (s.srEntry c.val) := rfl

theorem exec_selfRefreshExit (c : Fin 8) (s : State) :
    exec (.selfRefreshExit c) s = .next (s.srWake c.val) := rfl

theorem exec_oscTracking (c : Fin 8) (s : State) : exec (.oscTracking c) s = .next (s.oscTrack c.val) := rfl

/-! Thyme does not move while counters are brought up to date -/

@[simp] theorem State.accrue_now (s : State) (base i n : Nat) : (s.accrue base i n).now = s.now := by
  unfold State.accrue
  split <;> rfl

@[simp] theorem State.modDchan_now (s : State) (c : Nat) (f : DChan → DChan) : (s.modDchan c f).now = s.now := rfl

@[simp] theorem State.chanSettle_now (s : State) (c : Nat) : (s.chanSettle c).now = s.now := by
  have hsr : (match (s.dchan c).sr with
      | some t => s.accrue (chanPage c) 11 (s.now - t)
      | none => s).now = s.now := by
    split <;> simp
  unfold State.chanSettle
  dsimp only
  rw [State.modDchan_now]
  split
  · exact (State.accrue_now _ _ _ _).trans hsr
  · exact hsr

/-! Service and age (R348) -/

theorem State.dramNext_of_cand {s : State} {c k : Nat} {q : DramRq} (h : (s.dchan c).sr = none ∨ s.chanState c ≠ 2)
    (hq : (s.dramCands c)[k]? = some q) : s.dramNext c k = ((s.dramServe q).dramAdmit).dramDrain c := by
  have hg : ¬((s.dchan c).sr.isSome ∧ s.chanState c = 2) := by
    rintro ⟨hsr, hst⟩
    rcases h with h | h
    · simp [h] at hsr
    · exact h hst
  rw [State.dramNext, if_neg hg, hq]

theorem State.dramNext_of_no_cand {s : State} {c k : Nat} (hq : (s.dramCands c)[k]? = none) : s.dramNext c k = s := by
  rw [State.dramNext, hq]
  exact ite_self s

/-- The requests of a channel whose age limit has not been counted yet. -/
def State.uncounted (s : State) (c : Nat) : List DramRq :=
  s.dc.queue.filter (fun q => s.rqChan q == c && q.cls != 0 && !q.prom)

/-- The earlier of two requests to reach its age limit. -/
def State.agesFirst (s : State) (m : Option DramRq) (q : DramRq) : Option DramRq :=
  match m with
  | some x => if q.arr + s.ageOf q.cls < x.arr + s.ageOf x.cls then some q else m
  | none => some q

theorem State.agePromote_eq (s : State) (c : Nat) :
    s.agePromote c = match (s.uncounted c).foldl s.agesFirst none with
      | none => s
      | some q => ((s.waitTo (q.arr + s.ageOf q.cls)).modDc (fun d => { d with
          queue := d.queue.map (fun x => if x = q then { x with prom := true } else x) })).stat (chanPage c) 6 := rfl

theorem State.agePromote_of_first {s : State} {c : Nat} {q : DramRq}
    (h : (s.uncounted c).foldl s.agesFirst none = some q) :
    s.agePromote c = ((s.waitTo (q.arr + s.ageOf q.cls)).modDc (fun d => { d with
      queue := d.queue.map (fun x => if x = q then { x with prom := true } else x) })).stat (chanPage c) 6 := by
  rw [State.agePromote_eq, h]

theorem State.agePromote_of_uncounted_nil {s : State} {c : Nat} (h : s.uncounted c = []) : s.agePromote c = s := by
  rw [State.agePromote_eq, h, List.foldl_nil]

/-! Refresh, MR4, power-down, self-refresh and tracking of a channel that is ready and awake -/

section Awake
variable {s : State} {c : Nat} (hready : s.chanState c = 2) (hawake : (s.dchan c).sr = none)
include hready hawake

theorem State.not_unready_or_asleep : ¬(s.chanState c ≠ 2 ∨ (s.dchan c).sr.isSome) := by
  simp [hready, hawake]

theorem State.refresh_postponed {r b : Nat} (h : ctrGet (s.dchan c).post (r * 16 + b) < 7) :
    s.refresh c r b true = s.setDchan c { s.dchan c with
      post := amSet (fun _ => 0) (s.dchan c).post (r * 16 + b) (ctrGet (s.dchan c).post (r * 16 + b) + 1) } := by
  rw [State.refresh, if_neg (State.not_unready_or_asleep hready hawake)]
  exact if_pos ⟨rfl, by omega⟩

theorem State.refresh_issued (r b : Nat) :
    s.refresh c r b false = ((if bit (s.dchan c).pd r then s.waitTo (s.now + 8) else s).rankCmd c r).modDchan c (fun y =>
      { y with
        post := amSet (fun _ => 0) y.post (r * 16 + b) (ctrGet (s.dchan c).post (r * 16 + b))
        rows := y.rows.filter (fun e => e.1 != r * 16 + b)
        run := 0 }) := by
  rw [State.refresh, if_neg (State.not_unready_or_asleep hready hawake)]
  exact if_neg (fun h => Bool.false_ne_true h.1)

/-- At the eighth postponement the refresh is issued, asked for or not. -/
theorem State.refresh_due {r b : Nat} (h : 7 ≤ ctrGet (s.dchan c).post (r * 16 + b)) :
    s.refresh c r b true = s.refresh c r b false := by
  rw [State.refresh_issued hready hawake, State.refresh, if_neg (State.not_unready_or_asleep hready hawake)]
  exact if_neg (fun h' => by omega)

theorem State.mr4_awake (k : Nat) :
    s.mr4 c k = ((s.waitTo ((s.dchan c).mr4At + 614400)).put (chanPage c) F.DCHAN.CHAN_STATE_MR4_RATE k).modDchan c (fun y =>
      { y with
        mr4At := (s.waitTo ((s.dchan c).mr4At + 614400)).now
        oscAt := if (s.waitTo ((s.dchan c).mr4At + 614400)).get (chanPage c) F.DCHAN.CHAN_STATE_MR4_RATE != k
          then min y.oscAt (s.waitTo ((s.dchan c).mr4At + 614400)).now else y.oscAt }) :=
  if_neg (State.not_unready_or_asleep hready hawake)

theorem State.powerDown_idle {r : Nat} (hen : s.flag dpowerPage F.DPOWER.PD_CFG_PD_EN = true)
    (hpd : bit (s.dchan c).pd r = false) (hr : r ≤ s.get (chanPage c) F.DCHAN.GEOM_RANKS) {u : State}
    (hu : u = s.waitTo ((if r = 0 then (s.dchan c).cmd0 else (s.dchan c).cmd1) + s.get dpowerPage F.DPOWER.PD_CFG_PD_IDLE)) :
    s.powerDown c r = (u.chanSettle c).modDchan c (fun y => { y with pd := y.pd + (1 <<< r), pdAt := u.now }) := by
  have hg : ¬(s.chanState c ≠ 2 ∨ (s.dchan c).sr.isSome ∨ s.flag dpowerPage F.DPOWER.PD_CFG_PD_EN = false
      ∨ bit (s.dchan c).pd r ∨ s.get (chanPage c) F.DCHAN.GEOM_RANKS < r) := by
    simp [hready, hawake, hen, hpd, hr]
  subst hu
  exact if_neg hg

/-- A channel with nothing in its queue is not held back from self-refresh by its own state. -/
theorem State.not_unready_asleep_or_queued (hq : s.dc.queue.any (fun q => s.rqChan q == c) = false) :
    ¬(s.chanState c ≠ 2 ∨ (s.dchan c).sr.isSome ∨ s.dc.queue.any (fun q => s.rqChan q == c)) := by
  simp [hready, hawake, hq]

theorem State.srEntry_standby (hq : s.dc.queue.any (fun q => s.rqChan q == c) = false) {b : Bool}
    (hs : s.stby = .entry 4 b) : s.srEntry c = s.srIn c := by
  rw [State.srEntry, if_neg (State.not_unready_asleep_or_queued hready hawake hq), hs]
  rfl

theorem State.srEntry_idle (hq : s.dc.queue.any (fun q => s.rqChan q == c) = false) (hs : s.stby = .none)
    (hen : s.flag dpowerPage F.DPOWER.SR_CFG_SR_EN = true) {u : State}
    (hu : u = s.waitTo ((s.dchan c).respAt + s.get dpowerPage F.DPOWER.SR_CFG_SR_IDLE))
    (hfar : u.tMinFar (u.get dpowerPage F.DPOWER.SR_EXIT + u.get dpowerPage F.DPOWER.WAKE_GUARD
      + u.get dpowerPage F.DPOWER.SR_MIN) = true) : s.srEntry c = u.srIn c := by
  subst hu
  rw [State.srEntry, if_neg (State.not_unready_asleep_or_queued hready hawake hq), hs]
  simp only
  rw [if_neg (by simp [hen]), if_pos hfar]

theorem State.oscTrack_runs {u : State} (hu : u = s.waitTo (s.dchan c).oscAt)
    (h : u.tMinFar (1024 + u.get dpowerPage F.DPOWER.WAKE_GUARD) = true
      ∨ ((s.dchan c).oscAt + 6144000 ≤ u.now ∧ u.dc.queue.any (fun q => u.rqChan q == c && q.cls == 0) = false)) :
    s.oscTrack c = u.tookFree.modDchan c (fun y => { y with
      oscAt := u.now + 61440000, serve := max y.serve (u.now + u.free.toNat % 1025) }) := by
  subst hu
  rw [State.oscTrack, if_neg (State.not_unready_or_asleep hready hawake)]
  exact if_pos h

end Awake

theorem State.oscTrack_not_ready {s : State} {c : Nat} (h : s.chanState c ≠ 2) : s.oscTrack c = s := if_pos (.inl h)

/-! Leaving self-refresh (R351, R352) -/

theorem State.srWake_awake {s : State} {c : Nat} (h : (s.dchan c).sr = none) : s.srWake c = s :=
  if_pos (by simp [h])

/-- The time that the exit from self-refresh takes. -/
def State.srExitTicks (s : State) : Nat :=
  if s.mode == .standby then 24576 else s.get dpowerPage F.DPOWER.SR_EXIT

/-- The tick of a wake condition of a channel in self-refresh, where there is one. -/
def State.srWakeAt (s : State) (c : Nat) : Option Nat :=
  let l := s.dc.queue.filter (fun q => s.rqChan q == c)
  let t1 := s.tMin.map (fun t => t - s.srExitTicks - s.get dpowerPage F.DPOWER.WAKE_GUARD)
  let t2 := (l.map (fun q => q.arr + s.get dpowerPage F.DPOWER.BG_WAKE + 1)).foldl
    (fun (m : Option Nat) t => some (min t (m.getD t))) none
  if l.any (fun q => q.cls == 1 || q.cls == 2) then some s.now
  else match t1, t2 with
    | some a, some b => some (min a b)
    | some a, none => some a
    | none, b => b

theorem State.srWake_asleep {s : State} {c t0 t : Nat} (hsr : (s.dchan c).sr = some t0) (ht : s.srWakeAt c = some t)
    {u : State} (hu : u = if s.mode == .standby
      then (s.waitTo t).put (pg 0x01 1) F.DIV.PHY_PLL_STATUS_DRAM_PLL_LOCKED 1 else s.waitTo t) :
    s.srWake c = u.srExit c (u.now + s.srExitTicks) := by
  subst hu
  rw [State.srWake, if_neg (by simp [hsr])]
  change (match s.srWakeAt c with
    | none => s
    | some t => _) = _
  rw [ht]
  rfl

end Sys2Proof.Machine
end

section
/-! Settles the statement about the channels of the DRAM controller. -/

namespace Sys2Proof.Machine

/-- Settles O46: each clause is a case of the operation that its command runs on the channel. -/
theorem dramChannels : Obligations.DramChannels := by
  unfold Obligations.DramChannels
  refine ⟨?served, ?noCand, ?aged, ?noneAges, ?due, ?refresh, ?mr4, ?powerDown, ?standby, ?selfRefresh, ?exitAwake,
    ?exit, ?trackNotReady, ?track⟩
  case served =>
    intro s c k q h hq
    rw [exec_dramReadData, State.dramNext_of_cand h hq]
  case noCand =>
    intro s c k hq
    rw [exec_dramReadData, State.dramNext_of_no_cand hq]
  case aged =>
    intro s c q h
    exact congrArg _ (State.agePromote_of_first h)
  case noneAges =>
    intro s c h
    exact congrArg _ (State.agePromote_of_uncounted_nil h)
  case due =>
    intro s c r b hr ha h
    rw [exec_dramRefresh, exec_dramRefresh, State.refresh_due hr ha h]
  case refresh =>
    intro s c r b hr ha
    refine ⟨fun h => ?_, ?_⟩
    · rw [exec_dramRefresh, State.refresh_postponed hr ha h]
    · rw [exec_dramRefresh, State.refresh_issued hr ha]
  case mr4 =>
    intro s c k hr ha
    exact congrArg _ (State.mr4_awake hr ha k.val)
  case powerDown =>
    intro s c r hr ha hen hpd hrank u
    rw [exec_powerDownEntry, State.powerDown_idle hr ha hen hpd hrank rfl, State.chanSettle_now]
  case standby =>
    intro s c hr ha hq b hs
    rw [exec_selfRefreshEntry, State.srEntry_standby hr ha hq hs]
  case selfRefresh =>
    intro s c hr ha hq hs hen u hfar
    rw [exec_selfRefreshEntry, State.srEntry_idle hr ha hq hs hen rfl hfar]
  case exitAwake =>
    intro s c h
    rw [exec_selfRefreshExit, State.srWake_awake h]
  case exit =>
    intro s c t0 t hsr exit l t1 t2 ht u
    exact congrArg _ (State.srWake_asleep hsr ht rfl)
  case trackNotReady =>
    intro s c h
    rw [exec_oscTracking, State.oscTrack_not_ready h]
  case track =>
    intro s c hr ha h
    refine ⟨(s.waitTo (s.dchan c.val).oscAt).free.toNat % 1025, by omega, ?_⟩
    rw [exec_oscTracking, State.oscTrack_runs hr ha rfl h]

end Sys2Proof.Machine
end

section
/-! SUPPORT. Where a COLD reset leaves the state, and what the main supplies do with it (R20, R489, R494). -/

namespace Sys2Proof.Machine

/-- What a step of a loop keeps, the loop keeps. -/
theorem forN_keeps {α : Type} {P : α → Prop} {f : Nat → α → α} (hf : ∀ k t, P t → P (f k t)) (n : Nat) {t : α}
    (ht : P t) : P (forN f n t) := by
  induction n with
  | zero => exact ht
  | succ n ih => exact hf n _ ih

/-- Two states that differ in pads, host ports and registers at most. -/
def State.SameButInputs (s t : State) : Prop :=
  ∃ pad ports regs, t = { s with pad := pad, ports := ports, regs := regs }

theorem State.SameButInputs.setPort {s t : State} (h : s.SameButInputs t) (p : Nat) (x : PortSt) :
    s.SameButInputs (t.setPort p x) := by
  obtain ⟨pad, ports, regs, rfl⟩ := h
  exact ⟨_, _, _, rfl⟩

theorem State.SameButInputs.put {s t : State} (h : s.SameButInputs t) (p : Nat) (x : Fld) (v : Nat) :
    s.SameButInputs (t.put p x v) := by
  obtain ⟨pad, ports, regs, rfl⟩ := h
  exact ⟨_, _, _, rfl⟩

/-- What others drive on the inputs stands in pads, host ports and registers only. -/
theorem State.inputsOf_sameButInputs (s old : State) : s.SameButInputs (s.inputsOf old) :=
  forN_keeps (P := s.SameButInputs) (fun _ _ h => h.put _ _ _) 2
    (forN_keeps (P := s.SameButInputs) (fun _ _ h => h.setPort _ _) 2 ⟨_, _, _, rfl⟩)

theorem State.coldState_sameButInputs (s : State) : s.coldBase.SameButInputs s.coldState :=
  s.coldBase.inputsOf_sameButInputs s

/-- The state whose main supplies have become good, as the power-on reset takes it. -/
def State.suppliesGood (s : State) : State :=
  let r := s.backup.restarts
  { s with
    power := { s.power with main := true }
    mode := .load
    prev := .load
    backup := { s.backup with
      fromBackup := s.mode == Mode.backup
      restarts := if r.cur.isNone then r.write [0] else r } }.noteReset .cold 0

theorem State.supplyGood_of_down {s : State} (h : s.mode = .off ∨ s.mode = .backup) :
    s.supplyGood = { (s.suppliesGood.coldState.put srcsPage F.SOURCES.SRC_SEEN 1).put rootPage
        F.ROOT.ROOT_STATUS_PLL_LOCKED 0 with
      thyme := 0, thymeRun := false, rst := { s.suppliesGood.coldState.rst with chip := some (.cold, 0) } } := by
  rw [State.supplyGood, if_pos h]
  rfl

theorem State.supplyLost_of_up {s : State} (h : ¬(s.mode = .off ∨ s.mode = .backup)) :
    s.supplyLost = { s.otpCut.coldState with
      mode := if s.otpCut.power.vbak then .backup else .off
      prev := .load
      thymeRun := false
      power := { s.otpCut.power with main := false }
      rst := { s.otpCut.coldState.rst with chip := none } } := by
  rw [State.supplyLost, if_neg h]

theorem State.otpCut_eq (s : State) : ∃ n otp run, s.otpCut = { s with freeCtr := n, otp := otp, otpRun := run } := by
  unfold State.otpCut
  split
  · exact ⟨_, _, _, rfl⟩
  · exact ⟨_, _, _, rfl⟩

theorem State.vbakOn_of_off {s : State} (h : s.mode = .off) :
    s.vbakOn = { s with power := { s.power with vbak := true }, mode := .backup } := if_pos h

theorem State.vbakOff_of_backup {s : State} (h : s.mode = .backup) :
    s.vbakOff = { s with power := { s.power with vbak := false }, mode := .off } := if_pos h

/-- A COLD reset keeps a `FAULT_N` that is driven low so for 1 ms (R473, R494, log 263). -/
theorem State.chipAssert_cold_lowTill {s : State} {src : Nat} (h : ¬(s.mode = .off ∨ s.mode = .backup))
    (hlow : s.otpPulse.faultLow = true) :
    (s.chipAssert .cold src).flt.lowTill = some (s.otpPulse.now + 614400) := by
  rw [State.chipAssert, if_neg h, if_neg (by simp)]
  exact if_pos hlow

theorem State.coldState_lowTill (s : State) : s.coldState.flt.lowTill = none := by
  obtain ⟨pad, ports, regs, h⟩ := s.coldState_sameButInputs
  rw [h]
  rfl

/-- A device in RUN whose `FAULT_N` a P reaction drives low. -/
def State.runFaultDriven : State :=
  ({ State.reset with mode := .run } : State).put fcollPage F.FCOLL.COLL_STATE_PIN_DRIVEN 1

theorem State.runFaultDriven_faultLow : State.runFaultDriven.otpPulse.faultLow = true := by decide +kernel

end Sys2Proof.Machine
end

section
/-! SUPPORT. Mode requests: their write, their verdict and the end of their check (R22, R24, R26). -/

namespace Sys2Proof.Machine

/-! A write of `MODE_REQUEST` -/

theorem State.ownRule_modeRequest (s : State) (r : Req) (v : Word) : s.ownRule r (modePage + 0x104) v = none := rfl

theorem State.writeEffect_modeRequest (s : State) (r : Req) {i : PInfo} (hi : i.kind = .mode) (v : Word) :
    s.writeEffect r i (modePage + 0x104) v = s.modeWrite v := by
  unfold State.writeEffect State.kindWrite
  rw [hi]
  rfl

theorem State.cmdWrite_modeRequest {s : State} {r : Req} (h : s.MayWrite r (modePage + 0x104)) (v : Word) :
    s.cmdWrite r (modePage + 0x104) v = s.modeWrite v := by
  rw [h.plain v (i := (pinfoAt (modePage + 0x104)).get rfl) rfl rfl (by decide) (s.ownRule_modeRequest r v)]
  exact s.writeEffect_modeRequest r rfl v

theorem exec_modeRequest {s : State} {r : Req} (h : s.MayWrite r (modePage + 0x104)) (v : Word) :
    exec (.modeRequest r v) s = .next (s.modeWrite v) :=
  congrArg Host.Outcome.next (State.cmdWrite_modeRequest h v)

/-! The verdict (R26) -/

section Verdict
variable {s : State}

theorem State.modeQuiet_of_other {q : Nat} (h5 : q ≠ 5) (h6 : q ≠ 6) : s.modeQuiet q = false := by
  simp [State.modeQuiet, h5, h6]

theorem State.modeVerdict_of_reserved {q : Nat} (h : 8 ≤ q) : s.modeVerdict q = Verdict.no 0x04 0x104 := if_pos h

theorem State.modeVerdict_of_not_requestable {q : Nat} (h : q ≤ 4) : s.modeVerdict q = Verdict.no 0x0F 0x104 := by
  have hq : s.modeQuiet q = false := State.modeQuiet_of_other (by omega) (by omega)
  unfold State.modeVerdict
  rw [if_neg (by omega), if_neg (by simp [hq])]
  split
  · omega
  · omega
  · omega
  · rfl

theorem State.modeVerdict_safe : s.modeVerdict 7 = Verdict.ok := rfl

theorem State.modeQuiet_run (hsafe : s.safeRun = false) (hm : s.mode = .run) : s.modeQuiet 5 = true := by
  simp [State.modeQuiet, hsafe, hm, Mode.code]

theorem State.modeQuiet_standby_of_run (hm : s.mode = .run) (hs : s.stby = .none) : s.modeQuiet 6 = false := by
  simp [State.modeQuiet, State.inStandbyMove, hm, hs, Mode.code]

theorem State.modeVerdict_of_quiet {q : Nat} (hq : q < 8) (h : s.modeQuiet q = true) : s.modeVerdict q = Verdict.ok :=
  (if_neg (by omega)).trans (if_pos h)

theorem State.modeVerdict_standby_of_liveHead {h : Nat} (hsafe : s.safeRun = false) (hs : s.stby = .none)
    (hm : s.mode = .run) (hl : s.liveHead = some h) : s.modeVerdict 6 = Verdict.no 0x07 0x104 0 h := by
  rw [State.modeVerdict, if_neg (by decide), if_neg (by simp [State.modeQuiet_standby_of_run hm hs])]
  simp [hsafe, hm, hl, rInUse]

end Verdict

/-- An accepted request for RUN leaves STANDBY (R28). -/
theorem State.modeAct_run_of_standby {s : State} (h : s.mode = .standby) : s.modeAct 5 = s.standbyExit :=
  if_neg (by simp [h])

/-! The check of the oldest request completes (R22, R24) -/

/-- The verdict on the oldest request q stands in `MODE_REQUEST` and `CHECK`, and `rest` waits behind it. -/
def State.modeJudged (s : State) (q : Nat) (rest : List Nat) : State :=
  ({ s with modeReqs := rest }.put modePage F.MODE.MODE_REQUEST_RESULT (s.modeVerdict q).reason).checkDone modePage
    (s.modeVerdict q)

section Done
variable {s : State} {q : Nat} {rest : List Nat} (hq : s.modeReqs = q :: rest)
include hq

theorem State.modeDone_of_trigger (ht : s.trigNow = true) :
    s.modeDone = { s with modeReqs := rest }.put modePage F.MODE.MODE_REQUEST_RESULT 0x41 := by
  rw [State.modeDone, hq]
  exact if_pos ht

theorem State.modeDone_of_judged (ht : s.trigNow = false) (hc : s.rst.chip = none) :
    s.modeDone = if (s.modeVerdict q).reason ≠ 0 ∨ s.modeQuiet q then s.modeJudged q rest
      else (s.modeJudged q rest).modeAct q := by
  rw [State.modeDone, hq]
  exact (if_neg (Bool.eq_false_iff.mp ht)).trans (if_neg (Option.not_isSome_iff_eq_none.mpr hc))

end Done

end Sys2Proof.Machine
end

section
/-! SUPPORT. The steps of a STANDBY entry, a wake event, and the undo (R27, R28, R29). -/

namespace Sys2Proof.Machine

theorem exec_standbyEntryStepComplete (s : State) : exec .standbyEntryStepComplete s = .next s.standbyStep := rfl

theorem exec_standbyUndoStepComplete (s : State) : exec .standbyUndoStepComplete s = .next s.undoStep := rfl

/-- Every source of a wake event has the same effect (log 73). -/
theorem exec_wakeEvent (w : WakeSrc) (s : State) : exec (.wakeEvent w) s = .next s.wake := by
  cases w <;> rfl

/-! A step of the entry ends: the next one starts, or the undo does after a wake event -/

section Entry
variable {s : State} {n : Nat}

theorem State.standbyStep_of_unmet {ab : Bool} (h : s.stby = .entry n ab) (hm : s.standbyMet n = false) :
    s.standbyStep = s := by
  rw [State.standbyStep, h]
  exact if_pos hm

theorem State.standbyStep_of_met {ab : Bool} (h : s.stby = .entry n ab) (hm : s.standbyMet n = true) :
    s.standbyStep = if ab then (s.standbyEnds n).undoFrom n true
      else if n < 4 then { s.standbyEnds n with stby := .entry (n + 1) false }
      else ({ (s.standbyEnds n).put modePage F.MODE.MODE_STATE_IN_TRANSITION 0 with stby := .none }).enter .standby := by
  rw [State.standbyStep, h]
  exact if_neg (by simp [hm])

theorem State.standbyEnds_of_other (h3 : n ≠ 3) (h4 : n ≠ 4) : s.standbyEnds n = s := by
  unfold State.standbyEnds
  split
  · contradiction
  · contradiction
  · rfl

end Entry

/-! A wake event during or after the entry -/

theorem State.wake_of_entry {s : State} {n : Nat} {ab : Bool} (h : s.stby = .entry n ab) (hc : s.rst.chip = none) :
    s.wake = { s with modeTrig := some s.now, stby := .entry n true } := by
  rw [State.wake, if_neg (by simp [hc]), h]
  rfl

theorem State.wake_of_standby {s : State} (h : s.stby = .none) (hm : s.mode = .standby) (hc : s.rst.chip = none) :
    s.wake = ({ s with modeTrig := some s.now } : State).standbyExit := by
  rw [State.wake, if_neg (by simp [hc]), h]
  exact if_pos hm

theorem State.wake_of_awake {s : State} (h : s.stby = .none) (hm : s.mode ≠ .standby) : s.wake = s := by
  rw [State.wake, h]
  exact (congrArg _ (if_neg hm)).trans (ite_self s)

/-! The undo -/

theorem State.undoStep_of_four {s : State} {ab : Bool} (h : s.stby = .undo 4 ab) :
    s.undoStep = (s.put divPage F.DIV.PHY_PLL_STATUS_DRAM_PLL_LOCKED 1).undoFrom 3 ab := by
  rw [State.undoStep, h]
  rfl

theorem State.undoStep_of_three {s : State} {ab : Bool} (h : s.stby = .undo 3 ab) (hp : s.portsPending = false) :
    s.undoStep = s.standbyOut ab := by
  rw [State.undoStep, h]
  exact if_neg (by simp [hp])

theorem State.enter_eq (s : State) (m : Mode) :
    s.enter m = ({ s with prev := s.mode, mode := m } : State).put64 modePage F.MODE.MODE_TS_LO s.now := rfl

theorem State.standbyOut_settled (s : State) : s.standbyOut false =
    (({ s.put modePage F.MODE.MODE_STATE_IN_TRANSITION 0 with stby := .none } : State).enter .run).ulpsExit := rfl

theorem State.standbyOut_aborted (s : State) : s.standbyOut true =
    ({ (s.put modePage F.MODE.MODE_STATE_IN_TRANSITION 0).put modePage F.MODE.MODE_REQUEST_RESULT 0x40 with
      stby := .none, prev := .run } : State).ulpsExit := rfl

end Sys2Proof.Machine
end

section
/-! SUPPORT. The pulses of `SYNC_OUT` (R61), a low supply (R570) and a discarded response (R18). -/

namespace Sys2Proof.Machine

theorem State.syncRise_of_train {s : State} {p w k : Nat} (ht : s.pad.sync.train = some (p, w))
    (hr : s.pad.sync.rise = some k) :
    s.syncRise = (s.waitTo k).modSync (fun x =>
      { x with level := true, fall := some ((s.waitTo k).now + w), rise := if p = 0 then none else some (k + p) }) := by
  rw [State.syncRise, ht, hr]

theorem State.syncFall_of_pulse {s : State} {k : Nat} (h : s.pad.sync.fall = some k) :
    s.syncFall = (s.waitTo k).modSync (fun x => { x with level := false, fall := none }) := by
  rw [State.syncFall, h]

theorem State.supplyUv_of_powered {s : State} {n : Nat} (h : s.powered = true) (hn : n < 7) : s.supplyUv n = s.hit 5 n :=
  if_pos ⟨h, hn⟩

theorem State.discard_of_engineReset {s : State} {rid : Nat} (h : s.engineReset rid = true) :
    s.discard rid = { s with
      discards := amSet (fun _ => 0) s.discards (rid / 32) (amGet (fun _ => 0) s.discards (rid / 32) + 1) } :=
  if_pos h

end Sys2Proof.Machine
end

section
/-! SUPPORT. A request to DRAM: its engine, the checker, the answer and the controller (R15, R346, R347, R437). -/

namespace Sys2Proof.Machine

/-! What an engine asks for -/

theorem State.dramIssue_of_may {s : State} {rq : MemRq} (hr : s.engineRuns rq.rid = true) (ht : s.engineTag rq.rid rq.tag = true)
    (hz : rq.tag ≠ 0 ∨ rq.rid / 32 = 5) (k : Nat) (d : List Byte) : s.dramIssue rq k d = s.dramRequest rq k d :=
  if_pos (by simpa [hr, ht] using hz)

theorem State.dramIssue_of_not {s : State} {rq : MemRq} (h : s.engineRuns rq.rid = false ∨ s.engineTag rq.rid rq.tag = false)
    (k : Nat) (d : List Byte) : s.dramIssue rq k d = s :=
  if_neg (by rcases h with h | h <;> simp [h])

/-! The checker -/

theorem State.dramRequest_of_bytes {s : State} {rq : MemRq} {d : List Byte} (hn : rq.bytes ≠ 0)
    (hd : rq.write = true → d.length = rq.bytes) (k : Nat) :
    s.dramRequest rq k d = if (s.dramNote rq k).potBlocks rq
      then { s.dramNote rq k with
        potWait := (s.dramNote rq k).potWait ++ [⟨rq, k, d, 0, (s.dramNote rq k).now, false, false⟩] }
      else (s.dramNote rq k).dramJudge rq k d := by
  rw [State.dramRequest]
  exact if_neg (fun h => h.elim hn (fun ⟨hw, hl⟩ => hl (hd hw)))

theorem State.dramJudge_of_refused {s u : State} {rq : MemRq} (h : s.judge rq = (u, none)) (k : Nat) (d : List Byte) :
    s.dramJudge rq k d = u.dramReply rq k false [] := by
  rw [State.dramJudge, h]

theorem State.dramJudge_of_remote {s u : State} {rq : MemRq} {e : Nat} (h : s.judge rq = (u, some e))
    (ha : remoteAddr rq.addr = true) (k : Nat) (d : List Byte) : s.dramJudge rq k d = u.dramReply rq k false [] := by
  rw [State.dramJudge, h]
  exact if_pos ha

theorem State.dramJudge_of_local {s u : State} {rq : MemRq} {e : Nat} (h : s.judge rq = (u, some e))
    (ha : remoteAddr rq.addr = false) (k : Nat) (d : List Byte) : s.dramJudge rq k d = u.dramArrive rq k d := by
  rw [State.dramJudge, h]
  exact if_neg (by simp [ha])

/-! The answer, in the order of its source (R347) -/

@[simp] theorem State.dramAnswer_held (s : State) (rq : MemRq) (ok : Bool) (d : List Byte) :
    (s.dramAnswer rq ok d).dc.held = s.dc.held := by
  unfold State.dramAnswer
  split
  case isTrue h => rw [State.discard_of_engineReset h]
  case isFalse => rfl

theorem State.dramRelease_of_held_nil {s : State} (h : s.dc.held = []) (rid k : Nat) : s.dramRelease rid k = s := by
  rw [State.dramRelease, h]
  rfl

theorem State.dramReply_of_earlier {s : State} {rq : MemRq} {k : Nat} {e : MemRq × Nat}
    (ho : s.dramOldest rq.rid k = some e) (hne : e.1 ≠ rq) (ok : Bool) (d : List Byte) :
    s.dramReply rq k ok d = s.modDc (fun x => { x with held := x.held ++ [⟨rq, k, ok, d⟩] }) := by
  rw [State.dramReply, ho]
  exact if_neg hne

theorem State.dramReply_of_oldest {s : State} {rq : MemRq} {k : Nat} {e : MemRq × Nat}
    (ho : s.dramOldest rq.rid k = some e) (heq : e.1 = rq) (hh : s.dc.held = []) (ok : Bool) (d : List Byte) :
    s.dramReply rq k ok d = s.dramReturn rq k ok d := by
  have hheld : (s.dramReturn rq k ok d).dc.held = [] := by
    rw [State.dramReturn, State.dramAnswer_held]
    exact hh
  rw [State.dramReply, ho]
  exact (if_pos heq).trans (State.dramRelease_of_held_nil hheld _ _)

/-! The controller -/

/-- A request as it reaches the controller. -/
def State.dramRqOf (s : State) (rq : MemRq) (k : Nat) (d : List Byte) : DramRq :=
  ⟨rq, k, d, s.dramCls rq k, s.now, false, false⟩

section Arrive
variable {s : State} {rq : MemRq} {k : Nat} {d : List Byte}

theorem State.dramArrive_of_disabled (h : s.enabled dglobPage = false) :
    s.dramArrive rq k d = s.globalOff.dramReply rq k false [] :=
  if_pos h

theorem State.dramArrive_of_ready (h : s.enabled dglobPage = true) (hc : s.chanState (s.rqChan (s.dramRqOf rq k d)) = 2) :
    s.dramArrive rq k d = if s.swept (granuleOf rq.addr) = false then s.sweepWait (s.dramRqOf rq k d)
      else (s.dramEnq (s.dramRqOf rq k d)).dramDrain (s.rqChan (s.dramRqOf rq k d)) := by
  rw [State.dramArrive]
  exact (if_neg (by simp [h])).trans (if_neg (fun hne => hne hc))

end Arrive

end Sys2Proof.Machine
end

section
/-! Settles the statements about supplies, modes, STANDBY, pins, DRAM requests and chip resets. -/

namespace Sys2Proof.Machine

/-- Settles O4: a supply that comes or goes is a case of its operation, and a power-on or power-loss reset leaves everything but
the inputs at `State.coldBase`. -/
theorem suppliesMoveTheMode : Obligations.SuppliesMoveTheMode := by
  unfold Obligations.SuppliesMoveTheMode
  refine ⟨?good, ?vbak, ?loss, ?vbakLoss⟩
  case good =>
    intro s h
    obtain ⟨pad, ports, regs, hc⟩ := s.suppliesGood.coldState_sameButInputs
    refine ⟨_, congrArg Host.Outcome.next (State.supplyGood_of_down h), ?_⟩
    rw [hc]
    exact ⟨rfl, rfl, rfl, rfl, rfl, rfl, rfl, rfl, rfl, rfl, rfl⟩
  case vbak =>
    intro s h
    exact congrArg Host.Outcome.next (State.vbakOn_of_off h)
  case loss =>
    intro s h1 h2
    obtain ⟨n, otp, run, ho⟩ := s.otpCut_eq
    obtain ⟨pad, ports, regs, hc⟩ := s.otpCut.coldState_sameButInputs
    refine ⟨_, congrArg Host.Outcome.next (State.supplyLost_of_up (not_or.mpr ⟨h1, h2⟩)), ?_⟩
    rw [hc, ho]
    exact ⟨rfl, rfl, rfl, rfl, rfl, rfl, rfl⟩
  case vbakLoss =>
    intro s h
    exact congrArg Host.Outcome.next (State.vbakOff_of_backup h)

/-- Settles O5: the write queues the request, and its check writes the verdict and acts on an acceptance that is not quiet. -/
theorem modeRequestsAreJudged : Obligations.ModeRequestsAreJudged := by
  unfold Obligations.ModeRequestsAreJudged
  refine ⟨?write, ?refused, ?reserved, ?notRequestable, ?safe, ?liveHead, ?quiet, ?trigger, ?accepted, ?entry, ?exit⟩
  case write =>
    intro s r v h
    rw [exec_modeRequest h]
    rfl
  case refused =>
    intro s q rest hq ht hc hv
    exact congrArg Host.Outcome.next ((State.modeDone_of_judged hq ht hc).trans (if_pos (.inl hv)))
  case reserved =>
    intro s q h
    exact State.modeVerdict_of_reserved h
  case notRequestable =>
    intro s q h
    exact State.modeVerdict_of_not_requestable h
  case safe =>
    intro s
    exact State.modeVerdict_safe
  case liveHead =>
    intro s h hsafe hs hm hl
    exact State.modeVerdict_standby_of_liveHead hsafe hs hm hl
  case quiet =>
    intro s rest hq ht hc hsafe hm hs
    have hquiet : s.modeQuiet 5 = true := State.modeQuiet_run hsafe hm
    have hok : s.modeVerdict 5 = Verdict.ok := State.modeVerdict_of_quiet (by decide) hquiet
    refine congrArg Host.Outcome.next ((State.modeDone_of_judged hq ht hc).trans ((if_pos (.inr hquiet)).trans ?_))
    rw [State.modeJudged, hok]
    rfl
  case trigger =>
    intro s q rest hq ht
    exact congrArg Host.Outcome.next (State.modeDone_of_trigger hq ht)
  case accepted =>
    intro s q rest hq ht hc hv hquiet
    refine congrArg Host.Outcome.next ((State.modeDone_of_judged hq ht hc).trans ((if_neg ?_).trans ?_))
    · simp [hv, hquiet]
    · rw [State.modeJudged, hv]
  case entry =>
    intro s
    rfl
  case exit =>
    intro s hm
    exact State.modeAct_run_of_standby hm

/-- Settles O6: each clause is a case of the step, the wake or the undo that its command runs. -/
theorem standbyEntersAndLeaves : Obligations.StandbyEntersAndLeaves := by
  unfold Obligations.StandbyEntersAndLeaves
  refine ⟨?next, ?ports, ?aborted, ?entered, ?unmet, ?wakeEntry, ?wakeStandby, ?wakeAwake, ?undoPll, ?undone, ?undoneAborted⟩
  case next =>
    intro s n h hm hn h3
    rw [exec_standbyEntryStepComplete, State.standbyStep_of_met h hm, State.standbyEnds_of_other h3 (by omega)]
    exact congrArg Host.Outcome.next (if_pos hn)
  case ports =>
    intro s h hm
    refine ⟨_, congrArg Host.Outcome.next (State.standbyStep_of_met h hm), ?_⟩
    exact ⟨rfl, rfl, rfl⟩
  case aborted =>
    intro s n h hm
    rw [exec_standbyEntryStepComplete, State.standbyStep_of_met h hm]
    rfl
  case entered =>
    intro s h hm
    rw [exec_standbyEntryStepComplete, State.standbyStep_of_met h hm, if_neg Bool.false_ne_true, if_neg (by omega),
      State.enter_eq]
    rfl
  case unmet =>
    intro s n h hm
    rw [exec_standbyEntryStepComplete, State.standbyStep_of_unmet h hm]
  case wakeEntry =>
    intro s w n ab h hc
    rw [exec_wakeEvent, State.wake_of_entry h hc]
  case wakeStandby =>
    intro s w h hm hc
    rw [exec_wakeEvent, State.wake_of_standby h hm hc]
    rfl
  case wakeAwake =>
    intro s w h hm
    rw [exec_wakeEvent, State.wake_of_awake h hm]
  case undoPll =>
    intro s ab h
    rw [exec_standbyUndoStepComplete, State.undoStep_of_four h]
  case undone =>
    intro s h hp
    rw [exec_standbyUndoStepComplete, State.undoStep_of_three h hp, State.standbyOut_settled, State.enter_eq]
    rfl
  case undoneAborted =>
    intro s h hp
    rw [exec_standbyUndoStepComplete, State.undoStep_of_three h hp, State.standbyOut_aborted]

/-- Settles O11: each clause is the case of its operation that its hypotheses name. -/
theorem boardSyncAndPins : Obligations.BoardSyncAndPins := by
  unfold Obligations.BoardSyncAndPins
  refine ⟨?rise, ?fall, ?lowSupply, ?discarded⟩
  case rise =>
    intro s p w k ht hr
    exact congrArg Host.Outcome.next (State.syncRise_of_train ht hr)
  case fall =>
    intro s k h
    exact congrArg Host.Outcome.next (State.syncFall_of_pulse h)
  case lowSupply =>
    intro s n h hn
    exact congrArg Host.Outcome.next (State.supplyUv_of_powered h hn)
  case discarded =>
    intro s rid h
    exact congrArg Host.Outcome.next (State.discard_of_engineReset h)

/-- Settles O45: an engine's request goes through the checker, the reply and the controller, one lemma per case of each. -/
theorem dramRequests : Obligations.DramRequests := by
  unfold Obligations.DramRequests
  refine ⟨?judged, ?replied, ?noRequest, ?queued, ?disabled, ?unswept⟩
  case judged =>
    intro s rid tag k a w l n d hn hd hr ht hz rq v
    have hissue : exec (.dramRequest rid tag k a w l n d) s = .next (s.dramRequest rq k d) := by
      refine congrArg Host.Outcome.next (State.dramIssue_of_may hr ht ?_ k d)
      exact hz.imp_left (fun h h0 => h (BitVec.eq_of_toNat_eq h0))
    rw [hissue, State.dramRequest_of_bytes hn hd]
    refine ⟨?blocked, ?refused, ?allowed, ?remote⟩
    case blocked =>
      intro hp
      exact congrArg Host.Outcome.next (if_pos hp)
    case refused =>
      intro u hp hj
      exact congrArg Host.Outcome.next ((if_neg (Bool.eq_false_iff.mp hp)).trans (State.dramJudge_of_refused hj k d))
    case allowed =>
      intro u e hp hj ha
      exact congrArg Host.Outcome.next ((if_neg (Bool.eq_false_iff.mp hp)).trans (State.dramJudge_of_local hj ha k d))
    case remote =>
      intro u e hp hj ha
      exact congrArg Host.Outcome.next ((if_neg (Bool.eq_false_iff.mp hp)).trans (State.dramJudge_of_remote hj ha k d))
  case replied =>
    intro s rq k ok d e ho
    exact ⟨fun hne => State.dramReply_of_earlier ho hne ok d, fun heq hh => State.dramReply_of_oldest ho heq hh ok d⟩
  case noRequest =>
    intro s rid tag k a w l n d h
    exact congrArg Host.Outcome.next (State.dramIssue_of_not h k d)
  case queued =>
    intro s rq k d h hc hs
    exact (State.dramArrive_of_ready h hc).trans (if_neg (by simp [hs]))
  case disabled =>
    intro s rq k d h
    exact State.dramArrive_of_disabled h
  case unswept =>
    intro s rq k d h hc hs
    exact (State.dramArrive_of_ready h hc).trans (if_pos hs)

/-- Refutes O50: the state that its second clause gives has no tick until which `FAULT_N` stays low, and a COLD reset of a
device that drives `FAULT_N` low sets one. -/
theorem not_chipResets : ¬ Obligations.ChipResets := by
  unfold Obligations.ChipResets
  intro h
  obtain ⟨-, hcold, -⟩ := h
  obtain ⟨x, hx, heq⟩ := hcold State.runFaultDriven 3 (by decide) (by decide)
  have htill : (State.runFaultDriven.chipAssert .cold 3).flt.lowTill = none := by
    rw [heq]
    change x.flt.lowTill = none
    rw [hx, State.put_flt, State.coldState_lowTill]
  rw [State.chipAssert_cold_lowTill (by decide) State.runFaultDriven_faultLow] at htill
  exact absurd htill (by simp)

end Sys2Proof.Machine
end

section
/-! SUPPORT. Edges of `SYNC_IN` (R60), and the events of the root clock (R34–R37). -/

namespace Sys2Proof.Machine

/-! A selected edge of `SYNC_IN` -/

@[simp] theorem State.padExt_now (s : State) (g : Nat) (b : Bool) : (s.padExt g b).now = s.now := rfl

@[simp] theorem State.padExt_lastIn (s : State) (g : Nat) (b : Bool) :
    (s.padExt g b).pad.sync.lastIn = s.pad.sync.lastIn := rfl

/-- An edge of `SYNC_IN` now follows the previous one within 64 ticks. -/
def State.syncNear (s : State) : Bool :=
  match s.pad.sync.lastIn with
  | some k => decide (s.now < k + 64)
  | none => false

theorem State.syncNear_of_within {s : State} {k : Nat} (h : s.pad.sync.lastIn = some k) (hk : s.now < k + 64) :
    s.syncNear = true := by
  rw [State.syncNear, h]
  exact decide_eq_true hk

theorem State.syncNear_of_apart {s : State} (h : ∀ k, s.pad.sync.lastIn = some k → k + 64 ≤ s.now) :
    s.syncNear = false := by
  unfold State.syncNear
  split
  case h_1 k hk => exact decide_eq_false (Nat.not_lt.mpr (h k hk))
  case h_2 => rfl

/-- An edge of `SYNC_IN` is counted, and noted as the last one. -/
def State.syncCount (s : State) : State :=
  (s.inc bsyncPage F.BSYNC.SYNC_IN_COUNT).modSync (fun x => { x with lastIn := some s.now })

/-- Every selected edge is counted and raises its interrupt bit; one that is not near the previous one is stamped. -/
theorem State.syncEdge_of_selected {s : State} {g : Nat} {up : Bool} (hg : s.syncPad = some g)
    (hon : (s.padExt g up).enabled bsyncPage = true) (hin : (s.padExt g up).flag bsyncPage F.BSYNC.SYNC_CTRL_IN_EN = true)
    (hedge : (s.padExt g up).flag bsyncPage F.BSYNC.SYNC_CTRL_IN_EDGE = !up) :
    s.syncEdge up = (if s.syncNear then (s.padExt g up).syncCount
      else (s.padExt g up).syncCount.put64 bsyncPage F.BSYNC.SYNC_IN_TS_LO s.now).intBit bsyncPage 0 := by
  rw [State.syncEdge, hg]
  exact if_neg (by simp [hon, hin, hedge])

/-! The root PLL locks after a COLD reset (R34, log 263) -/

theorem State.pllLock_of_cold {s : State} {k : Nat} (h : s.rst.chip = some (.cold, k)) (hn : s.rst.resetN = false)
    (ht : s.rst.testEn = false) :
    s.pllLock = ({ (s.put rootPage F.ROOT.ROOT_STATUS_PLL_LOCKED 1).put rootPage F.ROOT.ROOT_STATUS_MON_OK 1 with
      thyme := 0, thymeRun := true, mode := .load, prev := .load,
      flt := { s.flt with lowTill := s.flt.lowTill.map (fun _ => 614400) },
      rst := { s.rst with chip := none, rootAbsent := false, loading := true } } : State).put64 modePage F.MODE.MODE_TS_LO 0 := by
  rw [State.pllLock, h]
  exact if_neg (by simp [hn, ht])

/-! Root loss: the first-fault record, and a COLD reset (R35, R36) -/

theorem State.otpPulse_eq (s : State) :
    ∃ thyme otp run, s.otpPulse = { s with thyme := thyme, otp := otp, otpRun := run } := by
  unfold State.otpPulse State.otpPut State.waitTo
  split
  · exact ⟨_, _, _, rfl⟩
  · dsimp only
    split
    · exact ⟨_, _, _, rfl⟩
    · exact ⟨_, _, _, rfl⟩

/-- What a COLD reset of a powered device keeps, beside its own record in `rst`. -/
theorem State.chipAssert_cold_keeps {s : State} (h : ¬(s.mode = .off ∨ s.mode = .backup)) (src : Nat) :
    (∃ k, (s.chipAssert .cold src).rst.chip = some (.cold, k)) ∧ (s.chipAssert .cold src).mode = s.mode
      ∧ (s.chipAssert .cold src).pending = s.pending ∧ (s.chipAssert .cold src).backup.ff = s.backup.ff := by
  obtain ⟨thyme, otp, run, ho⟩ := s.otpPulse_eq
  obtain ⟨pad, ports, regs, hc⟩ := (s.otpPulse.noteReset .cold src).coldState_sameButInputs
  have heq : s.chipAssert .cold src =
      let t := (s.otpPulse.noteReset .cold src).coldState.put srcsPage F.SOURCES.SRC_SEEN (1 <<< src)
      { t with
        rst := { t.rst with chip := some (.cold, t.now) }
        flt := { t.flt with lowTill := if s.otpPulse.faultLow then some (s.otpPulse.now + 614400) else none }
        modeReqs := [], modeTrig := some t.now } := by
    rw [State.chipAssert, if_neg h, if_neg (by simp)]
    rfl
  rw [heq, hc, ho]
  exact ⟨⟨_, rfl⟩, rfl, rfl, rfl⟩

/-- The first-fault record of root loss is written where none stands. -/
def State.rootRecord (s : State) : State :=
  if s.backup.ff.cur.isNone then
    s.writeFF [0xC0000000 + (2 <<< 20), s.owner rootPage, 0, 0x01 <<< 8, s.now % 0x100000000, s.now / 0x100000000,
      0, 0, 0, 0, s.backup.count.word 0, s.mode.code]
  else s

theorem State.rootRecord_of_some {s : State} {c : BkCopy} (h : s.backup.ff.cur = some c) : s.rootRecord = s :=
  if_neg (by simp [h])

theorem State.rootRecord_eq (s : State) : ∃ b, s.rootRecord = { s with backup := b } := by
  unfold State.rootRecord State.writeFF
  split
  · exact ⟨_, rfl⟩
  · exact ⟨_, rfl⟩

@[simp] theorem State.rootRecord_mode (s : State) : s.rootRecord.mode = s.mode := by
  obtain ⟨b, h⟩ := s.rootRecord_eq
  rw [h]

@[simp] theorem State.rootRecord_pending (s : State) : s.rootRecord.pending = s.pending := by
  obtain ⟨b, h⟩ := s.rootRecord_eq
  rw [h]

theorem State.rootLoss_of_up {s : State} (h : ¬(s.mode = .off ∨ s.mode = .backup)) :
    s.rootLoss = { ((s.rootRecord.chipAssert .cold 1).put rootPage F.ROOT.ROOT_STATUS_PLL_LOCKED 0).put rootPage
        F.ROOT.ROOT_STATUS_MON_OK 0 with
      thymeRun := false, rst := { (s.rootRecord.chipAssert .cold 1).rst with rootAbsent := true } } :=
  if_neg h

/-! A stopped monitor oscillator, and a lost lock (R37) -/

theorem State.monLoss_of_run {s : State} (hp : s.powered = true) (h : s.flag rootPage F.ROOT.ROOT_STATUS_MON_RUN = true) :
    s.monLoss = (s.put rootPage F.ROOT.ROOT_STATUS_MON_RUN 0).hit 0 0 := if_pos ⟨hp, h⟩

theorem State.pllUnlock_of_locked {s : State} (hp : s.powered = true)
    (h : s.flag rootPage F.ROOT.ROOT_STATUS_PLL_LOCKED = true) :
    s.pllUnlock = ((s.incSat rootPage F.ROOT.ROOT_STATUS_LOCK_LOSS_COUNT).put rootPage
      F.ROOT.ROOT_STATUS_PLL_LOCKED 0).hit 1 0 := if_pos ⟨hp, h⟩

end Sys2Proof.Machine
end

section
/-! Settles the statements about edges of `SYNC_IN` and the root clock. -/

namespace Sys2Proof.Machine

/-- Settles O3: both clauses are the selected edge, near the previous one or apart from it. -/
theorem syncInEdges : Obligations.SyncInEdges := by
  unfold Obligations.SyncInEdges
  intro s g up hg hon hin hedge
  have hsel := State.syncEdge_of_selected hg hon hin hedge
  refine ⟨?near, ?apart⟩
  case near =>
    intro k hlast hk
    refine congrArg Host.Outcome.next ?_
    rw [hsel, State.syncNear_of_within hlast hk, if_pos rfl]
    rfl
  case apart =>
    intro h
    refine congrArg Host.Outcome.next ?_
    rw [hsel, State.syncNear_of_apart h, if_neg Bool.false_ne_true]
    rfl

/-- Settles O7: each clause is the case of its operation that its hypotheses name; root loss keeps what a COLD reset keeps. -/
theorem rootClockEvents : Obligations.RootClockEvents := by
  unfold Obligations.RootClockEvents
  refine ⟨?lock, ?retry, ?loss, ?monitor, ?unlock⟩
  case lock =>
    intro s k h hn ht
    exact congrArg Host.Outcome.next (State.pllLock_of_cold h hn ht)
  case retry =>
    intro s
    rfl
  case loss =>
    intro s h1 h2
    have hup : ¬(s.mode = .off ∨ s.mode = .backup) := not_or.mpr ⟨h1, h2⟩
    have hcold := State.chipAssert_cold_keeps (s := s.rootRecord) (by simpa using hup) 1
    obtain ⟨hchip, hmode, hpend, hff⟩ := hcold
    refine ⟨_, congrArg Host.Outcome.next (State.rootLoss_of_up hup), rfl, rfl, hchip, ?_, ?_, ?_⟩
    · exact hmode.trans s.rootRecord_mode
    · exact hpend.trans s.rootRecord_pending
    · intro c hc
      refine hff.trans ?_
      rw [State.rootRecord_of_some hc]
  case monitor =>
    intro s hp h
    exact congrArg Host.Outcome.next (State.monLoss_of_run hp h)
  case unlock =>
    intro s hp h
    exact congrArg Host.Outcome.next (State.pllUnlock_of_locked hp h)

end Sys2Proof.Machine
end

section
/-! SUPPORT. Gate requests and their check (R41, R42), and the release of a reset by clock-ok or without it (R40). -/

namespace Sys2Proof.Machine

/-! A write of `GATE_REQ` -/

theorem State.cmdWrite_gateReq {s : State} {r : Req} (h : s.Reaches r (divPage + 0x140)) (v : Word) :
    s.cmdWrite r (divPage + 0x140) v = if gateWriter r then s.gateWrite r (bits v.toNat 15 8) (bit v.toNat 0)
      else s.violation r (divPage + 0x140) true := by
  have hown : s.ownRule r (divPage + 0x140) v = if gateWriter r
      then some (s.gateWrite r (bits v.toNat 15 8) (bit v.toNat 0), false)
      else some (s.violation r (divPage + 0x140) true, true) := by
    unfold State.ownRule
    exact if_pos rfl
  have hi : pinfoAt (divPage + 0x140) = some ((pinfoAt (divPage + 0x140)).get rfl) := rfl
  split at hown
  case isTrue hw => exact (h.own v hi (by decide) (by decide) hown).trans (if_pos hw).symm
  case isFalse hw => exact (h.own v hi (by decide) (by decide) hown).trans (if_neg hw).symm

/-- The word of a gate request, DOMAIN in bits 15:8 and GATE in bit 0, gives back the domain and the gate. -/
theorem gateReq_fields (d : BitVec 8) (gate : Bool) :
    bits (BitVec.ofNat 32 (d.toNat * 256 + gate.toNat)).toNat 15 8 = d.toNat
      ∧ bit (BitVec.ofNat 32 (d.toNat * 256 + gate.toNat)).toNat 0 = gate := by
  have hd := d.isLt
  have hg : gate.toNat ≤ 1 := Bool.toNat_le gate
  have hlt : d.toNat * 256 + gate.toNat < 2 ^ 32 := by omega
  rw [BitVec.toNat_ofNat, Nat.mod_eq_of_lt hlt]
  constructor
  · unfold bits
    rw [Nat.shiftRight_eq_div_pow, Nat.one_shiftLeft]
    omega
  · unfold bit
    rw [Nat.testBit_zero]
    cases gate
    · exact decide_eq_false (by simp; omega)
    · exact decide_eq_true (by simp; omega)

section Request
variable {s : State} {r : Req} (h : s.Reaches r (divPage + 0x140))
include h

theorem exec_domainGate (d : BitVec 8) :
    exec (.domainGate r d) s = .next (if gateWriter r then s.gateWrite r d.toNat true
      else s.violation r (divPage + 0x140) true) := by
  obtain ⟨hdom, hgate⟩ := gateReq_fields d true
  refine congrArg Host.Outcome.next ((State.cmdWrite_gateReq h _).trans ?_)
  rw [← Bool.toNat_true, hdom, hgate]

theorem exec_domainUngate (d : BitVec 8) :
    exec (.domainUngate r d) s = .next (if gateWriter r then s.gateWrite r d.toNat false
      else s.violation r (divPage + 0x140) true) := by
  obtain ⟨hdom, hgate⟩ := gateReq_fields d false
  refine congrArg Host.Outcome.next ((State.cmdWrite_gateReq h _).trans ?_)
  rw [Bool.toNat_false, Nat.add_zero] at hdom hgate
  rw [hdom, hgate]

end Request

theorem State.gateWrite_of_idle {s : State} (h : s.gateRun = none) (r : Req) (d : Nat) (gate : Bool) :
    s.gateWrite r d gate = { (s.put divPage F.DIV.GATE_RESULT_DONE 0).put divPage F.DIV.GATE_RESULT_DOMAIN d with
      gateRun := some ⟨r, d, gate⟩ } := by
  rw [State.gateWrite, h]

theorem State.gateWrite_of_running {s : State} {g : GateReq} (h : s.gateRun = some g) (r : Req) (d : Nat) (gate : Bool) :
    s.gateWrite r d gate = { s with gateWait := s.gateWait ++ [⟨r, d, gate⟩] } := by
  rw [State.gateWrite, h]

/-! The check completes -/

theorem State.gateDone_of_running {s : State} {g : GateReq} (h : s.gateRun = some g) :
    s.gateDone = (s.gateResult g (s.gateReason g)).gateNext := by
  rw [State.gateDone, h]

theorem State.gateNext_of_none {s : State} (h : s.gateWait = []) : s.gateNext = { s with gateRun := none } := by
  rw [State.gateNext, h]

theorem State.gateNext_of_waiting {s : State} {n : GateReq} {l : List GateReq} (h : s.gateWait = n :: l) :
    s.gateNext = { (s.put divPage F.DIV.GATE_RESULT_DONE 0).put divPage F.DIV.GATE_RESULT_DOMAIN n.dom with
      gateRun := some n, gateWait := l } := by
  rw [State.gateNext, h]

/-- `GATE_RESULT` says that the check of a request is done, for which domain and with which reason. -/
def State.gateReport (s : State) (g : GateReq) (e : Nat) : State :=
  ((s.put divPage F.DIV.GATE_RESULT_DONE 1).put divPage F.DIV.GATE_RESULT_REASON e).put divPage
    F.DIV.GATE_RESULT_DOMAIN g.dom

theorem State.gateResult_of_refused {s : State} {g : GateReq} {e : Nat} (h0 : e ≠ 0) (hh : e ≠ 0x0C) :
    s.gateResult g e = s.gateReport g e :=
  (if_neg hh).trans (if_pos h0)

theorem State.gateResult_of_accepted (s : State) (g : GateReq) :
    s.gateResult g 0 = if g.gate then ((s.gateReport g 0).setGated g.dom true).setClockOk g.dom false
      else if s.gated g.dom then ((s.gateReport g 0).setGated g.dom false).setClockOk g.dom true
      else s.gateReport g 0 := by
  rw [State.gateResult, if_neg (by decide), if_neg (by decide)]
  rfl

/-! The verdict on a gate request (R42) -/

section Reason
variable {s : State} {g : GateReq} (hd : isDomain g.dom = true) (hp : domPresent s.part g.dom = true) (hg : g.gate = true)
include hd hp hg

theorem State.gateReason_of_core (h : g.dom ≤ 5) : s.gateReason g = 0x40 := by
  rw [State.gateReason, if_neg (by simp [hd]), if_neg (by simp [hp]), if_neg (by simp [hg]), if_pos h]

/-- The secure world's own request is held back by nothing but a page that is not idle. -/
theorem State.gateReason_of_busy (h : 5 < g.dom) (ht : g.req.tag = 1) (hb : ∃ p ∈ pagesOf g.dom, s.idle p = false) :
    s.gateReason g = 0x0E := by
  have hany : (pagesOf g.dom).any (fun p => !s.idle p) = true := by
    obtain ⟨p, hmem, hbusy⟩ := hb
    exact List.any_eq_true.mpr ⟨p, hmem, by simp [hbusy]⟩
  rw [State.gateReason, if_neg (by simp [hd]), if_neg (by simp [hp]), if_neg (by simp [hg]), if_neg (by omega),
    if_neg (by simp [ht]), if_pos hany]
  rfl

end Reason

/-! A reset release (R40) -/

section PageRelease
variable {s : State} {base : Nat} {q : Req} {k : Nat} (h : (s.ctl base).inReset = some (q, k))
include h

theorem State.clockSeenPage_in_time (hc : base ≠ corePage 0) (hk : s.now < k + 12288) :
    s.clockSeenPage base = (s.setClockOk (domOf base) true).blockDone base false := by
  rw [State.clockSeenPage, if_neg hc, h]
  exact if_neg (by omega)

theorem State.abandonPage_of_inReset : s.abandonPage base = (s.waitTo (k + 12288)).blockDone base true := by
  rw [State.abandonPage, h]

end PageRelease

section DomainRelease
variable {s : State} {d : Nat} {x : DomRst} (h : s.domReset d = some x) (hr : s.recHolds d = false)
include h hr

theorem State.clockSeenDom_in_time (hk : s.now < x.start + 15360) :
    s.clockSeenDom d = ((s.waitTo (x.start + 3072)).setClockOk d true).domEnd d false := by
  rw [State.clockSeenDom, h]
  dsimp only
  rw [if_neg (by simp [hr]), if_neg (by omega)]

theorem State.abandonDom_of_domReset :
    s.abandonDom d = ((s.waitTo (x.start + 15360)).setClockOk d false).domEnd d true := by
  have hlast : x.start + 3072 + 12288 = x.start + 15360 := Nat.add_assoc _ _ _
  rw [State.abandonDom, h]
  exact (if_neg (by simp [hr])).trans (congrArg (fun t => ((s.waitTo t).setClockOk d false).domEnd d true) hlast)

end DomainRelease

end Sys2Proof.Machine
end

section
/-! Settles the statement about gate requests and reset releases. -/

namespace Sys2Proof.Machine

/-- Settles O8: a request starts or waits by whether one runs, its result follows the reason of its check, and a release ends
with clock-ok or is abandoned. -/
theorem gatesAndReleases : Obligations.GatesAndReleases := by
  unfold Obligations.GatesAndReleases
  refine ⟨?gate, ?ungate, ?waits, ?violation, ?done, ?result, ?last, ?next, ?core, ?busy, ?page, ?domain⟩
  case gate =>
    intro s r d h hw hr
    rw [exec_domainGate h, if_pos hw, State.gateWrite_of_idle hr]
  case ungate =>
    intro s r d h hw hr
    rw [exec_domainUngate h, if_pos hw, State.gateWrite_of_idle hr]
  case waits =>
    intro s r d g h hw hr
    rw [exec_domainGate h, exec_domainUngate h, if_pos hw, if_pos hw, State.gateWrite_of_running hr,
      State.gateWrite_of_running hr]
    exact ⟨rfl, rfl⟩
  case violation =>
    intro s r d h hw
    rw [exec_domainGate h, exec_domainUngate h, if_neg (Bool.eq_false_iff.mp hw), if_neg (Bool.eq_false_iff.mp hw)]
    exact ⟨rfl, rfl⟩
  case done =>
    intro s g hr
    exact congrArg Host.Outcome.next (State.gateDone_of_running hr)
  case result =>
    intro s u g e hu
    change u = s.gateReport g e at hu
    subst hu
    refine ⟨?gated, ?ungated, ?ungatedAlready, ?refused⟩
    case gated =>
      rintro rfl hg
      rw [State.gateResult_of_accepted, if_pos hg]
    case ungated =>
      rintro rfl hg hd
      rw [State.gateResult_of_accepted, if_neg (Bool.eq_false_iff.mp hg), if_pos hd]
    case ungatedAlready =>
      rintro rfl hg hd
      rw [State.gateResult_of_accepted, if_neg (Bool.eq_false_iff.mp hg), if_neg (Bool.eq_false_iff.mp hd)]
    case refused =>
      intro h0 hh
      exact State.gateResult_of_refused h0 hh
  case last =>
    intro s h
    exact State.gateNext_of_none h
  case next =>
    intro s n l h
    exact State.gateNext_of_waiting h
  case core =>
    intro s g hd hp hg h
    exact State.gateReason_of_core hd hp hg h
  case busy =>
    intro s g hd hp hg h ht hb
    exact State.gateReason_of_busy hd hp hg h ht hb
  case page =>
    intro s p q k hc h
    exact ⟨fun hk => congrArg Host.Outcome.next (State.clockSeenPage_in_time h hc hk),
      congrArg Host.Outcome.next (State.abandonPage_of_inReset h)⟩
  case domain =>
    intro s d x h hr
    exact ⟨fun hk => congrArg Host.Outcome.next (State.clockSeenDom_in_time h hr hk),
      congrArg Host.Outcome.next (State.abandonDom_of_domReset h hr)⟩

end Sys2Proof.Machine
end

section
/-! SUPPORT. Reads of registers and of a function's status page, with the snapshots of high words (R45, R53, R73, R398). -/

namespace Sys2Proof.Machine

/-- A value that the table does not leave out is read back, in canonical form or not. -/
theorem amGet_amSet_same_of_ne {α : Type} [DecidableEq α] (d : Nat → α) {a : Nat} {v : α} (hv : v ≠ d a)
    (l : List (Nat × α)) : amGet d (amSet d l a v) a = v := by
  induction l with
  | nil => simp [amSet, amGet, hv]
  | cons e t ih =>
    obtain ⟨k, w⟩ := e
    unfold amSet
    rw [if_neg hv, if_neg hv]
    split
    · exact if_pos rfl
    · split
      case isTrue => exact if_pos rfl
      case isFalse hne => exact (if_neg hne).trans ih

/-! A read by the access rules -/

theorem State.not_fabricOff_of_powered {s : State} {r : Req} (hp : s.powered = true) (hr : s.reqReal r = true) :
    ¬(s.fabricOff = true ∨ s.reqReal r = false) := by
  simp only [State.powered, Bool.and_eq_true, bne_iff_ne, ne_eq, Option.isNone_iff_eq_none] at hp
  obtain ⟨⟨hoff, hbackup⟩, hchip⟩ := hp
  simp [State.fabricOff, hr, hoff, hbackup, hchip]

/-- The read of a whole word that reaches the fabric is answered with what the word's read gives. -/
theorem State.cmdRead_word {s : State} {r : Req} (hp : s.powered = true) (hr : s.reqReal r = true) (a : Nat) :
    s.cmdRead r a = State.answer r a (s.wordRead r a) :=
  if_neg (State.not_fabricOff_of_powered hp hr)

/-- A read of the register has no effect of its own (R117, R128, R315, R563, R565). -/
def readPlain (k : PKind) (off : Nat) : Bool :=
  match k with
  | .layer => off != 0x194
  | .colour => off != 0x144
  | .asrc => off != 0xF40
  | .pbc => decide (off < 0xF00)
  | .xspi => off != 0xF00
  | _ => true

/-- No low word that snapshots its high word has another effect. -/
theorem readPlain_of_snapLo {k : PKind} {off : Nat} (h : snapLo k off = true) : readPlain k off = true := by
  unfold readPlain
  split
  case h_6 => rfl
  all_goals
    simp [snapLo, stat64At] at h
    simp
    omega

theorem State.MayRead.wordRead_plain {s : State} {r : Req} {a : Nat} {i : PInfo} (h : s.MayRead r a i)
    (hd : offDefined i (offOf a) = true) (hk : readPlain i.kind (offOf a) = true) :
    s.wordRead r a = s.grantRead r i.kind a := by
  unfold State.wordRead State.readWith
  rw [if_neg (State.not_fabricOff_of_powered h.up h.real)]
  simp only [h.info, hd, h.here, h.may, h.run]
  -- the kinds that `readPlain` tells apart are those whose reads may have an effect of their own
  unfold readPlain at hk
  split at hk
  all_goals simp_all

theorem State.wordRead_denied {s : State} {r : Req} {a : Nat} {i : PInfo} (hp : s.powered = true) (hr : s.reqReal r = true)
    (hi : pinfoAt a = some i) (hd : offDefined i (offOf a) = true) (hh : s.present (pageOf a) = true)
    (hm : s.mayRead r i (pageOf a) = false) : s.wordRead r a = (s.violation r a false, 0) := by
  unfold State.wordRead State.readWith
  rw [if_neg (State.not_fabricOff_of_powered hp hr)]
  simp [hi, hd, hh, hm]

theorem State.grantRead_low {k : PKind} {a : Nat} (h : snapLo k (offOf a) = true) (s : State) (r : Req) :
    s.grantRead r k a = ({ s with
      snaps := amSet (fun _ => (0, (0 : Word))) s.snaps (snapKey r.rid.toNat (a + 4)) (1, s.regValue (a + 4)) },
      s.regValue a) :=
  if_pos h

theorem State.grantRead_snapped {s : State} {r : Req} {k : PKind} {a : Nat} {w : Word} (h : snapLo k (offOf a) = false)
    (hw : amGet (fun _ => (0, (0 : Word))) s.snaps (snapKey r.rid.toNat a) = (1, w)) :
    s.grantRead r k a = ({ s with
      snaps := amSet (fun _ => (0, (0 : Word))) s.snaps (snapKey r.rid.toNat a) (0, 0) }, w) := by
  rw [State.grantRead, if_neg (Bool.eq_false_iff.mp h), hw]
  rfl

/-- The low word of a pair: its value is the answer, and the high word is kept for the requester. -/
theorem State.MayRead.cmdRead_low {s : State} {r : Req} {a : Nat} {i : PInfo} (h : s.MayRead r a i)
    (hd : offDefined i (offOf a) = true) (hl : snapLo i.kind (offOf a) = true) :
    s.cmdRead r a = { s with
      snaps := amSet (fun _ => (0, (0 : Word))) s.snaps (snapKey r.rid.toNat (a + 4)) (1, s.regValue (a + 4)),
      resp := some ⟨r.rid, BitVec.ofNat 24 a, s.regValue a⟩ } := by
  rw [State.cmdRead_word h.up h.real, h.wordRead_plain hd (readPlain_of_snapLo hl), State.grantRead_low hl]
  rfl

/-- The high word of a pair after its low word: the snapshot is the answer, and is used up. -/
theorem State.MayRead.cmdRead_high {s : State} {r : Req} {a : Nat} {i : PInfo} {w : Word} (h : s.MayRead r a i)
    (hd : offDefined i (offOf a) = true) (hk : readPlain i.kind (offOf a) = true) (hl : snapLo i.kind (offOf a) = false)
    (hw : amGet (fun _ => (0, (0 : Word))) s.snaps (snapKey r.rid.toNat a) = (1, w)) :
    s.cmdRead r a = { s with
      snaps := amSet (fun _ => (0, (0 : Word))) s.snaps (snapKey r.rid.toNat a) (0, 0),
      resp := some ⟨r.rid, BitVec.ofNat 24 a, w⟩ } := by
  rw [State.cmdRead_word h.up h.real, h.wordRead_plain hd hk, State.grantRead_snapped hl hw]
  rfl

/-! `THYME_LO` and `THYME_HI` (R45) -/

/-- The entry of `CLK.THYME` in the page map. -/
def thymeInfo : PInfo := (pinfoAt (thymePage + 0x100)).get rfl

theorem pinfoAt_thymeLo : pinfoAt (thymePage + 0x100) = some thymeInfo := rfl

theorem pinfoAt_thymeHi : pinfoAt (thymePage + 0x104) = some thymeInfo := rfl

theorem State.regValue_thymeLo (s : State) : s.regValue (thymePage + 0x100) = s.thyme.extractLsb' 0 32 := by
  have hv : s.regValue (thymePage + 0x100) = BitVec.ofNat 32 (s.now % 0x100000000) := rfl
  rw [hv]
  exact BitVec.eq_of_toNat_eq (by simp [State.now])

theorem State.regValue_thymeHi (s : State) : s.regValue (thymePage + 0x104) = s.thyme.extractLsb' 32 32 := by
  have hv : s.regValue (thymePage + 0x104) = BitVec.ofNat 32 (s.now / 0x100000000) := rfl
  rw [hv]
  exact BitVec.eq_of_toNat_eq (by simp [State.now, Nat.shiftRight_eq_div_pow])

/-! The status page of a function (R398) -/

section Function
variable {s : State} {p f t : Nat}

theorem State.fnRead_word (hup : s.flag (portPage p) F.HOSTP.PORT_INFO_UP = true) (hf : s.fnExists p f = true)
    (ht : s.fnTen p f = some t) {o : Nat} (ho : o % 4 = 0) :
    s.fnRead p f o 4 = State.answer ⟨BitVec.ofNat 8 p, BitVec.ofNat 12 (0x10 + t)⟩ o (s.fnWord p f t o) := by
  have hal : o / 4 * 4 = o := by omega
  unfold State.fnRead
  rw [if_neg (by simp [hup, hf]), ht]
  dsimp only
  rw [if_pos (by omega), hal]
  rfl

theorem State.fnWord_thymeLo : s.fnWord p f t 0x1000 = ({ s with
    snaps := amSet (fun _ => (0, (0 : Word))) s.snaps (fnSnapKey p f) (1, BitVec.ofNat 32 (s.now / 0x100000000)) },
    BitVec.ofNat 32 s.now) := rfl

theorem State.fnWord_thymeHi_snapped {w : Word} (h : amGet (fun _ => (0, (0 : Word))) s.snaps (fnSnapKey p f) = (1, w)) :
    s.fnWord p f t 0x1004 = ({ s with
      snaps := amSet (fun _ => (0, (0 : Word))) s.snaps (fnSnapKey p f) (0, 0) }, w) := by
  rw [State.fnWord, h]
  rfl

end Function

end Sys2Proof.Machine
end

section
/-! Settles the statement about snapshots of high words. -/

namespace Sys2Proof.Machine

/-- Settles O9: a granted read of a low word keeps the high word, the next read of the high word takes it, on register pages
and on a function's status page alike, and a read that is not granted gives 0 (log 22, log 255). -/
theorem snapshotReads : Obligations.SnapshotReads := by
  unfold Obligations.SnapshotReads
  refine ⟨?thymeLo, ?thymeValues, ?low, ?thymeHi, ?function, ?denied⟩
  case thymeLo =>
    intro s r i h
    obtain rfl : thymeInfo = i := Option.some.inj (pinfoAt_thymeLo.symm.trans h.info)
    exact congrArg Host.Outcome.next (h.cmdRead_low (by decide) (by decide))
  case thymeValues =>
    intro s
    exact ⟨s.regValue_thymeLo, s.regValue_thymeHi⟩
  case low =>
    intro s r a i h hd hl
    refine congrArg Host.Outcome.next ((h.cmdRead_low hd hl).trans ?_)
    rw [BitVec.ofNat_toNat, BitVec.setWidth_eq]
  case thymeHi =>
    intro s r i w h hw
    obtain rfl : thymeInfo = i := Option.some.inj (pinfoAt_thymeHi.symm.trans h.info)
    exact congrArg Host.Outcome.next (h.cmdRead_high (by decide) (by decide) (by decide) hw)
  case function =>
    intro s p f t hup hf ht
    refine ⟨_, _, congrArg Host.Outcome.next (State.fnRead_word hup hf ht (o := 0x1000) rfl),
      congrArg Host.Outcome.next (State.fnRead_word (t := t) (o := 0x1004) ?_ ?_ ?_ rfl), rfl, ?_⟩
    · exact hup
    · exact hf
    · exact ht
    · rw [State.fnWord_thymeHi_snapped (amGet_amSet_same_of_ne _ (by simp) _)]
      rfl
  case denied =>
    intro s r i hp hr hi hh hm
    obtain rfl : thymeInfo = i := Option.some.inj (pinfoAt_thymeLo.symm.trans hi)
    have hword : s.wordRead r (thymePage + 0x100) = (s.violation r (thymePage + 0x100) false, 0) :=
      State.wordRead_denied hp hr hi (by decide) hh hm
    refine congrArg Host.Outcome.next ((State.cmdRead_word hp hr _).trans ?_)
    rw [hword]
    rfl

end Sys2Proof.Machine
end

section
/-! SUPPORT. Slew ticks of Thyme (R46), accounting boundaries (R58) and the latch update of a page's period (R50–R52). -/

namespace Sys2Proof.Machine

/-! A slew tick -/

/-- The state in which the next slew tick may come, 1,024 ticks after the last one (log 52). -/
def State.slewReady (s : State) : State :=
  match s.slewAt with
  | some t => s.waitTo (t + 1023)
  | none => s

theorem State.slewReady_of {s u : State} (hn : s.slewAt = none → u = s)
    (hs : ∀ t, s.slewAt = some t → u = s.waitTo (t + 1023)) : s.slewReady = u := by
  unfold State.slewReady
  split
  case h_1 t h => exact (hs t h).symm
  case h_2 h => exact (hn h).symm

section Slew
variable {s : State} {k : Int} (hk : sext 32 (s.get thymePage F.THYME.SLEW_PENDING) = k)
include hk

theorem State.slewTick_of_zero (h : k = 0) : s.slewTick = s := by
  rw [State.slewTick, hk]
  exact if_pos (.inl h)

/-- A correction forward: Thyme takes 2, and one tick less is pending. -/
theorem State.slewTick_of_pos (hr : s.thymeRun = true) (h : 0 < k) :
    s.slewTick = (({ s.slewReady with
        thyme := s.slewReady.thyme + 2, slewAt := some (s.slewReady.thyme + 2).toNat }.put thymePage
      F.THYME.SLEW_PENDING (uenc 32 (k - 1))).rasterCarry 1).syncCarry 1 := by
  have hact : ¬(k = 0 ∨ s.thymeRun = false) := not_or.mpr ⟨by omega, ne_false_of_eq_true hr⟩
  rw [State.slewTick, hk]
  dsimp only
  rw [if_neg hact, decide_eq_true h]
  rfl

/-- A correction backward: Thyme takes 0, and one tick less is pending. -/
theorem State.slewTick_of_neg (hr : s.thymeRun = true) (h : k < 0) :
    s.slewTick = (({ s.slewReady with slewAt := some s.slewReady.now }.put thymePage
      F.THYME.SLEW_PENDING (uenc 32 (k + 1))).rasterCarry (-1)).syncCarry (-1) := by
  have hact : ¬(k = 0 ∨ s.thymeRun = false) := not_or.mpr ⟨by omega, ne_false_of_eq_true hr⟩
  have hdown : ¬0 < k := by omega
  rw [State.slewTick, hk]
  dsimp only
  rw [if_neg hact, decide_eq_false hdown]
  rfl

end Slew

/-! An accounting boundary -/

theorem State.waitTo_now {s : State} {t : Nat} (h : s.now < t) (hr : s.thymeRun = true) (ht : t < 2 ^ 64) :
    (s.waitTo t).now = t := by
  rw [State.waitTo, if_pos ⟨h, hr⟩]
  exact (BitVec.toNat_ofNat _ _).trans (Nat.mod_eq_of_lt ht)

theorem State.waitTo_of_reached {s : State} {t : Nat} (h : t ≤ s.now) : s.waitTo t = s := if_neg (by omega)

/-- The boundary falls as soon as Thyme has reached the end of the open period. -/
theorem State.acctBoundary_of_reached {s : State} (h : s.acctEnd ≤ (s.waitTo s.acctEnd).now) :
    s.acctBoundary = (s.waitTo s.acctEnd).acctAt s.acctEnd s.acctEnd :=
  if_neg (Nat.not_lt.mpr h)

/-! The boundary of a page's period, and its latch update -/

theorem State.periodBoundary_of_due {s : State} {base b : Nat} (hi : (pinfoAt base).isSome = true)
    (hb : s.boundary base = some b) :
    s.periodBoundary base = s.periodSettle.modCtl base (fun c => { c with pend := some b }) := by
  rw [State.periodBoundary, if_neg (by simpa using Option.isSome_iff_ne_none.mp hi), hb]

/-- The header of a page names the period that began at tick a and ended at tick b, and counts one more period. -/
def State.periodHeader (s : State) (base a b : Nat) : State :=
  ((s.inc base F.HDR.PERIOD_SEQ).put64 base F.HDR.PERIOD_START_LO a).put base F.HDR.PERIOD_LEN (sat 0xFFFFFFFF (b - a))

/-- The latch update of the boundary b writes the header of the latched period, the page's control record and its
interrupt bit 28 over the latched counters. -/
theorem State.periodLatch_of_due {s : State} {base b : Nat} {i : PInfo} (hi : pinfoAt base = some i)
    (hb : s.boundary base = some b) (hs : (s.ctl base).stuck = false) {u : State} (hu : u = (s.waitTo (b + 8)).periodSettle) :
    ∃ c, s.periodLatch base = (((u.latchStats i.kind base).periodHeader base
      (max (u.ctl base).pstart u.epoch) b).setCtl base c).intBit base 28 := by
  subst hu
  rw [State.periodLatch, hi, hs, if_neg Bool.false_ne_true, hb]
  exact ⟨_, rfl⟩

theorem State.get_intBit (s : State) {p q : Nat} {x : Fld} (h : q + x.off ≠ p + 0x30) (n : Nat) :
    (s.intBit p n).get q x = s.get q x := State.get_intSet s h _

theorem State.get_periodHeader_seq {s : State} (h : s.RegsWf) (base a b : Nat) :
    (s.periodHeader base a b).get base F.HDR.PERIOD_SEQ = (s.get base F.HDR.PERIOD_SEQ + 1) % 2 ^ 32 := by
  have hlen : base + F.HDR.PERIOD_SEQ.off ≠ base + F.HDR.PERIOD_LEN.off := mt Nat.add_left_cancel (by decide)
  have hlo : base + F.HDR.PERIOD_SEQ.off ≠ base + F.HDR.PERIOD_START_LO.off := mt Nat.add_left_cancel (by decide)
  have hhi : base + F.HDR.PERIOD_SEQ.off ≠ base + (F.HDR.PERIOD_START_LO.off + 4) := mt Nat.add_left_cancel (by decide)
  unfold State.periodHeader
  rw [State.get_put_reg _ _ _ _ _ _ hlen, State.get_put64 _ hlo hhi]
  exact State.get_inc h base _ 1 (by decide) (by decide)

theorem State.put64_regsWf {s : State} (h : s.RegsWf) (p : Nat) (x : Fld) (v : Nat) : (s.put64 p x v).RegsWf :=
  State.wr_regsWf (State.wr_regsWf h _ _) _ _

theorem sat_le (m v : Nat) : sat m v ≤ m := by
  unfold sat
  split
  · assumption
  · exact Nat.le_refl m

theorem State.get_periodHeader_len {s : State} (h : s.RegsWf) (base a b : Nat) :
    (s.periodHeader base a b).get base F.HDR.PERIOD_LEN = sat 0xFFFFFFFF (b - a) := by
  have hwf : ((s.inc base F.HDR.PERIOD_SEQ).put64 base F.HDR.PERIOD_START_LO a).RegsWf :=
    State.put64_regsWf (State.put_regsWf h _ _ _) _ _ _
  have hlt : sat 0xFFFFFFFF (b - a) < 2 ^ F.HDR.PERIOD_LEN.width := Nat.lt_of_le_of_lt (sat_le _ _) (by decide)
  exact (State.get_put hwf base _ _ (by decide) (by decide)).trans (Nat.mod_eq_of_lt hlt)

/-- The counters that a latch update reads are in canonical form when the state was. -/
theorem State.latched_regsWf {s : State} (h : s.Wf) (t : Nat) (k : PKind) (base : Nat) :
    ((s.waitTo t).periodSettle.latchStats k base).RegsWf := by
  have hkeep : Keep true s ((s.waitTo t).periodSettle.latchStats k base) :=
    State.latchStats_keep (State.periodSettle_keep (State.waitTo_keep (Keep.refl s)))
  exact (hkeep.wf h).regs

end Sys2Proof.Machine
end

section
/-! Settles the statement about Thyme and accounting. -/

namespace Sys2Proof.Machine

/-- Settles O10: a slew tick by the sign of what is pending, the boundary at the end of the open period, and a latch update
whose header fields survive the writes after them. -/
theorem thymeAndAccounting : Obligations.ThymeAndAccounting := by
  unfold Obligations.ThymeAndAccounting
  refine ⟨?forward, ?backward, ?nothing, ?ahead, ?reached, ?boundary, ?latch⟩
  case forward =>
    intro s u k hr hk hpos hn hs
    rw [← State.slewReady_of hn hs]
    exact congrArg Host.Outcome.next (State.slewTick_of_pos hk hr hpos)
  case backward =>
    intro s u k hr hk hneg hn hs
    rw [← State.slewReady_of hn hs]
    exact congrArg Host.Outcome.next (State.slewTick_of_neg hk hr hneg)
  case nothing =>
    intro s hk
    exact congrArg Host.Outcome.next (State.slewTick_of_zero hk rfl)
  case ahead =>
    intro s h hr hlt
    have hnow := State.waitTo_now h hr hlt
    exact congrArg Host.Outcome.next (State.acctBoundary_of_reached (Nat.le_of_eq hnow.symm))
  case reached =>
    intro s h
    have hwait := State.waitTo_of_reached h
    have hacct := State.acctBoundary_of_reached (s := s) (by rwa [hwait])
    rw [hwait] at hacct
    exact congrArg Host.Outcome.next hacct
  case boundary =>
    intro s p b hi hb
    exact congrArg Host.Outcome.next (State.periodBoundary_of_due hi hb)
  case latch =>
    intro s p i b hi hb hs hwf
    obtain ⟨c, hc⟩ := State.periodLatch_of_due hi hb hs rfl
    have hregs := State.latched_regsWf hwf (b + 8) i.kind (pageBase p)
    refine ⟨_, congrArg Host.Outcome.next hc, ?_, ?_⟩
    · rw [State.get_intBit _ (mt Nat.add_left_cancel (by decide)), State.get_setCtl]
      exact State.get_periodHeader_seq hregs _ _ _
    · rw [State.get_intBit _ (mt Nat.add_left_cancel (by decide)), State.get_setCtl]
      exact State.get_periodHeader_len hregs _ _ _

end Sys2Proof.Machine
end

section
/-! SUPPORT. Writes of the registers of the page header (R64) that reach their page. -/

namespace Sys2Proof.Machine

/-! The addresses of a page -/

section Address
variable (p : PageNo) {off : Nat}

theorem pageOf_pageBase_add (h : off < 0x1000) : pageOf (pageBase p + off) = pageBase p := by
  unfold pageOf pageBase
  omega

theorem offOf_pageBase_add (h : off < 0x1000) : offOf (pageBase p + off) = off := by
  unfold offOf pageBase
  omega

theorem pinfoAt_pageBase_add (h : off < 0x1000) : pinfoAt (pageBase p + off) = pinfoAt (pageBase p) := by
  have hpage : (pageBase p + off) / 0x1000 = pageBase p / 0x1000 := by
    unfold pageBase
    omega
  have hdom : (pageBase p + off) / 0x10000 = pageBase p / 0x10000 := by
    unfold pageBase
    omega
  unfold pinfoAt domOf pnoOf
  rw [hpage, hdom]

end Address

/-! Header registers under the access rules -/

/-- No register of the header is among those that their own rules grant. -/
theorem State.ownRule_header (s : State) (r : Req) {a : Nat} (v : Word) (h : offOf a < 0x100) : s.ownRule r a v = none := by
  have hne : ∀ b, 0x100 ≤ offOf b → a ≠ b := by
    rintro b hb rfl
    omega
  have hdiv := hne (divPage + 0x140) (by decide)
  have hreq := hne (blockreqPage + 0x100) (by decide)
  have hsrcs := hne (srcsPage + 0x108) (by decide)
  have hremote := hne (tmbPage + 0x108) (by decide)
  have hmeas := hne (measPage + 0x470) (by decide)
  have hotp := hne (otpPage + 0x114) (by decide)
  have hdecc := hne (deccPage + 0x10C) (by decide)
  have haeng := hne (aengPage + 0x900) (by decide)
  have hmbox : mboxOwnerReg (offOf a) r v s = none := if_neg (by omega)
  have htmb : ¬0x110 ≤ offOf a := by omega
  have hwdog : ¬0x104 ≤ offOf a := by omega
  simp [State.ownRule, hdiv, hreq, hsrcs, hremote, hmeas, hotp, hdecc, haeng, hmbox, htmb, hwdog]

section Header
variable {s : State} {r : Req} {p : PageNo} {off : Nat} {i : PInfo}

/-- The owner's write of a header register but `OWNER` has the register's effect. -/
theorem State.MayWrite.header (h : s.MayWrite r (pageBase p + off)) (hi : pinfoAt (pageBase p + off) = some i)
    (hd : offDefined i off = true) (hlt : off < 0x100) (hne : off ≠ 0x018) (v : Word) :
    s.cmdWrite r (pageBase p + off) v = s.writeEffect r i (pageBase p + off) v := by
  have hoff : offOf (pageBase p + off) = off := offOf_pageBase_add p (by omega)
  refine h.plain v hi ?_ ?_ (s.ownRule_header r v ?_)
  · rwa [hoff]
  · rwa [hoff]
  · rwa [hoff]

theorem State.MayWrite.cmdWrite_ctrl (h : s.MayWrite r (pageBase p + 8)) (hi : pinfoAt (pageBase p + 8) = some i) (v : Word) :
    s.cmdWrite r (pageBase p + 8) v = s.ctrlWrite (pageBase p) r v := by
  rw [h.header hi rfl (by decide) (by decide), State.writeEffect, offOf_pageBase_add p (by decide),
    pageOf_pageBase_add p (by decide)]
  exact if_pos rfl

/-- A command that writes one bit of `CTRL` is the owner's write of the register. -/
theorem State.MayWrite.cmdCtrl (h : s.MayWrite r (pageBase p + 8)) (hi : pinfoAt (pageBase p + 8) = some i) (k : Nat)
    (b : Bool) : s.cmdCtrl r (pageBase p) k b = s.ctrlWrite (pageBase p) r (s.ctrlAs (pageBase p) k b) :=
  h.cmdWrite_ctrl hi _

end Header

end Sys2Proof.Machine
end

section
/-! SUPPORT. What the bits of a written `CTRL` do (R82–R84, R498, R585). -/

namespace Sys2Proof.Machine

section Ctrl
variable {s : State} {r : Req} {base : Nat} {i : PInfo}

/-- A page without `AUTO_COMMIT`, `COMMIT_ON_FENCE` and `QUIESCE` takes the other bits: ENABLE, then COMMIT, then
BLOCK_RESET. -/
theorem State.ctrlWrite_of_plain (hi : pinfoAt base = some i) (ha : i.hasAuto = false) (hf : i.hasFence = false)
    (hq : i.hasQuiesce = false) (v : Word) :
    s.ctrlWrite base r v
      = (let s := if bit v.toNat 0 then s.enableWrite base r else s.disableWrite base r
         let s := if bit v.toNat 1 then s.commitWrite base r else s
         if bit v.toNat 3 then s.resetBit base r else s) := by
  have hauto (b : Bool) : s.autoWrite base b = s := by
    rw [State.autoWrite, hi]
    exact if_pos (.inl ha)
  have hfence (b : Bool) : s.onFenceWrite base b = s := by
    rw [State.onFenceWrite, hi]
    exact if_pos hf
  have hquiesce (b : Bool) : s.quiesceBit base r b = s := by
    rw [State.quiesceBit, hi]
    exact if_pos (.inl hq)
  rw [State.ctrlWrite, hauto, hfence, hquiesce]

theorem State.enableWrite_of_disabled (hp : s.present base = true) (he : s.flag base F.HDR.CTRL_ENABLE = false)
    (hs : (s.ctl base).stopDue = false) (hr : (s.ctl base).enRun = none) :
    s.enableWrite base r = (s.put base F.HDR.CTRL_ENABLE 1).startEnable base r
      ((s.put base F.HDR.CTRL_ENABLE 1).capture [base]) := by
  simp [State.enableWrite, hp, he, hs, hr]

/-- A disable of a block in force on a page that applies on arm stops the block on the tick of the write. -/
theorem State.disableWrite_of_onArm {u : State} (hu : u = (s.put base F.HDR.CTRL_ENABLE 0).withdraw base)
    (hi : pinfoAt base = some i) (happ : i.app = .onArm) (he : s.flag base F.HDR.CTRL_ENABLE = true)
    (hh : ¬(s.secureHold base ∧ r.tag ≠ 1)) (hg : u.groupPage base = base) (hr : (u.ctl base).enRun = none)
    (hd : (u.ctl base).startDue = none) (hen : u.enabled base = true) :
    s.disableWrite base r = u.stopBlock base u.now := by
  have harm : u.onArm base i = true := by rw [State.onArm, happ]
  subst hu
  rw [State.disableWrite, if_neg (ne_false_of_eq_true he), if_neg hh, hi]
  simp [hg, hr, hd, hen, harm]

theorem State.commitWrite_of_group (hg : s.groupPage base = base) :
    s.commitWrite base r = if s.checkBusy base
      then s.modCtl base (fun c => { c with queued := some (r, s.fenceForeign (s.group base)) })
      else s.takeCommit base r (s.fenceForeign (s.group base)) :=
  if_neg (not_not_intro hg)

theorem State.takeCommit_of_no_fence (hf : s.onFence base = false) (l : List Nat) :
    s.takeCommit base r l = (s.modCtl base (fun c => { c with wait := none })).startCommit base r
      { s.capture (s.group base) with foreign := l } := by
  simp [State.takeCommit, hf]

theorem State.takeCommit_of_unmet (hf : s.onFence base = true) (hm : s.fenceMet base = false) :
    s.takeCommit base r [] = s.modCtl base (fun c =>
      { c with wait := some ⟨r, { s.capture (s.group base) with foreign := [] }⟩ }) := by
  simp [State.takeCommit, hf, hm]

theorem State.resetBit_of_idle (hi : pinfoAt base = some i) (hk : i.kind ≠ .ten) (hidle : s.idle base = true)
    (hr : (s.ctl base).inReset = none) (h5 : 5 < domOf base) (h30 : domOf base ≠ 0x30) (h31 : domOf base ≠ 0x31)
    (hq : i.hasQuiesce = false) (hh : ¬(s.secureHold base ∧ r.tag ≠ 1)) :
    s.resetBit base r = s.modCtl base (fun c => { c with inReset := some (r, s.now) }) := by
  have hdom : ¬(domOf base ≤ 5 ∨ domOf base = 0x30 ∨ domOf base = 0x31) := by omega
  rw [State.resetBit, hi]
  dsimp only
  rw [if_neg hk, State.blockReset, hi]
  dsimp only
  rw [if_neg hdom, if_neg hh, if_neg (by simp [hq]), if_neg (by simp [hidle]), if_neg (by simp [hr])]

end Ctrl

/-- The secure hold of a page, as a statement gives it, does not stand in the requester's way. -/
theorem State.not_held {s : State} {base : Nat} {r : Req} (h : (s.secureHold base && r.tag != 1) = false) :
    ¬(s.secureHold base ∧ r.tag ≠ 1) := by
  simpa using h

end Sys2Proof.Machine
end

section
/-! Settles the statement about the commands that write `CTRL`. -/

namespace Sys2Proof.Machine

/-- Settles O17: a command is the owner's write of `CTRL`, and each bit acts by the case of its operation that the hypotheses
name. -/
theorem ctrlCommands : Obligations.CtrlCommands := by
  unfold Obligations.CtrlCommands
  intro s r p i b h hi
  have hip : pinfoAt (pageBase p) = some i := (pinfoAt_pageBase_add p (by decide)).symm.trans hi
  have hpresent : s.present (pageBase p) = true := by
    have hhere := h.here
    rwa [pageOf_pageBase_add p (by decide)] at hhere
  have hcmd (k : Nat) (b : Bool) : Host.Outcome.next (φ := Fault) (ρ := Refusal) (s.cmdCtrl r (pageBase p) k b)
      = .next (s.ctrlWrite (pageBase p) r (s.ctrlAs (pageBase p) k b)) := congrArg Host.Outcome.next (h.cmdCtrl hi k b)
  refine ⟨hcmd 4 b, hcmd 5 b, hcmd 2 b, hcmd 0 true, hcmd 0 false, hcmd 1 true, hcmd 3 true, ?plain, ?enable, ?disable,
    ?queued, ?commit, ?waits, ?reset⟩
  case plain => exact State.ctrlWrite_of_plain hip
  case enable => exact State.enableWrite_of_disabled hpresent
  case disable =>
    intro he hh u hu hg hr hd hen happ
    exact State.disableWrite_of_onArm hu hip happ he (State.not_held hh) hg hr hd hen
  case queued =>
    intro hg hb
    exact (State.commitWrite_of_group hg).trans (if_pos hb)
  case commit =>
    intro hg hb hf
    rw [State.commitWrite_of_group hg, if_neg (Bool.eq_false_iff.mp hb), State.takeCommit_of_no_fence hf]
  case waits =>
    intro hg hb hf hm hl
    rw [State.commitWrite_of_group hg, if_neg (Bool.eq_false_iff.mp hb), hl, State.takeCommit_of_unmet hf hm]
  case reset =>
    intro hidle hr h5 h30 h31 hq hk hh
    exact State.resetBit_of_idle hip hk hidle hr h5 h30 h31 hq (State.not_held hh)

end Sys2Proof.Machine
end

section
/-! SUPPORT. Checks that complete (R69, R82–R86), and drains that end (R67, R68, R83). -/

namespace Sys2Proof.Machine

/-! The enable check -/

/-- The verdict on an enable's candidate. -/
def State.enableVerdict (s : State) (base : Nat) (run : CheckRun) : Verdict := s.runCheck run.req run.img [base] true true

/-- The state in which the enable check of a page has its result. -/
def State.enableReported (s : State) (base : Nat) (run : CheckRun) : State :=
  (s.modCtl base (fun c => { c with enRun := none, enNext := none, withdrawn := false })).checkDone base
    (s.enableVerdict base run)

/-- A queued commit and a commit that waits for its fence go on when a check has ended (R86, R92). -/
def State.commitsGoOn (s : State) (base : Nat) : State := (s.startQueued base).fenceRelease1 base

section Enable
variable {s : State} {base : Nat} {i : PInfo} {run : CheckRun} (hi : pinfoAt base = some i)
  (hr : (s.ctl base).enRun = some run) (hn : (s.ctl base).enNext = none)
include hi hr hn

theorem State.enableDone_of_refused (hv : (s.enableVerdict base run).reason ≠ 0) :
    s.enableDone base = (((s.enableReported base run).put base F.HDR.CTRL_ENABLE 0).holdNote base
      (s.enableVerdict base run) run.req).commitsGoOn base := by
  unfold State.enableVerdict at hv
  rw [State.enableDone, hr, hi, hn]
  dsimp only
  rw [if_pos hv]
  rfl

/-- An accepted enable of a page that holds no allocation and no way masks copies the candidate's shadows; one that was
withdrawn does no more, and any other starts its block, now or at the apply point. -/
theorem State.enableDone_of_accepted (hv : (s.enableVerdict base run).reason = 0) (ha : i.kind ≠ .alloc)
    (hg : i.kind ≠ .gl2) {u : State} (hu : u = (s.enableReported base run).copySc run.img base) :
    s.enableDone base = (if (s.ctl base).withdrawn then u
      else if u.onArm base i then u.startBlock base s.now
      else u.modCtl base (fun c => { c with startDue := some s.now })).commitsGoOn base := by
  subst hu
  unfold State.enableVerdict at hv
  rw [State.enableDone, hr, hi, hn]
  dsimp only
  rw [if_neg (not_not_intro hv), if_neg ha, if_neg hg]
  rfl

end Enable

/-! The commit check -/

/-- The verdict on a commit's candidate. -/
def State.commitVerdict (s : State) (run : CheckRun) : Verdict := s.runCheck run.req run.img run.img.pages true false

/-- The state in which the commit check of a page has its result. -/
def State.commitReported (s : State) (base : Nat) (run : CheckRun) : State :=
  (s.modCtl base (fun c => { c with run := none })).checkDone base (s.commitVerdict run)

/-- A commit check that ends: a refusal is noted, and an accepted candidate is applied or armed. -/
theorem State.commitDone_of_running {s : State} {base : Nat} {i : PInfo} {run : CheckRun} (hi : pinfoAt base = some i)
    (hr : (s.ctl base).run = some run) {t : State} (ht : t = s.commitReported base run) :
    s.commitDone base = (if (s.commitVerdict run).reason ≠ 0 then t.holdNote base (s.commitVerdict run) run.req
      else if t.onArm base i then t.applyImage base s.now 0 { run.img with tick := s.now }
      else t.arm base run.img s.now).commitsGoOn base := by
  subst ht
  rw [State.commitDone, hr, hi]
  rfl

/-! Drains -/

section Drain
variable {s : State} {base : Nat} {i : PInfo} (hi : pinfoAt base = some i)
include hi

theorem State.drainDone_of_disabled (hb : i.kind.busy = true) (he : s.enabled base = false) :
    s.drainDone base = s.put base F.HDR.STATUS_IDLE 1 := by
  rw [State.drainDone, hi]
  exact if_pos ⟨hb, he⟩

/-- The drain of a block whose quiesce is requested: a tenancy's by R425, and writeback's when no frame is being written. -/
theorem State.pageDrained_of_quiesce (hq : i.hasQuiesce = true) (hf : s.flag base F.HDR.CTRL_QUIESCE = true) :
    s.pageDrained base = if i.kind = .ten then s.quiesceDone (pnoOf base)
      else if i.kind = .wb ∧ (s.wb (pnoOf base)).on then s
      else (s.put base F.HDR.STATUS_IDLE 1).put base F.HDR.STATUS_QUIESCED 1 := by
  rw [State.pageDrained, hi]
  exact if_neg (by simp [hq, hf])

end Drain

end Sys2Proof.Machine
end

section
/-! Settles the statement about checks that complete. -/

namespace Sys2Proof.Machine

/-- Settles O18: a check's end goes by its verdict, by a withdrawal and by the page's apply point, and a drain's by the kind
of its page. -/
theorem checksComplete : Obligations.ChecksComplete := by
  unfold Obligations.ChecksComplete
  refine ⟨?enable, ?commit, ?drain, ?quiesce⟩
  case enable =>
    intro s p i run hi hr hn v t u next
    have hdone (hv : v.reason = 0) (ha : i.kind ≠ .alloc) (hg : i.kind ≠ .gl2) :=
      State.enableDone_of_accepted hi hr hn hv ha hg (u := u) rfl
    refine ⟨?refused, ?withdrawn, ?onArm, ?waits⟩
    case refused =>
      intro hv
      exact congrArg Host.Outcome.next (State.enableDone_of_refused hi hr hn hv)
    case withdrawn =>
      intro hv ha hg hw
      have hcase := hdone hv ha hg
      rw [if_pos hw] at hcase
      exact congrArg Host.Outcome.next hcase
    case onArm =>
      intro hv ha hg hw harm
      have hcase := hdone hv ha hg
      rw [if_neg (Bool.eq_false_iff.mp hw), if_pos harm] at hcase
      exact congrArg Host.Outcome.next hcase
    case waits =>
      intro hv ha hg hw harm
      have hcase := hdone hv ha hg
      rw [if_neg (Bool.eq_false_iff.mp hw), if_neg (Bool.eq_false_iff.mp harm)] at hcase
      exact congrArg Host.Outcome.next hcase
  case commit =>
    intro s p i run hi hr v t
    have hdone := State.commitDone_of_running hi hr (t := t) rfl
    refine ⟨?refused, ?applied, ?armed⟩
    case refused =>
      intro hv
      exact congrArg Host.Outcome.next (hdone.trans (congrArg (State.commitsGoOn · _) (if_pos hv)))
    case applied =>
      intro hv harm
      change (s.commitVerdict run).reason = 0 at hv
      rw [if_neg (not_not_intro hv), if_pos harm] at hdone
      exact congrArg Host.Outcome.next hdone
    case armed =>
      intro hv harm
      change (s.commitVerdict run).reason = 0 at hv
      rw [if_neg (not_not_intro hv), if_neg (Bool.eq_false_iff.mp harm)] at hdone
      exact congrArg Host.Outcome.next hdone
  case drain =>
    intro s p i hi hb he
    exact congrArg Host.Outcome.next (State.drainDone_of_disabled hi hb he)
  case quiesce =>
    intro s p i hi hq hf
    have hdone := State.pageDrained_of_quiesce hi hq hf
    refine ⟨?tenancy, ?writing, ?drained⟩
    case tenancy =>
      intro hk
      exact congrArg Host.Outcome.next (hdone.trans (if_pos hk))
    case writing =>
      intro hk hon
      rw [if_neg (by simp [hk]), if_pos ⟨hk, hon⟩] at hdone
      exact congrArg Host.Outcome.next hdone
    case drained =>
      intro hk hon
      rw [if_neg (by simp [hk]), if_neg (by simp [hon])] at hdone
      exact congrArg Host.Outcome.next hdone

end Sys2Proof.Machine
end

section
/-! SUPPORT. Writes of `OWNER` and of plain registers (R73, R74, R76, R94). -/

namespace Sys2Proof.Machine

/-! What a check's result and a dropped line leave in the registers -/

/-- The result of a check touches `CHECK`, `CHECK_ARG`, `CHECK_PAGE` and `INT_STATUS` of its page, and no other register. -/
theorem State.rd_checkDone_other (s : State) (base : Nat) (v : Verdict) {off : Nat} (h : off ∉ [0x10, 0x14, 0x1C, 0x30]) :
    (s.checkDone base v).rd (base + off) = s.rd (base + off) := by
  have hne {n : Nat} (hn : n ∈ [0x10, 0x14, 0x1C, 0x30]) : base + off ≠ base + n := by
    intro heq
    exact h (Nat.add_left_cancel heq ▸ hn)
  have h10 := hne (n := 0x10) (by decide)
  have h1c := hne (n := 0x1C) (by decide)
  unfold State.checkDone State.writeCheck
  dsimp only
  rw [State.rd_intSet_other _ (hne (by decide)), State.rd_put_other _ h1c, State.rd_put_other _ h1c,
    State.rd_put_other _ (hne (by decide)), State.rd_put_other _ h10, State.rd_put_other _ h10, State.rd_put_other _ h10]

theorem State.get_checkDone_reason {s : State} (h : s.RegsWf) (base : Nat) (v : Verdict) :
    (s.checkDone base v).get base F.HDR.CHECK_REASON = v.reason % 2 ^ 8 := by
  have hne (n : Nat) (hn : 0x10 ≠ n) : base + F.HDR.CHECK_REASON.off ≠ base + n := mt Nat.add_left_cancel hn
  have hreason : (s.put base F.HDR.CHECK_REASON v.reason).RegsWf := State.put_regsWf h _ _ _
  have hword := State.put_regsWf hreason base F.HDR.CHECK_WORD (v.off / 4)
  unfold State.checkDone State.writeCheck
  dsimp only
  rw [State.get_intSet _ (hne 0x30 (by decide)), State.get_put_reg _ _ _ _ _ _ (hne 0x1C (by decide)),
    State.get_put_reg _ _ _ _ _ _ (hne 0x1C (by decide)), State.get_put_reg _ _ _ _ _ _ (hne 0x14 (by decide)),
    State.get_put_field hword base F.HDR.CHECK_BIT F.HDR.CHECK_REASON _ (by decide) (by decide) (by decide) rfl (by decide),
    State.get_put_field hreason base F.HDR.CHECK_WORD F.HDR.CHECK_REASON _ (by decide) (by decide) (by decide) rfl (by decide)]
  exact State.get_put h _ _ _ (by decide) (by decide)

/-- A line that a write has deasserted leaves the cores, and nothing else changes. -/
theorem State.dropLine_eq (s : State) (base : Nat) : ∃ cores, s.dropLine base = { s with cores := cores } := by
  unfold State.dropLine
  split
  · exact ⟨s.cores, rfl⟩
  · refine forN_keeps (P := fun t => ∃ cores, t = { s with cores := cores }) ?_ 4 ⟨s.cores, rfl⟩
    rintro c _ ⟨cores, rfl⟩
    dsimp only
    split
    · exact ⟨_, rfl⟩
    · exact ⟨_, rfl⟩

theorem State.rd_dropLine (s : State) (base a : Nat) : (s.dropLine base).rd a = s.rd a := by
  obtain ⟨cores, h⟩ := s.dropLine_eq base
  rw [h]
  rfl

theorem State.dropLine_regsWf {s : State} (h : s.RegsWf) (base : Nat) : (s.dropLine base).RegsWf := by
  obtain ⟨cores, hc⟩ := s.dropLine_eq base
  rw [hc]
  exact h

/-! A write of `OWNER` -/

/-- A write of `OWNER` that reaches its page is judged for the manager and the secure world, and a violation of anyone
else. -/
theorem State.Reaches.cmdWrite_owner {s : State} {r : Req} {p : PageNo} {i : PInfo} (h : s.Reaches r (pageBase p + 0x18))
    (hi : pinfoAt (pageBase p + 0x18) = some i) (v : Word) :
    s.cmdWrite r (pageBase p + 0x18) v = if s.mayOwn (pageBase p) r then s.ownerJudge (pageBase p) r v.toNat
      else s.violation r (pageBase p + 0x18) true := by
  have hd : offDefined i 0x18 = true := rfl
  have hpage : pageOf (pageBase p + 0x18) = pageBase p := pageOf_pageBase_add p (by decide)
  have hoff : offOf (pageBase p + 0x18) = 0x18 := offOf_pageBase_add p (by decide)
  have hhere := h.here
  rw [hpage] at hhere
  unfold State.cmdWrite State.regWrite
  cases hm : s.mayOwn (pageBase p) r
  all_goals simp [h.fabric, hi, hpage, hoff, hd, hhere, h.safe, h.run, hm]

/-- The shadowed fields of a page's registers are back at the values in force (R76). -/
def State.shadowsBack (s : State) (k : PKind) (base : Nat) : State :=
  forL (fun off s => s.wr (base + off + 0x800)
    ((s.rd (base + off + 0x800) &&& ~~~scMask k off) ||| (s.rd (base + off) &&& scMask k off))) (scOffs k) s

theorem State.shadowsBack_regsWf {s : State} (h : s.Wf) (k : PKind) (base : Nat) :
    ((s.checkStart base).shadowsBack k base).RegsWf := by
  have hkeep : Keep true s ((s.checkStart base).shadowsBack k base) :=
    Keep.forL (fun _ _ hu => State.wr_keep hu) _ (State.checkStart_keep (Keep.refl s))
  exact (hkeep.wf h).regs

/-- An accepted write of `OWNER`: the shadows are back, the new owner stands, and no interrupt of the page is enabled. -/
def State.ownerTaken (s : State) (k : PKind) (base id : Nat) : State :=
  ((((s.checkStart base).shadowsBack k base).put base F.HDR.OWNER id).wr (base + 0x34) 0).dropLine base

/-- The secure world may give a disabled page with no check and no commit any owner of R75. -/
theorem State.ownerJudge_of_accepted {s : State} {base v : Nat} {i : PInfo} {r : Req} (hi : pinfoAt base = some i)
    (hf : i.fixed = false) (ht : r.tag = 1) (hid : ownerId (v % 4096) = true) (he : s.enabled base = false)
    (hb : s.checkBusy base = false) (ha : s.armedFor base = none) (hw : (s.ctl base).wait = none) :
    s.ownerJudge base r v = (s.ownerTaken i.kind base (v % 4096)).checkDone base Verdict.ok := by
  have hstart : (s.checkStart base).enabled base = false := by
    unfold State.enabled State.flag State.checkStart
    rwa [State.inc, State.get_put_reg _ _ _ _ _ _ (mt Nat.add_left_cancel (by decide))]
  have hidle : ¬((s.checkStart base).enabled base = true ∨ (s.checkStart base).checkBusy base = true
      ∨ ((s.checkStart base).armedFor base).isSome = true ∨ ((s.checkStart base).ctl base).wait.isSome = true) := by
    rw [hstart]
    change ¬(false = true ∨ s.checkBusy base = true ∨ (s.armedFor base).isSome = true ∨ (s.ctl base).wait.isSome = true)
    simp [hb, ha, hw]
  rw [State.ownerJudge, hi]
  simp only [hf, ht, hid, hidle, ne_eq, not_true, and_false, false_and, Bool.false_eq_true, Bool.true_eq_false, if_false,
    if_true]
  rfl

theorem State.ownerTaken_owner {s : State} (h : s.Wf) (k : PKind) (base id : Nat) :
    (s.ownerTaken k base id).owner base = id % 4096 := by
  unfold State.ownerTaken State.owner State.get
  rw [State.rd_dropLine, State.rd_wr_other _ (mt Nat.add_left_cancel (by decide))]
  exact State.get_put (State.shadowsBack_regsWf h k base) base _ id (by decide) (by decide)

theorem State.ownerTaken_regsWf {s : State} (h : s.Wf) (k : PKind) (base id : Nat) : (s.ownerTaken k base id).RegsWf :=
  State.dropLine_regsWf (State.wr_regsWf (State.put_regsWf (State.shadowsBack_regsWf h k base) _ _ _) _ _) base

theorem State.rd_ownerTaken_intEnable {s : State} (h : s.Wf) (k : PKind) (base id : Nat) :
    (s.ownerTaken k base id).rd (base + 0x34) = 0 := by
  unfold State.ownerTaken
  rw [State.rd_dropLine]
  exact State.rd_wr_same (State.put_regsWf (State.shadowsBack_regsWf h k base) _ _ _) _ _

/-! Other writes -/

/-- The word of `INT_ENABLE` is the written one, on the bits that the page defines. -/
theorem State.rd_intEnable {s : State} (h : s.RegsWf) (base : Nat) (v : Word) :
    (s.intEnable base v).rd (base + 0x34) = v &&& intMask base := by
  unfold State.intEnable State.withLine
  rw [State.rd_dropLine]
  dsimp only
  split
  · exact State.rd_wr_same h _ _
  · exact State.rd_wr_same h _ _

/-- The owner's write of `INT_ENABLE` of `DEV.MODE`. -/
theorem State.MayWrite.cmdWrite_modeIntEnable {s : State} {r : Req} (h : s.MayWrite r (modePage + 0x034)) (v : Word) :
    s.cmdWrite r (modePage + 0x034) v = s.intEnable modePage v :=
  h.plain v (i := (pinfoAt (modePage + 0x034)).get rfl) rfl rfl (by decide) (s.ownRule_header r v (by decide))

/-- A write of a register by anyone but the owner is dropped with a violation, after the refusal of an enable of a page that
nobody owns (log 238). -/
theorem State.Reaches.cmdWrite_denied {s : State} {r : Req} {a : Nat} {i : PInfo} (h : s.Reaches r a)
    (hi : pinfoAt a = some i) (hd : offDefined i (offOf a) = true) (ho : offOf a ≠ 0x018) {v : Word}
    (hn : s.ownRule r a v = none) (hw : r.tag.toNat ≠ s.owner (pageOf a) ∨ r.tag = 0) :
    s.cmdWrite r a v = (s.deniedEnable (pageOf a) (offOf a) v).violation r a true := by
  have hother : ¬(r.tag.toNat = s.owner (pageOf a) ∧ r.tag ≠ 0) := by
    rintro ⟨howner, htag⟩
    exact hw.elim (absurd howner) htag
  rw [h.write v hi hd ho, hn]
  dsimp only
  rw [if_neg hother]

/-- A write to no page, or one that is no whole word, is a stray access. -/
theorem State.regWrite_stray {s : State} {r : Req} {a n : Nat} (hp : s.powered = true) (hr : s.reqReal r = true)
    (h : pinfoAt a = none ∨ n ≠ 4) (v : Word) : (s.regWrite r a v n).1 = s.stray r a true := by
  rw [State.regWrite, if_neg (State.not_fabricOff_of_powered hp hr)]
  split
  case isTrue => rfl
  case isFalse hn => rw [h.resolve_right hn]

/-- A function's write to its status page is a stray access of its tenancy (log 75). -/
theorem State.fnWrite_status {s : State} {p f t o : Nat} (hup : s.flag (portPage p) F.HOSTP.PORT_INFO_UP = true)
    (hf : s.fnExists p f = true) (ht : s.fnTen p f = some t) (ho : 0x1000 ≤ o) (v : Word) :
    s.fnWrite p f o v 4 = s.hitAcc 9 0x09 4 p (0x10 + t) o := by
  have hbell : ¬(4 = 4 ∧ o % 4 = 0 ∧ o < 0x200) := by omega
  have hrd : ¬(4 = 4 ∧ o = 0x800) := by omega
  rw [State.fnWrite, if_neg hbell, if_neg hrd, if_neg (by simp [hup, hf]), ht]
  rfl

end Sys2Proof.Machine
end

section
/-! Settles the statement about owners and plain registers. -/

namespace Sys2Proof.Machine

/-- Settles O20: a write of `OWNER` is a violation or is judged by who makes it, an accepted one leaves the new owner, and a
write of any other register is the owner's, a violation or a stray access. -/
theorem ownersAndPlainRegisters : Obligations.OwnersAndPlainRegisters := by
  unfold Obligations.OwnersAndPlainRegisters
  refine ⟨?denied, ?judged, ?accepted, ?intEnable, ?plain, ?foreign, ?stray, ?function⟩
  case denied =>
    intro s r p i v h hi hm
    exact congrArg Host.Outcome.next ((h.cmdWrite_owner hi v).trans (if_neg (Bool.eq_false_iff.mp hm)))
  case judged =>
    intro s r p i v h hi hm
    exact congrArg Host.Outcome.next ((h.cmdWrite_owner hi v).trans (if_pos hm))
  case accepted =>
    intro s r p i v h hi hf ht hid he hb ha hw hwf
    have hip : pinfoAt (pageBase p) = some i := (pinfoAt_pageBase_add p (by decide)).symm.trans hi
    have hm : s.mayOwn (pageBase p) r = true := by simp [State.mayOwn, hip, ht]
    refine ⟨_, congrArg Host.Outcome.next (((h.cmdWrite_owner hi v).trans (if_pos hm)).trans
      (State.ownerJudge_of_accepted hip hf ht hid he hb ha hw)), ?_, ?_, ?_⟩
    · have howner := State.ownerTaken_owner hwf i.kind (pageBase p) (v.toNat % 4096)
      rw [Nat.mod_mod] at howner
      exact (congrArg F.HDR.OWNER.get (State.rd_checkDone_other _ _ _ (by decide))).trans howner
    · exact State.get_checkDone_reason (State.ownerTaken_regsWf hwf _ _ _) _ _
    · exact (State.rd_checkDone_other _ _ _ (by decide)).trans (State.rd_ownerTaken_intEnable hwf _ _ _)
  case intEnable =>
    intro s r v h _ hv _ hwf
    refine ⟨_, congrArg Host.Outcome.next (h.cmdWrite_modeIntEnable v), ?_⟩
    exact (State.rd_intEnable hwf.regs _ _).trans hv
  case plain =>
    intro s r a i v h hi hd ho hn
    exact congrArg Host.Outcome.next (h.plain v hi hd ho hn)
  case foreign =>
    intro s r a i v h hi hd ho hn hw
    exact congrArg Host.Outcome.next (h.cmdWrite_denied hi hd ho hn hw)
  case stray =>
    intro s r a v n hp hr h
    exact congrArg Host.Outcome.next (State.regWrite_stray hp hr h v)
  case function =>
    intro s p f o v t hlo hhi hup hf ht
    have hmod : o.toNat % 8192 = o.toNat := Nat.mod_eq_of_lt hhi
    exact congrArg Host.Outcome.next ((congrArg (s.fnWrite p f · v 4) hmod).trans
      (State.fnWrite_status hup hf ht hlo v))

end Sys2Proof.Machine
end

section
/-! SUPPORT. A write of `INT_STATUS` of a page whose line is not asserted, in canonical form and not (R93, R94). -/

namespace Sys2Proof.Machine

theorem and_not_and_eq_zero {x e : Word} (h : x &&& e = 0) (v : Word) : x &&& ~~~v &&& e = 0 := by
  rw [BitVec.and_assoc, BitVec.and_comm (~~~v), ← BitVec.and_assoc, h]
  exact BitVec.zero_and

/-- In canonical form the write leaves a line off that was off. -/
theorem State.lineOn_cleared {s : State} (h : s.RegsWf) {base : Nat} (hl : s.lineOn base = false) (v : Word) :
    (s.wr (base + 0x30) (s.rd (base + 0x30) &&& ~~~v)).lineOn base = false := by
  have hzero : s.rd (base + 0x30) &&& s.rd (base + 0x34) = 0 := by simpa [State.lineOn] using hl
  rw [State.lineOn, State.rd_wr_same h, State.rd_wr_other _ (mt Nat.add_left_cancel (by decide)),
    and_not_and_eq_zero hzero]
  rfl

/-- In canonical form a write of `INT_STATUS` sends no further message from a page whose line is off or not routed to a
host: what O19 claims of every state. -/
theorem State.intClear_of_no_message {s : State} (h : s.RegsWf) {base : Nat} (hb : base ≠ fcollPage)
    (hl : s.lineOn base = false ∨ bits (s.route (lineOf base)).toNat 31 30 ≠ 2) (v : Word) :
    s.intClear base v = (s.wr (base + 0x30) (s.rd (base + 0x30) &&& ~~~v)).dropLine base := by
  have hquiet : ¬((s.wr (base + 0x30) (s.rd (base + 0x30) &&& ~~~v)).lineOn base = true
      ∧ bits (s.route (lineOf base)).toNat 31 30 = 2) := by
    rintro ⟨hon, hhost⟩
    rcases hl with hoff | hother
    · exact absurd hon (ne_true_of_eq_false (State.lineOn_cleared h hoff v))
    · exact hother hhost
  unfold State.intClear
  dsimp only
  rw [if_neg hb]
  exact congrArg (State.dropLine · base) (if_neg hquiet)

/-- A device in RUN whose register table is not canonical: `INT_STATUS` of `DEV.MODE` stands there twice, its reset value 0
over a 1, and the page's line is routed to a host.  A write of 0 takes the upper entry away, and the line is asserted. -/
def State.hiddenStatus : State :=
  { State.reset with
    mode := .run
    regs := (modePage + 0x30, 0) :: (modePage + 0x30, 1) :: (modePage + 0x34, 1) :: State.reset.regs
    routes := [(lineOf modePage, 0x80000000)] }

theorem State.hiddenStatus_mayWrite : State.hiddenStatus.MayWrite ⟨0, 1⟩ (modePage + 0x30) where
  up := by decide +kernel
  safe := by decide +kernel
  real := by decide +kernel
  here := by decide +kernel
  run := by decide +kernel
  free := by decide +kernel
  owner := by decide +kernel
  tag := by decide +kernel

theorem State.hiddenStatus_lineOff : State.hiddenStatus.lineOn modePage = false := by decide +kernel

/-- The write of 0 sends a message. -/
theorem State.hiddenStatus_edges : (State.hiddenStatus.intClear modePage 0).edges = [lineOf modePage] := by decide +kernel

end Sys2Proof.Machine
end

section
/-! Settles the statement about interrupts and routes. -/

namespace Sys2Proof.Machine

/-- Refutes O19: its clause on a write of `INT_STATUS` asks for no canonical form, and in a register table that holds
`INT_STATUS` twice the write of 0 asserts a line that was off, and so sends a message to the host that the line is routed
to.  In canonical form the clause holds (`State.intClear_of_no_message`). -/
theorem not_interruptsAndRoutes : ¬ Obligations.InterruptsAndRoutes := by
  unfold Obligations.InterruptsAndRoutes
  intro h
  obtain ⟨hclear, -⟩ := h
  obtain ⟨-, hquiet⟩ := hclear State.hiddenStatus ⟨0, 1⟩ 0x001 (pinfo .mode 0x0001 0 0 1 true 0 true) 0
    State.hiddenStatus_mayWrite (by decide)
  have hsame := hquiet (by decide) (.inl State.hiddenStatus_lineOff)
  obtain ⟨cores, hdrop⟩ := (State.hiddenStatus.wr (modePage + 0x30)
    (State.hiddenStatus.rd (modePage + 0x30) &&& ~~~0)).dropLine_eq modePage
  have hedges : [lineOf modePage] = [] := calc
    [lineOf modePage] = (State.hiddenStatus.intClear modePage 0).edges := State.hiddenStatus_edges.symm
    _ = _ := congrArg State.edges (hsame.trans hdrop)
    _ = [] := rfl
  exact absurd hedges (by simp)

end Sys2Proof.Machine
end

section
/-! SUPPORT. Accesses to the block registers of heads, layers and colour pages: `COEF_DATA` (R117, R118), `LUT_DATA` (R128),
`REFLEX_CTL` (R126) and `HOLD_CMD` (R164, R165). -/

namespace Sys2Proof.Machine

/-! Block registers of scan-out pages under the access rules -/

/-- The pages that hold a register whose own rule grants its writes. -/
def ownRulePages : List Nat :=
  [divPage, blockreqPage, srcsPage, mboxPage, tmbPage, wdogPage, measPage, otpPage, deccPage, aengPage]

theorem State.ownRule_of_page (s : State) (r : Req) {a : Nat} (v : Word) (h : pageOf a ∉ ownRulePages) :
    s.ownRule r a v = none := by
  have hne : ∀ b, pageOf b ∈ ownRulePages → a ≠ b := by
    rintro b hb rfl
    exact h hb
  have hdiv := hne (divPage + 0x140) (by decide)
  have hreq := hne (blockreqPage + 0x100) (by decide)
  have hsrcs := hne (srcsPage + 0x108) (by decide)
  have hremote := hne (tmbPage + 0x108) (by decide)
  have hmeas := hne (measPage + 0x470) (by decide)
  have hotp := hne (otpPage + 0x114) (by decide)
  have hdecc := hne (deccPage + 0x10C) (by decide)
  have haeng := hne (aengPage + 0x900) (by decide)
  have hmbox : pageOf a ≠ mboxPage := fun heq => h (heq ▸ by decide)
  have htmb : pageOf a ≠ tmbPage := fun heq => h (heq ▸ by decide)
  have hwdog : pageOf a ≠ wdogPage := fun heq => h (heq ▸ by decide)
  simp [State.ownRule, hdiv, hreq, hsrcs, hremote, hmeas, hotp, hdecc, haeng, hmbox, htmb, hwdog]

/-- The kinds of the scan-out pages that this section speaks of. -/
def scanKinds : List PKind := [.head, .layer, .colour]

theorem not_scanKind_of_ownRulePage :
    ∀ base ∈ ownRulePages, (pinfoAt base).all (fun i => !scanKinds.contains i.kind) = true := by decide

theorem State.ownRule_of_scanKind (s : State) (r : Req) {a : Nat} {i : PInfo} (hi : pinfoAt (pageOf a) = some i)
    (hk : i.kind ∈ scanKinds) (v : Word) : s.ownRule r a v = none := by
  refine s.ownRule_of_page r v (fun hmem => ?_)
  have hnot := not_scanKind_of_ownRulePage _ hmem
  simp [hi, hk] at hnot

/-- A block register of a scan-out page. -/
structure ScanReg (k : PKind) (off : Nat) : Prop where
  kind : k ∈ scanKinds
  aligned : off % 4 = 0
  low : 0x100 ≤ off
  high : off < 0x1000
  fields : fldsAt k off ≠ []

theorem ScanReg.offDefined {i : PInfo} {off : Nat} (h : ScanReg i.kind off) : offDefined i off = true := by
  have hlow : ¬off < 0x100 := Nat.not_lt.mpr h.low
  have hfields : (blockFlds i.kind).filter (·.hits off) ≠ [] := by
    simpa only [fldsAt, if_neg hlow] using h.fields
  simp [Machine.offDefined, h.aligned, hlow, hfields]

section Block
variable {s : State} {r : Req} {p : PageNo} {off : Nat} {k : PKind} {i : PInfo} (hreg : ScanReg k off)
  (hi : pinfoAt (pageBase p + off) = some i) (hk : i.kind = k)
include hreg hi hk

theorem ScanReg.isKind : isKind (pageBase p) k = true := by
  rw [Machine.isKind, ← pinfoAt_pageBase_add p hreg.high, hi]
  exact beq_iff_eq.mpr hk

/-- The owner's write of a block register of a scan-out page has the effect of its kind of page, or none of its own. -/
theorem State.MayWrite.block (h : s.MayWrite r (pageBase p + off)) (v : Word) :
    s.cmdWrite r (pageBase p + off) v
      = (s.kindWrite r k (pageBase p) off v).getD (s.plainWrite k (pageBase p + off) v) := by
  subst hk
  have hoff : offOf (pageBase p + off) = off := offOf_pageBase_add p hreg.high
  have hpage : pageOf (pageBase p + off) = pageBase p := pageOf_pageBase_add p hreg.high
  have hrule : s.ownRule r (pageBase p + off) v = none := by
    refine s.ownRule_of_scanKind r ?_ hreg.kind v
    rw [hpage, ← pinfoAt_pageBase_add p hreg.high]
    exact hi
  have hlow := hreg.low
  have hfence : ¬(off = 0x058 ∨ off = 0x060 ∨ off = 0x064) := by omega
  rw [h.plain v hi (hoff.symm ▸ hreg.offDefined) (by omega) hrule, State.writeEffect]
  dsimp only
  rw [hoff, hpage, if_neg (by omega), if_neg (by omega), if_neg (by omega), if_neg (by omega),
    if_neg (fun hc => hfence hc.1)]
  cases s.kindWrite r i.kind (pageBase p) off v with
  | some t => rfl
  | none => exact if_neg hfence

theorem State.MayWrite.writeOn (h : s.MayWrite r (pageBase p + off)) (v : Word) :
    s.writeOn k r (pageBase p) off v
      = (s.kindWrite r k (pageBase p) off v).getD (s.plainWrite k (pageBase p + off) v) :=
  (if_pos (hreg.isKind hi hk)).trans (h.block hreg hi hk v)

theorem State.MayRead.readOn (h : s.MayRead r (pageBase p + off) i) :
    s.readOn k r (pageBase p) off = State.answer r (pageBase p + off) (s.wordRead r (pageBase p + off)) :=
  (if_pos (hreg.isKind hi hk)).trans (State.cmdRead_word h.up h.real _)

omit hk in
/-- A read that reaches its page, and that the page grants the requester. -/
theorem State.Reaches.mayRead (h : s.Reaches r (pageBase p + off)) (hm : s.mayRead r i (pageBase p) = true) :
    s.MayRead r (pageBase p + off) i where
  up := h.up
  real := h.real
  info := hi
  here := h.here
  may := (pageOf_pageBase_add p hreg.high).symm ▸ hm
  run := h.run

end Block

/-- A granted read whose effect is its own is answered by that effect. -/
theorem State.MayRead.readWith_of_effect {s : State} {r : Req} {a : Nat} {i : PInfo} (h : s.MayRead r a i)
    (hd : offDefined i (offOf a) = true) {f : State → Option (State × Word)} {x : State × Word} (hf : f s = some x) :
    s.readWith r a f = x := by
  simp [State.readWith, h.info, hd, h.here, h.may, h.run, hf]

/-! `COEF_DATA` (R117, R118) -/

theorem scanReg_coefData : ScanReg .layer 0x194 := by constructor <;> decide

section CoefAccess
variable {s : State} {r : Req} {p : PageNo} {i : PInfo} (hi : pinfoAt (pageBase p + 0x194) = some i) (hk : i.kind = .layer)
include hi hk

theorem State.MayWrite.writeOn_coefData (h : s.MayWrite r (pageBase p + 0x194)) (v : Word) :
    s.writeOn .layer r (pageBase p) 0x194 v = s.coefWrite (pageBase p) v :=
  h.writeOn scanReg_coefData hi hk v

theorem State.MayRead.readOn_coefData (h : s.MayRead r (pageBase p + 0x194) i) :
    s.readOn .layer r (pageBase p) 0x194 = State.answer r (pageBase p + 0x194) (s.coefRead (pageBase p)) := by
  have hoff : offOf (pageBase p + 0x194) = 0x194 := offOf_pageBase_add p (by decide)
  have hpage : pageOf (pageBase p + 0x194) = pageBase p := pageOf_pageBase_add p (by decide)
  have hd : offDefined i (offOf (pageBase p + 0x194)) = true := by
    rw [hoff]
    exact (hk.symm ▸ scanReg_coefData).offDefined
  rw [h.readOn scanReg_coefData hi hk, State.wordRead, if_neg (State.not_fabricOff_of_powered h.up h.real),
    h.readWith_of_effect hd (x := s.coefRead (pageBase p))]
  simp [hi, hk, hoff, hpage]

end CoefAccess

section Coef
variable {s : State} {base w : Nat} (hw : (s.rd (base + 0x190)).toNat = w)
include hw

theorem State.coefWrite_of_busy (hb : s.bankBusy (headOf base) (layOf base) (bits w 1 0) = true) (v : Word) :
    s.coefWrite base v = (s.intBit base 0).wr (base + 0x190) (BitVec.ofNat 32 (coefNext w)) := by
  subst hw
  exact congrArg (State.wr · _ _) (if_pos hb)

/-- A tap with no place: the selection advances, and no coefficient is stored. -/
theorem State.coefWrite_of_no_tap (hb : s.bankBusy (headOf base) (layOf base) (bits w 1 0) = false)
    (ht : bit w 2 = true ∧ 4 ≤ bits w 11 9) (v : Word) :
    s.coefWrite base v = s.wr (base + 0x190) (BitVec.ofNat 32 (coefNext w)) := by
  subst hw
  exact congrArg (State.wr · _ _) ((if_neg (Bool.eq_false_iff.mp hb)).trans (if_pos ht))

theorem State.coefWrite_of_tap (hb : s.bankBusy (headOf base) (layOf base) (bits w 1 0) = false)
    (ht : ¬(bit w 2 = true ∧ 4 ≤ bits w 11 9)) (v : Word) :
    s.coefWrite base v = ({ s with
      coefs := amSet coefReset s.coefs
        (coefKey (headOf base) (layOf base) (bits w 1 0) (bits w 2 2) (bits w 8 3) (bits w 11 9))
        (v.setWidth 12) } : State).wr (base + 0x190) (BitVec.ofNat 32 (coefNext w)) := by
  subst hw
  exact congrArg (State.wr · _ _) ((if_neg (Bool.eq_false_iff.mp hb)).trans (if_neg ht))

theorem State.coefRead_of_tap (ht : ¬(bit w 2 = true ∧ 4 ≤ bits w 11 9)) :
    (s.coefRead base).2 = BitVec.ofNat 32 (s.coef (headOf base) (layOf base) (bits w 1 0) (bits w 2 2) (bits w 8 3)
      (bits w 11 9)).toNat := by
  subst hw
  exact congrArg (BitVec.ofNat 32) (if_neg ht)

end Coef

/-- The tap has a place where the row is horizontal or the tap is one of a vertical row's four. -/
theorem not_no_tap {w : Nat} (h : bit w 2 = false ∨ bits w 11 9 < 4) : ¬(bit w 2 = true ∧ 4 ≤ bits w 11 9) := by
  rintro ⟨hdir, htap⟩
  rcases h with hrow | hlt
  · exact Bool.eq_false_iff.mp hrow hdir
  · exact Nat.not_le.mpr hlt htap

/-! `LUT_DATA` (R128) -/

theorem scanReg_lutData : ScanReg .colour 0x144 := by constructor <;> decide

section LutAccess
variable {s : State} {r : Req} {p : PageNo} {i : PInfo} (hi : pinfoAt (pageBase p + 0x144) = some i) (hk : i.kind = .colour)
include hi hk

theorem State.MayWrite.writeOn_lutData (h : s.MayWrite r (pageBase p + 0x144)) (v : Word) :
    s.writeOn .colour r (pageBase p) 0x144 v = s.lutWrite (pageBase p) v :=
  h.writeOn scanReg_lutData hi hk v

theorem State.MayRead.readOn_lutData (h : s.MayRead r (pageBase p + 0x144) i) :
    s.readOn .colour r (pageBase p) 0x144 = State.answer r (pageBase p + 0x144) (s.lutRead (pageBase p)) := by
  have hoff : offOf (pageBase p + 0x144) = 0x144 := offOf_pageBase_add p (by decide)
  have hpage : pageOf (pageBase p + 0x144) = pageBase p := pageOf_pageBase_add p (by decide)
  have hd : offDefined i (offOf (pageBase p + 0x144)) = true := by
    rw [hoff]
    exact (hk.symm ▸ scanReg_lutData).offDefined
  rw [h.readOn scanReg_lutData hi hk, State.wordRead, if_neg (State.not_fabricOff_of_powered h.up h.real),
    h.readWith_of_effect hd (x := s.lutRead (pageBase p))]
  simp [hi, hk, hoff, hpage]

end LutAccess

/-- The state with an entry of the LUT stored: head, set, channel, index. -/
def State.lutStore (s : State) (h set ch i : Nat) (v : Word) : State :=
  { s with luts := amSet lutReset s.luts (lutKey h set ch i) (v.setWidth 16) }

section Lut
variable {s : State} {base w : Nat} (hw : (s.rd (base + 0x140)).toNat = w)
include hw

theorem State.lutWrite_of_busy (hb : s.lutBusy (headOf base) (bits w 16 16) = true) (v : Word) :
    s.lutWrite base v = (s.intBit base 0).wr (base + 0x140) (BitVec.ofNat 32 (lutNext w)) := by
  subst hw
  exact congrArg (State.wr · _ _) (if_pos hb)

/-- A write to a set that is not in use, by the index and the channel that `LUT_SEL` names. -/
theorem State.lutWrite_of_free (hb : s.lutBusy (headOf base) (bits w 16 16) = false) (v : Word) :
    s.lutWrite base v = (if 1024 < bits w 10 0 then s
      else if bits w 13 12 = 3 then
        ((s.lutStore (headOf base) (bits w 16 16) 2 (bits w 10 0) v).lutStore (headOf base) (bits w 16 16) 1 (bits w 10 0)
          v).lutStore (headOf base) (bits w 16 16) 0 (bits w 10 0) v
      else s.lutStore (headOf base) (bits w 16 16) (bits w 13 12) (bits w 10 0) v).wr (base + 0x140)
        (BitVec.ofNat 32 (lutNext w)) := by
  subst hw
  exact congrArg (State.wr · _ _) (if_neg (Bool.eq_false_iff.mp hb))

end Lut

/-! Requests that a slack point takes (R126, R164, R165) -/

/-- A register of two write-1-to-set bits keeps the bits that stand and takes the written ones. -/
theorem State.plainWrite_of_w1s {s : State} {k : PKind} {a : Nat} {f g : Fld} (hf : fldsAt k (offOf a) = [f, g])
    (hlo : offOf a < 0x800) (hfa : f.acc = .w1s) (hga : g.acc = .w1s) {v : Word}
    (hv : v &&& f.mask ||| v &&& g.mask = v) : s.plainWrite k a v = s.wr a (s.rd a ||| v) := by
  have hw : (fldsAt k (offOf a)).foldl (fun w f => f.accept w v) (s.rd a) = s.rd a ||| v := by
    rw [hf]
    simp only [List.foldl, Fld.accept, hfa, hga, BitVec.or_assoc]
    rw [hv]
  unfold State.plainWrite
  dsimp only
  have hall : ~~~(0 : Word) = BitVec.allOnes 32 := rfl
  rw [hw, if_neg (Nat.not_le.mpr hlo), hall, BitVec.and_allOnes]
  simp

theorem scanReg_reflexCtl : ScanReg .layer 0x180 := by constructor <;> decide

/-- The owner's request in `REFLEX_CTL` of a layer stands beside those already there. -/
theorem State.MayWrite.reflexReq {s : State} {r : Req} {p : PageNo} {i : PInfo} (h : s.MayWrite r (pageBase p + 0x180))
    (hi : pinfoAt (pageBase p + 0x180) = some i) (hk : i.kind = .layer) {v : Word}
    (hv : v &&& F.LAYER.REFLEX_CTL_CLEAR_REQ.mask ||| v &&& F.LAYER.REFLEX_CTL_SET_REQ.mask = v) :
    s.reflexReq r (pageBase p) v = s.wr (pageBase p + 0x180) (s.rd (pageBase p + 0x180) ||| v) := by
  have hoff : offOf (pageBase p + 0x180) = 0x180 := offOf_pageBase_add p (by decide)
  rw [State.reflexReq, if_pos (.inl (scanReg_reflexCtl.isKind hi hk)), h.block scanReg_reflexCtl hi hk]
  refine State.plainWrite_of_w1s ?_ (by omega) rfl rfl hv
  rw [hoff]
  rfl

section Hold
variable (h : Fin 8)

/-- The page number of a head. -/
def headNo : PageNo := BitVec.ofNat 12 (16 * (0x10 + h.val))

theorem pageBase_headNo : pageBase (headNo h) = headPage h.val := by
  revert h
  decide

theorem scanReg_holdCmd : ScanReg .head 0x12C := by constructor <;> decide

theorem pinfoAt_holdCmd : pinfoAt (headPage h.val + 0x12C)
    = some (pinfo .head 0x0100 h.val 8 0 false (1 + h.val) false .slack) := by
  revert h
  decide

/-- The owner's command in `HOLD_CMD` stands beside those already there. -/
theorem State.MayWrite.holdCmd {s : State} {r : Req} {h : Fin 8} (hm : s.MayWrite r (headPage h.val + 0x12C)) {v : Word}
    (hv : v &&& F.HEAD.HOLD_CMD_EXIT.mask ||| v &&& F.HEAD.HOLD_CMD_CAPTURE.mask = v) :
    s.cmdWrite r (headPage h.val + 0x12C) v
      = s.wr (headPage h.val + 0x12C) (s.rd (headPage h.val + 0x12C) ||| v) := by
  have hi := pinfoAt_holdCmd h
  rw [← pageBase_headNo] at hm hi ⊢
  have hoff : offOf (pageBase (headNo h) + 0x12C) = 0x12C := offOf_pageBase_add _ (by decide)
  rw [hm.block scanReg_holdCmd hi rfl]
  refine State.plainWrite_of_w1s ?_ (by omega) rfl rfl hv
  rw [hoff]
  rfl

end Hold

end Sys2Proof.Machine
end

section
/-! Settles the statements about accesses to tables and about requests that wait for a slack point. -/

namespace Sys2Proof.Machine

/-- Settles O21: an access is the owner's write or the granted read of its register, and each clause is a case of the
access to the table. -/
theorem tableAccess : Obligations.TableAccess := by
  unfold Obligations.TableAccess
  refine ⟨?coefWrite, ?coefValue, ?coefRead, ?lutWrite, ?lutRead⟩
  case coefWrite =>
    intro s r p i v h hi hk w hd l
    have hexec : exec (.coefDataWrite r p v) s = .next (s.coefWrite (pageBase p) v) :=
      congrArg Host.Outcome.next (h.writeOn_coefData hi hk v)
    rw [hexec]
    refine ⟨?busy, ?stored, ?noTap⟩
    case busy =>
      intro hb
      exact congrArg Host.Outcome.next (State.coefWrite_of_busy rfl hb v)
    case stored =>
      intro hb ht
      exact congrArg Host.Outcome.next (State.coefWrite_of_tap rfl hb (not_no_tap ht) v)
    case noTap =>
      intro hb hdir htap
      exact congrArg Host.Outcome.next (State.coefWrite_of_no_tap rfl hb ⟨hdir, htap⟩ v)
  case coefValue =>
    intro s p w ht
    exact State.coefRead_of_tap rfl (not_no_tap ht)
  case coefRead =>
    intro s r p i h hi hk hm
    exact congrArg Host.Outcome.next ((h.mayRead scanReg_coefData hi hm).readOn_coefData hi hk)
  case lutWrite =>
    intro s r p i v h hi hk w k
    have hexec : exec (.lutDataWrite r p v) s = .next (s.lutWrite (pageBase p) v) :=
      congrArg Host.Outcome.next (h.writeOn_lutData hi hk v)
    rw [hexec]
    have hfree (hb) := State.lutWrite_of_free (s := s) (base := pageBase p) (w := w) rfl hb v
    refine ⟨?busy, ?one, ?all, ?noEntry⟩
    case busy =>
      intro hb
      exact congrArg Host.Outcome.next (State.lutWrite_of_busy rfl hb v)
    case one =>
      intro hb hidx hch
      rw [hfree hb, if_neg (Nat.not_lt.mpr hidx), if_neg (Nat.ne_of_lt hch)]
      rfl
    case all =>
      intro hb hidx hch
      rw [hfree hb, if_neg (Nat.not_lt.mpr hidx), if_pos hch]
      rfl
    case noEntry =>
      intro hb hidx
      rw [hfree hb, if_pos hidx]
  case lutRead =>
    intro s r p i h hi hk hm
    exact congrArg Host.Outcome.next ((h.mayRead scanReg_lutData hi hm).readOn_lutData hi hk)

/-- Settles O22: each command is the owner's write of one write-1-to-set bit, which stands beside the bits already there. -/
theorem requestsStand : Obligations.RequestsStand := by
  unfold Obligations.RequestsStand
  refine ⟨?reflex, ?hold⟩
  case reflex =>
    intro s r p i h hi hk
    exact ⟨congrArg Host.Outcome.next (h.reflexReq hi hk (by decide)),
      congrArg Host.Outcome.next (h.reflexReq hi hk (by decide))⟩
  case hold =>
    intro s r h hm
    exact ⟨congrArg Host.Outcome.next (hm.holdCmd (by decide)), congrArg Host.Outcome.next (hm.holdCmd (by decide))⟩

end Sys2Proof.Machine
end

section
/-! SUPPORT. What rasters, line slots and slack points do (R140, R149, R151, R153): one lemma per operation and case of its
definition. -/

namespace Sys2Proof.Machine

/-! Each command runs one operation on its head, and a report of latency tolerance may follow -/

theorem exec_headStart (h : Fin 8) (s : State) : exec (.headStart h) s = .next (s.headBegins h.val).latSend := rfl

theorem exec_slackPoint (h : Fin 8) (s : State) : exec (.slackPoint h) s = .next (s.slackPoint h.val).latSend := rfl

theorem exec_lineSlotStart (h : Fin 8) (full : BitVec 2) (fifo : BitVec 16) (s : State) :
    exec (.lineSlotStart h full fifo) s
      = .next ((s.lineSlot h.val (fun i => bit full.toNat i) (fun k => bit fifo.toNat k)).tmbIssue h.val).latSend := rfl

/-! Registers do not change while ticks pass -/

@[simp] theorem State.rd_waitTo (s : State) (t a : Nat) : (s.waitTo t).rd a = s.rd a := by simp [State.rd]

@[simp] theorem State.get_waitTo (s : State) (t base : Nat) (x : Fld) : (s.waitTo t).get base x = s.get base x := by
  simp [State.get]

/-! The start of a head (R149) -/

theorem State.headBegins_of_not_due {s : State} {h : Nat} (hdue : (s.ctl (headPage h)).startDue = none) :
    s.headBegins h = s := by
  rw [State.headBegins, hdue]

/-- The state on the tick of a head's first slack point: the tick after the acceptance on tick `a`, or the first due slack
point from then on. -/
def State.startWait (s : State) (h a : Nat) : State :=
  (s.waitTo (a + 1)).waitTo (((s.waitTo (a + 1)).dueFrom h (s.waitTo (a + 1)).now).getD (s.waitTo (a + 1)).now)

theorem State.headBegins_of_due {s : State} {h a : Nat} (hdue : (s.ctl (headPage h)).startDue = some a)
    (hoff : (s.raster h).on = false) (hmode : s.mode ≠ .safe) :
    s.headBegins h = (s.startWait h a).slackAt h (s.startWait h a).now true false := by
  have hgo : ¬((s.raster h).on = true ∨ s.mode = .safe) := by simp [hoff, hmode]
  rw [State.headBegins, hdue]
  exact if_neg hgo

/-! Line slots (R140, R153) -/

theorem State.lineSlot_of_off {s : State} {h : Nat} (hoff : (s.raster h).on = false) (full fifo : Nat → Bool) :
    s.lineSlot h full fifo = s := if_pos (.inl hoff)

/-- The state in which line slot `i` of a head has started: the raster counts it, `LINE_POS` names it, and genlock has
corrected it. -/
def State.slotOpened (s : State) (h i : Nat) : State :=
  let u := (s.waitTo (s.slotTick h (i * s.hTotal h))).setRaster h { s.raster h with line := i + 1 }
  (((u.put (headPage h) F.HEAD.LINE_POS_REGION (u.linePos h i).1).put (headPage h) F.HEAD.LINE_POS_LINE
    (u.linePos h i).2).genlockLine h i)

/-- A line slot before the last blanking line completes no region and composes no line. -/
theorem State.lineSlot_of_blank {s : State} {h i : Nat} (hon : (s.raster h).on = true) (hi : (s.raster h).line = i)
    (hblank : i + 1 < s.vTotal h - s.get (headPage h) F.HEAD.V_TIMING_0_ACTIVE) (full fifo : Nat → Bool) :
    s.lineSlot h full fifo = ((s.slotOpened h i).bursts h false fifo).latReport h i := by
  subst hi
  have hruns : ¬((s.raster h).on = false ∨ s.vTotal h ≤ (s.raster h).line) := by
    simp only [hon, Bool.true_eq_false, false_or]
    omega
  have hslot : ¬(s.vTotal h - s.get (headPage h) F.HEAD.V_TIMING_0_ACTIVE ≤ (s.raster h).line) := by omega
  have hnext : ¬(s.vTotal h - s.get (headPage h) F.HEAD.V_TIMING_0_ACTIVE ≤ (s.raster h).line + 1
      ∧ (s.raster h).line + 1 < s.vTotal h) := by omega
  rw [State.lineSlot, if_neg hruns]
  simp only [State.get_waitTo]
  rw [if_neg hnext, if_neg hslot, decide_eq_false hslot]
  rfl

/-! Later slack points (R140, R151) -/

theorem State.slackPoint_of_off {s : State} {h : Nat} (hoff : (s.raster h).on = false) : s.slackPoint h = s := if_pos hoff

/-- The state in which the line slots of the frame have run, those that no command has given among them. -/
def State.slotsRun (s : State) (h : Nat) : State :=
  forN (fun _ u => u.lineSlot h (fun _ => false) (fun _ => false)) (s.vTotal h - (s.raster h).line) s

/-- The tick on which the next frame's first pixel slot is due. -/
def State.frameDue (s : State) (h : Nat) : Nat := s.slotTick h (s.hTotal h * s.vTotal h)

/-- The fraction of a tick that the next frame starts with. -/
def State.frameCarry (s : State) (h : Nat) : Nat :=
  (s.raster h).frac + (s.frameDue h - (s.raster h).org) * s.get (headPage h) F.HEAD.RATE_NUM
    - s.hTotal h * s.vTotal h * s.get (headPage h) F.HEAD.RATE_DEN

/-- A slack point runs the line slots that no command has given before it, then the frame ends. Entry 101 of the log speaks of
none run there; the model's own definition decides. -/
theorem State.slackPoint_of_on {s : State} {h : Nat} (hon : (s.raster h).on = true) {v : State} (hv : v = s.slotsRun h) :
    s.slackPoint h = ((v.waitTo (v.frameDue h)).setRaster h ⟨true, (v.waitTo (v.frameDue h)).now, v.frameCarry h, 1⟩).slackAt
      h (v.waitTo (v.frameDue h)).now false true := by
  subst hv
  exact if_neg (by simp [hon])

end Sys2Proof.Machine
end

section
/-! Settles the statement about rasters. -/

namespace Sys2Proof.Machine

/-- Settles O23: each clause is the case of the head's start, slack point or line slot that its hypotheses name. -/
theorem rastersRun : Obligations.RastersRun := by
  unfold Obligations.RastersRun
  refine ⟨?start, ?noStart, ?slack, ?off, ?blank, ?slot⟩
  case start =>
    intro s h a hdue hoff hmode _
    rw [exec_headStart, State.headBegins_of_due hdue hoff hmode]
    rfl
  case noStart =>
    intro s h hdue
    rw [exec_headStart, State.headBegins_of_not_due hdue]
  case slack =>
    intro s h hon v _ _ _
    rw [exec_slackPoint, State.slackPoint_of_on hon (v := v) rfl]
    rfl
  case off =>
    intro s h full fifo hoff
    rw [exec_slackPoint, exec_lineSlotStart, State.slackPoint_of_off hoff, State.lineSlot_of_off hoff]
    exact ⟨rfl, rfl⟩
  case blank =>
    intro s h full fifo hon _ i top hblank _ _
    rw [exec_lineSlotStart, State.lineSlot_of_blank hon rfl hblank]
    rfl
  case slot => exact fun s h full fifo => exec_lineSlotStart h full fifo s

end Sys2Proof.Machine
end

section
/-! SUPPORT. Answers of layer fetches (R153), the D-PHY clock (R147) and links that leave ULPS (R167): one lemma per case of
each operation. -/

namespace Sys2Proof.Machine

/-! Each command runs one operation -/

theorem exec_layerFetchResponse (h : Fin 8) (l : Fin 12) (k : Fin 3) (y g : Nat) (s : State) :
    exec (.layerFetchResponse h l k y g) s = .next (s.layerFetch h.val l.val k.val y g) := rfl

theorem exec_bufferRelease (h : Fin 8) (l : Fin 12) (s : State) :
    exec (.bufferRelease h l) s
      = .next (s.releaseDue h.val l.val s.now (s.get (headPage h.val) F.HEAD.FRAME_SEQ)) := rfl

theorem exec_dphyClockLoss (n : Nat) (s : State) : exec (.dphyClockLoss n) s = .next (s.dphyLoss n) := rfl

theorem exec_ulpsWakeupEnd (k : Fin 16) (s : State) : exec (.ulpsWakeupEnd k) s = .next (s.wakeupEnd k.val) := rfl

theorem exec_tidepoolRegionClearDone (r : Fin 32) (s : State) :
    exec (.tidepoolRegionClearDone r) s = .next (s.regionCleared r.val) := rfl

/-! Answers of layer fetches (R153) -/

/-- The request by which a layer fetches granule `g` of crop line `y` of a plane. -/
def State.granRq (s : State) (h l : Nat) (p : Plane) (y g : Nat) : MemRq :=
  ⟨0x20 + h, s.owner (layerPage h l), p.granAddr (s.layCfg h l) y g, 64, false, p.space == 1, true⟩

/-- The cause of a request that memory answers with an error: denied, no memory behind it, or data that cannot be used. -/
def State.fetchCause (s : State) (rq : MemRq) : Nat :=
  if (s.wouldAllow rq).isNone then 1
  else if rq.pool = false ∧ (s.enabled dglobPage = false ∨ s.dramServes rq.addr = false) then 3 else 2

/-- What becomes of a layer fetch that memory answers. -/
def State.granAnswer (s : State) (h l k y g : Nat) (p : Plane) : State :=
  match s.mread (s.granRq h l p y g) with
  | (u, some (d, m)) => u.granArrives h l k y g (BitVec.ofNat 512 (bytesNat d)) (m == 2)
  | (u, none) => u.granFails h l k y g (s.fetchCause (s.granRq h l p y g))

theorem State.granAnswer_of_data {s u : State} {h l k y g m : Nat} {p : Plane} {d : List Byte}
    (hread : s.mread (s.granRq h l p y g) = (u, some (d, m))) :
    s.granAnswer h l k y g p = u.granArrives h l k y g (BitVec.ofNat 512 (bytesNat d)) (m == 2) := by
  rw [State.granAnswer, hread]

theorem State.granAnswer_of_denied {s u : State} {h l k y g : Nat} {p : Plane}
    (hread : s.mread (s.granRq h l p y g) = (u, none)) (hdenied : s.wouldAllow (s.granRq h l p y g) = none) :
    s.granAnswer h l k y g p = u.granFails h l k y g 1 := by
  have hcause : s.fetchCause (s.granRq h l p y g) = 1 := if_pos (by simp [hdenied])
  rw [State.granAnswer, hread, hcause]

section Fetch
variable {s : State} {h l k y g : Nat}

theorem State.layerFetch_of_reset (hr : s.engineReset (0x20 + h) = true) :
    s.layerFetch h l k y g = s.discard (0x20 + h) := if_pos hr

variable (hr : s.engineReset (0x20 + h) = false)
include hr

/-- The answer to a fetch whose line has underrun is dropped. -/
theorem State.layerFetch_of_late (hl : (s.lay h l).late.contains (granKey k y g) = true) :
    s.layerFetch h l k y g = s.modLay h l (fun x => { x with late := x.late.filter (· != granKey k y g) }) :=
  (if_neg (Bool.eq_false_iff.mp hr)).trans (if_pos hl)

theorem State.layerFetch_of_local (hl : (s.lay h l).late.contains (granKey k y g) = false)
    (hmay : s.mayFetch h l k y g = true) {p : Plane} (hp : (s.planes h l)[k]? = some p) (hlocal : p.remote = false) :
    s.layerFetch h l k y g = s.granAnswer h l k y g p := by
  rw [State.layerFetch]
  dsimp only
  rw [if_neg (Bool.eq_false_iff.mp hr), if_neg (Bool.eq_false_iff.mp hl), if_neg (by simp [hmay]), hp]
  exact if_neg (Bool.eq_false_iff.mp hlocal)

end Fetch

/-! A lost D-PHY clock (R147) -/

theorem forL_of_fixed {α β : Type} {f : β → α → α} {s : α} : ∀ {l : List β}, (∀ b ∈ l, f b s = s) → forL f l s = s
  | [], _ => rfl
  | b :: l, h => by
    rw [forL, h b List.mem_cons_self]
    exact forL_of_fixed (fun c hc => h c (List.mem_cons_of_mem b hc))

theorem lt_of_mem_upto {k : Nat} : ∀ {n a : Nat}, k ∈ upto a n → k < a + n
  | 0, _, h => absurd h List.not_mem_nil
  | n + 1, a, h => by
    rcases List.mem_cons.mp h with rfl | h
    · omega
    · have := lt_of_mem_upto h
      omega

theorem State.dphyLoss_of_no_hs {s : State} (h : ∀ k, k < 16 → s.get (dsiPage k) F.DSI.LINK_STATUS_STATE ≠ 1) (n : Nat) :
    s.dphyLoss n = { s with dphyAt := s.now + n } :=
  forL_of_fixed (fun k hk => if_neg (h k (Nat.zero_add 16 ▸ lt_of_mem_upto hk)))

/-! The end of a link's Mark-1 hold (R167) -/

/-- The state at the end of a link's Mark-1 hold on tick `t`. -/
def State.wakeDone (s : State) (k t : Nat) : State :=
  { s.waitTo t with links := amSet (fun _ => LinkSt.idle) (s.waitTo t).links k LinkSt.idle }

theorem State.get_wakeDone (s : State) (k t base : Nat) (x : Fld) : (s.wakeDone k t).get base x = s.get base x :=
  s.get_waitTo t base x

theorem State.flag_wakeDone (s : State) (k t base : Nat) (x : Fld) : (s.wakeDone k t).flag base x = s.flag base x := by
  rw [State.flag, State.get_wakeDone, State.flag]

section Wake
variable {s : State} {k t : Nat} (hw : (amGet (fun _ => LinkSt.idle) s.links k).wake = some t)
include hw

theorem State.wakeupEnd_of_wake : s.wakeupEnd k = if s.flag (dsiPage k) F.DSI.LINK_STATUS_CLAIMED
    then (s.wakeDone k t).headWakes (s.get (dsiPage k) F.DSI.LINK_STATUS_HEAD) else s.wakeDone k t := by
  rw [← s.flag_wakeDone k t, ← s.get_wakeDone k t, State.wakeupEnd, hw]
  rfl

theorem State.wakeupEnd_of_unclaimed (hc : s.flag (dsiPage k) F.DSI.LINK_STATUS_CLAIMED = false) :
    s.wakeupEnd k = s.wakeDone k t :=
  (State.wakeupEnd_of_wake hw).trans (if_neg (Bool.eq_false_iff.mp hc))

theorem State.wakeupEnd_of_claimed (hc : s.flag (dsiPage k) F.DSI.LINK_STATUS_CLAIMED = true) :
    s.wakeupEnd k = (s.wakeDone k t).headWakes (s.get (dsiPage k) F.DSI.LINK_STATUS_HEAD) :=
  (State.wakeupEnd_of_wake hw).trans (if_pos hc)

end Wake

end Sys2Proof.Machine
end

section
/-! Settles the statement about fetches and links. -/

namespace Sys2Proof.Machine

/-- Settles O24: an answer goes by the engine's reset, by a late line and by what memory answers; a link by its state and its
claim; releases and clears run the loops of their definitions. -/
theorem fetchesAndLinks : Obligations.FetchesAndLinks := by
  unfold Obligations.FetchesAndLinks
  refine ⟨?reset, ?late, ?memory, ?release, ?noneInHs, ?clockLost, ?unclaimed, ?claimed, ?cleared⟩
  case reset =>
    intro s h l k y g hr
    exact congrArg Host.Outcome.next (State.layerFetch_of_reset hr)
  case late =>
    intro s h l k y g hr hl
    exact congrArg Host.Outcome.next (State.layerFetch_of_late hr hl)
  case memory =>
    intro s h l k y g p hr hl hmay hp hlocal _
    have hexec : exec (.layerFetchResponse h l k y g) s = .next (s.granAnswer h.val l.val k.val y g p) :=
      congrArg Host.Outcome.next (State.layerFetch_of_local hr hl hmay hp hlocal)
    rw [hexec]
    refine ⟨fun u d m hread => ?data, fun u hread hdenied => ?denied⟩
    case data => exact congrArg Host.Outcome.next (State.granAnswer_of_data hread)
    case denied => exact congrArg Host.Outcome.next (State.granAnswer_of_denied hread hdenied)
  case release =>
    intro s h l _
    exact exec_bufferRelease h l s
  case noneInHs =>
    intro s n hno
    exact congrArg Host.Outcome.next (State.dphyLoss_of_no_hs hno n)
  case clockLost =>
    intro s n
    exact exec_dphyClockLoss n s
  case unclaimed =>
    intro s k t hw hc
    exact congrArg Host.Outcome.next (State.wakeupEnd_of_unclaimed hw hc)
  case claimed =>
    intro s k t hw hc
    exact congrArg Host.Outcome.next (State.wakeupEnd_of_claimed hw hc)
  case cleared =>
    intro s r _ _
    exact exec_tidepoolRegionClearDone r s

end Sys2Proof.Machine
end

section
/-! SUPPORT. Accesses to `FEED_DATA` and `FEED_CTRL` of a check-value unit, and the streams that they open, feed and finish
(R182–R185). -/

namespace Sys2Proof.Machine

/-- The owner's write of a block register that has an effect of its page's kind, on a page without rules of its own, has that
effect. -/
theorem State.MayWrite.cmdWrite_kind {s t : State} {r : Req} {a : Nat} {i : PInfo} {v : Word} (h : s.MayWrite r a)
    (hi : pinfoAt a = some i) (hd : offDefined i (offOf a) = true) (hlow : 0x100 ≤ offOf a)
    (hp : pageOf a ∉ ownRulePages) (ht : s.kindWrite r i.kind (pageOf a) (offOf a) v = some t) : s.cmdWrite r a v = t := by
  have hfence : ¬(offOf a = 0x058 ∨ offOf a = 0x060 ∨ offOf a = 0x064) := by omega
  rw [h.plain v hi hd (by omega) (s.ownRule_of_page r v hp), State.writeEffect]
  dsimp only
  rw [if_neg (by omega), if_neg (by omega), if_neg (by omega), if_neg (by omega), if_neg (fun hc => hfence hc.1), ht]

/-! The pages of the units (R182) -/

section Page
variable (n : Fin 16)

/-- The page number of a check-value unit. -/
def cvuNo : PageNo := BitVec.ofNat 12 (16 * 0x1B + n.val)

theorem pageBase_cvuNo : pageBase (cvuNo n) = cvuPage n.val := by
  revert n
  decide

theorem pnoOf_cvuPage : pnoOf (cvuPage n.val) = n.val := by
  revert n
  decide

theorem pinfoAt_cvuPage : pinfoAt (cvuPage n.val) = some (pinfo .cvu 0x01B0 n.val 0 0) := by
  revert n
  decide

theorem cvuPage_not_ownRule : cvuPage n.val ∉ ownRulePages := by
  revert n
  decide

variable {n}

/-- The owner's write of a register that acts on the unit's stream. -/
theorem State.MayWrite.cvuReg {s t : State} {r : Req} {off : Nat} {v : Word} (h : s.MayWrite r (cvuPage n.val + off))
    (hlow : 0x100 ≤ off) (hhigh : off < 0x1000) (hd : offDefined (pinfo .cvu 0x01B0 n.val 0 0) off = true)
    (ht : cvuReg off n.val r v s = some t) : s.cmdWrite r (cvuPage n.val + off) v = t := by
  have hpage : pageOf (cvuPage n.val + off) = cvuPage n.val := pageBase_cvuNo n ▸ pageOf_pageBase_add (cvuNo n) hhigh
  have hoff : offOf (cvuPage n.val + off) = off := pageBase_cvuNo n ▸ offOf_pageBase_add (cvuNo n) hhigh
  have hi : pinfoAt (cvuPage n.val + off) = some (pinfo .cvu 0x01B0 n.val 0 0) :=
    (pageBase_cvuNo n ▸ pinfoAt_pageBase_add (cvuNo n) hhigh).trans (pinfoAt_cvuPage n)
  refine h.cmdWrite_kind hi (hoff.symm ▸ hd) (hoff.symm ▸ hlow) (hpage.symm ▸ cvuPage_not_ownRule n) ?_
  rw [hpage, hoff]
  change Machine.cvuReg off (pnoOf (cvuPage n.val)) r v s = some t
  rwa [pnoOf_cvuPage]

end Page

/-! `FEED_DATA` (R182, R185) -/

theorem State.MayWrite.cvuFeedData {s : State} {r : Req} {n : Fin 16} (h : s.MayWrite r (cvuPage n.val + 0x134)) (v : Word) :
    s.cmdWrite r (cvuPage n.val + 0x134) v = s.feedData r n.val v :=
  h.cvuReg (by decide) (by decide) rfl rfl

section Data
variable {s : State} {n : Nat}

theorem State.feedData_of_fed (hf : s.cvuFed n = true) (r : Req) (v : Word) :
    s.feedData r n v = (s.cvuBytes n ((natBytes (s.get (cvuPage n) F.CVU.FEED_CTRL_BYTES + 1) v.toNat).map
      (·.toNat))).stat64 (cvuPage n) 4 (s.get (cvuPage n) F.CVU.FEED_CTRL_BYTES + 1) := if_pos hf

theorem State.feedData_of_not_fed (hf : s.cvuFed n = false) (r : Req) (v : Word) :
    s.feedData r n v = s.stray r (cvuPage n + 0x134) true := if_neg (Bool.eq_false_iff.mp hf)

end Data

/-! `FEED_CTRL` (R183, R184) -/

/-- The word that a command writes to `FEED_CTRL`: its bits `v`, and `BYTES` as the register holds it. -/
def feedCtrl (v w : Word) : Word := v ||| (w &&& 0xC#32)

theorem bit_feedCtrl (v w : Word) {i : Nat} (hi : i < 2) : bit (feedCtrl v w).toNat i = bit v.toNat i := by
  have hbytes : (0xC#32).getLsbD i = false := (by decide : ∀ k < 2, (0xC#32).getLsbD k = false) i hi
  simp only [bit, feedCtrl, BitVec.testBit_toNat, BitVec.getLsbD_or, BitVec.getLsbD_and, hbytes, Bool.and_false,
    Bool.or_false]

theorem bytes_feedCtrl {v : Word} (hv : v.toNat < 4) (w : Word) : bits (feedCtrl v w).toNat 3 2 = bits w.toNat 3 2 := by
  refine Nat.eq_of_testBit_eq fun i => ?_
  rw [bits_testBit, bits_testBit, BitVec.testBit_toNat, BitVec.testBit_toNat]
  by_cases hi : i < 3 + 1 - 2
  · have hcmd : v.getLsbD (2 + i) = false :=
      Nat.testBit_lt_two_pow (Nat.lt_of_lt_of_le hv (Nat.pow_le_pow_right (n := 2) (by decide) (Nat.le_add_right 2 i)))
    have hbytes : (0xC#32).getLsbD (2 + i) = true := (by decide : ∀ k < 2, (0xC#32).getLsbD (2 + k) = true) i hi
    simp only [feedCtrl, BitVec.getLsbD_or, BitVec.getLsbD_and, hcmd, hbytes, Bool.false_or, Bool.and_true]
  · rw [decide_eq_false hi, Bool.false_and, Bool.false_and]

/-- `BYTES` of `FEED_CTRL` is written with the value it holds. -/
def State.bytesKept (s : State) (n : Nat) : State :=
  s.put (cvuPage n) F.CVU.FEED_CTRL_BYTES (bits (s.rd (cvuPage n + 0x138)).toNat 3 2)

/-- The owner's command in `FEED_CTRL` keeps `BYTES`; then `START` acts, and then `END`. -/
theorem State.MayWrite.cvuFeed {s : State} {r : Req} {n : Fin 16} (h : s.MayWrite r (cvuPage n.val + 0x138)) {v : Word}
    (hv : v.toNat < 4) :
    s.cvuFeed r n.val v
      = (let u := if bit v.toNat 0 then (s.bytesKept n.val).feedStart n.val else s.bytesKept n.val
         if bit v.toNat 1 then u.feedEnd r n.val else u) := by
  rw [← bit_feedCtrl v (s.rd (cvuPage n.val + 0x138)) (i := 0) (by decide),
    ← bit_feedCtrl v (s.rd (cvuPage n.val + 0x138)) (i := 1) (by decide), State.bytesKept,
    ← bytes_feedCtrl hv (s.rd (cvuPage n.val + 0x138))]
  exact h.cvuReg (by decide) (by decide) rfl rfl

theorem exec_cvuFeedStart {s : State} {r : Req} {n : Fin 16} (h : s.MayWrite r (cvuPage n.val + 0x138)) :
    exec (.cvuFeedStart r n) s = .next ((s.bytesKept n.val).feedStart n.val) :=
  congrArg Host.Outcome.next (h.cvuFeed (by decide))

theorem exec_cvuFeedEnd {s : State} {r : Req} {n : Fin 16} (h : s.MayWrite r (cvuPage n.val + 0x138)) :
    exec (.cvuFeedEnd r n) s = .next ((s.bytesKept n.val).feedEnd r n.val) :=
  congrArg Host.Outcome.next (h.cvuFeed (by decide))

/-! Streams (R183–R185) -/

section Stream
variable {s : State} {n : Nat}

theorem State.cvuAbort_of_closed (ho : (s.cvu n).isOpen = false) : s.cvuAbort n = s := if_neg (Bool.eq_false_iff.mp ho)

/-- Opening a stream leaves the unit's configuration as it is. -/
theorem State.cvFold_cvuOpen (s : State) (n : Nat) :
    (s.cvuOpen n).cvFold (cvuPage n + 0x100) = s.cvFold (cvuPage n + 0x100) :=
  congrArg (fun w : Word => bit w.toNat 21)
    (State.rd_put_other (s.setCvu n ⟨true, (s.cvCfg (cvuPage n + 0x100)).init, none⟩) (mt Nat.add_left_cancel (by decide)) 0)

/-- A `START` while no stream is open, in a unit that folds nothing, opens one and feeds it no byte. -/
theorem State.feedStart_of_closed (he : s.enabled (cvuPage n) = true) (hsrc : s.get (cvuPage n) F.CVU.SRC_CFG_SOURCE = 2)
    (ho : (s.cvu n).isOpen = false) (hfold : s.cvFold (cvuPage n + 0x100) = false) : s.feedStart n = s.cvuOpen n := by
  have hno : ¬(s.cvuOpen n).cvFold (cvuPage n + 0x100) = true := by
    rw [State.cvFold_cvuOpen, hfold]
    exact Bool.false_ne_true
  rw [State.feedStart, if_pos ⟨he, hsrc⟩, State.cvuAbort_of_closed ho]
  exact if_neg hno

theorem State.feedEnd_of_fed (hf : s.cvuFed n = true) (r : Req) :
    s.feedEnd r n = (s.cvuFinish n).inc (cvuPage n) F.CVU.FEED_SEQ := if_pos hf

/-- The registers in which an open stream's result stands: the value, the tick, and `DONE` without `ABORTED`. -/
def State.cvuResult (s : State) (n : Nat) : State :=
  (((((s.setCvu n CvuSt.idle).put (cvuPage n) F.HDR.STATUS_IDLE 1).put64 (cvuPage n) F.CVU.RESULT_LO
    (crcFinish (s.cvCfg (cvuPage n + 0x100)) (s.cvu n).reg)).put64 (cvuPage n) F.CVU.RESULT_TS_LO s.now).put (cvuPage n)
    F.CVU.RESULT_STATE_DONE 1).put (cvuPage n) F.CVU.RESULT_STATE_ABORTED 0

/-- A stream that finishes in a unit that compares nothing leaves its result and no mismatch, is counted, and sets `DONE` of
`INT_STATUS`. -/
theorem State.cvuFinish_of_no_compare (ho : (s.cvu n).isOpen = true) (hc : s.cvCompare (cvuPage n + 0x100) = false) :
    s.cvuFinish n
      = (((s.cvuResult n).put (cvuPage n) F.CVU.RESULT_STATE_MISMATCH 0).stat (cvuPage n) 0).intSet (cvuPage n) 1 := by
  rw [State.cvuFinish, if_pos ho]
  dsimp only
  rw [hc, Bool.false_and]
  rfl

end Stream

end Sys2Proof.Machine
end

section
/-! Settles the statement about fed streams. -/

namespace Sys2Proof.Machine

/-- Settles O25: a command is the owner's write of `FEED_DATA` or `FEED_CTRL`, and the stream goes by whether one is open. -/
theorem fedStreams : Obligations.FedStreams := by
  unfold Obligations.FedStreams
  refine ⟨?data, ?stray, ?ctrl, ?opens, ?ends, ?finishes⟩
  case data =>
    intro s r n v h hf
    exact congrArg Host.Outcome.next ((h.cvuFeedData v).trans (State.feedData_of_fed hf r v))
  case stray =>
    intro s r n v h hf
    exact congrArg Host.Outcome.next ((h.cvuFeedData v).trans (State.feedData_of_not_fed hf r v))
  case ctrl =>
    intro s r n h _ _
    exact ⟨exec_cvuFeedStart h, exec_cvuFeedEnd h⟩
  case opens =>
    intro s n he hsrc ho hfold
    exact State.feedStart_of_closed he hsrc ho hfold
  case ends =>
    intro s r n hf
    exact State.feedEnd_of_fed hf r
  case finishes =>
    intro s n ho hc
    exact State.cvuFinish_of_no_compare ho hc

end Sys2Proof.Machine
end

section
/-! SUPPORT. Jobs that the front end has fetched (R187–R189): one lemma per case of the operation's definition. -/

namespace Sys2Proof.Machine

/-- A job that ends with a status before it starts. -/
def State.jobFails (s : State) (id st : Nat) : State :=
  (s.jobStatus id st).modJob id (fun j => { j with phase := .done })

/-- What reads the memory of a job that has not started: the front end, through the ways in force. -/
def State.feReader (s : State) (id : Nat) (j : Job) : GReader := ⟨id, 0x58, j.tag, s.waysNow j.tag⟩

/-- A job's descriptor as the front end reads it. -/
def State.descRead (s : State) (id : Nat) (j : Job) : State × Nat := (s.feReader id j).rd s j.addr 128

/-- The state in which the job holds the descriptor that the front end has read. -/
def State.descHeld (s : State) (id : Nat) (j : Job) : State :=
  (s.descRead id j).1.modJob id (fun k => { k with d := BitVec.ofNat 1024 (s.descRead id j).2 })

/-- The pass descriptors that a job's descriptor names, as the front end reads them; a compute job has none. -/
def State.passesRead (s : State) (id : Nat) (j : Job) : State × List Nat :=
  (s.descHeld id j).readPasses (s.feReader id j) (byteF (s.descRead id j).2 16 5)
    (if byteF (s.descRead id j).2 1 1 = 0 then byteF (s.descRead id j).2 22 2 else 0)

/-- The status of the pass descriptors that have been read. -/
def State.passesJudged (s : State) (id : Nat) (j : Job) : Nat :=
  passesStatus (4096 <<< (s.passesRead id j).1.get tilerPage F.GTILER.TILER_CFG) none (s.passesRead id j).2

/-- A pass of which nothing has been binned, given out or stored. -/
def passUnbegun (p : Nat) : PassSt := ⟨BitVec.ofNat 2048 p, false, 0, 0, [], false, (passColours p).map (fun _ => [])⟩

section Fetched
variable {s : State} {id : Nat} {j : Job} (hj : s.job id = some j)
include hj

/-- The first fault of a fetched job ends it: in its descriptor, then in its passes. -/
theorem State.jobFetched_of_job :
    s.jobFetched id = if j.phase ≠ .fetch then s
      else if (s.descHeld id j).jobOk j.tag (s.descRead id j).2 = false then (s.descHeld id j).jobFails id 0x50
      else if s.passesJudged id j ≠ 0 then (s.passesRead id j).1.jobFails id (s.passesJudged id j)
      else (s.passesRead id j).1.modJob id (fun k => { k with
        phase := .waiting, passes := (s.passesRead id j).2.map passUnbegun }) := by
  rw [State.jobFetched, hj]
  rfl

theorem State.jobFetched_of_not_fetch (hp : j.phase ≠ .fetch) : s.jobFetched id = s := by
  rw [State.jobFetched_of_job hj, if_pos hp]

variable (hp : j.phase = .fetch)
include hp

theorem State.jobFetched_of_not_ok (hok : (s.descHeld id j).jobOk j.tag (s.descRead id j).2 = false) :
    s.jobFetched id = (s.descHeld id j).jobFails id 0x50 := by
  rw [State.jobFetched_of_job hj, if_neg (not_not_intro hp), if_pos hok]

variable (hok : (s.descHeld id j).jobOk j.tag (s.descRead id j).2 = true)
include hok

theorem State.jobFetched_of_bad_pass (hst : s.passesJudged id j ≠ 0) :
    s.jobFetched id = (s.passesRead id j).1.jobFails id (s.passesJudged id j) := by
  rw [State.jobFetched_of_job hj, if_neg (not_not_intro hp), if_neg (ne_false_of_eq_true hok), if_pos hst]

theorem State.jobFetched_of_good_passes (hst : s.passesJudged id j = 0) :
    s.jobFetched id = (s.passesRead id j).1.modJob id (fun k => { k with
      phase := .waiting, passes := (s.passesRead id j).2.map passUnbegun }) := by
  rw [State.jobFetched_of_job hj, if_neg (not_not_intro hp), if_neg (ne_false_of_eq_true hok),
    if_neg (not_not_intro hst)]

end Fetched

end Sys2Proof.Machine
end

section
/-! Settles the statement about fetched jobs. -/

namespace Sys2Proof.Machine

/-- Settles O26: a fetched job goes by its descriptor, and then by its passes. -/
theorem jobsAreFetched : Obligations.JobsAreFetched := by
  unfold Obligations.JobsAreFetched
  refine ⟨?fetched, ?other⟩
  case fetched =>
    intro s id j hj hp r u q st
    refine ⟨fun hok => ?notOk, fun hok hst => ?badPass, fun hok hst => ?waits⟩
    case notOk => exact congrArg Host.Outcome.next (State.jobFetched_of_not_ok hj hp hok)
    case badPass => exact congrArg Host.Outcome.next (State.jobFetched_of_bad_pass hj hp hok hst)
    case waits => exact congrArg Host.Outcome.next (State.jobFetched_of_good_passes hj hp hok hst)
  case other =>
    intro s id j hj hp
    exact congrArg Host.Outcome.next (State.jobFetched_of_not_fetch hj hp)

end Sys2Proof.Machine
end

section
/-! SUPPORT. Waiting jobs that become ready (R187, R195, R209, R211, R213, R219, R223): one lemma per case of the operation's
definition. -/

namespace Sys2Proof.Machine

/-- A job's wait fence is none, or has reached its value (R213). -/
def State.waitMet (s : State) (j : Job) : Prop :=
  j.f 24 2 = 0xFFFF ∨ j.f 28 8 ≤ (s.fence (j.f 24 2)).value.toNat

/-- The class with which a job starts: that of its descriptor, unless its head is not enabled (R213). -/
def State.startCls (s : State) (j : Job) : Nat :=
  if j.f 2 1 = 0 ∧ s.enabled (headPage (j.f 3 1)) = false then 1 else j.f 2 1

/-- The dispatch objects of a compute job, judged; a render job has none (R195). -/
def State.dispatchJudged (s : State) (id : Nat) (j : Job) : State × Nat :=
  if j.f 1 1 = 1 then objStatus (s.feReader id j) 2 (j.f 48 5) (j.f 64 5) (j.f 72 5) (j.f 8 5) (j.f 14 2) s else (s, 0)

/-- The L2 without the tenancy's clean lines, where a job asks for that (R209). -/
def State.cleanDropped (s : State) (j : Job) : State :=
  if bit (j.f 21 1) 0 then s.setL2 (s.gfx.l2.filter (fun x => !(x.tag == j.tag && !x.dirty))) else s

/-- A job as it starts: its class, order, ways and limits fixed, and a DEADLINE job's target with them (R213, R219). -/
def State.startedJob (s : State) (j : Job) (cls : Nat) : Job :=
  let k : Job := { j with
    phase := .ready, cls := cls, order := s.gfx.nextOrder, ways := s.waysNow j.tag,
    evalAt := s.now + s.get schedPage F.GSCHED.EVAL_INTERVAL, guard := s.get schedPage (F.GSCHED.GUARD.at (j.f 3 1)),
    margin := s.get schedPage F.GSCHED.MARGIN }
  if cls = 0 then s.jobTarget k (j.f 3 1) s.now else k

/-- A job starts with the next order, and keeps the status that it has. -/
def State.jobStarts (s : State) (id : Nat) (j : Job) (cls : Nat) : State :=
  (({ s with gfx := { s.gfx with nextOrder := s.gfx.nextOrder + 1 } } : State).modJob id
    (fun x => { s.startedJob j cls with status := x.status, berr := x.berr })).deadlineEval id

section Ready
variable {s : State} {id : Nat}

variable {j : Job}

theorem State.waitMet_iff :
    (j.f 24 2 == 0xFFFF || decide (j.f 28 8 ≤ (s.fence (j.f 24 2)).value.toNat)) = true ↔ s.waitMet j := by
  simp only [State.waitMet, Bool.or_eq_true, beq_iff_eq, decide_eq_true_eq]

/-- What holds a job back: its phase, its wait fence, a flush of the L2, and a front end that does not run. -/
theorem State.jobReady_of_held (hj : s.job id = some j)
    (hold : j.phase ≠ .waiting ∨ ¬s.waitMet j ∨ s.gfx.flushing = true ∨ s.feRuns = false) : s.jobReady id = s := by
  rw [State.jobReady, hj]
  exact if_pos (hold.imp_right (Or.imp_left fun hm => Bool.eq_false_iff.mpr (mt State.waitMet_iff.mp hm)))

theorem State.jobReady_of_flushing (hf : s.gfx.flushing = true) : s.jobReady id = s := by
  cases hj : s.job id with
  | none => rw [State.jobReady, hj]
  | some j => exact State.jobReady_of_held hj (.inr (.inr (.inl hf)))

variable (hj : s.job id = some j)
include hj

variable (hp : j.phase = .waiting) (hm : s.waitMet j) (hf : s.gfx.flushing = false) (hr : s.feRuns = true)
include hp hm hf hr

/-- A job that nothing holds back goes by its head, its tenancy's save area and its dispatch objects. -/
theorem State.jobReady_of_free :
    s.jobReady id = if j.f 2 1 = 0 ∧ s.part.heads ≤ j.f 3 1 then s.jobFails id 0x50
      else if s.startCls j ≠ 0 ∧ s.saveBase (j.tag - 0x10) = 0 then s.jobFails id 0x57
      else if (s.dispatchJudged id j).2 ≠ 0 then (s.dispatchJudged id j).1.jobFails id (s.dispatchJudged id j).2
      else ((s.dispatchJudged id j).1.jobStartApply.cleanDropped j).jobStarts id j (s.startCls j) := by
  have hgo : ¬(j.phase ≠ .waiting ∨ (j.f 24 2 == 0xFFFF || decide (j.f 28 8 ≤ (s.fence (j.f 24 2)).value.toNat)) = false
      ∨ s.gfx.flushing = true ∨ s.feRuns = false) := by
    simp [hp, State.waitMet_iff.mpr hm, hf, hr]
  rw [State.jobReady, hj]
  refine (if_neg hgo).trans (ite_congr rfl (fun _ => rfl) fun _ => ?_)
  extract_lets cls r t v u
  rw [show s.startCls j = cls from rfl, show s.dispatchJudged id j = r from rfl]
  refine ite_congr rfl (fun _ => rfl) fun _ => ite_congr rfl (fun _ => rfl) fun _ => ?_
  -- Each state that the start goes through is made opaque once it has its name: projections of it are then not evaluated.
  clear_value cls r
  rw [show r.1.jobStartApply = v from rfl]
  clear_value v
  rw [show v.cleanDropped j = u from rfl]
  clear_value u
  rfl

theorem State.jobReady_of_no_head (hh : j.f 2 1 = 0 ∧ s.part.heads ≤ j.f 3 1) : s.jobReady id = s.jobFails id 0x50 :=
  (State.jobReady_of_free hj hp hm hf hr).trans (if_pos hh)

variable (hh : ¬(j.f 2 1 = 0 ∧ s.part.heads ≤ j.f 3 1))
include hh

theorem State.jobReady_of_no_save_area (hc : s.startCls j ≠ 0) (hb : s.saveBase (j.tag - 0x10) = 0) :
    s.jobReady id = s.jobFails id 0x57 :=
  (State.jobReady_of_free hj hp hm hf hr).trans ((if_neg hh).trans (if_pos ⟨hc, hb⟩))

variable (hs : s.startCls j = 0 ∨ s.saveBase (j.tag - 0x10) ≠ 0)
include hs

/-- A job with a head and a save area, where it needs them, goes by its dispatch objects. -/
theorem State.jobReady_of_placed :
    s.jobReady id = if (s.dispatchJudged id j).2 ≠ 0 then (s.dispatchJudged id j).1.jobFails id (s.dispatchJudged id j).2
      else ((s.dispatchJudged id j).1.jobStartApply.cleanDropped j).jobStarts id j (s.startCls j) :=
  (State.jobReady_of_free hj hp hm hf hr).trans
    ((if_neg hh).trans (if_neg fun hno => hs.elim hno.1 (fun hb => hb hno.2)))

theorem State.jobReady_of_bad_objects (hst : (s.dispatchJudged id j).2 ≠ 0) :
    s.jobReady id = (s.dispatchJudged id j).1.jobFails id (s.dispatchJudged id j).2 :=
  (State.jobReady_of_placed hj hp hm hf hr hh hs).trans (if_pos hst)

theorem State.jobReady_of_good_objects (hst : (s.dispatchJudged id j).2 = 0) :
    s.jobReady id = ((s.dispatchJudged id j).1.jobStartApply.cleanDropped j).jobStarts id j (s.startCls j) :=
  (State.jobReady_of_placed hj hp hm hf hr hh hs).trans (if_neg (not_not_intro hst))

end Ready

end Sys2Proof.Machine
end

section
/-! Settles the statement about jobs that become ready. -/

namespace Sys2Proof.Machine

/-- Settles O27: a job that its fence, its phase or a flush holds back leaves the state; any other starts, or ends with the
status of the first thing that it lacks. -/
theorem jobsBecomeReady : Obligations.JobsBecomeReady := by
  unfold Obligations.JobsBecomeReady
  refine ⟨?fence, ?phase, ?flush, ?free⟩
  case fence =>
    intro s id j hj hw hlt
    have hm : ¬s.waitMet j := fun h => h.elim hw (Nat.not_le_of_lt hlt)
    exact congrArg Host.Outcome.next (State.jobReady_of_held hj (.inr (.inl hm)))
  case phase =>
    intro s id j hj hp
    exact congrArg Host.Outcome.next (State.jobReady_of_held hj (.inl hp))
  case flush =>
    intro s id hf
    exact congrArg Host.Outcome.next (State.jobReady_of_flushing hf)
  case free =>
    intro s id j hj hp hm hf hr ends cls r
    have hjudged : s.dispatchJudged id j = r := rfl
    generalize hv : r.1.jobStartApply = v
    intro u k m
    refine ⟨fun hc hh => ?noHead, fun hh hc hb => ?noSave, fun hh hs hst => ?badObjects, fun hh hs hst => ?starts⟩
    case noHead => exact congrArg Host.Outcome.next (State.jobReady_of_no_head hj hp hm hf hr ⟨hc, hh⟩)
    case noSave => exact congrArg Host.Outcome.next (State.jobReady_of_no_save_area hj hp hm hf hr hh hc hb)
    case badObjects => exact congrArg Host.Outcome.next (State.jobReady_of_bad_objects hj hp hm hf hr hh hs hst)
    case starts =>
      have hready := State.jobReady_of_good_objects hj hp hm hf hr hh hs hst
      rw [hjudged, hv, show v.cleanDropped j = u from rfl] at hready
      clear_value u
      exact congrArg Host.Outcome.next hready

end Sys2Proof.Machine
end

section
/-! SUPPORT. Cores that are given units (R197, R217, R484): one lemma per case of each operation. -/

namespace Sys2Proof.Machine

/-! Which core takes a unit of which job (R217) -/

section Dispatch
variable {s : State}

theorem State.dispatch_of_safe (hm : s.mode = .safe) : s.dispatch = s := if_pos hm

variable (hm : s.mode ≠ .safe)
include hm

/-- Without a free core or without a job that has a unit, the cores are only credited. -/
theorem State.dispatch_of_none (hn : (upto 0 24).find? s.gsettle.coreFree = none ∨ s.gsettle.nextJob = none) :
    s.dispatch = s.gsettle := by
  rw [State.dispatch, if_neg hm]
  dsimp only
  split
  case h_1 c j hc hj =>
    rcases hn with hn | hn
    · exact absurd (hn.symm.trans hc) (Option.some_ne_none c).symm
    · exact absurd (hn.symm.trans hj) (Option.some_ne_none j).symm
  case h_2 => rfl

/-- The core's page is at its apply point when the core takes a unit (R210). -/
theorem State.dispatch_of_core {c : Nat} {j : Job} (hc : (upto 0 24).find? s.gsettle.coreFree = some c)
    (hj : s.gsettle.nextJob = some j) (he : (s.gsettle.applyPoint (gcorePage c) s.gsettle.now 0).enabled (gcorePage c) = true) :
    s.dispatch = (s.gsettle.applyPoint (gcorePage c) s.gsettle.now 0).giveUnit c j := by
  rw [State.dispatch, if_neg hm]
  dsimp only
  rw [hc, hj]
  exact if_pos he

end Dispatch

/-! Which unit a core takes (R197) -/

section Unit
variable {s : State} {j : Job} (hs : s.savedOf j.id = none)
include hs

/-- A tile is loaded into the core that takes it, and the pass goes on with the next tile. -/
theorem State.giveUnit_of_tile {p i : Nat} (hu : j.nextUnit = some (.tile p i)) (c : Nat) :
    s.giveUnit c j = ((((s.setGcore c ⟨some (j.id, .tile p i), s.now, none, false, s.now, []⟩).put (gcorePage c)
      F.HDR.STATUS_IDLE 0).modJob j.id (fun j => { j with given := true })).modJob j.id (fun j => { j with
        passes := j.passes.modify p (fun q => { q with next := i + 1 }) })).tileLoad j.id c p i := by
  rw [State.giveUnit, hs, hu]

theorem State.giveUnit_of_group {i : Nat} (hu : j.nextUnit = some (.group i)) (c : Nat) :
    s.giveUnit c j = (((s.setGcore c ⟨some (j.id, .group i), s.now, none, false, s.now, []⟩).put (gcorePage c)
      F.HDR.STATUS_IDLE 0).modJob j.id (fun j => { j with given := true })).modJob j.id (fun j => { j with
        gNext := i + 1 }) := by
  rw [State.giveUnit, hs, hu]

end Unit

end Sys2Proof.Machine
end

section
/-! Settles the statement about cores that are given units. -/

namespace Sys2Proof.Machine

/-- Settles O28: a dispatch goes by the mode, by the first free core with the next job, and by that job's next unit. -/
theorem coresAreGivenUnits : Obligations.CoresAreGivenUnits := by
  unfold Obligations.CoresAreGivenUnits
  refine ⟨?safe, ?core, ?idle, ?tile, ?group⟩
  case safe =>
    intro s hm
    exact congrArg Host.Outcome.next (State.dispatch_of_safe hm)
  case core =>
    intro s c j hm hc hj he
    exact congrArg Host.Outcome.next (State.dispatch_of_core hm hc hj he)
  case idle =>
    intro s hm hn
    exact congrArg Host.Outcome.next (State.dispatch_of_none hm hn)
  case tile =>
    intro s c p i j hs hu
    exact State.giveUnit_of_tile hs hu c
  case group =>
    intro s c i j hs hu
    exact State.giveUnit_of_group hs hu c

end Sys2Proof.Machine
end

section
/-! SUPPORT. Draws and binning (R195, R197, R198): one lemma per case of each operation. -/

namespace Sys2Proof.Machine

/-- What reads the memory of a job that runs: the tiler, through the ways in force when the job started. -/
def Job.tilerReader (j : Job) (id : Nat) : GReader := ⟨id, 0x59, j.tag, j.ways⟩

/-- The next draw record of a pass, as the tiler reads it. -/
def State.drawRead (s : State) (id : Nat) (j : Job) (q : PassSt) : State × Nat :=
  (j.tilerReader id).rd s (byteF q.d.toNat 8 5 + 64 * q.draw) 64

/-- The judgement on the next draw of a pass. -/
def State.drawJudged (s : State) (id : Nat) (j : Job) (q : PassSt) : State × Nat :=
  drawStatus (j.tilerReader id) j (s.drawRead id j q).2 (s.drawRead id j q).1

/-- Pass `k` of a job goes on with the draw after this one. -/
def State.drawPassed (s : State) (id k : Nat) : State :=
  s.modJob id (fun j => { j with passes := j.passes.modify k (fun q => { q with draw := q.draw + 1 }) })

/-- The bytes of the samples of a pass's whole area (R198). -/
def spillNeed (p : Nat) : Nat := byteF p 4 2 * byteF p 6 2 * passSamples p * passSample p

/-- A pass has a spill buffer that holds the samples of its area. -/
def spillFits (p : Nat) : Prop := byteF p 32 5 ≠ 0 ∧ spillNeed p ≤ byteF p 40 4

/-- The samples of a pass's whole area before the flush. -/
def State.passInit (s : State) (j : Job) (q : PassSt) : State × List Byte :=
  s.areaInit j 0x59 q.d.toNat q.flushed (0, 0, byteF q.d.toNat 4 2, byteF q.d.toNat 6 2)

/-- Pass `k` of a job has stored the samples `d` in its spill buffer at `a` and counts the flush. -/
def State.spilled (s : State) (id : Nat) (j : Job) (k a : Nat) (d : List Byte) : State :=
  ((s.gwrite id 0x59 j.tag j.ways false (d.length / 64 + 2) a d).modJob id (fun j => { j with
    passes := j.passes.modify k (fun q => { q with flushed := true }) })).stat tilerPage 1

/-- A job whose pass `k` has overflowed the bin heap keeps the passes before it, and ends once they are done. -/
def State.binOverflows (s : State) (id k : Nat) : State :=
  ((s.jobStatus id 0x53).stat tilerPage 2).modJob id (fun x => { x with
    passes := x.passes.take k, phase := if x.passDone = k then .done else x.phase })

section Binning
variable {s : State} {id k : Nat} {j : Job} {q : PassSt} (hj : s.job id = some j) (hp : j.phase = .ready)
  (hb : j.binning = some (k, q))
include hj hp hb

/-- The tiler passes over a draw that it has fetched, and counts the primitives of a valid one. -/
theorem State.drawNext_of_more (hd : q.draw < byteF q.d.toNat 16 4) (n : Nat) :
    s.drawNext id n = if (s.drawJudged id j q).2 ≠ 0
      then (((s.drawJudged id j q).1.drawPassed id k).jobStatus id (s.drawJudged id j q).2).stat fePage 2
      else ((s.drawJudged id j q).1.drawPassed id k).stat tilerPage 0 n := by
  rw [State.drawNext, hj]
  dsimp only
  rw [hp, hb]
  exact if_pos hd

theorem State.drawNext_of_invalid (hd : q.draw < byteF q.d.toNat 16 4) (hv : (s.drawJudged id j q).2 ≠ 0) (n : Nat) :
    s.drawNext id n = (((s.drawJudged id j q).1.drawPassed id k).jobStatus id (s.drawJudged id j q).2).stat fePage 2 :=
  (State.drawNext_of_more hj hp hb hd n).trans (if_pos hv)

theorem State.drawNext_of_valid (hd : q.draw < byteF q.d.toNat 16 4) (hv : (s.drawJudged id j q).2 = 0) (n : Nat) :
    s.drawNext id n = ((s.drawJudged id j q).1.drawPassed id k).stat tilerPage 0 n :=
  (State.drawNext_of_more hj hp hb hd n).trans (if_neg (not_not_intro hv))

theorem State.passBinned_of_fetched (hd : q.draw = byteF q.d.toNat 16 4) :
    s.passBinned id = s.modJob id (fun j => { j with
      passes := j.passes.modify k (fun q => { q with binned := true }) }) := by
  rw [State.passBinned, hj]
  dsimp only
  rw [hp, hb]
  exact if_pos hd

theorem State.binFull_of_fits (hf : spillFits q.d.toNat) (px : List (Option Byte)) :
    s.binFull id px = (s.passInit j q).1.spilled id j k (byteF q.d.toNat 32 5) (overlay (s.passInit j q).2 px) := by
  rw [State.binFull, hj]
  dsimp only
  rw [hp, hb]
  exact if_pos hf

theorem State.binFull_of_not_fits (hf : ¬spillFits q.d.toNat) (px : List (Option Byte)) :
    s.binFull id px = s.binOverflows id k := by
  rw [State.binFull, hj]
  dsimp only
  rw [hp, hb]
  exact if_neg hf

end Binning

end Sys2Proof.Machine
end

section
/-! Settles the statement about binning. -/

namespace Sys2Proof.Machine

/-- Settles O29: a draw goes by its judgement, a pass by its count of draws, and an exhausted heap by the spill buffer. -/
theorem binning : Obligations.Binning := by
  unfold Obligations.Binning
  refine ⟨?draw, ?binned, ?heap⟩
  case draw =>
    intro s id n k j q hj hp hb hd r v u
    refine ⟨fun hv => ?invalid, fun hv => ?valid⟩
    case invalid => exact congrArg Host.Outcome.next (State.drawNext_of_invalid hj hp hb hd hv n)
    case valid => exact congrArg Host.Outcome.next (State.drawNext_of_valid hj hp hb hd hv n)
  case binned =>
    intro s id k j q hj hp hb hd
    exact congrArg Host.Outcome.next (State.passBinned_of_fetched hj hp hb hd)
  case heap =>
    intro s id k j q px hj hp hb p need a
    refine ⟨fun hno => ?ends, fun hbuf hneed => ?flushes⟩
    case ends =>
      have hf : ¬spillFits p := fun h => hno.elim h.1 (Nat.not_lt_of_le h.2)
      exact congrArg Host.Outcome.next (State.binFull_of_not_fits hj hp hb hf px)
    case flushes => exact congrArg Host.Outcome.next (State.binFull_of_fits hj hp hb ⟨hbuf, hneed⟩ px)

end Sys2Proof.Machine
end

section
/-! SUPPORT. Tiles that are resolved and workgroups that are retired (R189, R197, R200): one lemma per case of each
operation. -/

namespace Sys2Proof.Machine

/-! One attachment of a tile (R200; log 29: each attachment goes by its own signature) -/

/-- What the signature buffer holds for tile `i` of attachment `k`: whether it could be read, and the signature. -/
def State.sigRead (s : State) (j : Job) (c d i k : Nat) : State × Bool × Nat :=
  s.greadN j.id (0x40 + c) j.tag j.ways (bit (attF d k 29 1) 7) (attF d k 24 5 + 8 * i) 8

/-- An attachment of a tile is stored, and then its signature. -/
def State.storeSigned (s : State) (j : Job) (c d i k : Nat) (px : List Byte) (sig : Nat) : State :=
  (s.tileStore j c d i k px).gwrite j.id (0x40 + c) j.tag j.ways (bit (attF d k 29 1) 7) 3 (attF d k 24 5 + 8 * i)
    (natBytes 8 sig)

section Signature
variable {s : State} {d k : Nat} (hk : k ≠ 4) (hen : bit (attF d k 9 1) 0 = true) (hreset : bit (attF d k 9 1) 1 = false)
  (hst : attF d k 8 1 = 0) (hcfg : s.flag sigPage F.GSIG.SIG_CFG = true)
include hk hen hreset hst hcfg

/-- A stored attachment whose signatures are compared goes by the signature that the buffer holds; the comparison is
counted. -/
theorem State.tileAtt_of_sig (j : Job) (c i : Nat) (px : List Byte) :
    s.tileAtt j c d i k false px
      = (let sig := tileSig (i % passCols d) (i / passCols d) k (attF d k 6 1) px
         let r := s.sigRead j c d i k
         if r.2.1 = true ∧ r.2.2 = sig then (((r.1.stat sigPage 0).stat sigPage 1).stat64 sigPage 2 px.length, false)
         else ((r.1.stat sigPage 0).storeSigned j c d i k px sig, true)) := by
  have hne : (k != 4) = true := bne_iff_ne.mpr hk
  have hstore : (attF d k 8 1 == 0) = true := beq_iff_eq.mpr hst
  simp only [State.tileAtt, hne, hen, hreset, hstore, hcfg, Bool.not_false, Bool.and_true, Bool.true_and, if_true,
    Bool.and_eq_true, beq_iff_eq]
  exact ite_congr rfl (fun _ => rfl) fun _ => rfl

theorem State.tileAtt_of_same {j : Job} {c i : Nat} {px : List Byte} (hread : (s.sigRead j c d i k).2.1 = true)
    (hsig : (s.sigRead j c d i k).2.2 = tileSig (i % passCols d) (i / passCols d) k (attF d k 6 1) px) :
    s.tileAtt j c d i k false px
      = (((((s.sigRead j c d i k).1.stat sigPage 0).stat sigPage 1).stat64 sigPage 2 px.length), false) :=
  (State.tileAtt_of_sig hk hen hreset hst hcfg j c i px).trans (if_pos ⟨hread, hsig⟩)

theorem State.tileAtt_of_changed {j : Job} {c i : Nat} {px : List Byte}
    (hsig : (s.sigRead j c d i k).2.2 ≠ tileSig (i % passCols d) (i / passCols d) k (attF d k 6 1) px) :
    s.tileAtt j c d i k false px
      = (((s.sigRead j c d i k).1.stat sigPage 0).storeSigned j c d i k px
          (tileSig (i % passCols d) (i / passCols d) k (attF d k 6 1) px), true) :=
  (State.tileAtt_of_sig hk hen hreset hst hcfg j c i px).trans (if_neg fun h => hsig h.2)

end Signature

/-! Cores without a unit -/

section NoUnit
variable {s : State} {c : Nat} (hu : (s.gcore c).unit = none)
include hu

theorem State.tileResolve_of_no_unit (px : List (Option Byte)) (f : Nat) (acts : List ShAct) :
    s.tileResolve c px f acts = s := by
  rw [State.tileResolve, hu]

theorem State.groupRetired_of_no_unit (acts : List ShAct) : s.groupRetired c acts = s := by
  rw [State.groupRetired, hu]

end NoUnit

/-! A workgroup (R189) -/

/-- A job has one more workgroup done, and has done its work with the last one. -/
def Job.groupDone (j : Job) : Job :=
  { j with gDone := j.gDone + 1, phase := if j.gDone + 1 = j.groups then .done else j.phase }

/-- A core has made the accesses of a workgroup's shaders, whose samples are counted, and is free. -/
def State.groupLeft (s : State) (j : Job) (c : Nat) (acts : List ShAct) : State :=
  ((s.shActs j c acts).stat64 countPage 4 (sampleCount acts)).gcoreFree c

theorem State.groupRetired_of_group {s : State} {c id k : Nat} {j : Job} (hu : (s.gcore c).unit = some (id, .group k))
    (hj : s.job id = some j) (acts : List ShAct) :
    s.groupRetired c acts = (((s.groupLeft j c acts).modJob id Job.groupDone).coreStops c).deadlineEval id := by
  rw [State.groupRetired, hu]
  dsimp only
  rw [hj]
  rfl

/-! A tile (R197, R200; log 245: a tile counts once, whatever its attachments) -/

/-- A core has made the accesses of its tile's shaders, and is free; a store in spite of a request to leave is counted. -/
def State.tileLeft (s : State) (j : Job) (c : Nat) (acts : List ShAct) : State :=
  (if ((s.shActs j c acts).gcore c).preempt.isSome then (s.shActs j c acts).stat schedPage 3
    else s.shActs j c acts).gcoreFree c

/-- The attachments of a tile in order, and those of them that are written. -/
def State.tileWritten (s : State) (j : Job) (c : Nat) (q : PassSt) (i : Nat) (px : List Byte) : State × List Nat :=
  s.tileAtts j c q.d.toNat i q.flushed px (passAtts q.d.toNat) 0

/-- A resolved tile is counted: as written when an attachment is, with its fragments and samples. -/
def State.tileCounted (s : State) (c : Nat) (w : List Nat) (f : Nat) (acts : List ShAct) : State :=
  (((if w.isEmpty then s else s.stat countPage 0).stat64 countPage 2 f).stat64 countPage 4 (sampleCount acts)).stat
    (gcorePage c) 0

/-- A pass has stored tile `i`, of which the attachments `w` are written. -/
def PassSt.tileStored (q : PassSt) (i : Nat) (w : List Nat) : PassSt :=
  { q with
    stored := q.stored ++ [i]
    written := (upto 0 q.written.length).map (fun k =>
      if w.contains k then q.written.getD k [] ++ [i] else q.written.getD k []) }

/-- Pass `p` of a job, whose descriptor is `d`, has stored tile `i`, of which the attachments `w` are written. -/
def Job.tileStored (j : Job) (d p i : Nat) (w : List Nat) : Job :=
  { j with
    wrote := j.wrote + b2n (!w.isEmpty)
    skipped := j.skipped + b2n (w.isEmpty && (passColours d).any (fun k => attF d k 8 1 == 0 && !w.contains k))
    passes := j.passes.modify p (fun q => q.tileStored i ((passColours d).filter (fun k => w.contains k))) }

/-- The state in which a core's tile has been stored and its job knows it. -/
def State.tileResolved (s : State) (id : Nat) (j : Job) (c p i : Nat) (q : PassSt) (px : List Byte) (f : Nat)
    (acts : List ShAct) : State :=
  let r := (s.tileLeft j c acts).tileWritten j c q i px
  (r.1.tileCounted c r.2 f acts).modJob id (fun j => j.tileStored q.d.toNat p i r.2)

/-- A pass ends with its last tile; then the core may stop, and the job's deadline is evaluated. -/
theorem State.tileResolve_of_tile {s : State} {c id p i : Nat} {j : Job} {q x : PassSt}
    (hu : (s.gcore c).unit = some (id, .tile p i)) (hj : s.job id = some j) (hq : j.passes[p]? = some q)
    (hm : s.mayStore c = true) {px : List (Option Byte)} {f : Nat} {acts : List ShAct} {t : State}
    (ht : t = s.tileResolved id j c p i q (overlay (s.gcore c).tile px) f acts)
    (hx : (t.job id).bind (fun j => j.passes[p]?) = some x) :
    s.tileResolve c px f acts
      = ((if x.stored.length = passTiles q.d.toNat then t.passEnd id p else t).coreStops c).deadlineEval id := by
  rw [State.tileResolve, hu]
  dsimp -zeta only
  rw [hj]
  dsimp -zeta only
  rw [hq]
  dsimp -zeta only
  rw [if_neg (ne_false_of_eq_true hm)]
  extract_lets d drawn a pre b e r col skip v u full w
  have hut : u = t := ht.symm
  have hfull : full = (x.stored.length == passTiles d) := by simp only [full, hut, hx]
  have hw : w = if x.stored.length = passTiles d then t.passEnd id p else t := by
    simp only [w, hfull, hut, beq_iff_eq]
  rw [hw]

end Sys2Proof.Machine
end

section
/-! Settles the statement about tiles and workgroups. -/

namespace Sys2Proof.Machine

/-- Settles O30: an attachment goes by its signature, and a core by the unit that it has. -/
theorem tilesAndWorkgroups : Obligations.TilesAndWorkgroups := by
  unfold Obligations.TilesAndWorkgroups
  refine ⟨?att, ?noUnit, ?group, ?tile⟩
  case att =>
    intro s j c d i k px hk hen hreset hst hcfg sig r
    refine ⟨fun hread hsig => ?same, fun _ hsig => ?changed⟩
    case same => exact State.tileAtt_of_same hk hen hreset hst hcfg hread hsig
    case changed => exact State.tileAtt_of_changed hk hen hreset hst hcfg hsig
  case noUnit =>
    intro s c px f acts hu
    exact ⟨congrArg Host.Outcome.next (State.tileResolve_of_no_unit hu px f acts),
      congrArg Host.Outcome.next (State.groupRetired_of_no_unit hu acts)⟩
  case group =>
    intro s c id k acts j hu hj u
    exact congrArg Host.Outcome.next (State.groupRetired_of_group hu hj acts)
  case tile =>
    intro s c px f id p i acts j q hu hj hq hm d a b r col skip u x hx
    exact congrArg Host.Outcome.next (State.tileResolve_of_tile hu hj hq hm (t := u) rfl hx)

end Sys2Proof.Machine
end

section
/-! SUPPORT. The end of a job (R189): one lemma per case of the operation's definition. -/

namespace Sys2Proof.Machine

/-- A job's lines have been written back to memory; they stay in the L2. -/
def State.jobWrittenBack (s : State) (id : Nat) (j : Job) : State := s.gsettle.l2Tag id j.tag false

/-- The job record has been written to the tenancy's journal. -/
def State.jobRecorded (s : State) (j : Job) : State :=
  s.jrecTo j.tag 0x0008 fePage s.now (jpay [(16, 5, j.addr), (21, 1, j.status), (22, 2, j.passDone), (24, 4, j.wrote),
    (28, 4, j.skipped)])

/-- The job's fence takes its value, when there is one and the job's tenancy still owns it. -/
def State.jobSignalled (s : State) (j : Job) : State :=
  if j.f 26 2 < 4096 ∧ s.fenceOwner (j.f 26 2) = j.tag then s.signal (j.f 26 2) (j.f 36 8) else s

/-- An ended job is counted, one with a status and one of class DEADLINE apart. -/
def State.jobCounted (s : State) (j : Job) : State :=
  let c := s.stat fePage 0
  let e := if j.status ≠ 0 then c.stat fePage 1 else c
  if j.cls = 0 then e.stat schedPage 0 else e

/-- The engine holds neither the job nor its saved contexts. -/
def State.jobRemoved (s : State) (id : Nat) : State :=
  { s with gfx := { s.gfx with
    jobs := s.gfx.jobs.filter (fun k => k.id != id), saved := s.gfx.saved.filter (fun x => x.job != id) } }

section End
variable {s : State} {id : Nat} {j₀ : Job} (hj₀ : s.job id = some j₀)
include hj₀

theorem State.jobEnd_of_not_done (hp : j₀.phase ≠ .done) : s.jobEnd id = s := by
  rw [State.jobEnd, hj₀]
  exact if_pos hp

/-- A job that has done its work goes as its lines' writeback leaves it: a failed writeback gives it a status. -/
theorem State.jobEnd_of_done (hp : j₀.phase = .done) {j : Job} (hj : (s.jobWrittenBack id j₀).job id = some j) :
    s.jobEnd id = ((((((((s.jobWrittenBack id j₀).jobRecorded j).jobSignalled j).descEnd j.ring j.num
      j.status).costUpdate j).jobCounted j).jobRemoved id).maskEnd j.tag).gfxIdle := by
  rw [State.jobEnd, hj₀]
  dsimp -zeta only
  rw [if_neg (not_not_intro hp)]
  extract_lets u
  rw [show s.jobWrittenBack id j₀ = u from rfl] at hj ⊢
  rw [hj]
  dsimp -zeta only
  extract_lets a f own b c d e v
  have hb : b = a.jobSignalled j := by
    simp only [b, own, State.jobSignalled, Bool.and_eq_true, decide_eq_true_eq, beq_iff_eq]
    rfl
  rw [show u.jobRecorded j = a from rfl, ← hb,
    show ((b.descEnd j.ring j.num j.status).costUpdate j).jobCounted j = v from rfl]
  clear_value v
  rfl

end End

end Sys2Proof.Machine
end

section
/-! Settles the statement about jobs that end. -/

namespace Sys2Proof.Machine

/-- Settles O31: a job with work left is left alone; any other takes the steps of its end in their order. -/
theorem jobsEnd : Obligations.JobsEnd := by
  unfold Obligations.JobsEnd
  refine ⟨?left, ?ends⟩
  case left =>
    intro s id j hj hp
    exact congrArg Host.Outcome.next (State.jobEnd_of_not_done hj hp)
  case ends =>
    intro s id j₀ j hj₀ hp hj u a b c e v
    exact congrArg Host.Outcome.next (State.jobEnd_of_done hj₀ hp hj)

end Sys2Proof.Machine
end

section
/-! SUPPORT. Restarts of a touch panel and the slots of its link (R232, R233, R239, R240): one lemma per operation and case of
its definition. -/

namespace Sys2Proof.Machine

/-! Each command runs one operation on its panel -/

theorem exec_touchRestart (p : Fin 4) (rsps : List (List Byte)) (s : State) :
    exec (.touchRestart p rsps) s = .next (s.restartRun p.val rsps) := rfl

theorem exec_touchRestartRetry (p : Fin 4) (s : State) :
    exec (.touchRestartRetry p) s = .next (s.restartRetry p.val) := rfl

theorem exec_touchSlot (p : Fin 4) (rsp : List Byte) (s : State) :
    exec (.touchSlot p rsp) s = .next (s.touchSlot p.val rsp) := rfl

theorem exec_touchFrameProcessed (p : Fin 4) (s : State) :
    exec (.touchFrameProcessed p) s = .next (s.frameProcessed p.val) := rfl

theorem exec_touchFrameStart (p : Fin 4) (s : State) : exec (.touchFrameStart p) s = .next (s.frameStart p.val) := rfl

theorem exec_touchDozeKeepalive (p : Fin 4) (rsp : List Byte) (s : State) :
    exec (.touchDozeKeepalive p rsp) s = .next (s.keepalive p.val rsp) := rfl

/-! The start of a restart (R239, R240) -/

section Restart
variable {s : State} {p : Nat}

theorem State.restartRun_of_due {t : Nat} (hdue : (s.panel p).startAt = some t) (rsps : List (List Byte)) :
    s.restartRun p rsps = forL (fun r s => s.restartSlot p r) rsps ((s.waitTo t).panelRestart p (max t s.now) false) := by
  rw [State.restartRun, hdue]

theorem State.restartRun_of_not_due (hdue : (s.panel p).startAt = none) (rsps : List (List Byte)) :
    s.restartRun p rsps = forL (fun r s => s.restartSlot p r) rsps s := by
  rw [State.restartRun, hdue]

theorem State.restartRetry_of_due {t : Nat} (hdue : (s.panel p).retryAt = some t) :
    s.restartRetry p = (s.waitTo t).panelRestart p (max t s.now) true := by
  rw [State.restartRetry, hdue]

theorem State.restartRetry_of_not_due (hdue : (s.panel p).retryAt = none) : s.restartRetry p = s := by
  rw [State.restartRetry, hdue]

end Restart

/-- A panel beside its registers as a restart leaves it: slot 0 of tick `t` is next, and nothing else is due. -/
def PanelSt.restarting (x : PanelSt) (t : Nat) (retry : Bool) : PanelSt :=
  { x with startAt := none, retryAt := none, nextAt := none, frame := none, rst := some (t, 0, retry) }

theorem State.panelRestart_eq (s : State) (p t : Nat) (retry : Bool) :
    s.panelRestart p t retry = ((((s.setPanelState p 1).put (panelPage p) F.PANEL.PANEL_CMD_RESTART 0).put (panelPage p)
      F.PANEL.PANEL_STATE_DUAL 0).setPanel p ((s.panel p).restarting t retry)).stat (panelPage p) 8 := rfl

/-! The slots of a restart (R239) -/

/-- The state in slot `k` of a restart once its response is read: it is the slot's tick, and the next slot is counted. -/
def State.restartSlotRead (s : State) (p t0 k : Nat) (retry : Bool) (rsp : List Byte) : State :=
  ((s.waitTo (t0 + k * s.pf p F.PANEL.STEP_CFG_STEP_TICKS)).tchRead p rsp).1.modPanel p
    (fun x => { x with rst := some (t0, k + 1, retry) })

section RestartSlot
variable {s : State} {p t0 : Nat} {retry : Bool} (rsp : List Byte)

theorem State.restartSlot_hello (hrst : (s.panel p).rst = some (t0, 0, retry)) :
    s.restartSlot p rsp = (s.restartSlotRead p t0 0 retry rsp).tchSend p
      (1, (s.restartSlotRead p t0 0 retry rsp).helloPay p) rsp := by
  rw [State.restartSlot, hrst]
  rfl

/-- A slot without a special packet: slot 2 sends CONFIG and slot 4 ends the restart. -/
theorem State.restartSlot_idle {k : Nat} (hrst : (s.panel p).rst = some (t0, k, retry)) (h0 : k ≠ 0) (h2 : k ≠ 2)
    (h4 : k ≠ 4) : s.restartSlot p rsp = (s.restartSlotRead p t0 k retry rsp).tchSend p (idleReq 0) rsp := by
  rw [State.restartSlot, hrst]
  dsimp only
  split
  · exact absurd rfl h0
  · exact absurd rfl h2
  · exact absurd rfl h4
  · rfl

end RestartSlot

/-! A slot of the link belongs to the restart, where one runs, or else to the frame -/

theorem State.touchSlot_of_restart {s : State} {p : Nat} (hst : s.panelState p = 1) (rsp : List Byte) :
    s.touchSlot p rsp = s.restartSlot p rsp := if_pos hst

theorem State.touchSlot_of_frame {s : State} {p : Nat} (hst : s.panelState p ≠ 1) (rsp : List Byte) :
    s.touchSlot p rsp = s.frameSlot p rsp := if_neg hst

/-! The slots of a frame (R232, R243, R260) -/

/-- The state on the tick of a frame's next slot: slot 0, the second, marks the boundary of the panel's period, and counts the
frame. -/
def State.frameSlotBegun (s : State) (p : Nat) (f : TFrame) : State :=
  let a := s.waitTo (f.t0 + f.next * f.step)
  if f.next = 1 then ((a.sourceAt (10 + p) (f.t0 + f.step)).put (panelPage p) F.PANEL.FRAME_SEQ f.seq).stat (panelPage p)
    (if a.panelState p = 4 then 1 else 0) else a

/-- The request that leaves in a frame's next slot. -/
def State.frameRequest (s : State) (p : Nat) (f : TFrame) : Nat × List Byte :=
  if f.next < f.n then s.stepReq p f f.next (b2n (f.next == 0)) else idleReq 0

/-- The payload of an answer; empty without one. -/
def TAns.payload : TAns → List Byte
  | .ok _ d => d
  | _ => []

/-- A frame after its next slot has brought an answer: the first two slots answer none of its requests. -/
def TFrame.answered (f : TFrame) (ans : TAns) : TFrame :=
  { f with
    next := f.next + 1
    bad := f.bad || ans == .error
    ys := if f.next < 2 then f.ys else f.ys ++ [ans.payload] }

theorem State.frameSlot_of_open {s : State} {p : Nat} {f : TFrame} (hf : (s.panel p).frame = some f)
    (hopen : f.next < f.n + 2) (rsp : List Byte) {r : State × TAns}
    (hr : r = (s.frameSlotBegun p f).transact p ((s.frameSlotBegun p f).frameRequest p f) rsp) :
    s.frameSlot p rsp = r.1.modPanel p (fun x => { x with frame := some (f.answered r.2) }) := by
  subst hr
  rw [State.frameSlot, hf]
  exact if_neg (Nat.not_le.mpr hopen)

end Sys2Proof.Machine
end

section
/-! Settles the statement about restarts of touch panels. -/

namespace Sys2Proof.Machine

/-- Settles O34: each clause is the case of the restart, of its retry or of the slot that its hypotheses name. -/
theorem touchRestarts : Obligations.TouchRestarts := by
  unfold Obligations.TouchRestarts
  refine ⟨?due, ?notDue, ?retryDue, ?retryNotDue, ?hello, ?idle, ?slot, ?frame, ?restart⟩
  case due =>
    intro s p t hdue rsps
    rw [exec_touchRestart, State.restartRun_of_due hdue]
  case notDue =>
    intro s p rsps hdue
    rw [exec_touchRestart, State.restartRun_of_not_due hdue]
  case retryDue =>
    intro s p t hdue
    rw [exec_touchRestartRetry, State.restartRetry_of_due hdue]
  case retryNotDue =>
    intro s p hdue
    rw [exec_touchRestartRetry, State.restartRetry_of_not_due hdue]
  case hello =>
    intro s p rsp t0 retry hst hrst
    rw [exec_touchSlot, State.touchSlot_of_restart hst, State.restartSlot_hello rsp hrst]
    rfl
  case idle =>
    intro s p rsp t0 k retry hst hrst h0 h2 h4
    rw [exec_touchSlot, State.touchSlot_of_restart hst, State.restartSlot_idle rsp hrst h0 h2 h4]
    rfl
  case slot =>
    intro s p rsp hst
    rw [exec_touchSlot, State.touchSlot_of_restart hst]
  case frame =>
    intro s p rsp f hst hf hopen a b q
    refine ⟨_, f.answered (b.transact p.val q rsp).2, rfl, ?_, rfl, rfl, rfl, rfl⟩
    rw [exec_touchSlot, State.touchSlot_of_frame hst, State.frameSlot_of_open hf hopen rsp rfl]
    rfl
  case restart =>
    intro s p t retry
    exact ⟨(s.panel p).restarting t retry, s.panelRestart_eq p t retry, rfl, rfl, rfl, rfl⟩

end Sys2Proof.Machine
end

section
/-! SUPPORT. Writes of `PANEL_CMD` (R268). -/

namespace Sys2Proof.Machine

/-! The pages of the panels (R268) -/

section Page
variable (p : Fin 4)

/-- The page number of a panel. -/
def panelNo : PageNo := BitVec.ofNat 12 (16 * 0x28 + 1 + p.val)

theorem pageBase_panelNo : pageBase (panelNo p) = panelPage p.val := by
  revert p
  decide

theorem pnoOf_panelPage : pnoOf (panelPage p.val) - 1 = p.val := by
  revert p
  decide

theorem pinfoAt_panelPage :
    pinfoAt (panelPage p.val) = some (pinfo .panel 0x0281 p.val 0 0 false (10 + p.val) false .touchFrame) := by
  revert p
  decide

theorem panelPage_not_ownRule : panelPage p.val ∉ ownRulePages := by
  revert p
  decide

end Page

/-- The owner's write of `PANEL_CMD` runs the panel's own command. -/
theorem State.MayWrite.panelCmd {s : State} {r : Req} {p : Fin 4} (h : s.MayWrite r (panelPage p.val + 0x1A0)) (v : Word) :
    s.cmdWrite r (panelPage p.val + 0x1A0) v = s.panelCmd p.val v := by
  have hpage : pageOf (panelPage p.val + 0x1A0) = panelPage p.val :=
    pageBase_panelNo p ▸ pageOf_pageBase_add (p := panelNo p) (by decide)
  have hoff : offOf (panelPage p.val + 0x1A0) = 0x1A0 :=
    pageBase_panelNo p ▸ offOf_pageBase_add (p := panelNo p) (by decide)
  have hi : pinfoAt (panelPage p.val + 0x1A0) = some (pinfo .panel 0x0281 p.val 0 0 false (10 + p.val) false .touchFrame) :=
    (pageBase_panelNo p ▸ pinfoAt_pageBase_add (panelNo p) (by decide)).trans (pinfoAt_panelPage p)
  refine h.cmdWrite_kind hi (hoff.symm ▸ rfl) (hoff.symm ▸ by decide) (hpage.symm ▸ panelPage_not_ownRule p) ?_
  rw [hpage, hoff]
  change some (s.panelCmd (pnoOf (panelPage p.val) - 1) v) = _
  rw [pnoOf_panelPage]

theorem exec_touchPanelRestart {s : State} {r : Req} {p : Fin 4} (h : s.MayWrite r (panelPage p.val + 0x1A0)) :
    exec (.touchPanelRestart r p) s = .next (s.panelCmd p.val 1) := congrArg Host.Outcome.next (h.panelCmd 1)

theorem exec_touchReacquire {s : State} {r : Req} {p : Fin 4} (h : s.MayWrite r (panelPage p.val + 0x1A0)) :
    exec (.touchReacquire r p) s = .next (s.panelCmd p.val 2) := congrArg Host.Outcome.next (h.panelCmd 2)

theorem exec_touchDozeCmd {s : State} {r : Req} {p : Fin 4} (h : s.MayWrite r (panelPage p.val + 0x1A0)) :
    exec (.touchDozeCmd r p) s = .next (s.panelCmd p.val 4) := congrArg Host.Outcome.next (h.panelCmd 4)

/-- The state in which the bits `v` of `PANEL_CMD` stand beside those already there. -/
def State.panelAsked (s : State) (p : Nat) (v : Word) : State :=
  s.wr (panelPage p + 0x1A0) (s.rd (panelPage p + 0x1A0) ||| (v &&& 7))

section Cmd
variable {s : State} {p : Nat} {v : Word}

theorem State.panelCmd_of_no_restart (hv : bit v.toNat 0 = false) : s.panelCmd p v = s.panelAsked p v :=
  if_neg (fun h => Bool.false_ne_true (hv.symm.trans h.1))

theorem State.panelCmd_of_not_down (hst : (s.panelAsked p v).panelState p ≠ 5) : s.panelCmd p v = s.panelAsked p v :=
  if_neg (fun h => hst h.2)

theorem State.panelCmd_restart_of_down (hv : bit v.toNat 0 = true) (hst : (s.panelAsked p v).panelState p = 5) :
    s.panelCmd p v = (s.panelAsked p v).panelRestart p (s.panelAsked p v).now false := if_pos ⟨hv, hst⟩

end Cmd

end Sys2Proof.Machine
end

section
/-! Settles the statement about commands to touch panels. -/

namespace Sys2Proof.Machine

/-- Settles O35: a command is the owner's write of `PANEL_CMD`. Its bit waits there; only a restart asked for in DOWN begins at
once, which is entry 126 of the log and not R268's. -/
theorem panelCommands : Obligations.PanelCommands := by
  unfold Obligations.PanelCommands
  intro s r p h cmd
  refine ⟨?waits, ?down, ?reacquire, ?doze⟩
  case waits =>
    intro hst
    rw [exec_touchPanelRestart h, State.panelCmd_of_not_down hst]
    rfl
  case down =>
    intro hst
    rw [exec_touchPanelRestart h, State.panelCmd_restart_of_down (by decide) hst]
    rfl
  case reacquire =>
    rw [exec_touchReacquire h, State.panelCmd_of_no_restart (by decide)]
    rfl
  case doze =>
    rw [exec_touchDozeCmd h, State.panelCmd_of_no_restart (by decide)]
    rfl

end Sys2Proof.Machine
end

section
/-! SUPPORT. The frames of a touch panel: their end, their start, and the keep-alives of doze (R243, R246, R260, R263). -/

namespace Sys2Proof.Machine

/-! The end of a frame (R246, R263) -/

/-- The middle of a frame's scan steps, which `LAST_B` names. -/
def TFrame.middle (f : TFrame) : Nat := f.t0 + f.step + f.n * f.step / 2

/-- The state in which a panel's frame is over. -/
def State.frameEnded (s : State) (p : Nat) (f : TFrame) : State :=
  (s.put64 (panelPage p) F.PANEL.LAST_B_LO f.middle).modPanel p (fun x => { x with frame := none })

/-- The discarded frames of a panel in a row, with one more. -/
def State.badsNext (s : State) (p : Nat) : Nat := (s.panel p).bads + 1

/-- The state in which a panel's discarded frame is counted. -/
def State.frameDiscarded (s : State) (p : Nat) : State :=
  (s.stat (panelPage p) 2).modPanel p (fun x => { x with bads := s.badsNext p })

section Processed
variable {s : State} {p : Nat}

theorem State.frameProcessed_of_none (hf : (s.panel p).frame = none) : s.frameProcessed p = s := by
  rw [State.frameProcessed, hf]

variable {f : TFrame} (hf : (s.panel p).frame = some f)
include hf

theorem State.frameProcessed_of_open (hopen : f.next < f.n + 2) : s.frameProcessed p = s := by
  rw [State.frameProcessed, hf]
  exact if_pos hopen

variable (hdone : f.n + 2 ≤ f.next)
include hdone

theorem State.frameProcessed_of_good (hgood : f.bad = false) :
    s.frameProcessed p = ((s.frameEnded p f).modPanel p (fun x => { x with bads := 0 })).goodFrame p f.middle f := by
  rw [State.frameProcessed, hf]
  exact (if_neg (Nat.not_lt.mpr hdone)).trans (if_neg (Bool.eq_false_iff.mp hgood))

variable (hbad : f.bad = true)
include hbad

theorem State.frameProcessed_of_bad : s.frameProcessed p
    = if ((s.frameEnded p f).frameDiscarded p).pf p F.PANEL.FOLLOW_CFG_LOSS_FRAMES ≤ (s.frameEnded p f).badsNext p
      then ((s.frameEnded p f).frameDiscarded p).linkLoss p f.middle f else (s.frameEnded p f).frameDiscarded p := by
  rw [State.frameProcessed, hf]
  exact (if_neg (Nat.not_lt.mpr hdone)).trans (if_pos hbad)

theorem State.frameProcessed_of_lost (hloss : ((s.frameEnded p f).frameDiscarded p).pf p F.PANEL.FOLLOW_CFG_LOSS_FRAMES
      ≤ (s.frameEnded p f).badsNext p) :
    s.frameProcessed p = ((s.frameEnded p f).frameDiscarded p).linkLoss p f.middle f :=
  (State.frameProcessed_of_bad hf hdone hbad).trans (if_pos hloss)

theorem State.frameProcessed_of_discarded (hkeep : (s.frameEnded p f).badsNext p
      < ((s.frameEnded p f).frameDiscarded p).pf p F.PANEL.FOLLOW_CFG_LOSS_FRAMES) :
    s.frameProcessed p = (s.frameEnded p f).frameDiscarded p :=
  (State.frameProcessed_of_bad hf hdone hbad).trans (if_neg (Nat.not_le.mpr hkeep))

end Processed

/-! The start of a frame (R243) -/

/-- The state after the apply point of a panel's page on the tick of its next frame. -/
def State.frameApplied (s : State) (p t : Nat) : State :=
  (s.waitTo (max t s.now)).applyPoint (panelPage p) (max t s.now) (s.pf p F.PANEL.FRAME_SEQ + 1)

section Start
variable {s v u : State} {p t : Nat} (hv : v = s.frameProcessed p) (hf : (v.panel p).frame = none)
  (ht : (v.panel p).nextAt = some t) (hu : u = v.frameApplied p t)
include hv hf ht hu

theorem State.frameStart_eq : s.frameStart p
    = if u.enabled (panelPage p) = false ∨ u.panelState p = 1 then u
      else if u.pf p F.PANEL.PANEL_CMD_RESTART = 1 then u.panelRestart p (max t v.now) false
      else u.frameBegin p (max t v.now) := by
  subst hu
  rw [State.frameStart, ← hv]
  dsimp only
  rw [hf, ht]
  rfl

theorem State.frameStart_of_stopped (hstop : u.enabled (panelPage p) = false ∨ u.panelState p = 1) : s.frameStart p = u :=
  (State.frameStart_eq hv hf ht hu).trans (if_pos hstop)

variable (hen : u.enabled (panelPage p) = true) (hst : u.panelState p ≠ 1)
include hen hst

theorem State.frameStart_of_running : s.frameStart p
    = if u.pf p F.PANEL.PANEL_CMD_RESTART = 1 then u.panelRestart p (max t v.now) false
      else u.frameBegin p (max t v.now) :=
  (State.frameStart_eq hv hf ht hu).trans (if_neg (by simp [hen, hst]))

theorem State.frameStart_restarts (hcmd : u.pf p F.PANEL.PANEL_CMD_RESTART = 1) :
    s.frameStart p = u.panelRestart p (max t v.now) false :=
  (State.frameStart_of_running hv hf ht hu hen hst).trans (if_pos hcmd)

theorem State.frameStart_begins (hcmd : u.pf p F.PANEL.PANEL_CMD_RESTART ≠ 1) :
    s.frameStart p = u.frameBegin p (max t v.now) :=
  (State.frameStart_of_running hv hf ht hu hen hst).trans (if_neg hcmd)

end Start

/-! Keep-alives (R260) -/

/-- The tick of the next keep-alive of a panel whose next frame is due on tick `n`. -/
def State.keepaliveTick (s : State) (p n : Nat) : Nat :=
  n - s.pf p F.PANEL.DOZE_TICKS + s.pf p F.PANEL.STEP_CFG_STEP_TICKS + ((s.panel p).keep + 1) * 24576000

theorem State.keepalive_of_due {s : State} {p n : Nat} (hf : (s.panel p).frame = none) (hn : (s.panel p).nextAt = some n)
    (hdoze : s.panelState p = 4) (hdue : s.keepaliveTick p n < n) (rsp : List Byte) :
    s.keepalive p rsp = ((s.waitTo (s.keepaliveTick p n)).transact p (idleReq 1) rsp).1.modPanel p
      (fun x => { x with keep := x.keep + 1 }) := by
  rw [State.keepalive]
  dsimp only
  rw [hf, hn]
  exact if_pos ⟨hdoze, hdue⟩

theorem State.keepalive_of_frame {s : State} {p : Nat} (hf : (s.panel p).frame ≠ none) (rsp : List Byte) :
    s.keepalive p rsp = s := by
  obtain ⟨f, hf⟩ := Option.ne_none_iff_exists'.mp hf
  rw [State.keepalive]
  dsimp only
  rw [hf]

end Sys2Proof.Machine
end

section
/-! Settles the statement about the frames of touch panels. -/

namespace Sys2Proof.Machine

/-- Settles O36: each clause is the case of the frame's end, of its start or of the keep-alive that its hypotheses name. The
keep-alive that leaves a panel as it is meets one with a frame in progress. -/
theorem touchFrames : Obligations.TouchFrames := by
  unfold Obligations.TouchFrames
  refine ⟨?none, ?unfinished, ?good, ?bad, ?start, ?keepalive, ?busy⟩
  case none =>
    intro s p hf
    rw [exec_touchFrameProcessed, State.frameProcessed_of_none hf]
  case unfinished =>
    intro s p f hf hopen
    rw [exec_touchFrameProcessed, State.frameProcessed_of_open hf hopen]
  case good =>
    intro s p f hf hdone hgood b
    rw [exec_touchFrameProcessed, State.frameProcessed_of_good hf hdone hgood]
    rfl
  case bad =>
    intro s p f hf hdone hbad b u v
    rw [exec_touchFrameProcessed]
    refine ⟨fun hloss => ?lost, fun hkeep => ?counted⟩
    case lost =>
      rw [State.frameProcessed_of_lost hf hdone hbad hloss]
      rfl
    case counted =>
      rw [State.frameProcessed_of_discarded hf hdone hbad hkeep]
      rfl
  case start =>
    intro s p t v hf ht u
    rw [exec_touchFrameStart]
    refine ⟨fun hen hst hcmd => ?begins, fun hen hst hcmd => ?restarts, fun hstop => ?stopped⟩
    case begins => rw [State.frameStart_begins (v := v) (u := u) rfl hf ht rfl hen hst hcmd]
    case restarts => rw [State.frameStart_restarts (v := v) (u := u) rfl hf ht rfl hen hst hcmd]
    case stopped => rw [State.frameStart_of_stopped (v := v) (u := u) rfl hf ht rfl hstop]
  case keepalive =>
    intro s p rsp n hf hn t hdoze hdue
    rw [exec_touchDozeKeepalive, State.keepalive_of_due hf hn hdoze hdue]
    rfl
  case busy =>
    intro s p rsp hf
    rw [exec_touchDozeKeepalive, State.keepalive_of_frame hf]

end Sys2Proof.Machine
end

section
/-! SUPPORT. Writes of registers of the haptic pages (R279, R285, R287, R292, R297). -/

namespace Sys2Proof.Machine

/-! A block register of a page without rules of its own takes the owner's write by its page's kind -/

section BlockWrite
variable {s : State} {r : Req} {p : PageNo} {off : Nat} {i : PInfo} (h : s.MayWrite r (pageBase p + off))
  (hi : pinfoAt (pageBase p) = some i) (hd : offDefined i off = true) (hlow : 0x100 ≤ off) (hhigh : off < 0x1000)
  (hp : pageBase p ∉ ownRulePages) {v : Word}
include h hi hd hlow hhigh hp

theorem State.MayWrite.pageWrite_kind {t : State} (ht : s.kindWrite r i.kind (pageBase p) off v = some t) :
    s.cmdWrite r (pageBase p + off) v = t := by
  have hoff : offOf (pageBase p + off) = off := offOf_pageBase_add p hhigh
  have hpage : pageOf (pageBase p + off) = pageBase p := pageOf_pageBase_add p hhigh
  refine h.cmdWrite_kind ((pinfoAt_pageBase_add p hhigh).trans hi) (hoff.symm ▸ hd) (hoff.symm ▸ hlow)
    (hpage.symm ▸ hp) ?_
  rwa [hpage, hoff]

theorem State.MayWrite.pageWrite_plain (ht : s.kindWrite r i.kind (pageBase p) off v = none) :
    s.cmdWrite r (pageBase p + off) v = s.plainWrite i.kind (pageBase p + off) v := by
  have hoff : offOf (pageBase p + off) = off := offOf_pageBase_add p hhigh
  have hpage : pageOf (pageBase p + off) = pageBase p := pageOf_pageBase_add p hhigh
  have hfence : ¬(off = 0x058 ∨ off = 0x060 ∨ off = 0x064) := by omega
  rw [h.plain v ((pinfoAt_pageBase_add p hhigh).trans hi) (hoff.symm ▸ hd) (by omega)
    (s.ownRule_of_page r v (hpage.symm ▸ hp)), State.writeEffect]
  dsimp only
  rw [hoff, hpage, if_neg (by omega), if_neg (by omega), if_neg (by omega), if_neg (by omega),
    if_neg (fun hc => hfence hc.1), ht]
  exact if_neg hfence

end BlockWrite

/-- A register of one write-1-to-set bit keeps a bit that stands and takes a written one. -/
theorem State.plainWrite_of_one_w1s {s : State} {k : PKind} {a : Nat} {f : Fld} (hf : fldsAt k (offOf a) = [f])
    (hlo : offOf a < 0x800) (hfa : f.acc = .w1s) {v : Word} (hv : v &&& f.mask = v) :
    s.plainWrite k a v = s.wr a (s.rd a ||| v) := by
  have hw : (fldsAt k (offOf a)).foldl (fun w f => f.accept w v) (s.rd a) = s.rd a ||| v := by
    rw [hf]
    simp only [List.foldl, Fld.accept, hfa, hv]
  have hall : ~~~(0 : Word) = BitVec.allOnes 32 := rfl
  rw [State.plainWrite, hw, if_neg (Nat.not_le.mpr hlo), hall, BitVec.and_allOnes]
  simp

/-! The page of a port (R297) -/

section Port
variable (p : Fin 2)

/-- The page number of a haptic port. -/
def hportNo : PageNo := BitVec.ofNat 12 (16 * 0x29 + 9 + p.val)

theorem pageBase_hportNo : pageBase (hportNo p) = hportPage p.val := by
  revert p
  decide

theorem pinfoAt_hportNo : pinfoAt (pageBase (hportNo p)) = some (pinfo .hport 0x0292 p.val 0 1) := by
  revert p
  decide

theorem hportNo_not_ownRule : pageBase (hportNo p) ∉ ownRulePages := by
  revert p
  decide

variable {p}

/-- The owner's restart in `PORT_CMD` stands in the register until the port's next frame takes it. -/
theorem State.MayWrite.portCmd {s : State} {r : Req} (h : s.MayWrite r (hportPage p.val + 0x1A0)) :
    s.cmdWrite r (hportPage p.val + 0x1A0) 1 = s.wr (hportPage p.val + 0x1A0) (s.rd (hportPage p.val + 0x1A0) ||| 1) := by
  rw [← pageBase_hportNo] at h ⊢
  have hoff : offOf (pageBase (hportNo p) + 0x1A0) = 0x1A0 := offOf_pageBase_add _ (by decide)
  rw [h.pageWrite_plain (pinfoAt_hportNo p) rfl (by decide) (by decide) (hportNo_not_ownRule p) rfl]
  refine State.plainWrite_of_one_w1s (f := F.HPORT.PORT_CMD) ?_ (by omega) rfl (by decide)
  rw [hoff]
  rfl

end Port

/-! The page of the effect store (R279) -/

/-- The page number of the haptic engine. -/
def hapNo : PageNo := BitVec.ofNat 12 (16 * 0x29)

/-- The owner's write of `STORE_CMD` runs the store's command. -/
theorem State.MayWrite.storeCmd {s : State} {r : Req} (h : s.MayWrite r (hapPage + 0x110)) (v : Word) :
    s.cmdWrite r (hapPage + 0x110) v = s.storeCmd v := by
  have hbase : pageBase hapNo = hapPage := by decide
  rw [← hbase] at h ⊢
  exact h.pageWrite_kind (i := pinfo .hap 0x0290 0 0 1) (by decide) rfl (by decide) (by decide) (by decide) rfl

/-! The page of a channel (R285, R287, R292) -/

section Channel
variable (c : Fin 8)

/-- The page number of a haptic channel. -/
def hchanNo : PageNo := BitVec.ofNat 12 (16 * 0x29 + 1 + c.val)

theorem pageBase_hchanNo : pageBase (hchanNo c) = hchanPage c.val := by
  revert c
  decide

theorem pnoOf_hchanNo : pnoOf (pageBase (hchanNo c)) - 1 = c.val := by
  revert c
  decide

theorem pinfoAt_hchanNo : pinfoAt (pageBase (hchanNo c)) = some (pinfo .hchan 0x0291 c.val 0 0) := by
  revert c
  decide

theorem hchanNo_not_ownRule : pageBase (hchanNo c) ∉ ownRulePages := by
  revert c
  decide

variable {c} {s : State} {r : Req}

/-- The owner's write of `TRIGGER` runs the channel's command. -/
theorem State.MayWrite.trigWrite (h : s.MayWrite r (hchanPage c.val + 0x130)) (v : Word) :
    s.cmdWrite r (hchanPage c.val + 0x130) v = s.trigWrite c.val v := by
  rw [← pageBase_hchanNo] at h ⊢
  refine h.pageWrite_kind (pinfoAt_hchanNo c) rfl (by decide) (by decide) (hchanNo_not_ownRule c) ?_
  change some (s.trigWrite (pnoOf (pageBase (hchanNo c)) - 1) v) = _
  rw [pnoOf_hchanNo]

/-- The owner's `CLEAR` in `CHAN_CMD` clears the channel's fault. -/
theorem State.MayWrite.chanClear (h : s.MayWrite r (hchanPage c.val + 0x134)) :
    s.cmdWrite r (hchanPage c.val + 0x134) 1 = s.chanClear c.val := by
  rw [← pageBase_hchanNo] at h ⊢
  refine h.pageWrite_kind (pinfoAt_hchanNo c) rfl (by decide) (by decide) (hchanNo_not_ownRule c) ?_
  change some (s.chanClear (pnoOf (pageBase (hchanNo c)) - 1)) = _
  rw [pnoOf_hchanNo]

end Channel

end Sys2Proof.Machine
end

section
/-! SUPPORT. The frames and restarts of a haptic port (R273, R274, R276): one lemma per operation and case of its definition. -/

namespace Sys2Proof.Machine

theorem exec_hapticFrame (p : Fin 2) (rx : List Word) (s : State) :
    exec (.hapticFrame p rx) s = .next (s.hapFrame p.val rx) := rfl

theorem exec_hapticPortRestart (p : Fin 2) (rxs : List (List Word)) (s : State) :
    exec (.hapticPortRestart p rxs) s = .next (s.hptRun p.val rxs) := rfl

theorem exec_hapticRestartRetry (p : Fin 2) (s : State) : exec (.hapticRestartRetry p) s = .next (s.hptRetry p.val) := rfl

theorem exec_hapticPortRestartCmd {s : State} {r : Req} {p : Fin 2} (h : s.MayWrite r (hportPage p.val + 0x1A0)) :
    exec (.hapticPortRestartCmd r p) s
      = .next (s.wr (hportPage p.val + 0x1A0) (s.rd (hportPage p.val + 0x1A0) ||| 1)) :=
  congrArg Host.Outcome.next h.portCmd

/-! Retries (R276) -/

theorem State.hptRetry_of_due {s : State} {p t : Nat} (hdue : (s.hpt p).retryAt = some t) :
    s.hptRetry p = (s.waitTo t).hptRestart p := by
  rw [State.hptRetry, hdue]

theorem State.hptRetry_of_not_due {s : State} {p : Nat} (hdue : (s.hpt p).retryAt = none) : s.hptRetry p = s := by
  rw [State.hptRetry, hdue]

/-! The parts of a frame (R273, R276) -/

/-- STANDBY asks a port to stop: its effects end, and two frames of zeros follow (R278). -/
def State.hptStops (s : State) (p : Nat) : State :=
  if s.hptMustStop p ∧ (s.hpt p).stopping.isNone then (s.portEnds p).modHpt p (fun x => { x with stopping := some 2 })
  else s

/-- A restart that `PORT_CMD` asks for begins. -/
def State.hptCommanded (s : State) (p : Nat) : State :=
  if s.get (hportPage p) F.HPORT.PORT_CMD = 1 then s.hptRestart p else s

/-- The state in which a frame counts, the next one is due, and a restart has decided what this one sends. -/
def State.hptCounted (s : State) (p t : Nat) : State :=
  (((s.inc (hportPage p) F.HPORT.FRAME_SEQ).stat (hportPage p) 0).modHpt p
    (fun x => { x with nextAt := some (t + 12800) })).hptBefore p

/-- A port drives its channels: it is UP and does not stop for STANDBY. -/
def State.hptDrives (s : State) (p : Nat) : Bool := s.hptState p == 2 && (s.hpt p).stopping.isNone

/-- The channels of a port after their part in the frame of tick `t`, with the slots that they fill. -/
def State.hptChannels (s : State) (p t : Nat) : State × List Word :=
  forL (fun c (a : State × List Word) => ((a.1.chanFrame c t (s.hptDrives p)).1,
    a.2 ++ [BitVec.ofNat 32 (uenc 24 (a.1.chanFrame c t (s.hptDrives p)).2 * 256)])) (portChans p) (s, [])

/-- The state in which a frame is sent: the control word, the drive of the channels, and three empty slots. -/
def State.hptSent (s : State) (p t : Nat) : State :=
  (s.hptChannels p t).1.modHpt p (fun x => { x with tx := s.hptWord p :: (s.hptChannels p t).2 ++ [0, 0, 0] })

/-- The control word of an answer, when it is a good one. -/
def hptAnswer (rx : List Word) : Option (Nat × Nat) := ctlRead (rx.getD 0 0)

/-- A bad control word is counted (R274). -/
def State.hptHeard (s : State) (p : Nat) (rx : List Word) : State :=
  if (hptAnswer rx).isNone then s.stat (hportPage p) 1 else s

/-- The sense words of an answer with a good control word go to the channels. -/
def State.hptSensed (s : State) (p : Nat) (rx : List Word) : State :=
  if (hptAnswer rx).isSome then forL (fun c s => s.sense c (rx.getD (1 + c % 4) 0)) (portChans p) s else s

/-- A frame is sent, in a state in which it has counted; then its answer is read, unless the port is UP at version 1. -/
def State.hptExchange (s : State) (p t : Nat) (rx : List Word) : State :=
  if (s.hptSent p t).hptState p = 2 ∧ (s.get (hportPage p) F.HPORT.VER_STATUS_CHOSEN == 2) = false then s.hptSent p t
  else if ((s.hptSent p t).hptHeard p rx).hptState p = 3 then (s.hptSent p t).hptHeard p rx
  else if s.hptDrives p then (((s.hptSent p t).hptHeard p rx).hptSensed p rx).hptStatus p (hptAnswer rx)
  else ((s.hptSent p t).hptHeard p rx).hptGreet p (hptAnswer rx)

theorem State.hptStops_of_not_must {s : State} {p : Nat} (hgo : s.hptMustStop p = false) : s.hptStops p = s :=
  if_neg (fun h => Bool.false_ne_true (hgo.symm.trans h.1))

/-! A frame is made of its parts -/

section Frame
variable {s : State} {p : Nat} (rx : List Word)

theorem State.hapFrame_of_not_due (hdue : (s.hpt p).nextAt = none) : s.hapFrame p rx = s := by
  rw [State.hapFrame, hdue]

variable {t : Nat} (hdue : (s.hpt p).nextAt = some t)
include hdue

theorem State.hapFrame_of_due :
    s.hapFrame p rx = (let u := ((s.waitTo t).hptStops p).hptStandby p
      if (u.hpt p).stopped then u else ((u.hptCommanded p).hptCounted p t).hptExchange p t rx) := by
  rw [State.hapFrame, hdue]
  rfl

variable (hgo : (s.waitTo t).hptMustStop p = false)
include hgo

theorem State.hapFrame_of_stopped {u : State} (hu : u = (s.waitTo t).hptStandby p) (hstop : (u.hpt p).stopped = true) :
    s.hapFrame p rx = u := by
  subst hu
  rw [State.hapFrame_of_due rx hdue, State.hptStops_of_not_must hgo]
  exact if_pos hstop

theorem State.hapFrame_of_running {u : State} (hu : u = (s.waitTo t).hptStandby p) (hrun : (u.hpt p).stopped = false)
    (hcmd : u.get (hportPage p) F.HPORT.PORT_CMD ≠ 1) :
    s.hapFrame p rx = (u.hptCounted p t).hptExchange p t rx := by
  have hcommanded : u.hptCommanded p = u := if_neg hcmd
  rw [State.hapFrame_of_due rx hdue, State.hptStops_of_not_must hgo, ← hu]
  dsimp only
  rw [if_neg (Bool.eq_false_iff.mp hrun), hcommanded]

end Frame

/-! The answer to a frame (R274, R276, R277) -/

section Exchange
variable {s : State} {p t : Nat} {rx : List Word}

theorem State.hptExchange_of_version1 (hup : (s.hptSent p t).hptState p = 2)
    (hver : s.get (hportPage p) F.HPORT.VER_STATUS_CHOSEN ≠ 2) : s.hptExchange p t rx = s.hptSent p t :=
  if_pos ⟨hup, beq_eq_false_iff_ne.mpr hver⟩

variable (hread : (s.hptSent p t).hptState p ≠ 2 ∨ s.get (hportPage p) F.HPORT.VER_STATUS_CHOSEN = 2)
include hread

theorem State.hptExchange_of_read : s.hptExchange p t rx
    = if ((s.hptSent p t).hptHeard p rx).hptState p = 3 then (s.hptSent p t).hptHeard p rx
      else if s.hptDrives p then (((s.hptSent p t).hptHeard p rx).hptSensed p rx).hptStatus p (hptAnswer rx)
      else ((s.hptSent p t).hptHeard p rx).hptGreet p (hptAnswer rx) := by
  refine if_neg ?_
  rintro ⟨hup, hver⟩
  exact hread.elim (· hup) (beq_eq_false_iff_ne.mp hver)

theorem State.hptExchange_of_down (hdown : ((s.hptSent p t).hptHeard p rx).hptState p = 3) :
    s.hptExchange p t rx = (s.hptSent p t).hptHeard p rx :=
  (State.hptExchange_of_read hread).trans (if_pos hdown)

variable (hdown : ((s.hptSent p t).hptHeard p rx).hptState p ≠ 3)
include hdown

theorem State.hptExchange_of_driven (hup : s.hptDrives p = true) :
    s.hptExchange p t rx = (((s.hptSent p t).hptHeard p rx).hptSensed p rx).hptStatus p (hptAnswer rx) :=
  (State.hptExchange_of_read hread).trans ((if_neg hdown).trans (if_pos hup))

theorem State.hptExchange_of_not_driven (hup : s.hptDrives p = false) :
    s.hptExchange p t rx = ((s.hptSent p t).hptHeard p rx).hptGreet p (hptAnswer rx) :=
  (State.hptExchange_of_read hread).trans ((if_neg hdown).trans (if_neg (Bool.eq_false_iff.mp hup)))

end Exchange

end Sys2Proof.Machine
end

section
/-! Settles the statement about haptic ports. -/

namespace Sys2Proof.Machine

/-- Settles O37: each clause is the case of the frame, of the retry or of the registers' restart that its hypotheses name. The
12,800 ticks of a frame are R273's, and what of the answer is read by a port's version and state is entry 140 of the log. -/
theorem hapticPorts : Obligations.HapticPorts := by
  unfold Obligations.HapticPorts
  refine ⟨?notDue, ?stopped, ?running, ?restart, ?retryDue, ?retryNotDue, ?command⟩
  case notDue =>
    intro s p rx hdue
    rw [exec_hapticFrame, State.hapFrame_of_not_due rx hdue]
  case stopped =>
    intro s p rx t hdue hgo _ hstop
    rw [exec_hapticFrame, State.hapFrame_of_stopped rx hdue hgo rfl hstop]
  case running =>
    intro s p rx t hdue hgo b u hrun hcmd v up a w m x
    rw [exec_hapticFrame, State.hapFrame_of_running rx hdue hgo rfl hrun hcmd]
    refine ⟨fun hup hver => ?version1, fun hread => ⟨fun hdown => ?down, fun hdown hup => ?driven,
      fun hdown hup => ?notDriven⟩⟩
    case version1 => exact congrArg Host.Outcome.next (State.hptExchange_of_version1 hup hver)
    case down => exact congrArg Host.Outcome.next (State.hptExchange_of_down hread hdown)
    case driven => exact congrArg Host.Outcome.next (State.hptExchange_of_driven hread hdown hup)
    case notDriven => exact congrArg Host.Outcome.next (State.hptExchange_of_not_driven hread hdown hup)
  case restart =>
    intro s p rxs
    rw [exec_hapticPortRestart]
    rfl
  case retryDue =>
    intro s p t hdue
    rw [exec_hapticRestartRetry, State.hptRetry_of_due hdue]
  case retryNotDue =>
    intro s p hdue
    rw [exec_hapticRestartRetry, State.hptRetry_of_not_due hdue]
  case command =>
    intro s r p h
    exact exec_hapticPortRestartCmd h

end Sys2Proof.Machine
end

section
/-! SUPPORT. The effect store (R279, R280): one lemma per case of a load, of a free and of a load's end. -/

namespace Sys2Proof.Machine

theorem State.storeCmd_load (s : State) : s.storeCmd 1 = s.storeLoad := by
  rw [State.storeCmd, if_neg (by decide), if_pos (by decide)]

theorem State.storeCmd_free (s : State) : s.storeCmd 2 = s.storeFree := by
  rw [State.storeCmd, if_pos (by decide), if_neg (by decide)]

theorem exec_effectLoad {s : State} {r : Req} (h : s.MayWrite r (hapPage + 0x110)) :
    exec (.effectLoad r) s = .next s.storeLoad := congrArg Host.Outcome.next ((h.storeCmd 1).trans s.storeCmd_load)

theorem exec_effectFree {s : State} {r : Req} (h : s.MayWrite r (hapPage + 0x110)) :
    exec (.effectFree r) s = .next s.storeFree := congrArg Host.Outcome.next ((h.storeCmd 2).trans s.storeCmd_free)

theorem exec_effectLoadDone (s : State) : exec .effectLoadDone s = .next s.storeLoaded := rfl

/-- The slot that a command of the store names. -/
def State.storeSlot (s : State) : Nat := s.get hapPage F.HAP.STORE_SEL

/-- The owner that a load of the store names. -/
def State.storeOwner (s : State) : Nat := s.get hapPage F.HAP.STORE_OWNER

/-- The address that a load of the store names. -/
def State.storeAddr (s : State) : Nat := s.get64 hapPage F.HAP.STORE_ADDR_LO % (1 <<< 40)

section Busy
variable {s : State} (hb : s.flag hapPage F.HAP.STORE_RESULT_BUSY = true)
include hb

theorem State.storeLoad_of_busy : s.storeLoad = s := if_pos hb

theorem State.storeFree_of_busy : s.storeFree = s := if_pos hb

end Busy

section Free
variable {s : State} (hb : s.flag hapPage F.HAP.STORE_RESULT_BUSY = false)
include hb

/-! A load (R279) -/

theorem State.storeLoad_of_unaligned (ha : s.storeAddr % 64 ≠ 0) : s.storeLoad = s.storeResult rAlign 0 :=
  (if_neg (Bool.eq_false_iff.mp hb)).trans (if_pos ha)

/-- An aligned load for an owner that may read its descriptor goes by the slot. -/
theorem State.storeLoad_of_readable (ha : s.storeAddr % 64 = 0) (ho : (s.storeOwner == 1 || isTen s.storeOwner) = true)
    (hr : s.bufOk 0x62 s.storeOwner false s.storeAddr 128 false = true) :
    s.storeLoad = if s.effInUse s.storeSlot then s.storeResult rInUse 0
      else { s.put hapPage F.HAP.STORE_RESULT_BUSY 1 with effLoad := some (s.storeSlot, s.storeOwner, s.storeAddr) } :=
  (if_neg (Bool.eq_false_iff.mp hb)).trans <| (if_neg (not_not_intro ha)).trans <|
    (if_neg (fun h => Bool.false_ne_true (h.symm.trans (congrArg not ho)).symm)).trans (if_neg (ne_false_of_eq_true hr))

/-! A free -/

theorem State.storeFree_of_in_use (hu : s.effInUse s.storeSlot = true) : s.storeFree = s.storeResult rInUse 0 :=
  (if_neg (Bool.eq_false_iff.mp hb)).trans (if_pos hu)

theorem State.storeFree_of_not_in_use (hu : s.effInUse s.storeSlot = false) :
    s.storeFree = (s.put hapPage F.HAP.STORE_VALID (if bit (s.get hapPage F.HAP.STORE_VALID) s.storeSlot
      then s.get hapPage F.HAP.STORE_VALID - 2 ^ s.storeSlot else s.get hapPage F.HAP.STORE_VALID)).storeResult 0 0 :=
  (if_neg (Bool.eq_false_iff.mp hb)).trans (if_neg (Bool.eq_false_iff.mp hu))

end Free

/-! The end of a load (R280) -/

/-- The effect that a fetched descriptor gives an owner. -/
def fetchedEffect (o : Nat) (d : List Byte) : Effect := ⟨o, BitVec.ofNat 1024 (bytesNat d)⟩

/-- The state in which slot `k` of the store holds an effect, and is valid. -/
def State.effectStored (s : State) (k : Nat) (e : Effect) : State :=
  { s with effects := amSet (fun _ => ⟨0, 0⟩) s.effects k e }.put hapPage F.HAP.STORE_VALID
    (s.get hapPage F.HAP.STORE_VALID ||| 2 ^ k)

theorem State.storeLoaded_of_none {s : State} (hl : s.effLoad = none) : s.storeLoaded = s := by
  rw [State.storeLoaded, hl]

section Loaded
variable {s u : State} {k o a m : Nat} {d : List Byte} (hl : s.effLoad = some (k, o, a))
  (hm : { s with effLoad := none }.mread ⟨0x62, o, a, 128, false, false, false⟩ = (u, some (d, m)))
include hl hm

theorem State.storeLoaded_of_fault {i : Nat} (hf : (fetchedEffect o d).fault = some i) :
    s.storeLoaded = u.storeResult 0x40 i := by
  rw [fetchedEffect] at hf
  rw [State.storeLoaded, hl]
  dsimp only
  rw [hm]
  dsimp only
  rw [hf]

theorem State.storeLoaded_of_good (hf : (fetchedEffect o d).fault = none) :
    s.storeLoaded = (u.effectStored k (fetchedEffect o d)).storeResult 0 0 := by
  rw [fetchedEffect] at hf
  rw [State.storeLoaded, hl]
  dsimp only
  rw [hm]
  dsimp only
  rw [hf]
  rfl

end Loaded

end Sys2Proof.Machine
end

section
/-! Settles the statement about the effect store. -/

namespace Sys2Proof.Machine

/-- Settles O38: each clause is the case of the load, of the free or of the load's end that its hypotheses name. A command that
is ignored while one runs, and the order of the refusals, are entry 150 of the log and not R279's or R280's. -/
theorem effectStore : Obligations.EffectStore := by
  unfold Obligations.EffectStore
  refine ⟨?busy, ?command, ?noLoad, ?loaded⟩
  case busy =>
    intro s r h hb
    rw [exec_effectLoad h, exec_effectFree h, State.storeLoad_of_busy hb, State.storeFree_of_busy hb]
    exact ⟨rfl, rfl⟩
  case command =>
    intro s r h hb k a o
    rw [exec_effectLoad h, exec_effectFree h]
    refine ⟨fun ha => ?unaligned, fun ha ho hr hu => ?loadInUse, fun ha ho hr hu => ?load, fun hu => ?freeInUse,
      fun hu => ?free⟩
    case unaligned => exact congrArg Host.Outcome.next (State.storeLoad_of_unaligned hb ha)
    case loadInUse => exact congrArg Host.Outcome.next ((State.storeLoad_of_readable hb ha ho hr).trans (if_pos hu))
    case load =>
      exact congrArg Host.Outcome.next
        ((State.storeLoad_of_readable hb ha ho hr).trans (if_neg (Bool.eq_false_iff.mp hu)))
    case freeInUse => exact congrArg Host.Outcome.next (State.storeFree_of_in_use hb hu)
    case free => exact congrArg Host.Outcome.next (State.storeFree_of_not_in_use hb hu)
  case noLoad =>
    intro s hl
    rw [exec_effectLoadDone, State.storeLoaded_of_none hl]
  case loaded =>
    intro s u k o a d m hl hm e
    rw [exec_effectLoadDone]
    refine ⟨fun i hf => ?fault, fun hf => ?good⟩
    case fault => exact congrArg Host.Outcome.next (State.storeLoaded_of_fault hl hm hf)
    case good => exact congrArg Host.Outcome.next (State.storeLoaded_of_good hl hm hf)

end Sys2Proof.Machine
end

section
/-! SUPPORT. Triggers and stops of haptic effects (R285, R287): one lemma per case of each. -/

namespace Sys2Proof.Machine

/-! A trigger (R285) -/

section Trigger
variable {s : State} {c : Nat} {t : Trig}

theorem State.trigger_of_ok (hok : s.trigOk c t.slot = true) :
    s.trigger c t = s.modHch c (fun x => { x with trigs := x.trigs ++ [t] }) := if_pos hok

theorem State.trigger_of_not_ok (hok : s.trigOk c t.slot = false) : s.trigger c t = s.trigDrop c :=
  if_neg (Bool.eq_false_iff.mp hok)

end Trigger

/-- The trigger of slot `k` that a write of `TRIGGER` makes now. -/
def State.regTrig (s : State) (k : Nat) : Trig := ⟨s.now, 0, k, 0⟩

/-- `TRIGGER.GO` triggers the slot that the write names. -/
theorem State.trigWrite_go (s : State) (c : Nat) (k : Fin 32) :
    s.trigWrite c (BitVec.ofNat 32 (0x100 + k.val)) = s.trigger c (s.regTrig k.val) := by
  have hword : ∀ k : Fin 32, bit (BitVec.ofNat 32 (0x100 + k.val)).toNat 9 = false
      ∧ bit (BitVec.ofNat 32 (0x100 + k.val)).toNat 8 = true
      ∧ bits (BitVec.ofNat 32 (0x100 + k.val)).toNat 4 0 = k.val := by decide
  obtain ⟨hstop, hgo, hslot⟩ := hword k
  rw [State.trigWrite, hstop, hgo, hslot]
  rfl

theorem exec_hapticTriggerGo {s : State} {r : Req} {c : Fin 8} (h : s.MayWrite r (hchanPage c.val + 0x130)) (k : Fin 32) :
    exec (.hapticTriggerGo r c k) s = .next (s.trigger c.val (s.regTrig k.val)) :=
  congrArg Host.Outcome.next ((h.trigWrite _).trans (s.trigWrite_go c.val k))

/-! A stop (R287) -/

theorem exec_hapticTriggerStop {s : State} {r : Req} {c : Fin 8} (h : s.MayWrite r (hchanPage c.val + 0x130)) :
    exec (.hapticTriggerStop r c) s = .next (s.trigStop c.val) := congrArg Host.Outcome.next (h.trigWrite 0x200)

/-- The effect that plays goes to the start of its last segment. -/
def Play.toLast (pl : Play) (e : Effect) : Play := { pl with seg := e.segs - 1, n := 0, adv := 0 }

section Stop
variable {s u : State} {c : Nat} (hu : u = s.dequeue c)
include hu

theorem State.trigStop_of_idle (hplay : (u.hch c).play = none) : s.trigStop c = u := by
  subst hu
  rw [State.trigStop]
  dsimp only
  rw [hplay]

variable {pl : Play} (hplay : (u.hch c).play = some pl)
include hplay

theorem State.trigStop_of_play {e : Effect} (he : e = u.effect pl.trig.slot) :
    s.trigStop c = if 3 ≤ e.kind pl.seg then u
      else if 3 ≤ e.kind (e.segs - 1) then (u.modHch c (fun x => { x with play := some (pl.toLast e) })).showPlay c
      else u.effectEnd c 5 := by
  subst he hu
  rw [State.trigStop]
  dsimp only
  rw [hplay]
  rfl

/-- A brake that plays goes on. -/
theorem State.trigStop_of_brake (hbrake : 3 ≤ (u.effect pl.trig.slot).kind pl.seg) : s.trigStop c = u :=
  (State.trigStop_of_play hu hplay rfl).trans (if_pos hbrake)

variable {e : Effect} (he : e = u.effect pl.trig.slot) (hdrive : e.kind pl.seg < 3)
include he hdrive

theorem State.trigStop_to_brake (hlast : 3 ≤ e.kind (e.segs - 1)) :
    s.trigStop c = (u.modHch c (fun x => { x with play := some (pl.toLast e) })).showPlay c :=
  (State.trigStop_of_play hu hplay he).trans ((if_neg (Nat.not_le.mpr hdrive)).trans (if_pos hlast))

theorem State.trigStop_without_brake (hlast : e.kind (e.segs - 1) < 3) : s.trigStop c = u.effectEnd c 5 :=
  (State.trigStop_of_play hu hplay he).trans
    ((if_neg (Nat.not_le.mpr hdrive)).trans (if_neg (Nat.not_le.mpr hlast)))

end Stop

end Sys2Proof.Machine
end

section
/-! Settles the statement about haptic triggers. -/

namespace Sys2Proof.Machine

/-- Settles O39: a trigger goes by whether it can act, and a stop by the segment that plays and by the effect's last one. -/
theorem hapticTriggers : Obligations.HapticTriggers := by
  unfold Obligations.HapticTriggers
  refine ⟨?trigger, ?idle, ?playing, ?braking⟩
  case trigger =>
    intro s r c k h
    rw [exec_hapticTriggerGo h]
    refine ⟨fun hok => ?joins, fun hok => ?dropped⟩
    case joins => exact congrArg Host.Outcome.next (State.trigger_of_ok hok)
    case dropped => exact congrArg Host.Outcome.next (State.trigger_of_not_ok hok)
  case idle =>
    intro s r c h hplay
    rw [exec_hapticTriggerStop h, State.trigStop_of_idle rfl hplay]
  case playing =>
    intro s r c pl h hplay hdrive e
    rw [exec_hapticTriggerStop h]
    refine ⟨fun hlast => ?brakes, fun hlast => ?ends⟩
    case brakes => exact congrArg Host.Outcome.next (State.trigStop_to_brake rfl hplay rfl hdrive hlast)
    case ends => exact congrArg Host.Outcome.next (State.trigStop_without_brake rfl hplay rfl hdrive hlast)
  case braking =>
    intro s r c pl h hplay hbrake
    rw [exec_hapticTriggerStop h, State.trigStop_of_brake rfl hplay hbrake]

end Sys2Proof.Machine
end

section
/-! SUPPORT. Faults of haptic channels, and the frames that the reflex table evaluates (R292, R301): one lemma per operation and
case of its definition. -/

namespace Sys2Proof.Machine

/-! The fault pin (R292) -/

theorem exec_hapFaultPin (p : Fin 2) (low : Bool) (s : State) :
    exec (.hapFaultPin p low) s = .next (s.faultPin p.val low) := rfl

/-- The state in which a port's register shows a low fault pin. -/
def State.pinLow (s : State) (p : Nat) : State := s.put (hportPage p) F.HPORT.PORT_STATE_FAULT_PIN 1

theorem State.faultPin_high (s : State) (p : Nat) :
    s.faultPin p false = s.put (hportPage p) F.HPORT.PORT_STATE_FAULT_PIN 0 := rfl

theorem State.faultPin_low (s : State) (p : Nat) :
    s.faultPin p true = forL (fun c s => s.chanFault c 0) (portChans p)
      (if (s.pinLow p).enabled (hportPage p) then (s.pinLow p).intBit (hportPage p) 2 else s.pinLow p) := rfl

theorem State.faultPin_low_of_enabled {s : State} {p : Nat} (hen : (s.pinLow p).enabled (hportPage p) = true) :
    s.faultPin p true = forL (fun c s => s.chanFault c 0) (portChans p) ((s.pinLow p).intBit (hportPage p) 2) := by
  rw [State.faultPin_low, if_pos hen]

theorem State.faultPin_low_of_disabled {s : State} {p : Nat} (hen : (s.pinLow p).enabled (hportPage p) = false) :
    s.faultPin p true = forL (fun c s => s.chanFault c 0) (portChans p) (s.pinLow p) := by
  rw [State.faultPin_low, if_neg (Bool.eq_false_iff.mp hen)]

/-! A channel enters FAULT, and leaves it (R292) -/

theorem State.chanFault_of_enabled {s : State} {c : Nat} (hen : s.enabled (hchanPage c) = true) (hst : s.hchState c ≠ 3)
    (arg : Nat) :
    s.chanFault c arg = (((((s.hit (164 + c) arg).intBit (hchanPage c) 3).stat (hchanPage c) 4).effectEnd c 4).dequeue
      c).put (hchanPage c) F.HCHAN.CHAN_STATE_STATE 3 :=
  if_neg (fun h => h.elim (ne_false_of_eq_true hen) hst)

theorem exec_hapticFaultClear {s : State} {r : Req} {c : Fin 8} (h : s.MayWrite r (hchanPage c.val + 0x134)) :
    exec (.hapticFaultClear r c) s = .next (s.chanClear c.val) := congrArg Host.Outcome.next h.chanClear

section Clear
variable {s : State} {c : Nat}

theorem State.chanClear_of_no_fault (hst : s.hchState c ≠ 3) : s.chanClear c = s := if_neg (fun h => hst h.1)

theorem State.chanClear_of_fault (hst : s.hchState c = 3)
    (hpin : s.flag (hportPage (chanPort c)) F.HPORT.PORT_STATE_FAULT_PIN = false)
    (hstatus : bit (s.get (hportPage (chanPort c)) F.HPORT.PORT_STATE_STATUS_FAULT) (c % 4) = false)
    (hup : s.hptState (chanPort c) = 2) :
    s.chanClear c = (s.put (hchanPage c) F.HCHAN.CHAN_STATE_STATE 0).modHch c (fun x => { x with ph := 0 }) :=
  if_pos ⟨hst, hpin, hstatus, hup⟩

end Clear

/-! A frame that the reflex table evaluates (R301) -/

theorem exec_reflexEvaluate (s : State) : exec .reflexEvaluate s = .next s.reflexEvaluate := rfl

/-- One entry against a frame: a valid one of the frame's panel meets each of its events. -/
def State.reflexEntry (s : State) (i w : Nat) (q : RflxFrame) : State :=
  if bit w 31 ∧ bits w 27 26 = q.panel then
    forL (fun (v : Nat × Contact) u => u.reflexEvent i w q v.1 v.2) q.evs s
  else s

theorem State.reflexEntry_of_panel {s : State} {i w : Nat} {q : RflxFrame} (hv : bit w 31 = true)
    (hp : bits w 27 26 = q.panel) :
    s.reflexEntry i w q = forL (fun (v : Nat × Contact) u => u.reflexEvent i w q v.1 v.2) q.evs s := if_pos ⟨hv, hp⟩

/-- A contact stands inside the rectangle of an entry. -/
def Contact.inside (c : Contact) (w : Nat) : Prop :=
  bits w 47 32 ≤ c.x ∧ c.x < bits w 79 64 ∧ bits w 63 48 ≤ c.y ∧ c.y < bits w 95 80

/-- An entry of condition 0 acts on event 0, inside its rectangle. -/
theorem State.reflexEvent_of_down {s : State} {i w : Nat} {q : RflxFrame} {c : Contact} (hcond : bits w 25 24 = 0)
    (hin : c.inside w) : s.reflexEvent i w q 0 c = s.reflexRun i w q c := by
  obtain ⟨hx0, hx1, hy0, hy1⟩ := hin
  rw [State.reflexEvent]
  dsimp only
  rw [hcond]
  exact if_pos ⟨rfl, by simp [hx0, hx1, hy0, hy1]⟩

section Evaluate
variable {s : State}

theorem State.reflexEvaluate_of_nil (hq : s.reflexQ = []) : s.reflexEvaluate = s := by
  rw [State.reflexEvaluate, hq]

variable {q : RflxFrame} {rest : List RflxFrame} (hq : s.reflexQ = q :: rest)
include hq

theorem State.reflexEvaluate_of_disabled (hen : s.enabled reflexPage = false) :
    s.reflexEvaluate = { s with reflexQ := rest } := by
  rw [State.reflexEvaluate, hq]
  exact if_pos hen

theorem State.reflexEvaluate_of_enabled (hen : s.enabled reflexPage = true) :
    s.reflexEvaluate
      = forL (fun (e : Nat × BitVec 192) u => u.reflexEntry e.1 e.2.toNat q) s.reflex { s with reflexQ := rest } := by
  rw [State.reflexEvaluate, hq]
  exact if_neg (ne_false_of_eq_true hen)

end Evaluate

end Sys2Proof.Machine
end

section
/-! Settles the statement about haptic faults. -/

namespace Sys2Proof.Machine

/-- Settles O40: the clauses on faults are the cases of the pin, of the fault and of CLEAR. The others are R301's: the reflex
table drops the first frame that waits, and, enabled, holds each entry against it. -/
theorem hapticFaults : Obligations.HapticFaults := by
  unfold Obligations.HapticFaults
  refine ⟨?high, ?lowEnabled, ?lowDisabled, ?fault, ?noFault, ?clear, ?disabled, ?enabled, ?oneEvent, ?noFrame⟩
  case high =>
    intro s p
    rw [exec_hapFaultPin, State.faultPin_high]
  case lowEnabled =>
    intro s p hen
    exact congrArg Host.Outcome.next (State.faultPin_low_of_enabled hen)
  case lowDisabled =>
    intro s p hen
    exact congrArg Host.Outcome.next (State.faultPin_low_of_disabled hen)
  case fault =>
    intro s c arg hen hst
    exact State.chanFault_of_enabled hen hst arg
  case noFault =>
    intro s r c h hst
    rw [exec_hapticFaultClear h, State.chanClear_of_no_fault hst]
  case clear =>
    intro s r c h hst hpin hstatus hup
    rw [exec_hapticFaultClear h, State.chanClear_of_fault hst hpin hstatus hup]
  case disabled =>
    intro s q rest hq hen
    rw [exec_reflexEvaluate, State.reflexEvaluate_of_disabled hq hen]
  case enabled =>
    intro s q rest hq hen
    exact congrArg Host.Outcome.next (State.reflexEvaluate_of_enabled hq hen)
  case oneEvent =>
    intro s q rest i w c hq hen hentry hv hp hev hcond hx0 hx1 hy0 hy1
    rw [exec_reflexEvaluate, State.reflexEvaluate_of_enabled hq hen, hentry]
    dsimp only [forL]
    rw [State.reflexEntry_of_panel hv hp, hev]
    dsimp only [forL]
    rw [State.reflexEvent_of_down hcond ⟨hx0, hx1, hy0, hy1⟩]
  case noFrame =>
    intro s hq
    rw [exec_reflexEvaluate, State.reflexEvaluate_of_nil hq]

end Sys2Proof.Machine
end

section
/-! SUPPORT. Sample boundaries and block markers (R305), and the timeout of a fade phase (R324): one lemma per case of each
definition. -/

namespace Sys2Proof.Machine

/-! The grid (R305) -/

theorem exec_sampleBoundary (s : State) (errs : List (Nat × Nat × Nat)) :
    exec (.sampleBoundary errs) s = .next (s.sampleBoundary errs) := rfl

theorem exec_audioBlockMarker (s : State) : exec .audioBlockMarker s = .next s.blockMarker := rfl

/-- The state at boundary `t`, after the marker that is due with it. -/
def State.atBoundary (s : State) (t : Nat) : State :=
  if t % 614400 = 0 ∧ (s.waitTo t).audio.marker < t then (s.waitTo t).markerAt t else s.waitTo t

/-- The grid moves to boundary `t`. -/
def State.gridTo (s : State) (t : Nat) : State := s.modAudio (fun a => { a with lastRun := t })

/-- Boundary `t` of an engine that runs: gains, swap, starts and players step in this order, then the program runs. -/
def State.sampleAt (s : State) (t : Nat) (errs : List (Nat × Nat × Nat)) : State :=
  let u := forL (fun g s => s.gainStep g) (upto 0 128) s
  ((forL (fun r s => s.playStep r t) (upto 0 16) ((u.swapStep t).lineStartsAt t)).runProgram t errs).sinksOut (t + 6400)

/-- The latency tolerance of the players is shown and reported (R328). -/
def State.showTol (s : State) : State :=
  (s.put aengPage F.AENG.LAT_TOL s.audTol).reportLat 8 (if s.audTol = 0xFFFFFFFF then none else some (s.now + s.audTol))

section Boundary
variable {s m : State} {t : Nat} (ht : t = nextMult 6400 s.audio.lastRun s.now) (hm : m = s.atBoundary t)
  (errs : List (Nat × Nat × Nat))
include ht hm

theorem State.sampleBoundary_of_disabled (hen : m.enabled aengPage = false) : s.sampleBoundary errs = m.gridTo t := by
  subst ht hm
  exact if_pos hen

theorem State.sampleBoundary_of_enabled (hen : m.enabled aengPage = true) :
    s.sampleBoundary errs = ((m.gridTo t).sampleAt t errs).showTol := by
  subst ht hm
  exact if_neg (ne_false_of_eq_true hen)

end Boundary

theorem State.blockMarker_eq {s : State} {t : Nat} (ht : t = nextMult 614400 s.audio.marker s.now) :
    s.blockMarker = (s.waitTo t).markerAt t := by
  rw [ht, State.blockMarker]

/-- A marker takes every target that waits for it. -/
theorem State.markerAt_gainWr (s : State) (t : Nat) : (s.markerAt t).audio.gainWr = [] := rfl

/-! The timeout of a fade phase (R324) -/

theorem exec_fadeTimeout (s : State) : exec .fadeTimeout s = .next s.fadeTimeout := rfl

/-- The phase of a swap; 0 with none. -/
def State.swapPhase (s : State) : Nat := s.get abankPage F.ABANK.BANK_STATE_PHASE

/-- The swap's fade has ended, or was ended by its timeout. -/
def State.fadeOver (s : State) : Bool :=
  match s.audio.swap with
  | some w => w.due || w.outLate || w.inLate
  | none => false

/-- A boundary passes while phase `ph` lasts. -/
def State.fadeSample (s : State) (ph : Nat) : State :=
  if s.swapPhase = ph ∧ s.fadeOver = false then s.sampleBoundary [] else s

section Fade
variable {s : State}

theorem State.fadeOver_of_none (hw : s.audio.swap = none) : s.fadeOver = false := by
  rw [State.fadeOver, hw]

theorem State.fadeSample_of_fading (hw : s.fadeOver = false) : s.fadeSample s.swapPhase = s.sampleBoundary [] :=
  if_pos ⟨rfl, hw⟩

theorem State.fadeTimeout_of_no_swap (hph : s.swapPhase = 0) : s.fadeTimeout = s := if_pos hph

theorem State.fadeTimeout_of_swap (hph : s.swapPhase ≠ 0) :
    s.fadeTimeout = forN (fun _ u => u.fadeSample s.swapPhase) (s.get abankPage F.ABANK.FADE_CFG) s := if_neg hph

end Fade

end Sys2Proof.Machine
end

section
/-! Settles the statement about the audio grid. -/

namespace Sys2Proof.Machine

/-- Settles O41: a boundary goes by whether the engine is enabled after the marker that falls on it. The order of its work is
that of R322, R324, R327 and R329; that it performs the marker due with it, and that a fade's timeout is the boundaries up to it
(R324), is entry 168 of the log. -/
theorem audioGrid : Obligations.AudioGrid := by
  unfold Obligations.AudioGrid
  refine ⟨?boundary, ?marker, ?targets, ?noSwap, ?swap, ?oneSample⟩
  case boundary =>
    intro s errs t m
    rw [exec_sampleBoundary]
    refine ⟨fun hen => ?disabled, fun hen => ?enabled⟩
    case disabled => exact congrArg Host.Outcome.next (State.sampleBoundary_of_disabled rfl rfl errs hen)
    case enabled => exact congrArg Host.Outcome.next (State.sampleBoundary_of_enabled rfl rfl errs hen)
  case marker =>
    intro s
    rw [exec_audioBlockMarker, State.blockMarker_eq rfl]
  case targets =>
    intro s t
    exact s.markerAt_gainWr t
  case noSwap =>
    intro s hph
    rw [exec_fadeTimeout, State.fadeTimeout_of_no_swap hph]
  case swap =>
    intro s hph
    exact congrArg Host.Outcome.next (State.fadeTimeout_of_swap hph)
  case oneSample =>
    intro s hph hw hcfg
    have hswap : s.swapPhase ≠ 0 := by
      rw [State.swapPhase, hph]
      decide
    rw [exec_fadeTimeout, State.fadeTimeout_of_swap hswap, hcfg]
    dsimp only [forN]
    rw [State.fadeSample_of_fading (State.fadeOver_of_none hw)]

end Sys2Proof.Machine
end

section
/-! SUPPORT. Frames and edges of audio ports (R309, R313): one lemma per case of each operation. -/

namespace Sys2Proof.Machine

section Port
variable (p : Fin 4) (s : State)

theorem exec_audPortFrame (slots : List Nat) : exec (.audPortFrame p slots) s = .next (s.masterFrame p.val slots) := rfl

theorem exec_audFsEdge (n : Nat) (slots : List Nat) :
    exec (.audFsEdge p n slots) s = .next (s.fsEdge p.val n slots) := rfl

theorem exec_audClockLoss : exec (.audClockLoss p) s = .next (s.clockLoss p.val) := rfl

end Port

/-- The state and the role of a port (R309). -/
def State.portState (s : State) (p : Nat) : Nat := s.af p F.APORT.PORT_STATE
def State.portRole (s : State) (p : Nat) : Nat := s.af p F.APORT.PORT_CFG_ROLE

/-- A port sends what its output converter gives at tick `t`. -/
def State.frameOut (s : State) (p t : Nat) : State :=
  let r := s.convOut (2 * p + 1) t (s.slotsOut p)
  r.1.aportSend p r.2

/-! A frame of a master port (R309) -/

/-- A frame starts now: it counts, its input can be used a frame later, and its output goes out. -/
def State.startFrame (s : State) (p : Nat) (slots : List Nat) : State :=
  let v := (s.setAport p { s.aport p with last := s.now }).aportCount p
  (v.convPush (2 * p) (s.now + v.frameT p) (v.aportIn p slots)).frameOut p s.now

section MasterFrame
variable {s : State} {p : Nat} (slots : List Nat)

theorem State.masterFrame_of_none (h : s.portState p ≠ 1 ∨ s.portRole p = 1) : s.masterFrame p slots = s := if_pos h

theorem State.masterFrame_of_running (hst : s.portState p = 1) (hrole : s.portRole p = 0) :
    s.masterFrame p slots = (s.waitTo (nextMult (s.frameT p) (s.aport p).last s.now)).startFrame p slots :=
  if_neg (fun h => h.elim (fun hne => hne hst) (fun h1 => Nat.zero_ne_one (hrole.symm.trans h1)))

end MasterFrame

/-! An edge of a follower port (R309, R313) -/

/-- A port in NO_CLOCK runs again at its edge. -/
def State.clockBack (s : State) (p : Nat) : State :=
  if s.portState p = 2 then
    ((s.put (aportPage p) F.APORT.PORT_STATE 1).intBit (aportPage p) 1).aportRec p 2 s.now
  else s

/-- The state `a` in which an edge at `s` is met keeps its tick; a first edge, with none before it, takes a free value. -/
def State.edgeKept (s a : State) (p : Nat) : State :=
  let c := if s.portState p ≠ 2 ∧ (s.aport p).edge = false then a.tookFree else a
  c.setAport p { c.aport p with last := s.now, edge := true }

/-- The period that an edge at `s` ends, × 2^16; for a first edge, with none before it, a free value of `a`. -/
def State.edgePeriod (s a : State) (p : Nat) : Nat :=
  if s.portState p ≠ 2 ∧ (s.aport p).edge = false then a.free.toNat % 2 ^ 32 else (s.now - (s.aport p).last) * 65536

/-- A frame of `n` bit clocks ends at tick `t`: one with a framing error counts, and its slots read 0. -/
def State.frameIn (s : State) (p t n : Nat) (slots : List Nat) : State :=
  let ok := n == s.af p F.APORT.PORT_CFG_FRAME_BITS
  let g := if ok then s else s.stat (aportPage p) 1
  g.convPush (2 * p) t (g.aportIn p (if ok then slots else []))

/-- An edge of a port that follows: the frame that it ends, the estimate, and the frame that it starts. -/
def State.takeEdge (s : State) (p n : Nat) (slots : List Nat) : State :=
  let x := s.aport p
  let a := s.clockBack p
  let d := s.edgeKept a p
  let e := if x.edge then d.frameIn p s.now n slots else d
  ((e.estimate p (s.edgePeriod a p) (!x.edge)).aportCount p).frameOut p s.now

section Edge
variable {s u : State} {p : Nat} (hu : u = s.edgeLate p) (n : Nat) (slots : List Nat)
include hu

theorem State.fsEdge_of_none (h : u.portState p = 0 ∨ u.portRole p = 0) : s.fsEdge p n slots = u := by
  subst hu
  exact if_pos h

theorem State.fsEdge_of_follower (hst : u.portState p ≠ 0) (hrole : u.portRole p ≠ 0) :
    s.fsEdge p n slots = u.takeEdge p n slots := by
  subst hu
  exact if_neg (fun h => h.elim hst hrole)

end Edge

/-! A loss of the clock (R313) -/

/-- A port enters NO_CLOCK: its converters go OFF, and its next edge is a first one. -/
def State.noClock (s : State) (p : Nat) : State :=
  let u := forL (fun n s => s.setConvState n 0) [2 * p, 2 * p + 1] (s.put (aportPage p) F.APORT.PORT_STATE 2)
  u.setAport p { u.aport p with edge := false }

theorem State.clockLoss_of_follower {s : State} {p t : Nat} (hst : s.portState p = 1 ∨ s.portState p = 3)
    (hrole : s.portRole p = 1) (ht : t = (s.aport p).last + 4 * s.frameT p) :
    s.clockLoss p = (((((s.waitTo t).noClock p).hit (173 + p) 0).intBit (aportPage p) 0).stat (aportPage p) 2).aportRec
      p 1 t := by
  subst ht
  exact if_pos ⟨hst, hrole⟩

end Sys2Proof.Machine
end

section
/-! Settles the statement about audio ports. -/

namespace Sys2Proof.Machine

/-- Settles O42: a frame, an edge and a loss go by the port's state and role. The free period of a first edge is entry 157 of
the log, and that the converters of a port without its clock go OFF is entry 159. -/
theorem audioPorts : Obligations.AudioPorts := by
  unfold Obligations.AudioPorts
  refine ⟨?noFrame, ?frame, ?edge, ?loss⟩
  case noFrame =>
    intro s p slots h
    rw [exec_audPortFrame, State.masterFrame_of_none slots h]
  case frame =>
    intro s p slots hst hrole
    exact congrArg Host.Outcome.next (State.masterFrame_of_running slots hst hrole)
  case edge =>
    intro s p n slots u
    rw [exec_audFsEdge]
    refine ⟨fun h => ?none, fun hst hrole => ?follower⟩
    case none => exact congrArg Host.Outcome.next (State.fsEdge_of_none rfl n slots h)
    case follower => exact congrArg Host.Outcome.next (State.fsEdge_of_follower rfl n slots hst hrole)
  case loss =>
    intro s p hst hrole t
    exact congrArg Host.Outcome.next (State.clockLoss_of_follower hst hrole rfl)

end Sys2Proof.Machine
end

section
/-! SUPPORT. Program banks (R320, R321, R334): one lemma per case of a load, of its end and of an invalidation. -/

namespace Sys2Proof.Machine

/-! Commands to the inactive bank (R334) -/

/-- The page number of the program banks. -/
def abankNo : PageNo := BitVec.ofNat 12 (16 * 0x2A + 1)

/-- The owner's write of `BANK_CMD` runs the banks' command. -/
theorem State.MayWrite.bankCmd {s : State} {r : Req} (h : s.MayWrite r (abankPage + 0x10C)) (v : Word) :
    s.cmdWrite r (abankPage + 0x10C) v = s.bankCmd v := by
  have hbase : pageBase abankNo = abankPage := by decide
  rw [← hbase] at h ⊢
  exact h.pageWrite_kind (i := pinfo .abank 0x02A1 0 0 1 false 9 false .bankSwap) (by decide) rfl (by decide) (by decide)
    (by decide) rfl

theorem State.bankCmd_load (s : State) : s.bankCmd 1 = s.bankLoad := by
  rw [State.bankCmd, if_neg (by decide), if_pos (by decide)]

theorem State.bankCmd_invalidate (s : State) : s.bankCmd 2 = s.bankInvalidate := by
  rw [State.bankCmd, if_pos (by decide), if_neg (by decide)]

theorem exec_bankLoad {s : State} {r : Req} (h : s.MayWrite r (abankPage + 0x10C)) :
    exec (.bankLoad r) s = .next s.bankLoad := congrArg Host.Outcome.next ((h.bankCmd 1).trans s.bankCmd_load)

theorem exec_bankInvalidate {s : State} {r : Req} (h : s.MayWrite r (abankPage + 0x10C)) :
    exec (.bankInvalidate r) s = .next s.bankInvalidate :=
  congrArg Host.Outcome.next ((h.bankCmd 2).trans s.bankCmd_invalidate)

theorem exec_bankLoadDone (s : State) : exec .bankLoadDone s = .next s.bankLoaded := rfl

/-- The address and the size that a load of the inactive bank names. -/
def State.bankAddr (s : State) : Nat := s.get64 abankPage F.ABANK.LOAD_ADDR_LO % (1 <<< 40)
def State.bankSize (s : State) : Nat := s.get abankPage F.ABANK.LOAD_SIZE

section Cmd
variable {s : State}

theorem State.bankInvalidate_of_swap (hw : s.swapping = true) : s.bankInvalidate = s.loadResult rInUse 0 := if_pos hw

theorem State.bankInvalidate_of_no_swap (hw : s.swapping = false) : s.bankInvalidate = s.bankDrop.loadResult 0 0 :=
  if_neg (Bool.eq_false_iff.mp hw)

theorem State.bankLoad_of_busy (hl : s.audio.load.isSome = true) : s.bankLoad = s := if_pos hl

section Free
variable (hl : s.audio.load = none)
include hl

/-- With no load in progress, a load goes by the swap. -/
theorem State.bankLoad_of_free : s.bankLoad =
    if s.swapping then s.bankDrop.loadResult rInUse 0
    else if s.bankAddr % 64 ≠ 0 ∨ s.bankSize % 8 ≠ 0 then s.bankDrop.loadResult rAlign 0
    else if 131072 < s.bankSize then s.bankDrop.loadResult rRange 0
    else if s.bufOk 0x60 (s.owner abankPage) false s.bankAddr s.bankSize false = false then s.bankDrop.loadResult rBuffer 0
    else (s.bankDrop.put abankPage F.ABANK.LOAD_RESULT_BUSY 1).modAudio
      (fun x => { x with load := some (s.bankAddr, s.bankSize) }) :=
  if_neg (fun h => Bool.false_ne_true ((congrArg Option.isSome hl).symm.trans h))

theorem State.bankLoad_of_swap (hw : s.swapping = true) : s.bankLoad = s.bankDrop.loadResult rInUse 0 :=
  (State.bankLoad_of_free hl).trans (if_pos hw)

variable (hw : s.swapping = false)
include hw

theorem State.bankLoad_of_unaligned (ha : s.bankAddr % 64 ≠ 0 ∨ s.bankSize % 8 ≠ 0) :
    s.bankLoad = s.bankDrop.loadResult rAlign 0 :=
  (State.bankLoad_of_free hl).trans <| (if_neg (Bool.eq_false_iff.mp hw)).trans (if_pos ha)

theorem State.bankLoad_of_readable (ha : s.bankAddr % 64 = 0) (hn : s.bankSize % 8 = 0) (hmax : s.bankSize ≤ 131072)
    (hr : s.bufOk 0x60 (s.owner abankPage) false s.bankAddr s.bankSize false = true) :
    s.bankLoad = (s.bankDrop.put abankPage F.ABANK.LOAD_RESULT_BUSY 1).modAudio
      (fun x => { x with load := some (s.bankAddr, s.bankSize) }) :=
  (State.bankLoad_of_free hl).trans <| (if_neg (Bool.eq_false_iff.mp hw)).trans <|
    (if_neg (fun h => h.elim (fun h => h ha) (fun h => h hn))).trans <|
    (if_neg (Nat.not_lt.mpr hmax)).trans (if_neg (ne_false_of_eq_true hr))

end Free

end Cmd

/-! The end of a load (R321) -/

/-- The lowest offset of a list; none of an empty one. -/
def lowestFault (l : List Nat) : Option Nat := l.foldl (fun m i => some (min i (m.getD i))) none

/-- The load is over; its fetch is still to be answered. -/
def State.loadOver (s : State) : State := s.modAudio (fun x => { x with load := none })

/-- An image takes the place of the inactive bank, and is valid. -/
def State.bankStored (s : State) (d : List Byte) : State :=
  (s.setBankAt (1 - s.activeBank) (bankOf d (s.bankAt (1 - s.activeBank)))).put abankPage F.ABANK.BANK_STATE_INACTIVE_VALID 1

theorem State.bankLoaded_of_none {s : State} (hl : s.audio.load = none) : s.bankLoaded = s := by
  rw [State.bankLoaded, hl]

/-- What becomes of an image of `n` bytes that has arrived: it is refused for its lowest fault or for a swap, or stored. -/
def State.bankJudged (s : State) (n : Nat) (d : List Byte) : State :=
  match lowestFault (bankFaults n d) with
  | some i => s.loadResult 0x40 i
  | none => if s.swapping then s.bankDrop.loadResult rInUse 0 else (s.bankStored d).loadResult 0 0

section Judged
variable {s : State} {n : Nat} {d : List Byte}

theorem State.bankJudged_of_fault {i : Nat} (hf : lowestFault (bankFaults n d) = some i) :
    s.bankJudged n d = s.loadResult 0x40 i := by
  rw [State.bankJudged, hf]

theorem State.bankJudged_of_good (hf : bankFaults n d = []) (hw : s.swapping = false) :
    s.bankJudged n d = (s.bankStored d).loadResult 0 0 := by
  rw [State.bankJudged, hf]
  exact if_neg (Bool.eq_false_iff.mp hw)

end Judged

/-- A load whose fetch memory answers ends with the verdict on the image. -/
theorem State.bankLoaded_of_image {s u : State} {a n m : Nat} {d : List Byte} (hl : s.audio.load = some (a, n))
    (hm : s.loadOver.mread ⟨0x60, s.loadOver.owner abankPage, a, n, false, false, false⟩ = (u, some (d, m))) :
    s.bankLoaded = u.bankJudged n d := by
  rw [State.loadOver] at hm
  rw [State.bankLoaded, hl]
  dsimp only
  rw [hm, State.bankJudged, lowestFault]
  dsimp only
  cases (bankFaults n d).foldl (fun (m : Option Nat) i => some (min i (m.getD i))) none with
  | none => rfl
  | some i => rfl

end Sys2Proof.Machine
end

section
/-! Settles the statement about program banks. -/

namespace Sys2Proof.Machine

/-- Settles O43: each clause is the case of the load, of the invalidation or of the load's end that its hypotheses name. That a
load is ignored while one runs, and the order of the refusals, are the model's reading of R321; that one refused in a swap makes
the inactive bank invalid too is entry 163 of the log, and the lowest offset at fault is entry 165. -/
theorem programBanks : Obligations.ProgramBanks := by
  unfold Obligations.ProgramBanks
  refine ⟨?busy, ?swap, ?noSwap, ?good, ?fault, ?noLoad⟩
  case busy =>
    intro s r h hl
    rw [exec_bankLoad h, State.bankLoad_of_busy hl]
  case swap =>
    intro s r h hw
    refine ⟨fun hl => ?loadInSwap, ?invalidateInSwap⟩
    case loadInSwap => exact (exec_bankLoad h).trans (congrArg Host.Outcome.next (State.bankLoad_of_swap hl hw))
    case invalidateInSwap =>
      exact (exec_bankInvalidate h).trans (congrArg Host.Outcome.next (State.bankInvalidate_of_swap hw))
  case noSwap =>
    intro s r h hw a n
    rw [exec_bankLoad h, exec_bankInvalidate h]
    refine ⟨?invalidate, fun hl ha => ?unaligned, fun hl ha hn hmax hr => ?load⟩
    case invalidate => exact congrArg Host.Outcome.next (State.bankInvalidate_of_no_swap hw)
    case unaligned => exact congrArg Host.Outcome.next (State.bankLoad_of_unaligned hl hw ha)
    case load => exact congrArg Host.Outcome.next (State.bankLoad_of_readable hl hw ha hn hmax hr)
  case good =>
    intro s u a n m d hl hm hf hw
    exact congrArg Host.Outcome.next ((State.bankLoaded_of_image hl hm).trans (State.bankJudged_of_good hf hw))
  case fault =>
    intro s u a n m i d hl hm hf
    exact congrArg Host.Outcome.next ((State.bankLoaded_of_image hl hm).trans (State.bankJudged_of_fault hf))
  case noLoad =>
    intro s hl
    rw [exec_bankLoadDone, State.bankLoaded_of_none hl]

end Sys2Proof.Machine
end

section
/-! SUPPORT. What every command and every step keeps (`Keep`), and that each has a next state. -/

namespace Sys2Proof.Machine

/-- What every command keeps; only the commands outside `storesNothing` may write memory. -/
theorem exec_keep (i : Instr) (s : State) : KeepOut (!storesNothing i) s (exec i s) :=
  match i with
  | .mainSupplyGood => execMainSupplyGood_keep rfl
  | .vbakPresent => execVbakPresent_keep
  | .mainSupplyLoss => execMainSupplyLoss_keep rfl
  | .vbakLoss => execVbakLoss_keep
  | .supplyUv .. => execSupplyUv_keep
  | .modeRequest .. => execModeRequest_keep rfl
  | .modeRequestCheckDone => execModeRequestCheckDone_keep
  | .standbyEntryStepComplete => execStandbyEntryStepComplete_keep rfl
  | .wakeEvent .. => execWakeEvent_keep
  | .standbyUndoStepComplete => execStandbyUndoStepComplete_keep rfl
  | .responseDiscard .. => execResponseDiscard_keep
  | .pllLock => execPllLock_keep
  | .pllLockRetry => execPllLockRetry_keep
  | .rootLoss => execRootLoss_keep rfl
  | .monOscLoss => execMonOscLoss_keep
  | .pllUnlock => execPllUnlock_keep
  | .releaseClockOk .. => execReleaseClockOk_keep
  | .releaseAbandoned .. => execReleaseAbandoned_keep
  | .domainGate .. => execDomainGate_keep rfl
  | .domainUngate .. => execDomainUngate_keep rfl
  | .gateCheckDone => execGateCheckDone_keep
  | .thymeLoRead .. => execThymeLoRead_keep
  | .loSnapshotRead .. => execLoSnapshotRead_keep
  | .slewTick => execSlewTick_keep
  | .periodBoundary .. => execPeriodBoundary_keep
  | .periodLatchUpdate .. => execPeriodLatchUpdate_keep
  | .accountingBoundary => execAccountingBoundary_keep rfl
  | .syncInEdge .. => execSyncInEdge_keep
  | .syncOutRise => execSyncOutRise_keep
  | .syncOutFall => execSyncOutFall_keep
  | .registerWrite .. => execRegisterWrite_keep rfl
  | .ownerWrite .. => execOwnerWrite_keep rfl
  | .autoCommitWrite .. => execAutoCommitWrite_keep rfl
  | .commitOnFenceWrite .. => execCommitOnFenceWrite_keep rfl
  | .pageQuiesce .. => execPageQuiesce_keep rfl
  | .enable .. => execEnable_keep rfl
  | .disable .. => execDisable_keep rfl
  | .commit .. => execCommit_keep rfl
  | .enableCheckDone .. => execEnableCheckDone_keep rfl
  | .commitCheckDone .. => execCommitCheckDone_keep rfl
  | .disableDrainDone .. => execDisableDrainDone_keep
  | .intStatusClear .. => execIntStatusClear_keep rfl
  | .intForce .. => execIntForce_keep rfl
  | .irqDelivery .. => execIrqDelivery_keep
  | .msixUnmask .. => execMsixUnmask_keep
  | .irqRouteWrite .. => execIrqRouteWrite_keep rfl
  | .irqRouteCheckDone => execIrqRouteCheckDone_keep
  | .coefDataWrite .. => execCoefDataWrite_keep rfl
  | .coefDataRead .. => execCoefDataRead_keep
  | .lutDataWrite .. => execLutDataWrite_keep rfl
  | .lutDataRead .. => execLutDataRead_keep
  | .reflexSetReq .. => execReflexSetReq_keep rfl
  | .reflexClearReq .. => execReflexClearReq_keep rfl
  | .headStart .. => execHeadStart_keep rfl
  | .slackPoint .. => execSlackPoint_keep rfl
  | .holdCmdCapture .. => execHoldCmdCapture_keep rfl
  | .holdCmdExit .. => execHoldCmdExit_keep rfl
  | .lineSlotStart .. => execLineSlotStart_keep rfl
  | .layerFetchResponse .. => execLayerFetchResponse_keep
  | .bufferRelease .. => execBufferRelease_keep
  | .dphyClockLoss .. => execDphyClockLoss_keep
  | .tidepoolRegionClearDone .. => execTidepoolRegionClearDone_keep rfl
  | .cvuFeedStart .. => execCvuFeedStart_keep rfl
  | .cvuFeedData .. => execCvuFeedData_keep rfl
  | .cvuFeedEnd .. => execCvuFeedEnd_keep rfl
  | .jobDescriptorFetched .. => execJobDescriptorFetched_keep rfl
  | .jobReady .. => execJobReady_keep rfl
  | .coreDispatch => execCoreDispatch_keep rfl
  | .drawValidate .. => execDrawValidate_keep rfl
  | .binHeapExhausted .. => execBinHeapExhausted_keep rfl
  | .tileResolve .. => execTileResolve_keep rfl
  | .jobEnd .. => execJobEnd_keep rfl
  | .coreHang .. => execCoreHang_keep rfl
  | .l2FlushAll .. => execL2FlushAll_keep rfl
  | .l2FlushDone => execL2FlushDone_keep rfl
  | .deadlineEval .. => execDeadlineEval_keep
  | .preemptSaveDone .. => execPreemptSaveDone_keep rfl
  | .preemptTimeout .. => execPreemptTimeout_keep
  | .deadlineMiss .. => execDeadlineMiss_keep
  | .costFlush .. => execCostFlush_keep rfl
  | .costFlushAll .. => execCostFlushAll_keep rfl
  | .touchRestart .. => execTouchRestart_keep rfl
  | .touchRestartRetry .. => execTouchRestartRetry_keep
  | .touchPanelRestart .. => execTouchPanelRestart_keep rfl
  | .touchReacquire .. => execTouchReacquire_keep rfl
  | .touchDozeCmd .. => execTouchDozeCmd_keep rfl
  | .touchSlot .. => execTouchSlot_keep rfl
  | .touchFrameStart .. => execTouchFrameStart_keep rfl
  | .touchFrameProcessed .. => execTouchFrameProcessed_keep rfl
  | .touchDozeKeepalive .. => execTouchDozeKeepalive_keep
  | .hapticFrame .. => execHapticFrame_keep
  | .hapticPortRestart .. => execHapticPortRestart_keep
  | .hapticPortRestartCmd .. => execHapticPortRestartCmd_keep rfl
  | .hapticRestartRetry .. => execHapticRestartRetry_keep
  | .effectLoad .. => execEffectLoad_keep rfl
  | .effectLoadDone => execEffectLoadDone_keep
  | .effectFree .. => execEffectFree_keep rfl
  | .hapticTriggerGo .. => execHapticTriggerGo_keep rfl
  | .hapticTriggerStop .. => execHapticTriggerStop_keep rfl
  | .hapFaultPin .. => execHapFaultPin_keep
  | .hapticFaultClear .. => execHapticFaultClear_keep rfl
  | .reflexEvaluate => execReflexEvaluate_keep
  | .sampleBoundary .. => execSampleBoundary_keep rfl
  | .audioBlockMarker => execAudioBlockMarker_keep rfl
  | .audPortFrame .. => execAudPortFrame_keep
  | .audFsEdge .. => execAudFsEdge_keep
  | .audClockLoss .. => execAudClockLoss_keep
  | .bankLoad .. => execBankLoad_keep rfl
  | .bankLoadDone => execBankLoadDone_keep
  | .bankInvalidate .. => execBankInvalidate_keep rfl
  | .fadeTimeout => execFadeTimeout_keep rfl
  | .playerPreloadDone .. => execPlayerPreloadDone_keep
  | .trigFire .. => execTrigFire_keep rfl
  | .asrcCoefRead .. => execAsrcCoefRead_keep
  | .dramRequest .. => execDramRequest_keep rfl
  | .dramReadData .. => execDramReadData_keep rfl
  | .agePromotion .. => execAgePromotion_keep
  | .dramRefresh .. => execDramRefresh_keep
  | .mr4Read .. => execMr4Read_keep
  | .powerDownEntry .. => execPowerDownEntry_keep
  | .selfRefreshEntry .. => execSelfRefreshEntry_keep
  | .selfRefreshExit .. => execSelfRefreshExit_keep
  | .oscTracking .. => execOscTracking_keep
  | .dramTrainingDone .. => execDramTrainingDone_keep
  | .sweepGranuleDone .. => execSweepGranuleDone_keep rfl
  | .dramCmdError .. => execDramCmdError_keep rfl
  | .eccInject .. => execEccInject_keep rfl
  | .conversionSweepDone => execConversionSweepDone_keep rfl
  | .auditRoundStart => execAuditRoundStart_keep
  | .auditPassDone => execAuditPassDone_keep rfl
  | .kScrubStep .. => execKScrubStep_keep
  | .dramScrubStep => execDramScrubStep_keep rfl
  | .bulkClearDone .. => execBulkClearDone_keep
  | .bucketLeak .. => execBucketLeak_keep
  | .logPop .. => execLogPop_keep rfl
  | .perstRelease .. => execPerstRelease_keep
  | .portReadyTimeout .. => execPortReadyTimeout_keep rfl
  | .pcieConfigRequest .. => execPcieConfigRequest_keep
  | .pcieLinkDown .. => execPcieLinkDown_keep rfl
  | .pcieAerEvent .. => execPcieAerEvent_keep
  | .doorbell .. => execDoorbell_keep
  | .journalRdWrite .. => execJournalRdWrite_keep
  | .bar4Access .. => execBar4Access_keep rfl
  | .cplTimeout .. => execCplTimeout_keep rfl
  | .functionLevelReset .. => execFunctionLevelReset_keep rfl
  | .ringHeaderFetched .. => execRingHeaderFetched_keep
  | .ringDescriptorFetched .. => execRingDescriptorFetched_keep
  | .ringStopped .. => execRingStopped_keep
  | .nop .. => execNop_keep
  | .render .. => execRender_keep
  | .copy .. => execCopy_keep
  | .fenceSignal .. => execFenceSignal_keep rfl
  | .fenceWait .. => execFenceWait_keep
  | .regs .. => execRegs_keep rfl
  | .haptic .. => execHaptic_keep
  | .audioGain .. => execAudioGain_keep
  | .earcon .. => execEarcon_keep
  | .descriptorComplete .. => execDescriptorComplete_keep
  | .copyStart .. => execCopyStart_keep
  | .copyComplete .. => execCopyComplete_keep rfl
  | .journalRecordWrite .. => execJournalRecordWrite_keep rfl
  | .journalHoldoffEnd .. => execJournalHoldoffEnd_keep
  | .tenancyQuiesce .. => execTenancyQuiesce_keep rfl
  | .tenancyQuiesceTimeout .. => execTenancyQuiesceTimeout_keep rfl
  | .tenancyQuiesced .. => execTenancyQuiesced_keep rfl
  | .tenancyResume .. => execTenancyResume_keep rfl
  | .instanceReset .. => execInstanceReset_keep rfl
  | .instanceResetDone .. => execInstanceResetDone_keep
  | .ctxWrite .. => execCtxWrite_keep rfl
  | .potWrite .. => execPotWrite_keep rfl
  | .potWriteDone => execPotWriteDone_keep rfl
  | .potRead .. => execPotRead_keep rfl
  | .build .. => execBuild_keep rfl
  | .seal .. => execSeal_keep rfl
  | .destroy .. => execDestroy_keep rfl
  | .coveClearDone .. => execCoveClearDone_keep rfl
  | .extend .. => execExtend_keep rfl
  | .mailboxPost .. => execMailboxPost_keep rfl
  | .mailboxDone .. => execMailboxDone_keep rfl
  | .secureRestart .. => execSecureRestart_keep rfl
  | .secureRestartResume .. => execSecureRestartResume_keep
  | .watchdogKick .. => execWatchdogKick_keep rfl
  | .watchdogExpiry .. => execWatchdogExpiry_keep
  | .coreRun .. => execCoreRun_keep rfl
  | .coreHalt .. => execCoreHalt_keep rfl
  | .machineTimer .. => execMachineTimer_keep
  | .faultHit .. => execFaultHit_keep
  | .faultAccept => execFaultAccept_keep rfl
  | .faultBlockResetRelease => execFaultBlockResetRelease_keep
  | .maskingWindowEnd => execMaskingWindowEnd_keep
  | .busTimeout .. => execBusTimeout_keep
  | .nmiAck .. => execNmiAck_keep rfl
  | .release .. => execRelease_keep rfl
  | .inject .. => execInject_keep rfl
  | .selfInject .. => execSelfInject_keep rfl
  | .collectorSelfFault .. => execCollectorSelfFault_keep
  | .safeEntry => execSafeEntry_keep
  | .safeTransitionDone => execSafeTransitionDone_keep
  | .slotClear .. => execSlotClear_keep rfl
  | .resetNPin .. => execResetNPin_keep rfl
  | .swResetWarm .. => execSwResetWarm_keep rfl
  | .swResetCold .. => execSwResetCold_keep rfl
  | .debugReset => execDebugReset_keep rfl
  | .bootTimeout => execBootTimeout_keep rfl
  | .perstAssert .. => execPerstAssert_keep rfl
  | .hotReset .. => execHotReset_keep rfl
  | .coldReset .. => execColdReset_keep rfl
  | .warmReset .. => execWarmReset_keep rfl
  | .chipResetRelease => execChipResetRelease_keep
  | .domainResetRequest .. => execDomainResetRequest_keep rfl
  | .domainResetRelease .. => execDomainResetRelease_keep
  | .blockReset .. => execBlockReset_keep rfl
  | .blockResetDone .. => execBlockResetDone_keep
  | .optionLoadDone .. => execOptionLoadDone_keep
  | .optionLoadRetry => execOptionLoadRetry_keep
  | .bistDone => execBistDone_keep rfl
  | .rcvGo .. => execRcvGo_keep rfl
  | .recoveryVerifyDone .. => execRecoveryVerifyDone_keep
  | .program .. => execProgram_keep rfl
  | .otpProgramDone .. => execOtpProgramDone_keep
  | .read .. => execRead_keep rfl
  | .clearFf .. => execClearFf_keep rfl
  | .aliveToggle => execAliveToggle_keep
  | .tmbPortRestart .. => execTmbPortRestart_keep
  | .tmbRestartCmd .. => execTmbRestartCmd_keep rfl
  | .tmbRestartTimeout .. => execTmbRestartTimeout_keep
  | .tmbRestartRetry .. => execTmbRestartRetry_keep
  | .tmbFlitSlot .. => execTmbFlitSlot_keep
  | .tmbCheckFail .. => execTmbCheckFail_keep
  | .idle .. => execIdle_keep
  | .hello .. => execHello_keep
  | .tmbTime .. => execTmbTime_keep rfl
  | .timeEcho .. => execTimeEcho_keep
  | .readReq .. => execReadReq_keep
  | .readData .. => execReadData_keep
  | .write .. => execWrite_keep rfl
  | .mailbox .. => execMailbox_keep
  | .mbCredit .. => execMbCredit_keep
  | .heartbeat .. => execHeartbeat_keep
  | .lat .. => execLat_keep
  | .reset .. => execReset_keep rfl
  | .nak .. => execNak_keep
  | .tmbLinkSilence .. => execTmbLinkSilence_keep
  | .heartbeatSend => execHeartbeatSend_keep
  | .peerLost .. => execPeerLost_keep
  | .remoteReadTimeout => execRemoteReadTimeout_keep
  | .mirrorResyncDone .. => execMirrorResyncDone_keep
  | .timeExchangeSend .. => execTimeExchangeSend_keep
  | .remoteResetGo .. => execRemoteResetGo_keep rfl
  | .tmbMbPost .. => execTmbMbPost_keep rfl
  | .rxDone .. => execRxDone_keep rfl
  | .wakePinEdge .. => execWakePinEdge_keep
  | .gpioSet .. => execGpioSet_keep rfl
  | .gpioClr .. => execGpioClr_keep rfl
  | .bcXfer .. => execBcXfer_keep rfl
  | .entdaa .. => execEntdaa_keep
  | .bcTransferDone .. => execBcTransferDone_keep
  | .bcStretchTimeout .. => execBcStretchTimeout_keep
  | .bcIbi .. => execBcIbi_keep
  | .bcTxdata .. => execBcTxdata_keep rfl
  | .bcRxdata .. => execBcRxdata_keep
  | .bcIbiPop .. => execBcIbiPop_keep
  | .xspiCmd .. => execXspiCmd_keep rfl
  | .xspiCmdDone .. => execXspiCmdDone_keep
  | .dmaCmd .. => execDmaCmd_keep rfl
  | .xspiDmaDone .. => execXspiDmaDone_keep rfl
  | .xspiTxdata .. => execXspiTxdata_keep rfl
  | .xspiRxdata .. => execXspiRxdata_keep
  | .extest .. => execExtest_keep
  | .idcode => execIdcode_keep
  | .samplePreload .. => execSamplePreload_keep
  | .debug => execDebug_keep
  | .bypass => execBypass_keep
  | .thermalSample .. => execThermalSample_keep
  | .tmbBlockLock .. => execTmbBlockLock_keep
  | .workgroupRetired .. => execWorkgroupRetired_keep rfl
  | .passBinned .. => execPassBinned_keep
  | .pageQuiesceDone .. => execPageQuiesceDone_keep rfl
  | .ulpsWakeupEnd .. => execUlpsWakeupEnd_keep rfl
  | .pcieLinkUp .. => execPcieLinkUp_keep

/-- A command that stores no byte leaves the contents of every memory, by its places in the arrays. -/
theorem exec_sameMem {i : Instr} {s t : State} (hi : storesNothing i = true) (h : exec i s = .next t) : s.SameMem t :=
  (exec_keep i s t h).mem (by rw [hi]; rfl)

/-- No meaning of a command ends in a fault or a refusal. -/
theorem exec_next (i : Instr) (s : State) : ∃ t, exec i s = .next t := by
  cases i with
  | loSnapshotRead src bytes => cases src <;> exact ⟨_, rfl⟩
  | registerWrite via a v bytes => cases via <;> exact ⟨_, rfl⟩
  | _ => exact ⟨_, rfl⟩

/-! A step is a tick on an empty queue, and else the front command -/

theorem step_of_empty {s : State} (h : s.pending = []) : step s = .next s.tick := by
  rw [step, h]

theorem step_of_command {s : State} {c : Instr} {rest : List Instr} (h : s.pending = c :: rest) :
    step s = exec c { s with pending := rest } := by
  rw [step, h]

theorem State.tick_pending (s : State) : s.tick.pending = s.pending := by
  unfold State.tick
  split <;> rfl

theorem State.Wf.tick {s : State} (h : s.Wf) : s.tick.Wf := by
  unfold State.tick
  split <;> exact h

/-- The two cases of a step, with what each keeps. -/
theorem step_cases {s t : State} (h : step s = .next t) :
    (s.pending = [] ∧ t = s.tick) ∨ ∃ c rest, s.pending = c :: rest ∧ Keep true { s with pending := rest } t := by
  cases hq : s.pending with
  | nil =>
    rw [step_of_empty hq] at h
    exact .inl ⟨rfl, (Host.Outcome.next.inj h).symm⟩
  | cons c rest =>
    rw [step_of_command hq] at h
    have hk := exec_keep c _ t h
    exact .inr ⟨c, rest, rfl, hk.queue, hk.wf, fun hm => absurd hm (by decide)⟩

/-! DRAM words are found through the address map, which a BLOCK reset of `DRAM.MAP` puts back (R343, R344, R498) -/

/-- A device in RUN with its address map in order 1, in a BLOCK reset of `DRAM.MAP`. -/
def State.mapInReset : State :=
  (({ State.reset with mode := .run } : State).put dmapPage F.DMAP.MAP_CFG_ORDER 1).setCtl dmapPage
    { PageCtl.idle with inReset := some (⟨0, 1⟩, 0) }

/-- The same device with a check byte of 1 for the DRAM word at system address 16,384. -/
def State.checkedWord : State :=
  { State.mapInReset with dram := [(chkLoc (State.mapInReset.dramLoc 16384), 1)] }

theorem State.checkedWord_wf : State.checkedWord.Wf := by
  unfold State.Wf
  decide +kernel

/-- The end of the reset puts the map back to order 0, under which the address names another word of the arrays. -/
theorem State.checkedWord_moves :
    (State.checkedWord.blockRelease dmapPage).dramChkOf 2048 ≠ State.checkedWord.dramChkOf 2048 := by decide +kernel

end Sys2Proof.Machine
end

section
/-! Settles the statements about the machine as a whole. -/

namespace Sys2Proof.Machine

/-- Settles O1: it is the second case of the step's definition. -/
theorem stepRunsFront : Obligations.StepRunsFront :=
  fun _ _ _ h => step_of_command h

/-- Settles O12: the state after reset lists one register and no byte of memory. -/
theorem resetIsCanonical : Obligations.ResetIsCanonical := by
  unfold Obligations.ResetIsCanonical State.Wf
  decide +kernel

/-- Settles O13: a tick changes no table, and every command keeps the canonical form (`exec_keep`), whatever it does to the
registers and the memories. -/
theorem stepsKeepTheForm : Obligations.StepsKeepTheForm := by
  intro s t hs h
  rcases step_cases h with ⟨-, rfl⟩ | ⟨c, rest, -, hk⟩
  · exact hs.tick
  · exact hk.wf hs

/-- Settles O14: the front command is taken before it runs, and no command puts one in. -/
theorem stepTakesOneCommand : Obligations.StepTakesOneCommand := by
  intro s t h
  rcases step_cases h with ⟨hq, rfl⟩ | ⟨c, rest, hq, hk⟩
  · rw [State.tick_pending, hq]
    rfl
  · rw [hk.queue, hq]
    rfl

/-- Settles O15: a tick and every command have a next state. -/
theorem everyStepGoesOn : Obligations.EveryStepGoesOn := by
  intro s
  cases hq : s.pending with
  | nil => exact ⟨_, step_of_empty hq⟩
  | cons c rest =>
    obtain ⟨t, ht⟩ := exec_next c { s with pending := rest }
    exact ⟨t, (step_of_command hq).trans ht⟩

/-- Refutes O16: it reads check words by system address, so through the address map, and `blockResetDone` is a command of
`storesNothing` that puts `DRAM.MAP` back to its reset values.  No place of the arrays changes (`exec_sameMem`), but the word at
an address is then another one; the state that shows it is in canonical form (`State.checkedWord_wf`). -/
theorem not_quietCommandsStoreNothing : ¬ Obligations.QuietCommandsStoreNothing := by
  unfold Obligations.QuietCommandsStoreNothing
  intro h
  obtain ⟨-, -, -, hchk, -⟩ := h (.blockResetDone 0x301) State.checkedWord (State.checkedWord.blockRelease dmapPage) rfl rfl
  exact State.checkedWord_moves (hchk 2048)

end Sys2Proof.Machine
end

section
/-! SUPPORT. Hits of fault sources (R469, R470, R472): what each leaves in its bank and in the collector. -/

namespace Sys2Proof.Machine

/-- The event of a hit: an access that causes it is recorded, and else the owner of the page that raised it. -/
def State.hitEvent (s : State) (src arg acc : Nat) (r : Req) (addr : Nat) : Ev :=
  if srcAccess src then ⟨src, arg, acc, r.rid.toNat, r.tag.toNat, addr⟩ else ⟨src, arg, 0, 0, s.owner (srcPage src arg), 0⟩

theorem exec_faultHit (src : Fin 383) (arg : BitVec 16) (acc : Fin 5) (r : Req) (addr : BitVec 40) (s : State) :
    exec (.faultHit src arg acc r addr) s = .next (s.hitEv (s.hitEvent src.val arg.toNat acc.val r addr.toNat)) := by
  change Host.Outcome.next (s.hitCmd src.val arg.toNat acc.val r addr.toNat) = _
  unfold State.hitCmd State.hitEvent
  split <;> rfl

@[simp] theorem State.hitEvent_src (s : State) (src arg acc : Nat) (r : Req) (addr : Nat) :
    (s.hitEvent src arg acc r addr).src = src := by
  unfold State.hitEvent
  split <;> rfl

@[simp] theorem State.hitEvent_arg (s : State) (src arg acc : Nat) (r : Req) (addr : Nat) :
    (s.hitEvent src arg acc r addr).arg = arg := by
  unfold State.hitEvent
  split <;> rfl

/-- The counter of a source's hits, in the word that also holds `PENDING` and `MASKED`. -/
def hitsOf (src : Nat) : Fld := F.FBANK.SRC_COUNT_HITS.at (src % 48)

/-- A hit is counted and sets `RAISED`. -/
def State.hitSeen (s : State) (src : Nat) : State := (s.incSat (srcBank src) (hitsOf src)).setRaised src

/-- A hit in a masking window of its source's home domain sets `MASKED` as well. -/
def State.hitMarked (s : State) (home src arg : Nat) : State :=
  let u := s.hitSeen src
  if (u.maskedBy home src arg).isSome then u.put (srcBank src) (F.FBANK.SRC_COUNT_MASKED.at (src % 48)) 1 else u

/-- The event joins the queue of its aggregator. -/
def State.hitQueued (s : State) (home : Nat) (e : Ev) : State :=
  (s.put (srcBank e.src) (F.FBANK.SRC_COUNT_PENDING.at (e.src % 48)) 1).setAggr home (s.aggr home ++ [e])

theorem State.hitEv_of_reserved {s : State} {e : Ev} (h : srcInfo e.src = none) : s.hitEv e = s := by
  rw [State.hitEv, h]

section Present
variable {s : State} {e : Ev} {i : SrcInfo} (hi : srcInfo e.src = some i) (hp : srcPresent s.part e.src = true)
  (hoff : s.mode ≠ .off) (hbk : s.mode ≠ .backup)
include hi hp hoff hbk

theorem State.hitEv_of_present : s.hitEv e =
    if bit ((s.hitMarked i.home e.src e.arg).srcCfg e.src) 5 ∧ (s.hitMarked i.home e.src e.arg).srcPending e.src = false then
      (s.hitMarked i.home e.src e.arg).hitQueued i.home e
    else s.hitMarked i.home e.src e.arg := by
  rw [State.hitEv, hi]
  exact if_neg (by simp [hp, hoff, hbk])

theorem State.hitEv_of_queued (hen : bit ((s.hitMarked i.home e.src e.arg).srcCfg e.src) 5 = true)
    (hq : (s.hitMarked i.home e.src e.arg).srcPending e.src = false) :
    s.hitEv e = (s.hitMarked i.home e.src e.arg).hitQueued i.home e :=
  (State.hitEv_of_present hi hp hoff hbk).trans (if_pos ⟨hen, hq⟩)

theorem State.hitEv_of_not_queued (h : bit ((s.hitMarked i.home e.src e.arg).srcCfg e.src) 5 = false
      ∨ (s.hitMarked i.home e.src e.arg).srcPending e.src = true) : s.hitEv e = s.hitMarked i.home e.src e.arg := by
  refine (State.hitEv_of_present hi hp hoff hbk).trans (if_neg ?_)
  rintro ⟨hen, hq⟩
  simp [hen, hq] at h

end Present

/-! The words of a bank that a hit changes, and those that it does not -/

/-- The address of the word of `RAISED` that holds a source. -/
def raisedAt (src : Nat) : Nat := srcBank src + (if src % 48 < 32 then 0x200 else 0x204)

theorem raisedAt_bounds (src : Nat) : srcBank src + 0x200 ≤ raisedAt src ∧ raisedAt src ≤ srcBank src + 0x204 := by
  unfold raisedAt
  split <;> omega

@[simp] theorem hitsOf_off (src : Nat) : (hitsOf src).off = 0xF00 + 4 * (src % 48) := rfl
@[simp] theorem hitsOf_hi (src : Nat) : (hitsOf src).hi = 15 := rfl
@[simp] theorem hitsOf_lo (src : Nat) : (hitsOf src).lo = 0 := rfl
@[simp] theorem maskedOf_off (j : Nat) : (F.FBANK.SRC_COUNT_MASKED.at j).off = 0xF00 + 4 * j := rfl
@[simp] theorem maskedOf_hi (j : Nat) : (F.FBANK.SRC_COUNT_MASKED.at j).hi = 30 := rfl
@[simp] theorem maskedOf_lo (j : Nat) : (F.FBANK.SRC_COUNT_MASKED.at j).lo = 30 := rfl
@[simp] theorem pendingOf_off (j : Nat) : (F.FBANK.SRC_COUNT_PENDING.at j).off = 0xF00 + 4 * j := rfl
@[simp] theorem pendingOf_hi (j : Nat) : (F.FBANK.SRC_COUNT_PENDING.at j).hi = 31 := rfl
@[simp] theorem pendingOf_lo (j : Nat) : (F.FBANK.SRC_COUNT_PENDING.at j).lo = 31 := rfl

/-- A hit writes the count word and the `RAISED` word of its source alone. -/
theorem State.rd_hitSeen_other (s : State) {src a : Nat} (hc : a ≠ srcBank src + (hitsOf src).off) (hr : a ≠ raisedAt src) :
    (s.hitSeen src).rd a = s.rd a :=
  (State.rd_wr_other _ hr _).trans (State.rd_put_other _ hc _)

theorem State.incSat_regsWf {s : State} (h : s.RegsWf) (p : Nat) (x : Fld) (n : Nat) : (s.incSat p x n).RegsWf :=
  State.put_regsWf h _ _ _

theorem State.hitSeen_regsWf {s : State} (h : s.RegsWf) (src : Nat) : (s.hitSeen src).RegsWf :=
  State.wr_regsWf (State.incSat_regsWf h _ _ _) _ _

/-- `RAISED` of the source is set. -/
theorem State.rd_hitSeen_raised {s : State} (h : s.RegsWf) (src : Nat) :
    ((s.hitSeen src).rd (raisedAt src)).getLsbD (src % 48 % 32) = true := by
  have hj : src % 48 % 32 < 32 := Nat.mod_lt _ (by decide)
  change (((s.incSat (srcBank src) (hitsOf src)).wr (raisedAt src) _).rd (raisedAt src)).getLsbD _ = true
  rw [State.rd_wr_same (State.incSat_regsWf h _ _ _)]
  rw [BitVec.getLsbD_or, BitVec.getLsbD_ofNat, Nat.one_shiftLeft, Nat.testBit_two_pow_self, decide_eq_true hj]
  exact Bool.or_true _

/-- A field of the count word of a source after a hit is that field after the count. -/
theorem State.get_hitSeen (s : State) (src : Nat) {x : Fld} (hx : x.off = (hitsOf src).off) :
    (s.hitSeen src).get (srcBank src) x = (s.incSat (srcBank src) (hitsOf src)).get (srcBank src) x := by
  obtain ⟨-, hr⟩ := raisedAt_bounds src
  have hne : srcBank src + x.off ≠ raisedAt src := by
    rw [hx, hitsOf_off]
    omega
  exact congrArg x.get (State.rd_wr_other _ hne _)

theorem State.get_incSat {s : State} (h : s.RegsWf) (p : Nat) (x : Fld) (hl : x.lo ≤ x.hi) (hh : x.hi < 32) :
    (s.incSat p x).get p x = sat (ones x.width) (s.get p x + 1) := by
  have hle := sat_le (ones x.width) (s.get p x + 1)
  have hlt : ones x.width < 2 ^ x.width := by
    rw [ones, Nat.one_shiftLeft]
    exact Nat.sub_lt (Nat.two_pow_pos _) (by decide)
  rw [State.incSat, State.get_put h p x _ hl hh, Nat.mod_eq_of_lt (Nat.lt_of_le_of_lt hle hlt)]

section Marked
variable {s : State} (home src arg : Nat)

/-- A hit in a masking window or outside of all leaves what `P` says, where the mark keeps it. -/
theorem State.hitMarked_cases {P : State → Prop} (h : P (s.hitSeen src))
    (hm : P ((s.hitSeen src).put (srcBank src) (F.FBANK.SRC_COUNT_MASKED.at (src % 48)) 1)) :
    P (s.hitMarked home src arg) := by
  unfold State.hitMarked
  dsimp only
  split
  · exact hm
  · exact h

theorem State.rd_hitMarked_other {a : Nat} (ha : a ≠ srcBank src + (hitsOf src).off) :
    (s.hitMarked home src arg).rd a = (s.hitSeen src).rd a :=
  State.hitMarked_cases home src arg (P := fun t => t.rd a = (s.hitSeen src).rd a) rfl
    (State.rd_put_other _ (by simpa using ha) _)

theorem State.srcCfg_hitMarked : (s.hitMarked home src arg).srcCfg src = s.srcCfg src := by
  have hlt : src % 48 < 48 := Nat.mod_lt _ (by decide)
  obtain ⟨hr, -⟩ := raisedAt_bounds src
  have hc : srcBank src + 0x100 + 4 * (src % 48) ≠ srcBank src + (hitsOf src).off := by
    rw [hitsOf_off]
    omega
  have hne : srcBank src + 0x100 + 4 * (src % 48) ≠ raisedAt src := by omega
  unfold State.srcCfg
  rw [State.rd_hitMarked_other home src arg hc, State.rd_hitSeen_other s hc hne]

theorem State.hitMarked_flt : (s.hitMarked home src arg).flt = s.flt :=
  State.hitMarked_cases home src arg (P := fun t => t.flt = s.flt) rfl rfl

variable (h : s.RegsWf)
include h

theorem State.rd_hitMarked_raised :
    ((s.hitMarked home src arg).rd (raisedAt src)).getLsbD (src % 48 % 32) = true := by
  obtain ⟨-, hr⟩ := raisedAt_bounds src
  have hne : raisedAt src ≠ srcBank src + (hitsOf src).off := by
    rw [hitsOf_off]
    omega
  rw [State.rd_hitMarked_other home src arg hne, State.rd_hitSeen_raised h]

/-- `MASKED` stands beside the other fields of its word. -/
theorem State.get_hitMarked {x : Fld} (hx : x.off = (hitsOf src).off) (hh : x.hi < 32) (hd : x.hi < 30 ∨ 30 < x.lo) :
    (s.hitMarked home src arg).get (srcBank src) x = (s.incSat (srcBank src) (hitsOf src)).get (srcBank src) x := by
  rw [← State.get_hitSeen s src hx]
  refine State.hitMarked_cases home src arg (P := fun t => t.get _ x = (s.hitSeen src).get _ x) rfl ?_
  exact State.get_put_field (State.hitSeen_regsWf h src) _ _ _ _ (by simp) (by simp) hh (by simpa using hx) (by simpa using hd)

theorem State.get_hitMarked_hits : (s.hitMarked home src arg).get (srcBank src) (hitsOf src)
    = sat (ones (hitsOf src).width) (s.get (srcBank src) (hitsOf src) + 1) :=
  (State.get_hitMarked home src arg h rfl (by simp) (by simp)).trans (State.get_incSat h _ _ (by simp) (by simp))

theorem State.srcPending_hitMarked : (s.hitMarked home src arg).srcPending src = s.srcPending src := by
  have hx : (F.FBANK.SRC_COUNT_PENDING.at (src % 48)).off = (hitsOf src).off := by simp
  unfold State.srcPending State.flag
  rw [State.get_hitMarked home src arg h hx (by simp) (by simp), State.incSat,
    State.get_put_field h _ _ _ _ (by simp) (by simp) (by simp) hx (by simp)]

end Marked

end Sys2Proof.Machine
end

section
/-! Settles the statement about disabled sources. -/

namespace Sys2Proof.Machine

/-- Settles O2: a present source that is disabled takes the case of a hit that does not queue, which changes the words of
its bank alone; a reserved one has no entry in the catalog. -/
theorem disabledSources : Obligations.DisabledSources := by
  unfold Obligations.DisabledSources
  refine ⟨?disabled, ?reserved⟩
  case disabled =>
    intro s src arg acc r addr hwf hp hoff hbk hen
    have hregs := hwf.regs
    obtain ⟨i, hi⟩ : ∃ i, srcInfo src.val = some i := by
      cases hs : srcInfo src.val with
      | none => simp [srcPresent, hs] at hp
      | some i => exact ⟨i, rfl⟩
    have hit := State.hitEv_of_not_queued (s := s) (e := s.hitEvent src.val arg.toNat acc.val r addr.toNat) (i := i)
      (by simpa using hi) (by simpa using hp) hoff hbk
      (.inl (by rw [State.hitEvent_src, State.srcCfg_hitMarked]; exact hen))
    rw [State.hitEvent_src, State.hitEvent_arg] at hit
    refine ⟨_, (exec_faultHit src arg acc r addr s).trans (congrArg Host.Outcome.next hit), ?_, ?_, ?_, ?_⟩
    · exact State.get_hitMarked_hits _ _ _ hregs
    · exact State.rd_hitMarked_raised _ _ _ hregs
    · exact State.srcPending_hitMarked _ _ _ hregs
    · exact State.hitMarked_flt _ _ _
  case reserved =>
    intro s src arg acc r addr hi
    rw [exec_faultHit, State.hitEv_of_reserved (by rw [State.hitEvent_src]; exact hi)]

end Sys2Proof.Machine
end

section
/-! SUPPORT. The part of the state that says in which mode the device is and what its resets, its restart and its clock do: the
shared operations on counters, interrupts, faults, journals, links and ports leave it alone. -/

namespace Sys2Proof.Machine

/-- The fields that only the operations on modes, resets, restarts and time change. -/
structure Control where
  mode : Mode
  prev : Mode
  stby : Stby
  safeRun : Bool
  thyme : BitVec 64
  thymeRun : Bool
  restart : Restart
  rst : RstSt
  backup : Backup
  reflexQ : List RflxFrame

def State.control (s : State) : Control :=
  ⟨s.mode, s.prev, s.stby, s.safeRun, s.thyme, s.thymeRun, s.restart, s.rst, s.backup, s.reflexQ⟩

section Fields
variable {s t : State} (h : t.control = s.control)
include h

theorem State.mode_of_control : t.mode = s.mode := congrArg Control.mode h
theorem State.prev_of_control : t.prev = s.prev := congrArg Control.prev h
theorem State.safeRun_of_control : t.safeRun = s.safeRun := congrArg Control.safeRun h
theorem State.restart_of_control : t.restart = s.restart := congrArg Control.restart h
theorem State.backup_of_control : t.backup = s.backup := congrArg Control.backup h
theorem State.reflexQ_of_control : t.reflexQ = s.reflexQ := congrArg Control.reflexQ h
theorem State.now_of_control : t.now = s.now := congrArg (fun c => c.thyme.toNat) h

end Fields

/-! Loops -/

@[simp] theorem forN_control {f : Nat → State → State} (hf : ∀ k t, (f k t).control = t.control) (n : Nat) (s : State) :
    (forN f n s).control = s.control :=
  forN_keeps (P := fun t => t.control = s.control) (fun k t ht => (hf k t).trans ht) n rfl

@[simp] theorem forL_control {β : Type} {f : β → State → State} (hf : ∀ b t, (f b t).control = t.control) :
    ∀ (l : List β) (s : State), (forL f l s).control = s.control
  | [], _ => rfl
  | b :: l, s => (forL_control hf l (f b s)).trans (hf b s)

@[simp] theorem ite_control {c : Prop} [Decidable c] (s t : State) :
    (if c then s else t).control = if c then s.control else t.control := apply_ite State.control c s t

/-! Registers and tables -/

@[simp] theorem State.wr_control (s : State) (a : Nat) (w : Word) : (s.wr a w).control = s.control := rfl
@[simp] theorem State.put_control (s : State) (p : Nat) (x : Fld) (v : Nat) : (s.put p x v).control = s.control := rfl
@[simp] theorem State.put64_control (s : State) (p : Nat) (x : Fld) (v : Nat) : (s.put64 p x v).control = s.control := rfl
@[simp] theorem State.inc_control (s : State) (p : Nat) (x : Fld) (n : Nat) : (s.inc p x n).control = s.control := rfl
@[simp] theorem State.incSat_control (s : State) (p : Nat) (x : Fld) (n : Nat) : (s.incSat p x n).control = s.control := rfl
@[simp] theorem State.setCtl_control (s : State) (p : Nat) (c : PageCtl) : (s.setCtl p c).control = s.control := rfl
@[simp] theorem State.setJournal_control (s : State) (t : Nat) (j : Journal) : (s.setJournal t j).control = s.control := rfl
@[simp] theorem State.setCore_control (s : State) (c : Nat) (x : CoreSt) : (s.setCore c x).control = s.control := rfl
@[simp] theorem State.setHead_control (s : State) (h : Nat) (x : HeadSt) : (s.setHead h x).control = s.control := rfl
@[simp] theorem State.modHead_control (s : State) (h : Nat) (f : HeadSt → HeadSt) : (s.modHead h f).control = s.control := rfl
@[simp] theorem State.modLay_control (s : State) (h l : Nat) (f : LaySt → LaySt) : (s.modLay h l f).control = s.control := rfl
@[simp] theorem State.setRaster_control (s : State) (h : Nat) (x : Raster) : (s.setRaster h x).control = s.control := rfl
@[simp] theorem State.modPanel_control (s : State) (p : Nat) (f : PanelSt → PanelSt) : (s.modPanel p f).control = s.control := rfl
@[simp] theorem State.modHch_control (s : State) (c : Nat) (f : HapCh → HapCh) : (s.modHch c f).control = s.control := rfl
@[simp] theorem State.setHpt_control (s : State) (p : Nat) (x : HapPort) : (s.setHpt p x).control = s.control := rfl
@[simp] theorem State.setAport_control (s : State) (p : Nat) (x : APortSt) : (s.setAport p x).control = s.control := rfl
@[simp] theorem State.modTmb_control (s : State) (f : TmbSt → TmbSt) : (s.modTmb f).control = s.control := rfl
@[simp] theorem State.setTport_control (s : State) (p : Nat) (x : TPortSt) : (s.setTport p x).control = s.control := rfl
@[simp] theorem State.modTport_control (s : State) (p : Nat) (f : TPortSt → TPortSt) :
    (s.modTport p f).control = s.control := rfl
@[simp] theorem State.reportLat_control (s : State) (p : Nat) (d : Option Nat) : (s.reportLat p d).control = s.control := rfl
@[simp] theorem State.linkState_control (s : State) (k v : Nat) : (s.linkState k v).control = s.control := rfl
@[simp] theorem State.setRole_control (s : State) (r : Nat) : (s.setRole r).control = s.control := rfl
@[simp] theorem State.coreStart_control (s : State) (c : Nat) : (s.coreStart c).control = s.control := by
  simp [State.coreStart]

@[simp] theorem State.coreHalt_control (s : State) (c : Nat) : (s.coreHalt c).control = s.control := rfl

/-! Counters, interrupts, faults and journals -/

@[simp] theorem State.statTo_control (s : State) (m base i n : Nat) : (s.statTo m base i n).control = s.control := by
  unfold State.statTo
  split <;> rfl

@[simp] theorem State.stat_control (s : State) (base i n : Nat) : (s.stat base i n).control = s.control := by
  unfold State.stat
  split <;> simp

@[simp] theorem State.stat64_control (s : State) (base i n : Nat) : (s.stat64 base i n).control = s.control := by
  unfold State.stat64
  split <;> simp

@[simp] theorem State.intSet_control (s : State) (base mask : Nat) : (s.intSet base mask).control = s.control := by
  unfold State.intSet State.withLine
  dsimp only
  split <;> rfl

@[simp] theorem State.intBit_control (s : State) (base n : Nat) : (s.intBit base n).control = s.control :=
  s.intSet_control base _

@[simp] theorem State.setAggr_control (s : State) (d : Nat) (q : List Ev) : (s.setAggr d q).control = s.control := rfl
@[simp] theorem State.setRaised_control (s : State) (src : Nat) : (s.setRaised src).control = s.control := rfl

@[simp] theorem State.hitEv_control (s : State) (e : Ev) : (s.hitEv e).control = s.control := by
  cases hi : srcInfo e.src with
  | none => rw [State.hitEv_of_reserved hi]
  | some i =>
    unfold State.hitEv
    rw [hi]
    simp

@[simp] theorem State.hit_control (s : State) (src arg : Nat) : (s.hit src arg).control = s.control := s.hitEv_control _

@[simp] theorem State.hitAcc_control (s : State) (src arg acc rid tag addr : Nat) :
    (s.hitAcc src arg acc rid tag addr).control = s.control := s.hitEv_control _

@[simp] theorem State.jLose_control (s : State) (t seq : Nat) : (s.jLose t seq).control = s.control := by
  unfold State.jLose
  simp

@[simp] theorem State.jrec_control (s : State) (t typ base stamp : Nat) (pay : BitVec 128) :
    (s.jrec t typ base stamp pay).control = s.control := by
  unfold State.jrec
  dsimp only
  split <;> simp

@[simp] theorem State.jrecTo_control (s : State) (o typ base stamp : Nat) (pay : BitVec 128) :
    (s.jrecTo o typ base stamp pay).control = s.control := by
  unfold State.jrecTo
  split <;> simp

@[simp] theorem State.jrecOwn_control (s : State) (typ base stamp : Nat) (pay : BitVec 128) :
    (s.jrecOwn typ base stamp pay).control = s.control := s.jrecTo_control _ _ _ _ _

/-! Haptic ports -/

@[simp] theorem State.effectEnd_control (s : State) (c cause : Nat) : (s.effectEnd c cause).control = s.control := by
  unfold State.effectEnd
  split <;> simp

@[simp] theorem State.dequeue_control (s : State) (c : Nat) : (s.dequeue c).control = s.control := rfl

@[simp] theorem State.hptStop_control (s : State) (p : Nat) : (s.hptStop p).control = s.control := by
  unfold State.hptStop State.portEnds
  simp

/-! Answers to granule fetches -/

@[simp] theorem State.fallback_control (s : State) (h l j plane space addr cause : Nat) :
    (s.fallback h l j plane space addr cause).control = s.control := by
  unfold State.fallback
  dsimp only
  repeat' split
  all_goals simp

@[simp] theorem State.granArrives_control (s : State) (h l k y g : Nat) (d : BitVec 512) (display : Bool) :
    (s.granArrives h l k y g d display).control = s.control := by
  unfold State.granArrives
  simp

@[simp] theorem State.granFails_control (s : State) (h l k y g cause : Nat) :
    (s.granFails h l k y g cause).control = s.control := by
  unfold State.granFails
  split <;> simp

@[simp] theorem State.granResult_control (s : State) (h l k y g : Nat) (r : Option (BitVec 512)) (cause : Nat) :
    (s.granResult h l k y g r cause).control = s.control := by
  unfold State.granResult
  repeat' split
  all_goals simp

/-! Rasters and Tombolo ports -/

@[simp] theorem State.rasterOff_control (s : State) (h : Nat) : (s.rasterOff h).control = s.control := by
  unfold State.rasterOff
  dsimp only
  rw [State.put_control, State.reportLat_control, State.modHead_control]
  exact forL_control (fun k t => t.linkState_control k 0) _ _

@[simp] theorem State.readEnds_control (s : State) (r : TRead) (d : Option (List Byte)) (cause : Nat) :
    (s.readEnds r d cause).control = s.control := by
  unfold State.readEnds
  simp

@[simp] theorem State.mirUpdate_control (s : State) : s.mirUpdate.control = s.control := by
  unfold State.mirUpdate
  simp

@[simp] theorem State.roleCheck_control (s : State) (p : Nat) : (s.roleCheck p).control = s.control := by
  unfold State.roleCheck
  repeat' split
  all_goals simp

@[simp] theorem State.linkGone_control (s : State) (p : Nat) : (s.linkGone p).control = s.control := by
  unfold State.linkGone
  simp only [State.roleCheck_control, State.mirUpdate_control, State.modTmb_control, State.reportLat_control]
  rw [forL_control (fun k t => by simp), forL_control, State.modTport_control, forL_control (fun r t => by simp)]
  intro e t
  split <;> rfl

@[simp] theorem State.tportStop_control (s : State) (p : Nat) : (s.tportStop p).control = s.control := by
  unfold State.tportStop
  simp

end Sys2Proof.Machine
end

section
/-! SUPPORT. The collector's acceptance of events, the ends of reactions, its registers and the safe state (R473, R475,
R480–R484): one lemma per operation and case of its definition. -/

namespace Sys2Proof.Machine

/-! Acceptance (R475) -/

theorem exec_faultAccept (s : State) : exec .faultAccept s = .next s.acceptEvent := rfl

theorem State.acceptEvent_of_dead {s : State} (h : s.flt.dead = true) : s.acceptEvent = s := if_pos (.inl h)

theorem State.acceptEvent_of_none {s : State} (h : s.nextAggr = none) : s.acceptEvent = s := by
  unfold State.acceptEvent
  rw [h]
  exact ite_self s

/-- The oldest event of an aggregator leaves its queue and is no longer pending. -/
def State.eventTaken (s : State) (d : Nat) (e : Ev) (rest : List Ev) : State :=
  ({ s.setAggr d rest with flt := { (s.setAggr d rest).flt with rr := d + 1 } }).put (srcBank e.src)
    (F.FBANK.SRC_COUNT_PENDING.at (e.src % 48)) 0

/-- Its severity, and the counts of the collector and of its bank. -/
def State.severity (s : State) (e : Ev) : Nat := bits (s.srcCfg e.src) 7 6
def State.eventCounted (s : State) (e : Ev) : State := (s.stat fcollPage (s.severity e)).stat (srcBank e.src) 0

/-- What an event outside the masking windows does: its capture, its slot, the first-fault record, the FAULT record, and the
reactions that it calls for. -/
def State.eventActs (w : State) (e : Ev) (i : SrcInfo) (v cfg : Nat) : State :=
  let x := w.capture475 e i.home v ((cfg % 32) ||| (if e.src = 13 ∧ e.arg = 1 then reC else 0))
  let y := x.1.setActive v (x.1.active v ||| x.2.2)
  let z := y.setSlot v 0 (y.slotWord v 0 ||| (x.2.2 <<< 22))
  let f := (if x.2.1 = 0 ∧ 2 ≤ v ∧ z.backup.ff.cur.isNone then z.writeFF (z.slotWords v) else z).faultRecord e i.home v x.2.1
    x.2.2 w.now
  if x.2.2 = 0 then f else (f.waitTo (w.now + 3)).startReactions v e.src i.blk x.2.2

section Taken
variable {s u : State} {d : Nat} {e : Ev} {rest : List Ev} {i : SrcInfo} (hdead : s.flt.dead = false) (hoff : s.mode ≠ .off)
  (hbk : s.mode ≠ .backup) (hd : s.nextAggr = some d) (hq : s.aggr d = e :: rest) (hi : srcInfo e.src = some i)
  (hu : u = s.eventTaken d e rest)
include hdead hoff hbk hd hq hi hu

theorem State.acceptEvent_of_event : s.acceptEvent =
    match (u.eventCounted e).maskedBy i.home e.src e.arg with
    | some b => ((u.eventCounted e).mergeInto b.slot e.src).stat fcollPage 5
    | none => (u.eventCounted e).eventActs e i (u.severity e) (u.srcCfg e.src) := by
  subst hu
  unfold State.acceptEvent
  rw [if_neg (by simp [hdead, hoff, hbk]), hd]
  dsimp only
  rw [hq]
  dsimp only
  rw [hi]
  rfl

theorem State.acceptEvent_of_masked {b : BReact} (hm : (u.eventCounted e).maskedBy i.home e.src e.arg = some b) :
    s.acceptEvent = ((u.eventCounted e).mergeInto b.slot e.src).stat fcollPage 5 := by
  rw [State.acceptEvent_of_event hdead hoff hbk hd hq hi hu, hm]

theorem State.acceptEvent_of_unmasked (hm : (u.eventCounted e).maskedBy i.home e.src e.arg = none) :
    s.acceptEvent = (u.eventCounted e).eventActs e i (u.severity e) (u.srcCfg e.src) := by
  rw [State.acceptEvent_of_event hdead hoff hbk hd hq hi hu, hm]

end Taken

/-- A captured event: its record makes the slot valid, and the reactions `re` become active. -/
def State.eventCaptured (w : State) (e : Ev) (i : SrcInfo) (v re : Nat) : State :=
  let a := (w.writeRecord v e i.home v).setValid v true
  ((a.setActive v (a.active v ||| re)).setSlot v 0 ((a.setActive v (a.active v ||| re)).slotWord v 0 ||| (re <<< 22))).faultRecord
    e i.home v 0 re w.now

section Captured
variable {w : State} {e : Ev} {i : SrcInfo} {v cfg : Nat} (hsrc : e.src ≠ 13) (hact : w.active v = 0)
  (hval : w.slotValid v = false) (hv : v < 2)
include hsrc hact hval hv

/-- An event of a source without a forced reset that finds its slot free is captured there; its severity leaves the first-fault
record alone. -/
theorem State.eventActs_of_free : w.eventActs e i v cfg =
    if cfg % 32 = 0 then w.eventCaptured e i v (cfg % 32)
    else ((w.eventCaptured e i v (cfg % 32)).waitTo (w.now + 3)).startReactions v e.src i.blk (cfg % 32) := by
  have hreq : (cfg % 32) ||| (if e.src = 13 ∧ e.arg = 1 then reC else 0) = cfg % 32 := by
    rw [if_neg (fun h => hsrc h.1), Nat.or_zero]
  have hcap : w.capture475 e i.home v (cfg % 32) = ((w.writeRecord v e i.home v).setValid v true, 0, cfg % 32) := by
    unfold State.capture475
    simp [hact, hval]
  have hff : ∀ z : State, ¬((0 : Nat) = 0 ∧ 2 ≤ v ∧ z.backup.ff.cur.isNone = true) := fun _ h => absurd h.2.1 (by omega)
  unfold State.eventActs
  rw [hreq, hcap]
  dsimp only
  rw [if_neg (hff _)]
  rfl

theorem State.eventActs_of_no_reactions (h0 : cfg % 32 = 0) : w.eventActs e i v cfg = w.eventCaptured e i v 0 := by
  rw [State.eventActs_of_free hsrc hact hval hv, if_pos h0, h0]

theorem State.eventActs_of_reactions (h0 : cfg % 32 ≠ 0) : w.eventActs e i v cfg
    = ((w.eventCaptured e i v (cfg % 32)).waitTo (w.now + 3)).startReactions v e.src i.blk (cfg % 32) := by
  rw [State.eventActs_of_free hsrc hact hval hv, if_neg h0]

end Captured

/-! Holds and windows of B reactions (R473, R477) -/

section Hold
variable {s : State} {b : BReact} (hb : s.flt.breacts.find? (fun b => b.rel.isNone && b.tgt != .secure) = some b)
include hb

theorem State.bHoldEnd_of_core {c : Nat} (ht : b.tgt = .core c) {u : State} (hu : u = (s.waitTo (b.start + 3072)).coreStart c) :
    s.bHoldEnd = { u with flt := { u.flt with breacts := u.flt.breacts.map (fun x =>
      if x.tgt == b.tgt && x.rel.isNone then { x with rel := some u.now } else x) } } := by
  subst hu
  unfold State.bHoldEnd
  rw [hb]
  dsimp only
  rw [ht]

theorem State.bHoldEnd_of_domain {d : Nat} (ht : b.tgt = .domain d) :
    s.bHoldEnd = (s.waitTo (b.start + 3072)).domHoldEnd d := by
  unfold State.bHoldEnd
  rw [hb]
  dsimp only
  rw [ht]

end Hold

theorem State.windowEnd_of_released {s : State} {b : BReact} {k : Nat}
    (hb : s.flt.breacts.find? (fun b => b.rel.isSome) = some b) (hk : b.rel = some k) :
    s.windowEnd = ((s.waitTo (k + 64)).endB b.tgt).unmask := by
  unfold State.windowEnd
  rw [hb]
  dsimp only
  rw [hk]
  rfl

theorem State.busTimeout_of_domain {s : State} {d : Nat} (h : isDomain d = true) (acc : Nat) (r : Req) (addr : Nat) :
    s.busTimeout d acc r addr = s.hitAcc (busTimeoutSrc d) r.rid.toNat acc r.rid.toNat r.tag.toNat addr := if_pos h

/-! The registers of `FLT.CONTROL` and `FLT.CAPTURE` (R480, R481) -/

/-- The owner's write of a register that acts by its page's kind, on a page without rules of its own, has that effect. -/
theorem State.MayWrite.kindReg {s t : State} {r : Req} {a : Nat} {v : Word} {k : PKind} (h : s.MayWrite r a)
    (hk : (pinfoAt a).any (fun i => i.kind == k && offDefined i (offOf a)) = true) (hlow : 0x100 ≤ offOf a)
    (hp : pageOf a ∉ ownRulePages) (ht : s.kindWrite r k (pageOf a) (offOf a) v = some t) : s.cmdWrite r a v = t := by
  obtain ⟨i, hi, hkd⟩ := (Option.any_eq_true _ _).mp hk
  rw [Bool.and_eq_true, beq_iff_eq] at hkd
  obtain ⟨rfl, hd⟩ := hkd
  exact h.cmdWrite_kind hi hd hlow hp ht

section Reg
variable {s : State} {r : Req} {v : Word}

theorem State.MayWrite.nmiAck (h : s.MayWrite r (fcollPage + 0x108)) :
    s.cmdWrite r (fcollPage + 0x108) v = s.nmiAck r v :=
  h.kindReg (k := .fcoll) (by decide) (by decide) (by decide) rfl

theorem State.MayWrite.pinRelease (h : s.MayWrite r (fcollPage + 0x10C)) :
    s.cmdWrite r (fcollPage + 0x10C) 1 = s.pinRelease :=
  h.kindReg (k := .fcoll) (by decide) (by decide) (by decide) rfl

theorem State.MayWrite.inject (h : s.MayWrite r (fcollPage + 0x110)) (hv : bit v.toNat 31 = true) :
    s.cmdWrite r (fcollPage + 0x110) v = s.inject r v :=
  h.kindReg (k := .fcoll) (by decide) (by decide) (by decide) (congrArg some (if_pos hv))

theorem State.MayWrite.selfInject (h : s.MayWrite r (fcollPage + 0x114)) (hv : v.toNat % 65536 = 0x5AFE) :
    s.cmdWrite r (fcollPage + 0x114) v = s.selfFault 3 0x045 :=
  h.kindReg (k := .fcoll) (by decide) (by decide) (by decide) (congrArg some (if_pos hv))

theorem State.MayWrite.slotClear (h : s.MayWrite r (fcapPage + 0x200)) :
    s.cmdWrite r (fcapPage + 0x200) v = s.slotClear v :=
  h.kindReg (k := .fcap) (by decide) (by decide) (by decide) rfl

end Reg

/-- An acknowledged core is no longer one that the N reaction waits for. -/
def State.nmiAcked (s : State) (c : Nat) : State :=
  s.put fcollPage F.FCOLL.COLL_STATE_NMI_OPEN (s.get fcollPage F.FCOLL.COLL_STATE_NMI_OPEN &&& (15 ^^^ (1 <<< c)))

theorem State.nmiAck_of_core {s : State} {r : Req} {v : Word} {c : Nat} (hc : c < 4) (hr : r.rid.toNat = 0x80 + c)
    (hv : bit v.toNat c = true) : s.nmiAck r v =
      if s.get fcollPage F.FCOLL.COLL_STATE_NMI_OPEN ≠ 0 ∧ (s.nmiAcked c).get fcollPage F.FCOLL.COLL_STATE_NMI_OPEN = 0 then
        (s.nmiAcked c).endReactAll reN
      else s.nmiAcked c := by
  have hsub : r.rid.toNat - 0x80 = c := by omega
  unfold State.nmiAck
  rw [hsub]
  exact if_pos ⟨by omega, by omega, hv⟩

theorem State.inject_of_source {s : State} {r : Req} {v : Word} (hi : (srcInfo (bits v.toNat 8 0)).isSome = true)
    (hn : bits v.toNat 8 0 < 383) : s.inject r v = s.hit (bits v.toNat 8 0) (bits v.toNat 24 9) := by
  unfold State.inject
  refine if_neg ?_
  rintro (h | h)
  · simp [Option.isNone_iff_eq_none.mp h] at hi
  · omega

/-! A self-fault and the safe state (R483, R484) -/

theorem State.selfFault_of_dead {s : State} (h : s.flt.dead = true) (cause w : Nat) : s.selfFault cause w = s :=
  if_pos (.inr (.inr h))

@[simp] theorem State.safeBegin_thyme (s : State) (cause w : Nat) : (s.safeBegin cause w).thyme = s.thyme := by
  simp [State.safeBegin, State.triggered]

@[simp] theorem State.safeBegin_backup (s : State) (cause w : Nat) : (s.safeBegin cause w).backup = s.backup := by
  simp [State.safeBegin, State.triggered]

@[simp] theorem State.safeBegin_mode (s : State) (cause w : Nat) : (s.safeBegin cause w).mode = s.mode := by
  simp [State.safeBegin, State.triggered]

theorem State.owner_withFlt (s : State) (f : FaultSt) (base : Nat) : ({ s with flt := f } : State).owner base = s.owner base := rfl

theorem State.selfFault_of_live {s u : State} {cause w : Nat} (hoff : s.mode ≠ .off) (hbk : s.mode ≠ .backup)
    (hdead : s.flt.dead = false) (hchip : ∀ k, s.rst.chip ≠ some (.cold, k)) (hu : u = s.safeBegin cause w) :
    s.selfFault cause w = ({ u with flt := { u.flt with dead := true } }).writeFF
      [0x8030017F, u.owner fcollPage, 0, (w <<< 16) + 0x300, s.now % 0x100000000, s.now / 0x100000000, 0, 0, 0, 0,
        s.backup.count.word 0, s.mode.code] := by
  subst hu
  unfold State.selfFault
  rw [if_neg (by simp [hoff, hbk, hdead])]
  have hsrc : 0x80000000 + (3 <<< 20) + 383 = 0x8030017F := by decide
  have hsev : 3 <<< 8 = 0x300 := by decide
  have hrecord : ∀ (z : State) (o : Nat), z.owner fcollPage = o → z.now = s.now → z.backup = s.backup → z.mode = s.mode →
      z.writeFF [0x80000000 + (3 <<< 20) + 383, z.owner fcollPage, 0, (w <<< 16) + (3 <<< 8), z.now % 0x100000000,
        z.now / 0x100000000, 0, 0, 0, 0, z.backup.count.word 0, z.mode.code]
      = z.writeFF [0x8030017F, o, 0, (w <<< 16) + 0x300, s.now % 0x100000000, s.now / 0x100000000, 0, 0, 0, 0,
        s.backup.count.word 0, s.mode.code] := by
    intro z o ho hnow hbackup hmode
    rw [hsrc, hsev, ho, hnow, hbackup, hmode]
  split
  · next k hk => exact absurd hk (hchip k)
  · exact hrecord { s.safeBegin cause w with flt := { (s.safeBegin cause w).flt with dead := true } } _
      (State.owner_withFlt _ _ _) (congrArg BitVec.toNat (s.safeBegin_thyme cause w)) (s.safeBegin_backup cause w)
      (s.safeBegin_mode cause w)

/-- The mode becomes SAFE, and frames that wait for the reflex table are dropped. -/
def State.modeSafe (s : State) : State :=
  { s.put modePage F.MODE.MODE_STATE_IN_TRANSITION 1 with prev := s.mode, mode := .safe, reflexQ := [] }

theorem State.modeSafe_mode (s : State) : s.modeSafe.mode = .safe := rfl
theorem State.modeSafe_prev (s : State) : s.modeSafe.prev = s.mode := rfl
theorem State.modeSafe_reflexQ (s : State) : s.modeSafe.reflexQ = [] := rfl
theorem State.modeSafe_safeRun (s : State) : s.modeSafe.safeRun = s.safeRun := rfl

/-- The tick of the entry, at which `FAULT_N` is driven. -/
def State.safeTick (s : State) : State :=
  (s.waitTo (s.get64 fsafePage F.FSAFE.SAFE_TS_LO + 3)).put fcollPage F.FCOLL.COLL_STATE_PIN_DRIVEN 1

theorem State.safeTick_mode (s : State) : s.safeTick.mode = s.mode := by
  rw [State.safeTick, State.put_mode, State.waitTo_mode]

theorem State.safeTick_safeRun (s : State) : s.safeTick.safeRun = s.safeRun := by
  rw [State.safeTick, State.put_safeRun, State.waitTo_safeRun]

/-- The blocks that stop at the entry: heads, haptic ports, panels, audio ports and Tombolo ports. -/
def State.safeStops (s : State) : State :=
  let s := forN (fun h s => (s.rasterOff h).modHead h (fun x => { x with ulps := false })) 8 s
  let s := forN (fun p s => s.hptStop p) 2 s
  let s := forN (fun p (s : State) => if s.panelState p = 0 then s
    else s.modPanel p (fun x => { x with startAt := none, rst := none, retryAt := none, nextAt := none, frame := none })) 4 s
  let s := forN (fun p (s : State) => if s.get (aportPage p) F.APORT.PORT_STATE = 1
    then s.setAport p { s.aport p with fade := .zeros 1 } else s) 4 s
  forN (fun p (s : State) => if s.tState p = 0 then s else s.tportStop p) 2 s

theorem State.safeStops_control (s : State) : s.safeStops.control = s.control := by
  unfold State.safeStops
  simp

theorem State.safeEntry_of_run {s : State} (hrun : s.safeRun = true) (hm : s.mode ≠ .safe) :
    s.safeEntry = s.safeTick.modeSafe.safeStops := by
  unfold State.safeEntry
  rw [if_neg (by simp [hrun, hm])]
  rfl

theorem State.safeDone_of_stopped {s : State} (hm : s.mode = .safe) (hrun : s.safeRun = true)
    (hstop : ∀ p, p < 4 → s.get (aportPage p) F.APORT.PORT_STATE ≠ 1) :
    s.safeDone = (({ s.put modePage F.MODE.MODE_STATE_IN_TRANSITION 0 with safeRun := false }).modAudio (fun a => { a with
        mclkOff := true })).put64 modePage F.MODE.MODE_TS_LO s.now := by
  unfold State.safeDone
  rw [if_neg]
  · rfl
  · rintro (h | h | h)
    · exact h hm
    · exact absurd (hrun.symm.trans h) (by decide)
    · obtain ⟨p, hp, heq⟩ := List.any_eq_true.mp h
      exact hstop p (by simpa using lt_of_mem_upto hp) (beq_iff_eq.mp heq)

end Sys2Proof.Machine
end

section
/-! Settles the statement about faults that are taken. -/

namespace Sys2Proof.Machine

/-- Settles O49: a hit goes by whether its source is queued already, an event by its aggregator, its window and its slot, and
each register by its page's kind; the blocks that the entry into SAFE stops leave the mode alone. -/
theorem faultsAreTaken : Obligations.FaultsAreTaken := by
  unfold Obligations.FaultsAreTaken
  refine ⟨?hit, ?noEvent, ?event, ?dead, ?core, ?domain, ?window, ?timeout, ?nmi, ?release, ?inject, ?selfInject, ?mismatch,
    ?selfFault, ?deadFault, ?slots, ?safe, ?safeDone⟩
  case hit =>
    intro s src arg acc r addr i hi hp hoff hbk e u w
    have hsrc : (s.hitEvent src.val arg.toNat acc.val r addr.toNat).src = src.val := s.hitEvent_src _ _ _ _ _
    have harg : (s.hitEvent src.val arg.toNat acc.val r addr.toNat).arg = arg.toNat := s.hitEvent_arg _ _ _ _ _
    have hi' : srcInfo (s.hitEvent src.val arg.toNat acc.val r addr.toNat).src = some i := by rw [hsrc]; exact hi
    have hp' : srcPresent s.part (s.hitEvent src.val arg.toNat acc.val r addr.toNat).src = true := by rw [hsrc]; exact hp
    have hw : w = s.hitMarked i.home src.val arg.toNat := rfl
    rw [exec_faultHit, hw]
    refine ⟨fun hen hq => ?queued, fun h => ?notQueued⟩
    case queued =>
      have hit := State.hitEv_of_queued hi' hp' hoff hbk (by rw [hsrc, harg]; exact hen) (by rw [hsrc, harg]; exact hq)
      rw [hit, State.hitQueued, hsrc, harg]
      rfl
    case notQueued =>
      have hit := State.hitEv_of_not_queued hi' hp' hoff hbk (by rw [hsrc, harg]; exact h)
      rw [hit, hsrc, harg]
  case noEvent =>
    intro s h
    rw [exec_faultAccept, State.acceptEvent_of_none h]
  case event =>
    intro s d e rest i hdead hoff hbk hd hq hi u v w x y z f
    have hu : u = s.eventTaken d e rest := rfl
    have hunmasked : w.maskedBy i.home e.src e.arg = none → exec .faultAccept s = .next (w.eventActs e i v (u.srcCfg e.src)) :=
      fun hm => congrArg Host.Outcome.next (State.acceptEvent_of_unmasked hdead hoff hbk hd hq hi hu hm)
    refine ⟨fun hm => hunmasked hm, fun b hm => ?masked, fun hm hsrc h0 hact hval hv => ?quiet,
      fun hm hsrc h0 hact hval hv => ?reacts⟩
    case masked => exact congrArg Host.Outcome.next (State.acceptEvent_of_masked hdead hoff hbk hd hq hi hu hm)
    case quiet =>
      refine ⟨_, rfl, (hunmasked hm).trans (congrArg Host.Outcome.next ?_)⟩
      exact State.eventActs_of_no_reactions hsrc hact hval hv h0
    case reacts =>
      refine ⟨_, rfl, (hunmasked hm).trans (congrArg Host.Outcome.next ?_)⟩
      exact State.eventActs_of_reactions hsrc hact hval hv h0
  case dead =>
    intro s h
    rw [exec_faultAccept, State.acceptEvent_of_dead h]
  case core =>
    intro s b c hb ht u
    exact congrArg Host.Outcome.next (State.bHoldEnd_of_core hb ht rfl)
  case domain =>
    intro s b d hb ht
    exact congrArg Host.Outcome.next (State.bHoldEnd_of_domain hb ht)
  case window =>
    intro s b k hb hk
    exact congrArg Host.Outcome.next (State.windowEnd_of_released hb hk)
  case timeout =>
    intro s d acc r addr hd
    exact congrArg Host.Outcome.next (State.busTimeout_of_domain hd _ _ _)
  case nmi =>
    intro s r v c h hc hr hv o u
    have hexec : exec (.nmiAck r v) s = .next (s.nmiAck r v) := congrArg Host.Outcome.next h.nmiAck
    rw [hexec, State.nmiAck_of_core hc hr hv]
    refine ⟨fun ho => congrArg Host.Outcome.next (if_neg ?_), fun h0 hz => congrArg Host.Outcome.next (if_pos ⟨h0, hz⟩)⟩
    rintro ⟨h0, hz⟩
    exact ho.elim h0 (fun hne => hne hz)
  case release =>
    intro s r h
    exact congrArg Host.Outcome.next h.pinRelease
  case inject =>
    intro s r v h hv hi hn
    exact congrArg Host.Outcome.next ((h.inject hv).trans (State.inject_of_source hi hn))
  case selfInject =>
    intro s r v h hv _
    exact congrArg Host.Outcome.next (h.selfInject hv)
  case mismatch =>
    intro s w
    rfl
  case selfFault =>
    intro s cause w hoff hbk hdead hchip u
    exact State.selfFault_of_live hoff hbk hdead hchip rfl
  case deadFault =>
    intro s h cause w
    exact State.selfFault_of_dead h cause w
  case slots =>
    intro s r v h
    exact congrArg Host.Outcome.next h.slotClear
  case safe =>
    intro s hrun hm
    have hctl := s.safeTick.modeSafe.safeStops_control
    have hexec : exec .safeEntry s = .next s.safeTick.modeSafe.safeStops :=
      congrArg Host.Outcome.next (State.safeEntry_of_run hrun hm)
    refine ⟨_, hexec, ?_, ?_, ?_, ?_, (exec_keep .safeEntry s _ hexec).queue⟩
    · rw [State.mode_of_control hctl, State.modeSafe_mode]
    · rw [State.prev_of_control hctl, State.modeSafe_prev, State.safeTick_mode]
    · rw [State.reflexQ_of_control hctl, State.modeSafe_reflexQ]
    · rw [State.safeRun_of_control hctl, State.modeSafe_safeRun, State.safeTick_safeRun, hrun]
  case safeDone =>
    intro s hm hrun hstop
    exact congrArg Host.Outcome.next (State.safeDone_of_stopped hm hrun hstop)

end Sys2Proof.Machine
end

section
/-! SUPPORT. The end of a channel's training, the sweep, errors of commands and injected errors of DRAM (R354, R356, R357,
R362): one lemma per case of each operation. -/

namespace Sys2Proof.Machine

/-! Training (R354) -/

theorem exec_dramTrainingDone (c : Fin 8) (f : Option (Fin 7)) (s : State) :
    exec (.dramTrainingDone c f) s = .next (s.trainDone c.val (f.map (·.val))) := rfl

theorem State.trainDone_of_not_training {s : State} {c : Nat} (h : s.chanState c ≠ 1) (f : Option Nat) :
    s.trainDone c f = s := if_pos h

/-- The registers of a trained channel: READY, its last step, its interrupt and the lock of its PHY. -/
def State.trained (s : State) (c : Nat) : State :=
  (((s.put (chanPage c) F.DCHAN.CHAN_STATE_STATE 2).put (chanPage c) F.DCHAN.CHAN_STATE_TRAIN_STEP 6).intBit
    (chanPage c) 0).put (pg 0x01 1) F.DIV.PHY_PLL_STATUS_DRAM_PLL_LOCKED 1

theorem State.trained_now (s : State) (c : Nat) : (s.trained c).now = s.now :=
  State.now_of_control (by simp [State.trained])

theorem State.trainDone_ready {s : State} {c : Nat} (h : s.chanState c = 1) :
    s.trainDone c none = (s.trained c).modDchan c (fun x => { x with
      mr4At := s.now, oscAt := s.now + 61440000, respAt := s.now, cmd0 := s.now, cmd1 := s.now }) := by
  have hdef : s.trainDone c none = (s.trained c).modDchan c (fun x => { x with
      mr4At := (s.trained c).now, oscAt := (s.trained c).now + 61440000, respAt := (s.trained c).now,
      cmd0 := (s.trained c).now, cmd1 := (s.trained c).now }) := if_neg (fun hne => hne h)
  rw [hdef, State.trained_now]

theorem State.trainDone_failed {s : State} {c : Nat} (h : s.chanState c = 1) (k : Nat) :
    s.trainDone c (some k) = ((s.put (chanPage c) F.DCHAN.CHAN_STATE_STATE 3).put (chanPage c)
      F.DCHAN.CHAN_STATE_TRAIN_STEP k).hit 216 (16 * c + k) := if_neg (fun hne => hne h)

/-! The sweep (R356) -/

theorem State.sweepDone_of_idle {s : State} (h : s.flag dsweepPage F.DSWEEP.SWEEP_STATE_ACTIVE = false) (g : Nat) :
    s.sweepDone g = s := if_pos (.inl h)

theorem State.sweepDone_of_other {s : State} {g : Nat} (h : s.dc.sweep.cur.contains g = false) : s.sweepDone g = s :=
  if_pos (.inr h)

/-- A granule that was not swept yet reads 0. -/
def State.granuleZero (s : State) (g : Nat) : State :=
  if s.swept g then s else (s.dramDrop (fun a => a / 0x10000000 == g)).setSwept g

/-- The requests that wait for a granule leave the sweep, and are served in their order. -/
def State.granuleServed (s : State) (g : Nat) : State :=
  forL (fun q v => (v.dramEnq q).dramDrain (v.rqChan q)) (s.dc.sweep.wait.filter (fun q => granuleOf q.rq.addr == g))
    (s.modDc (fun d => { d with sweep := { d.sweep with
      cur := d.sweep.cur.filter (· != g), want := d.sweep.want.filter (· != g),
      wait := d.sweep.wait.filter (fun q => granuleOf q.rq.addr != g) } }))

/-- The next granules start, and the sweep is over when none is left. -/
def State.sweepGoesOn (s : State) : State := if s.dc.sweep.cur = [] then s.sweepFinish else s

theorem State.sweepDone_of_current {s : State} {g : Nat} (ha : s.flag dsweepPage F.DSWEEP.SWEEP_STATE_ACTIVE = true)
    (hg : s.dc.sweep.cur.contains g = true) : s.sweepDone g = ((s.granuleZero g).granuleServed g).sweepFill.sweepGoesOn := by
  have hrun : ¬(s.flag dsweepPage F.DSWEEP.SWEEP_STATE_ACTIVE = false ∨ s.dc.sweep.cur.contains g = false) := by
    rw [ha, hg]
    decide
  have hzero : (if s.swept g then s else (s.dramDrop (fun a => a / 0x10000000 == g)).setSwept g) = s.granuleZero g := rfl
  have hserved : ∀ u : State, forL (fun q v => (v.dramEnq q).dramDrain (v.rqChan q))
      (u.dc.sweep.wait.filter (fun q => granuleOf q.rq.addr == g))
      (u.modDc (fun d => { d with sweep := { d.sweep with
        cur := d.sweep.cur.filter (· != g), want := d.sweep.want.filter (· != g),
        wait := d.sweep.wait.filter (fun q => granuleOf q.rq.addr != g) } })) = u.granuleServed g := fun _ => rfl
  unfold State.sweepDone
  rw [if_neg hrun, hzero]
  dsimp only
  rw [hserved]
  generalize (s.granuleZero g).granuleServed g = w
  rfl

/-! Commands that mismatch their copy (R357) -/

theorem exec_dramCmdError (c : Fin 8) (serves again : Bool) (s : State) :
    exec (.dramCmdError c serves again) s = .next (s.dramCmdError c.val serves again) := rfl

theorem State.dramCmdError_of_not_ready {s : State} {c : Nat} (h : s.chanState c ≠ 2) (serves again : Bool) :
    s.dramCmdError c serves again = s := if_pos h

theorem State.dramCmdError_of_no_request {s : State} {c : Nat} (h : s.chanState c = 2) (again : Bool) :
    s.dramCmdError c false again = if again then (s.cmdErr c 0 none).chanFail c none else s.cmdErr c 0 none :=
  if_neg (fun hne => hne h)

/-- The request that a failed command served leaves the queue; the block of a write is poisoned, and the channel fails with a
rewrite that fails too. -/
def State.cmdDropped (s : State) (c : Nat) (q : DramRq) (again : Bool) : State :=
  let u := (s.cmdErr c 0 (some q)).modDc (fun d => { d with queue := dropFirst (fun x => x == q) d.queue })
  if q.rq.write then (if again then (u.blockPoison q.rq.addr).chanFail c (some q) else u.blockPoison q.rq.addr) else u

theorem State.dramCmdError_of_request {s u : State} {c : Nat} {q : DramRq} {again : Bool} (h : s.chanState c = 2)
    (hq : (s.dramCands c).head? = some q) (hu : u = s.cmdDropped c q again) :
    s.dramCmdError c true again = (if q.fix then u else u.dramReply q.rq q.stream false []).dramAdmit := by
  subst hu
  have hne : ¬s.chanState c ≠ 2 := fun hne => hne h
  unfold State.dramCmdError
  rw [if_neg hne, if_pos rfl, hq]
  rfl

/-! `INJ_CTL` (R362) -/

/-- The owner's write of a register that acts by its page's kind, where no rule of its own grants it, has that effect. -/
theorem State.MayWrite.ownedReg {s t : State} {r : Req} {a : Nat} {v : Word} {k : PKind} (h : s.MayWrite r a)
    (hn : s.ownRule r a v = none) (hk : (pinfoAt a).any (fun i => i.kind == k && offDefined i (offOf a)) = true)
    (hlow : 0x100 ≤ offOf a) (ht : s.kindWrite r k (pageOf a) (offOf a) v = some t) : s.cmdWrite r a v = t := by
  obtain ⟨i, hi, hkd⟩ := (Option.any_eq_true _ _).mp hk
  rw [Bool.and_eq_true, beq_iff_eq] at hkd
  obtain ⟨rfl, hd⟩ := hkd
  have hfence : ¬(offOf a = 0x058 ∨ offOf a = 0x060 ∨ offOf a = 0x064) := by omega
  rw [h.plain v hi hd (by omega) hn, State.writeEffect]
  dsimp only
  rw [if_neg (by omega), if_neg (by omega), if_neg (by omega), if_neg (by omega), if_neg (fun hc => hfence hc.1), ht]

/-- A write of a register that a rule of its own grants or refuses has that rule's effect. -/
theorem State.Reaches.ruledReg {s : State} {r : Req} {a : Nat} {v : Word} {x : State × Bool} (h : s.Reaches r a)
    (hd : (pinfoAt a).any (fun i => offDefined i (offOf a)) = true) (ho : offOf a ≠ 0x018) (hn : s.ownRule r a v = some x) :
    s.cmdWrite r a v = x.1 := by
  obtain ⟨i, hi, hd⟩ := (Option.any_eq_true _ _).mp hd
  exact h.own v hi hd ho hn

theorem State.ownRule_injCtl (s : State) (r : Req) (v : Word) : s.ownRule r (deccPage + 0x10C) v =
    if r.tag = 1 then none else some (s.violation r (deccPage + 0x10C) true, true) := rfl

theorem State.kindWrite_injCtl {s : State} {r : Req} (h : r.tag = 1) (v : Word) :
    s.kindWrite r .decc (pageOf (deccPage + 0x10C)) (offOf (deccPage + 0x10C)) v
      = some (s.put deccPage F.DECC.INJ_CTL (v.toNat % 4)) := congrArg some (if_pos h)

theorem State.MayWrite.injCtl {s : State} {r : Req} (h : s.MayWrite r (deccPage + 0x10C)) (ht : r.tag = 1) (v : Word) :
    s.cmdWrite r (deccPage + 0x10C) v = s.put deccPage F.DECC.INJ_CTL (v.toNat % 4) :=
  h.ownedReg ((s.ownRule_injCtl r v).trans (if_pos ht)) (by decide) (by decide) (State.kindWrite_injCtl ht v)

theorem State.Reaches.injCtl_denied {s : State} {r : Req} (h : s.Reaches r (deccPage + 0x10C)) (ht : r.tag ≠ 1) (v : Word) :
    s.cmdWrite r (deccPage + 0x10C) v = s.violation r (deccPage + 0x10C) true :=
  h.ruledReg (by decide) (by decide) ((s.ownRule_injCtl r v).trans (if_neg ht))

end Sys2Proof.Machine
end

section
/-! Settles the statement about training, the sweep and errors of DRAM. -/

namespace Sys2Proof.Machine

/-- Settles O47: each clause is the case of the training's end, of the sweep, of the failed command or of the register's rule
that its hypotheses name. -/
theorem dramTrainingSweepErrors : Obligations.DramTrainingSweepErrors := by
  unfold Obligations.DramTrainingSweepErrors
  refine ⟨?notTraining, ?ready, ?failed, ?noSweep, ?otherGranule, ?granule, ?notReady, ?noRequest, ?request, ?inject, ?denied⟩
  case notTraining =>
    intro s c f h
    rw [exec_dramTrainingDone, State.trainDone_of_not_training h]
  case ready =>
    intro s c h
    exact (exec_dramTrainingDone c none s).trans (congrArg Host.Outcome.next (State.trainDone_ready h))
  case failed =>
    intro s c k h
    exact (exec_dramTrainingDone c (some k) s).trans (congrArg Host.Outcome.next (State.trainDone_failed h k.val))
  case noSweep =>
    intro s g h
    exact congrArg Host.Outcome.next (State.sweepDone_of_idle h g.val)
  case otherGranule =>
    intro s g h
    exact congrArg Host.Outcome.next (State.sweepDone_of_other h)
  case granule =>
    intro s g ha hg u w
    have hu : s.granuleZero g.val = u := rfl
    have hw : u.granuleServed g.val = w := rfl
    have hdone := State.sweepDone_of_current ha hg
    rw [hu, hw] at hdone
    clear_value w
    exact congrArg Host.Outcome.next hdone
  case notReady =>
    intro s c a b h
    rw [exec_dramCmdError, State.dramCmdError_of_not_ready h]
  case noRequest =>
    intro s c h
    have herr := State.dramCmdError_of_no_request h
    exact ⟨congrArg Host.Outcome.next (herr false), congrArg Host.Outcome.next (herr true)⟩
  case request =>
    intro s c q again h hq u w
    exact congrArg Host.Outcome.next (State.dramCmdError_of_request h hq rfl)
  case inject =>
    intro s r v h ht
    exact congrArg Host.Outcome.next (h.injCtl ht v)
  case denied =>
    intro s r v h ht
    exact congrArg Host.Outcome.next (h.injCtl_denied ht v)

end Sys2Proof.Machine
end

section
/-! SUPPORT. The conversion sweep, the audit, the scrubs, bulk clears, leaks and the log of stored-data integrity (R371, R378–R384,
R391): one lemma per case of each operation. -/

namespace Sys2Proof.Machine

/-! The conversion sweep (R371, R372) -/

/-- The encoding that the current mode calls for. -/
def State.codeOfMode (s : State) : Bool := s.mode != .run && s.mode != .standby

theorem exec_conversionSweepDone (s : State) : exec .conversionSweepDone s = .next s.convEnd := rfl

theorem State.codeOfMode_eq (s : State) :
    (match s.mode with | .run => false | .standby => false | _ => true) = s.codeOfMode := by
  unfold State.codeOfMode
  cases s.mode <;> rfl

/-- A bank is re-encoded word by word. -/
def State.bankConverted (toA : Bool) (b : Nat) (s : State) : State :=
  (forL (fun w u => if u.poolA w = toA then u else u.reencode w toA) (s.bankWords b) s).setBank b ⟨0, toA, 0⟩

theorem State.convEnd_eq (s : State) :
    s.convEnd = (forL (State.bankConverted s.codeOfMode) s.classS s).put mmodePage F.MMODE.CONVERT_STATE_DONE 1 := by
  have hdef : s.convEnd = (forL (State.bankConverted (match s.mode with | .run => false | .standby => false | _ => true))
      s.classS s).put mmodePage F.MMODE.CONVERT_STATE_DONE 1 := rfl
  rw [hdef, State.codeOfMode_eq]

/-! The audit (R378, R379) -/

theorem State.auditDue_of_disabled {s : State} (h : s.enabled mscrubPage = false) : s.auditDue = s := if_pos (.inl h)

section Due
variable {s u : State} (he : s.enabled mscrubPage = true) (ha : s.flag mscrubPage F.MSCRUB.AUDIT_CFG_AUDIT_EN = true)
  (hp : s.pMode = true) (hu : u = s.waitTo (s.mem.auditAt + 1024 * s.get mscrubPage F.MSCRUB.AUDIT_CFG_AUDIT_PERIOD))
include he ha hp hu

theorem State.auditDue_of_enabled :
    s.auditDue = if u.mem.auditOn then { u with mem := { u.mem with auditLate := true } } else u.auditStart := by
  subst hu
  exact if_neg (by simp [he, ha, hp])

theorem State.auditDue_of_idle (h : s.mem.auditOn = false) : s.auditDue = u.auditStart := by
  have hon : ¬u.mem.auditOn = true := by
    rw [hu, State.waitTo_mem, h]
    exact Bool.false_ne_true
  rw [State.auditDue_of_enabled he ha hp hu, if_neg hon]

theorem State.auditDue_of_running (h : s.mem.auditOn = true) :
    s.auditDue = { u with mem := { u.mem with auditLate := true } } := by
  have hon : u.mem.auditOn = true := by
    rw [hu, State.waitTo_mem, h]
  rw [State.auditDue_of_enabled he ha hp hu, if_pos hon]

end Due

theorem State.auditPass_of_idle {s : State} (h : s.mem.auditOn = false) : s.auditPass = s := if_pos h

theorem State.auditPass_of_abandoned {s : State} (h : s.mem.auditOn = true) (hp : s.pMode = false) :
    s.auditPass = s.auditAbandon := by
  unfold State.auditPass
  rw [if_neg (by simp [h]), if_pos hp]

/-- Every word of the bank that the audit holds is audited, unless the bank is already being converted. -/
def State.bankAudited (s : State) : State :=
  let b := s.get mscrubPage F.MSCRUB.AUDIT_STATE_BANK
  if (s.bank b).phase = 1 ∨ (s.bank b).phase = 2 then s
  else (forL (fun w v => v.auditWord w) (s.bankWords b) s).setBank b ⟨0, false, 0⟩

/-- The round is over: it is counted, and a late one follows at once. -/
def State.roundCounted (u : State) : State := (u.inc mscrubPage F.MSCRUB.AUDIT_ROUNDS).put mscrubPage F.MSCRUB.AUDIT_STATE_PHASE 0
def State.roundEnded (w : State) : State :=
  if w.mem.auditLate then (w.inc mscrubPage F.MSCRUB.OVERRUNS_LATE).auditStart
  else { w with mem := { w.mem with auditOn := false } }

section Pass
variable {s u : State} (h : s.mem.auditOn = true) (hp : s.pMode = true) (hu : u = s.bankAudited)
include h hp hu

theorem State.auditPass_of_running : s.auditPass =
    match u.classS.find? (fun x => decide (s.get mscrubPage F.MSCRUB.AUDIT_STATE_BANK < x)) with
    | some n => u.auditBank n
    | none => u.roundCounted.roundEnded := by
  subst hu
  unfold State.auditPass
  rw [if_neg (by simp [h]), if_neg (by simp [hp])]
  rfl

theorem State.auditPass_of_next {n : Nat}
    (hn : u.classS.find? (fun x => decide (s.get mscrubPage F.MSCRUB.AUDIT_STATE_BANK < x)) = some n) :
    s.auditPass = u.auditBank n := by
  rw [State.auditPass_of_running h hp hu, hn]

theorem State.auditPass_of_last
    (hn : u.classS.find? (fun x => decide (s.get mscrubPage F.MSCRUB.AUDIT_STATE_BANK < x)) = none) :
    s.auditPass = u.roundCounted.roundEnded := by
  rw [State.auditPass_of_running h hp hu, hn]

end Pass

/-! The scrubs (R380, R381) -/

theorem State.kScrub_of_disabled {s : State} (h : s.enabled mscrubPage = false) (f : Option (Nat × Nat × Nat × Nat)) :
    s.kScrub f = s := if_pos (.inl h)

/-- The step's time. -/
def State.kScrubbed (s : State) : State :=
  let u := s.waitTo (s.mem.kAt + s.get mscrubPage F.MSCRUB.K_SCRUB_CFG_K_SCRUB_STEP)
  { u with mem := { u.mem with kAt := u.now } }

/-- The log's entry for damage of class K, and what the damage does by its cause: a correction, an uncorrectable word, or a
replayed one. -/
def State.kEntry (w : State) (bank word cause syn : Nat) : BitVec 256 := logEntry cause (96 + bank) syn 0xA2 0 1 0 0 word w.now
def State.kDamaged (w : State) (bank cause : Nat) (e : BitVec 256) : State :=
  if cause = 0 then (w.bucketAdd 1 true).logAdd e
  else
    let x := (w.logAdd e).hitAcc 220 (96 + bank) 1 0xA2 0 0
    if cause = 2 then x else x.stat mscrubPage 2

section KScrub
variable {s w : State} (he : s.enabled mscrubPage = true) (hk : s.flag mscrubPage F.MSCRUB.K_SCRUB_CFG_K_SCRUB_EN = true)
  (hw : w = s.kScrubbed)
include he hk hw

theorem State.kScrub_of_clean : s.kScrub none = w := by
  subst hw
  exact if_neg (by simp [he, hk])

theorem State.kScrub_of_damage (bank word cause syn : Nat) :
    s.kScrub (some (bank, word, cause, syn)) = w.kDamaged bank cause (w.kEntry bank word cause syn) := by
  subst hw
  unfold State.kScrub
  rw [if_neg (by simp [he, hk])]
  rfl

end KScrub

theorem State.dramScrub_of_disabled {s : State} (h : s.enabled mscrubPage = false) : s.dramScrub = s := if_pos (.inl h)

/-- The block at `a` is read and its words are scrubbed, and the pointer moves to the next block. -/
def State.blockScrubbed (u : State) (a : Nat) : State :=
  let r := (u.scrubWake (u.dramChan a).1).dramServed ⟨0xA1, 0, a, 64, false, false, false⟩ 3
  (forN (fun j v => v.scrubWord (a / 8 + j) (v.dramDec (a / 8 + j))) 8 r).stat mscrubPage 3
def State.scrubMoved (v : State) (a : Nat) : State :=
  if v.vBytes ≤ a + 64 then (v.put64 mscrubPage F.MSCRUB.SCRUB_PTR_LO 0).inc mscrubPage F.MSCRUB.SCRUB_PASSES
  else v.put64 mscrubPage F.MSCRUB.SCRUB_PTR_LO (a + 64)

theorem State.dramScrub_of_enabled {s u w : State} {a : Nat} (he : s.enabled mscrubPage = true)
    (hc : s.flag mscrubPage F.MSCRUB.SCRUB_CFG_SCRUB_EN = true) (hd : s.flag (pg 0x30 5) F.DSWEEP.SWEEP_STATE_DONE = true)
    (hg : s.enabled dglobPage = true) (hv : s.vBytes ≠ 0)
    (hu : u = s.waitTo (s.mem.scrubAt + s.get mscrubPage F.MSCRUB.SCRUB_CFG_SCRUB_STEP))
    (ha : a = u.get64 mscrubPage F.MSCRUB.SCRUB_PTR_LO % (1 <<< 40)) (hw : w = (u.blockScrubbed a).scrubMoved a) :
    s.dramScrub = { w with mem := { w.mem with scrubAt := w.now } } := by
  subst hw ha hu
  unfold State.dramScrub
  rw [if_neg (by simp [he, hc, hd, hg, hv])]
  rfl

/-! Leaks and the log (R384, R391) -/

theorem State.bucketLeak_of_disabled {s : State} (h : s.enabled bucketPage = false) (b : Nat) : s.bucketLeak b = s := if_pos h

theorem State.bucketLeak_of_enabled {s : State} (h : s.enabled bucketPage = true) (b : Nat) :
    s.bucketLeak b =
      let u := s.waitTo (ctrGet s.leakAt b)
      { u.put bucketPage (F.MBUCKET.LEVEL.at b) (u.get bucketPage (F.MBUCKET.LEVEL.at b) - 1) with
        leakAt := (amSet (fun _ => 0) u.leakAt b (ctrGet s.leakAt b
          + 1024 * u.get bucketPage (F.MBUCKET.BUCKET_LEAK.at b))) } := if_neg (by simp [h])

theorem State.MayWrite.logPop {s : State} {r : Req} (h : s.MayWrite r (logPage + 0x104)) :
    s.cmdWrite r (logPage + 0x104) 1 = s.logPop :=
  h.kindReg (k := .mlog) (by decide) (by decide) (by decide) rfl

end Sys2Proof.Machine
end

section
/-! Settles the statement about stored-data integrity. -/

namespace Sys2Proof.Machine

/-- Settles O48: each clause is the case of the sweep, the audit, the scrub, the leak or the register that its hypotheses name. -/
theorem integrityEngine : Obligations.IntegrityEngine := by
  unfold Obligations.IntegrityEngine
  refine ⟨?convert, ?nothing, ?due, ?disabled, ?idle, ?abandon, ?pass, ?kScrub, ?scrub, ?bulk, ?leak, ?noLeak, ?pop⟩
  case convert =>
    intro s toA
    exact congrArg Host.Outcome.next s.convEnd_eq
  case nothing =>
    intro s h
    rw [exec_conversionSweepDone, State.convEnd_eq, h]
    rfl
  case due =>
    intro s he ha hp u
    have hu : s.waitTo (s.mem.auditAt + 1024 * s.get mscrubPage F.MSCRUB.AUDIT_CFG_AUDIT_PERIOD) = u := rfl
    clear_value u
    exact ⟨fun h => congrArg Host.Outcome.next (State.auditDue_of_idle he ha hp hu.symm h),
      fun h => congrArg Host.Outcome.next (State.auditDue_of_running he ha hp hu.symm h)⟩
  case disabled =>
    intro s h
    exact ⟨congrArg Host.Outcome.next (State.auditDue_of_disabled h), congrArg Host.Outcome.next (State.dramScrub_of_disabled h),
      congrArg Host.Outcome.next (State.kScrub_of_disabled h none)⟩
  case idle =>
    intro s h
    exact congrArg Host.Outcome.next (State.auditPass_of_idle h)
  case abandon =>
    intro s h hp b u
    exact congrArg Host.Outcome.next (State.auditPass_of_abandoned h hp)
  case pass =>
    intro s h hp b u w
    have hu : s.bankAudited = u := rfl
    clear_value u
    exact ⟨fun n hn => congrArg Host.Outcome.next (State.auditPass_of_next h hp hu.symm hn),
      fun hn => congrArg Host.Outcome.next (State.auditPass_of_last h hp hu.symm hn)⟩
  case kScrub =>
    intro s he hk u w
    have hw : s.kScrubbed = w := rfl
    have hclean := State.kScrub_of_clean he hk hw.symm
    have hdamage := State.kScrub_of_damage he hk hw.symm
    clear_value w
    refine ⟨congrArg Host.Outcome.next hclean, ?_⟩
    intro k e x
    have hstep : exec (.kScrubStep (some k)) s = .next (w.kDamaged k.bank.val k.cause.val e) :=
      congrArg Host.Outcome.next (hdamage k.bank.val k.word.toNat k.cause.val k.syn.toNat)
    exact ⟨fun h => hstep.trans (congrArg Host.Outcome.next (if_pos h)),
      fun h => hstep.trans (congrArg Host.Outcome.next ((if_neg (by omega)).trans (if_pos h))),
      fun h h' => hstep.trans (congrArg Host.Outcome.next ((if_neg h).trans (if_neg h')))⟩
  case scrub =>
    intro s he hc hd hg hv u a r v w
    have hw : (u.blockScrubbed a).scrubMoved a = w := rfl
    exact congrArg Host.Outcome.next (State.dramScrub_of_enabled he hc hd hg hv rfl rfl hw.symm)
  case bulk =>
    intro s b
    rfl
  case leak =>
    intro s b h u
    exact congrArg Host.Outcome.next (State.bucketLeak_of_enabled h b.val)
  case noLeak =>
    intro s b h
    exact congrArg Host.Outcome.next (State.bucketLeak_of_disabled h b.val)
  case pop =>
    intro s r h
    exact congrArg Host.Outcome.next h.logPop

end Sys2Proof.Machine
end

section
/-! SUPPORT. The reset of a page leaves the mode, the clock and the resets under way alone. -/

namespace Sys2Proof.Machine

/-! Statistics and graphics -/

@[simp] theorem State.accrueTo_control (s : State) (m base i n : Nat) : (s.accrueTo m base i n).control = s.control := by
  unfold State.accrueTo
  dsimp only
  repeat' split
  all_goals rfl

@[simp] theorem State.accrue_control (s : State) (base i n : Nat) : (s.accrue base i n).control = s.control := by
  unfold State.accrue
  split <;> simp

@[simp] theorem State.accrue64_control (s : State) (base i n : Nat) : (s.accrue64 base i n).control = s.control := by
  unfold State.accrue64
  split <;> simp

@[simp] theorem State.modJob_control (s : State) (id : Nat) (f : Job → Job) : (s.modJob id f).control = s.control := rfl
@[simp] theorem State.setGcore_control (s : State) (c : Nat) (x : GCoreSt) : (s.setGcore c x).control = s.control := rfl

@[simp] theorem State.gcredit_control (s : State) (c : Nat) : (s.gcredit c).control = s.control := by
  have hgfx : ∀ (t : State) (g : GfxSt), ({ t with gfx := g } : State).control = t.control := fun _ _ => rfl
  unfold State.gcredit
  dsimp only
  split
  · rfl
  · split
    · rfl
    · rw [State.accrue_control, State.accrue_control, State.accrue64_control, State.modJob_control, State.setGcore_control, hgfx]

@[simp] theorem State.gsettle_control (s : State) : s.gsettle.control = s.control := forN_control (fun c t => t.gcredit_control c) 24 s

@[simp] theorem State.gfxHeadOff_control (s : State) (h : Nat) : (s.gfxHeadOff h).control = s.control := by
  have hgfx : ∀ (t : State) (g : GfxSt), ({ t with gfx := g } : State).control = t.control := fun _ _ => rfl
  unfold State.gfxHeadOff
  dsimp only
  rw [hgfx, State.gsettle_control]

/-! Layers and heads -/

@[simp] theorem State.setLay_control (s : State) (h l : Nat) (x : LaySt) : (s.setLay h l x).control = s.control := rfl

@[simp] theorem State.replaceBufs_control (s : State) (h l cause : Nat) (ps : List Plane) (f : Nat → Bool) :
    (s.replaceBufs h l cause ps f).control = s.control := by
  unfold State.replaceBufs
  dsimp only
  split <;> rfl

@[simp] theorem State.releaseBuf_control (s : State) (h l t seq : Nat) (b : RelBuf) :
    (s.releaseBuf h l t seq b).control = s.control := by
  unfold State.releaseBuf
  simp

@[simp] theorem State.releaseDue_control (s : State) (h l t seq : Nat) : (s.releaseDue h l t seq).control = s.control := by
  unfold State.releaseDue
  dsimp only
  rw [forL_control (fun b u => u.releaseBuf_control h l t seq b), State.setLay_control]

@[simp] theorem State.headReplaces_control (s : State) (h cause : Nat) : (s.headReplaces h cause).control = s.control := by
  unfold State.headReplaces
  exact forL_control (fun l t => by simp) _ _

@[simp] theorem State.headReset_control (s old : State) (h : Nat) : (s.headReset old h).control = s.control := by
  have hheads : ∀ t : State, ({ t with heads := amDrop (· == h) t.heads } : State).control = t.control := fun _ => rfl
  unfold State.headReset
  dsimp only
  rw [State.gfxHeadOff_control, State.reportLat_control, hheads, forL_control (fun l t => by simp), State.headReplaces_control,
    forL_control (fun k t => by simp), State.setRaster_control]

@[simp] theorem State.layReset_control (s old : State) (h l : Nat) : (s.layReset old h l).control = s.control := by
  unfold State.layReset
  simp

/-! The other units -/

@[simp] theorem State.setCvu_control (s : State) (n : Nat) (x : CvuSt) : (s.setCvu n x).control = s.control := rfl

@[simp] theorem State.cvuAbort_control (s : State) (n : Nat) : (s.cvuAbort n).control = s.control := by
  unfold State.cvuAbort
  split <;> simp

@[simp] theorem State.setWb_control (s : State) (n : Nat) (x : WbSt) : (s.setWb n x).control = s.control := rfl
@[simp] theorem State.modAudio_control (s : State) (f : AudioSt → AudioSt) : (s.modAudio f).control = s.control := rfl
@[simp] theorem State.setConv_control (s : State) (n : Nat) (x : ConvSt) : (s.setConv n x).control = s.control := rfl
@[simp] theorem State.setConvState_control (s : State) (n v : Nat) : (s.setConvState n v).control = s.control := rfl

@[simp] theorem State.aportStop_control (s : State) (p : Nat) : (s.aportStop p).control = s.control := by
  unfold State.aportStop
  exact forL_control (fun n t => by simp) _ _

@[simp] theorem State.bcDrop_control (s : State) (n : Nat) : (s.bcDrop n).control = s.control := rfl

@[simp] theorem State.fnReset_control (s : State) (p f : Nat) : (s.fnReset p f).control = s.control := by
  unfold State.fnReset
  dsimp only
  split <;> rfl

/-! The page -/

@[simp] theorem resetHook_control (k : PKind) (old : State) (base : Nat) (s : State) :
    (resetHook k old base s).control = s.control := by
  cases k
  case head => exact s.headReset_control old _
  case layer => exact s.layReset_control old _ _
  case glayer => exact s.layReset_control old _ _
  case wb => exact (forL_control (fun u t => t.cvuAbort_control u) _ _).trans (s.setWb_control _ _)
  case aport => exact s.aportStop_control _
  case tport => exact s.tportStop_control _
  case pbc => exact forN_control (fun n t => t.bcDrop_control n) 2 s
  case hmsix => exact forN_control (fun f t => t.fnReset_control _ f) 16 s
  all_goals rfl

@[simp] theorem State.pageReset_control (s : State) (base : Nat) : (s.pageReset base).control = s.control := by
  unfold State.pageReset
  cases pinfoAt base with
  | none => rfl
  | some i => exact resetHook_control i.kind s base _

theorem State.forL_pageReset_now (s : State) (l : List Nat) : (forL (fun p u => u.pageReset p) l s).now = s.now :=
  State.now_of_control (forL_control (fun p t => t.pageReset_control p) l s)

end Sys2Proof.Machine
end

section
/-! SUPPORT. DOMAIN and BLOCK resets (R497, R498): one lemma per case of a request, of its hold and of its end. -/

namespace Sys2Proof.Machine

/-! `DOMAIN_REQ` (R497) -/

/-- The word of `DOMAIN_REQ` that asks for domain `d`. -/
def domReqWord (d : BitVec 8) : Word := BitVec.ofNat 32 (d.toNat * 256 + 1)

theorem domReqWord_domain (d : BitVec 8) : bits (domReqWord d).toNat 15 8 = d.toNat := by
  revert d
  decide

theorem domReqWord_go (d : BitVec 8) : bit (domReqWord d).toNat 0 = true := by
  revert d
  decide

theorem State.ownRule_domReq (s : State) (r : Req) (v : Word) : s.ownRule r (blockreqPage + 0x100) v =
    if gateWriter r then some (if bit v.toNat 0 then s.domRequest r (bits v.toNat 15 8) else s, false)
    else some (s.violation r (blockreqPage + 0x100) true, true) := rfl

theorem exec_domainResetRequest (r : Req) (d : BitVec 8) (s : State) :
    exec (.domainResetRequest r d) s = .next (s.cmdWrite r (blockreqPage + 0x100) (domReqWord d)) := rfl

theorem State.Reaches.domReq {s : State} {r : Req} (h : s.Reaches r (blockreqPage + 0x100)) (hw : gateWriter r = true)
    (d : BitVec 8) : s.cmdWrite r (blockreqPage + 0x100) (domReqWord d) = s.domRequest r d.toNat := by
  have hn := (s.ownRule_domReq r (domReqWord d)).trans (if_pos hw)
  rw [h.ruledReg (by decide) (by decide) hn, domReqWord_go, domReqWord_domain]
  rfl

theorem State.Reaches.domReq_denied {s : State} {r : Req} (h : s.Reaches r (blockreqPage + 0x100)) (hw : gateWriter r = false)
    (v : Word) : s.cmdWrite r (blockreqPage + 0x100) v = s.violation r (blockreqPage + 0x100) true :=
  h.ruledReg (by decide) (by decide) ((s.ownRule_domReq r v).trans (if_neg (by simp [hw])))

/-- What `DOMAIN_RESULT` reads after a request for domain `d`: its reason, and whether it is done. -/
def State.domResult (s : State) (d reason done : Nat) : State :=
  ((s.put blockreqPage F.BLOCKREQ.DOMAIN_RESULT_REASON reason).put blockreqPage F.BLOCKREQ.DOMAIN_RESULT_DOMAIN d).put
    blockreqPage F.BLOCKREQ.DOMAIN_RESULT_DONE done

/-- An accepted request acts at the level of reset source 13. -/
def State.domReset13 (u : State) (r : Req) (d lvl : Nat) : State :=
  match lvl with
  | 0 => (u.put srcsPage F.SOURCES.SRC_SEEN (u.get srcsPage F.SOURCES.SRC_SEEN ||| (1 <<< 13))).domAssert d .software
      r.rid.toNat 0
  | 1 => u.chipAssert .warm 13
  | _ => u.chipAssert .cold 13

theorem State.domReset13_of_cold (u : State) (r : Req) (d : Nat) {lvl : Nat} (h : 2 ≤ lvl) :
    u.domReset13 r d lvl = u.chipAssert .cold 13 := by
  obtain ⟨k, rfl⟩ := Nat.exists_eq_add_of_le' h
  rfl

/-- The reason that a request for domain `d` is refused with, 0 when it is accepted. -/
def State.domReason (s : State) (r : Req) (d : Nat) : Nat :=
  if isDomain d = false then rRange
  else if domPresent s.part d = false then rFused
  else if noDomReset.contains d then 0x40
  else if r.tag ≠ 1 ∧ (pagesOf d).any s.secureHold then rHold
  else 0

/-- What a request does by its reason. -/
def State.domAnswered (s : State) (r : Req) (d reason : Nat) : State :=
  if reason ≠ 0 then
    (if reason = rHold then (s.domResult d reason 1).holdRecord ((s.domResult d reason 1).heldPage d) 3 r
      else s.domResult d reason 1)
  else (s.domResult d reason 0).domReset13 r d (s.srcLevel 13)

theorem State.domRequest_eq (s : State) (r : Req) (d : Nat) : s.domRequest r d = s.domAnswered r d (s.domReason r d) := rfl

section Request
variable {s : State} {r : Req} {d : Nat} (hd : isDomain d = true) (hp : domPresent s.part d = true)
include hd hp

theorem State.domRequest_of_accepted (hn : noDomReset.contains d = false) (ht : r.tag = 1) :
    s.domRequest r d = (s.domResult d 0 0).domReset13 r d (s.srcLevel 13) := by
  have hreason : s.domReason r d = 0 := by
    unfold State.domReason
    rw [hd, hp, hn, if_neg Bool.noConfusion, if_neg Bool.noConfusion, if_neg Bool.false_ne_true, if_neg (fun h => h.1 ht)]
  rw [State.domRequest_eq, hreason]
  rfl

theorem State.domRequest_of_excluded (hn : noDomReset.contains d = true) (r : Req) :
    s.domRequest r d = s.domResult d 0x40 1 := by
  have hreason : s.domReason r d = 0x40 := by
    unfold State.domReason
    rw [hd, hp, hn, if_neg Bool.noConfusion, if_neg Bool.noConfusion, if_pos rfl]
  rw [State.domRequest_eq, hreason]
  rfl

end Request

/-! The hold of a DOMAIN reset and its end (R497, R499) -/

theorem State.domAssert_of_free {s : State} {d : Nat} (h : s.domReset d = none) (c : RCause) (rid src : Nat) :
    s.domAssert d c rid src = (forL (fun p u => u.pageReset p) (pagesOf d) s).setDom d
      (some ⟨(forL (fun p u => u.pageReset p) (pagesOf d) s).now, c, rid, src⟩) := by
  unfold State.domAssert
  rw [h, State.forL_pageReset_now]

theorem exec_domainResetRelease (d : BitVec 8) (s : State) :
    exec (.domainResetRelease d) s = .next (s.domHoldEnd d.toNat) := rfl

theorem State.domHoldEnd_of_free {s : State} {d : Nat} (h : s.domReset d = none) : s.domHoldEnd d = s := by
  unfold State.domHoldEnd
  rw [h]

section Held
variable {s : State} {d : Nat} {x : DomRst} (hx : s.domReset d = some x)
include hx

theorem State.domHoldEnd_of_reset : s.domHoldEnd d = if s.recHolds d then s else
    let u := (s.waitTo (x.start + 3072)).setGated d false
    if u.domClockOk d then u.domEnd d false else u := by
  unfold State.domHoldEnd
  rw [hx]

theorem State.domHoldEnd_of_released {u : State} (hr : s.recHolds d = false)
    (hu : u = (s.waitTo (x.start + 3072)).setGated d false) (hc : u.domClockOk d = true) :
    s.domHoldEnd d = u.domEnd d false := by
  subst hu
  rw [State.domHoldEnd_of_reset hx, if_neg (by simp [hr])]
  exact if_pos hc

end Held

theorem State.domHoldEnd_of_recovery {s : State} {d : Nat} (h : s.recHolds d = true) : s.domHoldEnd d = s := by
  cases hx : s.domReset d with
  | none => exact State.domHoldEnd_of_free hx
  | some x => rw [State.domHoldEnd_of_reset hx, if_pos h]

/-! The end of a BLOCK reset (R498) -/

theorem exec_blockResetDone (p : PageNo) (s : State) : exec (.blockResetDone p) s = .next (s.blockRelease (pageBase p)) := rfl

theorem State.ctl_setGated (s : State) (d : Nat) (b : Bool) (p : Nat) : (s.setGated d b).ctl p = s.ctl p := rfl

theorem State.blockDone_of_reset {s : State} {base k : Nat} {r : Req} (h : (s.ctl base).inReset = some (r, k)) :
    s.blockDone base false
      = (s.pageReset base).resetRecord base k 0 (pnoOf base) .software r.rid.toNat false 0 := by
  unfold State.blockDone
  rw [h]
  rfl

theorem State.blockRelease_of_running {s : State} {base : Nat} (h : (s.ctl base).inReset = none) : s.blockRelease base = s := by
  unfold State.blockRelease
  rw [h]

theorem State.blockRelease_of_reset {s u : State} {base k : Nat} {r : Req} {i : PInfo} (hi : pinfoAt base = some i)
    (hk : i.kind ≠ .ten) (h : (s.ctl base).inReset = some (r, k)) (hu : u = s.setGated (domOf base) false)
    (hc : u.domClockOk (domOf base) = true) :
    s.blockRelease base = (u.pageReset base).resetRecord base k 0 (pnoOf base) .software r.rid.toNat false 0 := by
  subst hu
  unfold State.blockRelease
  rw [h, hi]
  dsimp only
  rw [if_neg hk, if_pos hc, State.blockDone_of_reset ((s.ctl_setGated _ _ _).symm ▸ h)]

end Sys2Proof.Machine
end

section
/-! Settles the statement about DOMAIN and BLOCK resets. -/

namespace Sys2Proof.Machine

/-- Settles O51: each clause is the case of the request, of the hold or of the end of the reset that its hypotheses name. -/
theorem domainAndBlockResets : Obligations.DomainAndBlockResets := by
  unfold Obligations.DomainAndBlockResets
  refine ⟨?request, ?denied, ?accepted, ?excluded, ?assert, ?recovery, ?release, ?free, ?blockEnd, ?noBlock⟩
  case request =>
    intro s r d h hw
    rw [exec_domainResetRequest, h.domReq hw]
  case denied =>
    intro s r d h hw
    rw [exec_domainResetRequest, h.domReq_denied hw]
  case accepted =>
    intro s r d hd hp hn ht u
    have hreq : s.domRequest r d = u.domReset13 r d (s.srcLevel 13) := State.domRequest_of_accepted hd hp hn ht
    refine ⟨fun h => ?_, fun h => ?_, fun h => ?_⟩
    · rw [hreq, h]
      rfl
    · rw [hreq, h]
      rfl
    · rw [hreq, State.domReset13_of_cold u r d h]
  case excluded =>
    intro s r d hd hp hn
    exact State.domRequest_of_excluded hd hp hn r
  case assert =>
    intro s d c rid src h
    exact State.domAssert_of_free h c rid src
  case recovery =>
    intro s d h
    rw [exec_domainResetRelease, State.domHoldEnd_of_recovery h]
  case release =>
    intro s d x hx hr hc
    rw [exec_domainResetRelease, State.domHoldEnd_of_released hx hr rfl hc]
  case free =>
    intro s d h
    rw [exec_domainResetRelease, State.domHoldEnd_of_free h]
  case blockEnd =>
    intro s p i r k hi hk h hc
    rw [exec_blockResetDone, State.blockRelease_of_reset hi hk h rfl hc]
  case noBlock =>
    intro s p h
    rw [exec_blockResetDone, State.blockRelease_of_running h]

end Sys2Proof.Machine
end

section
/-! SUPPORT. The option load, the recovery image, OTP, the backup region and `ALIVE` (R503–R509, R516, R518): one lemma per case
of each operation. -/

namespace Sys2Proof.Machine

/-! The option load (R503, R504) -/

theorem exec_optionLoadDone (e : Bool) (s : State) : exec (.optionLoadDone e) s = .next (s.loadDone e) := rfl

theorem State.loadOptions_control (s : State) : s.loadOptions.control = s.control := by
  have hwin : ∀ (t : State) (l : List (Nat × Nat)), ({ t with winners := l } : State).control = t.control := fun _ _ => rfl
  unfold State.loadOptions
  dsimp only
  rw [hwin]
  split
  · rfl
  · exact forN_control (fun j t => t.wr_control _ _) 4 _

/-- A failed load: its number is counted, its registers show it and source 6 is raised. -/
def State.loadFailed (s : State) (n : Nat) : State :=
  let u := (s.put otpPage F.OTP.OPT_STATE_FAILS n).put otpPage F.OTP.OPT_STATE_LOADED 0
  ({ u with rst := { u.rst with fails := n, loading := false, loaded := false } }).hit 6 n

/-- A load that takes effect: the fuses and the registers of the load, the source levels, the BASE options and the pin map, the end
of the load, and the memory test or BOOT. -/
def State.loadShown (s : State) : State :=
  ((s.setDie (s.die % 16)).put otpPage F.OTP.OPT_STATE_FAILS 0).put otpPage F.OTP.OPT_STATE_LOADED 1
def State.loadOptioned (s : State) : State :=
  (s.put srcsPage F.SOURCES.SRC_LEVEL (srcLevels s.fuseLevels)).applyBase.loadPins
def State.loadMarked (s : State) : State :=
  { s with rst := { s.rst with fails := 0, loading := false, loaded := true, retryAt := none } }
def State.loadBooted (s : State) : State :=
  if bit (s.option 1 0 4 1 0) 3 then { s with rst := { s.rst with bist := true } } else s.enterBoot

theorem State.loadFailed_control (s : State) (n : Nat) : (s.loadFailed n).control
    = { s.control with rst := { s.rst with fails := n, loading := false, loaded := false } } := State.hit_control _ 6 n

theorem State.loadFailed_rst (s : State) (n : Nat) :
    (s.loadFailed n).rst = { s.rst with fails := n, loading := false, loaded := false } :=
  congrArg Control.rst (s.loadFailed_control n)

theorem State.loadFailed_mode (s : State) (n : Nat) : (s.loadFailed n).mode = s.mode :=
  congrArg Control.mode (s.loadFailed_control n)

theorem State.loadDone_of_other_mode {s : State} (h : s.mode ≠ .load) (e : Bool) : s.loadDone e = s := if_pos (.inl h)

section Load
variable {s u : State} {e : Bool} (hm : s.mode = .load) (hl : s.rst.loading = true) (hc : s.rst.chip = none)
  (hu : u = s.loadOptions)
include hm hl hc hu

theorem State.loadDone_of_failed (hbad : (e || u.loadBad) = true) (hf : u.rst.fails < 2) :
    s.loadDone e = { u.loadFailed (u.rst.fails + 1) with
      rst := { (u.loadFailed (u.rst.fails + 1)).rst with retryAt := some ((u.loadFailed (u.rst.fails + 1)).now + 6144) } } := by
  unfold State.loadDone
  rw [if_neg (by simp [hm, hl, hc])]
  dsimp only
  rw [← hu, if_pos (by simpa using hbad), if_neg (by omega)]
  rfl

theorem State.loadDone_of_good (he : e = false) (hgood : u.loadBad = false) :
    s.loadDone e = u.loadShown.loadOptioned.loadMarked.loadBooted := by
  unfold State.loadDone
  rw [if_neg (by simp [hm, hl, hc]), ← hu]
  dsimp only
  rw [if_neg (by simp [he, hgood])]
  unfold State.loadShown State.loadOptioned State.loadMarked State.loadBooted
  with_reducible rfl

end Load

theorem State.enterBoot_control (s : State) : s.enterBoot.control
    = { s.control with prev := s.mode, mode := .boot, rst := { s.rst with bootAt := s.now } } := by
  unfold State.enterBoot
  exact State.coreStart_control _ 0

theorem State.enterBoot_rst (s : State) : s.enterBoot.rst = { s.rst with bootAt := s.now } :=
  congrArg Control.rst s.enterBoot_control

theorem State.enterBoot_mode (s : State) : s.enterBoot.mode = .boot := congrArg Control.mode s.enterBoot_control

theorem State.loadBooted_of_marked (s : State) : let t := s.loadMarked.loadBooted
    t.rst.fails = 0 ∧ t.rst.loading = false ∧ t.rst.loaded = true ∧ t.rst.retryAt = none ∧ (t.rst.bist = true ∨ t.mode = .boot) := by
  unfold State.loadBooted
  dsimp only
  split
  · exact ⟨rfl, rfl, rfl, rfl, .inl rfl⟩
  · rw [State.enterBoot_rst, State.enterBoot_mode]
    exact ⟨rfl, rfl, rfl, rfl, .inr rfl⟩

theorem State.loadRetry_of_due {s : State} {k : Nat} (h : s.rst.retryAt = some k) (hm : s.mode = .load) :
    s.loadRetry = { s.waitTo k with rst := { (s.waitTo k).rst with retryAt := none, loading := true } } := by
  unfold State.loadRetry
  rw [h]
  exact if_neg (fun hne => hne hm)

theorem State.loadRetry_of_none {s : State} (h : s.rst.retryAt = none) : s.loadRetry = s := by
  unfold State.loadRetry
  rw [h]

theorem State.bistDone_of_running {s : State} (h : s.rst.bist = true) : s.bistDone =
    (forL (fun b (u : State) => u.bulkClear b) ((upto 0 103).filter (bankPresent s.part))
      { s with rst := { s.rst with bist := false } }).enterBoot := if_neg (by simp [h])

/-! The recovery image (R506, R509) -/

/-- The word of `RCV_CTRL` that starts an image of `size` bytes. -/
def rcvWord (size : BitVec 16) : Word := BitVec.ofNat 32 (0x80000000 + size.toNat)

theorem rcvWord_toNat (size : BitVec 16) : (rcvWord size).toNat = 2147483648 + size.toNat := by
  have hs := size.isLt
  unfold rcvWord
  rw [BitVec.toNat_ofNat]
  omega

theorem rcvWord_go (size : BitVec 16) : bit (rcvWord size).toNat 31 = true := by
  have hs := size.isLt
  have hdiv : (2147483648 + size.toNat) / 2147483648 = 1 := by omega
  rw [rcvWord_toNat]
  simp [bit, Nat.testBit, Nat.shiftRight_eq_div_pow, hdiv]

theorem rcvWord_size (size : BitVec 16) : bits (rcvWord size).toNat 15 0 = size.toNat := by
  have hs := size.isLt
  rw [rcvWord_toNat]
  simp [bits]
  omega

theorem exec_rcvGo (r : Req) (size : BitVec 16) (s : State) :
    exec (.rcvGo r size) s = .next (s.cmdWrite r (otpPage + 0x114) (rcvWord size)) := rfl

theorem State.ownRule_rcvGo (s : State) (r : Req) (v : Word) : s.ownRule r (otpPage + 0x114) v =
    if r.rid = 0 ∧ r.tag = 0x010 ∧ s.mode = .recovery then
      some (if bit v.toNat 31 then s.rcvGo (bits v.toNat 15 0) else s, false)
    else some (s.violation r (otpPage + 0x114) true, true) := rfl

theorem State.Reaches.rcvGo {s : State} {r : Req} (h : s.Reaches r (otpPage + 0x114)) (hr : r.rid = 0) (ht : r.tag = 0x010)
    (hm : s.mode = .recovery) (size : BitVec 16) :
    s.cmdWrite r (otpPage + 0x114) (rcvWord size) = s.rcvGo size.toNat := by
  have hn := (s.ownRule_rcvGo r (rcvWord size)).trans (if_pos ⟨hr, ht, hm⟩)
  rw [h.ruledReg (by decide) (by decide) hn, rcvWord_go, rcvWord_size]
  rfl

theorem State.Reaches.rcvGo_denied {s : State} {r : Req} (h : s.Reaches r (otpPage + 0x114)) (hm : s.mode ≠ .recovery)
    (v : Word) : s.cmdWrite r (otpPage + 0x114) v = s.violation r (otpPage + 0x114) true :=
  h.ruledReg (by decide) (by decide) ((s.ownRule_rcvGo r v).trans (if_neg (fun hc => hm hc.2.2)))

theorem State.rcvGo_of_size {s : State} {size : Nat} (h0 : 0 < size) (h1 : size ≤ 32768) :
    s.rcvGo size = s.put otpPage F.OTP.RCV_STATE 1 := if_neg (by omega)

theorem State.rcvDone_of_verifying {s : State} (h : s.get otpPage F.OTP.RCV_STATE = 1) (ok : Bool) :
    s.rcvDone ok = s.put otpPage F.OTP.RCV_STATE (if ok then 3 else 2) := if_pos h

/-! `OTP_CMD` (R507, R509) -/

theorem State.MayWrite.program {s : State} {r : Req} (h : s.MayWrite r (otpPage + 0x108)) :
    s.cmdWrite r (otpPage + 0x108) 0x4F540002 = s.otpProgram :=
  h.ownedReg (k := .otp) rfl (by decide) (by decide) rfl

theorem State.MayWrite.otpRead {s : State} {r : Req} (h : s.MayWrite r (otpPage + 0x108)) :
    s.cmdWrite r (otpPage + 0x108) 1 = s.otpRead :=
  h.ownedReg (k := .otp) rfl (by decide) (by decide) rfl

/-- The reason that programming word `w` with data `d` is refused with, 0 when it starts. -/
def State.otpReason (s : State) (w : Nat) (d : Word) : Nat :=
  if s.mode ≠ .boot ∧ s.mode ≠ .run then rMode
  else if s.otpRun.isSome then rInUse
  else if w / 16 < 12 ∨ (13 ≤ w / 16 ∧ w / 16 < 16) then rLocked
  else if s.otpWord w &&& ~~~d ≠ 0 then 0x42
  else 0

def State.otpAnswered (s : State) (w : Nat) (d : Word) (reason : Nat) : State :=
  if reason ≠ 0 then s.put otpPage F.OTP.OTP_RESULT_REASON reason
  else { (s.put otpPage F.OTP.OTP_RESULT_REASON reason).put otpPage F.OTP.OTP_RESULT_BUSY 1 with otpRun := some ⟨w, d, s.now⟩ }

theorem State.otpProgram_eq (s : State) : s.otpProgram
    = s.otpAnswered (s.get otpPage F.OTP.OTP_ADDR) (s.rd (otpPage + 0x104))
        (s.otpReason (s.get otpPage F.OTP.OTP_ADDR) (s.rd (otpPage + 0x104))) := rfl

section Reason
variable {s : State} (hm : s.mode = .boot ∨ s.mode = .run) (hr : s.otpRun = none)
include hm hr

theorem State.otpReason_of_idle (w : Nat) (d : Word) : s.otpReason w d =
    if w / 16 < 12 ∨ (13 ≤ w / 16 ∧ w / 16 < 16) then rLocked else if s.otpWord w &&& ~~~d ≠ 0 then 0x42 else 0 := by
  have hmode : ¬(s.mode ≠ .boot ∧ s.mode ≠ .run) := fun h => hm.elim h.1 h.2
  unfold State.otpReason
  rw [if_neg hmode, if_neg (by simp [hr])]

theorem State.otpReason_of_locked {w : Nat} (h : w / 16 < 12) (d : Word) : s.otpReason w d = 0x10 := by
  rw [State.otpReason_of_idle hm hr, if_pos (.inl h)]
  rfl

theorem State.otpReason_of_clearing {w : Nat} {d : Word} (h : 16 ≤ w / 16) (hd : s.otpWord w &&& ~~~d ≠ 0) :
    s.otpReason w d = 0x42 := by
  rw [State.otpReason_of_idle hm hr, if_neg (by omega), if_pos hd]

theorem State.otpReason_of_accepted {w : Nat} {d : Word} (h : 16 ≤ w / 16) (hd : s.otpWord w &&& ~~~d = 0) :
    s.otpReason w d = 0 := by
  rw [State.otpReason_of_idle hm hr, if_neg (by omega), if_neg (fun hne => hne hd)]

end Reason

/-- The read-back of a programmed word: the run ends. -/
def State.otpBlown (s : State) (o : OtpRun) (fail : Word) : State :=
  let u := s.waitTo (o.start + 7373)
  ({ u.otpPut o.word (u.otpWord o.word ||| (o.data &&& ~~~fail)) with otpRun := none } : State).put otpPage
    F.OTP.OTP_RESULT_BUSY 0

theorem State.otpDone_of_run {s x : State} {o : OtpRun} {f : Word} (h : s.otpRun = some o) (hx : x = s.otpBlown o f) :
    s.otpDone f = if x.otpWord o.word = o.data then x
      else (x.put otpPage F.OTP.OTP_RESULT_REASON 0x43).hit 7 (o.word / 16 - 32) := by
  subst hx
  unfold State.otpDone
  rw [h]
  rfl

theorem State.otpRead_of_idle {s : State} (h : s.otpRun = none) : s.otpRead =
    (s.wr (otpPage + 0x104) (s.otpWord (s.get otpPage F.OTP.OTP_ADDR))).put otpPage F.OTP.OTP_RESULT_REASON 0 :=
  if_neg (by simp [h])

/-! The backup region and `ALIVE` (R516, R518) -/

theorem State.MayWrite.clearFf {s : State} {r : Req} (h : s.MayWrite r (backupPage + 0x100)) :
    s.cmdWrite r (backupPage + 0x100) 1 = { s with backup := { s.backup with ff := BkItem.blank } } :=
  h.kindReg (k := .backup) (by decide) (by decide) (by decide) rfl

theorem State.alive_of_running {s : State} (h : s.mode = .run ∨ s.mode = .standby) : s.alive.isSome = true := by
  unfold State.alive
  rcases h with h | h <;> rw [h] <;> rfl

theorem State.alive_of_released {s : State} (hr : s.mode ≠ .run) (hs : s.mode ≠ .standby) : s.alive = none := by
  unfold State.alive
  split
  case h_1 h => exact absurd h hr
  case h_2 h => exact absurd h hs
  case h_3 => rfl

end Sys2Proof.Machine
end

section
/-! Settles the statement about the option load, OTP and the backup region. -/

namespace Sys2Proof.Machine

/-- Settles O52: each clause is the case of the load, of the image's verification, of the OTP command or of the toggle that its
hypotheses name. -/
theorem optionsAndOtp : Obligations.OptionsAndOtp := by
  unfold Obligations.OptionsAndOtp
  refine ⟨?failed, ?good, ?otherMode, ?retry, ?noRetry, ?bist, ?image, ?imageDenied, ?verified, ?program, ?programmed, ?read,
    ?clearFf, ?toggle, ?released⟩
  case failed =>
    intro s e hm hl hc hbad hf
    have hdone := State.loadDone_of_failed hm hl hc rfl hbad hf
    have hmode : s.loadOptions.mode = .load := (State.mode_of_control s.loadOptions_control).trans hm
    refine ⟨s.loadDone e, exec_optionLoadDone e s, ?_, ?_, ?_, ?_, ?_, (State.loadDone_keep (m := true) (Keep.refl s)).queue⟩
    all_goals rw [hdone]
    · exact congrArg RstSt.fails (State.loadFailed_rst _ _)
    · exact congrArg RstSt.loading (State.loadFailed_rst _ _)
    · exact congrArg RstSt.loaded (State.loadFailed_rst _ _)
    · exact (State.loadFailed_mode _ _).trans hmode
    · rfl
  case good =>
    intro s hm hl hc hgood
    refine ⟨s.loadDone false, exec_optionLoadDone false s, ?_⟩
    rw [State.loadDone_of_good hm hl hc rfl rfl hgood]
    exact State.loadBooted_of_marked _
  case otherMode =>
    intro s e h
    rw [exec_optionLoadDone, State.loadDone_of_other_mode h]
  case retry =>
    intro s k h hm
    exact congrArg Host.Outcome.next (State.loadRetry_of_due h hm)
  case noRetry =>
    intro s h
    exact congrArg Host.Outcome.next (State.loadRetry_of_none h)
  case bist =>
    intro s h
    exact congrArg Host.Outcome.next (State.bistDone_of_running h)
  case image =>
    intro s r size h hr ht hm h0 h1
    rw [exec_rcvGo, h.rcvGo hr ht hm, State.rcvGo_of_size h0 h1]
  case imageDenied =>
    intro s r size h hm
    rw [exec_rcvGo, h.rcvGo_denied hm]
  case verified =>
    intro s ok h
    exact congrArg Host.Outcome.next (State.rcvDone_of_verifying h ok)
  case program =>
    intro s r h hm hr w d
    have hstep : exec (.program r) s = .next (s.otpAnswered w d (s.otpReason w d)) :=
      congrArg Host.Outcome.next (h.program.trans s.otpProgram_eq)
    refine ⟨fun hw hd => ?_, fun hw hd => ?_, fun hw => ?_⟩
    · rw [hstep, State.otpReason_of_accepted hm hr hw hd]
      rfl
    · rw [hstep, State.otpReason_of_clearing hm hr hw hd]
      rfl
    · rw [hstep, State.otpReason_of_locked hm hr hw]
      rfl
  case programmed =>
    intro s o f h u x
    have hx : s.otpBlown o f = x := rfl
    have hdone := State.otpDone_of_run h hx.symm
    exact ⟨fun hok => congrArg Host.Outcome.next (hdone.trans (if_pos hok)),
      fun hbad => congrArg Host.Outcome.next (hdone.trans (if_neg hbad))⟩
  case read =>
    intro s r h hr
    exact congrArg Host.Outcome.next (h.otpRead.trans (State.otpRead_of_idle hr))
  case clearFf =>
    intro s r h
    exact congrArg Host.Outcome.next h.clearFf
  case toggle =>
    intro s h
    exact congrArg Host.Outcome.next (if_pos (State.alive_of_running h))
  case released =>
    intro s hr hs
    exact congrArg Host.Outcome.next (if_neg (by simp [State.alive_of_released hr hs]))

end Sys2Proof.Machine
end

section
/-! SUPPORT. A part of the state that the counters, interrupts, hits and journals do not hold stays as it is (`Quiet`). -/

namespace Sys2Proof.Machine

/-- `f` reads nothing that a counter, an interrupt, a hit, an entry of the log or a journal record writes. -/
structure Quiet {α : Type} (f : State → α) : Prop where
  regs : ∀ (s : State) (x : List (Nat × Word)), f { s with regs := x } = f s
  live : ∀ (s : State) (x : List (Nat × Nat)), f { s with live := x } = f s
  held : ∀ (s : State) (x : List (Nat × Nat)), f { s with held := x } = f s
  edges : ∀ (s : State) (x : List Nat), f { s with edges := x } = f s
  flt : ∀ (s : State) (x : FaultSt), f { s with flt := x } = f s
  elog : ∀ (s : State) (x : List (BitVec 256)), f { s with elog := x } = f s
  journals : ∀ (s : State) (x : List (Nat × Journal)), f { s with journals := x } = f s

namespace Quiet
variable {α : Type} {f : State → α} (hq : Quiet f)
include hq

theorem wr (s : State) (a : Nat) (w : Word) : f (s.wr a w) = f s := hq.regs s _
theorem put (s : State) (p : Nat) (x : Fld) (v : Nat) : f (s.put p x v) = f s := hq.wr s _ _
theorem inc (s : State) (p : Nat) (x : Fld) (n : Nat) : f (s.inc p x n) = f s := hq.put s _ _ _
theorem incSat (s : State) (p : Nat) (x : Fld) (n : Nat) : f (s.incSat p x n) = f s := hq.put s _ _ _

theorem statTo (s : State) (m p i n : Nat) : f (s.statTo m p i n) = f s := by
  unfold State.statTo
  dsimp only
  split
  · exact hq.held s _
  · exact hq.live s _

theorem stat (s : State) (p i n : Nat) : f (s.stat p i n) = f s := by
  unfold State.stat
  split
  · exact hq.statTo s _ _ _ _
  · rfl

theorem intSet (s : State) (p m : Nat) : f (s.intSet p m) = f s := by
  unfold State.intSet State.withLine
  dsimp only
  split
  · exact (hq.edges _ _).trans (hq.wr s _ _)
  · exact hq.wr s _ _

theorem intBit (s : State) (p n : Nat) : f (s.intBit p n) = f s := hq.intSet s _ _
theorem setRaised (s : State) (n : Nat) : f (s.setRaised n) = f s := hq.wr s _ _
theorem setAggr (s : State) (d : Nat) (q : List Ev) : f (s.setAggr d q) = f s := hq.flt s _

theorem hitEv (s : State) (e : Ev) : f (s.hitEv e) = f s := by
  cases hi : srcInfo e.src with
  | none => rw [State.hitEv_of_reserved hi]
  | some i =>
    unfold State.hitEv
    rw [hi]
    simp only [apply_ite f, hq.setAggr, hq.put, hq.setRaised, hq.incSat, ite_self]

theorem hitAcc (s : State) (src arg acc rid tag addr : Nat) : f (s.hitAcc src arg acc rid tag addr) = f s := hq.hitEv s _
theorem hit (s : State) (src arg : Nat) : f (s.hit src arg) = f s := hq.hitEv s _

theorem logLost (s : State) : f s.logLost = f s := by
  unfold State.logLost
  rw [hq.intBit, hq.stat, hq.incSat]

theorem logKeep (s : State) (q : List (BitVec 256)) (e : BitVec 256) : f (s.logKeep q e) = f s := by
  unfold State.logKeep
  rw [hq.intSet, hq.stat, hq.elog]

theorem logAdd (s : State) (e : BitVec 256) : f (s.logAdd e) = f s := by
  unfold State.logAdd
  simp only [apply_ite f, hq.logLost, hq.logKeep, ite_self]

theorem bucketAdd (s : State) (b : Nat) (scrub : Bool) : f (s.bucketAdd b scrub) = f s := by
  unfold State.bucketAdd
  simp only [apply_ite f, hq.hit, hq.intBit, hq.inc, hq.put, hq.stat, ite_self]

theorem setJournal (s : State) (t : Nat) (j : Journal) : f (s.setJournal t j) = f s := hq.journals s _

theorem jLose (s : State) (t seq : Nat) : f (s.jLose t seq) = f s := by
  unfold State.jLose
  rw [hq.setJournal, hq.stat, hq.incSat]

theorem jrec (s : State) (t typ base stamp : Nat) (pay : BitVec 128) : f (s.jrec t typ base stamp pay) = f s := by
  unfold State.jrec
  simp only [apply_ite f, hq.setJournal, hq.jLose, hq.inc, ite_self]

end Quiet

/-! Registers that a journal's record leaves alone -/

theorem State.rd_stat (s : State) (p i n a : Nat) : (s.stat p i n).rd a = s.rd a := by
  unfold State.stat State.statTo
  repeat' split
  all_goals rfl

/-- A record writes registers of its tenancy's page alone. -/
theorem State.rd_jrec_other (s : State) {t a : Nat} (ha : a ∉ [tenPage t + F.TEN.J_SEQ.off, tenPage t + F.TEN.J_LOST.off])
    (typ base stamp : Nat) (pay : BitVec 128) : (s.jrec t typ base stamp pay).rd a = s.rd a := by
  rw [List.mem_cons, List.mem_singleton] at ha
  obtain ⟨hseq, hlost⟩ := not_or.mp ha
  have hset : ∀ (u : State) (j : Journal), (u.setJournal t j).rd a = u.rd a := fun _ _ => rfl
  have hlose : ∀ (u : State) (q : Nat), (u.jLose t q).rd a = u.rd a := by
    intro u q
    unfold State.jLose
    rw [hset, State.rd_stat]
    exact u.rd_put_other hlost _
  unfold State.jrec
  dsimp only
  split
  · exact (hset _ _).trans (s.rd_put_other hseq _)
  · exact (hlose _ _).trans (s.rd_put_other hseq _)

end Sys2Proof.Machine
end

section
/-! SUPPORT. Contexts, the ownership table, Coves and measurement (R433, R440, R441, R446, R447, R449): one lemma per register and
case of its command. -/

namespace Sys2Proof.Machine

/-! Contexts (R433) -/

theorem State.kindWrite_ctx (s : State) (r : Req) (c : Fin 3) (v : Word) :
    s.kindWrite r .worlds (pageOf (worldsPage + 0x100 + 4 * c.val)) (offOf (worldsPage + 0x100 + 4 * c.val)) v
      = some (s.ctxWrite r (c.val + 1) v) :=
  match c with
  | 0 => rfl
  | 1 => rfl
  | 2 => rfl

theorem State.MayWrite.ctx {s : State} {r : Req} {c : Fin 3} (h : s.MayWrite r (worldsPage + 0x100 + 4 * c.val)) (v : Word) :
    s.cmdWrite r (worldsPage + 0x100 + 4 * c.val) v = s.ctxWrite r (c.val + 1) v :=
  h.kindReg (k := .worlds) (by clear h; revert c; decide) (by clear h; revert c; decide)
    (by clear h; revert c; decide) (s.kindWrite_ctx r c v)

theorem State.ctxWrite_of_taken {s : State} {v : Word} (ht : isTen (bits v.toNat 11 0) = true)
    (hc : bit v.toNat 31 = true → s.cove (bits v.toNat 27 22) = .sealed) (r : Req) (c : Nat) :
    s.ctxWrite r (c + 1) v = s.wr (worldsPage + 0x100 + 4 * c) (v &&& 0x8FC00FFF) := by
  unfold State.ctxWrite
  rw [if_neg (by simpa [ht] using hc)]
  rfl

theorem State.ctxWrite_of_stray {s : State} {v : Word} (h : isTen (bits v.toNat 11 0) = false ∨
    (bit v.toNat 31 = true ∧ s.cove (bits v.toNat 27 22) ≠ .sealed)) (r : Req) (c : Nat) :
    s.ctxWrite r (c + 1) v = s.stray r (worldsPage + 0x100 + 4 * c) true := if_pos h.symm

/-! `POT_CMD` (R440, R441) -/

theorem State.MayWrite.potWrite {s : State} {r : Req} (h : s.MayWrite r (potPage + 0x114)) :
    s.cmdWrite r (potPage + 0x114) 1 = s.potWriteCmd :=
  h.kindReg (k := .pot) (by decide) (by decide) (by decide) rfl

theorem State.MayWrite.potRead {s : State} {r : Req} (h : s.MayWrite r (potPage + 0x114)) :
    s.cmdWrite r (potPage + 0x114) 2 = s.potReadCmd :=
  h.kindReg (k := .pot) (by decide) (by decide) (by decide) rfl

/-- What a `WRITE` of value v into n entries from i does, by the reason that it is refused with. -/
def State.potWriteBy (s : State) (i n v reason : Nat) : State :=
  if reason ≠ 0 then s.put potPage F.POT.POT_RESULT_REASON reason
  else { (s.put potPage F.POT.POT_RESULT_REASON reason).put potPage F.POT.POT_RESULT_BUSY 1 with
    potRun := some ⟨i, n, BitVec.ofNat 32 v⟩ }

theorem State.potWriteCmd_eq (s : State) {i n v : Nat} (hi : i = s.get potPage F.POT.POT_INDEX)
    (hn : n = s.get potPage F.POT.POT_COUNT) (hv : v = s.get potPage F.POT.POT_VALUE) :
    s.potWriteCmd = s.potWriteBy i n v (s.potWriteReason i n v) := by
  subst hi hn hv
  rfl

theorem State.potWriteReason_of_running {s : State} (h : s.potRun.isSome = true) (i n v : Nat) :
    s.potWriteReason i n v = 0x07 := if_pos h

theorem State.potWriteReason_of_no_dram {s : State} (h : s.potRun = none) (hd : s.dramReady = false) (i n v : Nat) :
    s.potWriteReason i n v = 0x0A := by
  unfold State.potWriteReason
  rw [if_neg (by simp [h]), if_pos hd]
  rfl

theorem State.potWriteReason_of_range {s : State} {i n : Nat} (h : s.potRun = none) (hd : s.dramReady = true)
    (hr : n = 0 ∨ 525056 < i + n) (v : Nat) : s.potWriteReason i n v = 0x04 := by
  unfold State.potWriteReason
  rw [if_neg (by simp [h]), if_neg (by simp [hd]), if_pos (by omega)]
  rfl

/-- The reason that a `READ` of entry i is refused with, 0 when it is accepted, and what it does by that reason. -/
def State.potReadReason (s : State) (i : Nat) : Nat :=
  if s.potRun.isSome then rInUse else if s.dramReady = false then rDepend
  else if 525056 ≤ i ∨ s.potStored i = false then rRange else 0

def State.potReadBy (s : State) (i reason : Nat) : State :=
  let u := s.put potPage F.POT.POT_RESULT_REASON reason
  if reason ≠ 0 then u
  else match u.potCache.find? (fun x => x.1 == i / 16) with
    | some x => u.put potPage F.POT.POT_READ_VALUE (bits x.2.toNat (32 * (i % 16) + 31) (32 * (i % 16)))
    | none =>
      let a := u.potBase + 4 * i
      (u.dramScan 0x80 1 a 4 8 (a / 64 * 8)).1.potAnswer i (u.dramDec (a / 8))

theorem State.potReadCmd_eq (s : State) {i : Nat} (hi : i = s.get potPage F.POT.POT_INDEX) :
    s.potReadCmd = s.potReadBy i (s.potReadReason i) := by
  subst hi
  rfl

theorem State.potReadReason_of_running {s : State} (h : s.potRun.isSome = true) (i : Nat) : s.potReadReason i = 0x07 := if_pos h

section Read
variable {s : State} (h : s.potRun = none) (hd : s.dramReady = true)
include h hd

theorem State.potReadReason_of_idle (i : Nat) :
    s.potReadReason i = if 525056 ≤ i ∨ s.potStored i = false then 0x04 else 0 := by
  unfold State.potReadReason
  rw [if_neg (by simp [h]), if_neg (by simp [hd])]
  rfl

theorem State.potReadReason_of_range {i : Nat} (hi : 525056 ≤ i) : s.potReadReason i = 0x04 := by
  rw [State.potReadReason_of_idle h hd, if_pos (.inl hi)]

theorem State.potReadReason_of_stored {i : Nat} (hi : i < 525056) (hs : s.potStored i = true) : s.potReadReason i = 0 := by
  rw [State.potReadReason_of_idle h hd, if_neg (by simp [hs, hi])]

end Read

theorem State.potReadBy_of_cached {s : State} {i b : Nat} {x : BitVec 512}
    (hx : s.potCache.find? (fun e => e.1 == i / 16) = some (b, x)) :
    s.potReadBy i 0 = (s.put potPage F.POT.POT_RESULT_REASON 0).put potPage F.POT.POT_READ_VALUE
      (bits x.toNat (32 * (i % 16) + 31) (32 * (i % 16))) := by
  unfold State.potReadBy
  dsimp only
  rw [if_neg (fun hne => hne rfl), State.put_potCache, hx]

theorem State.potReadBy_of_uncached {s : State} {i : Nat} (hx : s.potCache.find? (fun e => e.1 == i / 16) = none) :
    s.potReadBy i 0 =
      let u := s.put potPage F.POT.POT_RESULT_REASON 0
      let a := u.potBase + 4 * i
      (u.dramScan 0x80 1 a 4 8 (a / 64 * 8)).1.potAnswer i (u.dramDec (a / 8)) := by
  unfold State.potReadBy
  dsimp only
  rw [if_neg (fun hne => hne rfl), State.put_potCache, hx]

/-! The end of a `WRITE` (R441, R442) -/

theorem exec_potWriteDone (s : State) : exec .potWriteDone s = .next s.potDone := rfl

/-- The words of a command are written: the state, whether a word was damaged, and the tenancies of the old entries. -/
def State.potWritten (s : State) (c : PotCmd) : State × Bool × List Nat :=
  s.potPutEntries c.index c.count c.value.toNat (upto (c.index / 2) ((c.index + c.count - 1) / 2 + 1 - c.index / 2))

/-- The command is over: the cached entries are replaced and the tenancies have their records. -/
def State.potReplaced (u : State) (c : PotCmd) : State :=
  { u with potRun := none, potCache := u.potCache.map (potReplace c.index c.count c.value.toNat) }
def State.potRecorded (u : State) (c : PotCmd) (damaged : Bool) (old : List Nat) : State :=
  forN (fun t w => w.ownRecord c (entryTens c.value.toNat) old t) 16 ((u.put potPage F.POT.POT_RESULT_BUSY 0).put
    potPage F.POT.POT_RESULT_REASON (if damaged then 0x44 else 0))

/-- The requests that waited for the command are judged. -/
def State.potJudged (v : State) : State := forL (fun q w => w.dramJudge q.rq q.stream q.data) v.potWait { v with potWait := [] }

theorem State.potDone_of_idle {s : State} (h : s.potRun = none) : s.potDone = s := by
  unfold State.potDone
  rw [h]

theorem State.potDone_of_run {s : State} {c : PotCmd} {x : State × Bool × List Nat} (h : s.potRun = some c)
    (hx : x = s.potWritten c) : s.potDone = ((x.1.potReplaced c).potRecorded c x.2.1 x.2.2).potJudged := by
  subst hx
  unfold State.potDone
  rw [h]
  rfl

/-! What the records of a command leave alone -/

/-- What gives a word of DRAM its place and its check is the same. -/
structure DramSame (s t : State) : Prop where
  dram : t.dram = s.dram
  die : t.die = s.die
  regs : ∀ a, 0xA0000 ≤ a → t.rd a = s.rd a

theorem DramSame.refl (s : State) : DramSame s s := ⟨rfl, rfl, fun _ _ => rfl⟩

theorem DramSame.trans {s t u : State} (h : DramSame s t) (k : DramSame t u) : DramSame s u :=
  ⟨k.dram.trans h.dram, k.die.trans h.die, fun a ha => (k.regs a ha).trans (h.regs a ha)⟩

/-- The parts that a command's records leave alone: its run, the requests that wait, the cache, and the words of DRAM. -/
structure PotSame (s t : State) : Prop where
  run : t.potRun = s.potRun
  wait : t.potWait = s.potWait
  cache : t.potCache = s.potCache
  mem : DramSame s t

theorem PotSame.refl (s : State) : PotSame s s := ⟨rfl, rfl, rfl, DramSame.refl s⟩

theorem PotSame.trans {s t u : State} (h : PotSame s t) (k : PotSame t u) : PotSame s u :=
  ⟨k.run.trans h.run, k.wait.trans h.wait, k.cache.trans h.cache, h.mem.trans k.mem⟩

theorem quiet_potRun : Quiet State.potRun := by constructor <;> exact fun _ _ => rfl
theorem quiet_potWait : Quiet State.potWait := by constructor <;> exact fun _ _ => rfl
theorem quiet_potCache : Quiet State.potCache := by constructor <;> exact fun _ _ => rfl
theorem quiet_dram : Quiet State.dram := by constructor <;> exact fun _ _ => rfl
theorem quiet_die : Quiet State.die := by constructor <;> exact fun _ _ => rfl

theorem PotSame.put (s : State) {p : Nat} {x : Fld} (h : p + x.off < 0xA0000) (v : Nat) : PotSame s (s.put p x v) :=
  ⟨rfl, rfl, rfl, rfl, rfl, fun _ ha => s.rd_put_other (by omega) v⟩

theorem PotSame.ownRecord (s : State) (c : PotCmd) (new old : List Nat) {t : Nat} (ht : t < 16) :
    PotSame s (s.ownRecord c new old t) := by
  unfold State.ownRecord
  split
  · refine ⟨quiet_potRun.jrec s _ _ _ _ _, quiet_potWait.jrec s _ _ _ _ _, quiet_potCache.jrec s _ _ _ _ _,
      quiet_dram.jrec s _ _ _ _ _, quiet_die.jrec s _ _ _ _ _, fun a ha => s.rd_jrec_other ?_ _ _ _ _⟩
    have hseq : F.TEN.J_SEQ.off < 0x1000 := by decide
    have hlost : F.TEN.J_LOST.off < 0x1000 := by decide
    simp only [tenPage, pg, regAddr, List.mem_cons, List.not_mem_nil, or_false, not_or]
    omega
  · exact PotSame.refl s

theorem PotSame.ownRecords (u : State) (c : PotCmd) (new old : List Nat) :
    ∀ n, n ≤ 16 → PotSame u (forN (fun t w => w.ownRecord c new old t) n u)
  | 0, _ => PotSame.refl u
  | n + 1, hn => (PotSame.ownRecords u c new old n (by omega)).trans (PotSame.ownRecord _ c new old (by omega))

theorem PotSame.potRecorded (u : State) (c : PotCmd) (damaged : Bool) (old : List Nat) :
    PotSame u (u.potRecorded c damaged old) :=
  ((PotSame.put u (p := potPage) (x := F.POT.POT_RESULT_BUSY) (by decide) 0).trans
    (PotSame.put _ (p := potPage) (x := F.POT.POT_RESULT_REASON) (by decide) (if damaged then 0x44 else 0))).trans
    (PotSame.ownRecords _ c _ old 16 (by omega))

/-- The place and the check of a word of DRAM rest on DRAM, the part, DRAM.MAP and the channels' geometry. -/
theorem DramSame.dramChkOf {s t : State} (h : DramSame s t) (w : Nat) : t.dramChkOf w = s.dramChkOf w := by
  have hpart : t.part = s.part := congrArg Config.partOf h.die
  have hget : ∀ p x, 0xA0000 ≤ p → t.get p x = s.get p x := fun p x hp => congrArg x.get (h.regs _ (by omega))
  have hmap : ∀ x, t.get dmapPage x = s.get dmapPage x := fun x => hget _ x (by decide)
  have hgeom : ∀ c x, t.get (chanPage c) x = s.get (chanPage c) x := fun c x => hget _ x (by simp only [chanPage, pg, regAddr]; omega)
  have hchans : t.mapChans = s.mapChans := by
    unfold State.mapChans
    rw [hpart, hmap]
  have horder : t.mapOrder = s.mapOrder := hmap _
  have hmib : ∀ c, t.chanMib c = s.chanMib c := by
    intro c
    unfold State.chanMib
    rw [hgeom, hgeom]
  have hlocal : ∀ l a, localChan t l a = localChan s l a := by
    intro l
    induction l with
    | nil => exact fun _ => rfl
    | cons c l ih => simp only [localChan, hmib, ih, implies_true]
  have hchan : ∀ a, t.dramChan a = s.dramChan a := by
    intro a
    unfold State.dramChan
    simp only [hchans, horder, hlocal]
  have hloc : ∀ a, t.dramLoc a = s.dramLoc a := by
    intro a
    unfold State.dramLoc State.dramCoord
    simp only [hchan, horder, hgeom]
  unfold State.dramChkOf
  rw [h.dram, hloc]

/-! The words of a command leave the requests that wait for it alone -/

theorem State.dramClean_potWait (s : State) (w x : Nat) : (s.dramClean w x).potWait = s.potWait := rfl
theorem State.dramPoison_potWait (s : State) (w x : Nat) : (s.dramPoison w x).potWait = s.potWait := rfl

theorem State.dramUe_potWait (s : State) (acc rid tag w cause syn : Nat) :
    (s.dramUe acc rid tag w cause syn).potWait = s.potWait := by
  unfold State.dramUe
  dsimp only
  rw [quiet_potWait.hitAcc, quiet_potWait.intBit, quiet_potWait.stat, quiet_potWait.logAdd]

theorem State.dramCe_potWait (s : State) (rid tag w syn : Nat) (scrub : Bool) :
    (s.dramCe rid tag w syn scrub).potWait = s.potWait := by
  unfold State.dramCe
  dsimp only
  rw [quiet_potWait.stat, quiet_potWait.logAdd, quiet_potWait.bucketAdd]

theorem State.potPutDec_potWait (s : State) (lo hi : Bool) (v w : Nat) (d : Dec) :
    (s.potPutDec lo hi v w d).1.potWait = s.potWait := by
  unfold State.potPutDec
  dsimp only
  generalize (if lo then v else bits d.data 31 0) + ((if hi then v else bits d.data 63 32) <<< 32) = x
  cases d with
  | bad e c y =>
    dsimp only
    split
    · exact s.dramClean_potWait w x
    · exact (State.dramUe_potWait _ _ _ _ _ _ _).trans (s.dramPoison_potWait w x)
  | fixed e y =>
    dsimp only
    split
    · exact s.dramClean_potWait w x
    · exact (State.dramCe_potWait _ _ _ _ _ _).trans (s.dramClean_potWait w x)
  | clean e => exact s.dramClean_potWait w x

theorem State.potPutWord_potWait (s : State) (i n v h : Nat) : (s.potPutWord i n v h).1.potWait = s.potWait :=
  s.potPutDec_potWait _ _ _ _ _

theorem State.potPutEntries_potWait (i n v : Nat) (l : List Nat) :
    ∀ s : State, (s.potPutEntries i n v l).1.potWait = s.potWait := by
  induction l with
  | nil => exact fun _ => rfl
  | cons h l ih =>
    intro s
    rw [State.potPutEntries]
    exact (ih _).trans (s.potPutWord_potWait i n v h)

/-- With no request that waits, the command ends with its entries written and its records. -/
theorem State.potJudged_of_none {v : State} (h : v.potWait = []) : v.potJudged = { v with potWait := [] } := by
  unfold State.potJudged
  rw [h]
  rfl

theorem State.potReplaced_dramSame (u : State) (c : PotCmd) : DramSame u (u.potReplaced c) := ⟨rfl, rfl, fun _ _ => rfl⟩

theorem State.potDone_of_alone {s : State} {c : PotCmd} {x : State × Bool × List Nat} (h : s.potRun = some c)
    (hx : x = s.potWritten c) (hw : x.1.potWait = []) :
    ∃ t, exec .potWriteDone s = .next t ∧ PotSame (x.1.potReplaced c) t := by
  have hsame := PotSame.potRecorded (x.1.potReplaced c) c x.2.1 x.2.2
  have hdone := State.potDone_of_run h hx
  generalize (x.1.potReplaced c).potRecorded c x.2.1 x.2.2 = v at hsame hdone
  have hv : v.potWait = [] := hsame.wait.trans hw
  have hjudged : PotSame v { v with potWait := [] } := ⟨rfl, hv.symm, rfl, rfl, rfl, fun _ _ => rfl⟩
  rw [State.potJudged_of_none hv] at hdone
  exact ⟨_, (exec_potWriteDone s).trans (congrArg Host.Outcome.next hdone), hsame.trans hjudged⟩

/-! Coves (R446, R447) -/

/-- The word of `COVE_CMD` for operation `op` on Cove n. -/
def coveWord (op n : Nat) : Word := BitVec.ofNat 32 (op * 256 + n)

theorem coveWord_cove (op : Fin 4) (n : Fin 64) : bits (coveWord op.val n.val).toNat 5 0 = n.val := by
  revert op n
  decide

theorem coveWord_op (op : Fin 4) (n : Fin 64) : bits (coveWord op.val n.val).toNat 9 8 = op.val := by
  revert op n
  decide

theorem coveReg_cmd (r : Req) (v : Word) (s : State) : coveReg 0x300 r v s =
    match bits v.toNat 9 8 with
    | 1 => some (s.coveBuild (bits v.toNat 5 0))
    | 2 => some (s.coveSeal (bits v.toNat 5 0))
    | 3 => some (s.coveDestroy (bits v.toNat 5 0))
    | _ => some (s.coveResult rRange) := rfl

section Cove
variable {s : State} {r : Req} (h : s.MayWrite r (covePage + 0x300)) (n : Fin 64)
include h

theorem State.MayWrite.coveCmd {op : Fin 4} {t : State} (ht : coveReg 0x300 r (coveWord op.val n.val) s = some t) :
    s.coveCmd r op.val n.val = t :=
  h.kindReg (k := .cove) (by decide) (by decide) (by decide) ht

theorem State.MayWrite.build : s.coveCmd r 1 n.val = s.coveBuild n.val :=
  h.coveCmd n (op := 1) (by rw [coveReg_cmd, coveWord_op, coveWord_cove]; rfl)

theorem State.MayWrite.seal : s.coveCmd r 2 n.val = s.coveSeal n.val :=
  h.coveCmd n (op := 2) (by rw [coveReg_cmd, coveWord_op, coveWord_cove]; rfl)

theorem State.MayWrite.destroy : s.coveCmd r 3 n.val = s.coveDestroy n.val :=
  h.coveCmd n (op := 3) (by rw [coveReg_cmd, coveWord_op, coveWord_cove]; rfl)

end Cove

theorem State.coveBuild_of_free {s : State} {n : Nat} (h : s.cove n = .free) :
    s.coveBuild n = ((s.setCove n .building).setMeas (64 + n) 0).put covePage F.COVE.COVE_RESULT 0 := if_neg (fun hne => hne h)

theorem State.coveBuild_of_used {s : State} {n : Nat} (h : s.cove n ≠ .free) :
    s.coveBuild n = s.put covePage F.COVE.COVE_RESULT 0x07 := if_pos h

theorem State.coveSeal_of_not_building {s : State} {n : Nat} (h : s.cove n ≠ .building) :
    s.coveSeal n = s.put covePage F.COVE.COVE_RESULT 0x07 := if_pos h

theorem State.coveSeal_of_unnamed {s : State} {n : Nat} (h : s.cove n = .building) (hn : s.coveNamed n = false) :
    s.coveSeal n = s.put covePage F.COVE.COVE_RESULT 0x0A := (if_neg (fun hne => hne h)).trans (if_pos hn)

theorem State.coveSeal_of_named {s : State} {n : Nat} (h : s.cove n = .building) (hn : s.coveNamed n = true) :
    s.coveSeal n = (s.setCove n .sealed).put covePage F.COVE.COVE_RESULT 0 :=
  (if_neg (fun hne => hne h)).trans (if_neg (by simp [hn]))

theorem State.coveDestroy_of_free {s : State} {n : Nat} (h : s.cove n = .free) :
    s.coveDestroy n = s.put covePage F.COVE.COVE_RESULT 0x07 :=
  if_pos (.inr ⟨by simp [h], by simp [h]⟩)

theorem State.coveDestroy_of_built {s : State} {n : Nat} (h : s.cove n = .sealed ∨ s.cove n = .building)
    (hc : ∀ c, 1 ≤ c → c ≤ 3 → bit (s.ctxWord c) 31 = false) :
    s.coveDestroy n = ((s.setCove n .clearing).coveLeft n).put covePage F.COVE.COVE_RESULT 0 := by
  have hnone : (upto 1 3).any (fun c => bit (s.ctxWord c) 31 && bits (s.ctxWord c) 27 22 == n) = false := by
    simp [upto, hc 1 (by omega) (by omega), hc 2 (by omega) (by omega), hc 3 (by omega) (by omega)]
  unfold State.coveDestroy
  rw [hnone]
  exact if_neg (by rcases h with h | h <;> simp [h])

theorem exec_coveClearDone (n : Fin 64) (s : State) : exec (.coveClearDone n) s = .next (s.coveCleared n.val) := rfl

theorem State.coveCleared_of_other {s : State} {n : Nat} (h : s.cove n ≠ .clearing) : s.coveCleared n = s := if_neg h

theorem State.coveCleared_of_clearing {s : State} {n : Nat} (h : s.cove n = .clearing) :
    s.coveCleared n = (forN (fun k u =>
      if u.flag covePage (F.COVE.CRANGE_VALID.at k) ∧ u.get covePage (F.COVE.CRANGE_COVE.at k) = n then u.rangeClear k
      else u) 64 s).setCove n .free := if_pos h

/-! `EXTEND_CMD` (R449) -/

/-- The word of `EXTEND_CMD` that extends register t. -/
def extendWord (t : BitVec 7) : Word := BitVec.ofNat 32 (0x80000000 + t.toNat)

theorem extendWord_go (t : BitVec 7) : bit (extendWord t).toNat 31 = true := by
  revert t
  decide

theorem extendWord_register (t : BitVec 7) : bits (extendWord t).toNat 6 0 = t.toNat := by
  revert t
  decide

theorem State.ownRule_extend (s : State) (r : Req) (v : Word) : s.ownRule r (measPage + 0x470) v =
    if bit v.toNat 31 then some (s.extendCmd r (bits v.toNat 6 0), false) else none := rfl

theorem State.Reaches.extend {s : State} {r : Req} (h : s.Reaches r (measPage + 0x470)) (t : BitVec 7) :
    s.cmdWrite r (measPage + 0x470) (extendWord t) = s.extendCmd r t.toNat := by
  have hn := (s.ownRule_extend r (extendWord t)).trans (if_pos (extendWord_go t))
  rw [extendWord_register] at hn
  exact h.ruledReg (by decide) (by decide) hn

/-- What an extension of register t does. -/
def State.extended (s : State) (t : Nat) : State := s.setMeas t (extendHash (s.measOf t) s.extendData)

section Extend
variable {s : State} {r : Req} {t : Nat} (hr : r.tag = 1)
include hr

theorem State.extendCmd_of_secure : s.extendCmd r t =
    if 64 ≤ t then (if s.cove (t - 64) ≠ .building then s.refuse measPage (Verdict.no 0x41 0x470 0) else s.extended t)
    else if 16 ≤ t then s.refuse measPage (Verdict.no 0x04 0x470 0)
    else if t < 2 ∧ s.mode ≠ .load ∧ s.mode ≠ .boot ∧ s.restart.run.isNone then s.refuse measPage (Verdict.no 0x10 0x470 0)
    else s.extended t := if_neg (fun hne => hne hr)

theorem State.extendCmd_of_free (h2 : 2 ≤ t) (h16 : t < 16) : s.extendCmd r t = s.extended t := by
  rw [State.extendCmd_of_secure hr, if_neg (by omega), if_neg (by omega), if_neg (by omega)]

theorem State.extendCmd_of_building (h : 64 ≤ t) (hb : s.cove (t - 64) = .building) : s.extendCmd r t = s.extended t := by
  rw [State.extendCmd_of_secure hr, if_pos h, if_neg (fun hne => hne hb)]

theorem State.extendCmd_of_not_building (h : 64 ≤ t) (hb : s.cove (t - 64) ≠ .building) :
    s.extendCmd r t = s.refuse measPage (Verdict.no 0x41 0x470 0) := by
  rw [State.extendCmd_of_secure hr, if_pos h, if_pos hb]

theorem State.extendCmd_of_absent (h16 : 16 ≤ t) (h64 : t < 64) :
    s.extendCmd r t = s.refuse measPage (Verdict.no 0x04 0x470 0) := by
  rw [State.extendCmd_of_secure hr, if_neg (by omega), if_pos h16]

theorem State.extendCmd_of_locked (h : t < 2) (hm : s.mode = .run) (hn : s.restart.run = none) :
    s.extendCmd r t = s.refuse measPage (Verdict.no 0x10 0x470 0) := by
  rw [State.extendCmd_of_secure hr, if_neg (by omega), if_neg (by omega), if_pos ⟨h, by simp [hm], by simp [hm], by simp [hn]⟩]

end Extend

end Sys2Proof.Machine
end

section
/-! Settles the statement about the secure world. -/

namespace Sys2Proof.Machine

/-- Settles O53: each clause is the case of the register's command, or of its end, that its hypotheses name. -/
theorem secureWorld : Obligations.SecureWorld := by
  unfold Obligations.SecureWorld
  refine ⟨?ctx, ?strayCtx, ?write, ?reasons, ?noRun, ?done, ?entries, ?read, ?readBusy, ?cove, ?notClearing, ?cleared, ?extend⟩
  case ctx =>
    intro s r c v h ht hc
    exact congrArg Host.Outcome.next ((h.ctx v).trans (State.ctxWrite_of_taken ht hc r c.val))
  case strayCtx =>
    intro s r c v h hbad
    exact congrArg Host.Outcome.next ((h.ctx v).trans (State.ctxWrite_of_stray hbad r c.val))
  case write =>
    intro s r h i n v
    have hstep : exec (.potWrite r) s = .next (s.potWriteBy i n v (s.potWriteReason i n v)) :=
      congrArg Host.Outcome.next (h.potWrite.trans (s.potWriteCmd_eq rfl rfl rfl))
    refine ⟨fun h0 => ?_, fun hne => hstep.trans (congrArg Host.Outcome.next (if_pos hne))⟩
    rw [hstep, h0]
    rfl
  case reasons =>
    intro s i n v
    exact ⟨fun h => State.potWriteReason_of_running h i n v, fun h hd => State.potWriteReason_of_no_dram h hd i n v,
      fun h hd hr => State.potWriteReason_of_range h hd hr v⟩
  case noRun =>
    intro s h
    rw [exec_potWriteDone, State.potDone_of_idle h]
  case done =>
    intro s c h x u v
    have hx : s.potWritten c = x := rfl
    have hdone := State.potDone_of_run h hx.symm
    have hu : x.1.potReplaced c = u := rfl
    have hv : u.potRecorded c x.2.1 x.2.2 = v := rfl
    rw [hu, hv] at hdone
    exact congrArg Host.Outcome.next hdone
  case entries =>
    intro s c h hw
    obtain ⟨x, hx⟩ : ∃ x, x = s.potWritten c := ⟨_, rfl⟩
    have hwait : x.1.potWait = [] := by
      rw [hx]
      exact (State.potPutEntries_potWait _ _ _ _ s).trans hw
    obtain ⟨t, ht, hsame⟩ := State.potDone_of_alone h hx hwait
    have hmem : DramSame x.1 t := DramSame.trans (x.1.potReplaced_dramSame c) hsame.mem
    exact ⟨t, x.1, ht, congrArg Prod.fst hx, hsame.run, hsame.wait.trans hwait, hmem.dram, hmem.dramChkOf, hsame.cache⟩
  case read =>
    intro s r h hr hd i
    have hstep : exec (.potRead r) s = .next (s.potReadBy i (s.potReadReason i)) :=
      congrArg Host.Outcome.next (h.potRead.trans (s.potReadCmd_eq rfl))
    refine ⟨fun hi => ?_, fun b x hi hs hx => ?_, fun hi hs hx => ?_⟩
    · rw [hstep, State.potReadReason_of_range hr hd hi]
      rfl
    · rw [hstep, State.potReadReason_of_stored hr hd hi hs, State.potReadBy_of_cached hx]
    · rw [hstep, State.potReadReason_of_stored hr hd hi hs, State.potReadBy_of_uncached hx]
  case readBusy =>
    intro s r h hr
    have hread := h.potRead.trans (s.potReadCmd_eq rfl)
    rw [State.potReadReason_of_running hr] at hread
    exact congrArg Host.Outcome.next hread
  case cove =>
    intro s r n h
    have hbuild : exec (.build r n) s = .next (s.coveBuild n.val) := congrArg Host.Outcome.next (h.build n)
    have hseal : exec (.seal r n) s = .next (s.coveSeal n.val) := congrArg Host.Outcome.next (h.seal n)
    have hdestroy : exec (.destroy r n) s = .next (s.coveDestroy n.val) := congrArg Host.Outcome.next (h.destroy n)
    rw [hbuild, hseal, hdestroy]
    exact ⟨fun h => congrArg Host.Outcome.next (State.coveBuild_of_free h),
      fun h => congrArg Host.Outcome.next (State.coveBuild_of_used h),
      fun h hn => congrArg Host.Outcome.next (State.coveSeal_of_named h hn),
      fun h hn => congrArg Host.Outcome.next (State.coveSeal_of_unnamed h hn),
      fun h => congrArg Host.Outcome.next (State.coveSeal_of_not_building h),
      fun h hc => congrArg Host.Outcome.next (State.coveDestroy_of_built h hc),
      fun h => congrArg Host.Outcome.next (State.coveDestroy_of_free h)⟩
  case notClearing =>
    intro s n h
    rw [exec_coveClearDone, State.coveCleared_of_other h]
  case cleared =>
    intro s n h
    rw [exec_coveClearDone, State.coveCleared_of_clearing h]
  case extend =>
    intro s r t h
    have hstep : exec (.extend r t) s = .next (s.extendCmd r t.toNat) := congrArg Host.Outcome.next (h.extend t)
    rw [hstep]
    exact ⟨fun hr h2 h16 => congrArg Host.Outcome.next (State.extendCmd_of_free hr h2 h16),
      fun hr h64 hb => congrArg Host.Outcome.next (State.extendCmd_of_building hr h64 hb),
      fun hr h64 hb => congrArg Host.Outcome.next (State.extendCmd_of_not_building hr h64 hb),
      fun hr h16 h64 => congrArg Host.Outcome.next (State.extendCmd_of_absent hr h16 h64),
      fun hr h2 hm hn => congrArg Host.Outcome.next (State.extendCmd_of_locked hr h2 hm hn)⟩

end Sys2Proof.Machine
end

section
/-! SUPPORT. Mailboxes, the restart of the secure side, watchdogs and service cores (R455, R457–R459, R462, R463): one lemma per
case of each operation. -/

namespace Sys2Proof.Machine

/-! Mailboxes (R455) -/

/-- The address of channel k's `CHAN_CMD`. -/
def mboxCmdAt (k : Fin 4) : Nat := mboxPage + 0x184 + 0x100 * k.val

theorem mboxOwnerReg_cmd (k : Fin 4) (r : Req) (v : Word) (s : State) : mboxOwnerReg (0x184 + 0x100 * k.val) r v s =
    if r.tag.toNat = s.get mboxPage (F.MBOX.CHAN_OWNER.at k.val) ∧ r.tag ≠ 0 then
      some (if bit v.toNat 0 then s.mboxPost k.val else s)
    else none := by
  have hk : (0x184 + 0x100 * k.val) / 0x100 - 1 = k.val := by omega
  have ho : (0x184 + 0x100 * k.val) % 0x100 = 0x84 := by omega
  have hrange : 0x100 ≤ 0x184 + 0x100 * k.val ∧ 0x184 + 0x100 * k.val < 0x500 := by omega
  unfold mboxOwnerReg
  dsimp only
  rw [hk, ho]
  simp [hrange]

theorem mboxReg_cmd (k : Fin 4) (r : Req) (v : Word) (s : State) : mboxReg (0x184 + 0x100 * k.val) r v s =
    some (if bit v.toNat 1 then s.mboxDone k.val else s) := by
  have hk : (0x184 + 0x100 * k.val) / 0x100 - 1 = k.val := by omega
  have ho : (0x184 + 0x100 * k.val) % 0x100 = 0x84 := by omega
  have hrange : 0x100 ≤ 0x184 + 0x100 * k.val ∧ 0x184 + 0x100 * k.val < 0x500 := by omega
  unfold mboxReg
  dsimp only
  rw [hk, ho, if_pos hrange]
  rfl

theorem pageOf_mboxCmdAt : ∀ k, pageOf (mboxCmdAt k) = mboxPage := by decide
theorem offOf_mboxCmdAt : ∀ k : Fin 4, offOf (mboxCmdAt k) = 0x184 + 0x100 * k.val := by decide

theorem mboxCmdAt_ne : ∀ k, mboxCmdAt k ≠ divPage + 0x140 ∧ mboxCmdAt k ≠ blockreqPage + 0x100 ∧ mboxCmdAt k ≠ srcsPage + 0x108 := by
  decide

theorem State.ownRule_mboxCmd (s : State) (r : Req) (k : Fin 4) (v : Word) :
    s.ownRule r (mboxCmdAt k) v = (mboxOwnerReg (0x184 + 0x100 * k.val) r v s).map (fun t => (t, false)) := by
  obtain ⟨hdiv, hblock, hsrcs⟩ := mboxCmdAt_ne k
  unfold State.ownRule
  dsimp only
  rw [if_neg hdiv, if_neg hblock, if_neg hsrcs, if_pos (pageOf_mboxCmdAt k), offOf_mboxCmdAt]
  cases mboxOwnerReg (0x184 + 0x100 * k.val) r v s <;> rfl

theorem State.kindWrite_mboxCmd (s : State) (r : Req) (k : Fin 4) (v : Word) :
    s.kindWrite r .mbox (pageOf (mboxCmdAt k)) (offOf (mboxCmdAt k)) v = mboxReg (0x184 + 0x100 * k.val) r v s := by
  rw [offOf_mboxCmdAt]
  rfl

theorem mboxCmdAt_defined : ∀ k, (pinfoAt (mboxCmdAt k)).any (fun i => i.kind == .mbox && offDefined i (offOf (mboxCmdAt k)))
    = true := by decide

theorem mboxCmdAt_off : ∀ k, 0x100 ≤ offOf (mboxCmdAt k) := by decide

theorem mboxCmdAt_page : ∀ k, (pinfoAt (mboxCmdAt k)).any (fun i => offDefined i (offOf (mboxCmdAt k))) = true := by decide

theorem State.Reaches.mboxPost {s : State} {r : Req} {k : Fin 4} (h : s.Reaches r (mboxCmdAt k)) (ht : r.tag ≠ 0)
    (ho : r.tag.toNat = s.get mboxPage (F.MBOX.CHAN_OWNER.at k.val)) : s.cmdWrite r (mboxCmdAt k) 1 = s.mboxPost k.val := by
  have hrule := s.ownRule_mboxCmd r k 1
  rw [mboxOwnerReg_cmd, if_pos ⟨ho, ht⟩] at hrule
  have hoff := mboxCmdAt_off k
  exact h.ruledReg (mboxCmdAt_page k) (by omega) hrule

theorem State.MayWrite.mboxDone {s : State} {r : Req} {k : Fin 4} (h : s.MayWrite r (mboxCmdAt k))
    (ho : r.tag.toNat ≠ s.get mboxPage (F.MBOX.CHAN_OWNER.at k.val)) : s.cmdWrite r (mboxCmdAt k) 2 = s.mboxDone k.val := by
  have hrule := s.ownRule_mboxCmd r k 2
  rw [mboxOwnerReg_cmd, if_neg (fun hc => ho hc.1)] at hrule
  exact h.ownedReg hrule (mboxCmdAt_defined k) (mboxCmdAt_off k) ((s.kindWrite_mboxCmd r k 2).trans (mboxReg_cmd k r 2 s))

theorem State.mboxPost_of_idle {s : State} {k : Nat} (h : s.flag mboxPage (F.MBOX.CHAN_STATE_BUSY.at k) = false) :
    s.mboxPost k = ((s.put mboxPage (F.MBOX.CHAN_STATE_BUSY.at k) 1).put64 mboxPage (F.MBOX.POST_TS_LO.at k) s.now).intBit
      mboxPage k := if_neg (by simp [h])

theorem State.mboxPost_of_busy {s : State} {k : Nat} (h : s.flag mboxPage (F.MBOX.CHAN_STATE_BUSY.at k) = true) :
    s.mboxPost k = s.put mboxPage (F.MBOX.CHAN_STATE_OVERRUN.at k) 1 := if_pos h

theorem State.mboxDone_of_idle {s : State} {k : Nat} (h : s.flag mboxPage (F.MBOX.CHAN_STATE_BUSY.at k) = false) :
    s.mboxDone k = s := if_neg (by simp [h])

theorem State.mboxDone_of_busy {s : State} {k : Nat} (h : s.flag mboxPage (F.MBOX.CHAN_STATE_BUSY.at k) = true) :
    s.mboxDone k =
      let w := (s.rd (mboxPage + 0x140 + 0x100 * k)).toNat
      let u := s.put mboxPage (F.MBOX.CHAN_STATE_BUSY.at k) 0
      u.jrecTo (u.get mboxPage (F.MBOX.CHAN_OWNER.at k)) 0x0023 mboxPage s.now
        (jpay [(16, 1, k), (17, 1, bits w 7 0), (18, 1, bits w 15 8), (19, 1, bits w 23 16)]) := if_pos h

@[simp] theorem State.mboxDone_control (s : State) (k : Nat) : (s.mboxDone k).control = s.control := by
  unfold State.mboxDone
  simp

@[simp] theorem State.mboxLost_control (s : State) (k : Nat) : (s.mboxLost k).control = s.control := by
  unfold State.mboxLost
  simp

/-! The restart of the secure side (R457–R459) -/

theorem State.MayWrite.restartWrite {s : State} {r : Req} (h : s.MayWrite r (worldsPage + 0x114)) :
    s.cmdWrite r (worldsPage + 0x114) 1 = s.secureTrigger .request :=
  h.kindReg (k := .worlds) (by decide) (by decide) (by decide) rfl

theorem State.restartCause_of_running {s : State} (h : s.coreState 0 ≠ 0) :
    s.restartCause .doubleTrap = s.secureTrigger .doubleTrap ∧ s.restartCause .lockstep = s.hit 12 0 :=
  ⟨if_neg h, if_neg h⟩

/-- Three restarts before this one started less than 10 s ago. -/
def State.restartsFull (s : State) : Bool := ((s.restart.hist.drop 2).take 1).any (fun h => decide (s.now - h < 6144000000))

/-- A restart starts: its cause and its tick stand. -/
def State.restartBegun (s : State) (c : RestartCause) : State :=
  { (s.coreHalt 0).hit 13 0 with restart := ⟨some (s.now, c), (s.now :: s.restart.hist).take 3, false⟩ }

/-- Service cores in M-mode stop, and the secure world's measurement and its bank begin to be cleared. -/
def State.restartStops (s : State) : State :=
  let u := forN (fun i t =>
    if t.coreState (i + 1) ≠ 0 ∧ t.corePriv (i + 1) = 3 then t.put (corePage (i + 1)) F.CORE.CORE_STATE_STATE 3
    else t) 3 (s.put worldsPage F.WORLDS.RESTART_STATE 1)
  ((u.setMeas 0 0).setMeas 1 0).clearStarts 97

/-- A fourth restart is refused: core 0 stays in reset. -/
def State.restartRefused (s : State) : State :=
  ({ ((s.coreHalt 0).endB .secure) with restart := { s.restart with run := none, refused := true } }).hit 13 1

theorem State.secureTrigger_of_full {s : State} (h : s.restartsFull = true) (c : RestartCause) :
    s.secureTrigger c = s.restartRefused := if_pos h

theorem State.secureTrigger_of_free {s : State} (h : s.restartsFull = false) (c : RestartCause) :
    s.secureTrigger c = (s.restartBegun c).restartStops := if_neg (Bool.eq_false_iff.mp h)

theorem State.restartsFull_of_few {s : State} (h : s.restart.hist.length < 3) : s.restartsFull = false := by
  unfold State.restartsFull
  rw [List.drop_eq_nil_of_le (by omega)]
  rfl

theorem State.restartsFull_of_soon {s : State} {a b k : Nat} {l : List Nat} (h : s.restart.hist = a :: b :: k :: l)
    (hk : s.now - k < 6144000000) : s.restartsFull = true := by
  unfold State.restartsFull
  rw [h]
  simp [hk]

@[simp] theorem State.setMeas_control (s : State) (m : Nat) (v : BitVec 384) : (s.setMeas m v).control = s.control := rfl
@[simp] theorem State.clearStarts_control (s : State) (b : Nat) : (s.clearStarts b).control = s.control := rfl
@[simp] theorem State.endReact_control (s : State) (v re : Nat) : (s.endReact v re).control = s.control := rfl

@[simp] theorem State.trapM_control (s : State) (c cause : Nat) : (s.trapM c cause).control = s.control := rfl

theorem State.restartStops_control (s : State) : s.restartStops.control = s.control := by
  unfold State.restartStops
  dsimp only
  rw [State.clearStarts_control, State.setMeas_control, State.setMeas_control, forN_control, State.put_control]
  intro i t
  split <;> rfl

theorem State.restartRefused_restart (s : State) : s.restartRefused.restart = { s.restart with run := none, refused := true } :=
  State.restart_of_control (State.hit_control _ 13 1)

@[simp] theorem State.endB_control (s : State) (t : BTarget) : (s.endB t).control = s.control := by
  unfold State.endB
  exact forL_control (fun b u => by split <;> rfl) _ _

/-! The secure world resumes (R459) -/

theorem State.restartRelease_control (s : State) : s.restartRelease.control = s.control := by
  unfold State.restartRelease
  simp

/-- The boot ROM has read the image: its digest and the restart are counted. -/
def State.restartMeasured (s : State) (digest : BitVec 384) : State :=
  let u := s.restartRelease
  (u.setMeas 0 (extendHash (u.measOf 0) digest)).inc measPage F.MEASURE.RESTART_COUNT

/-- The backup region counts the restart. -/
def State.restartCounted (s : State) : State :=
  { s with backup := { s.backup with
    restarts := s.backup.restarts.write [BitVec.ofNat 32 (s.backup.restarts.word 0 + 1)] } }

/-- Stalled cores trap and busy mailboxes are answered. -/
def State.restartAnswers (s : State) : State :=
  let u := forN (fun i t => if t.coreState (i + 1) = 3 then t.trapM (i + 1) 0x21 else t) 3 s
  forN (fun k t => t.mboxLost k) 4 (u.put worldsPage F.WORLDS.RESTART_STATE 0)

/-- The restart is over, and its record is written. -/
def State.restartEnded (s : State) : State := ({ s with restart := { s.restart with run := none } }).endB .secure
def State.restartRecord (s : State) (start : Nat) (c : RestartCause) : State :=
  s.jrec 0 0x0022 worldsPage start (jpay [(16, 4, s.get measPage F.MEASURE.RESTART_COUNT), (20, 1, c.code), (24, 8, s.now)])

theorem State.restartResume_of_none {s : State} (h : s.restart.run = none) (x : BitVec 384) : s.restartResume x = s := by
  unfold State.restartResume
  rw [h]

theorem State.restartResume_of_run {s : State} {k : Nat} {c : RestartCause} (h : s.restart.run = some (k, c)) (x : BitVec 384) :
    s.restartResume x = (s.restartMeasured x).restartCounted.restartAnswers.restartEnded.restartRecord k c := by
  unfold State.restartResume
  rw [h]
  unfold State.restartRecord State.restartEnded State.restartAnswers State.restartCounted State.restartMeasured
  with_reducible rfl

theorem State.restartMeasured_control (s : State) (x : BitVec 384) : (s.restartMeasured x).control = s.control :=
  s.restartRelease_control

theorem State.restartAnswers_control (s : State) : s.restartAnswers.control = s.control := by
  unfold State.restartAnswers
  dsimp only
  rw [forN_control (fun k t => t.mboxLost_control k), State.put_control, forN_control]
  intro i t
  split <;> rfl

theorem State.restartRecord_control (s : State) (k : Nat) (c : RestartCause) : (s.restartRecord k c).control = s.control :=
  s.jrec_control _ _ _ _ _

theorem State.restartEnded_control (s : State) :
    s.restartEnded.control = { s.control with restart := { s.restart with run := none } } := State.endB_control _ _

theorem State.restartResume_control {s : State} {k : Nat} {c : RestartCause} (h : s.restart.run = some (k, c)) (x : BitVec 384) :
    (s.restartResume x).restart.run = none ∧ (s.restartResume x).backup.restarts
      = s.backup.restarts.write [BitVec.ofNat 32 (s.backup.restarts.word 0 + 1)] := by
  rw [State.restartResume_of_run h]
  generalize hu : s.restartMeasured x = u
  have hbackup : u.backup = s.backup := State.backup_of_control (hu ▸ s.restartMeasured_control x)
  have hanswers : u.restartCounted.restartAnswers.backup = u.restartCounted.backup :=
    State.backup_of_control u.restartCounted.restartAnswers_control
  generalize hw : u.restartCounted.restartAnswers = w at hanswers
  have hctl := (w.restartEnded.restartRecord_control k c).trans w.restartEnded_control
  refine ⟨congrArg (fun y => y.restart.run) hctl, (congrArg (fun y => y.backup.restarts) hctl).trans ?_⟩
  exact (congrArg Backup.restarts hanswers).trans (hbackup ▸ rfl)

/-! Watchdogs (R462) -/

/-- The address of `WD_KICK` of core c. -/
def kickAt (c : Fin 4) : Nat := wdogPage + 0x104 + 8 * c.val

/-- A watchdog that is due expires before a kick of that tick counts. -/
def State.wdLate (s : State) (c : Nat) : State :=
  if (match s.wdDue c with | some t => decide (t ≤ s.now) | none => false) then s.wdExpiry c else s

theorem kickAt_ne : ∀ c, kickAt c ≠ divPage + 0x140 ∧ kickAt c ≠ blockreqPage + 0x100 ∧ kickAt c ≠ srcsPage + 0x108
    ∧ pageOf (kickAt c) ≠ mboxPage ∧ pageOf (kickAt c) ≠ tmbPage ∧ kickAt c ≠ tmbPage + 0x108 := by decide

theorem kickAt_place : ∀ c : Fin 4, pageOf (kickAt c) = wdogPage ∧ 0x104 ≤ offOf (kickAt c) ∧ offOf (kickAt c) < 0x124
    ∧ offOf (kickAt c) % 8 = 4 := by decide

theorem kickAt_core : ∀ c : Fin 4, (offOf (kickAt c) - 0x104) / 8 = c.val := by decide

theorem State.ownRule_kick (s : State) (r : Req) (c : Fin 4) (v : Word) :
    s.ownRule r (kickAt c) v = some (s.wdKick r c.val v, false) := by
  obtain ⟨hdiv, hblock, hsrcs, hmbox, htmb, hremote⟩ := kickAt_ne c
  unfold State.ownRule
  dsimp only
  rw [if_neg hdiv, if_neg hblock, if_neg hsrcs, if_neg hmbox, if_neg (fun h => htmb h.1), if_neg hremote, if_pos (kickAt_place c),
    kickAt_core]

theorem kickAt_defined : ∀ c, (pinfoAt (kickAt c)).any (fun i => offDefined i (offOf (kickAt c))) = true
    ∧ offOf (kickAt c) ≠ 0x018 := by decide

theorem State.Reaches.kick {s : State} {r : Req} {c : Fin 4} (h : s.Reaches r (kickAt c)) (v : Word) :
    s.cmdWrite r (kickAt c) v = s.wdKick r c.val v :=
  h.ruledReg (kickAt_defined c).1 (kickAt_defined c).2 (s.ownRule_kick r c v)

theorem State.wdKick_of_key {s u : State} {r : Req} {c : Nat} {v : Word} (hu : u = s.wdLate c) (hv : v.toNat % 65536 = 0x4B49)
    (hr : r.rid.toNat = 0x80 + c) : s.wdKick r c v = u.setCore c { u.core c with wdAt := some u.now } := by
  subst hu
  exact if_pos ⟨hv, hr⟩

theorem State.wdKick_of_stray {s u : State} {r : Req} {c : Nat} {v : Word} (hu : u = s.wdLate c)
    (h : v.toNat % 65536 ≠ 0x4B49 ∨ r.rid.toNat ≠ 0x80 + c) :
    s.wdKick r c v = u.stray r (wdogPage + 0x104 + 8 * c) true := by
  subst hu
  exact if_neg (fun hc => h.elim (fun hv => hv hc.1) (fun hr => hr hc.2))

theorem State.wdExpiry_of_none {s : State} {c : Nat} (h : s.wdDue c = none) : s.wdExpiry c = s := by
  unfold State.wdExpiry
  rw [h]

theorem State.wdExpiry_of_due {s : State} {c k : Nat} (h : s.wdDue c = some k) : s.wdExpiry c =
    let u := (((s.waitTo k).setCore c { (s.waitTo k).core c with wdAt := none }).hit (14 + c) c).intBit wdogPage c
    if c = 0 then u.secureTrigger .watchdog else u := by
  unfold State.wdExpiry
  rw [h]

/-! Service cores (R463) -/

/-- The address of `CORE_CTRL` of core c. -/
def coreCtrlAt (c : Fin 4) : Nat := corePage c.val + 0x100

theorem offOf_coreCtrlAt : ∀ c, offOf (coreCtrlAt c) = 0x100 := by decide
theorem pnoOf_coreCtrlAt : ∀ c : Fin 4, pnoOf (pageOf (coreCtrlAt c)) = c.val := by decide

theorem State.kindWrite_coreCtrl (s : State) (r : Req) (c : Fin 4) (v : Word) :
    s.kindWrite r .core (pageOf (coreCtrlAt c)) (offOf (coreCtrlAt c)) v = some (s.runWrite c.val (bit v.toNat 0)) := by
  have hreg : s.kindWrite r .core (pageOf (coreCtrlAt c)) (offOf (coreCtrlAt c)) v
      = coreReg (offOf (coreCtrlAt c)) (pnoOf (pageOf (coreCtrlAt c))) r v s := rfl
  rw [hreg, offOf_coreCtrlAt, pnoOf_coreCtrlAt]
  rfl

theorem coreCtrlAt_defined : ∀ c, (pinfoAt (coreCtrlAt c)).any (fun i => i.kind == .core && offDefined i (offOf (coreCtrlAt c)))
    = true := by decide

theorem coreCtrlAt_place : ∀ c, 0x100 ≤ offOf (coreCtrlAt c) ∧ pageOf (coreCtrlAt c) ∉ ownRulePages := by decide

theorem State.MayWrite.coreCtrl {s : State} {r : Req} {c : Fin 4} (h : s.MayWrite r (coreCtrlAt c)) (v : Word) :
    s.cmdWrite r (coreCtrlAt c) v = s.runWrite c.val (bit v.toNat 0) :=
  h.kindReg (coreCtrlAt_defined c) (coreCtrlAt_place c).1 (coreCtrlAt_place c).2 (s.kindWrite_coreCtrl r c v)

theorem State.runWrite_of_same {s : State} {c : Nat} {b : Bool} (h : s.flag (corePage c) F.CORE.CORE_CTRL = b) :
    s.runWrite c b = s := by
  unfold State.runWrite
  rw [if_pos h, ite_self]

theorem State.runWrite_of_start {s : State} {c : Nat} (hc : c ≠ 0) (h : s.flag (corePage c) F.CORE.CORE_CTRL = false) :
    s.runWrite c true = s.coreStart c := by
  unfold State.runWrite
  rw [if_neg hc, h]
  rfl

theorem State.runWrite_of_halt {s : State} {c : Nat} (hc : c ≠ 0) (h : s.flag (corePage c) F.CORE.CORE_CTRL = true) :
    s.runWrite c false = s.coreHalt c := by
  unfold State.runWrite
  rw [if_neg hc, h]
  rfl

theorem State.machineTimer_of_reset {s : State} {c : Nat} (h : s.coreState c = 0) : s.machineTimer c = s := if_pos h

theorem State.machineTimer_of_running {s : State} {c : Nat} (h : s.coreState c ≠ 0) : s.machineTimer c =
    let u := s.waitTo (s.get64 (corePage c) F.CORE.MTIMECMP_LO)
    if u.timerPending c ∧ u.coreState c = 2 then u.put (corePage c) F.CORE.CORE_STATE_STATE 1 else u := if_neg h

end Sys2Proof.Machine
end

section
/-! Settles the statement about mailboxes, the restart of the secure side, watchdogs and cores. -/

namespace Sys2Proof.Machine

/-- Settles O54: each clause is the case of the mailbox, the restart, the watchdog or the core that its hypotheses name; the
restart's ends leave the history and the backup region as their own steps set them. -/
theorem mailboxesAndCores : Obligations.MailboxesAndCores := by
  unfold Obligations.MailboxesAndCores
  refine ⟨?post, ?done, ?request, ?causes, ?start, ?fourth, ?noRestart, ?resume, ?kick, ?noWatchdog, ?expiry, ?core, ?noTimer, ?timer⟩
  case post =>
    intro s r k h ht ho
    have hstep : exec (.mailboxPost r k) s = .next (s.mboxPost k.val) :=
      congrArg Host.Outcome.next (State.Reaches.mboxPost (k := k) h ht ho)
    rw [hstep]
    exact ⟨fun hb => congrArg Host.Outcome.next (State.mboxPost_of_idle hb),
      fun hb => congrArg Host.Outcome.next (State.mboxPost_of_busy hb)⟩
  case done =>
    intro s r k h ho
    have hstep : exec (.mailboxDone r k) s = .next (s.mboxDone k.val) :=
      congrArg Host.Outcome.next (State.MayWrite.mboxDone (k := k) h ho)
    rw [hstep]
    exact ⟨fun hb => congrArg Host.Outcome.next (State.mboxDone_of_idle hb),
      fun hb => congrArg Host.Outcome.next (State.mboxDone_of_busy hb)⟩
  case request =>
    intro s r h
    exact congrArg Host.Outcome.next h.restartWrite
  case causes =>
    intro s h
    obtain ⟨htrap, hlock⟩ := State.restartCause_of_running h
    exact ⟨congrArg Host.Outcome.next htrap, congrArg Host.Outcome.next hlock⟩
  case start =>
    intro s c h
    refine ⟨_, rfl, ?_, (State.secureTrigger_keep (m := true) (Keep.refl s)).queue⟩
    rw [State.secureTrigger_of_free (State.restartsFull_of_few h), State.restart_of_control (State.restartStops_control _)]
    rfl
  case fourth =>
    intro s c a b k l h hk
    refine ⟨_, rfl, ?_⟩
    rw [State.secureTrigger_of_full (State.restartsFull_of_soon h hk), State.restartRefused_restart]
    exact ⟨rfl, rfl⟩
  case noRestart =>
    intro s x h
    exact congrArg Host.Outcome.next (State.restartResume_of_none h x)
  case resume =>
    intro s x k c h
    exact ⟨s.restartResume x, rfl, State.restartResume_control h x⟩
  case kick =>
    intro s r c v h late u
    have hu : u = s.wdLate c.val := rfl
    have hstep : exec (.watchdogKick r c v) s = .next (s.wdKick r c.val v) :=
      congrArg Host.Outcome.next (State.Reaches.kick (c := c) h v)
    rw [hstep]
    exact ⟨fun hv hr => congrArg Host.Outcome.next (State.wdKick_of_key hu hv hr),
      fun hbad => congrArg Host.Outcome.next (State.wdKick_of_stray hu hbad)⟩
  case noWatchdog =>
    intro s c h
    exact congrArg Host.Outcome.next (State.wdExpiry_of_none h)
  case expiry =>
    intro s c k h u
    exact congrArg Host.Outcome.next (State.wdExpiry_of_due h)
  case core =>
    intro s r c h
    have hrun : exec (.coreRun r c) s = .next (s.runWrite c.val true) :=
      congrArg Host.Outcome.next (State.MayWrite.coreCtrl (c := c) h 1)
    have hhalt : exec (.coreHalt r c) s = .next (s.runWrite c.val false) :=
      congrArg Host.Outcome.next (State.MayWrite.coreCtrl (c := c) h 0)
    rw [hrun, hhalt]
    refine ⟨fun hc hf => congrArg Host.Outcome.next (State.runWrite_of_start hc hf),
      fun hf => congrArg Host.Outcome.next (State.runWrite_of_same hf),
      fun hc hf => congrArg Host.Outcome.next (State.runWrite_of_halt hc hf), fun hc => ?_⟩
    rw [hc]
    exact ⟨rfl, rfl⟩
  case noTimer =>
    intro s c h
    exact congrArg Host.Outcome.next (State.machineTimer_of_reset h)
  case timer =>
    intro s c h u
    have hstep : exec (.machineTimer c) s = .next (s.machineTimer c.val) := rfl
    have htimer := State.machineTimer_of_running h
    refine ⟨fun hp => hstep.trans (congrArg Host.Outcome.next (htimer.trans (if_pos hp))),
      fun hp => hstep.trans (congrArg Host.Outcome.next (htimer.trans (if_neg (fun hc => ?_))))⟩
    exact hp.elim (fun h1 => absurd (h1.symm.trans hc.1) Bool.false_ne_true) (fun h2 => h2 hc.2)

end Sys2Proof.Machine
end

section
/-! SUPPORT. Host ports: `PERST#`, the link, configuration requests, doorbells, the manager's window and time-outs (R393–R395,
R397, R399, R400, R428): one lemma per case of each operation. -/

namespace Sys2Proof.Machine

/-! `PERST#` (R393) -/

theorem State.perstRelease_of_asserted {s : State} {p : Nat} (h : (s.port p).perst = true) :
    s.perstRelease p = s.setPort p { s.port p with perst := false, rel := s.now, late := false } := if_pos h

theorem State.perstRelease_of_released {s : State} {p : Nat} (h : (s.port p).perst = false) : s.perstRelease p = s :=
  if_neg (by simp [h])

section Ready
variable {s u : State} {p : Nat} (hperst : (s.port p).perst = false) (hlate : (s.port p).late = false) (hoff : s.mode ≠ .off)
  (hbk : s.mode ≠ .backup) (hchip : s.rst.chip = none) (hp : p < s.part.hostPorts)
  (hu : u = (s.waitTo ((s.port p).rel + 55296000)).setPort p { s.port p with late := true })
include hperst hlate hoff hbk hchip hp hu

theorem State.portReadyTimeout_of_due : s.portReadyTimeout p =
    if u.enabled (portPage p) ∨ u.inReset (portPage p) then u
    else (u.put (portPage p) F.HDR.CTRL_ENABLE 1).startBlock (portPage p) u.now := by
  subst hu
  exact if_neg (by simp [hperst, hlate, hoff, hbk, hchip, hp])

theorem State.portReadyTimeout_of_stands (h : u.enabled (portPage p) = true ∨ u.inReset (portPage p) = true) :
    s.portReadyTimeout p = u := by
  rw [State.portReadyTimeout_of_due hperst hlate hoff hbk hchip hp hu, if_pos h]

theorem State.portReadyTimeout_of_disabled (he : u.enabled (portPage p) = false) (hr : u.inReset (portPage p) = false) :
    s.portReadyTimeout p = (u.put (portPage p) F.HDR.CTRL_ENABLE 1).startBlock (portPage p) u.now := by
  rw [State.portReadyTimeout_of_due hperst hlate hoff hbk hchip hp hu, if_neg (by simp [he, hr])]

end Ready

/-! Configuration requests and the link (R393–R395) -/

section Config
variable {s : State} {p : Nat} (hperst : (s.port p).perst = false) (hp : p < s.part.hostPorts)
include hperst hp

theorem State.configRequest_of_retry (hr : s.portReady p = false) (f : Nat) (c : CfgReq) :
    s.configRequest p f c = s.setPort p { s.port p with crs := (s.port p).crs + 1 } := by
  unfold State.configRequest
  rw [if_neg (by simp [hperst, hp]), if_pos hr]

variable (hr : s.portReady p = true)
include hr

theorem State.configRequest_of_ready (f : Nat) (c : CfgReq) : s.configRequest p f c =
    if s.fnExists p f = false then s.stat (herrPage p) 3
    else match c with
      | .other => s
      | .sriov en n => if f = 0 then s.put (funcPage p) F.HFUNC.SRIOV_STATE (if en then ones (n.val + 1) else 1) else s
      | .msix en m => ((s.put (msixPage p) (F.HMSIX.MSIX_STATE_ENABLE.at f) (b2n en)).put (msixPage p)
          (F.HMSIX.MSIX_STATE_MASK.at f) (b2n m)).fnRetry p f := by
  unfold State.configRequest
  exact (if_neg (by simp [hperst, hp])).trans (if_neg (by simp [hr]))

theorem State.configRequest_of_no_function {f : Nat} (hf : s.fnExists p f = false) (c : CfgReq) :
    s.configRequest p f c = s.stat (herrPage p) 3 := by
  rw [State.configRequest_of_ready hperst hp hr, if_pos hf]

variable {f : Nat} (hf : s.fnExists p f = true)
include hf

theorem State.configRequest_of_function (c : CfgReq) : s.configRequest p f c =
    match c with
    | .other => s
    | .sriov en n => if f = 0 then s.put (funcPage p) F.HFUNC.SRIOV_STATE (if en then ones (n.val + 1) else 1) else s
    | .msix en m => ((s.put (msixPage p) (F.HMSIX.MSIX_STATE_ENABLE.at f) (b2n en)).put (msixPage p)
        (F.HMSIX.MSIX_STATE_MASK.at f) (b2n m)).fnRetry p f := by
  rw [State.configRequest_of_ready hperst hp hr, if_neg (by simp [hf])]

end Config

theorem State.linkDown_of_up {s u : State} {p : Nat} (h : s.flag (portPage p) F.HOSTP.PORT_INFO_UP = true)
    (hu : u = (s.put (portPage p) F.HOSTP.PORT_INFO_UP 0).hit (19 + p) 0) :
    s.linkDown p = forL (fun f v => v.flr p f) ((upto 0 16).filter (fun f => u.fnExists p f)) u := by
  subst hu
  exact if_neg (by simp [h])

theorem State.linkUp_of_trained {s : State} {p : Nat} (hperst : (s.port p).perst = false) (hp : p < s.part.hostPorts)
    (hr : s.inReset (portPage p) = false) (hoff : s.mode ≠ .off) (hbk : s.mode ≠ .backup) (width speed : Nat) :
    s.linkUp p width speed = ((s.put (portPage p) F.HOSTP.PORT_INFO_UP 1).put (portPage p) F.HOSTP.PORT_INFO_WIDTH width).put
      (portPage p) F.HOSTP.PORT_INFO_SPEED speed := if_neg (by simp [hperst, hp, hr, hoff, hbk])

section Up
variable {s : State} {p : Nat} (hup : s.flag (portPage p) F.HOSTP.PORT_INFO_UP = true)
include hup

theorem State.aerEvent_of_up (k : AerKind) (h : BitVec 128) : s.aerEvent p k h =
    let u := s.aer p (aerInfo k).1 (aerInfo k).2 (if (aerInfo k).2 then none else some h)
    if k = .poisoned then u.stat (herrPage p) 4 else u := if_neg (by simp [hup])

theorem State.flrRequest_of_function {f : Nat} (hf : s.fnExists p f = true) : s.flrRequest p f = s.flr p f :=
  if_neg (by simp [hup, hf])

/-! Doorbells and journal indices (R397) -/

section Ten
variable {f t : Nat} (hf : s.fnExists p f = true) (ht : s.fnTen p f = some t)
include hf ht

theorem State.doorbell_of_tenancy (r wr : Nat) : s.doorbell p f r wr =
    if s.ringOwner r ≠ 0x10 + t then s.hitAcc 10 (lineOf (ringPage r)) 4 p (0x10 + t) (4 * r)
    else if s.ringState r ≠ 1 ∧ s.ringState r ≠ 2 then s.stat (ringPage r) 5
    else if s.ringSlots r ≤ wr then s.ringError r 5 0
    else (s.ringPut r F.RING.RING_WR wr).wake := by
  unfold State.doorbell
  rw [if_neg (by simp [hup, hf]), ht]

theorem State.doorbell_of_other {r : Nat} (ho : s.ringOwner r ≠ 0x10 + t) (wr : Nat) :
    s.doorbell p f r wr = s.hitAcc 10 (lineOf (ringPage r)) 4 p (0x10 + t) (4 * r) := by
  rw [State.doorbell_of_tenancy hup hf ht, if_pos ho]

theorem State.journalRd_of_tenancy (rd : Nat) : s.journalRd p f rd =
    if s.jSlots t ≤ rd then s.fnStray p t 0x800 true else s.put (tenPage t) F.TEN.J_STATE_RD rd := by
  unfold State.journalRd
  rw [if_neg (by simp [hup, hf]), ht]

theorem State.journalRd_of_slot {rd : Nat} (h : rd < s.jSlots t) :
    s.journalRd p f rd = s.put (tenPage t) F.TEN.J_STATE_RD rd := by
  rw [State.journalRd_of_tenancy hup hf ht, if_neg (by omega)]

theorem State.journalRd_of_range {rd : Nat} (h : s.jSlots t ≤ rd) :
    s.journalRd p f rd = s.hitAcc 9 0x09 4 p (0x10 + t) 0x800 := by
  rw [State.journalRd_of_tenancy hup hf ht, if_pos h]
  rfl

variable {r : Nat} (ho : s.ringOwner r = 0x10 + t)
include ho

theorem State.doorbell_of_stopped (h1 : s.ringState r ≠ 1) (h2 : s.ringState r ≠ 2) (wr : Nat) :
    s.doorbell p f r wr = s.stat (ringPage r) 5 := by
  rw [State.doorbell_of_tenancy hup hf ht, if_neg (fun hne => hne ho), if_pos ⟨h1, h2⟩]

variable (hrun : s.ringState r = 1 ∨ s.ringState r = 2)
include hrun

theorem State.doorbell_of_running (wr : Nat) : s.doorbell p f r wr =
    if s.ringSlots r ≤ wr then s.ringError r 5 0 else (s.ringPut r F.RING.RING_WR wr).wake := by
  rw [State.doorbell_of_tenancy hup hf ht, if_neg (fun hne => hne ho), if_neg (by omega)]

theorem State.doorbell_of_range {wr : Nat} (h : s.ringSlots r ≤ wr) : s.doorbell p f r wr = s.ringError r 5 0 := by
  rw [State.doorbell_of_running hup hf ht ho hrun, if_pos h]

theorem State.doorbell_of_slot {wr : Nat} (h : wr < s.ringSlots r) :
    s.doorbell p f r wr = (s.ringPut r F.RING.RING_WR wr).wake := by
  rw [State.doorbell_of_running hup hf ht ho hrun, if_neg (by omega)]

end Ten

end Up

/-! The manager's window (R399) -/

/-- The access at window offset `o` as a request to memory, by whether the device is in RECOVERY and the port: the Tidepool stands
above DRAM. -/
def barPool (o : Nat) : Bool := decide (0x800000000 ≤ o)
def barAddr (o : Nat) : Nat := if barPool o then o - 0x800000000 else o
def State.barTop (s : State) (o : Nat) : Nat := if barPool o then s.poolBytesTotal else 0x800000000
def barRq (rcv : Bool) (q o len : Nat) (write : Bool) : MemRq :=
  ⟨q, if rcv then 1 else 0x010, barAddr o, len, write, barPool o, false⟩

/-- A read of the window ends with its data, as a poisoned completion, or as one that is refused. -/
def State.barRead (s : State) (q : Nat) (rq : MemRq) : State :=
  match s.mread rq with
  | (u, some (d, _)) => u.barEnd 0 d
  | (u, none) =>
    if (s.wouldAllow rq).isSome && (rq.pool || u.dramServes rq.addr) then u.barEnd 3 []
    else (u.stat (herrPage q) 3).barEnd 2 []

theorem State.barRead_of_data {s u : State} {q m : Nat} {rq : MemRq} {x : List Byte} (h : s.mread rq = (u, some (x, m))) :
    s.barRead q rq = u.barEnd 0 x := by
  unfold State.barRead
  rw [h]

section Bar
variable {s : State} {rcv : Bool} {q o n len : Nat} {write : Bool} {data : List Byte} (hrcv : rcv = (s.mode == .recovery))
  (hq : q = if rcv then 0 else s.mgrPort) (hup : s.flag (portPage q) F.HOSTP.PORT_INFO_UP = true)
  (hlen : len = if write then data.length else n) (h0 : len ≠ 0)
include hrcv hq hup hlen h0

theorem State.bar4Access_of_up : s.bar4Access o write n data =
    if s.barTop o < barAddr o + len ∨ (rcv ∧ barPool o = false) then (if write then s else s.stat (herrPage q) 3).barEnd 1 []
    else if write then (s.mwrite (barRq rcv q o len write) data).1.barEnd 0 []
    else s.barRead q (barRq rcv q o len write) := by
  have hrun : ¬(s.flag (portPage q) F.HOSTP.PORT_INFO_UP = false ∨ len = 0) := by simp [hup, h0]
  subst hrcv hq hlen
  unfold State.bar4Access
  dsimp only
  rw [if_neg hrun]
  rfl

theorem State.bar4Access_of_outside (h : s.barTop o < barAddr o + len ∨ (rcv = true ∧ barPool o = false)) :
    s.bar4Access o write n data = (if write then s else s.stat (herrPage q) 3).barEnd 1 [] := by
  rw [State.bar4Access_of_up hrcv hq hup hlen h0, if_pos h]

variable (htop : barAddr o + len ≤ s.barTop o) (hpool : rcv = true → barPool o = true)
include htop hpool

theorem State.bar4Access_of_inside : s.bar4Access o write n data =
    if write then (s.mwrite (barRq rcv q o len write) data).1.barEnd 0 []
    else s.barRead q (barRq rcv q o len write) := by
  have hin : ¬(s.barTop o < barAddr o + len ∨ (rcv = true ∧ barPool o = false)) := by
    rintro (h | ⟨hr, hp⟩)
    · omega
    · exact absurd ((hpool hr).symm.trans hp) Bool.noConfusion
  rw [State.bar4Access_of_up hrcv hq hup hlen h0, if_neg hin]

theorem State.bar4Access_of_write (hw : write = true) :
    s.bar4Access o write n data = (s.mwrite (barRq rcv q o len write) data).1.barEnd 0 [] := by
  rw [State.bar4Access_of_inside hrcv hq hup hlen h0 htop hpool, if_pos hw]

theorem State.bar4Access_of_read (hw : write = false) {u : State} {x : List Byte} {m : Nat}
    (hr : s.mread (barRq rcv q o len write) = (u, some (x, m))) : s.bar4Access o write n data = u.barEnd 0 x := by
  rw [State.bar4Access_of_inside hrcv hq hup hlen h0 htop hpool, if_neg (by simp [hw]), State.barRead_of_data hr]

end Bar

/-! Completions that do not come (R400) -/

theorem State.cplLost_of_header {s : State} {p : Nat} {r : Fin 128} (hsp : s.ringF r.val F.RING.RING_CFG_SPACE = 2 + p)
    (hst : (s.ring r.val).starting = true) : s.cplLost p (.ring r) = (s.cplTimeout p).ringHeader r.val none := by
  unfold State.cplLost
  dsimp only
  rw [if_neg (by simp [hsp]), if_pos hst]

theorem State.cplLost_of_copy {s : State} {p : Nat} {e : Fin 4} {d : List Byte} {j : CopyJob} {k : Nat}
    (hrun : (s.copyEng e.val).running = some (j, k)) (hsp : byteF j.it.d.toNat 10 1 = 2 + p) :
    s.cplLost p (.copy e d) = (s.cplTimeout p).copyDone e.val d := by
  unfold State.cplLost
  dsimp only
  rw [hrun]
  exact if_pos (by simp [hsp])

end Sys2Proof.Machine
end

section
/-! Settles the statement about host ports. -/

namespace Sys2Proof.Machine

/-- Settles O55: each clause is the case of the port's operation that its hypotheses name. -/
theorem hostPorts : Obligations.HostPorts := by
  unfold Obligations.HostPorts
  refine ⟨?perst, ?ready, ?retry, ?config, ?down, ?up, ?aer, ?doorbell, ?journal, ?window, ?ring, ?copy, ?flr⟩
  case perst =>
    intro s p
    exact ⟨fun h => congrArg Host.Outcome.next (State.perstRelease_of_asserted h),
      fun h => congrArg Host.Outcome.next (State.perstRelease_of_released h)⟩
  case ready =>
    intro s p hperst hlate hoff hbk hchip hp x u
    have hu : (s.waitTo ((s.port p.val).rel + 55296000)).setPort p.val { s.port p.val with late := true } = u := rfl
    exact ⟨fun h => congrArg Host.Outcome.next (State.portReadyTimeout_of_stands hperst hlate hoff hbk hchip hp hu.symm h),
      fun he hr => congrArg Host.Outcome.next (State.portReadyTimeout_of_disabled hperst hlate hoff hbk hchip hp hu.symm he hr)⟩
  case retry =>
    intro s p f c hperst hp hr
    exact congrArg Host.Outcome.next (State.configRequest_of_retry hperst hp hr f.val c)
  case config =>
    intro s p f hperst hp hr
    refine ⟨fun hf c => congrArg Host.Outcome.next (State.configRequest_of_no_function hperst hp hr hf c), fun hf => ?_⟩
    have hreq := State.configRequest_of_function hperst hp hr hf
    refine ⟨congrArg Host.Outcome.next (hreq .other), fun en n h0 => ?_,
      fun en m => congrArg Host.Outcome.next (hreq (.msix en m))⟩
    exact congrArg Host.Outcome.next ((hreq (.sriov en n)).trans (if_pos h0))
  case down =>
    intro s p h u
    exact congrArg Host.Outcome.next (State.linkDown_of_up h rfl)
  case up =>
    intro s p w v hperst hp hr hoff hbk
    exact congrArg Host.Outcome.next (State.linkUp_of_trained hperst hp hr hoff hbk (1 <<< w.val) (v.val + 1))
  case aer =>
    intro s p k h hup u
    exact congrArg Host.Outcome.next (State.aerEvent_of_up hup k h)
  case doorbell =>
    intro s p f r wr t hup hf ht
    exact ⟨fun ho => congrArg Host.Outcome.next (State.doorbell_of_other hup hf ht ho wr.toNat),
      fun ho h1 h2 => congrArg Host.Outcome.next (State.doorbell_of_stopped hup hf ht ho h1 h2 wr.toNat),
      fun ho hrun h => congrArg Host.Outcome.next (State.doorbell_of_range hup hf ht ho hrun h),
      fun ho hrun h => congrArg Host.Outcome.next (State.doorbell_of_slot hup hf ht ho hrun h)⟩
  case journal =>
    intro s p f rd t hup hf ht
    exact ⟨fun h => congrArg Host.Outcome.next (State.journalRd_of_slot hup hf ht h),
      fun h => congrArg Host.Outcome.next (State.journalRd_of_range hup hf ht h)⟩
  case window =>
    intro s o w n d rcv q hup len pool a top rq h0
    exact ⟨fun h => congrArg Host.Outcome.next (State.bar4Access_of_outside rfl rfl hup rfl h0 h),
      fun htop hpool hw => congrArg Host.Outcome.next (State.bar4Access_of_write rfl rfl hup rfl h0 htop hpool hw),
      fun u x m htop hpool hw hr =>
        congrArg Host.Outcome.next (State.bar4Access_of_read rfl rfl hup rfl h0 htop hpool hw hr)⟩
  case ring =>
    intro s p r hsp hst
    exact congrArg Host.Outcome.next (State.cplLost_of_header hsp hst)
  case copy =>
    intro s p e d j k hrun hsp
    exact congrArg Host.Outcome.next (State.cplLost_of_copy hrun hsp)
  case flr =>
    intro s p f hup hf
    exact congrArg Host.Outcome.next (State.flrRequest_of_function hup hf)

end Sys2Proof.Machine
end

section
/-! SUPPORT. Rings and their descriptors (R404–R411): what a header, a fetch and a head that is issued do, one lemma per case. -/

namespace Sys2Proof.Machine

/-! Headers and fetches (R404, R405, R410) -/

section Header
variable {s u : State} {r : Nat} {data : Option (BitVec 512)} (hst : (s.ring r).starting = true) (hrun : s.engineRuns 2 = true)
include hst hrun

theorem State.ringHeader_of_failed (hrd : s.ringRead r 0 data = (u, none)) :
    s.ringHeader r data = (u.stat (ringPage r) 4).ringError r 4 0 := by
  unfold State.ringHeader
  rw [if_neg (by simp [hst, hrun]), hrd]

variable {h : BitVec 512} (hrd : s.ringRead r 0 data = (u, some h))
include hrd

theorem State.ringHeader_of_foreign (hm : bits h.toNat 31 0 ≠ 0x474E4952) : s.ringHeader r data = u.ringError r 1 0 := by
  unfold State.ringHeader
  rw [if_neg (by simp [hst, hrun]), hrd]
  exact if_pos hm

/-- The version of a header that names a ring is negotiated and kept. -/
theorem State.ringHeader_of_ring (hm : bits h.toNat 31 0 = 0x474E4952) : s.ringHeader r data =
    let v := negotiateW (u.ring r).loc (bits h.toNat 39 32) (bits h.toNat 47 40) (bits h.toNat 63 48) ringFeatures u.now
    let w := u.setRing r { u.ring r with ver := v, starting := false }
    if v.reason ≠ 0 then w.ringError r 2 0 else w.setRingState r 1 := by
  unfold State.ringHeader
  rw [if_neg (by simp [hst, hrun]), hrd]
  exact if_neg (fun hne => hne hm)

end Header

section Fetched
variable {s u : State} {r k : Nat} {data : Option (BitVec 512)} {d : BitVec 512}
  (hk : k = (s.ringF r F.RING.RING_STATE_RD + (s.ring r).pre.length) % s.ringSlots r) (hlive : s.ringLive r = true)
  (hroom : (s.ring r).pre.length < 8) (hwr : k ≠ s.ringF r F.RING.RING_WR) (hrun : s.engineRuns 2 = true)
  (hrd : s.ringRead r (64 + 64 * k) data = (u, some d))
include hk hlive hroom hwr hrun hrd

theorem State.ringFetched_of_descriptor : s.ringFetched r data =
    let v := u.stat (ringPage r) 2
    if v.descBad r d ≠ 0 then v.ringError r (v.descBad r d) d
    else v.setRing r { v.ring r with pre := (s.ring r).pre ++ [d] } := by
  subst hk
  unfold State.ringFetched
  dsimp only
  rw [if_neg (by simp [hlive, hroom, hwr, hrun]), hrd]

end Fetched

theorem State.ringStopped_of_empty {s : State} {r : Nat} (hst : (s.ring r).stopping = true) (hi : (s.ring r).issued = []) :
    s.ringStopped r = (s.setRingState r 0).setRing r { s.ring r with stopping := false, starting := false } := if_pos ⟨hst, hi⟩

/-! The head of a ring (R405, R409) -/

section Head
variable {s : State} {r k : Nat} {d : BitVec 512} (hd : s.ringHead r k = some d) (can : State → Desc → Bool)
  (act : State → Issued → State)
include hd

theorem State.issueHead_of_bad (hbad : s.descBad r d ≠ 0) : s.issueHead r k can act = s.ringError r (s.descBad r d) d := by
  unfold State.issueHead
  rw [hd]
  exact if_pos hbad

variable (hok : s.descBad r d = 0)
include hok

theorem State.issueHead_of_can (hcan : can s d = true) :
    s.issueHead r k can act = act (s.ringIssue r d).1 (s.ringIssue r d).2 := by
  unfold State.issueHead
  rw [hd]
  exact (if_neg (fun hne => hne hok)).trans (if_pos hcan)

theorem State.issueHead_of_wait (hcan : can s d = false) : s.issueHead r k can act = s.ringBlock r := by
  unfold State.issueHead
  rw [hd]
  exact (if_neg (fun hne => hne hok)).trans (if_neg (by simp [hcan]))

end Head

/-- The job that the front end takes from a RENDER descriptor. -/
def State.renderJob (s : State) (r : Nat) (it : Issued) : Job :=
  ⟨s.gfx.nextId, s.ringOwner r, r, it.num, byteF it.d.toNat 8 5, 0, [], 0, .fetch, 3, 0, 0, 0, 0, 0, false,
    false, 0, 0, 0, 0, 0, 0, 0, 0, false⟩

theorem State.issueRender_eq (s : State) (r : Nat) : s.issueRender r
    = s.issueHead r 1 (fun s _ => decide (s.gfx.jobs.length < 255)) (fun s it =>
      ({ s with gfx := { s.gfx with jobs := s.gfx.jobs ++ [s.renderJob r it], nextId := s.gfx.nextId + 1 } } : State).gfxIdle) := rfl

/-- A copy joins the queue of the engine that takes it. -/
def State.copyJoins (s : State) (r o : Nat) (it : Issued) : State :=
  match s.copyPick (byteF it.d.toNat 8 1) o with
  | some e => (s.setCopyEng e { s.copyEng e with queue := (s.copyEng e).queue ++ [⟨o, r, it⟩] }).copyIdle e
  | none => s

theorem State.copyJoins_of_engine {s : State} {r o e : Nat} {it : Issued} (h : s.copyPick (byteF it.d.toNat 8 1) o = some e) :
    s.copyJoins r o it
      = (s.setCopyEng e { s.copyEng e with queue := (s.copyEng e).queue ++ [⟨o, r, it⟩] }).copyIdle e := by
  unfold State.copyJoins
  rw [h]

theorem State.issueCopy_eq (s : State) (r : Nat) : s.issueCopy r
    = s.issueHead r 2 (fun t d => (t.copyPick (byteF d.toNat 8 1) (s.ringOwner r)).isSome)
      (fun t it => t.copyJoins r (s.ringOwner r) it) := rfl

/-! Completions (R408) -/

theorem State.descReport_of_none {s : State} {r : Nat} (h : (s.ring r).issued.find? (fun i => i.fin.isSome) = none) :
    s.descReport r = s := by
  unfold State.descReport
  dsimp only
  rw [h]

theorem State.descReport_of_ended {s : State} {r st t : Nat} {i : Issued}
    (h : (s.ring r).issued.find? (fun i => i.fin.isSome) = some i) (hf : i.fin = some (st, t)) :
    s.descReport r = (s.setRing r { s.ring r with issued := (s.ring r).issued.filter (fun k => k.num != i.num) }).descRecord
      r i st t := by
  unfold State.descReport
  dsimp only
  rw [h]
  dsimp only
  rw [hf]

end Sys2Proof.Machine
end

section
/-! Settles the statement about rings and descriptors. -/

namespace Sys2Proof.Machine

/-- Settles O56: a header, a fetch, a stop and a completion go by the case that their hypotheses name; a head of any kind ends its
ring when it is not in order, blocks it when it must wait, and else is issued with the effect of its kind. -/
theorem ringsAndDescriptors : Obligations.RingsAndDescriptors := by
  unfold Obligations.RingsAndDescriptors
  refine ⟨?header, ?noHeader, ?fetched, ?stopped, ?bad, ?issued, ?ended, ?notEnded⟩
  case header =>
    intro s u r data h hst hrun hrd v w
    refine ⟨fun hm => congrArg Host.Outcome.next (State.ringHeader_of_foreign hst hrun hrd hm), fun hm hv => ?_, fun hm hv => ?_⟩
    · exact congrArg Host.Outcome.next ((State.ringHeader_of_ring hst hrun hrd hm).trans (if_pos hv))
    · exact congrArg Host.Outcome.next ((State.ringHeader_of_ring hst hrun hrd hm).trans (if_neg (fun hne => hne hv)))
  case noHeader =>
    intro s u r data hst hrun hrd
    exact congrArg Host.Outcome.next (State.ringHeader_of_failed hst hrun hrd)
  case fetched =>
    intro s u r data d x k hlive hroom hwr hrun hrd v
    have hfetched := State.ringFetched_of_descriptor rfl hlive hroom hwr hrun hrd
    exact ⟨fun h => congrArg Host.Outcome.next (hfetched.trans (if_neg (fun hne => hne h))),
      fun h => congrArg Host.Outcome.next (hfetched.trans (if_pos h))⟩
  case stopped =>
    intro s r hst hi
    exact congrArg Host.Outcome.next (State.ringStopped_of_empty hst hi)
  case bad =>
    intro s r k d hd hbad
    have hhead := fun can act => State.issueHead_of_bad hd can act hbad
    match k with
    | 0 => exact congrArg Host.Outcome.next (hhead _ _)
    | 1 => exact congrArg Host.Outcome.next (hhead _ _)
    | 2 => exact congrArg Host.Outcome.next ((s.issueCopy_eq r.val).trans (hhead _ _))
    | 3 => exact congrArg Host.Outcome.next (hhead _ _)
    | 4 => exact congrArg Host.Outcome.next (hhead _ _)
    | 5 => exact congrArg Host.Outcome.next (hhead _ _)
    | 6 => exact congrArg Host.Outcome.next (hhead _ _)
    | 7 => exact congrArg Host.Outcome.next (hhead _ _)
    | 8 => exact congrArg Host.Outcome.next (hhead _ _)
  case issued =>
    intro s r d hok q
    refine ⟨?nop, ?render, ?full, ?copy, ?noEngine, ?signal, ?notYet, ?wait, ?below, ?regs, ?haptic, ?gain, ?earcon⟩
    case nop => exact fun hd => congrArg Host.Outcome.next (State.issueHead_of_can hd _ _ hok rfl)
    case render =>
      intro hd hroom
      exact ⟨q.1.renderJob r.val q.2, rfl, rfl, rfl, rfl, rfl, rfl,
        congrArg Host.Outcome.next ((s.issueRender_eq r.val).trans (State.issueHead_of_can hd _ _ hok (decide_eq_true hroom)))⟩
    case full =>
      intro hd hfull
      exact congrArg Host.Outcome.next (State.issueHead_of_wait hd _ _ hok (decide_eq_false (by omega)))
    case copy =>
      intro e hd hsome he
      have hissue := State.issueHead_of_can hd (fun t d => (t.copyPick (byteF d.toNat 8 1) (s.ringOwner r.val)).isSome)
        (fun t it => t.copyJoins r.val (s.ringOwner r.val) it) hok hsome
      exact congrArg Host.Outcome.next ((s.issueCopy_eq r.val).trans (hissue.trans (State.copyJoins_of_engine he)))
    case noEngine =>
      intro hd hnone
      have hcan : (s.copyPick (byteF d.toNat 8 1) (s.ringOwner r.val)).isSome = false := by rw [hnone]; rfl
      have hwait := State.issueHead_of_wait hd (fun t d => (t.copyPick (byteF d.toNat 8 1) (s.ringOwner r.val)).isSome)
        (fun t it => t.copyJoins r.val (s.ringOwner r.val) it) hok hcan
      exact congrArg Host.Outcome.next ((s.issueCopy_eq r.val).trans hwait)
    case signal => exact fun hd hall => congrArg Host.Outcome.next (State.issueHead_of_can hd _ _ hok hall)
    case notYet => exact fun hd hall => congrArg Host.Outcome.next (State.issueHead_of_wait hd _ _ hok hall)
    case wait =>
      exact fun hd hv => congrArg Host.Outcome.next (State.issueHead_of_can hd _ _ hok (decide_eq_true hv))
    case below =>
      intro hd hv
      exact congrArg Host.Outcome.next (State.issueHead_of_wait hd _ _ hok (decide_eq_false (by omega)))
    case regs => exact fun hd => congrArg Host.Outcome.next (State.issueHead_of_can hd _ _ hok rfl)
    case haptic => exact fun hd => congrArg Host.Outcome.next (State.issueHead_of_can hd _ _ hok rfl)
    case gain => exact fun hd => congrArg Host.Outcome.next (State.issueHead_of_can hd _ _ hok rfl)
    case earcon => exact fun hd => congrArg Host.Outcome.next (State.issueHead_of_can hd _ _ hok rfl)
  case ended =>
    intro s r i st t h hf
    exact congrArg Host.Outcome.next (State.descReport_of_ended h hf)
  case notEnded =>
    intro s r h
    exact congrArg Host.Outcome.next (State.descReport_of_none h)

end Sys2Proof.Machine
end

section
/-! Refutes the statement about journals and tenancies. -/

namespace Sys2Proof.Machine

/-- The page of tenancy 0 has no `QUIESCE` bit, so a write of it does nothing. -/
theorem quiesceBit_ten0 (s : State) (r : Req) (b : Bool) : s.quiesceBit (tenPage 0) r b = s := rfl

theorem quiesceWrite_ten0_of_reset :
    (State.reset.quiesceWrite 0).flag (tenPage 0) F.HDR.CTRL_QUIESCE = true := by decide +kernel

/-- Refutes O57: the clause on `CTRL.QUIESCE` speaks of every tenancy, and the page of tenancy 0 has no such bit. After reset,
which holds nothing and in which the bit reads 0, the write of the bit leaves the state as it is, while the quiesce that the
statement names sets the bit. -/
theorem not_journalsAndTenancies : ¬ Obligations.JournalsAndTenancies := by
  unfold Obligations.JournalsAndTenancies
  intro h
  obtain ⟨-, -, -, -, -, -, -, hbits, -⟩ := h
  obtain ⟨hset, -⟩ := hbits State.reset ⟨0, 1⟩ 0 (by decide +kernel)
  have heq : State.reset.quiesceWrite 0 = State.reset :=
    (hset (by decide +kernel)).symm.trans (quiesceBit_ten0 State.reset ⟨0, 1⟩ true)
  have hflag := quiesceWrite_ten0_of_reset
  rw [heq] at hflag
  exact absurd hflag (by decide +kernel)

end Sys2Proof.Machine
end

section
/-! SUPPORT. Tombolo ports (R526, R529, R530, R543): restarts, slots, flits that fail their check, NAK, silence and HELLO, one
lemma per case of each operation. -/

namespace Sys2Proof.Machine

/-! Restarts (R526, R543) -/

theorem State.restartDue_of_due {s : State} {p : Nat} (he : s.enabled (tportPage p) = true) (hd : (s.tport p).due = true) :
    s.restartDue p = s.portRestart p := if_pos ⟨he, hd⟩

/-- The address of `PORT_CMD` of port p. -/
def portCmdAt (p : Fin 2) : Nat := tportPage p.val + 0x1A0

theorem portCmdAt_defined : ∀ p, (pinfoAt (portCmdAt p)).any (fun i => i.kind == .tport && offDefined i (offOf (portCmdAt p))) = true
    ∧ 0x100 ≤ offOf (portCmdAt p) ∧ pageOf (portCmdAt p) ∉ ownRulePages := by decide

theorem pageOf_portCmdAt : ∀ p : Fin 2, pageOf (portCmdAt p) = tportPage p.val := by decide

theorem offOf_portCmdAt : ∀ p : Fin 2, offOf (portCmdAt p) = 0x1A0 := by decide

theorem pnoOf_tportPage : ∀ p : Fin 2, pnoOf (tportPage p.val) - 1 = p.val := by decide

theorem State.kindWrite_portCmd {s : State} {p : Fin 2} (he : s.enabled (tportPage p.val) = true) (r : Req) :
    s.kindWrite r .tport (pageOf (portCmdAt p)) (offOf (portCmdAt p)) 1 = some (s.portRestart p.val) := by
  have hdef : s.kindWrite r .tport (tportPage p.val) 0x1A0 1 =
      some (if s.enabled (tportPage p.val) then s.portRestart (pnoOf (tportPage p.val) - 1) else s) := by
    unfold State.kindWrite
    simp [bit]
  rw [pageOf_portCmdAt, offOf_portCmdAt, hdef, if_pos he, pnoOf_tportPage]

theorem State.MayWrite.portRestart {s : State} {r : Req} {p : Fin 2} (h : s.MayWrite r (portCmdAt p))
    (he : s.enabled (tportPage p.val) = true) : s.cmdWrite r (portCmdAt p) 1 = s.portRestart p.val :=
  h.kindReg (portCmdAt_defined p).1 (portCmdAt_defined p).2.1 (portCmdAt_defined p).2.2 (State.kindWrite_portCmd he r)

theorem State.restartLate_of_training {s : State} {p : Nat} (h : s.tState p = 1) :
    s.restartLate p = (s.waitTo ((s.tport p).rstAt + 61440)).tmbFails p 1 := if_pos h

theorem State.restartLate_of_negotiating {s : State} {p : Nat} (h : s.tState p = 2) :
    s.restartLate p = (s.waitTo ((s.tport p).rstAt + 122880)).tmbFails p 1 := (if_neg (by omega)).trans (if_pos h)

theorem State.restartLate_of_other {s : State} {p : Nat} (h1 : s.tState p ≠ 1) (h2 : s.tState p ≠ 2) : s.restartLate p = s :=
  (if_neg h1).trans (if_neg h2)

theorem State.tmbRetry_of_down {s : State} {p t : Nat} (hd : (s.tport p).downAt = some t) (h4 : s.tState p = 4) :
    s.tmbRetry p =
      if (s.get (tportPage p) F.TPORT.PORT_STATE_DOWN_CAUSE = 3 ∨ s.get (tportPage p) F.TPORT.PORT_STATE_DOWN_CAUSE = 4)
        ∧ s.flag (tportPage p) F.TPORT.PORT_CFG_AUTO_RESTART = false then s
      else (s.waitTo (t + 6144000)).portRestart p := by
  unfold State.tmbRetry
  rw [hd]
  simp [h4]

/-! What arrives in time -/

theorem State.tLate_of_training {s : State} {p : Nat} (h : s.tState p = 1) (hn : s.now < (s.tport p).rstAt + 61440) :
    s.tLate p = s := by
  unfold State.tLate
  dsimp only
  rw [if_neg (by omega), if_neg (by omega)]

theorem State.tLate_of_negotiating {s : State} {p : Nat} (h : s.tState p = 2) (hn : s.now < (s.tport p).rstAt + 122880) :
    s.tLate p = s := by
  unfold State.tLate
  dsimp only
  rw [if_neg (by omega), if_neg (by omega)]

theorem State.tLate_of_up {s : State} {p : Nat} (h : s.tState p = 3) (hn : s.now < (s.tport p).rxAt + 2458) : s.tLate p = s := by
  unfold State.tLate
  dsimp only
  rw [if_neg (by omega), if_neg (by omega)]

theorem State.blockLock_of_training {s : State} {p : Nat} (h : s.tState p = 1) (he : s.enabled (tportPage p) = true)
    (hn : s.now < (s.tport p).rstAt + 61440) : s.blockLock p = s.put (tportPage p) F.TPORT.PORT_STATE_STATE 2 := by
  unfold State.blockLock
  rw [State.tLate_of_training h hn]
  exact if_pos ⟨h, he⟩

/-! Slots (R529) -/

theorem State.flitSlot_of_other {s : State} {p : Nat}
    (h : s.enabled (tportPage p) = false ∨ (s.tState p ≠ 2 ∧ s.tState p ≠ 3)) : s.flitSlot p = s := if_pos h

/-- The slot's tick. -/
def State.slotTaken (s : State) (p : Nat) : State :=
  (s.waitTo ((s.tport p).slotAt + 65)).modTport p (fun x => { x with slotAt := (s.waitTo ((s.tport p).slotAt + 65)).now })

/-- What an UP port sends in a slot: the NAK that is due, the next flit of a replay, the first queued flit, or IDLE. -/
def State.slotIdle (u : State) (p : Nat) : State := (u.tLink p 0x00 (u.tport p).next []).stat (tportPage p) 5
def State.slotNak (u : State) (p : Nat) : State :=
  (u.modTport p (fun y => { y with nak := false })).tLink p 0x0C 0
    (natBytes 2 (u.get (tportPage p) F.TPORT.PORT_STATE_EXPECTED))
def State.slotResend (u : State) (p : Nat) (f : TFlit) (l : List TFlit) : State :=
  ((u.modTport p (fun y => { y with resend := l })).tOut p { f with ack := u.tAck p }).stat (tportPage p) 3
def State.slotQueued (u : State) (p : Nat) (e : Nat × TFlit) : State :=
  let w := u.modTport p (fun y => { y with queue := dropFirst (fun k => k == e) y.queue })
  if e.1 = 2 then (w.tLink p e.2.typ 0 (u.timePay p e.2.typ)).timeSent p e.2.typ
  else if 64 ≤ (u.tport p).replay.length then u.slotIdle p
  else
    let f : TFlit := { e.2 with seq := (u.tport p).next, ack := u.tAck p }
    (w.modTport p (fun y => { y with next := (y.next + 1) % 65536, replay := y.replay ++ [f] })).tOut p f

section Slot
variable {s u : State} {p : Nat} (he : s.enabled (tportPage p) = true) (hu : u = s.slotTaken p)
include he hu

theorem State.flitSlot_of_negotiating (h : s.tState p = 2) : s.flitSlot p = u.tLink p 0x01 0 (u.tmbHello p) := by
  subst hu
  unfold State.flitSlot
  dsimp only
  exact (if_neg (by simp [he, h])).trans (if_pos h)

variable (h : s.tState p = 3)
include h

theorem State.flitSlot_of_up : s.flitSlot p =
    if (u.tport p).nak then u.slotNak p
    else match (u.tport p).resend with
      | f :: l => u.slotResend p f l
      | [] =>
        match tFirst (u.tport p).queue with
        | none => u.slotIdle p
        | some e => u.slotQueued p e := by
  subst hu
  unfold State.flitSlot
  dsimp only
  exact (if_neg (by simp [he, h])).trans (if_neg (by simp [h]))

theorem State.flitSlot_of_nak (hn : (u.tport p).nak = true) : s.flitSlot p = u.slotNak p := by
  rw [State.flitSlot_of_up he hu h, if_pos hn]

variable (hn : (u.tport p).nak = false)
include hn

theorem State.flitSlot_of_resend {f : TFlit} {l : List TFlit} (hr : (u.tport p).resend = f :: l) :
    s.flitSlot p = u.slotResend p f l := by
  rw [State.flitSlot_of_up he hu h, if_neg (by simp [hn]), hr]

variable (hr : (u.tport p).resend = [])
include hr

theorem State.flitSlot_of_empty (hq : tFirst (u.tport p).queue = none) : s.flitSlot p = u.slotIdle p := by
  rw [State.flitSlot_of_up he hu h, if_neg (by simp [hn]), hr, hq]

theorem State.flitSlot_of_queued {e : Nat × TFlit} (hq : tFirst (u.tport p).queue = some e) : s.flitSlot p = u.slotQueued p e := by
  rw [State.flitSlot_of_up he hu h, if_neg (by simp [hn]), hr, hq]

end Slot

theorem State.slotQueued_of_full {u : State} {p : Nat} {e : Nat × TFlit} (he : e.1 ≠ 2) (hf : 64 ≤ (u.tport p).replay.length) :
    u.slotQueued p e = u.slotIdle p := (if_neg he).trans (if_pos hf)

/-! Flits that fail, NAK and silence (R529, R530) -/

/-- A flit that fails its check is counted and raised. -/
def State.checkRaised (s : State) (p : Nat) : State :=
  ((s.stat (tportPage p) 2).intBit (tportPage p) 2).hit (25 + p) (s.get (tportPage p) F.TPORT.PORT_STATE_EXPECTED)

theorem State.checkFail_of_link {s : State} {p : Nat} (hl : s.tLate p = s) (h : s.tState p = 2 ∨ s.tState p = 3) :
    s.checkFail p = if (s.checkRaised p).tState p = 3 then (s.checkRaised p).nakDue p else s.checkRaised p := by
  unfold State.checkFail
  rw [hl]
  exact if_neg (by omega)

/-- A flit outside the sequence acts on an UP port that it reaches in time. -/
theorem State.tLoose_of_up {s : State} {f : FlitRx} (h : s.tState f.p = 3) (hn : s.now < (s.tport f.p).rxAt + 2458)
    (act : State → State) : s.tLoose f act = act (s.tGood f) := by
  unfold State.tLoose
  rw [State.tLate_of_up h hn]
  exact if_pos h

/-- A NAK's effect on a port that has counted it. -/
def State.nakTaken (u : State) (p seq : Nat) : State :=
  let n := if (u.tport p).nakFor.1 = seq then (u.tport p).nakFor.2 + 1 else 1
  if 16 ≤ n then u.portDown p 4
  else u.modTport p (fun y => { y with
    nakFor := (seq, n)
    resend := y.replay.filter (fun r => decide ((r.seq + 65536 - seq) % 65536 < 32768)) })

theorem State.rxNak_of_up {s : State} {f : FlitRx} (h : s.tState f.p = 3) (hn : s.now < (s.tport f.p).rxAt + 2458)
    (seq : Nat) : s.rxNak f seq = (s.tGood f).nakTaken f.p seq := State.tLoose_of_up h hn _

theorem State.silence_of_up {s v u : State} {p : Nat} (h : s.tState p = 3) (hv : v = s.waitTo ((s.tport p).rxAt + 2458))
    (hu : u = (v.portDown p 3).hit (23 + p) (v.tNeighbour p)) :
    s.silence p = if u.tAlive (v.tNeighbour p) then u.deviceLost (v.tNeighbour p) else u := by
  subst hv hu
  exact if_neg (fun hne => hne h)

/-! HELLO (R526) -/

/-- The version that the port keeps when none is chosen yet. -/
def State.helloChooses (u : State) (p mn mx ft : Nat) : State :=
  if (u.tport p).ver = 0 then
    let v := negotiateW (u.tport p).loc mn mx ft (fun v => if v = 2 then 3 else 0) u.now
    (u.putTver p v).modTport p (fun x => { x with ver := v.chosen })
  else u

section Hello
variable {s u : State} {p : Nat} (h : s.tState p = 2) (hn : s.now < (s.tport p).rstAt + 122880) (hu : u = s.stat (tportPage p) 1)
include h hn hu

theorem State.rxHello_of_negotiating (mn mx ft i n chosen : Nat) : s.rxHello p mn mx ft i n false chosen =
    if n ≠ u.ringN ∨ i = u.ringIndex ∨ i ≠ u.tNeighbour p then u.tmbFails p 5
    else if ((u.helloChooses p mn mx ft).tport p).ver = 0 then (u.helloChooses p mn mx ft).tmbFails p 2
    else if chosen = ((u.helloChooses p mn mx ft).tport p).ver then (u.helloChooses p mn mx ft).portUp p
    else u.helloChooses p mn mx ft := by
  have hlate := State.tLate_of_negotiating h hn
  subst hu
  unfold State.rxHello
  dsimp only
  rw [hlate]
  simp only [Bool.false_eq_true, false_and, if_false]
  exact (if_neg (by omega)).trans (if_neg (fun hc => hc h))

theorem State.rxHello_of_stranger {i n : Nat} (hbad : n ≠ u.ringN ∨ i = u.ringIndex ∨ i ≠ u.tNeighbour p)
    (mn mx ft chosen : Nat) : s.rxHello p mn mx ft i n false chosen = u.tmbFails p 5 := by
  rw [State.rxHello_of_negotiating h hn hu, if_pos hbad]

variable {i n : Nat} (hr : n = u.ringN) (hi : i ≠ u.ringIndex) (hp : i = u.tNeighbour p)
include hr hi hp

theorem State.rxHello_of_neighbour {t : State} {mn mx ft : Nat} (ht : t = u.helloChooses p mn mx ft) (chosen : Nat) :
    s.rxHello p mn mx ft i n false chosen =
      if (t.tport p).ver = 0 then t.tmbFails p 2 else if chosen = (t.tport p).ver then t.portUp p else t := by
  have hok : ¬(n ≠ u.ringN ∨ i = u.ringIndex ∨ i ≠ u.tNeighbour p) := by
    rintro (hc | hc | hc)
    · exact hc hr
    · exact hi hc
    · exact hc hp
  rw [State.rxHello_of_negotiating h hn hu, if_neg hok, ht]

theorem State.rxHello_of_version (hv : 0 < (u.tport p).ver) (mn mx ft chosen : Nat) :
    s.rxHello p mn mx ft i n false chosen = if chosen = (u.tport p).ver then u.portUp p else u := by
  have ht : u = u.helloChooses p mn mx ft := (if_neg (by omega)).symm
  rw [State.rxHello_of_neighbour h hn hu hr hi hp ht, if_neg (by omega)]

theorem State.rxHello_of_refused {t : State} {mn mx ft : Nat} (hv : (u.tport p).ver = 0)
    (ht : t = (u.putTver p (negotiateW (u.tport p).loc mn mx ft (fun v => if v = 2 then 3 else 0) u.now)).modTport p (fun y =>
      { y with ver := (negotiateW (u.tport p).loc mn mx ft (fun v => if v = 2 then 3 else 0) u.now).chosen }))
    (h0 : (t.tport p).ver = 0) (chosen : Nat) : s.rxHello p mn mx ft i n false chosen = t.tmbFails p 2 := by
  have hchooses : t = u.helloChooses p mn mx ft := ht.trans (if_pos hv).symm
  rw [State.rxHello_of_neighbour h hn hu hr hi hp hchooses, if_pos h0]

end Hello

end Sys2Proof.Machine
end

section
/-! Settles the statement about Tombolo ports. -/

namespace Sys2Proof.Machine

/-- Settles O58: each clause is the case of the restart, of the slot or of the flit that its hypotheses name. -/
theorem tomboloPorts : Obligations.TomboloPorts := by
  unfold Obligations.TomboloPorts
  refine ⟨?due, ?command, ?late, ?retry, ?lock, ?slot, ?noSlot, ?check, ?nak, ?silence, ?hello⟩
  case due =>
    intro s p he hd
    exact congrArg Host.Outcome.next (State.restartDue_of_due he hd)
  case command =>
    intro s r p h he
    exact congrArg Host.Outcome.next (State.MayWrite.portRestart (p := p) h he)
  case late =>
    intro s p
    exact ⟨fun h => congrArg Host.Outcome.next (State.restartLate_of_training h),
      fun h => congrArg Host.Outcome.next (State.restartLate_of_negotiating h),
      fun h1 h2 => congrArg Host.Outcome.next (State.restartLate_of_other h1 h2)⟩
  case retry =>
    intro s p t hd h4 c auto
    have hretry := State.tmbRetry_of_down hd h4
    refine ⟨fun h => ?_, fun hc ha => congrArg Host.Outcome.next (hretry.trans (if_pos ⟨hc, ha⟩))⟩
    have hgo : ¬((c = 3 ∨ c = 4) ∧ auto = false) := by
      rintro ⟨hc, ha⟩
      rcases h with ⟨h3, h4⟩ | h
      · exact hc.elim h3 h4
      · exact absurd (h.symm.trans ha) Bool.noConfusion
    exact congrArg Host.Outcome.next (hretry.trans (if_neg hgo))
  case lock =>
    intro s p h he hn
    exact congrArg Host.Outcome.next (State.blockLock_of_training h he hn)
  case slot =>
    intro s p he q v u x
    have hu : s.slotTaken p.val = u := rfl
    clear_value u
    refine ⟨fun h => ?_, fun h hn => ?_, fun f l h hn hr => ?_, fun h hn hr hq => ?_, fun e h hn hr hq => ?_⟩
    · exact congrArg Host.Outcome.next (State.flitSlot_of_negotiating he hu.symm h)
    · exact congrArg Host.Outcome.next (State.flitSlot_of_nak he hu.symm h hn)
    · exact congrArg Host.Outcome.next (State.flitSlot_of_resend he hu.symm h hn hr)
    · rcases hq with hq | ⟨e, hq, he2, hfull⟩
      · exact congrArg Host.Outcome.next (State.flitSlot_of_empty he hu.symm h hn hr (by rw [hq]; rfl))
      · exact congrArg Host.Outcome.next
          ((State.flitSlot_of_queued he hu.symm h hn hr hq).trans (State.slotQueued_of_full he2 hfull))
    · have hqueued := State.flitSlot_of_queued he hu.symm h hn hr hq
      exact ⟨fun h2 => congrArg Host.Outcome.next (hqueued.trans (if_pos h2)),
        fun h2 hroom => congrArg Host.Outcome.next (hqueued.trans ((if_neg h2).trans (if_neg (Nat.not_le.mpr hroom))))⟩
  case noSlot =>
    intro s p h
    exact congrArg Host.Outcome.next (State.flitSlot_of_other h)
  case check =>
    intro s p u w
    have hw : s.checkRaised p.val = w := rfl
    clear_value w
    refine ⟨fun h hn h2 => ?_, fun h hn h3 => ?_⟩
    · have hfail := State.checkFail_of_link (State.tLate_of_negotiating h hn) (.inl h)
      rw [hw] at hfail
      exact congrArg Host.Outcome.next (hfail.trans (if_neg (by omega)))
    · have hfail := State.checkFail_of_link (State.tLate_of_up h hn) (.inr h)
      rw [hw] at hfail
      exact congrArg Host.Outcome.next (hfail.trans (if_pos h3))
  case nak =>
    intro s p ack seq h hn u x n
    have hnak : exec (.nak p ack seq) s = .next (u.nakTaken p.val seq.toNat) :=
      congrArg Host.Outcome.next (State.rxNak_of_up (f := ⟨p.val, 0, ack.toNat, 0, 0⟩) h hn seq.toNat)
    exact ⟨fun h16 => hnak.trans (congrArg Host.Outcome.next (if_pos h16)),
      fun h16 => hnak.trans (congrArg Host.Outcome.next (if_neg (Nat.not_le.mpr h16)))⟩
  case silence =>
    intro s p h v j u
    have hsilence := State.silence_of_up h (v := v) (u := u) rfl rfl
    exact ⟨fun ha => congrArg Host.Outcome.next (hsilence.trans (if_pos ha)),
      fun ha => congrArg Host.Outcome.next (hsilence.trans (if_neg (Bool.eq_false_iff.mp ha)))⟩
  case hello =>
    intro s p mn mx chosen ft i n h hn u
    have hu : s.stat (tportPage p.val) 1 = u := rfl
    refine ⟨fun hbad => ?_, fun v hr hi hp hver hv => ?_, ?_⟩
    · exact congrArg Host.Outcome.next
        (State.rxHello_of_stranger h hn hu.symm hbad mn.toNat mx.toNat ft.toNat chosen.toNat)
    · subst hver
      have hhello := State.rxHello_of_version h hn hu.symm hr hi hp hv mn.toNat mx.toNat ft.toNat chosen.toNat
      exact ⟨fun hc => congrArg Host.Outcome.next (hhello.trans (if_pos hc)),
        fun hc => congrArg Host.Outcome.next (hhello.trans (if_neg hc))⟩
    · intro hr hi hp hver v w h0 hw
      exact congrArg Host.Outcome.next (State.rxHello_of_refused h hn hu.symm hr hi hp hver rfl hw chosen.toNat)

end Sys2Proof.Machine
end

section
/-! Refutes the statement about the traffic on Tombolo. -/

namespace Sys2Proof.Machine

/-- Right after reset, with mailbox channel 0 of Tombolo full, a ring of four devices whose ports are UP, and two entries for
`MB_STATE_0` in the table of registers: the first, which is read, names device 0 as the sender, the second device 3. -/
def State.twoSenders : State := { State.reset with
  regs := [(tmbPage + 0x100, 3), (tmbPage + 0x118, 0x03), (tmbPage + 0x118, 0x33), (tportPage 0 + 0xF00, 0x60000000),
    (tportPage 1 + 0xF00, 0x60000000)] }

theorem reaches_twoSenders : State.twoSenders.Reaches ⟨0, 1⟩ (tmbPage + 0x114 + 0x80 * (0 : Fin 2).val) where
  up := by decide +kernel
  safe := by decide +kernel
  real := by decide +kernel
  here := by decide +kernel
  run := by decide +kernel
  free := by decide +kernel

/-- The model sends the credit to the sender it reads before it clears `RX_FULL`: device 0, whose route is port 0. -/
theorem rxDone_twoSenders_queue :
    ((State.twoSenders.cmdWrite ⟨0, 1⟩ (tmbPage + 0x114 + 0x80 * (0 : Fin 2).val) 2).tport 1).queue.length = 0 := by
  decide +kernel

/-- Read after `RX_FULL` is cleared, the sender is device 3, whose route is port 1. -/
theorem creditAfterPut_twoSenders_queue :
    let u := State.twoSenders.put tmbPage (F.TMB.MB_STATE_RX_FULL.at 0) 0
    ((u.tSend (u.get tmbPage (F.TMB.MB_STATE_RX_SRC.at 0)) 9 0x08 (natBytes 1 0)).tport 1).queue.length = 1 := by
  decide +kernel

/-- Refutes O59: `RX_DONE` reads the sender before it clears `RX_FULL`, the statement reads it afterwards, and the statement
speaks of every state, canonical or not. The counterexample is not canonical: its table of registers holds `MB_STATE_0` twice.
Clearing `RX_FULL` gives the register its reset value, which takes the first entry out, and the second names another sender. -/
theorem not_tomboloTraffic : ¬ Obligations.TomboloTraffic := by
  unfold Obligations.TomboloTraffic
  intro h
  obtain ⟨-, -, -, -, -, -, -, -, -, hmail⟩ := h
  obtain ⟨-, -, -, hdone, -⟩ := hmail State.twoSenders ⟨0, 1⟩ 0 reaches_twoSenders (by decide) (by decide +kernel)
  have heq := Host.Outcome.next.inj (hdone (by decide +kernel))
  have hqueue := congrArg (fun t : State => (t.tport 1).queue.length) heq
  exact absurd (rxDone_twoSenders_queue.symm.trans (hqueue.trans creditAfterPut_twoSenders_queue)) (by decide)

end Sys2Proof.Machine
end

section
/-! SUPPORT. What the pads, the board controllers, the boot-flash controller, the test access port and the sensors do in each of
their cases. -/

namespace Sys2Proof.Machine

/-! Pads (R560, R561) -/

theorem State.wakeEdge_of_absent {s : State} {g : Nat} (h : s.part.pads ≤ g) (b : Bool) : s.wakeEdge g b = s := if_pos h

theorem State.wakeEdge_of_present {s : State} {g : Nat} (h : g < s.part.pads) (b : Bool) :
    s.wakeEdge g b =
      if (s.padExt g b).padFunc g = 3 ∧ ((s.padExt g b).get pfuncPage (F.PFUNC.FUNC_WAKE_POL.at g) = 0) = (b = true)
      then (s.padExt g b).wake else s.padExt g b := if_neg (Nat.not_le.mpr h)

theorem State.MayWrite.gpioSet {s : State} {r : Req} (h : s.MayWrite r (gpioPage + 0x108)) (v : Word) :
    s.cmdWrite r (gpioPage + 0x108) v
      = s.put gpioPage F.PGPIO.GPIO_OUT (s.get gpioPage F.PGPIO.GPIO_OUT ||| (v.toNat &&& s.padMask)) :=
  h.kindReg (k := .pgpio) (by decide) (by decide) (by decide) rfl

theorem State.MayWrite.gpioClr {s : State} {r : Req} (h : s.MayWrite r (gpioPage + 0x10C)) (v : Word) :
    s.cmdWrite r (gpioPage + 0x10C) v = s.put gpioPage F.PGPIO.GPIO_OUT
      (s.get gpioPage F.PGPIO.GPIO_OUT &&& (0xFFFFFFFF ^^^ (v.toNat &&& s.padMask))) :=
  h.kindReg (k := .pgpio) (by decide) (by decide) (by decide) rfl

/-! Board controllers (R563, R564) -/

/-- The addresses of `BC_XFER` and `BC_TXDATA` of controller n. -/
def bcXferAt (n : Fin 2) : Nat := bcPage + bcOff n.val 4
def bcTxdataAt (n : Fin 2) : Nat := bcPage + bcOff n.val 8

theorem bcXferAt_off : ∀ n, offOf (bcXferAt n) = bcOff n.val 4 := by decide
theorem bcTxdataAt_off : ∀ n, offOf (bcTxdataAt n) = bcOff n.val 8 := by decide

theorem bcXferAt_defined : ∀ n, (pinfoAt (bcXferAt n)).any (fun i => i.kind == .pbc && offDefined i (offOf (bcXferAt n))) = true := by
  decide
theorem bcTxdataAt_defined :
    ∀ n, (pinfoAt (bcTxdataAt n)).any (fun i => i.kind == .pbc && offDefined i (offOf (bcTxdataAt n))) = true := by decide

theorem bcXferAt_place : ∀ n, 0x100 ≤ offOf (bcXferAt n) ∧ pageOf (bcXferAt n) ∉ ownRulePages := by decide
theorem bcTxdataAt_place : ∀ n, 0x100 ≤ offOf (bcTxdataAt n) ∧ pageOf (bcTxdataAt n) ∉ ownRulePages := by decide

/-- Where the offset of a register of controller n lies, and the controller that it names. -/
theorem bcOff_place : ∀ n : Fin 2, ∀ k, k = 4 ∨ k = 8 →
    ¬(bcOff n.val k < 0x100 ∨ 0xA00 ≤ bcOff n.val k ∨ (0x200 ≤ bcOff n.val k ∧ bcOff n.val k < 0x900))
      ∧ (if bcOff n.val k % 0x800 < 0x180 then 0 else 1) = n.val := by
  rintro n k (rfl | rfl) <;> revert n <;> decide

theorem bcReg_of_present {s : State} {n : Fin 2} (hn : n.val < s.part.bcs) (r : Req) (v : Word) :
    bcReg (bcOff n.val 4) r v s = some (s.bcXfer r n.val v) ∧ bcReg (bcOff n.val 8) r v s = some (s.bcPush r n.val v) := by
  obtain ⟨hxin, hx⟩ := bcOff_place n 4 (.inl rfl)
  obtain ⟨htin, ht⟩ := bcOff_place n 8 (.inr rfl)
  unfold bcReg
  rw [hx, ht]
  dsimp only
  exact ⟨(if_neg hxin).trans ((if_neg (Nat.not_le.mpr hn)).trans (if_pos rfl)),
    (if_neg htin).trans ((if_neg (Nat.not_le.mpr hn)).trans ((if_neg (by unfold bcOff; omega)).trans (if_pos rfl)))⟩

theorem State.MayWrite.bcXfer {s : State} {r : Req} {n : Fin 2} (h : s.MayWrite r (bcXferAt n)) (hn : n.val < s.part.bcs)
    (v : Word) : s.cmdWrite r (bcXferAt n) v = s.bcXfer r n.val v :=
  h.kindReg (bcXferAt_defined n) (bcXferAt_place n).1 (bcXferAt_place n).2
    ((bcXferAt_off n).symm ▸ (bcReg_of_present hn r v).1)

theorem State.MayWrite.bcTxdata {s : State} {r : Req} {n : Fin 2} (h : s.MayWrite r (bcTxdataAt n)) (hn : n.val < s.part.bcs)
    (v : Word) : s.cmdWrite r (bcTxdataAt n) v = s.bcPush r n.val v :=
  h.kindReg (bcTxdataAt_defined n) (bcTxdataAt_place n).1 (bcTxdataAt_place n).2
    ((bcTxdataAt_off n).symm ▸ (bcReg_of_present hn r v).2)

theorem State.bcXfer_of_no_go {v : Word} (h : xfGo v.toNat = false) (s : State) (r : Req) (n : Nat) : s.bcXfer r n v = s :=
  if_pos h

theorem State.bcXfer_of_go {v : Word} (h : xfGo v.toNat = true) (s : State) (r : Req) (n : Nat) : s.bcXfer r n v =
    if s.bcOn n = false ∨ (s.bc n).xfer.isSome
      ∨ (xfRead v.toNat = false ∧ xfDaa v.toNat = false ∧ (s.bc n).tx.length < xfLen v.toNat) ∨ 64 < xfLen v.toNat
      ∨ (xfCcc v.toNat ∧ s.flag bcPage (F.PBC.BC_CFG_PROTO.at n) = false) then s.stray r (bcPage + bcOff n 4) true
    else s.setBc n { s.bc n with xfer := some v, since := s.now, recover := false } :=
  if_neg (by simp [h])

/-- The addresses of `BC_RXDATA` and `BC_IBI` of controller n. -/
def bcRxdataAt (n : Fin 2) : Nat := bcPage + 0xF00 + 0x10 * n.val
def bcIbiAt (n : Fin 2) : Nat := bcPage + 0xF08 + 0x10 * n.val

theorem bcRxdataAt_defined : ∀ n, (pinfoAt (bcRxdataAt n)).any (fun i => i.kind == .pbc && offDefined i (offOf (bcRxdataAt n)))
    = true := by decide
theorem bcIbiAt_defined : ∀ n, (pinfoAt (bcIbiAt n)).any (fun i => i.kind == .pbc && offDefined i (offOf (bcIbiAt n)))
    = true := by decide

theorem bcRxdataAt_place : ∀ n, 0xF00 ≤ offOf (bcRxdataAt n) ∧ (offOf (bcRxdataAt n) - 0xF00) / 0x10 = n.val
    ∧ offOf (bcRxdataAt n) % 0x10 = 0 := by decide
theorem bcIbiAt_place : ∀ n, 0xF00 ≤ offOf (bcIbiAt n) ∧ (offOf (bcIbiAt n) - 0xF00) / 0x10 = n.val
    ∧ offOf (bcIbiAt n) % 0x10 = 8 := by decide

/-- A controller that the part has is not the second of a part with one. -/
theorem State.not_second_of_bcs {s : State} {n : Nat} (h : n < s.part.bcs) : ¬(n = 1 ∧ s.part.pkgM = true) := by
  rintro ⟨rfl, hm⟩
  exact absurd (Nat.lt_of_lt_of_eq h (if_pos hm)) (Nat.lt_irrefl 1)

/-- What a granted read of a register whose kind is known does. -/
theorem State.MayRead.kindInfo {s : State} {r : Req} {a : Nat} {i : PInfo} {k : PKind} (h : s.MayRead r a i)
    (hk : (pinfoAt a).any (fun i => i.kind == k && offDefined i (offOf a)) = true) : i.kind = k ∧ offDefined i (offOf a) = true := by
  rw [h.info, Option.any_some, Bool.and_eq_true, beq_iff_eq] at hk
  exact hk

/-- A granted read of a register of a controller that the part has pops the FIFO that the register names. -/
theorem State.MayRead.popOfBc {s : State} {r : Req} {a n : Nat} {i : PInfo} {x : State × Word} (h : s.MayRead r a i)
    (hn : n < s.part.bcs) (hk : (pinfoAt a).any (fun i => i.kind == .pbc && offDefined i (offOf a)) = true)
    (hlow : 0xF00 ≤ offOf a) (hnum : (offOf a - 0xF00) / 0x10 = n)
    (hx : (if offOf a % 0x10 = 0 then some (s.bcPop n) else if offOf a % 0x10 = 8 then some (s.ibiPop n) else none) = some x) :
    s.cmdRead r a = State.answer r a x := by
  obtain ⟨hkind, hd⟩ := h.kindInfo hk
  have hone : ¬(offOf a < 0xF00 ∨ (n = 1 ∧ s.part.pkgM = true)) :=
    fun hc => hc.elim (Nat.not_lt.mpr hlow) (State.not_second_of_bcs hn)
  rw [State.cmdRead_word h.up h.real, State.wordRead, if_neg (State.not_fabricOff_of_powered h.up h.real),
    h.readWith_of_effect hd (x := x)]
  simp only [h.info, hkind, hnum]
  exact (if_neg hone).trans hx

theorem State.MayRead.bcRxdata {s : State} {r : Req} {n : Fin 2} {i : PInfo} (h : s.MayRead r (bcRxdataAt n) i)
    (hn : n.val < s.part.bcs) : s.cmdRead r (bcRxdataAt n) = State.answer r (bcRxdataAt n) (s.bcPop n.val) := by
  obtain ⟨hlow, hnum, hmod⟩ := bcRxdataAt_place n
  exact h.popOfBc hn (bcRxdataAt_defined n) hlow hnum (if_pos hmod)

theorem State.MayRead.bcIbiPop {s : State} {r : Req} {n : Fin 2} {i : PInfo} (h : s.MayRead r (bcIbiAt n) i)
    (hn : n.val < s.part.bcs) : s.cmdRead r (bcIbiAt n) = State.answer r (bcIbiAt n) (s.ibiPop n.val) := by
  obtain ⟨hlow, hnum, hmod⟩ := bcIbiAt_place n
  exact h.popOfBc hn (bcIbiAt_defined n) hlow hnum ((if_neg (by omega)).trans (if_pos hmod))

/-- The word that `BC_IBI` answers for an in-band interrupt of an address, with or without a mandatory byte. -/
def ibiWord (k : Nat) (m : Option Byte) : Word :=
  BitVec.ofNat 32 (0x80000000 + k * 0x1000000 + (match m with
    | some d => 0x100 + d.toNat
    | none => 0))

section Bc
variable {s : State} {n : Nat}

theorem State.bcPop_of_cons {d : Byte} {l : List Byte} (h : (s.bc n).rx = d :: l) :
    s.bcPop n = (s.setBc n { s.bc n with rx := l }, BitVec.ofNat 32 (0x100 + d.toNat)) := by
  unfold State.bcPop
  dsimp only
  rw [h]

theorem State.bcPop_of_nil (h : (s.bc n).rx = []) : s.bcPop n = (s, 0) := by
  unfold State.bcPop
  dsimp only
  rw [h]

theorem State.ibiPop_of_cons {k : Nat} {m : Option Byte} {l : List (Nat × Option Byte)} (h : (s.bc n).ibi = (k, m) :: l) :
    s.ibiPop n = (s.setBc n { s.bc n with ibi := l }, ibiWord k m) := by
  unfold State.ibiPop
  dsimp only
  rw [h]
  rfl

theorem State.ibiPop_of_nil (h : (s.bc n).ibi = []) : s.ibiPop n = (s, 0) := by
  unfold State.ibiPop
  dsimp only
  rw [h]

theorem State.entdaa_of_idle (h : (s.bc n).xfer = none) (ts : List (BitVec 48 × Byte × Byte)) : s.entdaa n ts = s := by
  unfold State.entdaa
  rw [h]

theorem State.bcDone_of_idle (h : (s.bc n).xfer = none) (res : Nat) (d : List Byte) : s.bcDone n res d = s := by
  unfold State.bcDone
  dsimp only
  rw [h]

theorem State.bcStretch_of_idle (h : (s.bc n).xfer = none) : s.bcStretch n = s := by
  unfold State.bcStretch
  rw [h]
  exact if_neg Bool.noConfusion

section Assign
variable {id : BitVec 48} {bcr dcr : Byte} {ts : List (BitVec 48 × Byte × Byte)}

theorem State.bcAssign_of_full (h : 56 < (s.bc n).rx.length) : s.bcAssign n ((id, bcr, dcr) :: ts) = s.bcEnd n 2 :=
  if_pos (by omega)

theorem State.bcAssign_of_room (h : (s.bc n).rx.length ≤ 56) : s.bcAssign n ((id, bcr, dcr) :: ts) =
    let a := s.get bcPage (F.PBC.BC_DAA.at n)
    let u := s.setBc n { s.bc n with
      rx := (s.bc n).rx ++ ((natBytes 6 id.toNat).reverse ++ [bcr, dcr])
      known := (a, bit bcr.toNat 2) :: (s.bc n).known.filter (fun e => e.1 != a) }
    (u.put bcPage (F.PBC.BC_DAA.at n) (a + 1)).bcAssign n ts := if_neg (by omega)

end Assign

variable {v : Word} (h : (s.bc n).xfer = some v)
include h

theorem State.entdaa_of_daa (hd : xfDaa v.toNat = true) (ts : List (BitVec 48 × Byte × Byte)) :
    s.entdaa n ts = s.bcAssign n ts := by
  unfold State.entdaa
  rw [h]
  exact if_pos hd

theorem State.entdaa_of_other (hd : xfDaa v.toNat = false) (ts : List (BitVec 48 × Byte × Byte)) : s.entdaa n ts = s := by
  unfold State.entdaa
  rw [h]
  exact if_neg (Bool.eq_false_iff.mp hd)

theorem State.bcDone_of_xfer (res : Nat) (d : List Byte) : s.bcDone n res d = (s.setBc n { s.bc n with
    tx := if xfRead v.toNat then (s.bc n).tx else if res = 1 then [] else (s.bc n).tx.drop (xfLen v.toNat)
    rx := if xfRead v.toNat ∧ res = 0 then fifoIn (s.bc n).rx (d.take (xfLen v.toNat)) else (s.bc n).rx }).bcEnd n res := by
  unfold State.bcDone
  dsimp only
  rw [h]

theorem State.bcStretch_of_xfer : s.bcStretch n = (s.waitTo ((s.bc n).since + 15360000)).bcDone n 3 [] := by
  unfold State.bcStretch
  rw [h]
  exact if_pos rfl

end Bc

section Ibi
variable {s : State} {n addr : Nat} {mdb : Byte}

theorem State.bcIbi_of_off (h : s.bcOn n = false ∨ s.flag bcPage (F.PBC.BC_CFG_PROTO.at n) = false
    ∨ s.flag bcPage (F.PBC.BC_IBI_EN.at n) = false) : s.bcIbi n addr mdb = s := if_pos h

variable (hon : s.bcOn n = true) (hp : s.flag bcPage (F.PBC.BC_CFG_PROTO.at n) = true)
  (he : s.flag bcPage (F.PBC.BC_IBI_EN.at n) = true)
include hon hp he

theorem State.bcIbi_of_stranger (h : (s.bc n).known.find? (fun e => e.1 == addr) = none) :
    s.bcIbi n addr mdb = s.stat bcPage (5 * n + 3) := by
  unfold State.bcIbi
  dsimp only
  rw [if_neg (by simp [hon, hp, he]), h]

theorem State.bcIbi_of_known {a : Nat} {has : Bool} (h : (s.bc n).known.find? (fun e => e.1 == addr) = some (a, has)) :
    s.bcIbi n addr mdb =
      if 8 ≤ (s.bc n).ibi.length then s.stat bcPage (5 * n + 3)
      else ((s.setBc n { s.bc n with ibi := (s.bc n).ibi ++ [(a, if has then some mdb else none)] }).stat bcPage
        (5 * n + 2)).intBit bcPage (2 * n + 1) := by
  unfold State.bcIbi
  dsimp only
  rw [if_neg (by simp [hon, hp, he]), h]

end Ibi

/-! Boot flash (R565) -/

section Xspi
variable {s : State} {r : Req}

theorem State.MayWrite.xspiCmd (h : s.MayWrite r (xspiPage + 0x104)) (v : Word) :
    s.cmdWrite r (xspiPage + 0x104) v = s.xspiCmd r v :=
  h.kindReg (k := .xspi) (by decide) (by decide) (by decide) rfl

theorem State.MayWrite.xspiTxdata (h : s.MayWrite r (xspiPage + 0x10C)) (v : Word) :
    s.cmdWrite r (xspiPage + 0x10C) v = s.xspiPush r v :=
  h.kindReg (k := .xspi) (by decide) (by decide) (by decide) rfl

theorem State.MayWrite.dmaCmd (h : s.MayWrite r (xspiPage + 0x11C)) (v : Word) :
    s.cmdWrite r (xspiPage + 0x11C) v = s.dmaCmd r v :=
  h.kindReg (k := .xspi) (by decide) (by decide) (by decide) rfl

theorem State.MayRead.xspiRxdata {i : PInfo} (h : s.MayRead r (xspiPage + 0xF00) i) :
    s.cmdRead r (xspiPage + 0xF00) = State.answer r (xspiPage + 0xF00) s.xspiPop := by
  obtain ⟨hk, hd⟩ := h.kindInfo (k := .xspi) (by decide)
  rw [State.cmdRead_word h.up h.real, State.wordRead, if_neg (State.not_fabricOff_of_powered h.up h.real),
    h.readWith_of_effect hd (x := s.xspiPop)]
  simp only [h.info, hk]
  exact if_pos (by decide)

/-- A `GO` to a controller that runs nothing is taken when nothing else is against it. -/
theorem xspiGo_of_free {x : XspiSt} (hb : x.busy = false) {q : Prop} (hq : ¬q) : ¬(x.busy = true ∨ q) :=
  not_or.mpr ⟨Bool.eq_false_iff.mp hb, hq⟩

theorem State.xspiCmd_of_go {v : Word} (hv : bit v.toNat 31 = true) (he : s.enabled xspiPage = true) : s.xspiCmd r v =
    if s.pad.xspi.busy ∨ 64 < bits v.toNat 6 0 then s.xspiDropGo r 0x104
    else s.modXspi (fun x => { x with cmd := some v }) :=
  if_neg (by simp [hv, he])

theorem State.dmaCmd_of_go {v : Word} (hv : bit v.toNat 0 = true) (he : s.enabled xspiPage = true) : s.dmaCmd r v =
    let n := s.get xspiPage F.XSPI.DMA_LEN
    let a := s.get xspiPage F.XSPI.DMA_DST_LO + s.get xspiPage F.XSPI.DMA_DST_HI_ADDR * 0x100000000
    if s.pad.xspi.busy ∨ n = 0 ∨ n % 64 ≠ 0 ∨ a % 64 ≠ 0 then s.xspiDropGo r 0x11C
    else s.modXspi (fun x => { x with
      dma := some (s.get xspiPage F.XSPI.XSPI_ADDR, a, n, s.flag xspiPage F.XSPI.DMA_DST_HI_SPACE) }) :=
  if_neg (by simp [hv, he])

theorem State.xspiDone_of_idle (h : s.pad.xspi.cmd = none) (d : List Byte) : s.xspiDone d = s := by
  unfold State.xspiDone
  rw [h]

theorem State.xspiDone_of_cmd {v : Word} (h : s.pad.xspi.cmd = some v) (d : List Byte) : s.xspiDone d =
    (((s.modXspi (fun y => { y with
      cmd := none
      tx := if bit v.toNat 30 then y.tx.drop (bits v.toNat 6 0) else y.tx
      rx := if bit v.toNat 30 then y.rx else fifoIn y.rx (d.take (bits v.toNat 6 0)) })).put xspiPage
        F.XSPI.XSPI_STATE_RESULT 0).stat xspiPage 0).intBit xspiPage 0 := by
  unfold State.xspiDone
  rw [h]

theorem State.dmaDone_of_idle (h : s.pad.xspi.dma = none) (d : List Byte) : s.dmaDone d = s := by
  unfold State.dmaDone
  rw [h]

theorem State.dmaDone_of_dma {f a n k : Nat} {pool ok : Bool} {d : List Byte} {u : State}
    (h : s.pad.xspi.dma = some (f, a, n, pool)) (hb : s.dmaBlocks a pool (n / 64) 0 d = (u, k, ok)) : s.dmaDone d =
    let v := (u.modXspi (fun y => { y with dma := none })).put xspiPage F.XSPI.XSPI_STATE_RESULT (if ok then 0 else 1)
    ((((v.put xspiPage F.XSPI.DMA_DONE k).put xspiPage F.XSPI.XSPI_ADDR (f + k)).stat xspiPage 1).stat64 xspiPage 2 k).intBit
      xspiPage 1 := by
  unfold State.dmaDone
  rw [h]
  dsimp only
  rw [hb]

end Xspi

/-! The test access port (R566) -/

theorem State.jtagExtest_of_open {s : State} (h : s.flag worldsPage F.WORLDS.DBG_CFG_DBG_LOCK = false) (tdi : BitVec 304) :
    s.jtagExtest tdi = (s.scanCapture.1.jtag 0x00 true s.scanCapture.2).modPad
      (fun p => { p with jtag := { p.jtag with cells := tdi } }) := if_neg (Bool.eq_false_iff.mp h)

theorem State.jtagExtest_of_locked {s : State} (h : s.flag worldsPage F.WORLDS.DBG_CFG_DBG_LOCK = true) (tdi : BitVec 304) :
    s.jtagExtest tdi = s.jtag 0x1F false 0 := if_pos h

/-! The sensors (R580) -/

/-- The four temperatures are stored at the tick of the sample. -/
def State.sampled (s : State) (ts : List (BitVec 16)) : State :=
  forL (fun k v => v.put (pg 0x00 1) (F.MODE.TEMP.at k) (ts.getD k 0).toNat) (upto 0 4) (s.waitTo (s.pad.therm.tick + 61440))

/-- The first sensor that reaches the warning threshold. -/
def State.hotSensor (u : State) (ts : List (BitVec 16)) : Option Nat :=
  (upto 0 4).find? (fun k => reaches (ts.getD k 0) (u.get (pg 0x00 1) F.MODE.THERM_CFG_WARN_C))

/-- Every sensor is below the warning threshold by the hysteresis. -/
def State.coolSensors (u : State) (ts : List (BitVec 16)) : Bool :=
  (upto 0 4).all (fun k => decide ((ts.getD k 0).toInt < 8 * ((u.get (pg 0x00 1) F.MODE.THERM_CFG_WARN_C : Int)
    - u.get (pg 0x00 1) F.MODE.THERM_CFG_HYST_C)))

/-- The sensors that reach the trip threshold. -/
def State.tripSensors (u : State) (ts : List (BitVec 16)) : BitVec 4 :=
  BitVec.ofNat 4 (forN (fun k a => a + (b2n (reaches (ts.getD k 0) (u.get (pg 0x00 1) F.MODE.THERM_TRIP)) <<< k)) 4 0)

/-- A sensor at the warning threshold warns while the warning is armed. -/
def State.thermWarned (u : State) (ts : List (BitVec 16)) : State :=
  match u.hotSensor ts with
  | some k => if u.pad.therm.armed then u.hit 3 k else u
  | none => u

/-- The warning is armed, or not, and the sensors at the trip threshold are kept; each that was there in the last sample too
trips. -/
def State.thermTrips (v u : State) (x : ThermSt) (ts : List (BitVec 16)) : State :=
  forL (fun k w => if bit (u.tripSensors ts).toNat k = true ∧ bit x.ovr.toNat k = true then w.hit 4 k else w) (upto 0 4)
    (v.modPad (fun q => { q with
      therm := ⟨v.now, if x.armed then (u.hotSensor ts).isNone else u.coolSensors ts, u.tripSensors ts⟩ }))

theorem State.thermal_of_off {s : State} (h : s.mode = .off ∨ s.mode = .backup) (ts : List (BitVec 16)) : s.thermal ts = s :=
  if_pos h

section Thermal
variable {u : State} {ts : List (BitVec 16)}

theorem State.thermal_of_on {s : State} (h : ¬(s.mode = .off ∨ s.mode = .backup)) (hu : s.sampled ts = u) :
    s.thermal ts = (u.thermWarned ts).thermTrips u u.pad.therm ts := by
  subst hu
  unfold State.thermal
  rw [if_neg h]
  unfold State.thermTrips State.thermWarned State.hotSensor State.coolSensors State.tripSensors State.sampled
  rfl

theorem State.thermWarned_of_quiet (h : u.hotSensor ts = none ∨ u.pad.therm.armed = false) : u.thermWarned ts = u := by
  unfold State.thermWarned
  rcases h with h | h
  · rw [h]
  · rw [h]
    cases u.hotSensor ts with
    | none => rfl
    | some k => exact if_neg Bool.noConfusion

theorem State.thermWarned_of_hot {k : Nat} (h : u.hotSensor ts = some k) (ha : u.pad.therm.armed = true) :
    u.thermWarned ts = u.hit 3 k := by
  unfold State.thermWarned
  rw [h, ha]
  exact if_pos rfl

/-- The sensors' record kept by the warning, the trips are those of the record that the state itself holds. -/
theorem State.thermTrips_of_warned {v : State} (hv : u.thermWarned ts = v) (hkeep : v.pad.therm = u.pad.therm) :
    (u.thermWarned ts).thermTrips u u.pad.therm ts = v.thermTrips u v.pad.therm ts := by rw [hv, hkeep]

end Thermal

end Sys2Proof.Machine
end

section
/-! Settles the statement about the pads, the board controllers, the boot flash, the test access port and the sensors. -/

namespace Sys2Proof.Machine

/-- Settles O60, case by case: the register commands by the effect of a granted access of their register, the events by the
function that they run. -/
theorem padsAndBoard : Obligations.PadsAndBoard := by
  unfold Obligations.PadsAndBoard
  refine ⟨?wake, ?gpio, ?xfer, ?txdata, ?pops, ?idle, ?running, ?ibi, ?noIbi, ?xspi, ?rxdata, ?flashEnds, ?jtag, ?scan,
    ?thermOff, ?therm⟩
  case wake =>
    intro s g b u
    refine ⟨fun h => congrArg Host.Outcome.next (State.wakeEdge_of_absent h b), fun h hf hp => ?_, fun h hno => ?_⟩
    · exact congrArg Host.Outcome.next ((State.wakeEdge_of_present h b).trans (if_pos ⟨hf, propext hp⟩))
    · refine congrArg Host.Outcome.next ((State.wakeEdge_of_present h b).trans (if_neg ?_))
      rintro ⟨hf, hp⟩
      exact hno.elim (fun hn => hn hf) (fun hn => hn (iff_of_eq hp))
  case gpio =>
    intro s r v out w
    exact ⟨fun h => congrArg Host.Outcome.next (h.gpioSet v), fun h => congrArg Host.Outcome.next (h.gpioClr v)⟩
  case xfer =>
    intro s r n v h hn w x i3c bad
    have hwrite := h.bcXfer hn v
    refine ⟨fun hg => ?_, fun hg hbad => ?_, fun hg hok => ?_⟩
    · exact congrArg Host.Outcome.next (hwrite.trans (State.bcXfer_of_no_go hg s r n.val))
    · exact congrArg Host.Outcome.next (hwrite.trans ((State.bcXfer_of_go hg s r n.val).trans (if_pos hbad)))
    · exact congrArg Host.Outcome.next (hwrite.trans ((State.bcXfer_of_go hg s r n.val).trans (if_neg hok)))
  case txdata =>
    intro s r n v h hn x
    have hwrite := h.bcTxdata hn v
    exact ⟨fun hroom => congrArg Host.Outcome.next (hwrite.trans (if_neg (Nat.not_le.mpr hroom))),
      fun hfull => congrArg Host.Outcome.next (hwrite.trans (if_pos hfull))⟩
  case pops =>
    intro s r i n hn x a b
    refine ⟨fun h => ⟨fun d l hx => ?_, fun hx => ?_⟩, fun h => ⟨fun k m l hx => ?_, fun hx => ?_⟩⟩
    · exact congrArg Host.Outcome.next ((h.bcRxdata hn).trans (congrArg (State.answer r a) (State.bcPop_of_cons hx)))
    · exact congrArg Host.Outcome.next ((h.bcRxdata hn).trans (congrArg (State.answer r a) (State.bcPop_of_nil hx)))
    · exact congrArg Host.Outcome.next ((h.bcIbiPop hn).trans (congrArg (State.answer r b) (State.ibiPop_of_cons hx)))
    · exact congrArg Host.Outcome.next ((h.bcIbiPop hn).trans (congrArg (State.answer r b) (State.ibiPop_of_nil hx)))
  case idle =>
    intro s n h
    exact ⟨fun ts => congrArg Host.Outcome.next (State.entdaa_of_idle h ts),
      fun res d => congrArg Host.Outcome.next (State.bcDone_of_idle h res.val d),
      congrArg Host.Outcome.next (State.bcStretch_of_idle h)⟩
  case running =>
    intro s n v h w x
    refine ⟨fun hd => ⟨?_, fun id bcr dcr ts => ⟨fun hfull => ?_, fun hroom => ?_⟩⟩, fun hd ts => ?_, fun res d => ?_, ?_⟩
    · exact congrArg Host.Outcome.next (State.entdaa_of_daa h hd [])
    · exact congrArg Host.Outcome.next ((State.entdaa_of_daa h hd _).trans (State.bcAssign_of_full hfull))
    · exact congrArg Host.Outcome.next ((State.entdaa_of_daa h hd _).trans (State.bcAssign_of_room hroom))
    · exact congrArg Host.Outcome.next (State.entdaa_of_other h hd ts)
    · exact congrArg Host.Outcome.next (State.bcDone_of_xfer h res.val d)
    · exact congrArg Host.Outcome.next (State.bcStretch_of_xfer h)
  case ibi =>
    intro s n addr mdb hon hp he x
    refine ⟨fun a has hk hroom => ?_, fun a has hk hfull => ?_, fun hk => ?_⟩
    · exact congrArg Host.Outcome.next ((State.bcIbi_of_known hon hp he hk).trans (if_neg (Nat.not_le.mpr hroom)))
    · exact congrArg Host.Outcome.next ((State.bcIbi_of_known hon hp he hk).trans (if_pos hfull))
    · exact congrArg Host.Outcome.next (State.bcIbi_of_stranger hon hp he hk)
  case noIbi =>
    intro s n addr mdb h
    exact congrArg Host.Outcome.next (State.bcIbi_of_off h)
  case xspi =>
    intro s r v x
    refine ⟨fun h hv he => ?_, fun h => ?_, ?_⟩
    · have hgo := (h.xspiCmd v).trans (State.xspiCmd_of_go hv he)
      exact ⟨fun hb hl => congrArg Host.Outcome.next (hgo.trans (if_neg (xspiGo_of_free hb (Nat.not_lt.mpr hl)))),
        fun hbad => congrArg Host.Outcome.next (hgo.trans (if_pos hbad))⟩
    · exact ⟨fun hroom => congrArg Host.Outcome.next ((h.xspiTxdata v).trans (if_neg (Nat.not_lt.mpr hroom))),
        fun hfull => congrArg Host.Outcome.next ((h.xspiTxdata v).trans (if_pos hfull))⟩
    · intro h hv he n a
      have hgo := (h.dmaCmd v).trans (State.dmaCmd_of_go hv he)
      refine ⟨fun hb hn hn64 ha => congrArg Host.Outcome.next (hgo.trans (if_neg (xspiGo_of_free hb ?_))),
        fun hbad => congrArg Host.Outcome.next (hgo.trans (if_pos hbad))⟩
      rintro (h0 | h64 | ha64)
      · exact hn h0
      · exact h64 hn64
      · exact ha64 ha
  case rxdata =>
    intro s r i h
    exact congrArg Host.Outcome.next h.xspiRxdata
  case flashEnds =>
    intro s d
    exact ⟨fun h => congrArg Host.Outcome.next (State.xspiDone_of_idle h d),
      fun h => congrArg Host.Outcome.next (State.dmaDone_of_idle h d),
      fun v h => congrArg Host.Outcome.next (State.xspiDone_of_cmd h d),
      fun f a n pool u k ok h hb => congrArg Host.Outcome.next (State.dmaDone_of_dma h hb)⟩
  case jtag =>
    intro s
    exact ⟨rfl, rfl, rfl, fun ir b out => ⟨rfl, rfl, rfl, rfl⟩⟩
  case scan =>
    intro s tdi c
    exact ⟨rfl, fun h => congrArg Host.Outcome.next (State.jtagExtest_of_open h tdi),
      fun h => congrArg Host.Outcome.next (State.jtagExtest_of_locked h tdi)⟩
  case thermOff =>
    intro s t0 t1 t2 t3 h
    exact congrArg Host.Outcome.next (State.thermal_of_off h _)
  case therm =>
    intro s t0 t1 t2 t3 hoff hbackup p ts t u warn trip o hot cool trips
    have hthermal := State.thermal_of_on (not_or.mpr ⟨hoff, hbackup⟩) (rfl : s.sampled ts = u)
    refine ⟨fun h => ?_, fun k hk ha hkeep => ?_⟩
    · exact congrArg Host.Outcome.next (hthermal.trans (State.thermTrips_of_warned (State.thermWarned_of_quiet h) rfl))
    · exact congrArg Host.Outcome.next (hthermal.trans (State.thermTrips_of_warned (State.thermWarned_of_hot hk ha) hkeep))

end Sys2Proof.Machine
end
